-- ==== Sys2Proof/Word.lean ====
section
/-! DEFINITION. The word types of the engine: bytes and the widths its registers and fields have (spec R4). -/

namespace Sys2Proof

/-- One byte. -/
abbrev Byte := BitVec 8
/-- A 16-bit word. -/
abbrev U16 := BitVec 16
/-- A 32-bit word, and the bits of one FP32 element (R27). -/
abbrev U32 := BitVec 32
/-- A 64-bit word. -/
abbrev U64 := BitVec 64
/-- A byte string, byte 0 at the lowest address (R4). -/
abbrev Bytes := List Byte
/-- The bits of an FP32 element (R27). -/
abbrev F32 := BitVec 32

end Sys2Proof
end

