-- ==== Sys2Proof/Syntax.lean ====
section
/-! DEFINITION. The commands of the engine: the operations that a timetable or the host asks of it and the events that
reach it from its ports and its clocks, one constructor for each row of opcode_table.json. The rows give no bit fields;
the operands are those that the rules name. -/

namespace Sys2Proof

/-- The two transports of the object dictionary (chapter 15). -/
inductive Transport where
  /-- The Control Port. -/
  | cp
  /-- The CAN FD field-network port. -/
  | can
deriving DecidableEq, Repr

/-- A selector of LIST_READ: index, subindex and the bits the layout requires to be zero (Tables 15.5 and 15.10). -/
structure Selector where
  idx : Nat
  sub : Nat
  low : Nat := 0
deriving DecidableEq, Repr

/-- The fields of a SEND or RECEIVE command (Table 7.8). -/
structure Xfer where
  /-- PORT, 0 to 47 link, 48 to 63 tile port. -/
  port : Nat
  /-- SOURCE, Table 7.9. -/
  source : Nat
  layer : Nat
  tile : Nat
  piece : Nat
  dst : Nat
  seq : Nat
  queue : Nat
  len : Nat
  src : Nat
  /-- SIGNATURE, Table 5.4. -/
  sig : Nat
deriving DecidableEq, Repr, Inhabited

/-- What a REGISTER_WRITE addresses: a location of the Control Port window (Table 15.5), or a dictionary entry reached
through a transport. -/
inductive Location where
  /-- CP_ARG. -/
  | cpArg
  /-- CP_LIST selector `j`. -/
  | cpList (j : Nat)
  /-- Eight bytes of CP_WBUF at offset `o`. -/
  | cpWbuf (o : Nat)
  /-- Any other offset of the window. -/
  | cpOther (o : Nat)
  /-- A scalar entry. -/
  | entry (tr : Transport) (tid idx sub : Nat)
  /-- The request identifier of the field network, with a frame's payload that no operation's own row spells: an undefined OP, or
  fewer than 16 bytes (R387). It takes no value. DESIGN CHOICE (log entry 83). -/
  | canFrame (payload : Bytes)
deriving DecidableEq, Repr

/-- One command or event of the engine: a row of opcode_table.json each, with its operands. -/
inductive Instr where
  /-- TILE_WINDOW_FORWARD (R16). -/
  | tileWindowForward (ctx layer tile index port : Nat)
  /-- TILE_WINDOW_REINGEST (R141). -/
  | tileWindowReingest (ctx layer tile index port : Nat)
  /-- TILE_WINDOW_REFETCH (R148). -/
  | tileWindowRefetch (ctx layer tile index port : Nat)
  /-- TILE_WINDOW_BEGIN (R208). -/
  | tileWindowBegin (unit : Nat)
  /-- SEND (R110). -/
  | send (ctx : Nat) (x : Xfer)
  /-- TILE_SEND (R119). -/
  | tileSend (ctx port layer tile src first count dir seq : Nat)
  /-- RECEIVE (R184). -/
  | receive (ctx : Nat) (x : Xfer)
  /-- COMBINE_FORWARD (R123). -/
  | combineForward (ctx layer tile index nFrame nSlot : Nat)
  /-- COMBINE_INPUT_GRADIENT (R150). -/
  | combineInputGradient (ctx layer tile index nFrame nSlot : Nat)
  /-- COMBINE_REFETCH_RETURN (R149). -/
  | combineRefetchReturn (ctx layer tile index nFrame nSlot : Nat)
  /-- ROUTE_LOG_LOAD (R123). -/
  | routeLogLoad (ctx layer tile work corrupt : Nat)
  /-- COMBINE_RECORD (R127). -/
  | combineRecord (ctx layer tile work entry : Nat)
  /-- COMBINE_CLOSE_POINT (R131). -/
  | combineClosePoint (ctx layer tile work : Nat)
  /-- GRADIENT_B2 (R142). -/
  | gradientB2 (ctx layer tile index corrupt : Nat)
  /-- GRADIENT_B4 (R153). -/
  | gradientB4 (ctx layer tile index : Nat)
  /-- GRADIENT_B5 (R155). -/
  | gradientB5 (ctx layer tile index : Nat)
  /-- GRADIENT_B6 (R158). -/
  | gradientB6 (ctx layer tile index : Nat)
  /-- GRADIENT_B7_RESIDENCY (R162). -/
  | gradientB7Residency (ctx layer tile index : Nat)
  /-- RESIDENCY_RETRY (R162). -/
  | residencyRetry (ctx layer : Nat)
  /-- RESIDENCY_DEADLINE (R163). -/
  | residencyDeadline (ctx layer : Nat)
  /-- DELIVERY_FORM (R159). -/
  | deliveryForm (ctx layer : Nat)
  /-- COLLECTIVE (R310). -/
  | collective (ctx group seq src dst fmt cap queue : Nat) (signal : Bool) (kind layer : Nat)
  /-- COLLECTIVE_BEGIN (R321). -/
  | collectiveBegin (ctx group seq : Nat)
  /-- COLLECTIVE_UP_VALUE (R315). -/
  | collectiveUpValue (ctx group seq piece : Nat)
  /-- COLLECTIVE_RESULT_WRITE (R316). -/
  | collectiveResultWrite (ctx group seq piece : Nat)
  /-- COLLECTIVE_TIMEOUT (R326). -/
  | collectiveTimeout (ctx group seq : Nat)
  /-- DIGEST_POST (R224). -/
  | digestPost (ctx checker check replica last : Nat)
  /-- SNAPSHOT (R431). -/
  | snapshot (ctx id : Nat)
  /-- BANK_SWAP_PLACEMENT (R96). -/
  | bankSwapPlacement (ctx : Nat)
  /-- BANK_SWAP_PROGRAM (R299). -/
  | bankSwapProgram (ctx : Nat)
  /-- PLAN_SWITCH (R206). -/
  | planSwitch (flid : Nat)
  /-- SLIP (R202). -/
  | slip
  /-- STEP_END (R171). -/
  | stepEnd (ctx : Nat)
  /-- FIRST_STEP_BEGIN (R171). -/
  | firstStepBegin (ctx : Nat)
  /-- INGRESS_SEGMENT (R457). -/
  | ingressSegment (port : Nat) (hdr : BitVec 512) (payload : Bytes)
  /-- SCORE_TILE_DONE (R52). -/
  | scoreTileDone (ctx layer tile : Nat)
  /-- SELECT_TILE (R61). -/
  | selectTile (ctx layer tile : Nat)
  /-- CARD_TILE (R77). -/
  | cardTile (ctx layer tile work : Nat)
  /-- POOL_ALLOC_GRANT (R243). -/
  | poolAllocGrant (cls : Nat)
  /-- POOL_FREE (R247). -/
  | poolFree (ctx addr : Nat)
  /-- POOL_RING_REFILL_DONE (R242). -/
  | poolRingRefillDone (cls : Nat)
  /-- LINK_SLOT_START (R191). -/
  | linkSlotStart
  /-- CHUNK_ARRIVAL (R114). -/
  | chunkArrival (port : Nat) (hdr : BitVec 512) (payload : Bytes)
  /-- TRAILER_ARRIVAL (R111). -/
  | trailerArrival (port : Nat) (trailer : BitVec 512)
  /-- RELEASE_DEADLINE (R116). -/
  | releaseDeadline (port seq src dst : Nat)
  /-- RESEND_QUEUE_SEND (R116). -/
  | resendQueueSend (port : Nat)
  /-- OUTPUT_LATE (R188). -/
  | outputLate (ctx kind layer tile : Nat)
  /-- FRAME_BOUNDARY (R169). -/
  | frameBoundary
  /-- FRAME_PROGRAM_FETCH (R185). -/
  | frameProgramFetch (ctx : Nat)
  /-- FRAME_PROGRAM_FETCHED (R185). -/
  | frameProgramFetched (ctx corrupt : Nat)
  /-- TIMING_WORD_RECEIVED (R192): the word with LK_TM_RX_PH (R453) in bits 257:256. -/
  | timingWordReceived (port : Nat) (word : BitVec 258)
  /-- TIMING_WORD_SILENCE (R204). -/
  | timingWordSilence (port : Nat)
  /-- LK_UP_FALL (R452). -/
  | lkUpFall (port : Nat)
  /-- LK_UP_RISE (R452). -/
  | lkUpRise (port : Nat)
  /-- TICK_IN_EDGE (R196). -/
  | tickInEdge
  /-- ABORT_BOUNDARY (R419). -/
  | abortBoundary (ctx : Nat)
  /-- REPLAY_BEGIN (R421). -/
  | replayBegin (ctx : Nat)
  /-- CHUNK_RELEASE_TIMEOUT (R416). -/
  | chunkReleaseTimeout (ctx seq src dst : Nat)
  /-- EXPECTATION_TIMEOUT (R416). -/
  | expectationTimeout (ctx seq src dst : Nat)
  /-- SLOT_GUARD_EXPIRY (R416). -/
  | slotGuardExpiry (port : Nat)
  /-- TILE_WATCHDOG_EXPIRY (R416). -/
  | tileWatchdogExpiry (ctx layer tile work : Nat)
  /-- STEP_SLACK_EXPIRY (R416). -/
  | stepSlackExpiry (ctx step : Nat)
  /-- TILE_ORIGIN_CHUNK (R456). -/
  | tileOriginChunk (port : Nat) (hdr : BitVec 512) (payload : Bytes)
  /-- CONTROL_FLIT_RECEIVED (R458). -/
  | controlFlitReceived (port : Nat) (flit : Bytes)
  /-- TP_UP_CHANGE (R455). -/
  | tpUpChange (port : Nat) (up : Bool)
  /-- FEP_MESSAGE_RECEIVED (R337). -/
  | fepMessageReceived (port : Nat) (hdr : BitVec 512) (payload : Bytes)
  /-- FEP_MESSAGE_SEND (R338). -/
  | fepMessageSend (port : Nat)
  /-- FEP_APPLY (R343). -/
  | fepApply
  /-- FEP_WRITE_COMPLETE (R344). -/
  | fepWriteComplete (src seq : Nat)
  /-- FEP_REPLY_RECEIVED (R352). -/
  | fepReplyReceived (tag : Nat)
  /-- FEP_RETRY (R346). -/
  | fepRetry (tag : Nat)
  /-- FEP_TIMEOUT (R346). -/
  | fepTimeout (tag : Nat)
  /-- REPLAY_TABLE_EXPIRY (R345). -/
  | replayTableExpiry (src seq : Nat)
  /-- POST_SET_CHECK (R226). -/
  | postSetCheck (ctx check step : Nat)
  /-- POST_SET_TIMEOUT (R226). -/
  | postSetTimeout (ctx check step : Nat)
  /-- TILE_DIGEST_CLOSE (R219). -/
  | tileDigestClose (ctx layer kind tile : Nat)
  /-- STEP_DIGEST_CLOSE (R220). -/
  | stepDigestClose (ctx step : Nat)
  /-- POOL_INITIALISE (R238). -/
  | poolInitialise (tr : Transport)
  /-- POOL_INIT_DONE (R239). -/
  | poolInitDone
  /-- POOL_SET_LOW (R237). -/
  | poolSetLow (tr : Transport)
  /-- POOL_ALLOC_REQ (R246). -/
  | poolAllocReq (tr : Transport) (value : U64)
  /-- POOL_FREE_REQ (R247). -/
  | poolFreeReq (tr : Transport) (value : U64)
  /-- PACKET_OFFER (R254). -/
  | packetOffer (queue producer ctx : Nat) (words : List Bytes)
  /-- PACKET_COMMIT (R255). -/
  | packetCommit (queue : Nat)
  /-- PACKET_ABORT (R255). -/
  | packetAbort (queue : Nat)
  /-- GAP_MARKER_COMMIT (R260). -/
  | gapMarkerCommit (queue : Nat)
  /-- PQ_READ (R258). -/
  | pqRead (tr : Transport)
  /-- PQ_MARK (R257). -/
  | pqMark (tr : Transport)
  /-- PQ_REWIND (R257). -/
  | pqRewind (tr : Transport)
  /-- PQ_RELEASE (R257). -/
  | pqRelease (tr : Transport)
  /-- PQ_DESC_WRITE (R252). -/
  | pqDescWrite (tr : Transport) (offset : Nat) (data : Bytes)
  /-- PRESS_DESC_WRITE (R271). -/
  | pressDescWrite (tr : Transport) (offset : Nat) (data : Bytes)
  /-- PRESS_COPY_TABLE_WRITE (R279). -/
  | pressCopyTableWrite (tr : Transport) (offset : Nat) (data : Bytes)
  /-- PRESS_COPY_START (R282). -/
  | pressCopyStart (tr : Transport) (value : U64)
  /-- COPY_BEGIN (R281). -/
  | copyBegin
  /-- COPY_COMPLETE (R283). -/
  | copyComplete
  /-- SFU_BANK_WRITE (R297). -/
  | sfuBankWrite (tr : Transport) (bank offset : Nat) (data : Bytes)
  /-- SFU_CHECK_START (R298). -/
  | sfuCheckStart (tr : Transport)
  /-- SFU_CHECK_DONE (R298). -/
  | sfuCheckDone
  /-- SFU_JOB_TABLE_WRITE (R300). -/
  | sfuJobTableWrite (tr : Transport) (offset : Nat) (data : Bytes)
  /-- SFU_JOB_START (R301). -/
  | sfuJobStart (tr : Transport) (value : U64)
  /-- JOB_BEGIN (R301). -/
  | jobBegin
  /-- JOB_COMPLETE (R302). -/
  | jobComplete
  /-- PT_BANK_WRITE (R93). -/
  | ptBankWrite (tr : Transport) (bank offset : Nat) (data : Bytes)
  /-- PT_CHECK_START (R94). -/
  | ptCheckStart (tr : Transport)
  /-- PT_CHECK_DONE (R94). -/
  | ptCheckDone
  /-- CLE_GROUPS_WRITE (R309). -/
  | cleGroupsWrite (tr : Transport) (offset : Nat) (data : Bytes)
  /-- FAB_SHAPE_WRITE (R306). -/
  | fabShapeWrite (tr : Transport) (value : U64)
  /-- FEP_WINDOWS_WRITE (R334). -/
  | fepWindowsWrite (tr : Transport) (offset : Nat) (data : Bytes)
  /-- FEP_ROUTE_WRITE (R340). -/
  | fepRouteWrite (tr : Transport) (offset : Nat) (data : Bytes)
  /-- FEP_REQ_TABLE_WRITE (R350). -/
  | fepReqTableWrite (tr : Transport) (offset : Nat) (data : Bytes)
  /-- FEP_START (R351). -/
  | fepStart (tr : Transport) (value : U64)
  /-- FEP_INVAL (R354). -/
  | fepInval (tr : Transport) (value : U64)
  /-- CVU_SCAN_REQ (R361). -/
  | cvuScanReq (tr : Transport) (data : Bytes)
  /-- SCAN_BEGIN (R362). -/
  | scanBegin
  /-- SCAN_COMPLETE (R364). -/
  | scanComplete
  /-- CVU_INJECT (R366). -/
  | cvuInject (tr : Transport) (value : U64)
  /-- READ_SCALAR (R374). -/
  | readScalar (tr : Transport) (rsv tid idx sub : Nat)
  /-- WRITE_SCALAR (R374). -/
  | writeScalar (tr : Transport) (rsv tid idx sub : Nat) (value : U64)
  /-- CAPTURE (R374). -/
  | capture (tr : Transport) (rsv tid idx sub offset length : Nat)
  /-- COMMIT (R374). -/
  | commit (tr : Transport) (rsv tid idx sub offset length : Nat)
  /-- LIST_READ (R374). -/
  | listRead (tr : Transport) (rsv tid count : Nat) (sels : List Selector)
  /-- DESCRIBE (R374). -/
  | describe (tr : Transport) (rsv tid idx sub : Nat)
  /-- RBUF_READ (R387). -/
  | rbufRead (rsv tid offset length : Nat)
  /-- WBUF_WRITE (R387). -/
  | wbufWrite (rsv tid offset length : Nat) (data : Bytes)
  /-- CP_RESP_READ (R383): a read access of the window at the offset that CP_ADDR holds; a read of an offset other than CP_RESP's has no
  row of its own (R382, DESIGN CHOICE, log entry 83). -/
  | cpRespRead
  /-- REGISTER_WRITE (R370). -/
  | registerWrite (target : Location) (value : U64)
  /-- TT_LOAD (R190). -/
  | ttLoad (tr : Transport) (ctx : Nat)
  /-- TT_LOAD_DONE (R190). -/
  | ttLoadDone (ctx : Nat)
  /-- TT_START (R190). -/
  | ttStart (tr : Transport) (ctx : Nat)
  /-- TT_STOP (R190). -/
  | ttStop (tr : Transport) (ctx : Nat)
  /-- TT_UNLOAD (R190). -/
  | ttUnload (tr : Transport) (ctx : Nat)
  /-- TT_IMAGE_ADDR_WRITE (R190). -/
  | ttImageAddrWrite (tr : Transport) (ctx : Nat) (value : U64)
  /-- UNLOAD_PATH_DONE (R250). -/
  | unloadPathDone (ctx : Nat)
  /-- TB_START (R408). -/
  | tbStart (tr : Transport)
  /-- COLD_RESET_ASSERT (R400). -/
  | coldResetAssert
  /-- COLD_RESET_RELEASE (R400). -/
  | coldResetRelease
  /-- INTERNAL_INIT_DONE (R401). -/
  | internalInitDone
  /-- WARM_RESET_INPUT (R403). -/
  | warmResetInput
  /-- RST_CONTROL_WARM (R403). -/
  | rstControlWarm (tr : Transport)
  /-- WARM_RESET_DONE (R404). -/
  | warmResetDone
  /-- RST_IDLE_SWAP_PLACEMENT (R409). -/
  | rstIdleSwapPlacement (tr : Transport)
  /-- RST_IDLE_SWAP_PROGRAM (R409). -/
  | rstIdleSwapProgram (tr : Transport)
  /-- THROTTLE_CHANGE (R396). -/
  | throttleChange (level : Nat)
  /-- NUM_NONFINITE_CLEAR (R47). -/
  | numNonfiniteClear (tr : Transport)
  /-- SEL_COUNT_CLEAR (R69). -/
  | selCountClear (tr : Transport) (value : U64)
  /-- CRD_COUNT_CLEAR (R100). -/
  | crdCountClear (tr : Transport) (value : U64)
  /-- EXC_COUNT_CLEAR (R135). -/
  | excCountClear (tr : Transport) (value : U64)
  /-- BWD_COUNT_CLEAR (R167). -/
  | bwdCountClear (tr : Transport) (value : U64)
  /-- TT_COUNT_CLEAR (R209). -/
  | ttCountClear (tr : Transport) (value : U64)
  /-- POOL_PQ_COUNT_CLEAR (R266). -/
  | poolPqCountClear (tr : Transport) (value : U64)
  /-- PRESS_COUNT_CLEAR (R285). -/
  | pressCountClear (tr : Transport) (value : U64)
  /-- SFU_COUNT_CLEAR (R304). -/
  | sfuCountClear (tr : Transport) (value : U64)
  /-- CLE_COUNT_CLEAR (R331). -/
  | cleCountClear (tr : Transport) (value : U64)
  /-- FEP_COUNT_CLEAR (R356). -/
  | fepCountClear (tr : Transport) (value : U64)
  /-- CVU_COUNT_CLEAR (R367). -/
  | cvuCountClear (tr : Transport) (value : U64)
  /-- OBS_COUNT_CLEAR (R430). -/
  | obsCountClear (tr : Transport)
  /-- FLT_LOG_CLEAR (R429). -/
  | fltLogClear (tr : Transport)
  /-- RPL_START (R232). -/
  | rplStart (tr : Transport)
  /-- RPL_STOP (R232). -/
  | rplStop (tr : Transport)
  /-- SNAP_CONTROL (R431). -/
  | snapControl (tr : Transport)
  /-- SNAP_IN_EDGE (R431). -/
  | snapInEdge
  /-- SNAPSHOT_IMAGE_DONE (R432). -/
  | snapshotImageDone
  /-- TRACE_START (R436). -/
  | traceStart (tr : Transport)
  /-- TRACE_STOP (R436). -/
  | traceStop (tr : Transport)
  /-- TRACE_ARM_START (R436). -/
  | traceArmStart (tr : Transport)
  /-- TRACE_ARM_STOP (R436). -/
  | traceArmStop (tr : Transport)
  /-- HEARTBEAT (R389). -/
  | heartbeat
  /-- INTERRUPT_EVENT_FRAME (R389). -/
  | interruptEventFrame
  /-- CAN_BUS_OFF_RECOVERY (R390). -/
  | canBusOffRecovery
  /-- METER_RESTORE (R442). -/
  | meterRestore
  /-- TAP_WORD (R437). -/
  | tapWord
  /-- POWER_WORD (R440). -/
  | powerWord (energy : U32)
  /-- POWER_TIMEOUT (R440). -/
  | powerTimeout
  /-- METER_PERSIST (R443). -/
  | meterPersist
  /-- NV_DONE (R443). -/
  | nvDone
  /-- PERSIST_ACK_TIMEOUT (R443). -/
  | persistAckTimeout
  /-- TRANSACTION_COMPLETE (R384). -/
  | transactionComplete (tr : Transport)
  /-- CAN_BUS_ERROR (R390). -/
  | canBusError (transmit : Bool) (count : Nat)
  /-- POWER_REMOVED (R410). -/
  | powerRemoved
  /-- ROOT_CLOCK_STOP (R395). -/
  | rootClockStop
deriving DecidableEq, Repr

end Sys2Proof
end

