-- ==== Sys2Proof/Decode.lean ====
section
/-! DEFINITION. The command that a word spells: none, as no row of the command table gives bits. -/

namespace Sys2Proof

/-- The command spelled by the `nbits` bits of `w`, by the bit fields of the command table. The table gives bits for no
row (its commands are operations and events with operands), so no word spells a command. -/
def decodeTableWord (_nbits _w : Nat) : Option Instr := none

end Sys2Proof
end

