-- ==== Sys2Proof/Config.lean ====
section
/-! DEFINITION. What the spec leaves free (opaque: no value of it can be proved) and what a build fixes. -/

namespace Sys2Proof

/-- The value of a Staging Store byte that nothing has written since cold reset (R402): free, per read and offset. -/
opaque Config.stgUnwritten : Nat → Nat → Byte
/-- The value of a host-memory byte that nothing of the model has placed (the surroundings', R1): free, per read and address. -/
opaque Config.hostUnwritten : Nat → Nat → Byte
/-- The value of a queue-store byte that nothing has written since cold reset (R402). -/
opaque Config.queueUnwritten : Nat → Nat → Byte
/-- What a read of the write-only location of the Control Port window returns (R382), and a byte of a request frame that did not come
(R387): the spec gives no value. -/
opaque Config.openRead : Nat → Nat → Byte
/-- CORE cycles in which the unit of a clock domain worked during one step (R430, R439): the spec gives bounds, no values. -/
opaque Config.busyCycles : Nat → Nat → Nat
/-- How much of an aborted copy, job or scan had been done when it stopped after its line in flight (R283, R302, R365). -/
opaque Config.partialWork : Nat → Nat → Nat
/-- The values of an own-node return chunk's header that no command plans, as CRC-32C folds them (R218): the spec names
none. Given by layer, tile, stream and piece. -/
opaque Config.ownChunk : Nat → Nat

end Sys2Proof
end

