-- ==== Sys2Proof/Machine/Bits.lean ====
section
/-! DEFINITION. Bit fields, little-endian byte strings (R4, R28), and the sorted sparse stores that memories and the
dictionary are held in. -/

namespace Sys2Proof.Machine

/-- Bits `[lo + w - 1 : lo]` of `v` as a number. -/
def bits (v lo w : Nat) : Nat := (v >>> lo) % 2 ^ w

/-- Bit `i` of `v`. -/
def bit (v i : Nat) : Bool := (v >>> i) % 2 == 1

/-- `v` with bit `i` set. -/
def setBit (v i : Nat) : Nat := v ||| (1 <<< i)

/-- `v` with bit `i` clear. -/
def clearBit (v i : Nat) : Nat := if bit v i then v - 2 ^ i else v

/-- `n` bytes of `v`, little-endian (R4). -/
def le : Nat → Nat → Bytes
  | 0, _ => []
  | n + 1, v => BitVec.ofNat 8 v :: le n (v / 256)

/-- The number a little-endian byte string holds (R4). -/
def unle : Bytes → Nat
  | [] => 0
  | b :: bs => b.toNat + 256 * unle bs

/-- `n` zero bytes. -/
def zeros (n : Nat) : Bytes := List.replicate n 0

/-- Bytes `o` to `o + n - 1` of a string, zero where it ends early. -/
def sub (bs : Bytes) (o n : Nat) : Bytes :=
  let t := (bs.drop o).take n
  t ++ zeros (n - t.length)

/-- The `n`-byte little-endian number at offset `o` of a string (R4). -/
def u (bs : Bytes) (o n : Nat) : Nat := unle ((bs.drop o).take n)

/-- Division that rounds up. -/
def ceilDiv (a b : Nat) : Nat := (a + b - 1) / b

/-- The least multiple of `b` not below `a`. -/
def alignUp (a b : Nat) : Nat := ceilDiv a b * b

/-- Whether every byte of a string is zero. -/
def allZero (bs : Bytes) : Bool := bs.all (· == 0)

/-- A value held at `hi` at most (a saturating count). -/
def satAdd (hi a b : Nat) : Nat := min hi (a + b)

/-- The number a two's-complement field of `w` bits holds. -/
def sint (w v : Nat) : Int := if v < 2 ^ (w - 1) then (v : Int) else (v : Int) - (2 ^ w : Nat)

/-- A signed number as a two's-complement field of `w` bits. -/
def unsint (w : Nat) (i : Int) : Nat := (i % (2 ^ w : Nat)).toNat

/-! ### Sorted sparse stores -/

/-- The value a sparse store lists at a key. -/
def Sparse.get? {α : Type} : List (Nat × α) → Nat → Option α
  | [], _ => none
  | (k, v) :: r, i => if k = i then some v else Sparse.get? r i

/-- The store with `v` listed at key `i`; keys stay strictly rising. -/
def Sparse.put {α : Type} : List (Nat × α) → Nat → α → List (Nat × α)
  | [], i, v => [(i, v)]
  | (k, w) :: r, i, v =>
    if i < k then (i, v) :: (k, w) :: r
    else if i = k then (i, v) :: r
    else (k, w) :: Sparse.put r i v

/-- The store with nothing listed at key `i`. -/
def Sparse.del {α : Type} : List (Nat × α) → Nat → List (Nat × α)
  | [], _ => []
  | (k, w) :: r, i => if k = i then Sparse.del r i else (k, w) :: Sparse.del r i

/-- A write into a store whose unlisted keys read as `d` says: writing that value removes the entry, so equal stores
are equal lists. -/
def Sparse.set {α : Type} [DecidableEq α] (d : Nat → α) (m : List (Nat × α)) (i : Nat) (v : α) : List (Nat × α) :=
  if v = d i then Sparse.del m i else Sparse.put m i v

/-- What a store reads as at a key. -/
def Sparse.read {α : Type} (d : Nat → α) (m : List (Nat × α)) (i : Nat) : α := (Sparse.get? m i).getD (d i)

/-- Keys strictly rising, all above `lo`. -/
def Sparse.risingFrom {α : Type} : Option Nat → List (Nat × α) → Bool
  | _, [] => true
  | lo, (k, _) :: r => (match lo with | none => true | some l => decide (l < k)) && Sparse.risingFrom (some k) r

/-- The canonical form of a store with no default: keys strictly rising. -/
def Sparse.rising {α : Type} (m : List (Nat × α)) : Bool := Sparse.risingFrom none m

/-- The canonical form of a store with defaults: keys strictly rising and no entry equal to its default. -/
def Sparse.canonical {α : Type} [DecidableEq α] (d : Nat → α) (m : List (Nat × α)) : Bool :=
  Sparse.rising m && m.all (fun e => decide (e.2 ≠ d e.1))

/-- The store with keys `a` to `a + n - 1` removed and `cells`, listed in rising order from `a`, in their place. -/
def Sparse.splice {α : Type} (m : List (Nat × α)) (a n : Nat) (cells : List (Nat × α)) : List (Nat × α) :=
  m.filter (fun e => decide (e.1 < a)) ++ cells ++ m.filter (fun e => decide (a + n ≤ e.1))

/-- `vs` listed at consecutive keys from `a`. -/
def Sparse.listed {α : Type} (a : Nat) : List α → List (Nat × α)
  | [] => []
  | v :: r => (a, v) :: Sparse.listed (a + 1) r

/-- A write of the bytes `bs` from address `a` on, into a memory whose unlisted bytes have no value. -/
def Mem.write (m : List (Nat × Byte)) (a : Nat) (bs : Bytes) : List (Nat × Byte) :=
  Sparse.splice m a bs.length (Sparse.listed a bs)

/-- The `n` bytes from address `a` on; `f` gives the value of a byte that is not listed. -/
def Mem.read (f : Nat → Byte) : List (Nat × Byte) → Nat → Nat → Bytes
  | _, _, 0 => []
  | m, a, n + 1 =>
    match m.dropWhile (fun e => decide (e.1 < a)) with
    | (k, b) :: r => if k = a then b :: Mem.read f r (a + 1) n else f a :: Mem.read f ((k, b) :: r) (a + 1) n
    | [] => f a :: Mem.read f [] (a + 1) n

/-- A write of the bytes `bs` from key `a` on, into a store of bytes with defaults; it keeps the canonical form. -/
def Mem.writeDflt (d : Nat → Byte) (m : List (Nat × Byte)) (a : Nat) (bs : Bytes) : List (Nat × Byte) :=
  Sparse.splice m a bs.length ((Sparse.listed a bs).filter (fun e => decide (e.2 ≠ d e.1)))

/-- Insertion into a list sorted by `lt`, after its equals. -/
def insertBy {α : Type} (lt : α → α → Bool) (x : α) : List α → List α
  | [] => [x]
  | y :: r => if lt x y then x :: y :: r else y :: insertBy lt x r

/-- A stable sort. -/
def sortBy {α : Type} (lt : α → α → Bool) (l : List α) : List α := l.foldl (fun acc x => insertBy lt x acc) []

/-- Lexicographic order of number lists. -/
def lexLt : List Nat → List Nat → Bool
  | [], [] => false
  | [], _ :: _ => true
  | _ :: _, [] => false
  | a :: r, b :: t => if a < b then true else if b < a then false else lexLt r t

/-- Element `i` of a list replaced. -/
def setAt {α : Type} (l : List α) (i : Nat) (v : α) : List α := l.set i v

/-- Element `i` of a list, `d` past its end. -/
def nth {α : Type} (l : List α) (i : Nat) (d : α) : α := (l[i]?).getD d

end Sys2Proof.Machine
end

