-- ==== Sys2Proof/Machine/CheckVal.lean ====
section
/-! DEFINITION. Check values: CRC-32C and CRC-64 (R358, R359), SHA-256 (FIPS 180-4) and HMAC-SHA-256 (FIPS 198-1). -/

namespace Sys2Proof.Machine

/-- One bit step of a reflected CRC with polynomial `p` (R358). -/
def crcBit (p c : Nat) : Nat := if c % 2 = 1 then (c >>> 1) ^^^ p else c >>> 1

/-- One byte of a reflected CRC (R358). -/
def crcByte (p c : Nat) (b : Byte) : Nat :=
  let c := c ^^^ b.toNat
  crcBit p (crcBit p (crcBit p (crcBit p (crcBit p (crcBit p (crcBit p (crcBit p c)))))))

/-- The CRC register after a byte string, from register value `c`. -/
def crcRun (p : Nat) : Nat → Bytes → Nat
  | c, [] => c
  | c, b :: bs => crcRun p (crcByte p c b) bs

/-- CRC-32C of a byte string (R358, Table 14.1). -/
def crc32c (bs : Bytes) : Nat := crcRun 0x82F63B78 0xFFFFFFFF bs ^^^ 0xFFFFFFFF

/-- CRC-64 of a byte string (R358, Table 14.1). -/
def crc64 (bs : Bytes) : Nat := crcRun 0xC96C5795D7870F42 0xFFFFFFFFFFFFFFFF bs ^^^ 0xFFFFFFFFFFFFFFFF

/-- CRC-32C of 524,288 zero bytes, the reset value of PT_ACTIVE_CRC (R401). -/
def crcZeroPt : Nat := 0xC253E960

/-- CRC-32C of 16,384 zero bytes, the reset value of SFU_ACTIVE_CRC (R401). -/
def crcZeroSfu : Nat := 0x94640B85

/-! ### SHA-256 -/

/-- The round constants of SHA-256 (FIPS 180-4). -/
def shaK : List Nat :=
    [0x428a2f98, 0x71374491, 0xb5c0fbcf, 0xe9b5dba5, 0x3956c25b, 0x59f111f1, 0x923f82a4, 0xab1c5ed5] ++
    [0xd807aa98, 0x12835b01, 0x243185be, 0x550c7dc3, 0x72be5d74, 0x80deb1fe, 0x9bdc06a7, 0xc19bf174] ++
    [0xe49b69c1, 0xefbe4786, 0x0fc19dc6, 0x240ca1cc, 0x2de92c6f, 0x4a7484aa, 0x5cb0a9dc, 0x76f988da] ++
    [0x983e5152, 0xa831c66d, 0xb00327c8, 0xbf597fc7, 0xc6e00bf3, 0xd5a79147, 0x06ca6351, 0x14292967] ++
    [0x27b70a85, 0x2e1b2138, 0x4d2c6dfc, 0x53380d13, 0x650a7354, 0x766a0abb, 0x81c2c92e, 0x92722c85] ++
    [0xa2bfe8a1, 0xa81a664b, 0xc24b8b70, 0xc76c51a3, 0xd192e819, 0xd6990624, 0xf40e3585, 0x106aa070] ++
    [0x19a4c116, 0x1e376c08, 0x2748774c, 0x34b0bcb5, 0x391c0cb3, 0x4ed8aa4a, 0x5b9cca4f, 0x682e6ff3] ++
    [0x748f82ee, 0x78a5636f, 0x84c87814, 0x8cc70208, 0x90befffa, 0xa4506ceb, 0xbef9a3f7, 0xc67178f2]

/-- The initial hash value of SHA-256 (FIPS 180-4). -/
def shaH0 : List Nat := [0x6a09e667, 0xbb67ae85, 0x3c6ef372, 0xa54ff53a, 0x510e527f, 0x9b05688c, 0x1f83d9ab, 0x5be0cd19]

/-- Rotation right of a 32-bit word. -/
def rotr32 (n x : Nat) : Nat := ((x >>> n) ||| (x <<< (32 - n))) % 2 ^ 32

/-- The eight working words of a SHA-256 compression. -/
structure ShaWords where
  a : Nat
  b : Nat
  c : Nat
  d : Nat
  e : Nat
  f : Nat
  g : Nat
  h : Nat
deriving DecidableEq, Repr, Inhabited

/-- One round with schedule word plus constant `kw` (FIPS 180-4). -/
def shaRound (s : ShaWords) (kw : Nat) : ShaWords :=
  let s1 := rotr32 6 s.e ^^^ rotr32 11 s.e ^^^ rotr32 25 s.e
  let ch := (s.e &&& s.f) ^^^ ((0xFFFFFFFF ^^^ s.e) &&& s.g)
  let t1 := s.h + s1 + ch + kw
  let s0 := rotr32 2 s.a ^^^ rotr32 13 s.a ^^^ rotr32 22 s.a
  let mj := (s.a &&& s.b) ^^^ (s.a &&& s.c) ^^^ (s.b &&& s.c)
  { a := (t1 + s0 + mj) % 2 ^ 32, b := s.a, c := s.b, d := s.c, e := (s.d + t1) % 2 ^ 32, f := s.e, g := s.f, h := s.g }

/-- The next word of the message schedule from the sixteen before it, oldest first. -/
def shaSchedNext (w : List Nat) : Nat :=
  let x15 := nth w 1 0
  let x2 := nth w 14 0
  let s0 := rotr32 7 x15 ^^^ rotr32 18 x15 ^^^ (x15 >>> 3)
  let s1 := rotr32 17 x2 ^^^ rotr32 19 x2 ^^^ (x2 >>> 10)
  (nth w 0 0 + s0 + nth w 9 0 + s1) % 2 ^ 32

/-- The rounds of one block: `w` holds the sixteen schedule words in force, the constants are taken in order. -/
def shaRounds : List Nat → List Nat → ShaWords → ShaWords
  | [], _, s => s
  | k :: ks, w, s => shaRounds ks (w.drop 1 ++ [shaSchedNext w]) (shaRound s (k + nth w 0 0))

/-- The big-endian words of a byte string. -/
def beWords : Bytes → List Nat
  | a :: b :: c :: d :: r => (a.toNat * 2 ^ 24 + b.toNat * 2 ^ 16 + c.toNat * 2 ^ 8 + d.toNat) :: beWords r
  | _ => []

/-- One compression of a 64 B block. -/
def shaBlock (hs : List Nat) (blk : Bytes) : List Nat :=
  let i := fun n => nth hs n 0
  let r := shaRounds shaK (beWords blk) { a := i 0, b := i 1, c := i 2, d := i 3, e := i 4, f := i 5, g := i 6, h := i 7 }
  [(i 0 + r.a) % 2 ^ 32, (i 1 + r.b) % 2 ^ 32, (i 2 + r.c) % 2 ^ 32, (i 3 + r.d) % 2 ^ 32,
   (i 4 + r.e) % 2 ^ 32, (i 5 + r.f) % 2 ^ 32, (i 6 + r.g) % 2 ^ 32, (i 7 + r.h) % 2 ^ 32]

/-- The big-endian bytes of a 32-bit word. -/
def be32 (w : Nat) : Bytes := (le 4 w).reverse

/-- The compression of `n` blocks. -/
def shaBlocks : Nat → List Nat → Bytes → List Nat
  | 0, hs, _ => hs
  | n + 1, hs, bs => shaBlocks n (shaBlock hs (bs.take 64)) (bs.drop 64)

/-- The padding of a message of `n` bytes. -/
def shaPad (n : Nat) : Bytes := 0x80 :: (zeros ((119 - n % 64) % 64) ++ (le 8 (8 * n)).reverse)

/-- SHA-256 of a byte string, 32 bytes in the standard's output order (FIPS 180-4). -/
def sha256 (bs : Bytes) : Bytes :=
  let m := bs ++ shaPad bs.length
  (shaBlocks (m.length / 64) shaH0 m).flatMap be32

/-- HMAC-SHA-256 with a 32 B key (FIPS 198-1). -/
def hmac (key msg : Bytes) : Bytes :=
  let k := key ++ zeros (64 - key.length)
  sha256 (k.map (· ^^^ 0x5C) ++ sha256 (k.map (· ^^^ 0x36) ++ msg))

end Sys2Proof.Machine
end

