-- ==== Sys2Proof/Machine/Entries.lean ====
section
/-! DEFINITION. The object dictionary's entries (R369, R370, R394 and the entry tables of every chapter): for each its
indices and subindices, type, access class and length, and the defaults of its scalars (R373). `Key` names each
scalar's place in the register store, `Dom` each DOMAIN's. -/

namespace Sys2Proof.Machine

/-- One row of an entry table: indices `idx0` to `idx1`, subindices `sub0` to `sub1`, type code of Table 15.1, access
code of Table 15.2, length in bytes. -/
structure Entry where
  idx0 : Nat
  idx1 : Nat
  sub0 : Nat
  sub1 : Nat
  ty : Nat
  acc : Nat
  len : Nat
deriving DecidableEq, Repr, Inhabited

/-- Whether the entry's type is DOMAIN (Table 15.1). -/
def Entry.isDomain (e : Entry) : Bool := e.ty == 0x0F

/-- The key of an entry: its index and subindex. -/
def entryKey (idx sub : Nat) : Nat := idx * 256 + sub

/-- ID_VENDOR. -/
def Key.ID_VENDOR : Nat := 0x100001
/-- ID_PRODUCT. -/
def Key.ID_PRODUCT : Nat := 0x100002
/-- ID_REVISION. -/
def Key.ID_REVISION : Nat := 0x100003
/-- ID_OPTIONS. -/
def Key.ID_OPTIONS : Nat := 0x100004
/-- ID_SERIAL. -/
def Key.ID_SERIAL : Nat := 0x100005
/-- COM_CAN_NODE. -/
def Key.COM_CAN_NODE : Nat := 0x100101
/-- COM_CAN_DATA_RATE. -/
def Key.COM_CAN_DATA_RATE : Nat := 0x100102
/-- COM_CAN_STATE. -/
def Key.COM_CAN_STATE : Nat := 0x100103
/-- COM_CAN_TEC. -/
def Key.COM_CAN_TEC : Nat := 0x100104
/-- COM_CAN_REC. -/
def Key.COM_CAN_REC : Nat := 0x100105
/-- COM_HEARTBEAT. -/
def Key.COM_HEARTBEAT : Nat := 0x100106
/-- DICT_REFUSED_CP. -/
def Key.DICT_REFUSED_CP : Nat := 0x100201
/-- DICT_REFUSED_CAN. -/
def Key.DICT_REFUSED_CAN : Nat := 0x100202
/-- ENG_NODE. -/
def Key.ENG_NODE : Nat := 0x200001
/-- CLK_LEVEL_RATE at subindex `i` + 1. -/
def Key.CLK_LEVEL_RATE (i : Nat) : Nat := 0x201001 + i
/-- CLK_LEVEL_IN. -/
def Key.CLK_LEVEL_IN : Nat := 0x201101
/-- CLK_FLOOR. -/
def Key.CLK_FLOOR : Nat := 0x201102
/-- CLK_RATE_NOW. -/
def Key.CLK_RATE_NOW : Nat := 0x201103
/-- CLK_EDGES_LAST. -/
def Key.CLK_EDGES_LAST : Nat := 0x201104
/-- CLK_BELOW_FLOOR. -/
def Key.CLK_BELOW_FLOOR : Nat := 0x201105
/-- RST_CAUSE. -/
def Key.RST_CAUSE : Nat := 0x201801
/-- RST_CONTROL. -/
def Key.RST_CONTROL : Nat := 0x201802
/-- RST_WARM_COUNT. -/
def Key.RST_WARM_COUNT : Nat := 0x201803
/-- RST_IDLE_SWAP. -/
def Key.RST_IDLE_SWAP : Nat := 0x201804
/-- INT_CAUSE at subindex `i` + 1. -/
def Key.INT_CAUSE (i : Nat) : Nat := 0x210001 + i
/-- INT_ROUTE. -/
def Dom.INT_ROUTE : Nat := 0x210100
/-- INT_EVENT_ROUTE. -/
def Key.INT_EVENT_ROUTE : Nat := 0x210201
/-- INT_LEVEL. -/
def Key.INT_LEVEL : Nat := 0x210202
/-- CVU_SCAN_REQ. -/
def Dom.CVU_SCAN_REQ : Nat := 0x220001
/-- CVU_SCAN_STATE. -/
def Key.CVU_SCAN_STATE : Nat := 0x220002
/-- CVU_LAST_RESULT. -/
def Dom.CVU_LAST_RESULT : Nat := 0x220003
/-- CVU_MISMATCH_PEND. -/
def Key.CVU_MISMATCH_PEND : Nat := 0x220004
/-- CVU_MISMATCH_FIRST. -/
def Dom.CVU_MISMATCH_FIRST : Nat := 0x220005
/-- CVU_INJECT. -/
def Key.CVU_INJECT : Nat := 0x220006
/-- CVU_RESULT. -/
def Key.CVU_RESULT : Nat := 0x220007
/-- PT_ACTIVE. -/
def Key.PT_ACTIVE : Nat := 0x300001
/-- PT_CHECK_START. -/
def Key.PT_CHECK_START : Nat := 0x300002
/-- PT_SHADOW_READY. -/
def Key.PT_SHADOW_READY : Nat := 0x300003
/-- PT_CHECK_RESULT. -/
def Key.PT_CHECK_RESULT : Nat := 0x300004
/-- PT_SHADOW_CRC. -/
def Key.PT_SHADOW_CRC : Nat := 0x300005
/-- PT_ACTIVE_CRC. -/
def Key.PT_ACTIVE_CRC : Nat := 0x300006
/-- PT_BANK0. -/
def Dom.PT_BANK0 : Nat := 0x300100
/-- PT_BANK1. -/
def Dom.PT_BANK1 : Nat := 0x300200
/-- TB_TICK. -/
def Key.TB_TICK : Nat := 0x400001
/-- TB_FRAME. -/
def Key.TB_FRAME : Nat := 0x400002
/-- TB_PLAN_FRAME. -/
def Key.TB_PLAN_FRAME : Nat := 0x400003
/-- TB_SLIPS. -/
def Key.TB_SLIPS : Nat := 0x400004
/-- TB_STATE. -/
def Key.TB_STATE : Nat := 0x400005
/-- TB_OFFSET. -/
def Key.TB_OFFSET : Nat := 0x400006
/-- TB_PARENT. -/
def Key.TB_PARENT : Nat := 0x400007
/-- TB_BACKUP. -/
def Key.TB_BACKUP : Nat := 0x400008
/-- TB_INIT. -/
def Key.TB_INIT : Nat := 0x400009
/-- TB_CONTROL. -/
def Key.TB_CONTROL : Nat := 0x40000A
/-- LINK_DELAY at subindex `i` + 1. -/
def Key.LINK_DELAY (i : Nat) : Nat := 0x400101 + i
/-- LINK_LOST. -/
def Key.LINK_LOST : Nat := 0x400201
/-- PLAN_SWITCH_COUNT. -/
def Key.PLAN_SWITCH_COUNT : Nat := 0x400202
/-- SLIP_REQ_COUNT. -/
def Key.SLIP_REQ_COUNT : Nat := 0x400203
/-- TT_STATE at subindex `i` + 1. -/
def Key.TT_STATE (i : Nat) : Nat := 0x410001 + i
/-- TT_IMAGE_ADDR at subindex `i` + 1. -/
def Key.TT_IMAGE_ADDR (i : Nat) : Nat := 0x410101 + i
/-- TT_FRAME_BASE at subindex `i` + 1. -/
def Key.TT_FRAME_BASE (i : Nat) : Nat := 0x410201 + i
/-- TT_FIRST_STEP at subindex `i` + 1. -/
def Key.TT_FIRST_STEP (i : Nat) : Nat := 0x410301 + i
/-- TT_PRIORITY at subindex `i` + 1. -/
def Key.TT_PRIORITY (i : Nat) : Nat := 0x410401 + i
/-- TT_CONTROL at subindex `i` + 1. -/
def Key.TT_CONTROL (i : Nat) : Nat := 0x410501 + i
/-- TT_LOAD_RESULT at subindex `i` + 1. -/
def Key.TT_LOAD_RESULT (i : Nat) : Nat := 0x410601 + i
/-- TT_PLAN_HASH at subindex `i` + 1. -/
def Key.TT_PLAN_HASH (i : Nat) : Nat := 0x410701 + i
/-- TT_STEP at subindex `i` + 1. -/
def Key.TT_STEP (i : Nat) : Nat := 0x410801 + i
/-- POOL_BASE of class `q`. -/
def Key.POOL_BASE (q : Nat) : Nat := 0x500001 + 256 * q
/-- POOL_COUNT of class `q`. -/
def Key.POOL_COUNT (q : Nat) : Nat := 0x500002 + 256 * q
/-- POOL_RING_ADDR of class `q`. -/
def Key.POOL_RING_ADDR (q : Nat) : Nat := 0x500003 + 256 * q
/-- POOL_RING_PORT of class `q`. -/
def Key.POOL_RING_PORT (q : Nat) : Nat := 0x500004 + 256 * q
/-- POOL_FREE of class `q`. -/
def Key.POOL_FREE (q : Nat) : Nat := 0x500005 + 256 * q
/-- POOL_LOW of class `q`. -/
def Key.POOL_LOW (q : Nat) : Nat := 0x500006 + 256 * q
/-- POOL_CONTROL. -/
def Key.POOL_CONTROL : Nat := 0x500501
/-- POOL_STATE. -/
def Key.POOL_STATE : Nat := 0x500502
/-- POOL_INIT_RESULT. -/
def Key.POOL_INIT_RESULT : Nat := 0x500503
/-- POOL_ALLOC_REQ. -/
def Key.POOL_ALLOC_REQ : Nat := 0x500601
/-- POOL_ALLOC_RESULT. -/
def Key.POOL_ALLOC_RESULT : Nat := 0x500602
/-- POOL_FREE_REQ. -/
def Key.POOL_FREE_REQ : Nat := 0x500603
/-- POOL_HELD (index part `q`, subindex part `i`). -/
def Key.POOL_HELD (q i : Nat) : Nat := 0x501001 + 256 * q + i
/-- PQ_DESC. -/
def Dom.PQ_DESC : Nat := 0x510000
/-- PQ_STATE. -/
def Dom.PQ_STATE : Nat := 0x510100
/-- PQ_SELECT. -/
def Key.PQ_SELECT : Nat := 0x510201
/-- PQ_READ. -/
def Dom.PQ_READ : Nat := 0x510202
/-- PQ_MARK. -/
def Key.PQ_MARK : Nat := 0x510203
/-- PQ_REWIND. -/
def Key.PQ_REWIND : Nat := 0x510204
/-- PQ_RELEASE. -/
def Key.PQ_RELEASE : Nat := 0x510205
/-- PQ_LEVEL_CAUSE. -/
def Dom.PQ_LEVEL_CAUSE : Nat := 0x510300
/-- PRESS_DESC. -/
def Dom.PRESS_DESC : Nat := 0x580000
/-- PRESS_COPY_TABLE. -/
def Dom.PRESS_COPY_TABLE : Nat := 0x580100
/-- PRESS_RESULT. -/
def Key.PRESS_RESULT : Nat := 0x580201
/-- PRESS_COPY_START. -/
def Key.PRESS_COPY_START : Nat := 0x580202
/-- PRESS_COPY_STATE. -/
def Key.PRESS_COPY_STATE : Nat := 0x580203
/-- SFU_PROG_ACTIVE. -/
def Key.SFU_PROG_ACTIVE : Nat := 0x5C0001
/-- SFU_CHECK_START. -/
def Key.SFU_CHECK_START : Nat := 0x5C0002
/-- SFU_SHADOW_READY. -/
def Key.SFU_SHADOW_READY : Nat := 0x5C0003
/-- SFU_CHECK_RESULT. -/
def Key.SFU_CHECK_RESULT : Nat := 0x5C0004
/-- SFU_SHADOW_CRC. -/
def Key.SFU_SHADOW_CRC : Nat := 0x5C0005
/-- SFU_ACTIVE_CRC. -/
def Key.SFU_ACTIVE_CRC : Nat := 0x5C0006
/-- SFU_BANK0. -/
def Dom.SFU_BANK0 : Nat := 0x5C0100
/-- SFU_BANK1. -/
def Dom.SFU_BANK1 : Nat := 0x5C0200
/-- SFU_COEF. -/
def Dom.SFU_COEF : Nat := 0x5C0300
/-- SFU_JOB_TABLE. -/
def Dom.SFU_JOB_TABLE : Nat := 0x5C0400
/-- SFU_JOB_START. -/
def Key.SFU_JOB_START : Nat := 0x5C0501
/-- SFU_JOB_STATE. -/
def Key.SFU_JOB_STATE : Nat := 0x5C0502
/-- SFU_RESULT. -/
def Key.SFU_RESULT : Nat := 0x5C0503
/-- NUM_NONFINITE_COUNT. -/
def Key.NUM_NONFINITE_COUNT : Nat := 0x600201
/-- NUM_NONFINITE_FIRST. -/
def Key.NUM_NONFINITE_FIRST : Nat := 0x600202
/-- NUM_NONFINITE_CLEAR. -/
def Key.NUM_NONFINITE_CLEAR : Nat := 0x600203
/-- SEL_NAN_COUNT at subindex `i` + 1. -/
def Key.SEL_NAN_COUNT (i : Nat) : Nat := 0x600401 + i
/-- SEL_COUNT_CLEAR. -/
def Key.SEL_COUNT_CLEAR : Nat := 0x600409
/-- SEL_ROWMASK_COUNT at subindex `i` + 1. -/
def Key.SEL_ROWMASK_COUNT (i : Nat) : Nat := 0x600501 + i
/-- SEL_SHORT_COUNT at subindex `i` + 1. -/
def Key.SEL_SHORT_COUNT (i : Nat) : Nat := 0x600601 + i
/-- SEL_ZERODEN_COUNT at subindex `i` + 1. -/
def Key.SEL_ZERODEN_COUNT (i : Nat) : Nat := 0x600701 + i
/-- CRD_REROUTE_COUNT at subindex `i` + 1. -/
def Key.CRD_REROUTE_COUNT (i : Nat) : Nat := 0x600801 + i
/-- CRD_COUNT_CLEAR. -/
def Key.CRD_COUNT_CLEAR : Nat := 0x600809
/-- CRD_DROP_COUNT at subindex `i` + 1. -/
def Key.CRD_DROP_COUNT (i : Nat) : Nat := 0x600901 + i
/-- CRD_PAD_COUNT at subindex `i` + 1. -/
def Key.CRD_PAD_COUNT (i : Nat) : Nat := 0x600A01 + i
/-- CRD_RENORM_COUNT at subindex `i` + 1. -/
def Key.CRD_RENORM_COUNT (i : Nat) : Nat := 0x600B01 + i
/-- EXC_RESEND_COUNT at subindex `i` + 1. -/
def Key.EXC_RESEND_COUNT (i : Nat) : Nat := 0x600C01 + i
/-- EXC_COUNT_CLEAR. -/
def Key.EXC_COUNT_CLEAR : Nat := 0x600C09
/-- EXC_DUP_COUNT at subindex `i` + 1. -/
def Key.EXC_DUP_COUNT (i : Nat) : Nat := 0x600D01 + i
/-- EXC_LENT_FLITS at subindex `i` + 1. -/
def Key.EXC_LENT_FLITS (i : Nat) : Nat := 0x600E01 + i
/-- FUL_GAP_COUNT at subindex `i` + 1. -/
def Key.FUL_GAP_COUNT (i : Nat) : Nat := 0x600F01 + i
/-- BWD_REFETCH_GAP at subindex `i` + 1. -/
def Key.BWD_REFETCH_GAP (i : Nat) : Nat := 0x601001 + i
/-- BWD_COUNT_CLEAR. -/
def Key.BWD_COUNT_CLEAR : Nat := 0x601009
/-- BWD_ZERO_VISIT at subindex `i` + 1. -/
def Key.BWD_ZERO_VISIT (i : Nat) : Nat := 0x601101 + i
/-- BWD_STATE_WAIT at subindex `i` + 1. -/
def Key.BWD_STATE_WAIT (i : Nat) : Nat := 0x601201 + i
/-- BWD_DELIVERED at subindex `i` + 1. -/
def Key.BWD_DELIVERED (i : Nat) : Nat := 0x601301 + i
/-- TT_OVERRUN_COUNT at subindex `i` + 1. -/
def Key.TT_OVERRUN_COUNT (i : Nat) : Nat := 0x601401 + i
/-- TT_COUNT_CLEAR. -/
def Key.TT_COUNT_CLEAR : Nat := 0x601409
/-- ACC_WAIT_TT at subindex `i` + 1. -/
def Key.ACC_WAIT_TT (i : Nat) : Nat := 0x601501 + i
/-- ACC_PREEMPT_COUNT at subindex `i` + 1. -/
def Key.ACC_PREEMPT_COUNT (i : Nat) : Nat := 0x601601 + i
/-- POOL_WAIT_COUNT at subindex `i` + 1. -/
def Key.POOL_WAIT_COUNT (i : Nat) : Nat := 0x601701 + i
/-- POOL_PQ_COUNT_CLEAR. -/
def Key.POOL_PQ_COUNT_CLEAR : Nat := 0x601709
/-- POOL_FREE_REFUSED at subindex `i` + 1. -/
def Key.POOL_FREE_REFUSED (i : Nat) : Nat := 0x601801 + i
/-- PQ_DROP_COUNT at subindex `i` + 1. -/
def Key.PQ_DROP_COUNT (i : Nat) : Nat := 0x601901 + i
/-- PQ_ABORT_COUNT at subindex `i` + 1. -/
def Key.PQ_ABORT_COUNT (i : Nat) : Nat := 0x601A01 + i
/-- PRESS_COPY_DONE at subindex `i` + 1. -/
def Key.PRESS_COPY_DONE (i : Nat) : Nat := 0x601B01 + i
/-- PRESS_COUNT_CLEAR. -/
def Key.PRESS_COUNT_CLEAR : Nat := 0x601B09
/-- PRESS_COPY_LINES at subindex `i` + 1. -/
def Key.PRESS_COPY_LINES (i : Nat) : Nat := 0x601C01 + i
/-- PRESS_DESC_REFUSED at subindex `i` + 1. -/
def Key.PRESS_DESC_REFUSED (i : Nat) : Nat := 0x601D01 + i
/-- SFU_JOB_DONE at subindex `i` + 1. -/
def Key.SFU_JOB_DONE (i : Nat) : Nat := 0x601E01 + i
/-- SFU_COUNT_CLEAR. -/
def Key.SFU_COUNT_CLEAR : Nat := 0x601E09
/-- SFU_ROWMASK_COUNT at subindex `i` + 1. -/
def Key.SFU_ROWMASK_COUNT (i : Nat) : Nat := 0x601F01 + i
/-- SFU_JOB_REFUSED at subindex `i` + 1. -/
def Key.SFU_JOB_REFUSED (i : Nat) : Nat := 0x602001 + i
/-- CLE_OPS_DONE at subindex `i` + 1. -/
def Key.CLE_OPS_DONE (i : Nat) : Nat := 0x602101 + i
/-- CLE_COUNT_CLEAR. -/
def Key.CLE_COUNT_CLEAR : Nat := 0x602109
/-- CLE_ABORTS at subindex `i` + 1. -/
def Key.CLE_ABORTS (i : Nat) : Nat := 0x602201 + i
/-- CLE_OVERFLOW at subindex `i` + 1. -/
def Key.CLE_OVERFLOW (i : Nat) : Nat := 0x602301 + i
/-- CLE_SLOT_WAIT at subindex `i` + 1. -/
def Key.CLE_SLOT_WAIT (i : Nat) : Nat := 0x602401 + i
/-- FEP_RETRY_COUNT at subindex `i` + 1. -/
def Key.FEP_RETRY_COUNT (i : Nat) : Nat := 0x602501 + i
/-- FEP_COUNT_CLEAR. -/
def Key.FEP_COUNT_CLEAR : Nat := 0x602509
/-- FEP_TIMEOUT_COUNT at subindex `i` + 1. -/
def Key.FEP_TIMEOUT_COUNT (i : Nat) : Nat := 0x602601 + i
/-- FEP_CRC_DROP at subindex `i` + 1. -/
def Key.FEP_CRC_DROP (i : Nat) : Nat := 0x602701 + i
/-- FEP_UNROUTED at subindex `i` + 1. -/
def Key.FEP_UNROUTED (i : Nat) : Nat := 0x602801 + i
/-- CVU_SCAN_DONE at subindex `i` + 1. -/
def Key.CVU_SCAN_DONE (i : Nat) : Nat := 0x602901 + i
/-- CVU_COUNT_CLEAR. -/
def Key.CVU_COUNT_CLEAR : Nat := 0x602909
/-- CVU_MISMATCH_COUNT at subindex `i` + 1. -/
def Key.CVU_MISMATCH_COUNT (i : Nat) : Nat := 0x602A01 + i
/-- CVU_SCAN_LINES at subindex `i` + 1. -/
def Key.CVU_SCAN_LINES (i : Nat) : Nat := 0x602B01 + i
/-- LNK_TX_FLITS at subindex `i` + 1. -/
def Key.LNK_TX_FLITS (i : Nat) : Nat := 0x603001 + i
/-- LNK_RX_FLITS at subindex `i` + 1. -/
def Key.LNK_RX_FLITS (i : Nat) : Nat := 0x603101 + i
/-- LNK_LENT_FLITS at subindex `i` + 1. -/
def Key.LNK_LENT_FLITS (i : Nat) : Nat := 0x603201 + i
/-- LNK_CHECK_FAIL at subindex `i` + 1. -/
def Key.LNK_CHECK_FAIL (i : Nat) : Nat := 0x603301 + i
/-- TP_TX_BYTES at subindex `i` + 1. -/
def Key.TP_TX_BYTES (i : Nat) : Nat := 0x603401 + i
/-- TP_RX_BYTES at subindex `i` + 1. -/
def Key.TP_RX_BYTES (i : Nat) : Nat := 0x603501 + i
/-- MEM_RD_BYTES at subindex `i` + 1. -/
def Key.MEM_RD_BYTES (i : Nat) : Nat := 0x603601 + i
/-- MEM_WR_BYTES at subindex `i` + 1. -/
def Key.MEM_WR_BYTES (i : Nat) : Nat := 0x603701 + i
/-- STG_BANK_READS at subindex `i` + 1. -/
def Key.STG_BANK_READS (i : Nat) : Nat := 0x603801 + i
/-- STG_BANK_WRITES at subindex `i` + 1. -/
def Key.STG_BANK_WRITES (i : Nat) : Nat := 0x603901 + i
/-- UNIT_BUSY at subindex `i` + 1. -/
def Key.UNIT_BUSY (i : Nat) : Nat := 0x603A01 + i
/-- OBS_FRAMES. -/
def Key.OBS_FRAMES : Nat := 0x603B01
/-- OBS_COUNT_CLEAR. -/
def Key.OBS_COUNT_CLEAR : Nat := 0x603B02
/-- SNAP_SEQ. -/
def Key.SNAP_SEQ : Nat := 0x604001
/-- SNAP_LATEST. -/
def Key.SNAP_LATEST : Nat := 0x604002
/-- SNAP_LOCK. -/
def Key.SNAP_LOCK : Nat := 0x604003
/-- SNAP_MISSED. -/
def Key.SNAP_MISSED : Nat := 0x604004
/-- SNAP_CONTROL. -/
def Key.SNAP_CONTROL : Nat := 0x604005
/-- SNAP_TRIG_ENABLE. -/
def Key.SNAP_TRIG_ENABLE : Nat := 0x604006
/-- SNAP_SET0. -/
def Dom.SNAP_SET0 : Nat := 0x604100
/-- SNAP_SET1. -/
def Dom.SNAP_SET1 : Nat := 0x604200
/-- TRC_BASE. -/
def Key.TRC_BASE : Nat := 0x604801
/-- TRC_LEN. -/
def Key.TRC_LEN : Nat := 0x604802
/-- TRC_HEAD. -/
def Key.TRC_HEAD : Nat := 0x604803
/-- TRC_TAIL. -/
def Key.TRC_TAIL : Nat := 0x604804
/-- TRC_PORT. -/
def Key.TRC_PORT : Nat := 0x604805
/-- TRC_CONTROL. -/
def Key.TRC_CONTROL : Nat := 0x604806
/-- TRC_STATE. -/
def Key.TRC_STATE : Nat := 0x604807
/-- TRC_LOST. -/
def Key.TRC_LOST : Nat := 0x604808
/-- TRC_KINDS. -/
def Key.TRC_KINDS : Nat := 0x604809
/-- TRC_CTX_MASK. -/
def Key.TRC_CTX_MASK : Nat := 0x60480A
/-- TRC_PORT_MASK. -/
def Key.TRC_PORT_MASK : Nat := 0x60480B
/-- FAB_SHAPE. -/
def Key.FAB_SHAPE : Nat := 0x680001
/-- CLE_REDUCE_BASE. -/
def Key.CLE_REDUCE_BASE : Nat := 0x680002
/-- CLE_COORD. -/
def Key.CLE_COORD : Nat := 0x680003
/-- CLE_GROUPS. -/
def Dom.CLE_GROUPS : Nat := 0x680100
/-- CLE_RESULT. -/
def Key.CLE_RESULT : Nat := 0x680201
/-- FEP_WINDOWS. -/
def Dom.FEP_WINDOWS : Nat := 0x681000
/-- FEP_ROUTE. -/
def Dom.FEP_ROUTE : Nat := 0x681100
/-- FEP_REQ_TABLE. -/
def Dom.FEP_REQ_TABLE : Nat := 0x681200
/-- FEP_START. -/
def Key.FEP_START : Nat := 0x681301
/-- FEP_STATE. -/
def Key.FEP_STATE : Nat := 0x681302
/-- FEP_RESULT. -/
def Key.FEP_RESULT : Nat := 0x681303
/-- FEP_INVAL. -/
def Key.FEP_INVAL : Nat := 0x681304
/-- FEP_COUNTERS. -/
def Dom.FEP_COUNTERS : Nat := 0x681400
/-- METER_STATE. -/
def Key.METER_STATE : Nat := 0x700001
/-- METER_SEAL_COUNT. -/
def Key.METER_SEAL_COUNT : Nat := 0x700002
/-- METER_KEY_ID. -/
def Key.METER_KEY_ID : Nat := 0x700003
/-- METER_MS. -/
def Key.METER_MS : Nat := 0x700004
/-- METER_PERSIST_SEQ. -/
def Key.METER_PERSIST_SEQ : Nat := 0x700005
/-- METER_PERSIST_FLAGS. -/
def Key.METER_PERSIST_FLAGS : Nat := 0x700006
/-- METER_WRITE_REFUSED. -/
def Key.METER_WRITE_REFUSED : Nat := 0x700007
/-- METER_LOG_HEAD. -/
def Key.METER_LOG_HEAD : Nat := 0x700008
/-- METER_FW_HASH. -/
def Dom.METER_FW_HASH : Nat := 0x700100
/-- METER_PARAMS. -/
def Dom.METER_PARAMS : Nat := 0x700200
/-- METER_LOG. -/
def Dom.METER_LOG : Nat := 0x700300
/-- METER_REPORT. -/
def Dom.METER_REPORT : Nat := 0x700400
/-- METER_COUNT (index part `q`, subindex part `i`). -/
def Key.METER_COUNT (q i : Nat) : Nat := 0x701001 + 256 * q + i
/-- METER_ENERGY_IDLE. -/
def Key.METER_ENERGY_IDLE : Nat := 0x701609
/-- DRU_SEED at subindex `i` + 1. -/
def Key.DRU_SEED (i : Nat) : Nat := 0x780001 + i
/-- DRU_RING_BASE at subindex `i` + 1. -/
def Key.DRU_RING_BASE (i : Nat) : Nat := 0x780101 + i
/-- DRU_RING_LEN at subindex `i` + 1. -/
def Key.DRU_RING_LEN (i : Nat) : Nat := 0x780201 + i
/-- DRU_RING_HEAD at subindex `i` + 1. -/
def Key.DRU_RING_HEAD (i : Nat) : Nat := 0x780301 + i
/-- DRU_RING_TAIL at subindex `i` + 1. -/
def Key.DRU_RING_TAIL (i : Nat) : Nat := 0x780401 + i
/-- DRU_SCAN_BASE at subindex `i` + 1. -/
def Key.DRU_SCAN_BASE (i : Nat) : Nat := 0x780501 + i
/-- DRU_STEP_DIGEST at subindex `i` + 1. -/
def Dom.DRU_STEP_DIGEST (i : Nat) : Nat := 0x780601 + i
/-- DRU_EXPECT at subindex `i` + 1. -/
def Dom.DRU_EXPECT (i : Nat) : Nat := 0x780701 + i
/-- DRU_RING_LOST at subindex `i` + 1. -/
def Key.DRU_RING_LOST (i : Nat) : Nat := 0x780801 + i
/-- RPL_BASE. -/
def Key.RPL_BASE : Nat := 0x781001
/-- RPL_LEN. -/
def Key.RPL_LEN : Nat := 0x781002
/-- RPL_HEAD. -/
def Key.RPL_HEAD : Nat := 0x781003
/-- RPL_TAIL. -/
def Key.RPL_TAIL : Nat := 0x781004
/-- RPL_PORT. -/
def Key.RPL_PORT : Nat := 0x781005
/-- RPL_CONTROL. -/
def Key.RPL_CONTROL : Nat := 0x781006
/-- RPL_STATE. -/
def Key.RPL_STATE : Nat := 0x781007
/-- RPL_LOST. -/
def Key.RPL_LOST : Nat := 0x781008
/-- DRU_CHECK_ENABLE. -/
def Key.DRU_CHECK_ENABLE : Nat := 0x781101
/-- FLT_LOG_HEAD. -/
def Key.FLT_LOG_HEAD : Nat := 0x800001
/-- FLT_LOG_LOST. -/
def Key.FLT_LOG_LOST : Nat := 0x800002
/-- FLT_LOG_CLEAR. -/
def Key.FLT_LOG_CLEAR : Nat := 0x800003
/-- FLT_LOG. -/
def Dom.FLT_LOG : Nat := 0x800100
/-- FLT_FIRST. -/
def Dom.FLT_FIRST : Nat := 0x800200
/-- FLT_CLASS_COUNT. -/
def Dom.FLT_CLASS_COUNT : Nat := 0x800300
/-- FLT_REPLAY_MAX at subindex `i` + 1. -/
def Key.FLT_REPLAY_MAX (i : Nat) : Nat := 0x800401 + i
/-- FLT_REPLAY_COUNT at subindex `i` + 1. -/
def Key.FLT_REPLAY_COUNT (i : Nat) : Nat := 0x800501 + i
/-- FLT_LEDGER_BASE at subindex `i` + 1. -/
def Key.FLT_LEDGER_BASE (i : Nat) : Nat := 0x800601 + i
/-- FLT_LEDGER_LEN at subindex `i` + 1. -/
def Key.FLT_LEDGER_LEN (i : Nat) : Nat := 0x800701 + i

/-- Entry rows, part 0, in ascending index. -/
def entries0 : List Entry := [
  ⟨0x1000, 0x1000, 0x01, 0x01, 4, 1, 4⟩,
  ⟨0x1000, 0x1000, 0x02, 0x02, 4, 1, 4⟩,
  ⟨0x1000, 0x1000, 0x03, 0x03, 4, 1, 4⟩,
  ⟨0x1000, 0x1000, 0x04, 0x04, 4, 1, 4⟩,
  ⟨0x1000, 0x1000, 0x05, 0x05, 5, 1, 8⟩,
  ⟨0x1001, 0x1001, 0x01, 0x01, 2, 1, 1⟩,
  ⟨0x1001, 0x1001, 0x02, 0x02, 2, 2, 1⟩,
  ⟨0x1001, 0x1001, 0x03, 0x03, 2, 1, 1⟩,
  ⟨0x1001, 0x1001, 0x04, 0x04, 2, 1, 1⟩,
  ⟨0x1001, 0x1001, 0x05, 0x05, 2, 1, 1⟩,
  ⟨0x1001, 0x1001, 0x06, 0x06, 3, 2, 2⟩,
  ⟨0x1002, 0x1002, 0x01, 0x01, 4, 1, 4⟩,
  ⟨0x1002, 0x1002, 0x02, 0x02, 4, 1, 4⟩,
  ⟨0x2000, 0x2000, 0x01, 0x01, 3, 4, 2⟩,
  ⟨0x2010, 0x2010, 0x01, 0x08, 2, 4, 1⟩,
  ⟨0x2011, 0x2011, 0x01, 0x01, 2, 1, 1⟩,
  ⟨0x2011, 0x2011, 0x02, 0x02, 2, 1, 1⟩,
  ⟨0x2011, 0x2011, 0x03, 0x03, 2, 1, 1⟩,
  ⟨0x2011, 0x2011, 0x04, 0x04, 4, 1, 4⟩,
  ⟨0x2011, 0x2011, 0x05, 0x05, 4, 1, 4⟩,
  ⟨0x2018, 0x2018, 0x01, 0x01, 2, 1, 1⟩,
  ⟨0x2018, 0x2018, 0x02, 0x02, 3, 3, 2⟩,
  ⟨0x2018, 0x2018, 0x03, 0x03, 4, 1, 4⟩,
  ⟨0x2018, 0x2018, 0x04, 0x04, 2, 3, 1⟩,
  ⟨0x2100, 0x2100, 0x01, 0x04, 4, 5, 4⟩,
  ⟨0x2101, 0x2101, 0x00, 0x00, 15, 2, 256⟩,
  ⟨0x2102, 0x2102, 0x01, 0x01, 3, 2, 2⟩,
  ⟨0x2102, 0x2102, 0x02, 0x02, 2, 1, 1⟩,
  ⟨0x2200, 0x2200, 0x01, 0x01, 15, 3, 32⟩,
  ⟨0x2200, 0x2200, 0x02, 0x02, 4, 1, 4⟩,
  ⟨0x2200, 0x2200, 0x03, 0x03, 15, 1, 16⟩,
  ⟨0x2200, 0x2200, 0x04, 0x04, 2, 5, 1⟩]

/-- Entry rows, part 1, in ascending index. -/
def entries1 : List Entry := [
  ⟨0x2200, 0x2200, 0x05, 0x05, 15, 1, 24⟩,
  ⟨0x2200, 0x2200, 0x06, 0x06, 3, 3, 2⟩,
  ⟨0x2200, 0x2200, 0x07, 0x07, 4, 1, 4⟩,
  ⟨0x3000, 0x3000, 0x01, 0x01, 2, 1, 1⟩,
  ⟨0x3000, 0x3000, 0x02, 0x02, 1, 3, 1⟩,
  ⟨0x3000, 0x3000, 0x03, 0x03, 1, 1, 1⟩,
  ⟨0x3000, 0x3000, 0x04, 0x04, 4, 1, 4⟩,
  ⟨0x3000, 0x3000, 0x05, 0x05, 4, 1, 4⟩,
  ⟨0x3000, 0x3000, 0x06, 0x06, 4, 1, 4⟩,
  ⟨0x3001, 0x3001, 0x00, 0x00, 15, 2, 524288⟩,
  ⟨0x3002, 0x3002, 0x00, 0x00, 15, 2, 524288⟩,
  ⟨0x4000, 0x4000, 0x01, 0x01, 5, 1, 8⟩,
  ⟨0x4000, 0x4000, 0x02, 0x02, 5, 1, 8⟩,
  ⟨0x4000, 0x4000, 0x03, 0x03, 5, 1, 8⟩,
  ⟨0x4000, 0x4000, 0x04, 0x04, 4, 1, 4⟩,
  ⟨0x4000, 0x4000, 0x05, 0x05, 2, 1, 1⟩,
  ⟨0x4000, 0x4000, 0x06, 0x06, 6, 1, 4⟩,
  ⟨0x4000, 0x4000, 0x07, 0x07, 2, 4, 1⟩,
  ⟨0x4000, 0x4000, 0x08, 0x08, 2, 4, 1⟩,
  ⟨0x4000, 0x4000, 0x09, 0x09, 5, 4, 8⟩,
  ⟨0x4000, 0x4000, 0x0A, 0x0A, 2, 3, 1⟩,
  ⟨0x4001, 0x4001, 0x01, 0x30, 4, 1, 4⟩,
  ⟨0x4002, 0x4002, 0x01, 0x01, 5, 1, 8⟩,
  ⟨0x4002, 0x4002, 0x02, 0x02, 4, 1, 4⟩,
  ⟨0x4002, 0x4002, 0x03, 0x03, 4, 1, 4⟩,
  ⟨0x4100, 0x4100, 0x01, 0x08, 2, 1, 1⟩,
  ⟨0x4101, 0x4101, 0x01, 0x08, 5, 4, 8⟩,
  ⟨0x4102, 0x4102, 0x01, 0x08, 5, 4, 8⟩,
  ⟨0x4103, 0x4103, 0x01, 0x08, 5, 4, 8⟩,
  ⟨0x4104, 0x4104, 0x01, 0x08, 2, 4, 1⟩,
  ⟨0x4105, 0x4105, 0x01, 0x08, 2, 3, 1⟩,
  ⟨0x4106, 0x4106, 0x01, 0x08, 5, 1, 8⟩]

/-- Entry rows, part 2, in ascending index. -/
def entries2 : List Entry := [
  ⟨0x4107, 0x4107, 0x01, 0x08, 5, 1, 8⟩,
  ⟨0x4108, 0x4108, 0x01, 0x08, 5, 1, 8⟩,
  ⟨0x5000, 0x5004, 0x01, 0x01, 5, 4, 8⟩,
  ⟨0x5000, 0x5004, 0x02, 0x02, 4, 4, 4⟩,
  ⟨0x5000, 0x5004, 0x03, 0x03, 5, 4, 8⟩,
  ⟨0x5000, 0x5004, 0x04, 0x04, 2, 4, 1⟩,
  ⟨0x5000, 0x5004, 0x05, 0x05, 4, 1, 4⟩,
  ⟨0x5000, 0x5004, 0x06, 0x06, 4, 1, 4⟩,
  ⟨0x5005, 0x5005, 0x01, 0x01, 2, 3, 1⟩,
  ⟨0x5005, 0x5005, 0x02, 0x02, 2, 1, 1⟩,
  ⟨0x5005, 0x5005, 0x03, 0x03, 3, 1, 2⟩,
  ⟨0x5006, 0x5006, 0x01, 0x01, 5, 3, 8⟩,
  ⟨0x5006, 0x5006, 0x02, 0x02, 5, 1, 8⟩,
  ⟨0x5006, 0x5006, 0x03, 0x03, 5, 3, 8⟩,
  ⟨0x5010, 0x5014, 0x01, 0x08, 4, 1, 4⟩,
  ⟨0x5100, 0x5100, 0x00, 0x00, 15, 4, 8192⟩,
  ⟨0x5101, 0x5101, 0x00, 0x00, 15, 1, 8192⟩,
  ⟨0x5102, 0x5102, 0x01, 0x01, 3, 2, 2⟩,
  ⟨0x5102, 0x5102, 0x02, 0x02, 15, 1, 0⟩,
  ⟨0x5102, 0x5102, 0x03, 0x03, 1, 3, 1⟩,
  ⟨0x5102, 0x5102, 0x04, 0x04, 1, 3, 1⟩,
  ⟨0x5102, 0x5102, 0x05, 0x05, 1, 3, 1⟩,
  ⟨0x5103, 0x5103, 0x00, 0x00, 15, 5, 64⟩,
  ⟨0x5800, 0x5800, 0x00, 0x00, 15, 4, 262144⟩,
  ⟨0x5801, 0x5801, 0x00, 0x00, 15, 4, 4096⟩,
  ⟨0x5802, 0x5802, 0x01, 0x01, 4, 1, 4⟩,
  ⟨0x5802, 0x5802, 0x02, 0x02, 3, 3, 2⟩,
  ⟨0x5802, 0x5802, 0x03, 0x03, 4, 1, 4⟩,
  ⟨0x5C00, 0x5C00, 0x01, 0x01, 2, 1, 1⟩,
  ⟨0x5C00, 0x5C00, 0x02, 0x02, 1, 3, 1⟩,
  ⟨0x5C00, 0x5C00, 0x03, 0x03, 1, 1, 1⟩,
  ⟨0x5C00, 0x5C00, 0x04, 0x04, 4, 1, 4⟩]

/-- Entry rows, part 3, in ascending index. -/
def entries3 : List Entry := [
  ⟨0x5C00, 0x5C00, 0x05, 0x05, 4, 1, 4⟩,
  ⟨0x5C00, 0x5C00, 0x06, 0x06, 4, 1, 4⟩,
  ⟨0x5C01, 0x5C01, 0x00, 0x00, 15, 2, 16384⟩,
  ⟨0x5C02, 0x5C02, 0x00, 0x00, 15, 2, 16384⟩,
  ⟨0x5C03, 0x5C03, 0x00, 0x00, 15, 1, 1024⟩,
  ⟨0x5C04, 0x5C04, 0x00, 0x00, 15, 4, 1024⟩,
  ⟨0x5C05, 0x5C05, 0x01, 0x01, 2, 3, 1⟩,
  ⟨0x5C05, 0x5C05, 0x02, 0x02, 4, 1, 4⟩,
  ⟨0x5C05, 0x5C05, 0x03, 0x03, 4, 1, 4⟩,
  ⟨0x6002, 0x6002, 0x01, 0x01, 4, 1, 4⟩,
  ⟨0x6002, 0x6002, 0x02, 0x02, 5, 1, 8⟩,
  ⟨0x6002, 0x6002, 0x03, 0x03, 1, 3, 1⟩,
  ⟨0x6004, 0x6004, 0x01, 0x08, 4, 1, 4⟩,
  ⟨0x6004, 0x6004, 0x09, 0x09, 2, 3, 1⟩,
  ⟨0x6005, 0x6005, 0x01, 0x08, 4, 1, 4⟩,
  ⟨0x6006, 0x6006, 0x01, 0x08, 4, 1, 4⟩,
  ⟨0x6007, 0x6007, 0x01, 0x08, 4, 1, 4⟩,
  ⟨0x6008, 0x6008, 0x01, 0x08, 4, 1, 4⟩,
  ⟨0x6008, 0x6008, 0x09, 0x09, 2, 3, 1⟩,
  ⟨0x6009, 0x6009, 0x01, 0x08, 4, 1, 4⟩,
  ⟨0x600A, 0x600A, 0x01, 0x08, 4, 1, 4⟩,
  ⟨0x600B, 0x600B, 0x01, 0x08, 4, 1, 4⟩,
  ⟨0x600C, 0x600C, 0x01, 0x08, 4, 1, 4⟩,
  ⟨0x600C, 0x600C, 0x09, 0x09, 2, 3, 1⟩,
  ⟨0x600D, 0x600D, 0x01, 0x08, 4, 1, 4⟩,
  ⟨0x600E, 0x600E, 0x01, 0x08, 4, 1, 4⟩,
  ⟨0x600F, 0x600F, 0x01, 0x08, 4, 1, 4⟩,
  ⟨0x6010, 0x6010, 0x01, 0x08, 4, 1, 4⟩,
  ⟨0x6010, 0x6010, 0x09, 0x09, 2, 3, 1⟩,
  ⟨0x6011, 0x6011, 0x01, 0x08, 4, 1, 4⟩,
  ⟨0x6012, 0x6012, 0x01, 0x08, 4, 1, 4⟩,
  ⟨0x6013, 0x6013, 0x01, 0x08, 4, 1, 4⟩]

/-- Entry rows, part 4, in ascending index. -/
def entries4 : List Entry := [
  ⟨0x6014, 0x6014, 0x01, 0x08, 4, 1, 4⟩,
  ⟨0x6014, 0x6014, 0x09, 0x09, 2, 3, 1⟩,
  ⟨0x6015, 0x6015, 0x01, 0x08, 5, 1, 8⟩,
  ⟨0x6016, 0x6016, 0x01, 0x08, 4, 1, 4⟩,
  ⟨0x6017, 0x6017, 0x01, 0x08, 4, 1, 4⟩,
  ⟨0x6017, 0x6017, 0x09, 0x09, 2, 3, 1⟩,
  ⟨0x6018, 0x6018, 0x01, 0x08, 4, 1, 4⟩,
  ⟨0x6019, 0x6019, 0x01, 0x08, 4, 1, 4⟩,
  ⟨0x601A, 0x601A, 0x01, 0x08, 4, 1, 4⟩,
  ⟨0x601B, 0x601B, 0x01, 0x08, 4, 1, 4⟩,
  ⟨0x601B, 0x601B, 0x09, 0x09, 2, 3, 1⟩,
  ⟨0x601C, 0x601C, 0x01, 0x08, 4, 1, 4⟩,
  ⟨0x601D, 0x601D, 0x01, 0x08, 4, 1, 4⟩,
  ⟨0x601E, 0x601E, 0x01, 0x08, 4, 1, 4⟩,
  ⟨0x601E, 0x601E, 0x09, 0x09, 2, 3, 1⟩,
  ⟨0x601F, 0x601F, 0x01, 0x08, 4, 1, 4⟩,
  ⟨0x6020, 0x6020, 0x01, 0x08, 4, 1, 4⟩,
  ⟨0x6021, 0x6021, 0x01, 0x08, 4, 1, 4⟩,
  ⟨0x6021, 0x6021, 0x09, 0x09, 2, 3, 1⟩,
  ⟨0x6022, 0x6022, 0x01, 0x08, 4, 1, 4⟩,
  ⟨0x6023, 0x6023, 0x01, 0x08, 4, 1, 4⟩,
  ⟨0x6024, 0x6024, 0x01, 0x08, 4, 1, 4⟩,
  ⟨0x6025, 0x6025, 0x01, 0x08, 4, 1, 4⟩,
  ⟨0x6025, 0x6025, 0x09, 0x09, 2, 3, 1⟩,
  ⟨0x6026, 0x6026, 0x01, 0x08, 4, 1, 4⟩,
  ⟨0x6027, 0x6027, 0x01, 0x08, 4, 1, 4⟩,
  ⟨0x6028, 0x6028, 0x01, 0x08, 4, 1, 4⟩,
  ⟨0x6029, 0x6029, 0x01, 0x08, 4, 1, 4⟩,
  ⟨0x6029, 0x6029, 0x09, 0x09, 2, 3, 1⟩,
  ⟨0x602A, 0x602A, 0x01, 0x08, 4, 1, 4⟩,
  ⟨0x602B, 0x602B, 0x01, 0x08, 4, 1, 4⟩,
  ⟨0x6030, 0x6030, 0x01, 0x30, 5, 1, 8⟩]

/-- Entry rows, part 5, in ascending index. -/
def entries5 : List Entry := [
  ⟨0x6031, 0x6031, 0x01, 0x30, 5, 1, 8⟩,
  ⟨0x6032, 0x6032, 0x01, 0x30, 5, 1, 8⟩,
  ⟨0x6033, 0x6033, 0x01, 0x30, 5, 1, 8⟩,
  ⟨0x6034, 0x6034, 0x01, 0x10, 5, 1, 8⟩,
  ⟨0x6035, 0x6035, 0x01, 0x10, 5, 1, 8⟩,
  ⟨0x6036, 0x6036, 0x01, 0x04, 5, 1, 8⟩,
  ⟨0x6037, 0x6037, 0x01, 0x04, 5, 1, 8⟩,
  ⟨0x6038, 0x6038, 0x01, 0x40, 5, 1, 8⟩,
  ⟨0x6039, 0x6039, 0x01, 0x40, 5, 1, 8⟩,
  ⟨0x603A, 0x603A, 0x01, 0x19, 5, 1, 8⟩,
  ⟨0x603B, 0x603B, 0x01, 0x01, 5, 1, 8⟩,
  ⟨0x603B, 0x603B, 0x02, 0x02, 1, 3, 1⟩,
  ⟨0x6040, 0x6040, 0x01, 0x01, 4, 1, 4⟩,
  ⟨0x6040, 0x6040, 0x02, 0x02, 2, 1, 1⟩,
  ⟨0x6040, 0x6040, 0x03, 0x03, 2, 2, 1⟩,
  ⟨0x6040, 0x6040, 0x04, 0x04, 4, 1, 4⟩,
  ⟨0x6040, 0x6040, 0x05, 0x05, 2, 3, 1⟩,
  ⟨0x6040, 0x6040, 0x06, 0x06, 1, 2, 1⟩,
  ⟨0x6041, 0x6041, 0x00, 0x00, 15, 1, 5792⟩,
  ⟨0x6042, 0x6042, 0x00, 0x00, 15, 1, 5792⟩,
  ⟨0x6048, 0x6048, 0x01, 0x01, 5, 4, 8⟩,
  ⟨0x6048, 0x6048, 0x02, 0x02, 4, 4, 4⟩,
  ⟨0x6048, 0x6048, 0x03, 0x03, 4, 1, 4⟩,
  ⟨0x6048, 0x6048, 0x04, 0x04, 4, 2, 4⟩,
  ⟨0x6048, 0x6048, 0x05, 0x05, 2, 4, 1⟩,
  ⟨0x6048, 0x6048, 0x06, 0x06, 2, 3, 1⟩,
  ⟨0x6048, 0x6048, 0x07, 0x07, 2, 1, 1⟩,
  ⟨0x6048, 0x6048, 0x08, 0x08, 4, 1, 4⟩,
  ⟨0x6048, 0x6048, 0x09, 0x09, 3, 2, 2⟩,
  ⟨0x6048, 0x6048, 0x0A, 0x0A, 2, 2, 1⟩,
  ⟨0x6048, 0x6048, 0x0B, 0x0B, 5, 2, 8⟩,
  ⟨0x6800, 0x6800, 0x01, 0x01, 5, 4, 8⟩]

/-- Entry rows, part 6, in ascending index. -/
def entries6 : List Entry := [
  ⟨0x6800, 0x6800, 0x02, 0x02, 4, 4, 4⟩,
  ⟨0x6800, 0x6800, 0x03, 0x03, 5, 1, 8⟩,
  ⟨0x6801, 0x6801, 0x00, 0x00, 15, 4, 131040⟩,
  ⟨0x6802, 0x6802, 0x01, 0x01, 4, 1, 4⟩,
  ⟨0x6810, 0x6810, 0x00, 0x00, 15, 2, 4096⟩,
  ⟨0x6811, 0x6811, 0x00, 0x00, 15, 2, 32768⟩,
  ⟨0x6812, 0x6812, 0x00, 0x00, 15, 2, 16384⟩,
  ⟨0x6813, 0x6813, 0x01, 0x01, 2, 3, 1⟩,
  ⟨0x6813, 0x6813, 0x02, 0x02, 4, 1, 4⟩,
  ⟨0x6813, 0x6813, 0x03, 0x03, 4, 1, 4⟩,
  ⟨0x6813, 0x6813, 0x04, 0x04, 2, 3, 1⟩,
  ⟨0x6814, 0x6814, 0x00, 0x00, 15, 2, 4096⟩,
  ⟨0x7000, 0x7000, 0x01, 0x01, 2, 6, 1⟩,
  ⟨0x7000, 0x7000, 0x02, 0x02, 4, 6, 4⟩,
  ⟨0x7000, 0x7000, 0x03, 0x03, 4, 6, 4⟩,
  ⟨0x7000, 0x7000, 0x04, 0x04, 5, 6, 8⟩,
  ⟨0x7000, 0x7000, 0x05, 0x05, 5, 6, 8⟩,
  ⟨0x7000, 0x7000, 0x06, 0x06, 2, 6, 1⟩,
  ⟨0x7000, 0x7000, 0x07, 0x07, 4, 6, 4⟩,
  ⟨0x7000, 0x7000, 0x08, 0x08, 4, 6, 4⟩,
  ⟨0x7001, 0x7001, 0x00, 0x00, 15, 6, 32⟩,
  ⟨0x7002, 0x7002, 0x00, 0x00, 15, 6, 64⟩,
  ⟨0x7003, 0x7003, 0x00, 0x00, 15, 6, 32768⟩,
  ⟨0x7004, 0x7004, 0x00, 0x00, 15, 6, 640⟩,
  ⟨0x7010, 0x7016, 0x01, 0x08, 5, 6, 8⟩,
  ⟨0x7016, 0x7016, 0x09, 0x09, 5, 6, 8⟩,
  ⟨0x7800, 0x7800, 0x01, 0x08, 5, 4, 8⟩,
  ⟨0x7801, 0x7801, 0x01, 0x08, 5, 4, 8⟩,
  ⟨0x7802, 0x7802, 0x01, 0x08, 4, 4, 4⟩,
  ⟨0x7803, 0x7803, 0x01, 0x08, 4, 1, 4⟩,
  ⟨0x7804, 0x7804, 0x01, 0x08, 4, 2, 4⟩,
  ⟨0x7805, 0x7805, 0x01, 0x08, 5, 4, 8⟩]

/-- Entry rows, part 7, in ascending index. -/
def entries7 : List Entry := [
  ⟨0x7806, 0x7806, 0x01, 0x08, 15, 1, 40⟩,
  ⟨0x7807, 0x7807, 0x01, 0x08, 15, 2, 40⟩,
  ⟨0x7808, 0x7808, 0x01, 0x08, 4, 1, 4⟩,
  ⟨0x7810, 0x7810, 0x01, 0x01, 5, 4, 8⟩,
  ⟨0x7810, 0x7810, 0x02, 0x02, 4, 4, 4⟩,
  ⟨0x7810, 0x7810, 0x03, 0x03, 4, 1, 4⟩,
  ⟨0x7810, 0x7810, 0x04, 0x04, 4, 2, 4⟩,
  ⟨0x7810, 0x7810, 0x05, 0x05, 2, 4, 1⟩,
  ⟨0x7810, 0x7810, 0x06, 0x06, 2, 3, 1⟩,
  ⟨0x7810, 0x7810, 0x07, 0x07, 2, 1, 1⟩,
  ⟨0x7810, 0x7810, 0x08, 0x08, 4, 1, 4⟩,
  ⟨0x7811, 0x7811, 0x01, 0x01, 1, 4, 1⟩,
  ⟨0x8000, 0x8000, 0x01, 0x01, 4, 1, 4⟩,
  ⟨0x8000, 0x8000, 0x02, 0x02, 4, 1, 4⟩,
  ⟨0x8000, 0x8000, 0x03, 0x03, 1, 3, 1⟩,
  ⟨0x8001, 0x8001, 0x00, 0x00, 15, 1, 8192⟩,
  ⟨0x8002, 0x8002, 0x00, 0x00, 15, 1, 32⟩,
  ⟨0x8003, 0x8003, 0x00, 0x00, 15, 1, 1024⟩,
  ⟨0x8004, 0x8004, 0x01, 0x08, 2, 4, 1⟩,
  ⟨0x8005, 0x8005, 0x01, 0x08, 4, 1, 4⟩,
  ⟨0x8006, 0x8006, 0x01, 0x08, 5, 4, 8⟩,
  ⟨0x8007, 0x8007, 0x01, 0x08, 4, 4, 4⟩]

/-- Every entry of the dictionary (R369). -/
def entries : List Entry :=
  entries0 ++ entries1 ++ entries2 ++ entries3 ++ entries4 ++ entries5 ++ entries6 ++ entries7

/-- The entry an index and subindex name (R369, R394). -/
def entryAt (idx sub : Nat) : Option Entry :=
  entries.find? (fun e => decide (e.idx0 ≤ idx ∧ idx ≤ e.idx1 ∧ e.sub0 ≤ sub ∧ sub ≤ e.sub1))

/-- The scalars whose default is not zero (R373), by key. The placement and program bank CRCs are those of R401. -/
def nonzeroDefaults : List (Nat × Nat) := [
  (0x100001, 0x504C),
  (0x100002, 0xD048),
  (0x201001, 0x28),
  (0x201002, 0x27),
  (0x201003, 0x26),
  (0x201004, 0x25),
  (0x201005, 0x24),
  (0x201006, 0x23),
  (0x201007, 0x22),
  (0x201008, 0xA0),
  (0x201102, 20),
  (0x201103, 0x28),
  (0x201801, 1),
  (0x300006, crcZeroPt),
  (0x400007, 0x3E),
  (0x400008, 0x30),
  (0x410401, 7),
  (0x410402, 7),
  (0x410403, 7),
  (0x410404, 7),
  (0x410405, 7),
  (0x410406, 7),
  (0x410407, 7),
  (0x410408, 7),
  (0x5C0006, crcZeroSfu),
  (0x604002, 0xFF),
  (0x604003, 0xFF),
  (0x60480A, 0xFF),
  (0x60480B, 0xFFFFFFFFFFFFFFFF),
  (0x680001, 0x0001000100010001),
  (0x680002, 0x07000000),
  (0x800401, 2),
  (0x800402, 2),
  (0x800403, 2),
  (0x800404, 2),
  (0x800405, 2),
  (0x800406, 2),
  (0x800407, 2),
  (0x800408, 2)]

/-- The copies of a per-transport entry (R246, R258, R284, R303, R330, R355, R367): the Control Port's stands at the
entry's own key, the field network's at this distance above it. -/
def canCopy : Nat := 2 ^ 24

/-- The default of the scalar at a key (R373). -/
def regDefault (key : Nat) : U64 := BitVec.ofNat 64 (((nonzeroDefaults.find? (fun e => e.1 == key)).map (·.2)).getD 0)

/-- Distance between two DOMAIN entries in the byte store. -/
def domSpan : Nat := 2 ^ 20

/-- The default of a DOMAIN byte (R373): FEP_ROUTE holds 0x0FFF words, INT_ROUTE bytes of 0x80, every other zero. -/
def domDefault (i : Nat) : Byte :=
  if i / domSpan = 0x681100 then (if i % 2 = 0 then 0xFF else 0x0F)
  else if i / domSpan = 0x210100 then 0x80
  else 0

end Sys2Proof.Machine
end

