-- ==== Sys2Proof/Machine/Num.lean ====
section
/-! DEFINITION. Number formats and arithmetic (spec chapter 2): exact values, one rounding per operation (R35), block
scales (R30, R34, R37, R38), the dot product of R39, and the count of non-finite results (R46). -/

namespace Sys2Proof.Machine

/-- An element's exact value: a NaN, a signed infinity, or `± m × 2^e` (a zero keeps its sign). -/
inductive Val where
  | nan
  | inf (neg : Bool)
  | fin (neg : Bool) (m : Nat) (e : Int)
deriving DecidableEq, Repr, Inhabited

/-- Whether a value is neither infinite nor a NaN. -/
def Val.finite : Val → Bool
  | .fin .. => true
  | _ => false

/-- `m × 2^k` for a shift that may be negative only where it is exact. -/
def shiftTo (m : Nat) (e q : Int) : Nat := m <<< (e - q).toNat

/-- The value with its sign changed (R35). -/
def Val.neg : Val → Val
  | .nan => .nan
  | .inf s => .inf (!s)
  | .fin s m e => .fin (!s) m e

/-- The magnitude. -/
def Val.abs : Val → Val
  | .nan => .nan
  | .inf _ => .inf false
  | .fin _ m e => .fin false m e

/-- The exact sum; an exact zero is +0 unless both operands are −0 (R35, R45). -/
def Val.add : Val → Val → Val
  | .nan, _ => .nan
  | _, .nan => .nan
  | .inf s, .inf t => if s == t then .inf s else .nan
  | .inf s, .fin .. => .inf s
  | .fin .., .inf t => .inf t
  | .fin s m e, .fin t n f =>
    let q := min e f
    let a := shiftTo m e q
    let b := shiftTo n f q
    if s == t then .fin s (a + b) q
    else if a = b then .fin false 0 0
    else if a > b then .fin s (a - b) q else .fin t (b - a) q

/-- The exact product; a zero takes the exclusive-or of the signs (R35, R45). -/
def Val.mul : Val → Val → Val
  | .nan, _ => .nan
  | _, .nan => .nan
  | .inf s, .inf t => .inf (s != t)
  | .inf s, .fin t n _ => if n = 0 then .nan else .inf (s != t)
  | .fin s m _, .inf t => if m = 0 then .nan else .inf (s != t)
  | .fin s m e, .fin t n f => .fin (s != t) (m * n) (e + f)

/-- The value times `2^k`. -/
def Val.scale (k : Int) : Val → Val
  | .fin s m e => .fin s m (e + k)
  | v => v

/-- Whether the first value is less than the second; false if either is a NaN, and +0 equals −0. -/
def Val.lt : Val → Val → Bool
  | .nan, _ => false
  | _, .nan => false
  | .inf s, .inf t => s && !t
  | .inf s, .fin .. => s
  | .fin .., .inf t => !t
  | .fin s m e, .fin t n f =>
    let q := min e f
    let a := shiftTo m e q
    let b := shiftTo n f q
    if s && t then decide (b < a)
    else if s then decide (0 < a + b)
    else if t then false
    else decide (a < b)

/-- Position of the leading one of a non-zero number. -/
def log2 (m : Nat) : Int := (Nat.log2 m : Int)

/-- `m × 2^e` as a multiple of `2^q`, rounded to nearest, ties to even (R35). -/
def rne (m : Nat) (e q : Int) : Nat :=
  if q ≤ e then shiftTo m e q
  else
    let sh := (q - e).toNat
    let f := m >>> sh
    let r := m % 2 ^ sh
    let h := 2 ^ (sh - 1)
    if r > h || (r == h && f % 2 == 1) then f + 1 else f

/-- The magnitude bits of `m × 2^e` in a format with `mw` mantissa bits and bias `b`, rounded once, with the exponent
field unbounded above (R35, R36). -/
def roundMag (mw b : Nat) (m : Nat) (e : Int) : Nat :=
  if m = 0 then 0
  else
    let qmin : Int := 1 - (b : Int) - (mw : Int)
    let q := max (log2 m + e - (mw : Int)) qmin
    (q - qmin).toNat * 2 ^ mw + rne m e q

/-- The bias of an IEEE layout with `ew` exponent bits. -/
def biasOf (ew : Nat) : Nat := 2 ^ (ew - 1) - 1

/-- Decoding of an IEEE layout with `ew` exponent and `mw` mantissa bits (R27). -/
def decodeIeee (ew mw x : Nat) : Val :=
  let s := bit x (ew + mw)
  let ef := bits x mw ew
  let mf := bits x 0 mw
  let q : Int := 1 - (biasOf ew : Int) - (mw : Int)
  if ef = 2 ^ ew - 1 then (if mf = 0 then .inf s else .nan)
  else if ef = 0 then .fin s mf q
  else .fin s (2 ^ mw + mf) (q + (ef : Int) - 1)

/-- Rounding to an IEEE layout: overflow gives the signed infinity, a NaN the canonical one (R27, R35, R36). -/
def roundIeee (ew mw : Nat) : Val → Nat
  | .nan => (2 ^ ew - 1) * 2 ^ mw + 2 ^ (mw - 1)
  | .inf s => (if s then 2 ^ (ew + mw) else 0) + (2 ^ ew - 1) * 2 ^ mw
  | .fin s m e =>
    (if s then 2 ^ (ew + mw) else 0) + min (roundMag mw (biasOf ew) m e) ((2 ^ ew - 1) * 2 ^ mw)

/-- Whether an IEEE layout's bits are finite. -/
def finiteIeee (ew mw x : Nat) : Bool := bits x mw ew != 2 ^ ew - 1

/-! ### FP32 and the count of non-finite results -/

/-- The exact value of FP32 bits. -/
def fval (x : F32) : Val := decodeIeee 8 23 x.toNat

/-- The FP32 element nearest a value (R35). -/
def F32.round (v : Val) : F32 := BitVec.ofNat 32 (roundIeee 8 23 v)

/-- The FP32 of an integer ratio `n × 2^e`. -/
def F32.ofNat (n : Nat) : F32 := F32.round (.fin false n 0)

/-- 1.0. -/
def F32.one : F32 := 0x3F800000

/-- The canonical NaN (R27). -/
def F32.nan : F32 := 0x7FC00000

/-- −infinity. -/
def F32.ninf : F32 := 0xFF800000

/-- Whether FP32 bits are finite. -/
def F32.finite (x : F32) : Bool := finiteIeee 8 23 x.toNat

/-- Whether FP32 bits are a NaN. -/
def F32.isNan (x : F32) : Bool := fval x == Val.nan

/-- Counted non-finite results of one piece of work, the KIND of the first, and whether an SFU function gave it (R46, Table 2.7). -/
structure Nf where
  cnt : Nat := 0
  kind : Option Nat := none
  sfu : Bool := false
deriving DecidableEq, Repr, Inhabited

/-- Arithmetic that counts non-finite results. -/
abbrev Arith := StateM Nf

/-- Counts one event of a KIND (R46). -/
def countNf (k : Nat) : Arith Unit := fun n => ((), { cnt := n.cnt + 1, kind := some (n.kind.getD k), sfu := n.sfu })

/-- An FP32 result of an operation on `ops`, rounded once and counted when it is non-finite though every operand is
finite (R35, R46). -/
def opF32 (ops : List F32) (v : Val) : Arith F32 := fun n =>
  let r := F32.round v
  if F32.finite r || !(ops.all F32.finite) then (r, n) else (r, (countNf 0 n).2)

/-- FP32 addition (R35). -/
def fadd (a b : F32) : Arith F32 := opF32 [a, b] ((fval a).add (fval b))
/-- FP32 subtraction (R35). -/
def fsub (a b : F32) : Arith F32 := opF32 [a, b] ((fval a).add (fval b).neg)
/-- FP32 multiplication (R35). -/
def fmul (a b : F32) : Arith F32 := opF32 [a, b] ((fval a).mul (fval b))
/-- FP32 fused multiply-add `a × b + c`, one rounding (R35, R41). -/
def ffma (a b c : F32) : Arith F32 := opF32 [a, b, c] (((fval a).mul (fval b)).add (fval c))

/-- Whether FP32 `a < b`. -/
def F32.lt (a b : F32) : Bool := (fval a).lt (fval b)

/-- Runs arithmetic with no events before it. -/
def runNf {α : Type} (x : Arith α) : α × Nf := x {}

/-- Both counts, the first's KIND first. -/
def Nf.plus (a b : Nf) : Nf :=
  { cnt := a.cnt + b.cnt, kind := a.kind.orElse (fun _ => b.kind), sfu := if a.kind.isSome then a.sfu else b.sfu }

/-! ### Element formats (Tables 2.1, 2.2) -/

/-- Element width in bits of a format code (Table 2.1); 0 for a reserved code. -/
def fmtBits : Nat → Nat
  | 0 => 32 | 1 => 16 | 2 => 16 | 3 => 8 | 4 => 8 | 5 => 4 | 6 => 8 | 7 => 4 | 8 => 32 | _ => 0

/-- Whether a format code is one of Table 2.1's. -/
def fmtValid (f : Nat) : Bool := decide (f ≤ 8)

/-- Whether a format has block scales (Table 2.1). -/
def fmtScaled (f : Nat) : Bool := decide (3 ≤ f ∧ f ≤ 7)

/-- The exact value of one element, before any block scale (R27, R30). -/
def elemVal (f x : Nat) : Val :=
  match f with
  | 0 => decodeIeee 8 23 x
  | 1 => decodeIeee 8 7 x
  | 2 => decodeIeee 5 10 x
  | 3 =>
    if bits x 0 7 = 0x7F then .nan
    else if bits x 3 4 = 15 then .fin (bit x 7) (8 + bits x 0 3) 5
    else decodeIeee 4 3 x
  | 4 => decodeIeee 5 2 x
  | 5 =>
    if bits x 1 2 = 3 then .fin (bit x 3) (2 + bits x 0 1) 1
    else decodeIeee 2 1 x
  | 6 => .fin (bit x 7) (sint 8 x).natAbs 0
  | 7 => .fin (bit x 3) (sint 4 x).natAbs 0
  | _ => .fin false x 0

/-- An element times its block's scale (R30): a scale byte of 0xFF makes it NaN. -/
def scaledVal (s : Nat) (v : Val) : Val := if s = 0xFF then .nan else v.scale ((s : Int) - 127)

/-- The FP32 of a block-scaled element (R34): exact, or the signed infinity beyond the range, counted KIND 0b01. -/
def decodeScaled (s : Nat) (v : Val) : Arith F32 := fun n =>
  let w := scaledVal s v
  let r := F32.round w
  if w.finite && !F32.finite r then (r, (countNf 1 n).2) else (r, n)

/-- The elements of a packed string (R28). -/
def unpack (f : Nat) (bs : Bytes) : List Nat :=
  match fmtBits f with
  | 4 => bs.flatMap (fun b => [b.toNat % 16, b.toNat / 16])
  | 8 => bs.map (·.toNat)
  | 16 => pairs bs
  | _ => quads bs
where
  pairs : Bytes → List Nat
    | a :: b :: r => (a.toNat + 256 * b.toNat) :: pairs r
    | _ => []
  quads : Bytes → List Nat
    | a :: b :: c :: d :: r => unle [a, b, c, d] :: quads r
    | _ => []

/-- Elements packed into bytes (R28). -/
def pack (f : Nat) (xs : List Nat) : Bytes :=
  match fmtBits f with
  | 4 => halves xs
  | w => xs.flatMap (le (w / 8))
where
  halves : List Nat → Bytes
    | a :: b :: r => BitVec.ofNat 8 (a % 16 + 16 * (b % 16)) :: halves r
    | [a] => [BitVec.ofNat 8 (a % 16)]
    | [] => []

/-- Bytes of the packed elements of a payload of `d` elements. -/
def packLen (f d : Nat) : Nat := d * fmtBits f / 8

/-- Payload length of `d` elements (R29, Table 2.3). -/
def payloadLen (f d : Nat) : Nat :=
  alignUp (packLen f d + (if fmtScaled f then d / 32 else 0)) 32

/-- Record length: the 32 B header and the payload (Table 2.3). -/
def recordLen (f d : Nat) : Nat := 32 + payloadLen f d

/-- The elements of a payload before scaling, as exact values. -/
def payloadElems (f d : Nat) (bs : Bytes) : List Val := (unpack f (bs.take (packLen f d))).map (elemVal f)

/-- The scale bytes of a payload (R29). -/
def payloadScales (f d : Nat) (bs : Bytes) : List Nat := (sub bs (packLen f d) (d / 32)).map (·.toNat)

/-- The elements paired with their block's scale. -/
def withScales (vs : List Val) (ss : List Nat) : List (Val × Nat) :=
  vs.zipIdx.map (fun (v, i) => (v, nth ss (i / 32) 0))

/-- A payload decoded to FP32 (R34). -/
def decodePayload (f d : Nat) (bs : Bytes) : Arith (List F32) :=
  let vs := payloadElems f d bs
  if fmtScaled f then (withScales vs (payloadScales f d bs)).mapM (fun (v, s) => decodeScaled s v)
  else pure (vs.map F32.round)

/-! ### Narrowing -/

/-- Narrowing to BF16 or FP16 (R36); a finite value that overflows counts KIND 0b01 (R46). -/
def narrow16 (f : Nat) (x : F32) : Arith Nat := fun n =>
  let ew := if f = 1 then 8 else 5
  let mw := if f = 1 then 7 else 10
  let r := roundIeee ew mw (fval x)
  if F32.finite x && !finiteIeee ew mw r then (r, (countNf 1 n).2) else (r, n)

/-- Exponent of an MX format's largest binade, `emax` of R37. -/
def mxEmax : Nat → Int
  | 3 => 8 | 4 => 15 | _ => 2

/-- One element of an MX block: rounded once, clamped to the largest finite element (R37). -/
def mxElem (f : Nat) (e : Int) (x : Val) : Nat :=
  match x with
  | .fin s m k =>
    let (w, mw, b, top) := match f with
      | 3 => (8, 3, 7, 0x7E)
      | 4 => (8, 2, 15, 0x7B)
      | _ => (4, 1, 1, 0x7)
    (if s then 2 ^ (w - 1) else 0) + min (roundMag mw b m (k - e)) top
  | _ => 0

/-- The largest magnitude of a block. -/
def amax (xs : List Val) : Val := xs.foldl (fun a x => if a.lt x.abs then x.abs else a) (.fin false 0 0)

/-- The smallest `e`, at least −127, with `m × 2^k / 2^e ≤ l` (R38). -/
def intScale (l m : Nat) (k : Int) : Int :=
  let e0 := log2 m + k - log2 l - 1
  let ok := fun (e : Int) => if k ≥ e then decide (shiftTo m k e ≤ l) else decide (m ≤ l <<< (e - k).toNat)
  let e := if ok e0 then e0 else if ok (e0 + 1) then e0 + 1 else e0 + 2
  max e (-127)

/-- One INT8 or INT4 element (R38). -/
def intElem (w l : Nat) (e : Int) (x : Val) : Nat :=
  match x with
  | .fin s m k =>
    let q := min (rne m k e) l
    if s then unsint w (-(q : Int)) else q
  | _ => 0

/-- A block of 32 values narrowed to a block-scaled format: its elements and its scale byte (R37, R38). -/
def encodeBlock (f : Nat) (xs : List Val) : List Nat × Nat :=
  if !(xs.all Val.finite) then (xs.map (fun _ => 0), 0xFF)
  else
    match amax xs with
    | .fin _ m k =>
      if m = 0 then (xs.map (fun _ => 0), 0)
      else if f = 6 ∨ f = 7 then
        let l := if f = 6 then 127 else 7
        let e := intScale l m k
        (xs.map (intElem (fmtBits f) l e), (e + 127).toNat)
      else
        let e := max (log2 m + k - mxEmax f) (-127)
        (xs.map (mxElem f e), (e + 127).toNat)
    | _ => (xs.map (fun _ => 0), 0xFF)

/-- The blocks of 32 of a list, `n` of them. -/
def chunks {α : Type} (k : Nat) : Nat → List α → List (List α)
  | 0, _ => []
  | n + 1, l => l.take k :: chunks k n (l.drop k)

/-- A payload of FP32 values narrowed to a format and laid out under R29 (R36 to R38). -/
def encodePayload (f : Nat) (xs : List F32) : Arith Bytes :=
  let pad := fun (bs : Bytes) => bs ++ zeros (payloadLen f xs.length - bs.length)
  if fmtScaled f then
    let bl := (chunks 32 (xs.length / 32) xs).map (fun b => encodeBlock f (b.map fval))
    pure (pad (pack f (bl.flatMap (·.1)) ++ bl.map (fun b => BitVec.ofNat 8 b.2)))
  else if f = 1 ∨ f = 2 then do
    let ys ← xs.mapM (narrow16 f)
    pure (pad (pack f ys))
  else pure (pad (pack f (xs.map (·.toNat))))

/-- A payload converted from one format to another; equal formats copy bit for bit (R32). -/
def convertPayload (f g d : Nat) (bs : Bytes) : Arith Bytes :=
  if f = g then pure (sub bs 0 (payloadLen f d))
  else do
    let xs ← decodePayload f d bs
    encodePayload g xs

/-! ### Sums (R39) -/

/-- Adjacent pairs summed. -/
def pairSums : List F32 → Arith (List F32)
  | a :: b :: r => do
    let x ← fadd a b
    let t ← pairSums r
    pure (x :: t)
  | l => pure l

/-- The balanced sum of `2^n` values, `tree` of R39. -/
def treeSum : Nat → List F32 → Arith F32
  | 0, l => pure (l.headD 0)
  | n + 1, l => do
    let p ← pairSums l
    treeSum n p

/-- One operand of a dot product: its values and, where it is block-scaled, its elements with scales. -/
structure Opnd where
  scaled : Bool
  elems : List Val
  scales : List Nat
  vals : List F32
deriving DecidableEq, Repr, Inhabited

/-- The operand a payload of format `f` is beside one of format `g`: it is decoded to FP32 only where the two are not both
block-scaled (R39). -/
def opndOf (f g d : Nat) (bs : Bytes) : Arith Opnd := do
  let vs ← if fmtScaled f && fmtScaled g then pure [] else decodePayload f d bs
  pure { scaled := fmtScaled f, elems := payloadElems f d bs, scales := payloadScales f d bs, vals := vs }

/-- An operand of FP32 values. -/
def opndF32 (vs : List F32) : Opnd := { scaled := false, elems := [], scales := [], vals := vs }

/-- The exact sum of products of one block of two block-scaled operands, rounded once (R39). -/
def blockSum (a b : List Val) (sa sb : Nat) : Arith F32 := fun n =>
  let ps := (a.zip b).map (fun (x, y) => x.mul y)
  let t := match ps with
    | [] => .fin false 0 0
    | p :: r => r.foldl Val.add p
  let v := scaledVal sb (scaledVal sa t)
  let r := F32.round v
  if v.finite && !F32.finite r then (r, (countNf 0 n).2) else (r, n)

/-- The products of two lists, each rounded. -/
def products : List F32 → List F32 → Arith (List F32)
  | a :: r, b :: t => do
    let p ← fmul a b
    let q ← products r t
    pure (p :: q)
  | _, _ => pure []

/-- `slice_sum` of R39 for slice `s`. -/
def sliceSum (a b : Opnd) (s : Nat) : Arith F32 :=
  if a.scaled && b.scaled then do
    let one := fun j => blockSum (((a.elems.drop (128 * s)).drop (32 * j)).take 32) (((b.elems.drop (128 * s)).drop (32 * j)).take 32)
      (nth a.scales (4 * s + j) 0) (nth b.scales (4 * s + j) 0)
    let ps ← [0, 1, 2, 3].mapM one
    treeSum 2 ps
  else do
    let ps ← products ((a.vals.drop (128 * s)).take 128) ((b.vals.drop (128 * s)).take 128)
    treeSum 7 ps

/-- `dot` of R39 over `n` indices. -/
def dot (a b : Opnd) (n : Nat) : Arith F32 := do
  let z ← sliceSum a b 0
  (List.range (n / 128 - 1)).foldlM (fun acc s => do
    let t ← sliceSum a b (s + 1)
    fadd acc t) z

/-! ### Collective and residual additions -/

/-- Addition of two elements in their own format (R44): FP32, BF16 or FP16 rounded once, U32 saturating. -/
def addIn (f a b : Nat) : Arith Nat := fun n =>
  if f = 8 then
    if a + b > 0xFFFFFFFF then (0xFFFFFFFF, (countNf 3 n).2) else (a + b, n)
  else
    let ew := if f = 2 then 5 else 8
    let mw := if f = 0 then 23 else if f = 1 then 7 else 10
    let r := roundIeee ew mw ((elemVal f a).add (elemVal f b))
    if finiteIeee ew mw r || !((elemVal f a).finite && (elemVal f b).finite) then (r, n) else (r, (countNf 0 n).2)

/-- Write-back of `acc` into a residual element of FP32 or BF16, one rounding (R43). -/
def writeBackElem (f res : Nat) (acc : F32) : Arith Nat := fun n =>
  let ew := 8
  let mw := if f = 0 then 23 else 7
  let r := roundIeee ew mw ((elemVal f res).add (fval acc))
  if finiteIeee ew mw r || !((elemVal f res).finite && F32.finite acc) then (r, n) else (r, (countNf 0 n).2)

/-- The fixed and ordered sum of a list by `fadd`, from the left. -/
def sumLeft : List F32 → Arith F32
  | [] => pure 0
  | a :: r => r.foldlM fadd a

end Sys2Proof.Machine
end

