-- ==== Sys2Proof/Machine/State.lean ====
section
/-! DEFINITION. The state of one engine: every register, buffer, queue, counter and mode the spec gives it, as plain
data, the queue of waiting commands, and the state after a cold reset. Registers of the object dictionary have one home:
the sparse store `regs` (scalars, `Key`) and `dom` (DOMAIN bytes, `Dom`), both relative to the defaults of R373. -/

namespace Sys2Proof.Machine

/-- Reasons a step stops with a fault. No rule of the spec stops the engine (R7 has it refuse an input and go on), so
no meaning raises one; safe. -/
inductive Fault where
  /-- Never raised: kept so that the type has a name to print. Safe. -/
  | none
deriving DecidableEq, Repr

/-- Reasons a command has no meaning. -/
inductive Refusal where
  /-- Raised by the dispatch for a command whose meaning is not written yet. Safe. -/
  | notModelled (mnemonic : String)
deriving DecidableEq, Repr

/-! ### Time -/

/-- Fabric time (R169, R170, R192 to R203). SLIPS, TB_STATE, TB_PLAN_FRAME and TB_OFFSET stand in `regs`. -/
structure Time where
  /-- TB, fine units of 0.25 ns (Table 7.1). -/
  tb : U64 := 0
  /-- TIME edges since cold reset: real time, 4 ns each. -/
  ticks : Nat := 0
  /-- The fabric frame whose boundary last took effect. -/
  frame : Nat := 0
  /-- TIME edges since that boundary. -/
  edges : Nat := 0
  /-- The fabric slot whose start last took effect at the link ports. -/
  slot : Option Nat := none
  /-- The frame in force is a slip frame (R201). -/
  slipping : Bool := false
  /-- The frame in force is a slip frame that has not begun yet: its SLIP is to come at this boundary. -/
  slipDue : Bool := false
  /-- Fine units of offset still to remove by slewing; positive when the local timebase is ahead (R193). -/
  slew : Int := 0
  /-- TIME edges since the last edge of 15 or 17 fine units (R193). -/
  sinceSlew : Nat := 16
  /-- Deficit Δ in cc (R200). -/
  deficit : Nat := 0
  /-- Target of a deficit slip this engine requested that has yet to begin (R200). -/
  deficitReq : Option Nat := none
  /-- Consecutive parent words within 2 ns (R193). -/
  lockRun : Nat := 0
  /-- Consecutive tick-input edges within 2 ns of a frame boundary (R408). -/
  tickRun : Nat := 0
  /-- An acquiring engine has set its time from its parent (R193, R195). -/
  acquired : Bool := false
  /-- TIME edges since cold reset at the end of internal initialisation (R407). -/
  initAt : Nat := 0
  /-- The throttle input as its pins stand, and how many TIME edges have sampled that value, at most 2 (R396). -/
  throttle : Nat := 0
  sampled : Nat := 2
deriving DecidableEq, Repr, Inhabited

/-- A stretch of a frame with one CORE rate: from TIME edge `start` of the frame, N delivered edges a window, floor N_f
(R396 to R398). -/
structure RateSeg where
  start : Nat
  n : Nat
  floor : Nat
deriving DecidableEq, Repr, Inhabited

/-- A notice (R197): kind 1 slip, 2 plan switch, 3 step replay. -/
structure Notice where
  kind : Nat
  target : Nat
  arg : Nat
deriving DecidableEq, Repr, Inhabited

/-- A notice waiting to leave on a link port, with the timing words it still has to ride in (R197, R198). -/
structure NoticeTx where
  port : Nat
  notice : Notice
  left : Nat
deriving DecidableEq, Repr, Inhabited

/-- The timebase side of a link port (R191, R192, R204, R407, R452). Its delay and its lost bit stand in `regs`. -/
structure LinkPort where
  /-- LK_UP. -/
  up : Bool := false
  /-- The slot in which a chunk image last arrived. -/
  heard : Option Nat := none
  /-- Grants of a slot taken so far: the fabric slot plus 1, and the flits of its image and those lent since (R110, R112). -/
  used : Nat × Nat := (0, 0)
  /-- Consecutive timing words that passed their CRC (R407). -/
  good : Nat := 0
  /-- Slots since a timing word last passed its CRC, or since the port came under watch (R204, R407). -/
  silent : Nat := 0
  /-- The port has met R407 since it last lost readiness. -/
  ready : Bool := false
  /-- TX_LO of the last word received and the local TB at its arrival. -/
  last : Option (Nat × Nat) := none
  /-- TX_LO of the words sent, newest first. -/
  sent : List Nat := []
  /-- The last one-way delays measured, newest first, at most 16. -/
  delays : List Nat := []
  /-- The last offsets measured, newest first, at most 16. -/
  offsets : List Int := []
deriving DecidableEq, Repr, Inhabited

/-! ### Contexts -/

/-- A replacement frame of a degraded plan (R205). -/
structure Repl where
  frame : Nat
  len : Nat
  off : Nat
  crc : Nat
deriving DecidableEq, Repr, Inhabited

/-- A degraded plan (R205). -/
structure Plan where
  flid : Nat
  repl : List Repl
deriving DecidableEq, Repr, Inhabited

/-- A loaded image: its header and tables as read from host memory (Tables 7.2 to 7.6), and the layout descriptors
latched with it (R275). -/
structure Image where
  addr : Nat
  hdr : Bytes
  links : Bytes
  part : Bytes
  layers : List Bytes
  index : List Repl
  plans : List Plan
  latched : List (Nat × Bytes)
  /-- Link ports that carry planned chunks in some frame (R207). -/
  used : List Nat
deriving DecidableEq, Repr, Inhabited

/-- A step whose work may still be outstanding (R419): plan frames `first` to `last` of its current attempt. -/
structure OpenStep where
  step : Nat
  attempt : Nat
  first : Nat
  last : Nat
  /-- Its slack has expired with work outstanding (R416). -/
  slack : Bool := false
deriving DecidableEq, Repr, Inhabited

/-- A frame program of a running context (R185): for plan frame `frame`, image frame `k`; `bytes` once fetched. -/
structure Prog where
  frame : Nat
  k : Nat
  src : Repl
  bytes : Option Bytes
  dropped : Bool
deriving DecidableEq, Repr, Inhabited

/-- An unload path in progress (R190): the image that replaces the one given up, if any, and the load's result. -/
structure Unload where
  next : Option Image
  code : Nat
  offset : Nat
deriving DecidableEq, Repr, Inhabited

/-- One of the eight contexts (R189, R190, R419, R425). Its dictionary entries stand in `regs`. -/
structure Ctx where
  image : Option Image := none
  /-- An unload path runs. -/
  unload : Option Unload := none
  /-- DRU_SEED in force since the start (R214). -/
  seed : U64 := 0
  /-- Plan frame at which the current step's attempt began. -/
  first : Nat := 0
  /-- ATTEMPT of the current step (Table 8.4). -/
  attempt : Nat := 0
  /-- Earlier attempts of steps of this run: step and count (R421). -/
  attempts : List (Nat × Nat) := []
  opens : List OpenStep := []
  /-- A replay of a step waits for its plan frame: step, attempt, plan frame (R421). -/
  replay : Option (Nat × Nat × Nat) := none
  /-- The last of the steps that the latest replay runs again (R425). -/
  replayTo : Option Nat := none
  /-- Steps for which a fault has imposed a stop that governs at an abort boundary (R425). -/
  faultStops : List Nat := []
  progs : List Prog := []
  /-- GRADIENT commands whose frame has passed and whose work has not begun: step and command (R16). -/
  gradsDue : List (Nat × Nat) := []
  /-- Frames whose program failed twice in an attempt: step and image frame (R185). -/
  badFrames : List (Nat × Nat) := []
  /-- FLIDs of the degraded plans in force (R206). -/
  plans : List Nat := []
  /-- Plan frame in which this engine last raised a step-replay notice for the context (R418). -/
  noticed : Option Nat := none
  /-- Windows that outlasted TILE_WD: step, layer, tile sequence, WORK (R416). -/
  outlasted : List (Nat × Nat × Nat × Nat) := []
  /-- Collectives that timed out: step, group, sequence number (R328). -/
  timedOut : List (Nat × Nat × Nat) := []
deriving DecidableEq, Repr, Inhabited

/-! ### Dictionary transports -/

/-- What a transaction in progress will show when it completes (R384, R388). -/
structure Txn where
  op : Nat
  tid : Nat := 0
  idx : Nat := 0
  sub : Nat := 0
  code : Nat := 0
  detail : Nat := 0
  pos : Nat := 0
  value : Option U64 := none
  /-- Response payload bytes from byte 8 on (Table 15.10). -/
  tail : Bytes := []
  /-- A warm reset follows the transaction (R403). -/
  warm : Bool := false
  /-- A CAN data rate in force once the response has been sent (R385). -/
  rate : Option Nat := none
deriving DecidableEq, Repr, Inhabited

/-- A transport's buffers and its transaction in progress (R374, R382 to R388). -/
structure Port where
  rbuf : List (Nat × Byte) := []
  wbuf : List (Nat × Byte) := []
  busy : Option Txn := none
deriving DecidableEq, Repr, Inhabited

/-- The Control Port window's own registers (Tables 15.5 to 15.7). -/
structure CpWindow where
  arg : U64 := 0
  value : U64 := 0
  list : List (Nat × U64) := []
  overlap : Bool := false
  seq : Nat := 0
  pos : Nat := 0
  code : Nat := 0
  detail : Nat := 0
deriving DecidableEq, Repr, Inhabited

/-- The field-network port beside its counters in `regs` (R386, R389, R390). -/
structure Can where
  /-- Responses of requests refused while another was handled (R388): they follow its response. -/
  waiting : List Bytes := []
  /-- Interrupt event frames waiting: output and cause. -/
  events : List (Nat × Nat) := []
  /-- A data rate written, in force after its response (R385). -/
  rate : Nat := 0
  /-- Milliseconds of real time at the last heartbeat. -/
  beat : Nat := 0
  /-- Interrupt outputs already announced as high. -/
  levels : Nat := 0
deriving DecidableEq, Repr, Inhabited

/-- Where the engine stands with its resets (R400 to R405, R395). -/
inductive Phase where
  | coldHeld
  | initialising
  | running
  /-- A warm reset runs: RST_CAUSE it will leave. -/
  | warm (cause : Nat)
  /-- Power is removed (R410). -/
  | off
deriving DecidableEq, Repr, Inhabited

/-! ### Logs, observation and metering -/

/-- Entries lost from a ring since the last written: how many, and the fabric frame of the first (R228). -/
structure Loss where
  count : Nat := 0
  frame : Nat := 0
deriving DecidableEq, Repr, Inhabited

/-- A snapshot's latch registers (R431, R432): what the image is formed from. -/
structure Latch where
  tick : Nat
  frame : Nat
  slips : Nat
  id : Nat
  origin : Nat
  mask : Nat
  seq : Nat
  regs : List (Nat × U64)
deriving DecidableEq, Repr, Inhabited

/-- An entry of the replay log or the trace on its way to the ring (R230, R435): it is written at the first TIME edge after
its event, with that edge's tick. `port` orders the trace's records; 64 stands for none. -/
structure LogEnt where
  /-- The LATCH record of an armed start, the first written (R436). -/
  first : Bool := false
  kind : Nat
  ctx : Nat
  attempt : Nat
  flags : Nat
  port : Nat := 64
  arg0 : Nat
  arg1 : Nat
deriving DecidableEq, Repr, Inhabited

/-- The internal buffer of a log writer (R228): entries that wait, oldest first, at most 256, and the entries lost since for want
of room. -/
structure LogBuf where
  ents : List LogEnt := []
  lost : Loss := {}
deriving DecidableEq, Repr, Inhabited

/-- The Observation Unit beside its entries (R431 to R436). -/
structure Obs where
  latch : Option Latch := none
  /-- TIME edges since cold reset at the last accepted latch edge, and at the last dropped one (R433). -/
  lastTick : Option Nat := none
  dropTick : Option Nat := none
  /-- Latch edges to come: origin and TIME edges still to pass (R431). -/
  latchDue : List (Nat × Nat) := []
  /-- The trace traces: TRC_STATE beside an arm that waits (R436). -/
  tracing : Bool := false
  traceBuf : LogBuf := {}
  /-- An image is still to complete (R432). -/
  pending : Bool := false
  accepted : Nat := 0
  traceLoss : Loss := {}
  /-- Counted bank accesses of the frame in force, by bank × 2 + (1 for a write) (R180), and what contexts that have stopped in
  it declared for it. -/
  loads : List (Nat × Nat) := []
  declared : List (Nat × Nat) := []
deriving DecidableEq, Repr, Inhabited

/-- A state record on its way to the non-volatile store (R443). -/
structure NvWrite where
  seq : Nat
  quiet : Bool
  slot : Nat
  bytes : Bytes
  /-- METER_MS mark at which it was written, and whether its interval has passed. -/
  mark : Nat
  late : Bool := false
deriving DecidableEq, Repr, Inhabited

/-- The Sealed Metering Partition beside its entries (R437 to R446). -/
structure Meter where
  /-- Engine-side accumulators, by field × 8 + context (R437). -/
  acc : List (Nat × Nat) := []
  /-- Tap words on their way to the partition, oldest first. -/
  tap : List U64 := []
  /-- Tap words that arrived before the restore ended (R442). -/
  held : List U64 := []
  /-- The device key as read at the end of cold reset (R466). -/
  key : Bytes := []
  /-- EDGES of the frame in force already sent, and those of a frame cut short by a step of the timebase still to send (R437). -/
  edgesSent : Nat := 0
  edgesOwed : Nat := 0
  /-- METER_MS multiple of 1,000 last acted on (R443). -/
  mark : Nat := 0
  /-- METER_MS at real time `tickBase`. -/
  msBase : Nat := 0
  tickBase : Nat := 0
  reportSeq : Nat := 0
  /-- Last power word and the METER_MS of it (R440). -/
  power : Option (Nat × Nat) := none
  missing : Bool := false
  /-- BUSY_CC of each context since the last power word, by context. -/
  busy : List (Nat × Nat) := []
  /-- EDGES since the last power word. -/
  powerEdges : Nat := 0
  /-- Every context was STOPPED since the last record (R443). -/
  quiet : Bool := true
  /-- Refusals of this interval, and the last REFUSED tap value (R444). -/
  refCount : Nat := 0
  refLast : Nat := 0
  inFlight : Option NvWrite := none
  /-- A record is due once a late one completes (R443). -/
  owed : Bool := false
deriving DecidableEq, Repr, Inhabited

/-- What a build of the engine fixes (R2, R393, R446); no command changes it. -/
structure Build where
  partition : Bool
  revision : U32
  serial : U64
  fwHash : Bytes
deriving DecidableEq, Repr, Inhabited

/-- A range of host memory that a memory port reaches for a context (R462). -/
structure Reach where
  ctx : Nat
  port : Nat
  base : Nat
  len : Nat
deriving DecidableEq, Repr, Inhabited

/-- The surroundings as far as the engine meets them (R1): host memory, the ranges the memory-port managers reach,
straps, the device key, the non-volatile store, how many fine units after the last TIME edge the tick input rises (R464), and the
offset that CP_ADDR holds at a read access of the window (R382, R464). -/
structure Env where
  mem : List (Nat × Byte) := []
  reach : List Reach := []
  strap : Nat := 1
  key : BitVec 256 := 0
  nv : List (Nat × Byte) := []
  tickPhase : Nat := 0
  cpAddr : Nat := 0x10
deriving DecidableEq, Repr, Inhabited

/-- What the engine puts on its ports. Nothing in the engine reads it. -/
inductive Out where
  /-- An image on a link port with its type (R110, R112): 1 a chunk image, 2 the trailer alone. -/
  | image (port type : Nat) (bytes : Bytes)
  /-- A chunk on a tile port (R120). -/
  | tileChunk (port : Nat) (bytes : Bytes)
  /-- A control flit on a tile port (R458). -/
  | control (port : Nat) (bytes : Bytes)
  /-- A timing word on a link port (R453). -/
  | timing (port : Nat) (word : BitVec 256)
  /-- A fabric message on a link port (R338), in flits of type 3. -/
  | message (port : Nat) (bytes : Bytes)
  /-- TP_SLOT on every tile port (R454). -/
  | tileSlot
  /-- A CAN FD frame (R387, R389). -/
  | canFrame (id : Nat) (bytes : Bytes)
  /-- Read data of the Control Port (R464). -/
  | cpData (value : U64)
  /-- The tick output's pulse (R196). -/
  | tick
  /-- The snapshot-trigger output's pulse (R434). -/
  | snap
  /-- Words of a record on the store interface, then NV_SYNC (R466). -/
  | nvRecord (addr : Nat) (bytes : Bytes)
  /-- Words of the store read, from an address (R442, R466). -/
  | nvRead (addr len : Nat)
  /-- The key transfer (R466). -/
  | keyReq
deriving DecidableEq, Repr, Inhabited

/-- What a tile port has sent since a slot's start (R459): the fabric slot plus 1, chunks, control flits. -/
structure TileTx where
  slot : Nat := 0
  chunks : Nat := 0
  flits : Nat := 0
deriving DecidableEq, Repr, Inhabited

/-! ### Tiles and streams -/

/-- One position's selection as the Selector hands it over (R61 to R66, R76): its status word, its K choice entries (Table 3.4), and
its reserve list. -/
structure Sel where
  status : Nat := 0
  entries : List U64 := []
  reserve : List Nat := []
deriving DecidableEq, Repr, Inhabited

/-- A tile window (R208, R416) and what its units hold of the tile: `stage` 0 open, 1 identified, 2 ingress complete,
3 scored, 4 selected, 5 complete. -/
structure Win where
  ctx : Nat
  step : Nat
  attempt : Nat
  layer : Nat
  tile : Nat
  index : Nat
  port : Nat
  work : Nat
  /-- Plan stamp of the open tick (R417) and the real time of it. -/
  stamp : Nat
  opened : Nat
  begun : Bool := false
  held : Nat := 0
  stage : Nat := 0
  /-- Placement bank latched when the window opened (R97), and its CRC. -/
  bank : Nat := 0
  ptCrc : Nat := 0
  present : Nat := 0
  ids : List Nat := []
  /-- The tile input buffer: payloads of the present positions in position order (R457). -/
  input : Bytes := []
  /-- Payloads that came before TIN began the window; TIN takes them as it begins (R208, R457). -/
  early : Bytes := []
  /-- Logits by position, in expert order, padding columns included (R54). -/
  logits : List (List F32) := []
  sels : List Sel := []
  /-- TILE_WD has expired for it already. -/
  watched : Bool := false
deriving DecidableEq, Repr, Inhabited

/-- A layer's bias vector and mask bitmap as read for a step (R57). -/
structure SelIn where
  ctx : Nat
  step : Nat
  layer : Nat
  bias : List F32
  mask : Bytes
  crc : Nat
deriving DecidableEq, Repr, Inhabited

/-- A tile's part of a layer's load statistics (R67): tokens, count and probability sum by expert. -/
structure StatPart where
  ctx : Nat
  step : Nat
  attempt : Nat
  layer : Nat
  tile : Nat
  tokens : Nat
  counts : List Nat
  psums : List F32
deriving DecidableEq, Repr, Inhabited

/-- What a piece belongs to: the stream of (context, step, layer, tile) from `src` to `dst`; `kind` is the SOURCE code
of Table 7.9, 8 for a gap stream and 9 for a chunk map. -/
structure PieceKey where
  ctx : Nat
  step : Nat
  layer : Nat
  tile : Nat
  kind : Nat
  src : Nat
  dst : Nat
  idx : Nat
deriving DecidableEq, Repr, Inhabited

/-- A piece of a stream (R84, R115): its bytes lie in the Staging Store buffer `buf`; until it is
granted they stay with the unit that forms them, in `fill`. -/
structure Piece where
  key : PieceKey
  len : Nat
  cls : Nat := 1
  buf : Option Nat := none
  fill : Bytes := []
  /-- Every byte lies in pad payloads: no buffer (R84, R109). -/
  padOnly : Bool := false
  /-- Its bytes are all written, or its chunk has committed. -/
  ready : Bool := false
  /-- Committed with no records (R117). -/
  void : Bool := false
  /-- Received here rather than formed here. -/
  rx : Bool := false
  /-- CRC field of its chunk. -/
  crc : Nat := 0
  /-- Arrival order: cycle stamp and port (R128). -/
  arrival : Nat := 0
  port : Nat := 0
  /-- Its chunk has been sent (its first sending). -/
  sent : Bool := false
  /-- Offset and length of pad payloads in it, which are never written (R83). -/
  holes : List (Nat × Nat) := []
deriving DecidableEq, Repr, Inhabited

/-- A stream formed at this engine: its record length, its places as (port, slot, entry, pos, expert, used), in place
order (R81). -/
structure Place where
  tport : Nat
  slot : Nat
  entry : Nat
  pos : Nat
  expert : Nat
  used : Bool
deriving DecidableEq, Repr, Inhabited

/-- A stream this engine formed: of KIND `kind` (SOURCE code), toward `dst`, with its record length and places (R81). -/
structure Stream where
  ctx : Nat
  step : Nat
  layer : Nat
  tile : Nat
  kind : Nat
  dst : Nat
  reclen : Nat
  places : List Place
deriving DecidableEq, Repr, Inhabited

/-- The fields of a record header (Table 5.1). -/
structure Hdr where
  place : Nat := 0
  slot : Nat := 0
  tport : Nat := 0
  stepLo : Nat := 0
  gate : Nat := 0
  pos : Nat := 0
  tile : Nat := 0
  kind : Nat := 0
  fmt : Nat := 0
  zeroVisit : Bool := false
  masked : Bool := false
  rerouted : Bool := false
  gap : Bool := false
  pad : Bool := false
  rank : Nat := 0
  expert : Nat := 0
  layer : Nat := 0
  stport : Nat := 0
  src : Nat := 0
  token : Nat := 0
deriving DecidableEq, Repr, Inhabited

/-- A place of a return stream that has been written (R122); its bytes stand in the stream's pieces. It tells whether its payload
is left unwritten (a pad), when and on which tile port it came, and whether it began in an earlier chunk than the one that
completed it (R128). -/
structure RetRec where
  place : Nat
  pad : Bool := false
  at_ : Nat := 0
  port : Nat := 0
  cont : Bool := false
deriving DecidableEq, Repr, Inhabited

/-- A return stream (R122): the answers to the stream that `src` sent here, or that this engine formed for itself. -/
structure Ret where
  ctx : Nat
  step : Nat
  layer : Nat
  tile : Nat
  /-- KIND of the returned records, 1 or 3. -/
  kind : Nat
  /-- It answers the refetch dispatch of B1 (R148). -/
  b1 : Bool := false
  src : Nat
  /-- Places of the dispatch stream. -/
  count : Nat
  /-- SEQ of the dispatch that brought the records, copied into the answers (R120). -/
  seq : Nat
  /-- Places whose record was sent, with the tile port and the header sent. -/
  sent : List (Nat × Nat × Hdr) := []
  /-- Places written: pad and void places, and returned records. -/
  filled : List RetRec := []
  /-- Pieces formed. -/
  made : List Nat := []
deriving DecidableEq, Repr, Inhabited

/-- A chunk sent and held until released (R116). -/
structure Held where
  ctx : Nat
  step : Nat
  x : Xfer
  bytes : Bytes
  /-- Slot of its last sending, and plan stamp of its first (R416). -/
  slot : Nat
  stamp : Nat
  /-- It waits in the re-send queue. -/
  again : Bool := false
  /-- On a tile port: the source node of the stream it was read from. -/
  from_ : Nat := 0
  /-- KIND of that stream's pieces, and the places whose records have bytes in the chunk. -/
  kind : Nat := 0
  places : List Nat := []
  /-- Staging Store runs that a sending reads: address and length. -/
  reads : List (Nat × Nat) := []
deriving DecidableEq, Repr, Inhabited

/-- A SEND whose chunk was not ready at its readiness point (R188); `due` once its planned slot has come. -/
structure Late where
  ctx : Nat
  step : Nat
  x : Xfer
  due : Bool := true
deriving DecidableEq, Repr, Inhabited

/-- A piece refused for its signature (R117): `node` the far end of its stream, `kind` the SOURCE code, 10 for a return of
B1. -/
structure Lost where
  ctx : Nat
  step : Nat
  layer : Nat
  tile : Nat
  kind : Nat
  node : Nat
  piece : Nat
deriving DecidableEq, Repr, Inhabited

/-- A TILE_SEND whose places had not all committed (R188). -/
structure LateTile where
  ctx : Nat
  step : Nat
  port : Nat
  layer : Nat
  tile : Nat
  src : Nat
  first : Nat
  count : Nat
  dir : Nat
  seq : Nat
deriving DecidableEq, Repr, Inhabited

/-- An output of another kind that is late (R188): `kind`, `layer` and `tile` name it as OUTPUT_LATE does. -/
structure LateOut where
  ctx : Nat
  step : Nat
  kind : Nat
  layer : Nat
  tile : Nat
deriving DecidableEq, Repr, Inhabited

/-- A chunk that has passed its checks and cannot commit until its buffer is granted (R9, R115): the port and slot of its copy's arrival,
its header, its bytes. -/
structure InHand where
  port : Nat
  slot : Nat
  hdr : Nat
  bytes : Bytes
deriving DecidableEq, Repr, Inhabited

/-- The expectation of a RECEIVE (R184). -/
structure Expect where
  ctx : Nat
  step : Nat
  x : Xfer
  relay : Bool
  /-- Plan stamp of the planned receive slot. -/
  stamp : Nat
  committed : Bool := false
  void : Bool := false
  /-- KIND of the piece it fills (Piece.key). -/
  kind : Nat := 0
  /-- Header of the chunk committed for a relay, sent on unchanged (R113). -/
  hdr : Nat := 0
  /-- A copy that has passed its checks and waits for its buffer. -/
  inHand : Option InHand := none
deriving DecidableEq, Repr, Inhabited

/-- A release to send (R115, R459): on a link port the words of R111, on a tile port the entry of Table 19.7. -/
structure Rel where
  port : Nat
  /-- Slot from which it may leave. -/
  due : Nat
  status : Nat
  /-- Slot in which the copy arrived. -/
  slot : Nat
  /-- Tile ports: context, CHUNK_SEQ, step. -/
  ctx : Nat
  seq : Nat
  step : Nat
  /-- The link port order in which copies of one slot were received. -/
  order : Nat
deriving DecidableEq, Repr, Inhabited

/-- The next CHUNK_SEQ of a tile-port series (R108, R455): per context, step, port and direction. -/
structure Series where
  ctx : Nat
  step : Nat
  port : Nat
  toTile : Bool
  next : Nat
deriving DecidableEq, Repr, Inhabited

/-- A tile-origin chunk's unfinished record (R456): the KIND, phase SEQ and record length of the answers it belongs to, and the bytes
of it that have arrived. -/
structure Partial where
  ctx : Nat
  step : Nat
  port : Nat
  kind : Nat
  seq : Nat
  reclen : Nat
  bytes : Bytes
deriving DecidableEq, Repr, Inhabited

/-- One route entry of a combine (R123 to R128): `state` 0 waiting, 1 combined or kept, 2 closed. -/
structure CEnt where
  pos : Nat
  rank : Nat
  entry : Nat
  node : Nat
  place : Nat
  state : Nat
  /-- The record failed or returned GAP in this phase though the log does not close it (R148). -/
  lost : Bool := false
deriving DecidableEq, Repr, Inhabited

/-- A combine (R123, R149, R150): `work` 0 forward, 1 input gradient, 2 refetch return. -/
structure Comb where
  ctx : Nat
  step : Nat
  attempt : Nat
  layer : Nat
  tile : Nat
  index : Nat
  work : Nat
  /-- Plan stamp of the close point (R131). -/
  closeAt : Nat
  log : Option Bytes := none
  ents : List CEnt := []
  /-- Open sums: position and accumulator (R126). -/
  sums : List (Nat × List F32) := []
  /-- Positions done before this attempt's writes (R423), and positions whose write has completed. -/
  done : Nat := 0
  written : Nat := 0
  /-- CRCs of the return pieces: node, piece, CRC (R218). -/
  crcs : List (Nat × Nat × Nat) := []
  closed : Bool := false
  late : Bool := false
deriving DecidableEq, Repr, Inhabited

/-- The backward work of one tile (R142 to R157). -/
structure Grad where
  ctx : Nat
  step : Nat
  layer : Nat
  tile : Nat
  index : Nat
  log : Bytes := []
  lsave : Bytes := []
  osave : Bytes := []
  /-- Gate gradient of each route entry (R145). -/
  dg : List F32 := []
  /-- Logit gradients by position (R153). -/
  dx : List (Nat × List F32) := []
  b4 : Bool := false
  b5 : Bool := false
  routerDone : Bool := false
  /-- Positions whose router-term write is done (R423). -/
  written : Nat := 0
deriving DecidableEq, Repr, Inhabited

/-- The router-gradient work of one layer and step (R152, R155, R158 to R163). -/
structure LayerGrad where
  ctx : Nat
  step : Nat
  layer : Nat
  /-- Visit counts by expert (R158). -/
  visits : List Nat := []
  /-- The aux coefficients (R152). -/
  aux : Option (List F32) := none
  /-- Elements of the reduced gradient kept for delivery, by element number (R316). -/
  rows : List (Nat × Nat) := []
  /-- Tiles whose contribution is in the accumulator (R155). -/
  tiles : Nat := 0
  /-- B6 has run: the contributions stand in the reduction buffer. -/
  reduced : Bool := false
  /-- The reduced visits and rows have been taken for delivery. -/
  formed : Bool := false
  /-- Residency: plan stamp of the check, deadline in plan frames, confirmed (R162). -/
  check : Option (Nat × Nat) := none
  /-- Fabric frame of the last residency read (R162). -/
  readAt : Nat := 0
  confirmed : Bool := false
  absent : Bool := false
deriving DecidableEq, Repr, Inhabited

/-- What the DRU keeps of a step in progress (R216 to R220, R229). -/
structure Audit where
  ctx : Nat
  step : Nat
  attempt : Nat
  /-- Weight fold by layer (R216). -/
  folds : List (Nat × Nat) := []
  /-- Tile digests: layer, kind, tile sequence, digest (R219). -/
  tiles : List (Nat × Nat × Nat × Bytes) := []
  /-- Values a tile digest takes: layer, tile, item (Table 8.3), value. -/
  vals : List (Nat × Nat × Nat × Nat) := []
  /-- Return folds and completions noted: layer, kind, tile. -/
  closable : List (Nat × Nat × Nat) := []
  /-- Delivery chunk CRCs: layer, CHUNK_SEQ, CRC (R218). -/
  deliv : List (Nat × Nat × Nat) := []
  /-- Piece CRCs of the phases: phase SEQ and sort key, CRC (R229). -/
  phase : List (Nat × List Nat × Nat) := []
  /-- Phases whose fold has been recorded. -/
  phaseDone : List Nat := []
  closed : Bool := false
  digest : Bytes := []
  scan : Nat := 0
deriving DecidableEq, Repr, Inhabited

/-! ### Pools and queues -/

/-- A unit's buffer request that waits (R241, R243): the piece it is for and which of its buffers. -/
structure PoolReq where
  ctx : Nat
  key : PieceKey
deriving DecidableEq, Repr, Inhabited

/-- One pool class beside its entries (R235 to R244): the owner map, the cache (top first), the ring's head and tail in
entries since initialisation, and ring transfers in flight. -/
structure PoolClass where
  owner : List (Nat × Nat) := []
  cache : List Nat := []
  head : Nat := 0
  tail : Nat := 0
  reading : Nat := 0
  writing : List Nat := []
  wait : List PoolReq := []
deriving DecidableEq, Repr, Inhabited

/-- A packet offered that waits (R254): its producer, as clock domain × 64 + port, its context, its words, and whether the
producer has committed it whole. -/
structure Offer where
  producer : Nat
  ctx : Nat
  words : List Bytes
  whole : Bool := false
deriving DecidableEq, Repr, Inhabited

/-- A packet queue beside its descriptor (R254 to R262). Pointers count words modulo 65,536. -/
structure Queue where
  write : Nat := 0
  commit : Nat := 0
  read : Nat := 0
  mark : Nat := 0
  release : Nat := 0
  pend : Nat := 0
  pendWords : Nat := 0
  credits : Nat := 0
  /-- The open packet: words of it. -/
  opened : Option Nat := none
  above : Bool := false
  /-- Offers held to a later cycle (R254), in the order in which they will be taken. -/
  offers : List Offer := []
deriving DecidableEq, Repr, Inhabited

/-! ### Press and SFU -/

/-- A copy or job in progress: its index, its descriptor, and the layout descriptors and program it runs with, as
latched when it began; `aborted` once it has lost VALID or its owner (R283, R301, R302). -/
structure Run where
  idx : Nat
  desc : Bytes
  src0 : Bytes := []
  src1 : Bytes := []
  dst : Bytes := []
  prog : Bytes := []
  aborted : Bool := false
deriving DecidableEq, Repr, Inhabited

/-- The copy starts of the Press or the job starts of the SFU: queued indices, oldest first, and the one running. -/
structure Starts where
  queue : List Nat := []
  running : Option Run := none
deriving DecidableEq, Repr, Inhabited

/-! ### Collective Engine -/

/-- A collective operation (R310 to R328). Pieces are numbered from 0. -/
structure Coll where
  ctx : Nat
  step : Nat
  group : Nat
  seq : Nat
  /-- The command's other class fields (Table 12.2). -/
  srcDesc : Nat
  dstDesc : Nat
  fmt : Nat
  cap : Nat
  queue : Nat
  signal : Bool
  kind : Nat
  layer : Nat
  /-- Plan stamp of the command (R326). -/
  stamp : Nat
  begun : Bool := false
  /-- Pieces whose up value is formed, and pieces whose result is written. -/
  upped : List Nat := []
  written : List Nat := []
  /-- Elements padded and dropped at this member (R312). -/
  padded : Nat := 0
  dropped : Nat := 0
  /-- Completed. -/
  done : Bool := false
  /-- Class of its abort, 0 none (R325 to R327). -/
  aborted : Nat := 0
  /-- The command has been issued here: an operation may be aborted before it. -/
  issued : Bool := true
  /-- Chunks released to this member: piece and tree neighbour. -/
  released : List (Nat × Nat) := []
deriving DecidableEq, Repr, Inhabited

/-- What a piece slot has received or formed (R315, R319): `kind` 0 the up value received from child `node`, 1 the member's own up value,
2 the result received from the parent, 3 a piece of the delivery stream. The slot's 4 KiB in the Staging Store hold the latest. An up
value of a child is also latched in the unit as `data` until the own up value is formed: two of them do not fit one slot (DEDUCED, log
entry 80). -/
structure Part where
  kind : Nat
  node : Nat
  len : Nat
  data : Bytes := []
deriving DecidableEq, Repr, Inhabited

/-- A piece slot in use of a reduction-buffer channel (R319): the live piece it serves. A delivery piece names the group of
the gradient's Sum-All and, in `seq`, its layer. -/
structure PieceSlot where
  chan : Nat
  slot : Nat
  ctx : Nat
  step : Nat
  group : Nat
  seq : Nat
  piece : Nat
  parts : List Part
  /-- It serves a delivery piece (R159). -/
  deliv : Bool := false
deriving DecidableEq, Repr, Inhabited

/-- The Collective Engine beside its entries: operations of open steps and piece slots in use. -/
structure Cle where
  ops : List Coll := []
  slots : List PieceSlot := []
deriving DecidableEq, Repr, Inhabited

/-! ### Fabric Endpoint -/

/-- A fabric message (Table 13.3) without its CRC and credit fields. -/
structure Msg where
  op0 : Nat := 0
  op1 : Nat := 0
  offset : Nat := 0
  src : Nat := 0
  dst : Nat := 0
  seq : Nat := 0
  base : Nat := 0
  tag : Nat := 0
  len : Nat := 0
  counter : Nat := 0
  count : Bool := false
  flag : Bool := false
  sync : Bool := false
  ctx : Nat := 0
  aop : Nat := 0
  status : Nat := 0
  kind : Nat := 0
  hops : Nat := 0
  data : Bytes := []
deriving DecidableEq, Repr, Inhabited

/-- Who asked for a request: a started entry, by its run, a digest post, a checker load or a residency read (R349, R224,
R226, R162). -/
inductive Asker where
  | entry (run : Nat)
  | post
  | checker (ctx check step replica part : Nat)
  | residency (step layer : Nat)
deriving DecidableEq, Repr, Inhabited

/-- A request: waiting to be issued, or outstanding (R342, R346). -/
structure Req where
  msg : Msg
  asker : Asker
  /-- Context whose credit it takes; none for the checker's reserved entries. -/
  credit : Option Nat
  /-- Real time (TIME edges) of the last flit of its first sending; none until then. -/
  first : Option Nat := none
  sends : Nat := 0
deriving DecidableEq, Repr, Inhabited

/-- A request entry in progress (R351, R353). -/
structure Started where
  run : Nat
  q : Nat
  desc : Bytes
  /-- Messages still to issue: offset and bytes from the start of the range. -/
  todo : List (Nat × Nat)
  /-- Messages outstanding, worst status, messages that ended otherwise than done, old value of an atomic. -/
  out : Nat := 0
  worst : Nat := 0
  bad : Nat := 0
  old : Nat := 0
deriving DecidableEq, Repr, Inhabited

/-- An applied store or atomic whose write has not completed at memory (R344), with the reply it will get and the local bytes it
writes: host memory or not, and their address. -/
structure WriteBack where
  msg : Msg
  reply : Msg
  host : Bool := false
  addr : Nat := 0
deriving DecidableEq, Repr, Inhabited

/-- A replay-table entry (R345). -/
structure ReplayEnt where
  src : Nat
  seq : Nat
  /-- The reply, once its write has completed. -/
  reply : Option Msg
  /-- Real time of the application. -/
  at_ : Nat
deriving DecidableEq, Repr, Inhabited

/-- A read-cache line (R354). -/
structure CacheLine where
  ctx : Nat
  node : Nat
  line : Nat
  data : Bytes
deriving DecidableEq, Repr, Inhabited

/-- A message whose flits a link port is sending (R338): its bytes, the flits to go, its channel, the port whose buffer it
holds, and whether it is an own message. -/
structure FepTx where
  msg : Msg
  bytes : Bytes
  left : Nat
  from_ : Option Nat := none
  own : Bool := true
deriving DecidableEq, Repr, Inhabited

/-- The messages of a link port (R338, R341): waiting to be sent, forwarded ones (with the port whose buffer they hold)
before own, by channel; the one being sent; credits held for the far end's buffer and credits owed to it. -/
structure FepPort where
  reqFwd : List (Option Nat × Msg) := []
  rspFwd : List (Option Nat × Msg) := []
  reqOwn : List Msg := []
  rspOwn : List Msg := []
  tx : Option FepTx := none
  credReq : Nat := 32
  credRsp : Nat := 32
  oweReq : Nat := 0
  oweRsp : Nat := 0
deriving DecidableEq, Repr, Inhabited

/-- The Fabric Endpoint beside its entries (R341 to R354). -/
structure Fep where
  /-- Requests of the engine's units that wait to be issued; requests outstanding. -/
  wait : List Req := []
  reqs : List Req := []
  starts : List Nat := []
  run : List Started := []
  /-- Runs begun so far. -/
  runs : Nat := 0
  /-- Next SEQ of this engine's stream toward a target; a target not listed has had no sequenced request (SYNC). -/
  streams : List (Nat × Nat) := []
  /-- NEXT of each source. -/
  next : List (Nat × Nat) := []
  /-- Request queue: messages in order of arrival, and those the full queue keeps in link buffers, with their port. -/
  queue : List Msg := []
  stalled : List (Option Nat × Msg) := []
  /-- Replies that have reached this engine. -/
  replies : List Msg := []
  writes : List WriteBack := []
  table : List ReplayEnt := []
  cache : List CacheLine := []
  ports : List FepPort := List.replicate 48 {}
deriving DecidableEq, Repr, Inhabited

/-! ### Check-Value Unit -/

/-- The Check-Value Unit beside its entries (R361 to R366): queued requests, the running one and whether it is aborted,
ports whose next chunk's CRC is to be inverted. -/
structure Cvu where
  queue : List Bytes := []
  running : Option (Bytes × Bool) := none
  inject : List Nat := []
deriving DecidableEq, Repr, Inhabited

/-! ### Determinism and Replay Unit -/

/-- A set of posts under comparison (R226): `first` the plan stamp of its first post; the checker's loads. -/
structure PostSet where
  ctx : Nat
  check : Nat
  step : Nat
  first : Nat
  /-- The set has been checked. -/
  done : Bool := false
deriving DecidableEq, Repr, Inhabited

/-- A load of the checker and what came back (R226); no bytes where it ended without data. -/
structure CheckLoad where
  ctx : Nat
  check : Nat
  step : Nat
  replica : Nat
  /-- Which half it was for, in which pass, and its byte offset there. -/
  part : Nat
  data : Bytes
deriving DecidableEq, Repr, Inhabited

/-- A digest post whose step digest was not closed at its tick (R224). -/
structure LatePost where
  ctx : Nat
  checker : Nat
  check : Nat
  replica : Nat
  last : Nat
  /-- Step it reports, and the step whose command it is. -/
  step : Nat
  cmdStep : Nat
deriving DecidableEq, Repr, Inhabited

/-- The Determinism and Replay Unit beside its entries (R222 to R229): losses of the log, the post table (record by 16
x CHECK_ID + REPLICA_INDEX), sets, checker loads, posts that wait for their digest (R224). -/
structure Dru where
  rplLoss : Loss := {}
  rplBuf : LogBuf := {}
  posts : List (Nat × Bytes) := []
  sets : List PostSet := []
  loads : List CheckLoad := []
  waiting : List LatePost := []
deriving DecidableEq, Repr, Inhabited

/-! ### The whole engine -/

/-- A loading context: the image as read, once the checks have ended (R190). -/
structure Load where
  ctx : Nat
  /-- The context held an image when the load began. -/
  held : Bool
deriving DecidableEq, Repr, Inhabited

/-- The state of one engine. -/
structure State where
  /-- Commands that wait, first in, first out. -/
  pending : List Instr := []
  phase : Phase := .running
  /-- The root clock has stopped (R395). -/
  clockStopped : Bool := false
  build : Build
  env : Env := {}
  /-- Dictionary scalars that differ from their default, by `Key`; CAN's own copies at `canCopy`. -/
  regs : List (Nat × U64) := []
  /-- DOMAIN bytes that differ from their default. -/
  dom : List (Nat × Byte) := []
  /-- Frame view of the scalars and of the snapshot sets (R378). -/
  view : List (Nat × U64) := []
  viewDom : List (Nat × Byte) := []
  /-- Staging Store bytes written since cold reset (R402). -/
  stg : List (Nat × Byte) := []
  /-- Queue store bytes written since cold reset, by word × 128 + offset. -/
  qstore : List (Nat × Byte) := []
  /-- Counter of the free values taken so far: the model's own field. -/
  free : Nat := 0
  /-- What the engine has put on its ports, oldest first: the model's own field. -/
  outbox : List Out := []
  time : Time := {}
  /-- CORE rates of the frame in force, oldest first (R396 to R398). -/
  rates : List RateSeg := [{ start := 0, n := 40, floor := 20 }]
  ports : List LinkPort := List.replicate 48 {}
  /-- TP_UP of the tile ports. -/
  tpUp : List Bool := List.replicate 16 true
  /-- What each tile port has sent in a slot, and control-flit entries that wait for a later slot, by port (R459). -/
  tileTx : List TileTx := List.replicate 16 {}
  ctlWait : List (Nat × Bytes) := []
  /-- Notices seen, notices waiting to leave, and notices acted on, with the frame they wait for (R197 to R203). -/
  seen : List Notice := []
  noticeTx : List NoticeTx := []
  targets : List (Nat × Notice) := []
  ctxs : List Ctx := List.replicate 8 {}
  /-- Commands of the frame programs in force that have been issued: context and number in the program's list, the two tables of
  a BANK_SWAP apart (R182, R183). -/
  issuedCmds : List (Nat × Nat) := []
  /-- Loads in progress (R190). -/
  loads : List Load := []
  cp : Port := {}
  can : Port := {}
  win : CpWindow := {}
  field : Can := {}
  obs : Obs := {}
  meter : Meter := {}
  dru : Dru := {}
  audits : List Audit := []
  /-- Classes 0 to 4. -/
  pools : List PoolClass := List.replicate 5 {}
  /-- Packet queues that differ from the reset form, by number. -/
  queues : List (Nat × Queue) := []
  press : Starts := {}
  sfu : Starts := {}
  /-- Bank checks in progress (R94, R298). -/
  ptCheck : Bool := false
  /-- Bank swaps last commanded: bank kind (0 placement, 1 program), fabric frame at whose tick 0 it was, whether it was made
  (R182, R183: the commands of one tick make one swap). -/
  swaps : List (Nat × Nat × Bool) := []
  sfuCheck : Bool := false
  cle : Cle := {}
  fep : Fep := {}
  cvu : Cvu := {}
  wins : List Win := []
  selins : List SelIn := []
  stats : List StatPart := []
  streams : List Stream := []
  pieces : List Piece := []
  rets : List Ret := []
  helds : List Held := []
  lates : List Late := []
  lateOuts : List LateOut := []
  lateTiles : List LateTile := []
  losts : List Lost := []
  /-- Tile ports that had a tile-origin chunk refused for its signature (R117): context, step, port. -/
  refusedTiles : List (Nat × Nat × Nat) := []
  /-- Signature SEQ of the forward return of a tile, as its first RECEIVE names it: context, step, layer, tile, SEQ. -/
  fwdRets : List (Nat × Nat × Nat × Nat × Nat) := []
  expects : List Expect := []
  rels : List Rel := []
  series : List Series := []
  partials : List Partial := []
  combs : List Comb := []
  grads : List Grad := []
  layerGrads : List LayerGrad := []
deriving DecidableEq, Repr, Inhabited

/-- The machine right after a cold reset whose internal initialisation has completed (R400, R401): every dictionary
entry at its default (R373), TB 0 and counting, nothing in flight. DESIGN CHOICE (log entry 3): what the build and the surroundings
fix (build values, strap, reachable memory, key) is named here; no statement rests on it. -/
def State.reset : State :=
  { build := { partition := true, revision := 0x00010000, serial := 1, fwHash := List.replicate 32 0 }
    regs := [(Key.COM_CAN_NODE, 1)] }

end Sys2Proof.Machine
end

