-- ==== Sys2Proof/Machine/Ops.lean ====
section
/-! DEFINITION. The named operations over the state that every unit shares: dictionary registers, memories, time,
interrupts, rings, the fault log, the replay log, the trace, and notices. -/

namespace Sys2Proof.Machine

open Sys2Proof

/-- All ones of 32 bits: where saturating counters stop. -/
def max32 : Nat := 0xFFFFFFFF

/-! ### Dictionary registers -/

/-- A scalar's stored value. -/
def State.get (s : State) (k : Nat) : Nat := (Sparse.read regDefault s.regs k).toNat

/-- A scalar stored. -/
def State.put (s : State) (k v : Nat) : State := { s with regs := Sparse.set regDefault s.regs k (BitVec.ofNat 64 v) }

/-- A 32-bit saturating counter raised by `n`. -/
def State.count (s : State) (k n : Nat) : State := s.put k (satAdd max32 (s.get k) n)

/-- A 64-bit wrapping counter raised by `n`. -/
def State.count64 (s : State) (k n : Nat) : State := s.put k (s.get k + n)

/-- Bytes of a DOMAIN entry. -/
def State.domBytes (s : State) (k o n : Nat) : Bytes := Mem.read domDefault s.dom (k * domSpan + o) n

/-- Bytes of a DOMAIN entry written. -/
def State.domPut (s : State) (k o : Nat) (bs : Bytes) : State :=
  { s with dom := Mem.writeDflt domDefault s.dom (k * domSpan + o) bs }

/-- Where a per-transport entry stands for a transport. -/
def trKey (tr : Transport) (k : Nat) : Nat := match tr with | .cp => k | .can => k + canCopy

/-! ### Memories -/

/-- The lines of 128 B that `n` bytes from `a` on touch (R10, R277). -/
def lineCount (a n : Nat) : Nat := if n = 0 then 0 else (a + n - 1) / 128 - a / 128 + 1

/-- Bank accesses of a transfer counted: STG_BANK_READS or STG_BANK_WRITES (R430), and, unless the accesses are
housekeeping (R282, R348, R362), the frame's count of R180. -/
def bankTouch (write counted : Bool) : Nat → Nat → State → State
  | 0, _, s => s
  | n + 1, line, s =>
    let b := line % 64
    let s := s.count64 (if write then Key.STG_BANK_WRITES b else Key.STG_BANK_READS b) 1
    let k := b * 2 + (if write then 1 else 0)
    let s := if counted then
      { s with obs := { s.obs with loads := Sparse.put s.obs.loads k ((Sparse.get? s.obs.loads k).getD 0 + 1) } } else s
    bankTouch write counted n (line + 1) s

/-- Bytes of the Staging Store as they read now; a byte not written since cold reset reads as a free value (R402). -/
def State.stgBytes (s : State) (a n : Nat) : Bytes := Mem.read (Config.stgUnwritten s.free) s.stg a n

/-- The accounting of a read of the Staging Store. -/
def State.stgRead (s : State) (a n : Nat) (counted : Bool := true) : State :=
  bankTouch false counted (lineCount a n) (a / 128) s

/-- A write of the Staging Store. -/
def State.stgWrite (s : State) (a : Nat) (bs : Bytes) (counted : Bool := true) : State :=
  let s := bankTouch true counted (lineCount a bs.length) (a / 128) s
  { s with stg := Mem.write s.stg a bs }

/-- Bytes of host memory as they read now; a byte nothing has placed reads as a free value (R1). -/
def State.hostBytes (s : State) (a n : Nat) : Bytes := Mem.read (Config.hostUnwritten s.free) s.env.mem a n

/-- The accounting of a read through a memory port: whole lines (R462), MEM_RD_BYTES (R430). -/
def State.hostRead (s : State) (port a n : Nat) : State := s.count64 (Key.MEM_RD_BYTES port) (128 * lineCount a n)

/-- A write of host memory through a memory port. -/
def State.hostWrite (s : State) (port a : Nat) (bs : Bytes) : State :=
  let s := s.count64 (Key.MEM_WR_BYTES port) (128 * lineCount a bs.length)
  { s with env := { s.env with mem := Mem.write s.env.mem a bs } }

/-- Free values taken so far, one more. -/
def State.fresh (s : State) : State := { s with free := s.free + 1 }

/-- Something put on a port. -/
def State.emit (s : State) (o : Out) : State := { s with outbox := s.outbox ++ [o] }

/-- How far a port reaches without a gap from `a` on, over some ranges that may adjoin or overlap (R462). -/
def reachEnd (rs : List Reach) : Nat → Nat → Nat
  | 0, a => a
  | fuel + 1, a =>
    match rs.find? (fun r => decide (r.base ≤ a ∧ a < r.base + r.len)) with
    | some r => reachEnd rs fuel (r.base + r.len)
    | none => a

/-- Whether a memory port reaches every one of `n` bytes from `a` for a context (R462). -/
def State.reaches (s : State) (ctx port a n : Nat) : Bool :=
  let rs := s.env.reach.filter (fun r => r.ctx == ctx && r.port == port)
  decide (a + n ≤ reachEnd rs rs.length a)

/-! ### When a command acts -/

/-- The engine works: it is out of reset with its root clock running (R395, R400 to R404, R410). -/
def State.live (s : State) : Bool := s.phase == .running && !s.clockStopped

/-- The derived clocks run: not while cold reset is held nor without power (R400, R410). -/
def State.clocked (s : State) : Bool := s.phase != .coldHeld && s.phase != .off && !s.clockStopped

/-- A command's effect while the engine works; none otherwise. -/
def act (f : State → State) (s : State) : State := if s.live then f s else s

/-- The same for a command that reads memory: a byte nothing has written reads as a fresh free value. -/
def actFresh (f : State → State) (s : State) : State := if s.live then f s.fresh else s

/-- The effect of a command of the timebase and the timing words, which run through a warm reset (R400, R404). -/
def actTime (f : State → State) (s : State) : State := if s.clocked then f s else s

/-! ### Time -/

/-- Fabric tick (Table 7.1). -/
def State.tick (s : State) : Nat := s.time.tb.toNat / 16
/-- Fabric frame of TB (Table 7.1). -/
def State.frame (s : State) : Nat := s.tick / 2304
/-- Tick within the fabric frame. -/
def State.off (s : State) : Nat := s.tick % 2304
/-- Slot of the frame (Table 7.1). -/
def State.slot (s : State) : Nat := s.off / 9
/-- Fabric slot number, counted from frame 0. -/
def State.fslot (s : State) : Nat := s.frame * 256 + s.slot
/-- Last plan frame begun (Table 7.14). -/
def State.planFrame (s : State) : Nat := s.get Key.TB_PLAN_FRAME
/-- The plan tick a timeout counts from (R172): in a slip frame, the same offset of the first planned frame after it. -/
def State.stamp (s : State) : Nat :=
  (if s.time.slipping then s.planFrame + 1 else s.planFrame) * 2304 + s.off
/-- The plan tick now, for expiries: it stands still through a slip frame (R202). -/
def State.planTick (s : State) : Nat :=
  if s.time.slipping then (s.planFrame + 1) * 2304 - 1 else s.planFrame * 2304 + s.off
/-- A timeout of `n` plan frames counted from `stamp` has expired (R417): what takes effect in the slot of the expiry
stands, so the timeout acts from the slot's end on. -/
def State.expired (s : State) (stamp n : Nat) : Bool := decide ((stamp + n * 2304) / 9 * 9 + 9 ≤ s.planTick + 1)
/-- Milliseconds of real time since cold reset, 250,000 TIME edges each (R443). -/
def State.ms (s : State) : Nat := s.time.ticks / 250000
/-- `us` microseconds of real time have passed since `t`. -/
def State.usPassed (s : State) (t us : Nat) : Bool := decide (t + us * 250 ≤ s.time.ticks)

/-! ### Contexts -/

/-- A context. -/
def State.ctx (s : State) (c : Nat) : Ctx := nth s.ctxs c {}
/-- A context replaced. -/
def State.setCtx (s : State) (c : Nat) (x : Ctx) : State := { s with ctxs := setAt s.ctxs c x }
/-- TT_STATE. -/
def State.tt (s : State) (c : Nat) : Nat := s.get (Key.TT_STATE c)
/-- RUNNING or STOPPING. -/
def State.runs (s : State) (c : Nat) : Bool := s.tt c == 4 || s.tt c == 5
/-- Current step of a context. -/
def State.step (s : State) (c : Nat) : Nat := s.get (Key.TT_STEP c)
/-- The header of a context's image. -/
def State.hdr (s : State) (c : Nat) : Bytes := match (s.ctx c).image with | some i => i.hdr | none => []
/-- Header fields (Table 7.2). -/
def State.steam (s : State) (c : Nat) : Bool := bit (u (s.hdr c) 7 1) 0
def State.audit (s : State) (c : Nat) : Nat := bits (u (s.hdr c) 7 1) 1 2
def State.fetchPort (s : State) (c : Nat) : Nat := bits (u (s.hdr c) 7 1) 3 2
def State.planId (s : State) (c : Nat) : Nat := u (s.hdr c) 128 2
def State.stepFrames (s : State) (c : Nat) : Nat := u (s.hdr c) 24 4
def State.noticeSpan (s : State) (c : Nat) : Nat := u (s.hdr c) 28 2
def State.stepSlack (s : State) (c : Nat) : Nat := u (s.hdr c) 32 2
def State.planMhz (s : State) (c : Nat) : Nat := u (s.hdr c) 20 2
def State.layers (s : State) (c : Nat) : Nat := u (s.hdr c) 22 2
/-- COLL_TIMEOUT, 0 meaning 64 (Table 7.2). -/
def State.collTimeout (s : State) (c : Nat) : Nat := let v := u (s.hdr c) 34 2; if v = 0 then 64 else v
/-- A layer entry (Table 7.5). -/
def State.layer (s : State) (c l : Nat) : Bytes := match (s.ctx c).image with | some i => nth i.layers l [] | none => []
/-- A context's partition table (Table 7.4). -/
def State.part (s : State) (c : Nat) : Bytes := match (s.ctx c).image with | some i => i.part | none => []
/-- The own node. -/
def State.node (s : State) : Nat := s.get Key.ENG_NODE
/-- A context holds a partition: its image is loaded (R177). -/
def State.holdsPart (s : State) (c : Nat) : Bool := (s.ctx c).image.isSome
/-- The link-table entry of a port: its low 64 bits (Table 7.3). -/
def State.linkEntry (s : State) (c p : Nat) : Nat :=
  match (s.ctx c).image with | some i => u i.links (16 * p) 8 | none => 0
/-- CONNECTED of a link port in a context's image. -/
def State.linkConnected (s : State) (c p : Nat) : Bool := bit (s.linkEntry c p) 31
/-- FLIGHT_SLOTS of a link port, 0 on a tile port. -/
def State.flight (s : State) (c p : Nat) : Nat := if p < 48 then bits (s.linkEntry c p) 40 8 else 0
/-- FLID of a link port as the first context that connects it names it. -/
def State.flid (s : State) (p : Nat) : Option Nat :=
  ((List.range 8).find? (fun c => s.linkConnected c p)).map (fun c => bits (s.linkEntry c p) 48 16)
/-- Queue lies in the context's partition (R177). -/
def State.ownsQueue (s : State) (c q : Nat) : Bool :=
  s.holdsPart c && decide (u (s.part c) 4104 2 ≤ q ∧ q < u (s.part c) 4104 2 + u (s.part c) 4106 2)
/-- A context owns a slot of a port (ports 0 to 47 link, 48 to 63 tile) for sending or receiving. -/
def State.ownsSlot (s : State) (c q slot : Nat) (rx : Bool) : Bool :=
  bit (u (s.part c) ((if rx then 2048 else 0) + 32 * q + slot / 8) 1) (slot % 8)
/-- The context whose partition holds a queue. -/
def State.queueOwner (s : State) (q : Nat) : Option Nat := (List.range 8).find? (fun c => s.ownsQueue c q)

/-- ATTEMPT of a step of a context (Table 8.4): that of its open span, else its earlier attempts. -/
def State.attemptOf (s : State) (c st : Nat) : Nat :=
  let x := s.ctx c
  match x.opens.find? (fun o => o.step == st) with
  | some o => min 255 o.attempt
  | none => if st = s.step c then min 255 x.attempt else min 255 (((x.attempts.find? (fun a => a.1 == st)).map (·.2)).getD 0)

/-! ### Interrupts (R391, R392) -/

/-- INT_LINE of a packet queue's descriptor (Table 9.6). -/
def State.pqLine (s : State) (q : Nat) : Nat := bits (unle (s.domBytes Dom.PQ_DESC (16 * q) 16)) 96 2

/-- Some queue routed to output `l` has its level cause bit set (Table 15.11). -/
def State.pqCause (s : State) (l : Nat) : Bool :=
  s.dom.any (fun e => e.1 / domSpan == Dom.PQ_LEVEL_CAUSE &&
    (List.range 8).any (fun j => bit e.2.toNat j && s.pqLine ((e.1 % domSpan) * 8 + j) == l))

/-- INT_CAUSE of an output with its derived bits (Table 15.11). -/
def State.cause (s : State) (l : Nat) : Nat :=
  s.get (Key.INT_CAUSE l) + (if s.pqCause l then 1 else 0) + (if bit (s.get Key.CVU_MISMATCH_PEND) l then 2 else 0)

/-- Level of an interrupt output: deasserted until internal initialisation has completed and during a warm reset. -/
def State.intLevel (s : State) (l : Nat) : Bool := s.phase == .running && s.cause l != 0

/-- Interrupt outputs that have risen queue an event frame each, or renew the one still waiting (R389). -/
def State.syncInts (s : State) : State :=
  (List.range 4).foldl (fun s l =>
    if s.intLevel l then
      if bit s.field.levels l then s else
      let ev := (l, s.cause l)
      let evs := if s.field.events.any (fun e => e.1 == l) then s.field.events.map (fun e => if e.1 == l then ev else e)
        else s.field.events ++ [ev]
      { s with field := { s.field with events := evs, levels := setBit s.field.levels l } }
    else { s with field := { s.field with levels := clearBit s.field.levels l } }) s

/-- A latched cause bit set. -/
def State.setCause (s : State) (l b : Nat) : State :=
  (s.put (Key.INT_CAUSE l) (setBit (s.get (Key.INT_CAUSE l)) b)).syncInts

/-- An event of INT_EVENT_ROUTE: `k` 0 TIMEBASE, 1 CONTEXT, 2 METER (R392). -/
def State.routeEvent (s : State) (k : Nat) : State :=
  let r := bits (s.get Key.INT_EVENT_ROUTE) (4 * k) 4
  if bit r 3 then s.setCause (r % 4) (5 + k) else s

/-! ### Rings (R222, R228) -/

/-- An entry of `n` bytes at a ring's head: written and the head advanced, or, where the head would meet the tail, none
(R222). -/
def ringPut (s : State) (port base len head tail : Nat) (bs : Bytes) : Option State :=
  let h := s.get head
  let h' := (h + bs.length) % len
  if len = 0 || h' == s.get tail then none
  else some ((s.hostWrite port (base + h) bs).put head h')

/-- A 32 B entry of the replay log or the trace (Table 8.7), with the GAP entry of R228 before the first that fits
after a loss. Answers the losses still to report. -/
def logRing (s : State) (port base len head tail lost : Nat) (loss : Loss) (entry : Bytes) : State × Loss :=
  let gap := le 1 0x0B ++ le 1 0xFF ++ le 2 0 ++ le 2 s.off ++ le 2 0 ++ le 8 s.frame ++ le 8 loss.count ++ le 8 loss.frame
  let miss : State × Loss := (s.count lost 1,
    { count := loss.count + 1, frame := if loss.count = 0 then s.frame else loss.frame })
  if loss.count = 0 then
    match ringPut s port base len head tail entry with
    | some s' => (s', {})
    | none => miss
  else match ringPut s port base len head tail gap with
    | none => miss
    | some s1 => match ringPut s1 port base len head tail entry with
      | some s2 => (s2, {})
      | none => (s1.count lost 1, { count := 1, frame := s.frame })

/-- The bytes of an entry recorded at the TIME edge now (Table 8.7). -/
def State.entryBytes (s : State) (e : LogEnt) : Bytes :=
  le 1 e.kind ++ le 1 e.ctx ++ le 1 e.attempt ++ le 1 e.flags ++ le 2 s.off ++ le 2 0 ++ le 8 s.frame ++ le 8 e.arg0 ++ le 8 e.arg1

/-- The order of the entries of one TIME edge (R230, R435). -/
def entLt (a b : LogEnt) : Bool := lexLt [(if a.first then 0 else 1), a.kind, a.ctx, a.port] [(if b.first then 0 else 1), b.kind, b.ctx, b.port]

/-- Two losses of one ring taken together. -/
def Loss.add (a b : Loss) : Loss :=
  { count := a.count + b.count, frame := if a.count = 0 ∧ b.count ≠ 0 then b.frame else a.frame }

/-- An entry put into the internal buffer, which holds 256 (R228). -/
def LogBuf.add (b : LogBuf) (frame : Nat) (e : LogEnt) : LogBuf :=
  if b.ents.length < 256 then { b with ents := b.ents ++ [e] } else { b with lost := b.lost.add { count := 1, frame := frame } }

/-- The entries of a buffer written to their ring, in the order of R230, and the losses still to report. -/
def logFlush (port base len head tail lost : Nat) : List LogEnt → State × Loss → State × Loss
  | [], a => a
  | e :: es, a => logFlush port base len head tail lost es (logRing a.1 port base len head tail lost a.2 (a.1.entryBytes e))

/-- The replay-log entries that wait written at a TIME edge (R230). -/
def State.flushRpl (s : State) : State :=
  let b := s.dru.rplBuf
  let r := logFlush (s.get Key.RPL_PORT) (s.get Key.RPL_BASE) (s.get Key.RPL_LEN) Key.RPL_HEAD Key.RPL_TAIL Key.RPL_LOST
    (sortBy entLt b.ents) (s, s.dru.rplLoss)
  { r.1 with dru := { r.1.dru with rplLoss := r.2.add b.lost, rplBuf := {} } }

/-- The trace records that wait written at a TIME edge (R435). -/
def State.flushTrace (s : State) : State :=
  let b := s.obs.traceBuf
  let r := logFlush (s.get Key.TRC_PORT) (s.get Key.TRC_BASE) (s.get Key.TRC_LEN) Key.TRC_HEAD Key.TRC_TAIL Key.TRC_LOST
    (sortBy entLt b.ents) (s, s.obs.traceLoss)
  { r.1 with obs := { r.1.obs with traceLoss := r.2.add b.lost, traceBuf := {} } }

/-- A replay-log entry (R227, R230) while recording runs, for the next TIME edge. `c` is the context, or none for an engine-wide
entry. -/
def State.rpl (s : State) (kind : Nat) (c : Option Nat) (attempt : Nat) (comparable : Bool) (a0 a1 : Nat) : State :=
  if s.get Key.RPL_STATE = 1 then
    let e : LogEnt := { kind := kind, ctx := c.getD 0xFF, attempt := if c.isSome then min 255 attempt else 0,
                        flags := if comparable then 1 else 0, arg0 := a0, arg1 := a1 }
    let s := if s.dru.rplBuf.ents.length < 256 then s else s.count Key.RPL_LOST 1
    { s with dru := { s.dru with rplBuf := s.dru.rplBuf.add s.frame e } }
  else s

/-- A trace record (R435) while tracing, of an enabled kind, an admitted context and an admitted port, for the next TIME edge. -/
def State.trace (s : State) (kind : Nat) (c : Option Nat) (attempt : Nat) (port : Option Nat) (a0 a1 : Nat) : State :=
  let ctxOk := match c with | some c => bit (s.get Key.TRC_CTX_MASK) c | none => true
  let portOk := match port with | some p => bit (s.get Key.TRC_PORT_MASK) p | none => true
  if s.obs.tracing && bit (s.get Key.TRC_KINDS) kind && ctxOk && portOk then
    let e : LogEnt := { kind := kind, ctx := c.getD 0xFF, attempt := if c.isSome then min 255 attempt else 0, flags := 0,
                        port := port.getD 64, arg0 := a0, arg1 := a1 }
    let s := if s.obs.traceBuf.ents.length < 256 then s else s.count Key.TRC_LOST 1
    { s with obs := { s.obs with traceBuf := s.obs.traceBuf.add s.frame e } }
  else s

/-! ### The fault log (R426 to R429) -/

/-- Error classes (Table 17.6). -/
def Ec.crc : Nat := 0x21
def Ec.seq : Nat := 0x22
def Ec.linkDown : Nat := 0x23
def Ec.signature : Nat := 0x31
def Ec.timeoutColl : Nat := 0x32
def Ec.stateAbsent : Nat := 0x33
def Ec.descRange : Nat := 0x41
def Ec.descAlias : Nat := 0x42
def Ec.descOverlap : Nat := 0x43
def Ec.poolRange : Nat := 0x44
def Ec.poolAlign : Nat := 0x45
def Ec.bankActive : Nat := 0x51
def Ec.overrun : Nat := 0x61
def Ec.divergence : Nat := 0x71
def Ec.xlate : Nat := 0x81
def Ec.seal : Nat := 0x91

/-- An event of Table 17.7 before it is logged. `dom` is the clock domain of the unit that raises it (Table 1.5). -/
structure Ev where
  cls : Nat
  det : Nat
  dom : Nat
  ctx : Option Nat := none
  step : Option Nat := none
  layer : Option Nat := none
  node : Option Nat := none
  arg : Nat := 0
deriving DecidableEq, Repr, Inhabited

/-- The fault word (Table 17.5). -/
def Ev.word (e : Ev) : Nat :=
  e.cls <<< 56 ||| e.det <<< 48 |||
  (match e.ctx with | some c => 1 <<< 47 ||| c <<< 44 | none => 0) |||
  (match e.layer with | some l => 1 <<< 43 ||| l <<< 35 | none => 0) |||
  (match e.node with | some n => 1 <<< 34 ||| n <<< 20 | none => 0) ||| e.dom <<< 15

/-- STEP and ATTEMPT of an event: zero without a context (Table 17.4). -/
def State.evStep (s : State) (e : Ev) : Nat × Nat :=
  match e.ctx with
  | some c => let st := e.step.getD (s.step c); (st % 2 ^ 48, s.attemptOf c st)
  | none => (0, 0)

/-- The 32 B fault record (Table 17.4). -/
def State.faultRecord (s : State) (e : Ev) : Bytes :=
  le 8 e.word ++ le 8 s.frame ++ le 2 s.off ++ le 1 (s.evStep e).2 ++ le 1 0 ++ le 4 e.arg ++ le 8 (s.evStep e).1

/-- An event counted in its class and shown on the output its class routes to (R426, R392). -/
def State.evCount (s : State) (e : Ev) : State :=
  let k := 4 * e.cls
  let s := s.domPut Dom.FLT_CLASS_COUNT k (le 4 (satAdd max32 (unle (s.domBytes Dom.FLT_CLASS_COUNT k 4)) 1))
  let r := unle (s.domBytes Dom.INT_ROUTE e.cls 1)
  if bit r 7 then s.setCause (r % 4) 4 else s

/-- One event logged: its record, the first record, the replay log and the trace (R426). -/
def State.logOne (s : State) (e : Ev) : State :=
  let rec_ := s.faultRecord e
  let h := s.get Key.FLT_LOG_HEAD
  let s := if allZero (s.domBytes Dom.FLT_FIRST 0 32) then s.domPut Dom.FLT_FIRST 0 rec_ else s
  let s := s.domPut Dom.FLT_LOG (32 * (h % 256)) rec_
  let s := s.put Key.FLT_LOG_HEAD ((h + 1) % 2 ^ 32)
  let at_ := (s.evStep e).2
  let s := s.evCount e
  let s := s.rpl 0x04 e.ctx at_ false (e.cls <<< 56 ||| e.det <<< 48 ||| (e.layer.getD 0) <<< 40) e.word
  s.trace 0x06 e.ctx at_ none e.word e.arg

/-- An event of a cycle past its fourth (R426). -/
def State.loseOne (s : State) (e : Ev) : State := (s.count Key.FLT_LOG_LOST 1).evCount e

/-- The order of the events of one cycle (R426). -/
def evLt (a b : Ev) : Bool := lexLt [a.dom, a.cls, a.det, a.word, a.arg] [b.dom, b.cls, b.det, b.word, b.arg]

/-- The events of one cycle logged (R426): the first four of the order, the others lost. -/
def State.logEvs (s : State) (evs : List Ev) : State :=
  let o := sortBy evLt evs
  (o.drop 4).foldl State.loseOne ((o.take 4).foldl State.logOne s)

/-- One event logged. -/
def State.log (s : State) (e : Ev) : State := s.logEvs [e]

/-! ### Notices (R197 to R199, R418) -/

/-- The notice span that governs the notices this engine raises (R197). -/
def State.span (s : State) : Nat :=
  match (List.range 8).filter (fun c => s.tt c == 3 || s.tt c == 4 || s.tt c == 5) with
  | [] => 2304
  | cs => (cs.map s.noticeSpan).foldl max 0

/-- The first frame boundary a notice raised now can reach (R197). -/
def State.noticeTarget (s : State) : Nat := ceilDiv (s.tick + s.span) 2304

/-- The NOTICE word of Table 8.8. -/
def Notice.word (n : Notice) : Nat := n.kind <<< 60 ||| (n.target % 2 ^ 44) <<< 16 ||| n.arg % 2 ^ 16

/-- A notice acted on: recorded (R198) and kept for frame `at_`, its target or, where that has begun, the next (R199); a
step replay of a context that does not run here is only forwarded (R418). -/
def State.actNotice (s : State) (n : Notice) (from_ at_ : Nat) : State :=
  if n.kind = 3 && !(s.runs n.arg) then s else
  let c := if n.kind = 3 then some n.arg else none
  let s := s.rpl 0x02 none 0 false n.word from_
  let s := s.trace 0x05 c (if n.kind = 3 then (s.ctx n.arg).attempt else 0) (if from_ < 64 then some from_ else none) n.word from_
  { s with targets := s.targets ++ [(at_, n)] }

/-- A notice sent in the next three timing words of every connected link (R197). -/
def State.spreadNotice (s : State) (n : Notice) : State :=
  { s with
    seen := s.seen ++ [n]
    noticeTx := s.noticeTx ++
      ((List.range 48).filter (fun p => (nth s.ports p {}).up)).map (fun p => { port := p, notice := n, left := 3 }) }

/-- A notice raised here (R197); one already seen is the same notice. -/
def State.raiseNotice (s : State) (n : Notice) : State :=
  if s.seen.contains n then s else (s.spreadNotice n).actNotice n 0xFF n.target

/-- A slip requested, targeted at fabric frame `f` (R188, R200). -/
def State.requestSlip (s : State) (f : Nat) : State :=
  (s.count Key.SLIP_REQ_COUNT 1).raiseNotice { kind := 1, target := f, arg := 0 }

/-- The effect "step replayed" (R418): a step-replay notice of a context that runs here, at most one per context in any
plan frame. -/
def State.replayStep (s : State) (c : Nat) : State :=
  if s.runs c && (s.ctx c).noticed != some s.planFrame then
    let s := s.setCtx c { s.ctx c with noticed := some s.planFrame }
    s.raiseNotice { kind := 3, target := s.noticeTarget, arg := c }
  else s

/-- The current step of every context running here replayed (R195, R199). -/
def State.replayRunning (s : State) : State :=
  (List.range 8).foldl (fun s c => if s.runs c then s.replayStep c else s) s

/-- A context's state changed: CONTEXT is raised when it leaves LOADING or STOPPING (Table 15.11), and the metering
interval is no longer quiet once a context is not STOPPED (R443). -/
def State.setTt (s : State) (c v : Nat) : State :=
  let o := s.tt c
  let s := s.put (Key.TT_STATE c) v
  let s := if (o == 1 || o == 5) && v != o then s.routeEvent 1 else s
  if v = 0 then s else { s with meter := { s.meter with quiet := false } }

/-- TB_STATE changed (Table 15.11, TIMEBASE). -/
def State.setTb (s : State) (v : Nat) : State :=
  if s.get Key.TB_STATE = v then s else (s.put Key.TB_STATE v).routeEvent 0

/-- The Timetable Sequencer's own commands issued (Table 7.8): the trace record (Table 18.4). -/
def State.issued (s : State) (cls : Nat) (c : Option Nat) : State :=
  s.trace 0x01 c (match c with | some c => (s.ctx c).attempt | none => 0) none (cls <<< 56 ||| s.off <<< 44) s.planFrame

/-- A context's commands may issue now: its step runs in a planned frame whose program was not dropped (R185, R202, R421). -/
def State.issuable (s : State) (c : Nat) : Bool :=
  s.runs c && !s.time.slipping && !s.time.slipDue && (s.ctx c).replay.isNone &&
    !((s.ctx c).progs.any (fun g => g.frame == s.planFrame && g.dropped))

/-! ### The frame programs (R181 to R183) -/

/-- The commands of a program, 32 B each behind its header (R179). -/
def progWords (bs : Bytes) : List Nat := (List.range ((bs.length - 320) / 32)).map (fun j => u bs (320 + 32 * j) 32)

/-- The commands that the planned frame in force plans for a context, in list order. -/
def State.frameWords (s : State) (c : Nat) : List Nat :=
  match (s.ctx c).progs.find? (fun g => g.frame == s.planFrame) with
  | some g => match g.bytes with | some bs => progWords bs | none => []
  | none => []

/-- CLASS and TICK of a command (Table 7.7). -/
def wCls (w : Nat) : Nat := bits w 248 8
def wTick (w : Nat) : Nat := bits w 236 12

/-- A command for the tick in force with its class fields (Table 7.7). -/
def State.cmdWord (s : State) (cls fields : Nat) : Nat := cls <<< 248 ||| s.off <<< 236 ||| fields

/-- A command whose unit takes it up when its inputs are there, at its tick or after it (R16): GRADIENT but for B7. -/
def wWaits (w : Nat) : Bool := wCls w == 6 && bits w 188 4 != 4

/-- The place of a class in the order of one tick (R183): SNAPSHOT, BANK_SWAP, every other command. -/
def wRank (w : Nat) : Nat := match wCls w with | 9 => 0 | 10 => 1 | _ => 2

/-- Command `j` of a context's program has been issued; of a BANK_SWAP, each table it names. -/
def State.wasIssued (s : State) (c j w : Nat) : Bool :=
  if wCls w = 10 then
    (!(bit w 231) || s.issuedCmds.contains (c, 2 * j)) && (!(bit w 230) || s.issuedCmds.contains (c, 2 * j + 1))
  else s.issuedCmds.contains (c, 2 * j)

/-- A command of this tick that R183 puts ahead of command `j` of context `c` has not been issued. -/
def State.behind (s : State) (c j w : Nat) : Bool :=
  (List.range 8).any (fun d => s.issuable d &&
    (s.frameWords d).zipIdx.any (fun x =>
      wTick x.1 == s.off && !(wWaits x.1) && !(s.wasIssued d x.2 x.1) &&
        (decide (wRank x.1 < wRank w) || (wRank x.1 == 2 && wRank w == 2 && lexLt [d, x.2] [c, j]))))

/-- The mark of the first command that the program in force of a context names for this tick, that `p` accepts and that has not
been issued (`half` 1 for the program table of a BANK_SWAP), where none stands ahead of it (R14, R182, R183). -/
def State.cmdMark (s : State) (c half : Nat) (p : Nat → Bool) : Option (Nat × Nat) :=
  if s.issuable c then
    ((s.frameWords c).zipIdx.find? (fun x =>
      wTick x.1 == s.off && p x.1 && !(s.issuedCmds.contains (c, 2 * x.2 + half)) && !(s.behind c x.2 x.1))).map
        (fun x => (2 * x.2 + half, x.1))
  else none

/-- The timetable names a command for a context at this tick, and its turn has come (R14, R183). -/
def State.mayIssue (s : State) (c cls fields : Nat) : Bool := (s.cmdMark c 0 (fun w => w == s.cmdWord cls fields)).isSome

/-- A command issued: marked in its program and recorded in the trace with its bits [255:192] (Table 18.4). -/
def State.issueAt (s : State) (c : Nat) (port : Option Nat) (m : Nat × Nat) : State :=
  ({ s with issuedCmds := s.issuedCmds ++ [(c, m.1)] }).trace 0x01 (some c) (s.ctx c).attempt port (m.2 >>> 192) s.planFrame

/-- The command of a class with its fields issued. -/
def State.issue (s : State) (c cls fields : Nat) (port : Option Nat := none) : State :=
  match s.cmdMark c 0 (fun w => w == s.cmdWord cls fields) with
  | some m => s.issueAt c port m
  | none => s

/-- A GRADIENT command whose tick has come in the frame in force. -/
def State.gradMark (s : State) (c fields : Nat) : Option (Nat × Nat) :=
  if s.issuable c then
    ((s.frameWords c).zipIdx.find? (fun x => decide (wTick x.1 ≤ s.off) && wCls x.1 == 6 && bits x.1 0 232 == fields &&
      !(s.issuedCmds.contains (c, 2 * x.2)))).map (fun x => (2 * x.2, x.1))
  else none

/-- The step that a GRADIENT command which waits belongs to: the oldest one, else the current one. -/
def State.gradStep (s : State) (c fields : Nat) : Nat :=
  (((s.ctx c).gradsDue.find? (fun x => bits x.2 0 232 == fields)).map (·.1)).getD (s.step c)

/-- A GRADIENT command of step `st` waits for its unit: its tick has come in the frame in force or in an earlier frame (R14,
R16). -/
def State.gradDue (s : State) (c st fields : Nat) : Bool :=
  (s.ctx c).gradsDue.any (fun x => x.1 == st && bits x.2 0 232 == fields) || (st == s.step c && (s.gradMark c fields).isSome)

/-- A GRADIENT command taken up by its unit. -/
def State.takeGrad (s : State) (c st fields : Nat) : State :=
  match (s.ctx c).gradsDue.find? (fun x => x.1 == st && bits x.2 0 232 == fields) with
  | some x => s.setCtx c { s.ctx c with gradsDue := (s.ctx c).gradsDue.erase x }
  | none => match s.gradMark c fields with
    | some m => s.issueAt c none m
    | none => s

/-- GRADIENT commands of the frame that ends, or of the step that ends with it, whose units have not taken them up: issued, and
waiting. -/
def State.keepGrads (s : State) (c : Nat) : State :=
  if s.issuable c then
    let ws := (s.frameWords c).zipIdx.filter (fun x => wWaits x.1 && !(s.issuedCmds.contains (c, 2 * x.2)))
    let s := ws.foldl (fun s x => s.issueAt c none (2 * x.2, x.1)) s
    if ws.isEmpty then s else s.setCtx c { s.ctx c with gradsDue := (s.ctx c).gradsDue ++ ws.map (fun x => (s.step c, x.1)) }
  else s

/-- Planned accesses of a bank port that a context's program of the frame in force declares (R180): `k` is twice the bank, plus
1 for writes. -/
def State.declaredBy (s : State) (c k : Nat) : Nat :=
  match (s.ctx c).progs.find? (fun g => g.frame == s.planFrame) with
  | some g => match g.bytes with
    | some bs => u bs ((if k % 2 = 0 then 16 else 144) + 2 * (k / 2)) 2
    | none => 0
  | none => 0

/-! ### CORE rate (R396 to R399) -/

/-- The floor N_f (R397). -/
def State.floorN (s : State) : Nat :=
  match (List.range 8).filter (fun c => s.tt c == 3 || s.tt c == 4 || s.tt c == 5) with
  | [] => 20
  | cs => ceilDiv ((cs.map s.planMhz).foldl max 0) 50

/-- The delivered count N for a level and a floor (R397). -/
def State.rateFor (s : State) (level floor : Nat) : Nat :=
  let e := s.get (Key.CLK_LEVEL_RATE level)
  if bit e 7 then e % 64 else max (e % 64) floor

/-- The rate in force from the next window boundary on (R396, R397): windows are 5 TIME edges from the frame boundary. -/
def State.setRate (s : State) : State :=
  let f := s.floorN
  let n := s.rateFor (s.get Key.CLK_LEVEL_IN) f
  match s.rates.getLast? with
  | some r =>
    if r.n = n && r.floor = f then s else
    let start := (s.time.edges / 5 + 1) * 5
    { s with rates := s.rates.filter (fun r => decide (r.start < start)) ++ [{ start := start, n := n, floor := f }] }
  | none => { s with rates := [{ start := 0, n := n, floor := f }] }

/-- The segment in force at TIME edge `e` of the frame. -/
def rateAt (rates : List RateSeg) (e : Nat) : RateSeg :=
  ((rates.filter (fun r => decide (r.start ≤ e))).getLast?).getD { start := 0, n := 40, floor := 20 }

/-- CORE edges delivered in a window of `len` TIME edges at N (R398). -/
def windowEdges (n len : Nat) : Nat := 8 * len * n / 40

/-- CORE edges delivered in the windows of a frame from TIME edge `e` on, `left` edges still to come, and whether a window ran
below its floor (R398, R399). -/
def frameWindows (rates : List RateSeg) : Nat → Nat → Nat → Nat × Bool
  | 0, _, _ => (0, false)
  | fuel + 1, e, left =>
    if left = 0 then (0, false) else
    let len := min 5 left
    let r := rateAt rates e
    let d := windowEdges r.n len
    let t := frameWindows rates fuel (e + len) (left - len)
    (d + t.1, decide (d < 8 * len * r.floor / 40) || t.2)

/-- CORE edges delivered so far in the frame in force (R398). -/
def State.edgesSoFar (s : State) : Nat := (frameWindows s.rates (s.time.edges + 1) 0 s.time.edges).1

/-! ### Stops -/

/-- A running context returns to LOADED now (R190, R425): what its open steps left outstanding completes or times out
under its own rules. `fault` marks a stop for a fault (Table 15.11). -/
def State.toLoaded (s : State) (c : Nat) (fault : Bool) : State :=
  let stopping := s.tt c == 5
  let s := s.setTt c 2
  let s := if fault && !stopping then s.routeEvent 1 else s
  (s.setCtx c { s.ctx c with faultStops := [], progs := [], replay := none, replayTo := none, plans := [] }).setRate

/-- A fault imposes a stop on a context (R190): the path of a written stop, which waits for the replayed steps to end and returns an
ARMED context to LOADED at once. -/
def State.imposeStop (s : State) (c : Nat) : State :=
  if s.tt c = 4 then s.setTt c 5 else if s.tt c = 3 then s.toLoaded c true else s

/-- A stop that a fault of step `st` imposes under R96, R117, R207 or R328 with class 0x31: it governs an abort boundary that
abandons the step (R425). -/
def State.faultStop (s : State) (c st : Nat) : State :=
  (if s.runs c then s.setCtx c { s.ctx c with faultStops := (s.ctx c).faultStops ++ [st] } else s).imposeStop c

/-- The swap of one table through RST_IDLE_SWAP (R409): recorded with step 0. -/
def State.idleSwap (s : State) (kind ready active shadowCrc activeCrc : Nat) : State :=
  let s := (s.put active (1 - s.get active)).put ready 0
  let s := s.put activeCrc (s.get shadowCrc)
  s.rpl 0x06 none 0 true 0 (kind <<< 32 ||| s.get activeCrc)

/-! ### Clears of per-context counters (R69 and its like) -/

/-- Counters zeroed, live and in the frame view (R378). -/
def State.zero (s : State) (ks : List Nat) : State :=
  ks.foldl (fun s k => let s := s.put k 0; { s with view := Sparse.set regDefault s.view k 0 }) s

/-- A ..._COUNT_CLEAR write: value c clears the counters of context c, 0xFF those of every context, other values have no
effect. `ks` gives a counter's key for a context. -/
def State.clearCounts (s : State) (ks : List (Nat → Nat)) (v : Nat) : State :=
  if v < 8 then s.zero (ks.map (fun k => k v))
  else if v = 0xFF then s.zero ((List.range 8).flatMap (fun c => ks.map (fun k => k c)))
  else s

/-- Non-finite results of one piece of work of the unit of a domain, counted, and the first latched (R46, R47). An event of an
SFU function bears the SFU's domain. -/
def State.nonFinite (s : State) (dom ctx layer st : Nat) (n : Nf) : State :=
  if n.cnt = 0 then s else
  let s := if s.get Key.NUM_NONFINITE_COUNT = 0 then
    s.put Key.NUM_NONFINITE_FIRST ((if n.sfu then 6 else dom) <<< 59 ||| ctx <<< 56 ||| layer <<< 48 ||| (n.kind.getD 0) <<< 32 ||| st % 2 ^ 32) else s
  s.count Key.NUM_NONFINITE_COUNT n.cnt

/-- Tap increments of Table 18.7: FIELD, context, amount (R437). -/
def State.tap (s : State) (field ctx n : Nat) : State :=
  let k := field * 8 + ctx
  { s with meter := { s.meter with acc := Sparse.put s.meter.acc k ((Sparse.get? s.meter.acc k).getD 0 + n) } }

/-- Work of the unit of a clock domain during a step: UNIT_BUSY (R430), and for domains 1 to 13 BUSY_CC of the context
whose window it served (R439). The spec bounds the cycles and gives no value: a free value. -/
def State.busy (s : State) (dom : Nat) (ctx : Option Nat) : State :=
  let s := s.fresh
  let n := Config.busyCycles s.free dom
  let s := s.count64 (Key.UNIT_BUSY (dom - 1)) n
  match ctx with
  | some c => if dom ≤ 13 then s.tap 6 c n else s
  | none => s

/-- The cycles that each unit has worked beside the pieces of work that count for themselves (R430): a free value for each. -/
def State.busyAll (s : State) : State :=
  (List.range 25).foldl (fun s d => s.count64 (Key.UNIT_BUSY d) (Config.busyCycles s.free (d + 1))) s.fresh

end Sys2Proof.Machine
end

