-- ==== Sys2Proof/Machine/Pool.lean ====
section
/-! DEFINITION. The Pool Manager (chapter 9, R234 to R250): classes, allocation, ring transfers, host requests. Frees
stand in Press.lean, beside the descriptors they invalidate. -/

namespace Sys2Proof.Machine

open Sys2Proof

/-- Size of a buffer of a class (Table 9.1). -/
def poolSize (c : Nat) : Nat := nth [256, 4096, 65536, 1048576, 16777216] c 0
/-- Largest POOL_COUNT of a class (Table 9.1). -/
def poolMax (c : Nat) : Nat := nth [524288, 32768, 2048, 65536, 65536] c 0
/-- The smallest class of `cs` whose size is at least `n` (R241). -/
def poolClassFor (cs : List Nat) (n : Nat) : Option Nat := cs.find? (fun c => decide (n ≤ poolSize c))

/-- POOL_COUNT of a class as it serves: 0 while POOL_STATE is not 2 (R238). -/
def State.poolCount (s : State) (c : Nat) : Nat := if s.get Key.POOL_STATE = 2 then s.get (Key.POOL_COUNT c) else 0
/-- A pool class. -/
def State.pool (s : State) (c : Nat) : PoolClass := nth s.pools c {}
/-- A pool class replaced. -/
def State.setPool (s : State) (c : Nat) (p : PoolClass) : State := { s with pools := setAt s.pools c p }
/-- POOL_QUOTA of a context (Table 7.4). -/
def State.quota (s : State) (ctx c : Nat) : Nat := u (s.part ctx) (4112 + 4 * c) 4
/-- Bytes a class's ring occupies (R235). -/
def ringLen (count : Nat) : Nat := ceilDiv (count * 8) 4096 * 4096
/-- Entries a class's ring holds now. -/
def PoolClass.inRing (p : PoolClass) : Nat := p.tail - p.head - p.reading
/-- Entries a ring has room for: its bytes in entries. -/
def State.ringCap (s : State) (c : Nat) : Nat := ringLen (s.get (Key.POOL_COUNT c)) / 8

/-- The class and buffer that hold all of `n` bytes from `a`, among the enabled classes `cs`. -/
def State.bufferAt (s : State) (cs : List Nat) (a n : Nat) : Option (Nat × Nat) :=
  (cs.find? (fun c => let b := s.get (Key.POOL_BASE c); decide (b ≤ a ∧ a < b + s.poolCount c * poolSize c))).bind
    (fun c => let b := s.get (Key.POOL_BASE c)
      let i := (a - b) / poolSize c
      if a + n ≤ b + (i + 1) * poolSize c then some (c, i) else none)

/-- Owner-map entry of a buffer: its context when ALLOCATED (R236). -/
def State.owner (s : State) (c i : Nat) : Option Nat := Sparse.get? (s.pool c).owner i

/-- A range lies inside one buffer of classes `cs` that a context holds (R273). -/
def State.inHeld (s : State) (cs : List Nat) (ctx a n : Nat) : Bool :=
  match s.bufferAt cs a n with
  | some (c, i) => s.owner c i == some ctx
  | none => false

/-- Ring entries read into the cache: placed beneath the existing entries (R242). -/
def State.refillDone (s : State) (c : Nat) : State :=
  let p := s.pool c
  let cap := s.ringCap c
  let addrs := (List.range p.reading).map (fun i =>
    unle (s.hostBytes (s.get (Key.POOL_RING_ADDR c) + 8 * ((p.head + i) % cap)) 8))
  let s := s.hostRead (s.get (Key.POOL_RING_PORT c)) (s.get (Key.POOL_RING_ADDR c) + 8 * (p.head % cap)) (8 * p.reading)
  s.setPool c { p with cache := p.cache ++ addrs, head := p.head + p.reading, reading := 0 }

/-- The ring read that an allocation starts when it leaves 16 or fewer entries and the ring holds some (R242). -/
def State.startRefill (s : State) (c : Nat) : State :=
  let p := s.pool c
  if p.cache.length ≤ 16 && p.reading = 0 && p.inRing > 0 then s.setPool c { p with reading := min 32 p.inRing } else s

/-- Spilled entries written to the ring's tail, bottom first (R242); a cache that ran low meanwhile is read for now. -/
def State.spillDone (s : State) (c : Nat) : State :=
  let p := s.pool c
  let cap := s.ringCap c
  let s := (List.range p.writing.length).foldl (fun s i =>
    s.hostWrite (s.get (Key.POOL_RING_PORT c)) (s.get (Key.POOL_RING_ADDR c) + 8 * ((p.tail + i) % cap))
      (le 8 (nth p.writing i 0))) s
  (s.setPool c { p with tail := p.tail + p.writing.length, writing := [] }).startRefill c

/-- The ring write that a free starts when it leaves 56 or more entries (R242), behind one still in flight. -/
def State.startSpill (s : State) (c : Nat) : State :=
  let p := s.pool c
  if p.cache.length ≥ 56 then
    s.setPool c { p with
      cache := p.cache.take (p.cache.length - 32)
      writing := p.writing ++ (p.cache.drop (p.cache.length - 32)).reverse }
  else s

/-- A cache that holds nothing filled from the ring, the transfers in flight ended first (R246: the Pool Manager answers a host
up to its free count; DESIGN CHOICE, log entry 47). -/
def State.fillCache (s : State) (c : Nat) : State :=
  if !(s.pool c).cache.isEmpty then s else
  let s := if (s.pool c).reading = 0 && !(s.pool c).writing.isEmpty then s.spillDone c else s
  let s := s.startRefill c
  if (s.pool c).reading > 0 then s.refillDone c else s

/-- The buffer on top of the cache handed to a context (R242, R244). -/
def State.grant (s : State) (c ctx : Nat) : Option (State × Nat) :=
  let p := s.pool c
  match p.cache with
  | [] => none
  | a :: r =>
    let i := (a - s.get (Key.POOL_BASE c)) / poolSize c
    let s := s.setPool c { p with cache := r, owner := Sparse.put p.owner i ctx }
    let s := s.put (Key.POOL_HELD c ctx) (s.get (Key.POOL_HELD c ctx) + 1)
    let f := s.get (Key.POOL_FREE c) - 1
    let s := (s.put (Key.POOL_FREE c) f).put (Key.POOL_LOW c) (min f (s.get (Key.POOL_LOW c)))
    some (s.startRefill c, a)

/-- A context may take one more buffer of a class (R243). -/
def State.underQuota (s : State) (c ctx : Nat) : Bool := decide (s.get (Key.POOL_HELD c ctx) < s.quota ctx c)

/-- A piece, by its key. -/
def State.piece (s : State) (k : PieceKey) : Option Piece := s.pieces.find? (fun p => p.key == k)
/-- A piece replaced. -/
def State.setPiece (s : State) (p : Piece) : State :=
  { s with pieces := s.pieces.map (fun q => if q.key == p.key then p else q) }

/-- The runs of bytes of a string between holes, as offset and length; `holes` rise. -/
def runsBetween : Nat → Nat → List (Nat × Nat) → List (Nat × Nat)
  | at_, n, [] => if at_ < n then [(at_, n - at_)] else []
  | at_, n, (o, m) :: r => (if at_ < o then [(at_, o - at_)] else []) ++ runsBetween (max at_ (o + m)) n r

/-- A piece's bytes written to its buffer, the payloads of its pad records left out (R83). -/
def State.stgWriteRuns (s : State) (a : Nat) (bs : Bytes) (holes : List (Nat × Nat)) : State :=
  (runsBetween 0 bs.length holes).foldl (fun s (r : Nat × Nat) => s.stgWrite (a + r.1) (sub bs r.1 r.2)) s

/-- Words that a stream's pieces take in the tile's chunk map (R86). -/
def Stream.pieceCount (x : Stream) : Nat := ceilDiv (x.places.length * x.reclen) 4096

/-- The place of a piece's word in the chunk map of its tile (R86): streams by node, then the gap stream. -/
def State.mapWord (s : State) (k : PieceKey) : Nat :=
  let kind := if k.kind = 8 then 0 else k.kind
  let before := s.streams.filter (fun (x : Stream) => x.ctx == k.ctx && x.step == k.step && x.layer == k.layer && x.tile == k.tile &&
    x.kind == kind && (k.kind == 8 || decide (x.dst < k.dst)))
  (before.map Stream.pieceCount).foldl (· + ·) 0 + k.idx

/-- The chunk-map word of a piece that has its buffer written into the map (R86). -/
def State.noteMap (s : State) (k : PieceKey) (a : Nat) : State :=
  if k.kind != 0 && k.kind != 7 && k.kind != 8 then s else
  let mk : PieceKey := { k with kind := 9, dst := 0, idx := if k.kind = 7 then 7 else 0 }
  match s.piece mk with
  | none => s
  | some m =>
    let w := le 4 (2 ^ 31 ||| a)
    let o := 4 * s.mapWord k
    match m.buf with
    | some b => s.stgWrite (b + o) w
    | none => s.setPiece { m with fill := m.fill.take o ++ w ++ m.fill.drop (o + 4) }

/-- A granted buffer given to a waiting piece: the bytes it holds in the meantime go into the Staging Store. -/
def State.givePiece (s : State) (k : PieceKey) (a : Nat) : State :=
  match s.piece k with
  | some p =>
    ((if p.fill.isEmpty then s else s.stgWriteRuns a p.fill p.holes).setPiece { p with buf := some a, fill := [] }).noteMap k a
  | none => s

/-- The first waiting request of a class that may be granted: a request that waits only on its own context's quota holds
back no other context, and the requests of one context keep their order (R243). -/
def State.nextGrant (s : State) (c : Nat) : Option PoolReq :=
  (s.pool c).wait.find? (fun r => s.underQuota c r.ctx)

/-- POOL_ALLOC_GRANT (R243): the first request that may be granted gets its buffer. -/
def poolAllocGrantOp (c : Nat) (s : State) : State :=
  if s.get Key.POOL_STATE = 2 then
    match s.nextGrant c with
    | none => s
    | some r =>
      match s.grant c r.ctx with
      | none => s
      | some (s, a) =>
        let s := s.setPool c { s.pool c with wait := (s.pool c).wait.erase r }
        s.givePiece r.key a
  else s

/-- A unit's request for the buffer of a piece (R241, R243): granted at once when no earlier request of the context waits and none
of another that a free buffer could serve, else it waits and POOL_WAIT_COUNT rises. A piece in pad payloads alone, or of no bytes,
takes none. A piece formed here takes a buffer of the 4 KiB class (R84, R86), a received one the class of its length (R241; DEDUCED, log entry 66). -/
def State.askBuffer (s : State) (p : Piece) : State :=
  if p.padOnly || p.len = 0 then s else
  match poolClassFor [0, 1, 2] (if p.rx then p.len else max 4096 p.len) with
  | none => s
  | some c =>
    let s := s.setPiece { p with cls := c }
    let free := s.get Key.POOL_STATE == 2 && s.underQuota c p.key.ctx && !((s.pool c).wait.any (fun r => r.ctx == p.key.ctx)) && (s.nextGrant c).isNone
    match (if free then s.grant c p.key.ctx else none) with
    | some (s, a) => s.givePiece p.key a
    | none =>
      let s := s.count (Key.POOL_WAIT_COUNT p.key.ctx) 1
      s.setPool c { s.pool c with wait := (s.pool c).wait ++ [{ ctx := p.key.ctx, key := p.key }] }

/-! ### Initialisation (R238, R239) -/

/-- Two ranges share a byte. -/
def overlaps (a n b m : Nat) : Bool := decide (0 < n ∧ 0 < m ∧ a < b + m ∧ b < a + n)

/-- A range that every context reaches through a port (R238). -/
def State.reachAll (s : State) (port a n : Nat) : Bool := (List.range 8).all (fun x => s.reaches x port a n)

/-- Host ranges of an enabled class: its ring, and for classes 3 and 4 its region. -/
def State.poolHost (s : State) (c : Nat) : List (Nat × Nat) :=
  let n := s.get (Key.POOL_COUNT c)
  if n = 0 then [] else
  (s.get (Key.POOL_RING_ADDR c), ringLen n) :: (if c ≥ 3 then [(s.get (Key.POOL_BASE c), n * poolSize c)] else [])

/-- Result code of one class (Table 9.3). -/
def State.poolCheck (s : State) (c : Nat) : Nat :=
  let n := s.get (Key.POOL_COUNT c)
  let b := s.get (Key.POOL_BASE c)
  let ring := s.get (Key.POOL_RING_ADDR c)
  let port := s.get (Key.POOL_RING_PORT c)
  let others := (List.range 5).filter (· != c)
  if n = 0 then 0
  else if b % poolSize c ≠ 0 || ring % 4096 ≠ 0 then 1
  else if n > poolMax c || (c < 3 && b + n * poolSize c > 134217728) then 2
  else if c < 3 && (overlaps b (n * poolSize c) (s.get Key.CLE_REDUCE_BASE) 16777216 ||
      (others.filter (· < 3)).any (fun d =>
        overlaps b (n * poolSize c) (s.get (Key.POOL_BASE d)) (s.get (Key.POOL_COUNT d) * poolSize d))) then 3
  else if (s.poolHost c).any (fun r => (others.flatMap s.poolHost).any (fun q => overlaps r.1 r.2 q.1 q.2)) ||
      (c ≥ 3 && overlaps b (n * poolSize c) ring (ringLen n)) ||
      (port ≤ 3 && (s.poolHost c).any (fun r => !(s.reachAll port r.1 r.2))) then 4
  else if port > 3 then 5
  else 0

/-- POOL_CONTROL 0x01 (R238): no effect while a context is not STOPPED. -/
def poolInitialiseOp (s : State) : State :=
  if (List.range 8).all (fun c => s.tt c == 0) then
    let s := { s with pools := List.replicate 5 {} }
    match (List.range 5).find? (fun c => s.poolCheck c != 0) with
    | some c =>
      let s := (s.put Key.POOL_STATE 3).put Key.POOL_INIT_RESULT (c * 256 + s.poolCheck c)
      s.log { cls := Ec.descRange, det := 0x68, dom := 12, arg := c <<< 16 ||| 0x5005 }
    | none =>
      let s := (s.put Key.POOL_STATE 1).put Key.POOL_INIT_RESULT 0
      (List.range 5).foldl (fun s c => (List.range 8).foldl (fun s x => s.put (Key.POOL_HELD c x) 0) s) s
  else s

/-- One class initialised: its ring written with the buffer addresses in ascending order, its cache loaded (R239). -/
def State.poolFill (s : State) (c : Nat) : State :=
  let n := s.get (Key.POOL_COUNT c)
  let b := s.get (Key.POOL_BASE c)
  let addrs := (List.range n).map (fun i => b + i * poolSize c)
  let s := if n = 0 then s else
    s.hostWrite (s.get (Key.POOL_RING_PORT c)) (s.get (Key.POOL_RING_ADDR c)) (addrs.flatMap (le 8))
  let k := min 64 n
  let s := s.setPool c { cache := addrs.take k, head := k, tail := n }
  (s.put (Key.POOL_FREE c) n).put (Key.POOL_LOW c) n

/-- POOL_INIT_DONE (R239): every ring write has completed. -/
def poolInitDoneOp (s : State) : State :=
  if s.get Key.POOL_STATE = 1 then ((List.range 5).foldl State.poolFill s).put Key.POOL_STATE 2 else s

/-- POOL_RING_REFILL_DONE (R242): the class's ring read, else its ring write, completes. -/
def poolRingRefillDoneOp (c : Nat) (s : State) : State :=
  if (s.pool c).reading > 0 then s.refillDone c
  else if (s.pool c).writing.isEmpty then s else s.spillDone c

/-- POOL_CONTROL 0x02 (R237). -/
def poolSetLowOp (s : State) : State :=
  (List.range 5).foldl (fun s c => s.put (Key.POOL_LOW c) (s.get (Key.POOL_FREE c))) s

/-- A host allocation request answered at once (R246, Table 9.4). DESIGN CHOICE (log entry 47): an empty pool is answered before a
quota, and ring transfers end before an answer that needs them. -/
def poolAllocReqOp (tr : Transport) (v : Nat) (s : State) : State :=
  let ctx := bits v 61 3
  let n := bits v 0 32
  let put (s : State) (status cls addr : Nat) : State :=
    s.put (trKey tr Key.POOL_ALLOC_RESULT) (status <<< 61 ||| cls <<< 58 ||| addr)
  if bits v 32 29 ≠ 0 || n > 16777216 then
    (put s 4 0 0).log { cls := Ec.poolRange, det := 0x04, dom := 12, ctx := some ctx }
  else if n = 0 then put s 1 0 0
  else
    let c := if n ≤ 1048576 then 3 else 4
    let s := if s.get Key.POOL_STATE = 2 then s.fillCache c else s
    if s.get Key.POOL_STATE ≠ 2 || (s.pool c).cache.isEmpty then put s 2 0 0
    else if s.holdsPart ctx && !(s.underQuota c ctx) then put s 3 0 0
    else match s.grant c ctx with
      | some (s, a) => put s 0 c a
      | none => put s 2 0 0

/-- POOL_RING_REFILL_DONE. -/
def execPoolRingRefillDone (cls : Nat) (s : State) : Host.Outcome State Fault Refusal :=
  .next (actFresh (poolRingRefillDoneOp cls) s)
/-- POOL_INIT_DONE. -/
def execPoolInitDone (s : State) : Host.Outcome State Fault Refusal := .next (act poolInitDoneOp s)

end Sys2Proof.Machine
end

