-- ==== Sys2Proof/Machine/SfuNum.lean ====
section
/-! DEFINITION. The special functions (chapter 11, R287 to R293): kernels with their coefficients (the exact reals of R287,
each rounded once), exp, log, reciprocal, reciprocal square root, sigmoid, softmax and normalisation. -/

namespace Sys2Proof.Machine

open Sys2Proof

/-- The rounded coefficients c0, c1 of the exp kernel by segment (R287, Table 11.1). -/
def coefExp : List (F32 × F32) := [
  (0x3F7FFE0F, 0x3F3361A6), (0x3F82CC88, 0x3F374F34), (0x3F85A9C0, 0x3F3B52C6), (0x3F889705, 0x3F3F6CD9),
  (0x3F8B94B3, 0x3F439DEA), (0x3F8EA324, 0x3F47E67A), (0x3F91C2B8, 0x3F4C470D), (0x3F94F3CE, 0x3F50C02A),
  (0x3F9836C9, 0x3F55525A), (0x3F9B8C0C, 0x3F59FE2A), (0x3F9EF3FE, 0x3F5EC429), (0x3FA26F07, 0x3F63A4EA),
  (0x3FA5FD94, 0x3F68A103), (0x3FA9A011, 0x3F6DB90D), (0x3FAD56EE, 0x3F72EDA6), (0x3FB1229D, 0x3F783F6D),
  (0x3FB50394, 0x3F7DAF05), (0x3FB8FA48, 0x3F819E8B), (0x3FBD0734, 0x3F847525), (0x3FC12AD6, 0x3F875BA9),
  (0x3FC565AB, 0x3F8A526F), (0x3FC9B836, 0x3F8D59D2), (0x3FCE22FC, 0x3F907230), (0x3FD2A684, 0x3F939BE7),
  (0x3FD7435B, 0x3F96D75A), (0x3FDBFA0C, 0x3F9A24EB), (0x3FE0CB2A, 0x3F9D84FF), (0x3FE5B749, 0x3FA0F800),
  (0x3FEABEFF, 0x3FA47E56), (0x3FEFE2E8, 0x3FA8186F), (0x3FF523A1, 0x3FABC6B9), (0x3FFA81CC, 0x3FAF89A5)]

/-- The rounded coefficients c0, c1 of the log kernel by segment (R287, Table 11.1). -/
def coefLog : List (F32 × F32) := [
  (0x3F9348A4, 0xBF36115D), (0x3F907094, 0xBF2CCBCA), (0x3F8DBD93, 0xBF244CB6), (0x3F8B2C8A, 0xBF1C7D41),
  (0x3F88BAB9, 0xBF1549DD), (0x3F8665B3, 0xBF0EA1BC), (0x3F842B49, 0xBF087657), (0x3F82098B, 0xBF02BB14),
  (0x3F7FFD6D, 0xBEFAC9E3), (0x3F7C1271, 0xBEF0D49D), (0x3F784F46, 0xBEE78563), (0x3F74B154, 0xBEDECD41),
  (0x3F713640, 0xBED69EF6), (0x3F6DDBE2, 0xBECEEEBA), (0x3F6AA043, 0xBEC7B20F), (0x3F678194, 0xBEC0DF8E),
  (0x3F647E2E, 0xBEBA6ECD), (0x3F619488, 0xBEB45837), (0x3F5EC33B, 0xBEAE94F8), (0x3F5C08FA, 0xBEA91EE4),
  (0x3F596490, 0xBEA3F063), (0x3F56D4DE, 0xBE9F0462), (0x3F5458DC, 0xBE9A5643), (0x3F51EF90, 0xBE95E1CF),
  (0x00000000, 0x00000000), (0x00000000, 0x00000000), (0x00000000, 0x00000000), (0x00000000, 0x00000000),
  (0x00000000, 0x00000000), (0x00000000, 0x00000000), (0x00000000, 0x00000000), (0x00000000, 0x00000000)]

/-- The rounded coefficients c0, c1 of the recip kernel by segment (R287, Table 11.1). -/
def coefRecip : List (F32 × F32) := [
  (0x3F7FFE0C, 0xBF7C0FC1), (0x3F7C0DE3, 0xBF746C5E), (0x3F783C47, 0xBF6D2089), (0x3F7487D9, 0xBF66271C),
  (0x3F70EF4F, 0xBF5F7B4F), (0x3F6D7174, 0xBF5918B3), (0x3F6A0D22, 0xBF52FB28), (0x3F66C145, 0xBF4D1ED9),
  (0x3F638CD9, 0xBF478032), (0x3F606EE6, 0xBF421BDE), (0x3F5D6684, 0xBF3CEEC0), (0x3F5A72D6, 0xBF37F5F1),
  (0x3F57930A, 0xBF332EB8), (0x3F54C65B, 0xBF2E968C), (0x3F520C0B, 0xBF2A2B0A), (0x3F4F636A, 0xBF25E9F7),
  (0x3F4CCBCB, 0xBF21D13A), (0x3F4A4490, 0xBF1DDEDA), (0x3F47CD1D, 0xBF1A1100), (0x3F4564E2, 0xBF1665EE),
  (0x3F430B52, 0xBF12DC01), (0x3F40BFEA, 0xBF0F71AD), (0x3F3E822B, 0xBF0C2580), (0x3F3C519C, 0xBF08F61A),
  (0x3F3A2DCA, 0xBF05E231), (0x3F381648, 0xBF02E88B), (0x3F360AAC, 0xBF000801), (0x3F340A91, 0xBEFA7EF6),
  (0x3F321599, 0xBEF51BE3), (0x3F302B67, 0xBEEFE4D3), (0x3F2E4BA2, 0xBEEAD7EC), (0x3F2C75F7, 0xBEE5F36D)]

/-- The rounded coefficients c0, c1 of the rsqrt kernel by segment (R287, Table 11.1). -/
def coefRsqrt : List (F32 × F32) := [
  (0x3F7FFD1D, 0xBEFA26F0), (0x3F7C14B7, 0xBEEF087F), (0x3F7858C6, 0xBEE4B6DC), (0x3F74C616, 0xBEDB1DFA),
  (0x3F7159C6, 0xBED22C3F), (0x3F6E1139, 0xBEC9D22B), (0x3F6AEA12, 0xBEC2020C), (0x3F67E227, 0xBEBAAFBB),
  (0x3F64F784, 0xBEB3D06A), (0x3F62285C, 0xBEAD5A74), (0x3F5F7309, 0xBEA74539), (0x3F5CD609, 0xBEA188FC),
  (0x3F5A4FF9, 0xBE9C1EC7), (0x3F57DF90, 0xBE970054), (0x3F5583A0, 0xBE9227F5), (0x3F533B10, 0xBE8D9088),
  (0x3F5104DC, 0xBE893564), (0x3F4EE014, 0xBE851249), (0x3F4CCBD7, 0xBE81235C), (0x3F4AC756, 0xBE7ACA29),
  (0x3F48D1CC, 0xBE73A870), (0x3F46EA86, 0xBE6CDBA3), (0x3F4510D8, 0xBE665E53), (0x3F434424, 0xBE602B85),
  (0x3F4183D6, 0xBE5A3E9E), (0x3F3FCF61, 0xBE549363), (0x3F3E2641, 0xBE4F25EA), (0x3F3C87FC, 0xBE49F294),
  (0x3F3AF41E, 0xBE44F609), (0x3F396A38, 0xBE402D2D), (0x3F37E9E4, 0xBE3B951D), (0x3F3672BF, 0xBE372B2D)]

/-- SFU_COEF (R287, Table 11.1). -/
def sfuCoef : Bytes :=
  (coefExp ++ coefLog ++ coefRecip ++ coefRsqrt).flatMap (fun p => le 4 p.1.toNat ++ le 4 p.2.toNat)

/-- The kernel value at `r = a + num / 2^k` with segments of width `2^-hl` (R287); `g0` is its value at `a`. -/
def kernel (coefs : List (F32 × F32)) (g0 : F32) (hl num k : Nat) : F32 :=
  let j := num * 2 ^ hl / 2 ^ k
  let dn := num * 2 ^ hl - j * 2 ^ k
  if j = 0 && dn = 0 then g0 else
  let c := nth coefs j (0, 0)
  F32.round (((fval c.2).mul (.fin false dn (-((k + hl : Nat) : Int)))).add (fval c.1))

/-- A result and the KIND of Table 2.7 it counts with, if it does (R46, R289). -/
abbrev SfuOut := F32 × Option Nat

/-- 2^k times an FP32 value, rounded once; a finite value that overflows counts KIND 0b00 (R289). -/
def sfuScale (p : F32) (k : Int) : SfuOut :=
  let r := F32.round ((fval p).scale k)
  (r, if F32.finite p && !F32.finite r then some 0 else none)

/-- +infinity. -/
def F32.pinf : F32 := 0x7F800000

/-- sfu_exp (R288, R289). -/
def sfuExp (x : F32) : SfuOut :=
  match fval x with
  | .nan => (F32.nan, none)
  | .inf true => (0, none)
  | .inf false => (F32.pinf, none)
  | v@(.fin ..) =>
    match fval (F32.round (v.mul (fval 0x3FB8AA3B))) with
    | .nan => (F32.nan, none)
    | .inf true => (0, none)
    | .inf false => (F32.pinf, some 0)
    | .fin neg m e =>
      let q : Nat := 2 ^ (-e).toNat
      let num : Int := (if neg then -1 else 1) * (m * 2 ^ e.toNat : Nat)
      let n : Int := num / (q : Int)
      let f : Nat := (num - n * q).toNat
      if n ≥ 128 then (F32.pinf, some 0)
      else if num < -151 * (q : Int) then (0, none)
      else sfuScale (kernel coefExp F32.one 5 f (-e).toNat) n

/-- The significand and exponent of a non-zero magnitude: `m / 2^k` in [1, 2) and e with x = 2^e × m / 2^k. -/
def normal (m : Nat) (e : Int) : Nat × Int := (Nat.log2 m, e + Nat.log2 m)

/-- sfu_log (R288, R289). -/
def sfuLog (x : F32) : SfuOut :=
  match fval x with
  | .nan => (F32.nan, none)
  | .inf true => (F32.nan, none)
  | .inf false => (F32.pinf, none)
  | .fin neg m e =>
    if m = 0 then (F32.ninf, some 2)
    else if neg then (F32.nan, some 2)
    else
      let k := (normal m e).1
      let ex := (normal m e).2
      let big := decide (2 * m ≥ 3 * 2 ^ k)
      let k' := if big then k + 1 else k
      let ex' := if big then ex + 1 else ex
      let uv : Val := if m ≥ 2 ^ k' then .fin false (m - 2 ^ k') (-(k' : Int)) else .fin true (2 ^ k' - m) (-(k' : Int))
      let t := F32.round (uv.mul (fval (kernel coefLog 0x3F934B11 5 (4 * m - 3 * 2 ^ k') (k' + 2))))
      let ev : Val := .fin (decide (ex' < 0)) ex'.natAbs 0
      (F32.round ((ev.mul (fval 0x3F317218)).add (fval t)), none)

/-- sfu_recip (R288, R289). -/
def sfuRecip (x : F32) : SfuOut :=
  match fval x with
  | .nan => (F32.nan, none)
  | .inf neg => (if neg then 0x80000000 else 0, none)
  | .fin neg m e =>
    if m = 0 then (if neg then F32.ninf else F32.pinf, some 2) else
    let k := (normal m e).1
    let ex := (normal m e).2
    let big := decide (2 * m ≥ 3 * 2 ^ k)
    let mv : Val := .fin false m (-(k : Int))
    let folded := fval (F32.round (mv.mul (fval 0x3F400000)))
    let p := match (if big then folded else mv) with
      | .fin _ a b => let q := (-b).toNat; kernel coefRecip F32.one 6 (a * 2 ^ b.toNat - 2 ^ q) q
      | _ => F32.nan
    let w := if big then F32.round ((fval 0x3F400000).mul (fval p)) else F32.round ((fval F32.one).mul (fval p))
    let r := sfuScale w (-ex)
    (if neg then r.1 ||| 0x80000000 else r.1, r.2)

/-- sfu_rsqrt (R288, R289). -/
def sfuRsqrt (x : F32) : SfuOut :=
  match fval x with
  | .nan => (F32.nan, none)
  | .inf true => (F32.nan, none)
  | .inf false => (0, none)
  | .fin neg m e =>
    if m = 0 then (if neg then F32.ninf else F32.pinf, some 2)
    else if neg then (F32.nan, some 2)
    else
      let k := (normal m e).1
      let ex := (normal m e).2
      let odd := ex % 2 != 0
      let p := kernel coefRsqrt F32.one 5 (m - 2 ^ k) k
      let w := F32.round ((fval (if odd then 0x3F3504F3 else F32.one)).mul (fval p))
      sfuScale w (-((if odd then ex - 1 else ex) / 2))

/-- sfu_sigmoid (R290); a finite argument's output is finite, so nothing counts. -/
def sfuSigmoid (x : F32) : F32 :=
  (sfuRecip (F32.round ((fval F32.one).add (fval (sfuExp (F32.round (fval x).neg)).1)))).1

/-- The larger of two values: NaN if either is, +0 above −0 (R292, Table 11.5). -/
def fmax (a b : F32) : F32 :=
  if F32.isNan a || F32.isNan b then F32.nan
  else if F32.lt a b then b else if F32.lt b a then a else if a = 0x80000000 then b else a

/-- The smaller of two values, by the same rules. -/
def fmin (a b : F32) : F32 :=
  if F32.isNan a || F32.isNan b then F32.nan
  else if F32.lt a b then a else if F32.lt b a then b else if a = 0 then b else a

/-- Uncounted roundings, for the inside of an operation (R290). -/
def qadd (a b : F32) : F32 := F32.round ((fval a).add (fval b))
def qsub (a b : F32) : F32 := F32.round ((fval a).add (fval b).neg)
def qmul (a b : F32) : F32 := F32.round ((fval a).mul (fval b))

/-- A value held at +infinity bits or NaN among outputs whose inputs are all finite counts once each (R46, R290). -/
def countOuts (ins outs : List F32) : Nf :=
  if ins.all F32.finite then
    let n := (outs.filter (fun o => !F32.finite o)).length
    { cnt := n, kind := if n = 0 then none else some 0, sfu := n != 0 }
  else {}

/-- One block of a softmax row in pass 1 (R292): block maximum, exponentials, block sum; none where every position is
masked. A position is its value and whether it is masked. -/
def smBlock (b : List (F32 × Bool)) : Option (F32 × List F32 × F32) :=
  match (b.filter (fun p => !p.2)).map (·.1) with
  | [] => none
  | x :: r =>
    let mb := r.foldl fmax x
    let es := b.map (fun p => if p.2 then (0 : F32) else (sfuExp (qsub p.1 mb)).1)
    some (mb, es, (runNf (treeSum 8 (es ++ List.replicate (256 - es.length) 0))).1)

/-- Running maximum and sum of pass 1 (R292). -/
def smStep (acc : Option (F32 × F32)) (b : F32 × List F32 × F32) : Option (F32 × F32) :=
  match acc with
  | none => some (b.1, b.2.2)
  | some (m, t) =>
    if F32.lt m b.1 then some (b.1, qadd (qmul t (sfuExp (qsub m b.1)).1) b.2.2)
    else some (m, qadd t (qmul b.2.2 (sfuExp (qsub b.1 m)).1))

/-- sfu_softmax (R292): the outputs, and whether every position was masked. -/
def softmax (row : List (F32 × Bool)) : List F32 × Bool :=
  let blocks := (chunks 256 (ceilDiv row.length 256) row).map (fun b => (b, smBlock b))
  match (blocks.filterMap (·.2)).foldl smStep none with
  | none => (row.map (fun _ => 0), true)
  | some (m, t) =>
    let r := (sfuRecip t).1
    (blocks.flatMap (fun b => match b.2 with
      | none => b.1.map (fun _ => (0 : F32))
      | some (mb, es, _) =>
        let fb := qmul (sfuExp (qsub mb m)).1 r
        (b.1.zip es).map (fun p => if p.1.2 then 0 else qmul p.2 fb)), false)

/-- sfu_norm (R293): mean and variance. -/
def sfuNorm : List F32 → F32 × F32
  | [] => (0, 0)
  | x :: r =>
    let go := r.foldl (fun (acc : F32 × F32 × Nat) v =>
      let d := qsub v acc.1
      let mu := qadd acc.1 (qmul d (sfuRecip (F32.ofNat acc.2.2)).1)
      (mu, qadd acc.2.1 (qmul d (qsub v mu)), acc.2.2 + 1)) (x, 0, 2)
    let var := qmul go.2.1 (sfuRecip (F32.ofNat (r.length + 1))).1
    (go.1, if !F32.isNan var && (F32.lt var 0 || var = 0x80000000) then 0 else var)

end Sys2Proof.Machine
end

