-- ==== Sys2Proof/Machine/Layer.lean ====
section
/-! DEFINITION. Layer entries and their descriptors (Tables 7.5, 3.2, 4.2, 6.1), the placement table's chains and streams
(R71 to R73, R81), token records (Table 5.1), and pieces in the Staging Store (R84, R122). -/

namespace Sys2Proof.Machine

open Sys2Proof

/-! ### Layer entries -/

def selBias (l : Bytes) : Nat := bits (u l 0 32) 192 64
def selMask (l : Bytes) : Nat := bits (u l 0 32) 128 64
def selScale (l : Bytes) : F32 := BitVec.ofNat 32 (bits (u l 0 32) 96 32)
def selAmp (l : Bytes) : F32 := BitVec.ofNat 32 (bits (u l 0 32) 64 32)
def selE (l : Bytes) : Nat := bits (u l 0 32) 51 13
def selK (l : Bytes) : Nat := bits (u l 0 32) 46 5
def selM (l : Bytes) : Nat := bits (u l 0 32) 41 5
def selJ (l : Bytes) : Nat := bits (u l 0 32) 38 3
def selRule (l : Bytes) : Nat := bits (u l 0 32) 36 2
def selNoise (l : Bytes) : Nat := bits (u l 0 32) 34 2
def selRenorm (l : Bytes) : Bool := bit (u l 0 32) 33
def selStats (l : Bytes) : Bool := bit (u l 0 32) 32
def cdBase (l : Bytes) : Nat := bits (u l 32 8) 48 16
def cdReserve (l : Bytes) : Nat := bits (u l 32 8) 44 4
def cdOverflow (l : Bytes) : Nat := bits (u l 32 8) 42 2
def cdOrder (l : Bytes) : Nat := bits (u l 32 8) 40 2
def cdRenorm (l : Bytes) : Nat := bits (u l 32 8) 38 2
def lyD (l : Bytes) : Nat := u l 40 2
def lyTiles (l : Bytes) : Nat := u l 42 2
def lyHidden (l : Bytes) : Nat := bits (u l 44 4) 20 4
def lyWeightFmt (l : Bytes) : Nat := bits (u l 44 4) 16 4
def lyDisp (l : Bytes) : Nat := bits (u l 44 4) 12 4
def lyRet (l : Bytes) : Nat := bits (u l 44 4) 8 4
def lyBwd (l : Bytes) : Nat := bits (u l 44 4) 4 4
def lyIn (l : Bytes) : Nat := bits (u l 44 4) 0 4
def lyWeight (l : Bytes) : Nat := u l 48 8
def lyLog (l : Bytes) : Nat := u l 56 8
def lyLogLen (l : Bytes) : Nat := u l 64 8
def lyStats (l : Bytes) : Nat := u l 72 4
def lyResid (l : Bytes) : Nat := u l 76 2 % 4096
def lyPort (l : Bytes) : Nat := bits (u l 78 1) 2 2
def lyStream (l : Bytes) : Bool := bit (u l 78 1) 1
def lyBackward (l : Bytes) : Bool := bit (u l 78 1) 0
def bw (l : Bytes) (lo w : Nat) : Nat := bits (u l 80 64) lo w
def bwLogit (l : Bytes) : Nat := bw l 448 64
def bwOut (l : Bytes) : Nat := bw l 384 64
def bwAcc (l : Bytes) : Nat := bw l 320 64
def bwRes (l : Bytes) : Nat := bw l 256 64
def bwAlpha (l : Bytes) : F32 := BitVec.ofNat 32 (bw l 224 32)
def bwState (l : Bytes) : Nat := bw l 210 14
def bwFirst (l : Bytes) : Nat := bw l 198 12
def bwCount (l : Bytes) : Nat := bw l 185 13
def bwDeadline (l : Bytes) : Nat := bw l 169 16
def bwDy (l : Bytes) : Nat := bw l 157 12
def bwDx (l : Bytes) : Nat := bw l 145 12
def bwFmt (l : Bytes) : Nat := bw l 141 4
def bwRefetch (l : Bytes) : Bool := bw l 139 2 == 1
def bwHost (l : Bytes) : Bool := bw l 138 1 == 1
def bwRouter (l : Bytes) : Bool := bw l 137 1 == 1

/-- Strides of the per-tile host buffers (R89, R139, R140). -/
def logStride (l : Bytes) : Nat := alignUp (1088 + 4096 * selK l) 4096
def logitPos (l : Bytes) : Nat := alignUp (4 * selE l + ceilDiv (selE l) 4) 32
def logitStride (l : Bytes) : Nat := alignUp (64 + 256 * logitPos l) 4096
def outStride (l : Bytes) : Nat := if bwRefetch l then 4096 else alignUp (576 + 256 * selK l * payloadLen (lyRet l) (lyD l)) 4096

/-- The lowest-numbered memory port that reaches a range for a context; 0 where none does. -/
def State.portFor (s : State) (c a n : Nat) : Nat := ((List.range 4).find? (fun p => s.reaches c p a n)).getD 0

/-! ### The placement table -/

/-- Bytes of a bank. -/
def ptDom (b : Nat) : Nat := if b = 0 then Dom.PT_BANK0 else Dom.PT_BANK1
/-- Entry `i` of a bank (R71). -/
def State.pt (s : State) (b i : Nat) : Nat := unle (s.domBytes (ptDom b) (8 * i) 8)
def ptNext (e : Nat) : Nat := bits e 48 16
def ptCap (e : Nat) : Nat := bits e 35 13
def ptSlot (e : Nat) : Nat := bits e 23 12
def ptPort (e : Nat) : Nat := bits e 19 4
def ptNode (e : Nat) : Nat := bits e 5 14
def ptValid (e : Nat) : Bool := bit e 0

/-- Entries reached from index `i`, at most `fuel`. -/
def State.ptWalk (s : State) (b : Nat) : Nat → Nat → List Nat
  | 0, _ => []
  | n + 1, i => i :: (if ptNext (s.pt b i) = 0xFFFF then [] else s.ptWalk b n (ptNext (s.pt b i)))

/-- The chain of an expert (R73): empty where its primary entry is invalid. -/
def State.chain (s : State) (b : Nat) (l : Bytes) (e : Nat) : List Nat :=
  let p := cdBase l + e
  if ptValid (s.pt b p) then s.ptWalk b 4 p else []

/-- The usable entries of an expert (R73). -/
def State.usable (s : State) (b : Nat) (l : Bytes) (e : Nat) : List Nat :=
  let h := ptNode (s.pt b (cdBase l + e))
  (s.chain b l e).filter (fun i => selM l == 0 || ptNode (s.pt b i) == h)

/-- Every usable entry of a layer with its expert. -/
def State.layerEntries (s : State) (b : Nat) (l : Bytes) : List (Nat × Nat) :=
  (List.range (selE l)).flatMap (fun e => (s.usable b l e).map (fun i => (i, e)))

/-- The places of the stream to node `v` (R81), no place used yet. -/
def State.places (s : State) (b : Nat) (l : Bytes) (v : Nat) : List Place :=
  let key (x : Nat × Nat) : List Nat := [ptPort (s.pt b x.1), ptSlot (s.pt b x.1), x.1]
  let bs := sortBy (fun x y => lexLt (key x) (key y)) ((s.layerEntries b l).filter (fun x => ptNode (s.pt b x.1) == v))
  bs.flatMap (fun x => (List.range (ptCap (s.pt b x.1))).map (fun j =>
    { tport := ptPort (s.pt b x.1), slot := ptSlot (s.pt b x.1), entry := x.1, pos := j, expert := x.2, used := false }))

/-- Destination nodes of a layer, ascending. -/
def State.dests (s : State) (b : Nat) (l : Bytes) : List Nat :=
  (sortBy (fun a b => decide (a < b)) ((s.layerEntries b l).map (fun x => ptNode (s.pt b x.1)))).eraseDups

/-! ### Records -/

/-- A bit as a number. -/
def b2n (b : Bool) : Nat := if b then 1 else 0

/-- A record header's 32 bytes (Table 5.1). -/
def hdrBytes (h : Hdr) : Bytes :=
  le 32 ((h.place % 2 ^ 24) <<< 208 ||| h.slot <<< 196 ||| h.tport <<< 192 ||| (h.stepLo % 2 ^ 32) <<< 160 ||| h.gate <<< 128 |||
    h.pos <<< 112 ||| h.tile <<< 96 ||| h.kind <<< 84 ||| h.fmt <<< 80 ||| b2n h.zeroVisit <<< 78 ||| b2n h.masked <<< 77 |||
    b2n h.rerouted <<< 76 ||| b2n h.gap <<< 75 ||| b2n h.pad <<< 74 ||| h.rank <<< 70 ||| h.expert <<< 58 ||| h.layer <<< 50 |||
    h.stport <<< 46 ||| h.src <<< 32 ||| h.token)

/-- The fields of a header's 32 bytes. -/
def hdrOf (bs : Bytes) : Hdr :=
  let v := u bs 0 32
  { place := bits v 208 24, slot := bits v 196 12, tport := bits v 192 4, stepLo := bits v 160 32, gate := bits v 128 32,
    pos := bits v 112 12, tile := bits v 96 16, kind := bits v 84 2, fmt := bits v 80 4, zeroVisit := bit v 78,
    masked := bit v 77, rerouted := bit v 76, gap := bit v 75, pad := bit v 74, rank := bits v 70 4, expert := bits v 58 12,
    layer := bits v 50 8, stport := bits v 46 4, src := bits v 32 14, token := bits v 0 32 }

/-! ### Pieces -/

/-- A piece's bytes are all there: written into its buffer, or committed. -/
def Piece.here (p : Piece) : Bool := p.ready && (p.padOnly || p.void || p.len == 0 || p.buf.isSome)

/-- A byte string with zero bytes in some ranges. -/
def zeroHoles (bs : Bytes) (holes : List (Nat × Nat)) : Bytes :=
  holes.foldl (fun (x : Bytes) (h : Nat × Nat) => x.take h.1 ++ zeros h.2 ++ x.drop (h.1 + h.2)) bs

/-- The bytes of a piece as they stand; zero for one that lies in pad payloads or was refused (R83, R117). -/
def State.pieceBytes (s : State) (p : Piece) : Bytes :=
  if p.padOnly || p.void then zeros p.len
  else match p.buf with
    | some a => zeroHoles (s.stgBytes a p.len) p.holes
    | none => sub p.fill 0 p.len

/-- A piece added, with its buffer asked for (R88, R241). -/
def State.addPiece (s : State) (p : Piece) : State :=
  if s.pieces.any (fun q => q.key == p.key) then s else ({ s with pieces := s.pieces ++ [p] }).askBuffer p

/-- Pad payloads in bytes `a` to `b - 1` of a stream of records of `reclen` bytes, as offset from `a` and length: `pad i`
tells whether place `i` holds a record whose payload counts as zero (R83). -/
def padHoles (reclen : Nat) (pad : Nat → Bool) (a b : Nat) : List (Nat × Nat) :=
  (List.range ((b - 1) / reclen - a / reclen + 1)).filterMap (fun j =>
    let r := a / reclen + j
    let lo := max a (r * reclen + 32)
    let hi := min b ((r + 1) * reclen)
    if pad r && lo < hi then some (lo - a, hi - lo) else none)

/-- A 4 KiB piece cut from a stream (R84): its index, its bytes, its pad payloads. -/
structure Cut where
  idx : Nat
  bytes : Bytes
  holes : List (Nat × Nat)
deriving DecidableEq, Repr, Inhabited

/-- It lies in pad payloads alone. -/
def Cut.padOnly (c : Cut) : Bool := decide (c.bytes.length ≤ (c.holes.map (·.2)).foldl (· + ·) 0)

/-- The 4 KiB pieces of a stream (R84). -/
def cutPieces (bs : Bytes) (reclen : Nat) (pad : Nat → Bool) : List Cut :=
  (List.range (ceilDiv bs.length 4096)).map (fun i =>
    let a := 4096 * i
    let b := min bs.length (a + 4096)
    { idx := i, bytes := sub bs a (b - a), holes := padHoles reclen pad a b })

/-- The pieces of one stream, in piece order. -/
def State.streamPieces (s : State) (k : PieceKey) : List Piece :=
  sortBy (fun a b => decide (a.key.idx < b.key.idx))
    (s.pieces.filter (fun p => p.key == { k with idx := p.key.idx }))

/-- Whether the bytes `a` to `a + n - 1` of a stream are all committed, and which pieces hold them. -/
def State.spanPieces (s : State) (k : PieceKey) (a n : Nat) : Option (List Piece) :=
  let idx := (List.range ((a + n - 1) / 4096 - a / 4096 + 1)).map (fun j => a / 4096 + j)
  let ps := idx.map (fun i => s.piece { k with idx := i })
  if ps.all (fun p => match p with | some p => p.here | none => false) then some (ps.filterMap id) else none

/-- Bytes `a` to `a + n - 1` of a stream whose pieces there are committed. -/
def State.spanBytes (s : State) (k : PieceKey) (a n : Nat) : Bytes :=
  match s.spanPieces k a n with
  | some ps => sub (ps.flatMap s.pieceBytes) (a % 4096) n
  | none => []

end Sys2Proof.Machine
end

