-- ==== Sys2Proof/Machine/Audit.lean ====
section
/-! DEFINITION. What the Determinism and Replay Unit notes of a step in progress (R216 to R220, R229), and what the units share
on tile ports: series numbers, control flits, window lookup (R455, R458). -/

namespace Sys2Proof.Machine

open Sys2Proof

/-! ### Notes of a step -/

/-- The notes of a step: of its latest attempt. -/
def State.notes (s : State) (c st : Nat) : Option Audit :=
  (s.audits.filter (fun (a : Audit) => a.ctx == c && a.step == st)).getLast?

/-- The notes of a step's latest attempt changed. -/
def State.updAudit (s : State) (c st : Nat) (f : Audit → Audit) : State :=
  match s.notes c st with
  | none => s
  | some x => { s with audits := s.audits.map (fun (a : Audit) => if a == x then f a else a) }

/-- Items of Table 8.3 that the units deliver. -/
def item.ptCrc : Nat := 0
def item.selin : Nat := 1
def item.input : Nat := 2
def item.dy : Nat := 3
def item.log : Nat := 4
def item.ret0 : Nat := 5
def item.ret1 : Nat := 6
def item.saveL : Nat := 7
def item.saveO : Nat := 8

/-- An item of a tile noted. -/
def State.noteVal (s : State) (c st layer tile it v : Nat) : State :=
  s.updAudit c st (fun a =>
    { a with vals := a.vals.filter (fun (x : Nat × Nat × Nat × Nat) => !(x.1 == layer && x.2.1 == tile && x.2.2.1 == it)) ++
      [(layer, tile, it, v)] })

/-- An item of a tile, if it has been noted. -/
def Audit.val (a : Audit) (layer tile it : Nat) : Option Nat :=
  (a.vals.find? (fun (x : Nat × Nat × Nat × Nat) => x.1 == layer && x.2.1 == tile && x.2.2.1 == it)).map (·.2.2.2)

/-- A tile's digest of a kind may close (R219). -/
def State.noteClosable (s : State) (c st layer kind tile : Nat) : State :=
  s.updAudit c st (fun a =>
    if a.closable.contains (layer, kind, tile) then a else { a with closable := a.closable ++ [(layer, kind, tile)] })

/-- The CRC of a piece of an exchange phase (R229). `key` is (LAYER, TILE_SEQ, SRC_NODE, DEST_NODE, PIECE). -/
def State.notePhase (s : State) (c st seq : Nat) (key : List Nat) (crc : Nat) : State :=
  s.updAudit c st (fun a =>
    if a.phase.any (fun (x : Nat × List Nat × Nat) => x.1 == seq && x.2.1 == key) then a
    else { a with phase := a.phase ++ [(seq, key, crc)] })

/-- An INPUT_FOLD entry (Table 8.8). -/
def State.inputFold (s : State) (c st kind layer tile crc : Nat) : State :=
  s.rpl 0x08 (some c) (s.attemptOf c st) true (kind <<< 56 ||| layer <<< 48 ||| st % 2 ^ 48) (tile <<< 48 ||| crc)

/-! ### Tile ports -/

/-- The next CHUNK_SEQ of a tile-port series (R108, R455). -/
def State.nextSeq (s : State) (c st port : Nat) (toTile : Bool) : Nat :=
  match s.series.find? (fun x => x.ctx == c && x.step == st && x.port == port && x.toTile == toTile) with
  | some x => x.next
  | none => 0

/-- A series moved on to `n`. -/
def State.setSeq (s : State) (c st port : Nat) (toTile : Bool) (n : Nat) : State :=
  { s with series :=
      s.series.filter (fun (x : Series) => !(x.ctx == c && x.step == st && x.port == port && x.toTile == toTile)) ++
        [{ ctx := c, step := st, port := port, toTile := toTile, next := n }] }

/-- TP_UP of a tile port. -/
def State.tileUp (s : State) (p : Nat) : Bool := nth s.tpUp p false

/-- A control-flit entry (Table 19.7). -/
def ctlEntry (kind c b2 b3 w4 st : Nat) : Bytes := le 1 kind ++ le 1 c ++ le 1 b2 ++ le 1 b3 ++ le 4 w4 ++ le 8 (st % 2 ^ 48)

/-- A control flit of up to 15 entries (R458). -/
def ctlFlit (es : List Bytes) : Bytes :=
  let body := sub es.flatten 0 252
  body ++ le 4 (crc32c body)

/-- What a tile port has sent in the slot in force (R459). -/
def State.tileTxNow (s : State) (p : Nat) : TileTx :=
  let x := nth s.tileTx p {}
  if x.slot = s.fslot + 1 then x else { slot := s.fslot + 1 }

/-- Chunks and control flits sent on a tile port in the slot in force. -/
def State.tileSpend (s : State) (p chunks flits : Nat) : State :=
  let x := s.tileTxNow p
  { s with tileTx := setAt s.tileTx p { x with chunks := x.chunks + chunks, flits := x.flits + flits } }

/-- A control flit sent on a tile port that is up (R455, R458): at most 8 leave in a slot (R459), and the entries of a further one wait
for the next. -/
def State.emitControl (s : State) (p : Nat) (es : List Bytes) : State :=
  if !(s.tileUp p) || es.isEmpty then s
  else if (s.tileTxNow p).flits < 8 then
    ((s.tileSpend p 0 1).emit (.control p (ctlFlit es))).count64 (Key.TP_TX_BYTES p) 256
  else { s with ctlWait := s.ctlWait ++ es.map (fun e => (p, e)) }

/-- A release queued on a port (R115, R459); `slot` is the fabric slot of the copy's arrival. -/
def State.queueRel (s : State) (port status slot c seq st order : Nat) : State :=
  let r : Rel :=
    { port := port, due := slot + 2, status := status, slot := slot, ctx := c, seq := seq, step := st, order := order }
  { s with rels := s.rels ++ [r] }

/-! ### Windows -/

/-- The oldest window of a tile and kind of work that is not complete. -/
def State.win? (s : State) (c layer tile work : Nat) : Option Win :=
  s.wins.find? (fun w => w.ctx == c && w.layer == layer && w.tile == tile && w.work == work && decide (w.stage < 5))

/-- The window that holds a tile's re-ingested hidden states in a step (R141). -/
def State.reingested (s : State) (c st layer tile : Nat) : Option Win :=
  s.wins.find? (fun w => w.ctx == c && w.step == st && w.layer == layer && w.tile == tile && w.work == 1 && w.stage == 5)

/-- Two windows are the same one. -/
def Win.same (a b : Win) : Bool :=
  a.ctx == b.ctx && a.step == b.step && a.attempt == b.attempt && a.layer == b.layer && a.tile == b.tile && a.work == b.work

/-- A window replaced. -/
def State.setWin (s : State) (w : Win) : State :=
  { s with wins := s.wins.map (fun (x : Win) => if x.same w then w else x) }

/-- A window dropped. -/
def State.dropWin (s : State) (w : Win) : State := { s with wins := s.wins.filter (fun (x : Win) => !(x.same w)) }

/-- Positions present in a bitmap. -/
def presentPos (present : Nat) : List Nat := (List.range 256).filter (fun t => bit present t)

/-- Bytes of a position's hidden state in a window's layer. -/
def hidLen (l : Bytes) : Nat := payloadLen (lyHidden l) (lyD l)

/-- The payload of a present position in an input buffer (R457). -/
def Win.payload (w : Win) (l : Bytes) (t : Nat) : Bytes :=
  sub w.input (((presentPos w.present).findIdx (· == t)) * hidLen l) (hidLen l)

/-- The input buffer as INPUT_CRC takes it (Table 8.3): absent positions as zero bytes. -/
def Win.whole (w : Win) (l : Bytes) : Bytes :=
  (List.range 256).flatMap (fun t => if bit w.present t then w.payload l t else zeros (hidLen l))

end Sys2Proof.Machine
end

