-- ==== Sys2Proof/Machine/Window.lean ====
section
/-! DEFINITION. Tile windows (R16, R57, R141, R148, R208), ingress segments and tile-port events (R455, R457, R458). -/

namespace Sys2Proof.Machine

open Sys2Proof

/-- The layer's bias vector and mask bitmap read for a step, once (R57). -/
def State.readSelIn (s : State) (c st layer : Nat) : State :=
  if s.selins.any (fun x => x.ctx == c && x.step == st && x.layer == layer) then s else
  let l := s.layer c layer
  let e := selE l
  let ba := selBias l
  let ma := selMask l
  let nb := if ba = 0 then 0 else 4 * e
  let nm := if ma = 0 then 0 else ceilDiv e 8
  let bias := s.hostBytes ba nb
  let mask := s.hostBytes ma nm
  let crc := crc32c (bias ++ mask)
  let s := if nb = 0 then s else s.hostRead (s.portFor c ba nb) ba nb
  let s := if nm = 0 then s else s.hostRead (s.portFor c ma nm) ma nm
  let x : SelIn := { ctx := c, step := st, layer := layer, bias := (unpack 0 bias).map (BitVec.ofNat 32), mask := mask, crc := crc }
  ({ s with selins := s.selins ++ [x] }).inputFold c st 2 layer 0 crc

/-- A TILE_WINDOW command (R14, R208): the window opens, with the active placement bank latched (R97). -/
def tileWindowOp (work c layer tile index port : Nat) (s : State) : State :=
  let w := layer <<< 224 ||| tile <<< 208 ||| index <<< 192 ||| port <<< 188 ||| work <<< 184
  if s.mayIssue c 0x01 w then
    let st := s.step c
    let s := s.issue c 0x01 w
    let w : Win :=
      { ctx := c, step := st, attempt := s.attemptOf c st, layer := layer, tile := tile, index := index, port := port, work := work,
        stamp := s.stamp, opened := s.time.ticks, bank := s.get Key.PT_ACTIVE, ptCrc := s.get Key.PT_ACTIVE_CRC }
    let s := { s with wins := s.wins ++ [w] }
    let s := if work = 0 then s.readSelIn c st layer else s
    if work ≤ 1 then s.emitControl port [ctlEntry 2 c work layer tile st] else s
  else s

/-- TILE_WINDOW with WORK 0x0. -/
def tileWindowForwardOp (c layer tile index port : Nat) (s : State) : State := tileWindowOp 0 c layer tile index port s
/-- TILE_WINDOW with WORK 0x1 (B0). -/
def tileWindowReingestOp (c layer tile index port : Nat) (s : State) : State := tileWindowOp 1 c layer tile index port s
/-- TILE_WINDOW with WORK 0x2 (B1): the Carder alone works on it. -/
def tileWindowRefetchOp (c layer tile index port : Nat) (s : State) : State := tileWindowOp 2 c layer tile index port s

/-- The domain of the unit that begins a kind of window first (R208): TIN, or the Carder. A forward window, which TIN begins
together with the Scorer, waits for the same first unit as a B0 window (DEDUCED, log entry 77). -/
def firstUnit (work : Nat) : Nat := if work = 2 then 7 else 13

/-- A window that a unit, named by its domain (1 for the Scorer), may take next (R208): one it is the first to begin, for a forward
window with its ID segment there (R457), or one that the unit before it has finished with. -/
def Win.openTo (w : Win) (unit : Nat) : Bool :=
  match unit with
  | 13 => !w.begun && (w.work == 1 || (w.work == 0 && decide (1 ≤ w.stage)))
  | 1 => w.work == 0 && w.begun && w.stage == 2
  | 5 => w.work == 0 && w.stage == 3
  | 7 => (w.work == 2 && !w.begun) || (w.work == 0 && w.stage == 4)
  | _ => false

/-- A unit has begun a tile that it has not finished (R208): TIN, the Scorer, the Carder. -/
def State.occupied (s : State) (unit : Nat) : Bool :=
  s.wins.any (fun w => w.begun &&
    (match unit with
     | 13 => (w.work == 0 && decide (w.stage < 2)) || (w.work == 1 && decide (w.stage < 5))
     | 1 => w.work == 0 && decide (w.stage < 3)
     | 7 => w.work == 2 && decide (w.stage < 5)
     | _ => false))

/-- Order in which a unit takes windows: TT_PRIORITY, context, open tick (R208). -/
def State.winKey (s : State) (w : Win) : List Nat := [s.get (Key.TT_PRIORITY w.ctx), w.ctx, w.opened]

/-- The window a unit takes next (R208). A forward window is open to TIN only while the Scorer is free to begin it too. -/
def State.nextWin (s : State) (unit : Nat) : Option Win :=
  (sortBy (fun a b => lexLt (s.winKey a) (s.winKey b))
    (s.wins.filter (fun (w : Win) => w.openTo unit && !(unit == 13 && w.work == 0 && s.occupied 1)))).head?

/-- TIN has the whole tile (R19, R457): its CRC is formed and recorded (R141, Table 8.8). A re-ingest window is complete. -/
def State.ingressDone (s : State) (w : Win) : State :=
  let crc := crc32c (w.whole (s.layer w.ctx w.layer))
  let s := s.setWin { w with stage := if w.work = 1 then 5 else 2 }
  let s := s.inputFold w.ctx w.step (if w.work = 1 then 3 else 0) w.layer w.tile crc
  if w.work = 0 then s.noteVal w.ctx w.step w.layer w.tile item.input crc else s

/-- TIN has begun a window and has its ID segment and every payload in the tile's input buffer. -/
def State.inputWhole (s : State) (w : Win) : Bool :=
  w.begun && w.stage == 1 && w.input.length == (presentPos w.present).length * hidLen (s.layer w.ctx w.layer)

/-- A window's input as it stands now, processed once it is whole. -/
def State.fillWin (s : State) (w : Win) : State :=
  let s := s.setWin w
  if s.inputWhole w then s.ingressDone w else s

/-- TILE_WINDOW_BEGIN (R208): the unit, at a tile boundary, begins the next held window. -/
def tileWindowBeginOp (unit : Nat) (s : State) : State :=
  match s.nextWin unit with
  | some w =>
    if s.occupied unit || w.begun || firstUnit w.work != unit then s else
    let held := s.time.ticks - w.opened
    let others := ((s.wins.filter (fun (x : Win) =>
      !x.begun && firstUnit x.work == unit && x.ctx != w.ctx && decide (x.opened < w.opened))).map (·.ctx)).eraseDups
    let s := s.fillWin { w with begun := true, held := held, input := w.input ++ w.early, early := [] }
    let s := s.put (Key.ACC_WAIT_TT w.ctx) (satAdd (2 ^ 64 - 1) (s.get (Key.ACC_WAIT_TT w.ctx)) held)
    let s := others.foldl (fun s c => s.count (Key.ACC_PREEMPT_COUNT c) 1) s
    s.trace 0x07 (some w.ctx) w.attempt none (unit <<< 24 ||| w.layer <<< 16 ||| w.tile) held
  | none => s

/-! ### Ingress segments -/

/-- Fields of an ingress-segment header (Table 19.6). -/
def segKind (h : Nat) : Nat := bits h 440 8
def segFmt (h : Nat) : Nat := bits h 436 4
def segWork (h : Nat) : Nat := bits h 432 4
def segOff (h : Nat) : Nat := bits h 384 32
/-- Fields that segment and chunk headers share (Tables 5.3 and 19.6). -/
def chTile (h : Nat) : Nat := bits h 224 16
def chLen (h : Nat) : Nat := bits h 144 13
def chSeq (h : Nat) : Nat := bits h 64 32
def chCtx (h : Nat) : Nat := bits h 56 3
def chLayer (h : Nat) : Nat := bits h 48 8
def chStep (h : Nat) : Nat := bits h 0 48
def chCrc (h : Nat) : Nat := bits h 448 32

/-- The CRC of a chunk or segment under a fold prefix (R107): its header with the CRC field as zero, then `payload`. -/
def chunkCrc (seq dst queue h : Nat) (payload : Bytes) : Nat :=
  crc32c (le 4 seq ++ le 2 dst ++ le 2 queue ++ le 64 (h - chCrc h <<< 448) ++ payload)

/-- A segment accepted into its window. One that comes before TIN has begun the window waits for it (R208; DEDUCED, log entry 79). -/
def State.takeSegment (s : State) (w : Win) (h : Nat) (payload : Bytes) : State :=
  s.fillWin (if segKind h = 1 then
      { w with stage := 1, present := u payload 0 32, ids := (List.range 256).map (fun t => u payload (32 + 4 * t) 4) }
    else if w.begun then { w with input := w.input ++ payload } else { w with early := w.early ++ payload })

/-- A segment agrees with an open window, and continues what the window has (R457). -/
def State.segmentFits (s : State) (port h : Nat) (w : Win) : Bool :=
  let l := s.layer w.ctx w.layer
  w.port == port && w.ctx == chCtx h && w.step == chStep h && w.layer == chLayer h && w.tile == chTile h && w.work == segWork h &&
    segFmt h == lyHidden l &&
    (if w.stage = 0 then segKind h == 1 && segOff h == 0 && chLen h == 1056
     else w.stage == 1 && segKind h == 2 && segOff h == w.input.length + w.early.length &&
       decide (segOff h + chLen h ≤ (presentPos w.present).length * hidLen l))

/-- INGRESS_SEGMENT (R455, R457). A CRC that fails asks for a re-send; a segment that no open window expects is refused. -/
def ingressSegmentOp (port : Nat) (hdr : BitVec 512) (payload : Bytes) (s : State) : State :=
  if s.tileUp port then
    let h := hdr.toNat
    let c := chCtx h
    let st := chStep h
    let bs := sub payload 0 (chLen h)
    let s := s.count64 (Key.TP_RX_BYTES port) (64 + chLen h)
    let next := s.nextSeq c st port false
    let n := s.fslot
    if chSeq h < next then (s.count (Key.EXC_DUP_COUNT c) 1).queueRel (48 + port) 0 n c (chSeq h) st port
    else if next < chSeq h then s
    else if chCrc h ≠ chunkCrc next s.node 0 h bs then
      (s.log { cls := Ec.crc, det := 0x02, dom := 13, ctx := some c, step := some st, layer := some (chLayer h),
               arg := (chSeq h % 65536) <<< 16 ||| (48 + port) }).queueRel (48 + port) 1 n c next st port
    else
      let s := s.setSeq c st port false (next + 1)
      match s.wins.find? (s.segmentFits port h) with
      | some w => (((s.takeSegment w h bs).queueRel (48 + port) 0 n c next st port)).busy 13 (some c)
      | none =>
        (s.log { cls := Ec.seq, det := 0x02, dom := 13, ctx := some c, step := some st, layer := some (chLayer h),
                 arg := (chSeq h % 65536) <<< 16 ||| (48 + port) }).queueRel (48 + port) 2 n c next st port
  else s

/-- TP_UP_CHANGE (R455). -/
def tpUpChangeOp (port : Nat) (up : Bool) (s : State) : State := { s with tpUp := setAt s.tpUp port up }

/-- TILE_WINDOW_FORWARD. -/
def execTileWindowForward (ctx layer tile index port : Nat) (s : State) : Host.Outcome State Fault Refusal :=
  .next (actFresh (tileWindowForwardOp ctx layer tile index port) s)
/-- TILE_WINDOW_REINGEST. -/
def execTileWindowReingest (ctx layer tile index port : Nat) (s : State) : Host.Outcome State Fault Refusal :=
  .next (act (tileWindowReingestOp ctx layer tile index port) s)
/-- TILE_WINDOW_REFETCH. -/
def execTileWindowRefetch (ctx layer tile index port : Nat) (s : State) : Host.Outcome State Fault Refusal :=
  .next (act (tileWindowRefetchOp ctx layer tile index port) s)
/-- TILE_WINDOW_BEGIN. -/
def execTileWindowBegin (unit : Nat) (s : State) : Host.Outcome State Fault Refusal := .next (act (tileWindowBeginOp unit) s)
/-- INGRESS_SEGMENT. -/
def execIngressSegment (port : Nat) (hdr : BitVec 512) (payload : Bytes) (s : State) : Host.Outcome State Fault Refusal :=
  .next (actFresh (ingressSegmentOp port hdr payload) s)
/-- TP_UP_CHANGE: the pin's level; it changes while the engine is in reset as well. -/
def execTpUpChange (port : Nat) (up : Bool) (s : State) : Host.Outcome State Fault Refusal := .next (tpUpChangeOp port up s)

end Sys2Proof.Machine
end

