-- ==== Sys2Proof/Machine/Score.lean ====
section
/-! DEFINITION. The Scorer: logits of a tile, the weight scan and the scan table (R49 to R54, R216, R217). -/

namespace Sys2Proof.Machine

open Sys2Proof

/-- Bytes of one router-weight row of a layer (R50). -/
def rowLen (l : Bytes) : Nat := payloadLen (lyWeightFmt l) (lyD l)

/-- The router-weight region of a layer as it reads now (R50). -/
def State.weightRegion (s : State) (l : Bytes) : Bytes :=
  let n := selE l * rowLen l
  if lyStream l then s.hostBytes (lyWeight l) n else s.stgBytes (lyWeight l) n

/-- The accounting of one read of it (R51). -/
def State.weightRead (s : State) (l : Bytes) : State :=
  let n := selE l * rowLen l
  if lyStream l then s.hostRead (lyPort l) (lyWeight l) n else s.stgRead (lyWeight l) n

/-- The weight rows of a region, in expert order. -/
def weightRows (l : Bytes) (region : Bytes) : List Bytes := (List.range (selE l)).map (fun e => sub region (e * rowLen l) (rowLen l))

/-- The operands of the dot products of the weight rows (R34). -/
def weightOpnds (l : Bytes) (rows : List Bytes) : Arith (List Opnd) := rows.mapM (opndOf (lyWeightFmt l) (lyHidden l) (lyD l))

/-- The logits of a hidden state (R49). -/
def logitsOf (l : Bytes) (ws : List Opnd) (h : Bytes) : Arith (List F32) := do
  let x ← opndOf (lyHidden l) (lyWeightFmt l) (lyD l) h
  ws.mapM (fun w => dot x w (lyD l))

/-- −2^126, the logit of a padding column (R53). -/
def padLogit : F32 := 0xFE800000

/-- A position's logits with the padding columns up to 256 × nb (R53, R54). -/
def padLogits (xs : List F32) : List F32 := xs ++ List.replicate (alignUp xs.length 256 - xs.length) padLogit

/-- The logits of every present position of a window's tile; none where no token stands (R49, R53, R54). -/
def tileLogits (l : Bytes) (w : Win) (rows : List Bytes) : Arith (List (List F32)) := do
  let ws ← weightOpnds l rows
  (List.range 256).mapM (fun t => if bit w.present t then padLogits <$> logitsOf l ws (w.payload l t) else pure [])

/-- Address of the half of a context's scan table that holds step `st` (R217). -/
def State.scanHalf (s : State) (c st : Nat) : Nat := s.get (Key.DRU_SCAN_BASE c) + st % 2 * 8392704

/-- A write into the scan-table half of a step; none where there is no table (R217). -/
def State.scanPut (s : State) (c st o : Nat) (bs : Bytes) : State :=
  if s.get (Key.DRU_SCAN_BASE c) = 0 then s else s.hostWrite (s.fetchPort c) (s.scanHalf c st + o) bs

/-- Bytes of a list of CRC-64 values (R216). -/
def crcBytes (xs : List Nat) : Bytes := xs.flatMap (le 8)

/-- The scan of a layer's weights (R216, R217): row values, weight fold, and, with the last layer of the step, the scan
fold. -/
def State.weightScan (s : State) (c st layer : Nat) (l : Bytes) (rows : List Bytes) : State :=
  match s.notes c st with
  | none => s
  | some a =>
    if a.folds.any (fun (f : Nat × Nat) => f.1 == layer) then s else
    let vals := rows.map crc64
    let fold := crc64 (crcBytes vals)
    let folds := a.folds ++ [(layer, fold)]
    let s := (s.scanPut c st (2112 + 8 * 4096 * layer) (crcBytes vals)).scanPut c st (64 + 8 * layer) (le 8 fold)
    let s := s.scanPut c st (8390720 + 2 * layer) (le 2 (selE l))
    let s := s.rpl 0x0C (some c) (s.attemptOf c st) true (layer <<< 48 ||| st % 2 ^ 48) fold
    let whole := decide (s.layers c ≤ folds.length)
    let scan := crc64 (crcBytes ((List.range (s.layers c)).map (fun i =>
      ((folds.find? (fun (f : Nat × Nat) => f.1 == i)).map (·.2)).getD 0)))
    let s := s.updAudit c st (fun x => { x with folds := folds, scan := if whole then scan else x.scan })
    if whole then s.scanPut c st 0 (le 8 st) else s

/-- The four arrays of the Scorer worked on a tile (R51, R430). -/
def State.scorerBusy (s : State) (c : Nat) : State := [1, 2, 3, 4].foldl (fun s d => s.busy d (some c)) s

/-- The array whose event is counted first: the spec does not fix which array computes a logit (R49), so a free one. -/
def State.scorerDomain (s : State) : Nat := 1 + Config.busyCycles s.free 100 % 4

/-- SCORE_TILE_DONE (R49 to R54): the logits of the tile the Scorer has begun, once its ingress is complete. -/
def scoreTileDoneOp (c layer tile : Nat) (s : State) : State :=
  match s.win? c layer tile 0 with
  | none => s
  | some w =>
    if s.nextWin 1 != some w then s else
    let l := s.layer c layer
    let rows := weightRows l (s.weightRegion l)
    let r := runNf (tileLogits l w rows)
    let s := ((s.weightRead l).weightScan c w.step layer l rows).setWin { w with stage := 3, logits := r.1 }
    (s.nonFinite s.scorerDomain c layer w.step r.2).scorerBusy c

/-- SCORE_TILE_DONE. -/
def execScoreTileDone (ctx layer tile : Nat) (s : State) : Host.Outcome State Fault Refusal :=
  .next (actFresh (scoreTileDoneOp ctx layer tile) s)

end Sys2Proof.Machine
end

