-- ==== Sys2Proof/Machine/Queue.lean ====
section
/-! DEFINITION. The packet queues (chapter 9, R251 to R265). -/

namespace Sys2Proof.Machine

open Sys2Proof

/-- A queue's descriptor (Table 9.6). -/
def State.pqDesc (s : State) (q : Nat) : Nat := unle (s.domBytes Dom.PQ_DESC (16 * q) 16)
/-- Its fields. -/
def pqBase (d : Nat) : Nat := bits d 114 14
def pqDepth (d : Nat) : Nat := 2 ^ bits d 110 4
def pqKind (d : Nat) : Nat := bits d 108 2
def pqProducer (d : Nat) : Nat := bits d 103 5
def pqConsumer (d : Nat) : Nat := bits d 98 5
def pqLevel (d : Nat) : Nat := bits d 83 13

/-- A queue. -/
def State.queue (s : State) (q : Nat) : Queue := (Sparse.get? s.queues q).getD {}
/-- A queue replaced. -/
def State.setQueue (s : State) (q : Nat) (x : Queue) : State := { s with queues := Sparse.put s.queues q x }

/-- Difference of two pointers, in words modulo 65,536 (R256). -/
def ptrSub (a b : Nat) : Nat := (a + 65536 - b) % 65536
/-- Sum of a pointer and a count. -/
def ptrAdd (a n : Nat) : Nat := (a + n) % 65536

/-- Free space (R256). -/
def State.pqFree (s : State) (q : Nat) : Nat :=
  pqDepth (s.pqDesc q) - ptrSub (s.queue q).write (s.queue q).release
/-- Occupancy (R256). -/
def State.pqOccupancy (s : State) (q : Nat) : Nat := ptrSub (s.queue q).commit (s.queue q).release
/-- The queue-store word a pointer names. -/
def State.pqWord (s : State) (q p : Nat) : Nat :=
  pqBase (s.pqDesc q) + p % pqDepth (s.pqDesc q)

/-- The bytes of a queue-store word (128 B); a byte never written reads as a free value (R402). -/
def State.pqBytes (s : State) (q p : Nat) : Bytes :=
  Mem.read (Config.queueUnwritten s.free) s.qstore (128 * s.pqWord q p) 128

/-- Words written from a pointer on, each padded with zero bytes. -/
def State.pqWrite (s : State) (q p : Nat) (words : List Bytes) : State :=
  (List.range words.length).foldl (fun s i =>
    { s with qstore := Mem.write s.qstore (128 * s.pqWord q (ptrAdd p i)) (sub (nth words i []) 0 128) }) s

/-- Level comparison at the end of a queue's action (R262). -/
def State.pqCompare (s : State) (q : Nat) : State :=
  let x := s.queue q
  if s.pqOccupancy q > pqLevel (s.pqDesc q) then
    if x.above then s else
    let s := s.setQueue q { x with above := true }
    let b := unle (s.domBytes Dom.PQ_LEVEL_CAUSE (q / 8) 1)
    (s.domPut Dom.PQ_LEVEL_CAUSE (q / 8) (le 1 (setBit b (q % 8)))).syncInts
  else if x.above then s.setQueue q { x with above := false } else s

/-- A packet tag (Table 9.7). -/
def pqTag (kind len source ctx arg : Nat) : Nat :=
  kind <<< 56 ||| len <<< 48 ||| source <<< 43 ||| ctx <<< 40 ||| arg

/-- PQ_DROP_COUNT of the context whose partition holds the queue, else of the context that sent (R266). -/
def State.pqDrop (s : State) (q ctx : Nat) : State := s.count (Key.PQ_DROP_COUNT ((s.queueOwner q).getD ctx)) 1

/-- One offered packet taken, dropped, discarded or left to wait (R254, R259, R261). Answers false where it waits. -/
def State.pqOffer (s : State) (q ctx : Nat) (words : List Bytes) : State × Bool :=
  let d := s.pqDesc q
  let x := s.queue q
  let n := words.length
  let accept (s : State) (x : Queue) : State :=
    (s.pqWrite q x.write words).setQueue q { x with write := ptrAdd x.write n, opened := some n }
  let ev : Ev := { cls := Ec.descRange, det := 0x62, dom := 12, ctx := some ((s.queueOwner q).getD ctx), arg := q <<< 16 ||| 0x5100 }
  let refuse : State := (s.log ev).pqDrop q ctx
  if pqKind d = 0 then (refuse, true)
  else if pqKind d = 2 && n > pqDepth d then (refuse, true)
  else if x.opened.isSome then (s, false)
  else if pqKind d = 2 then
    if x.credits < n then (s, false) else (accept s { x with credits := x.credits - n }, true)
  else if s.pqFree q ≥ n + 1 && x.pend = 0 then (accept s x, true)
  else ((s.setQueue q { x with pend := satAdd 65535 x.pend 1, pendWords := satAdd 0xFFFFF x.pendWords n }).pqDrop q ctx, true)

/-- The open packet committed: it becomes visible (R255). -/
def State.pqCommit (s : State) (q : Nat) : State :=
  let x := s.queue q
  match x.opened with
  | some _ => (s.setQueue q { x with commit := x.write, opened := none }).pqCompare q
  | none => s

/-- The open packet aborted: it vanishes, and credits return at once (R255, R261). -/
def State.pqAbort (s : State) (q : Nat) : State :=
  let x := s.queue q
  match x.opened with
  | some n =>
    let cr := if pqKind (s.pqDesc q) = 2 then x.credits + n else x.credits
    let x := { x with write := ptrSub x.write n, opened := none, credits := cr }
    match s.queueOwner q with
    | some c => (s.setQueue q x).count (Key.PQ_ABORT_COUNT c) 1
    | none => s.setQueue q x
  | none => s

/-- A gap marker is to be committed in the cycle now (R260). -/
def State.markerDue (s : State) (q : Nat) : Bool :=
  decide (0 < (s.queue q).pend) && decide (1 ≤ s.pqFree q) && (s.queue q).opened.isNone

/-- An offer held: those of one cycle are taken by clock domain, then port (R254), and each producer's in its own order. -/
def State.holdOffer (s : State) (q : Nat) (o : Offer) : State :=
  s.setQueue q { s.queue q with offers := insertBy (fun a b => decide (a.producer < b.producer)) o (s.queue q).offers }

/-- The offers that wait on a queue taken in order, as far as they can be: one whose words are all there is committed with its
acceptance, any other stays open for its producer (R254, R255). -/
def State.pqServe (q : Nat) : Nat → State → State
  | 0, s => s
  | n + 1, s =>
    match (s.queue q).offers with
    | [] => s
    | o :: r =>
      match s.pqOffer q o.ctx o.words with
      | (_, false) => s
      | (s1, true) =>
        let s1 := s1.setQueue q { s1.queue q with offers := r }
        State.pqServe q n (if o.whole then s1.pqCommit q else s1)

/-- Waiting offers served after an action that may let them in. -/
def State.pqSettle (s : State) (q : Nat) : State := State.pqServe q ((s.queue q).offers.length) s

/-- The rest of a cycle after a queue's action (R263): a gap marker that is due comes first, and the level is compared after it
(R262); else the offers that wait follow. -/
def State.pqAfter (s : State) (q : Nat) : State := if s.markerDue q then s else (s.pqCompare q).pqSettle q

/-- A packet that a unit of the engine posts whole (R254, R255). -/
def State.post (s : State) (q producer ctx : Nat) (words : List Bytes) : State :=
  let o : Offer := { producer := producer, ctx := ctx, words := words, whole := true }
  if (s.queue q).offers.isEmpty then
    match s.pqOffer q ctx words with
    | (s1, true) => s1.pqCommit q
    | (s1, false) => s1.holdOffer q o
  else s.holdOffer q o

/-- A one-word notice: tag, then bytes 8 on; `port` is the unit's port that raises it. -/
def State.postWord (s : State) (q kind source ctx arg : Nat) (body : Bytes) (port : Nat := 0) : State :=
  s.post q (64 * source + port) ctx [le 8 (pqTag kind 1 source ctx arg) ++ body]

/-- A gap marker committed (R260, R264). DESIGN CHOICE (log entry 48): the marker of a queue in no partition names context 0. -/
def gapMarkerCommitOp (q : Nat) (s : State) : State :=
  let x := s.queue q
  if s.markerDue q then
    let tag := pqTag 0xFF 1 12 ((s.queueOwner q).getD 0) ((min 0xFFFFF x.pend) <<< 20 ||| x.pendWords)
    let s := s.pqWrite q x.write [le 8 tag]
    let w := ptrAdd x.write 1
    ((s.setQueue q { x with write := w, commit := w, pend := 0, pendWords := 0 }).pqCompare q).pqSettle q
  else s

/-- PACKET_OFFER (R254): with the offers that wait, if any. -/
def packetOfferOp (q producer ctx : Nat) (words : List Bytes) (s : State) : State :=
  if words.isEmpty || words.length > 64 then s else
  let o : Offer := { producer := producer, ctx := ctx, words := words }
  if (s.queue q).offers.isEmpty then
    match s.pqOffer q ctx words with
    | (s1, true) => s1
    | (s1, false) => s1.holdOffer q o
  else s.holdOffer q o

/-- LEN of the visible packet at READ. -/
def State.pqHeadLen (s : State) (q : Nat) : Option Nat :=
  let x := s.queue q
  if x.read = x.commit then none else some (bits (unle (sub (s.pqBytes q x.read) 0 8)) 48 8)

/-- The words of the visible packet at READ. -/
def State.pqHead (s : State) (q : Nat) : Bytes :=
  match s.pqHeadLen q with
  | some n => (List.range n).flatMap (fun i => s.pqBytes q (ptrAdd (s.queue q).read i))
  | none => []

/-- READ advanced past the visible packet (R258). -/
def State.pqAdvance (s : State) (q : Nat) : State :=
  match s.pqHeadLen q with
  | some n => s.setQueue q { s.queue q with read := ptrAdd (s.queue q).read n }
  | none => s

/-- Mark (R257). -/
def State.pqMark (s : State) (q : Nat) : State := s.setQueue q { s.queue q with mark := (s.queue q).read }
/-- Rewind (R257). -/
def State.pqRewind (s : State) (q : Nat) : State := s.setQueue q { s.queue q with read := (s.queue q).mark }
/-- Release (R257, R261): READ always stands at a packet's start, so the first packet not wholly read starts there. -/
def State.pqRelease (s : State) (q : Nat) : State :=
  let x := s.queue q
  let n := ptrSub x.read x.release
  let cr := if pqKind (s.pqDesc q) = 2 then x.credits + n else x.credits
  let x := { x with release := x.read, mark := x.read, credits := cr }
  (s.setQueue q x).pqAfter q

/-- A queue state word (Table 9.9). -/
def State.pqState (s : State) (q : Nat) : Nat :=
  let x := s.queue q
  x.write <<< 112 ||| x.commit <<< 96 ||| x.read <<< 80 ||| x.mark <<< 64 ||| x.release <<< 48 ||| x.pend <<< 32 |||
    x.credits <<< 16 ||| (if x.pendWords = 0xFFFFF then 4 else 0) ||| (if x.opened.isSome then 2 else 0) |||
    (if x.above then 1 else 0)

/-- A queue as a descriptor write leaves it (R252). -/
def queueFresh (d : Nat) : Queue := { credits := if pqKind d = 2 then pqDepth d else 0 }

/-- A queue descriptor obeys Table 9.6. -/
def pqDescOk (d : Nat) : Bool :=
  let lg := bits d 110 4
  decide (2 ≤ lg ∧ lg ≤ 12) && pqBase d % 2 ^ lg == 0 && decide (pqBase d + 2 ^ lg ≤ 16384) && pqKind d != 3 &&
  decide (pqLevel d ≤ 2 ^ lg) && bits d 0 83 == 0 && decide (pqConsumer d ≤ 25) &&
  (if pqKind d = 2 then decide (1 ≤ pqProducer d ∧ pqProducer d ≤ 25) else pqProducer d == 0)

/-- Refusal code of a write of PQ_DESC (R252). A descriptor of all zeros is a disabled queue. -/
def State.pqDescRefused (s : State) (o : Nat) (bs : Bytes) : Bool :=
  let n := bs.length / 16
  let q0 := o / 16
  let new (q : Nat) : Nat := if q0 ≤ q ∧ q < q0 + n then u bs (16 * (q - q0)) 16 else s.pqDesc q
  let wr := (List.range n).map (· + q0)
  o % 16 != 0 || bs.length % 16 != 0 ||
  wr.any (fun q => match s.queueOwner q with | some c => s.tt c != 0 && s.tt c != 2 | none => false) ||
  wr.any (fun q => new q != 0 && !(pqDescOk (new q))) ||
  wr.any (fun q => pqKind (new q) != 0 && (List.range 512).any (fun r => r != q && pqKind (new r) != 0 &&
    overlaps' (pqBase (new q)) (pqDepth (new q)) (pqBase (new r)) (pqDepth (new r))))
where
  overlaps' (a n b m : Nat) : Bool := decide (a < b + m ∧ b < a + n)

/-- An accepted write of PQ_DESC (R252). -/
def State.pqDescWrite (s : State) (o : Nat) (bs : Bytes) : State :=
  let s := s.domPut Dom.PQ_DESC o bs
  (List.range (bs.length / 16)).foldl (fun s i => s.setQueue (o / 16 + i) (queueFresh (s.pqDesc (o / 16 + i)))) s

/-- PACKET_COMMIT (R255). -/
def packetCommitOp (q : Nat) (s : State) : State :=
  let s := s.pqCommit q
  if s.markerDue q then s else s.pqSettle q
/-- PACKET_ABORT (R255). -/
def packetAbortOp (q : Nat) (s : State) : State :=
  let s := s.pqAbort q
  if s.markerDue q then s else s.pqSettle q

/-- PACKET_OFFER. -/
def execPacketOffer (queue producer ctx : Nat) (words : List Bytes) (s : State) : Host.Outcome State Fault Refusal :=
  .next (act (packetOfferOp queue producer ctx words) s)
/-- PACKET_COMMIT (R255). -/
def execPacketCommit (queue : Nat) (s : State) : Host.Outcome State Fault Refusal :=
  .next (act (packetCommitOp queue) s)
/-- PACKET_ABORT (R255). -/
def execPacketAbort (queue : Nat) (s : State) : Host.Outcome State Fault Refusal :=
  .next (act (packetAbortOp queue) s)
/-- GAP_MARKER_COMMIT (R260). -/
def execGapMarkerCommit (queue : Nat) (s : State) : Host.Outcome State Fault Refusal := .next (act (gapMarkerCommitOp queue) s)

end Sys2Proof.Machine
end

