-- ==== Sys2Proof/Machine/Press.lean ====
section
/-! DEFINITION. The Press (chapter 10): layout descriptors and their checks, elements of a tensor in memory, copies; and
what the loss of a descriptor ends (R280, R283, R302). -/

namespace Sys2Proof.Machine

open Sys2Proof

/-! ### Layout descriptors (Table 10.1) -/

def ldBase (d : Nat) : Nat := bits d 448 64
def ldStride (d k : Nat) : Int := sint 32 (bits d (288 + 32 * k) 32)
def ldSize (d k : Nat) : Nat := bits d (168 + 24 * k) 24
def ldSeqBase (d : Nat) : Nat := bits d 152 16
def ldFmt (d : Nat) : Nat := bits d 148 4
def ldKind (d : Nat) : Nat := bits d 146 2
def ldRank (d : Nat) : Nat := bits d 143 3
def ldOwner (d : Nat) : Nat := bits d 140 3
def ldHost (d : Nat) : Bool := bit d 139
def ldPort (d : Nat) : Nat := bits d 137 2
def ldWrite (d : Nat) : Bool := bit d 136
def ldValid (d : Nat) : Bool := bit d 0

/-- Descriptor `n` of the table. -/
def State.ld (s : State) (n : Nat) : Nat := unle (s.domBytes Dom.PRESS_DESC (64 * n) 64)

/-- Dimensions in use, innermost first. -/
def ldDims (d : Nat) : List Nat := List.range (ldRank d)
/-- A tensor with no elements (R271). -/
def ldEmpty (d : Nat) : Bool := (ldDims d).any (fun k => ldSize d k == 0)
/-- Elements of a tensor. -/
def ldCount (d : Nat) : Nat := (ldDims d).foldl (fun a k => a * ldSize d k) 1
/-- Element width in bytes of an unscaled format. -/
def ldWidth (d : Nat) : Nat := fmtBits (ldFmt d) / 8
/-- Bytes of an IL tensor: element plane, scale plane, padding (R270). -/
def ilBytes (d : Nat) : Nat :=
  let n := ldSize d 0 * ldSize d 1
  if fmtScaled (ldFmt d) then alignUp (alignUp (n * fmtBits (ldFmt d) / 8) 32 + n / 32) 32 else n * ldWidth d

/-- The extent: lowest addressed byte and the byte after the highest (R269, R270). -/
def ldExtent (d : Nat) : Int × Int :=
  if ldKind d ≠ 0 then ((ldBase d : Int), (ldBase d : Int) + ilBytes d) else
  let scaled := fmtScaled (ldFmt d)
  let dims := if scaled then (ldDims d).filter (· != 0) else ldDims d
  let unit : Int := if scaled then 32 else ldWidth d
  let last : Int := if scaled then payloadLen (ldFmt d) (ldSize d 0) else ldWidth d
  let step (k : Nat) : Int := ((ldSize d k : Int) - 1) * ldStride d k * unit
  ((ldBase d : Int) + (dims.map (fun k => min 0 (step k))).foldl (· + ·) 0,
   (ldBase d : Int) + (dims.map (fun k => max 0 (step k))).foldl (· + ·) 0 + last)

/-- A range of memory lies inside an allocated range of a context (R273). -/
def State.allocated (s : State) (ctx : Nat) (host : Bool) (port a n : Nat) : Bool :=
  if host then s.inHeld [3, 4] ctx a n || s.reaches ctx port a n
  else (s.holdsPart ctx && decide (u (s.part ctx) 4096 4 ≤ a ∧ a + n ≤ u (s.part ctx) 4096 4 + u (s.part ctx) 4100 4)) ||
    s.inHeld [0, 1, 2] ctx a n

/-- Strides nested (R272). -/
def ldNested (d : Nat) : Bool :=
  let scaled := fmtScaled (ldFmt d)
  let dims := (ldDims d).filter (fun k => ldSize d k > 1 && !(scaled && k == 0))
  let unit := if scaled then ceilDiv (payloadLen (ldFmt d) (ldSize d 0)) 32 else 1
  let o := sortBy (fun a b => lexLt [(ldStride d a).natAbs, a] [(ldStride d b).natAbs, b]) dims
  (o.foldl (fun (acc : Nat × Bool) k =>
    ((ldStride d k).natAbs * ldSize d k, acc.2 && decide (acc.1 ≤ (ldStride d k).natAbs))) (unit, true)).2

/-- Checks 3 to 8 of Table 10.2 on a descriptor written with VALID set: the class and detail of the first failure. -/
def State.ldCheck (s : State) (d : Nat) : Option (Nat × Nat) :=
  let r := ldRank d
  let il := ldKind d != 0
  let e := ldExtent d
  let scaled := fmtScaled (ldFmt d)
  let upper := (List.range 5).filter (fun k => r ≤ k)
  if ldKind d = 3 || r = 0 || r > 5 || !(fmtValid (ldFmt d)) || (ldFmt d == 8 && il) ||
     upper.any (fun k => ldSize d k != 0 || ldStride d k != 0) ||
     (il && (List.range 5).any (fun k => ldStride d k != 0)) || (!(ldHost d) && ldPort d != 0) || bits d 1 135 != 0
  then some (Ec.descRange, 0x72)
  else if (ldDims d).any (fun k => ldSize d k == 0xFFFFFF) then some (Ec.descRange, 0x73)
  else if (if il then r != 2 || (ldKind d == 1 && ldSize d 1 % 16 != 0) || ((ldKind d == 2 || scaled) && ldSize d 0 % 32 != 0)
           else scaled && (ldStride d 0 != 1 || ldSize d 0 % 32 != 0)) ||
     ldBase d % (if !il && !scaled then ldWidth d else 32) != 0
  then some (Ec.descRange, 0x74)
  else if ldEmpty d then none
  else if ldWrite d && !il && (ldDims d).any (fun k => ldSize d k > 1 && ldStride d k == 0) then some (Ec.descAlias, 0x01)
  else if ldWrite d && !il && !(ldNested d) then some (Ec.descAlias, 0x02)
  else if decide (e.1 < 0 ∨ e.2 > 2 ^ 64) || !(s.allocated (ldOwner d) (ldHost d) (ldPort d) e.1.toNat (e.2 - e.1).toNat)
  then some (Ec.descRange, 0x75)
  else none

/-- A context whose tables are closed to writes (check 2 of Table 10.2). -/
def State.armed (s : State) (c : Nat) : Bool := s.tt c == 3 || s.tt c == 4 || s.tt c == 5

/-- A refusal of a write by its entry's own checks: class, detail, the context it is logged with, item index, the other
node. -/
structure Refused where
  cls : Nat
  det : Nat
  ctx : Option Nat
  idx : Nat
  node : Option Nat := none
deriving DecidableEq, Repr, Inhabited

/-- A write of whole table entries of `size` bytes, in index order, stopped by the first refusal; the entries before it
stay written (R271, R309). An entry's present OWNER counts whether or not it is VALID. `owner` reads an entry's OWNER, `check` is the entry's own check with VALID set, `after` what an
accepted entry does besides. -/
def tableWrite (dom size d1 d2 : Nat) (owner : Nat → Nat) (valid : Nat → Bool)
    (check : State → Nat → Option (Nat × Nat)) (after : State → Nat → Nat → State) (o : Nat) (bs : Bytes) (s : State) :
    State × Option Refused :=
  if bs.length % size ≠ 0 || (o % size ≠ 0 && !bs.isEmpty) then
    (s, some { cls := Ec.descRange, det := d1, ctx := none, idx := o / size })
  else
    (List.range (bs.length / size)).foldl (fun (acc : State × Option Refused) i =>
      match acc.2 with
      | some _ => acc
      | none =>
        let s := acc.1
        let n := o / size + i
        let old := unle (s.domBytes dom (size * n) size)
        let new := u bs (size * i) size
        if s.armed (owner old) || s.armed (owner new) then
          (s, some { cls := Ec.descRange, det := d2, ctx := some (owner new), idx := n })
        else match (if valid new then check s new else none) with
          | some (c, d) => (s, some { cls := c, det := d, ctx := some (owner new), idx := n })
          | none => (after (s.domPut dom (size * n) (sub bs (size * i) size)) n new, none)) (s, none)

/-! ### Copies and jobs: their tables, and what ends them -/

/-- Entry `m` of the copy table (Table 10.4). -/
def State.copy (s : State) (m : Nat) : Nat := unle (s.domBytes Dom.PRESS_COPY_TABLE (16 * m) 16)
def cpSrc (d : Nat) : Nat := bits d 116 12
def cpDst (d : Nat) : Nat := bits d 104 12
def cpPerm (d k : Nat) : Nat := bits d (89 + 3 * k) 3
def cpOwner (d : Nat) : Nat := bits d 86 3
def cpQueue (d : Nat) : Nat := bits d 77 9
def cpNotify (d : Nat) : Bool := bit d 76
/-- Entry `q` of the job table (Table 11.7). -/
def State.job (s : State) (q : Nat) : Nat := unle (s.domBytes Dom.SFU_JOB_TABLE (16 * q) 16)
def jbSrc0 (d : Nat) : Nat := bits d 116 12
def jbSrc1 (d : Nat) : Nat := bits d 104 12
def jbUse1 (d : Nat) : Bool := bit d 103
def jbDst (d : Nat) : Nat := bits d 91 12
def jbProg (d : Nat) : Nat := bits d 86 5
def jbOut (d : Nat) : Nat := bits d 83 3
def jbOwner (d : Nat) : Nat := bits d 80 3
def jbQueue (d : Nat) : Nat := bits d 71 9
def jbNotify (d : Nat) : Bool := bit d 70

/-- Completion notice of a copy (R283). -/
def State.copyNotice (s : State) (m d : Nat) (aborted : Bool) : State :=
  if cpNotify d then s.postWord (cpQueue d) 0x10 11 (cpOwner d) ((if aborted then 1 <<< 31 else 0) ||| m) [] else s
/-- Completion notice of a job (R302). -/
def State.jobNotice (s : State) (q d : Nat) (aborted masked : Bool) : State :=
  if jbNotify d then s.postWord (jbQueue d) 0x11 6 (jbOwner d)
    ((if aborted then 1 <<< 31 else 0) ||| (if masked then 1 <<< 30 else 0) ||| q) [] else s

/-- Copy `m` ended as far as it waits or runs: a queued start is removed with its notice, a running one is marked to stop
(R283). `d` is its descriptor. -/
def State.endCopy (s : State) (m d : Nat) : State :=
  let n := s.press.queue.count m
  let s := { s with press := { s.press with
    queue := s.press.queue.filter (· != m)
    running := s.press.running.map (fun r => if r.idx == m then { r with aborted := true } else r) } }
  (List.range n).foldl (fun s _ => s.copyNotice m d true) s

/-- The same for a job (R302). -/
def State.endJob (s : State) (q d : Nat) : State :=
  let n := s.sfu.queue.count q
  let s := { s with sfu := { s.sfu with
    queue := s.sfu.queue.filter (· != q)
    running := s.sfu.running.map (fun r => if r.idx == q then { r with aborted := true } else r) } }
  (List.range n).foldl (fun s _ => s.jobNotice q d true false) s

/-- VALID of entry `n` of a table of `size`-byte entries cleared. -/
def State.clearValid (s : State) (dom size n bitAt : Nat) : State :=
  let b := unle (s.domBytes dom (size * n + bitAt / 8) 1)
  s.domPut dom (size * n + bitAt / 8) (le 1 (clearBit b (bitAt % 8)))

/-- The copies and jobs that name descriptor `n` lose VALID (R280, R302). -/
def State.dropUsers (s : State) (n : Nat) : State :=
  let s := (List.range 256).foldl (fun s m =>
    let d := s.copy m
    if ldValid d && (cpSrc d == n || cpDst d == n) then
      (s.clearValid Dom.PRESS_COPY_TABLE 16 m 0).endCopy m d else s) s
  (List.range 64).foldl (fun s q =>
    let d := s.job q
    if ldValid d && (jbSrc0 d == n || jbDst d == n || (jbUse1 d && jbSrc1 d == n)) then
      (s.clearValid Dom.SFU_JOB_TABLE 16 q 0).endJob q d else s) s

/-- Indices of the table entries of `size` bytes that hold a non-zero byte. -/
def State.listedEntries (s : State) (dom size : Nat) : List Nat :=
  ((s.dom.filter (fun e => e.1 / domSpan == dom)).map (fun e => e.1 % domSpan / size)).eraseDups

/-- Valid layout descriptors whose extent satisfies `p` lose VALID, with what uses them (R273, R280). -/
def State.invalidate (s : State) (p : Nat → Bool) : State :=
  (s.listedEntries Dom.PRESS_DESC 64).foldl (fun s n =>
    let d := s.ld n
    if ldValid d && p d then (s.clearValid Dom.PRESS_DESC 64 n 0).dropUsers n else s) s

/-- A write of PRESS_DESC (R271, R280). -/
def State.pressDescWrite (s : State) (o : Nat) (bs : Bytes) : State × Option Refused :=
  tableWrite Dom.PRESS_DESC 64 0x70 0x71 ldOwner ldValid State.ldCheck (fun s n _ => s.dropUsers n) o bs s

/-- Two descriptors address the same elements in the same way (check 7 of Table 10.5, R300). -/
def ldSame (a b : Nat) : Bool :=
  ldBase a == ldBase b && ldHost a == ldHost b && ldFmt a == ldFmt b && ldKind a == ldKind b && ldRank a == ldRank b &&
  (List.range 5).all (fun k => ldSize a k == ldSize b k && ldStride a k == ldStride b k)

/-- Two extents of the same memory share a byte. -/
def ldOverlap (a b : Nat) : Bool :=
  let x := ldExtent a
  let y := ldExtent b
  ldHost a == ldHost b && !(ldEmpty a) && !(ldEmpty b) && decide (x.1 < y.2 ∧ y.1 < x.2)

/-- A copy whose descriptors and permutation make it a no-op (R279). -/
def cpNoop (s d : Nat) (c : Nat) : Bool := ldSame s d && (ldDims s).all (fun k => cpPerm c k == k)

/-- Checks 3 to 7 of Table 10.5. -/
def State.copyCheck (s : State) (c : Nat) : Option (Nat × Nat) :=
  let a := s.ld (cpSrc c)
  let b := s.ld (cpDst c)
  let r := ldRank a
  if !(ldValid a && ldValid b && ldOwner a == cpOwner c && ldOwner b == cpOwner c && ldWrite b) || bits c 1 75 != 0 ||
     (cpNotify c && !(s.ownsQueue (cpOwner c) (cpQueue c))) then some (Ec.descRange, 0x76)
  else if r != ldRank b || !((List.range r).all (fun k => (List.range r).any (fun j => cpPerm c j == k))) ||
     (List.range 5).any (fun k => r ≤ k && cpPerm c k != 0) then some (Ec.descRange, 0x76)
  else if (List.range r).any (fun j => ldSize b j != ldSize a (cpPerm c j)) then some (Ec.descRange, 0x77)
  else if (ldFmt a == 8) != (ldFmt b == 8) then some (Ec.descRange, 0x78)
  else if ldOverlap a b && !(cpNoop a b c) then some (Ec.descOverlap, 0x01)
  else none

/-- A write of PRESS_COPY_TABLE (R279): a copy that is deleted loses VALID (R283). -/
def State.copyTableWrite (s : State) (o : Nat) (bs : Bytes) : State × Option Refused :=
  let old := s
  tableWrite Dom.PRESS_COPY_TABLE 16 0x70 0x71 cpOwner ldValid State.copyCheck
    (fun s n d => if ldValid d then s else s.endCopy n (old.copy n)) o bs s

/-! ### Elements of a tensor -/

/-- Bytes at a place of a tensor's memory. -/
def State.ldBytes (s : State) (d a n : Nat) : Bytes := if ldHost d then s.hostBytes a n else s.stgBytes a n

/-- Bytes written at a place of a tensor's memory; the lines are accounted for once per use (R277). -/
def State.ldPut (s : State) (d a : Nat) (bs : Bytes) : State :=
  if ldHost d then { s with env := { s.env with mem := Mem.write s.env.mem a bs } } else { s with stg := Mem.write s.stg a bs }

/-- Index of dimension `k`. -/
def ix (i : List Nat) (k : Nat) : Nat := nth i k 0

/-- Byte address of the element of an unscaled strided tensor, or of the row of a scaled one (R269). -/
def stridedAddr (d : Nat) (i : List Nat) : Nat :=
  let scaled := fmtScaled (ldFmt d)
  let dims := if scaled then (ldDims d).filter (· != 0) else ldDims d
  let unit : Int := if scaled then 32 else ldWidth d
  ((ldBase d : Int) + unit * (dims.map (fun k => (ix i k : Int) * ldStride d k)).foldl (· + ·) 0).toNat

/-- Element offset of an IL tensor, and scale offset (R270): column `i0`, row `i1`. -/
def ilOffset (d : Nat) (i : List Nat) : Nat × Nat :=
  let c := ix i 0
  let r := ix i 1
  if ldKind d = 1 then ((r / 16 * ldSize d 0 + c) * 16 + r % 16, r * (ldSize d 0 / 32) + c / 32)
  else ((c / 32 * ldSize d 1 + r) * 32 + c % 32, c / 32 * ldSize d 1 + r)

/-- Where an element's bits lie: byte address, low nibble or high, and for block scales the scale byte's address. -/
def elemPlace (d : Nat) (i : List Nat) : Nat × Bool × Option Nat :=
  let f := ldFmt d
  let four := fmtBits f == 4
  if ldKind d = 0 then
    if fmtScaled f then
      let row := stridedAddr d i
      (row + (if four then ix i 0 / 2 else ix i 0), four && ix i 0 % 2 == 1, some (row + packLen f (ldSize d 0) + ix i 0 / 32))
    else (stridedAddr d i, false, none)
  else
    let o := ilOffset d i
    if fmtScaled f then
      let plane := alignUp (ldSize d 0 * ldSize d 1 * fmtBits f / 8) 32
      (ldBase d + (if four then o.1 / 2 else o.1), four && o.1 % 2 == 1, some (ldBase d + plane + o.2))
    else (ldBase d + ldWidth d * o.1, false, none)

/-- An element's bits and its block's scale byte. -/
def State.elem (s : State) (d : Nat) (i : List Nat) : Nat × Nat :=
  let p := elemPlace d i
  let v := unle (s.ldBytes d p.1 (max 1 (ldWidth d)))
  let v := if fmtBits (ldFmt d) = 4 then (if p.2.1 then v / 16 else v % 16) else v
  (v, match p.2.2 with | some a => unle (s.ldBytes d a 1) | none => 127)

/-- An element decoded to FP32 (R34). -/
def State.elemF32 (s : State) (d : Nat) (i : List Nat) : Arith F32 :=
  let e := s.elem d i
  if fmtScaled (ldFmt d) then decodeScaled e.2 (elemVal (ldFmt d) e.1) else pure (F32.round (elemVal (ldFmt d) e.1))

/-- The index tuples of dimensions `k` and above, lowest dimension fastest. -/
def tuples (d : Nat) : List Nat → List (List Nat)
  | [] => [[]]
  | k :: ks => (tuples d ks).flatMap (fun t => (List.range (ldSize d k)).map (fun i => i :: t))

/-- The rows of a tensor: indices of dimensions 1 and above, dimension 1 fastest. -/
def ldRows (d : Nat) : List (List Nat) := tuples d ((ldDims d).drop 1)

/-- The lines of 128 B that a row of a tensor lies in, in the order of its elements. -/
def ldRowLines (d : Nat) (row : List Nat) : List Nat :=
  if ldKind d = 0 && fmtScaled (ldFmt d) then
    let a := stridedAddr d (0 :: row)
    (List.range (lineCount a (payloadLen (ldFmt d) (ldSize d 0)))).map (a / 128 + ·)
  else ((List.range (ldSize d 0)).flatMap (fun c =>
    let p := elemPlace d (c :: row)
    p.1 / 128 :: (match p.2.2 with | some a => [a / 128] | none => []))).eraseDups

/-- Single lines of a tensor's memory accounted for outside R180's count (R277, R282). -/
def State.ldTouch (s : State) (d : Nat) (write : Bool) (ls : List Nat) : State :=
  if ldHost d then
    s.count64 (if write then Key.MEM_WR_BYTES (ldPort d) else Key.MEM_RD_BYTES (ldPort d)) (128 * ls.length)
  else ls.foldl (fun s l => bankTouch write false 1 l s) s

/-- A row written from its elements' bits and, for block scales, its scale bytes; every padding byte is written with it
(R277). -/
def State.rowPut (s : State) (d : Nat) (row : List Nat) (els scales : List Nat) : State :=
  let f := ldFmt d
  if ldKind d = 0 && fmtScaled f then
    let pay := pack f els ++ scales.map (BitVec.ofNat 8)
    s.ldPut d (stridedAddr d (0 :: row)) (pay ++ zeros (payloadLen f (ldSize d 0) - pay.length))
  else
    let s := (List.range els.length).foldl (fun s c =>
      let p := elemPlace d (c :: row)
      if fmtBits f = 4 then
        let b := unle (s.ldBytes d p.1 1)
        s.ldPut d p.1 (le 1 (if p.2.1 then b % 16 + 16 * nth els c 0 else b / 16 * 16 + nth els c 0))
      else s.ldPut d p.1 (le (ldWidth d) (nth els c 0))) s
    let s := (List.range scales.length).foldl (fun s j =>
      match (elemPlace d ((32 * j) :: row)).2.2 with
      | some a => s.ldPut d a (le 1 (nth scales j 0))
      | none => s) s
    if fmtScaled f then
      let n := ldSize d 0 * ldSize d 1
      let e1 := n * fmtBits f / 8
      let e2 := alignUp e1 32 + n / 32
      let s := s.ldPut d (ldBase d + e1) (zeros (alignUp e1 32 - e1))
      s.ldPut d (ldBase d + e2) (zeros (alignUp e2 32 - e2))
    else s

/-- A row of FP32 values narrowed to the tensor's format: elements' bits and scale bytes (R36 to R38). -/
def narrowRow (f : Nat) (xs : List F32) : Arith (List Nat × List Nat) :=
  if fmtScaled f then
    let bl := (chunks 32 (xs.length / 32) xs).map (fun b => encodeBlock f (b.map fval))
    pure (bl.flatMap (·.1), bl.map (·.2))
  else if f = 1 ∨ f = 2 then do
    let ys ← xs.mapM (narrow16 f)
    pure (ys, [])
  else pure (xs.map (·.toNat), [])

/-- The source element of destination element `j` (R281). -/
def cpSource (a b c : Nat) (j : List Nat) : List Nat :=
  (List.range (ldRank a)).map (fun k => ((List.range (ldRank b)).find? (fun m => cpPerm c m == k)).elim 0 (fun m => ix j m))

/-- The row of destination elements at `row` that a copy computes (R281). DESIGN CHOICE (log entry 67): between equal block-scaled
formats whose blocks a permutation of dimension 0 regroups, values are decoded and narrowed again. -/
def State.copyRow (s : State) (a b c : Nat) (row : List Nat) : Arith (List Nat × List Nat) := do
  let srcIx (j0 : Nat) : List Nat := cpSource a b c (j0 :: row)
  let n := ldSize b 0
  if ldFmt a = ldFmt b && (!(fmtScaled (ldFmt a)) || cpPerm c 0 == 0) then
    let es := (List.range n).map (fun j => s.elem a (srcIx j))
    pure (es.map (·.1), if fmtScaled (ldFmt b) then (List.range (n / 32)).map (fun j => (nth es (32 * j) (0, 0)).2) else [])
  else
    let xs ← (List.range n).mapM (fun j => s.elemF32 a (srcIx j))
    narrowRow (ldFmt b) xs

/-- Accounting of a tensor's lines read (R277): bank reads outside R180's count, or memory-port bytes. -/
def State.ldReadAll (s : State) (d : Nat) (counted : Bool) : State :=
  let e := ldExtent d
  if ldEmpty d then s
  else if ldHost d then s.hostRead (ldPort d) e.1.toNat (e.2 - e.1).toNat
  else s.stgRead e.1.toNat (e.2 - e.1).toNat counted

/-- Accounting of a tensor's lines written. -/
def State.ldWriteAll (s : State) (d : Nat) (counted : Bool) : State :=
  let e := ldExtent d
  if ldEmpty d then s
  else if ldHost d then s.count64 (Key.MEM_WR_BYTES (ldPort d)) (128 * lineCount e.1.toNat (e.2 - e.1).toNat)
  else bankTouch true counted (lineCount e.1.toNat (e.2 - e.1).toNat) (e.1.toNat / 128) s

/-- Lines a tensor's extent touches. -/
def ldLines (d : Nat) : Nat :=
  let e := ldExtent d
  if ldEmpty d then 0 else lineCount e.1.toNat (e.2 - e.1).toNat

/-- A copy's data moved (R281). LAYER of its non-finite events is 0: a copy has none (DESIGN CHOICE, log entry 68). -/
def State.copyMove (s : State) (a b c : Nat) : State :=
  let r := (ldRows b).foldl (fun (acc : State × Nf) row =>
    let v := runNf (s.copyRow a b c row)
    (acc.1.rowPut b row v.1.1 v.1.2, acc.2.plus v.2)) ((s.ldReadAll a false).ldWriteAll b false, {})
  r.1.nonFinite 11 (cpOwner c) 0 (s.step (cpOwner c)) r.2

/-- The destination lines of a copy, in the order in which their first elements are written (R281). -/
def cpLines (b : Nat) : List Nat := ((ldRows b).flatMap (ldRowLines b)).eraseDups

/-- An aborted copy's data moved as far as the first `n` destination lines (R283), and the lines it read for them. -/
def State.copyPart (s : State) (a b c n : Nat) : State × Nat :=
  let ls := (cpLines b).take n
  let rows := (ldRows b).filter (fun row => (ldRowLines b row).any ls.contains)
  let read := (rows.flatMap (fun row => (List.range (ldSize b 0)).flatMap (fun j =>
    let p := elemPlace a (cpSource a b c (j :: row))
    p.1 / 128 :: (match p.2.2 with | some x => [x / 128] | none => [])))).eraseDups
  let whole := rows.foldl (fun (acc : State × Nf) row =>
    let v := runNf (s.copyRow a b c row)
    (acc.1.rowPut b row v.1.1 v.1.2, acc.2.plus v.2)) (s, {})
  let t := (s.ldTouch a false read).ldTouch b true ls
  let cells := (if ldHost b then whole.1.env.mem else whole.1.stg).filter (fun e => ls.contains (e.1 / 128))
  let t := cells.foldl (fun t e => t.ldPut b e.1 [e.2]) t
  (t.nonFinite 11 (cpOwner c) 0 (s.step (cpOwner c)) whole.2, read.length + ls.length)

/-- COPY_BEGIN (R282): the next queued copy begins with its descriptors as they stand. -/
def copyBeginOp (s : State) : State :=
  match s.press.running, s.press.queue with
  | none, m :: r =>
    let d := s.copy m
    let run : Run := { idx := m, desc := le 16 d, src0 := le 64 (s.ld (cpSrc d)), dst := le 64 (s.ld (cpDst d)) }
    { s with press := { queue := r, running := some run } }
  | _, _ => s

/-- COPY_COMPLETE (R281, R283): the running copy's last line is written. One that was aborted stopped after the line in
flight: how many destination lines it had written is a free value (DEDUCED, log entry 69). -/
def copyCompleteOp (s : State) : State :=
  match s.press.running with
  | none => s
  | some r =>
    let c := unle r.desc
    let a := unle r.src0
    let b := unle r.dst
    let s := { s with press := { s.press with running := none } }
    let noop := ldEmpty b || cpNoop a b c
    if r.aborted then
      let m := s.copyPart a b c (Config.partialWork s.free 11 % ((cpLines b).length + 1))
      let s := if noop then s else m.1.count (Key.PRESS_COPY_LINES (cpOwner c)) m.2
      s.copyNotice r.idx c true
    else
      let s := if noop then s else (s.copyMove a b c).count (Key.PRESS_COPY_LINES (cpOwner c)) (ldLines a + ldLines b)
      (s.count (Key.PRESS_COPY_DONE (cpOwner c)) 1).copyNotice r.idx c false

/-- PRESS_COPY_START (R282): the start queued, or the detail of its refusal with the context it is logged with. -/
def State.copyStart (s : State) (m : Nat) : State × Option Refused :=
  let ok := m ≤ 255 && ldValid (s.copy m)
  if ok && s.press.queue.length < 16 then ({ s with press := { s.press with queue := s.press.queue ++ [m] } }, none)
  else (s, some { cls := Ec.descRange, det := 0x79, ctx := if ok then some (cpOwner (s.copy m)) else none, idx := m % 4096 })

/-- COPY_BEGIN. -/
def execCopyBegin (s : State) : Host.Outcome State Fault Refusal := .next (act copyBeginOp s)
/-- COPY_COMPLETE. -/
def execCopyComplete (s : State) : Host.Outcome State Fault Refusal := .next (actFresh copyCompleteOp s)

end Sys2Proof.Machine
end

