-- ==== Sys2Proof/Machine/Sfu.lean ====
section
/-! DEFINITION. The Special Function Unit's program banks, programs and jobs (chapter 11, R294 to R305). -/

namespace Sys2Proof.Machine

open Sys2Proof

/-! ### Programs -/

/-- A step word's fields (Table 11.4). -/
def swOp (w : Nat) : Nat := bits w 56 8
def swDst (w : Nat) : Nat := bits w 52 4
def swA (w : Nat) : Nat := bits w 47 5
def swB (w : Nat) : Nat := bits w 42 5
def swC (w : Nat) : Nat := bits w 37 5

/-- Operand fields an opcode uses: A, B and C in turn, up to that many; none for a reserved opcode (Table 11.5). -/
def swUses (op : Nat) : Option Nat :=
  if op = 0 then some 0
  else if op = 1 ∨ op = 2 ∨ op = 3 ∨ op = 5 ∨ op = 6 then some 2
  else if op = 4 ∨ op = 9 then some 3
  else if op = 7 ∨ op = 8 ∨ (0x10 ≤ op ∧ op ≤ 0x14) ∨ (0x20 ≤ op ∧ op ≤ 0x23) then some 1
  else none

/-- An operand field names a reserved value. -/
def swReserved (f : Nat) : Bool := decide (8 ≤ f ∧ f ≤ 15)

/-- Result code of one step (Table 11.6). -/
def stepCheck (w : Nat) : Nat :=
  match swUses (swOp w) with
  | none => if bits w 0 37 ≠ 0 then 1 else 2
  | some n =>
    if bits w 0 37 ≠ 0 || (n = 0 && (swDst w != 0 || swA w != 0)) || (n < 2 && swB w != 0) || (n < 3 && swC w != 0) then 1
    else if n > 0 && (swDst w > 7 || swReserved (swA w) || (n ≥ 2 && swReserved (swB w)) || (n ≥ 3 && swReserved (swC w)) ||
      (swOp w == 0x22 && swDst w == 7)) then 3
    else 0

/-- Step `i` of a program's 512 bytes. -/
def progStep (p : Bytes) (i : Nat) : Nat := u p (64 + 8 * i) 8

/-- The check of one program from step `i` on: code and step of the first failure (R298). DESIGN CHOICE (log entry 47): code 0x04 names
step 55, the last one looked at. -/
def progCheck (p : Bytes) : Nat → Nat → Option (Nat × Nat)
  | 0, _ => some (4, 55)
  | n + 1, i =>
    let w := progStep p i
    let c := stepCheck w
    if c ≠ 0 then some (c, i) else if swOp w = 0 then none else progCheck p n (i + 1)

/-- Program `p` of a bank. -/
def bankProg (bank : Bytes) (p : Nat) : Bytes := sub bank (512 * p) 512
/-- A program whose step 0 is END (R295). -/
def progEmpty (p : Bytes) : Bool := swOp (progStep p 0) == 0

/-- Bytes of a program bank. -/
def State.sfuBank (s : State) (b : Nat) : Bytes := s.domBytes (if b = 0 then Dom.SFU_BANK0 else Dom.SFU_BANK1) 0 16384

/-- The check of a whole bank: SFU_CHECK_RESULT (R298, Table 11.8). -/
def bankCheck (bank : Bytes) : Nat :=
  match ((List.range 32).filterMap (fun p => (progCheck (bankProg bank p) 56 0).map (fun r => (p, r)))).head? with
  | some (p, c, st) => p <<< 19 ||| st <<< 13 ||| c
  | none => 0

/-- SFU_CHECK_DONE (R298). -/
def sfuCheckDoneOp (s : State) : State :=
  if s.sfuCheck then
    let bank := s.sfuBank (1 - s.get Key.SFU_PROG_ACTIVE)
    let r := bankCheck bank
    let s := ({ s with sfuCheck := false }).put Key.SFU_CHECK_RESULT r
    if r = 0 then (s.put Key.SFU_SHADOW_READY 1).put Key.SFU_SHADOW_CRC (crc32c bank)
    else s.put Key.SFU_SHADOW_READY 0
  else s

/-- A write to a program bank (R297, R298), or its refusal. -/
def State.sfuBankWrite (s : State) (b o : Nat) (bs : Bytes) : State × Option Refused :=
  if s.get Key.SFU_PROG_ACTIVE = b then (s, some { cls := Ec.bankActive, det := 0x02, ctx := none, idx := 0 })
  else if bs.length % 8 ≠ 0 || (o % 8 ≠ 0 && !bs.isEmpty) then (s, some { cls := Ec.descRange, det := 0x81, ctx := none, idx := o / 8 })
  else if bs.isEmpty then (s, none)
  else
    let s := (s.domPut (if b = 0 then Dom.SFU_BANK0 else Dom.SFU_BANK1) o bs).put Key.SFU_SHADOW_READY 0
    (if s.sfuCheck then ({ s with sfuCheck := false }).put Key.SFU_CHECK_RESULT 5 else s, none)

/-! ### Running a program (R296) -/

/-- Registers v0 to v7 of a row, and constants k0 to k15. -/
structure RowRegs where
  v : List (List F32)
  k : List F32
  n : Nat
  masked : Bool := false
deriving DecidableEq, Repr, Inhabited

/-- An operand over the row. -/
def RowRegs.operand (r : RowRegs) (f : Nat) : List F32 :=
  if f < 8 then nth r.v f [] else List.replicate r.n (nth r.k (f - 16) 0)

/-- A register written. -/
def RowRegs.set (r : RowRegs) (d : Nat) (xs : List F32) : RowRegs := { r with v := setAt r.v d xs }

/-- A function of one argument with its count (R289). -/
def sfuArith (f : F32 → SfuOut) (x : F32) : Arith F32 := fun n =>
  let r := f x
  (r.1, match r.2 with | some k => { (countNf k n).2 with sfu := n.sfu || n.kind.isNone } | none => n)

/-- Elementwise over up to three operands. -/
def map3 (f : F32 → F32 → F32 → Arith F32) : List F32 → List F32 → List F32 → Arith (List F32)
  | a :: r, b :: t, c :: w => do
    let x ← f a b c
    let y ← map3 f r t w
    pure (x :: y)
  | _, _, _ => pure []

/-- The row sum of Table 11.5: dot() of R39 with every product replaced by the element. Each of its additions counts under R46, since
R290 does not name it among the operations of which only the final output counts (DEDUCED, log entry 71). -/
def rowSum (xs : List F32) : Arith F32 := do
  let sl := (chunks 128 (ceilDiv xs.length 128) xs).map (fun b => b ++ List.replicate (128 - b.length) 0)
  match sl with
  | [] => pure 0
  | b :: r => do
    let z ← treeSum 7 b
    r.foldlM (fun acc t => do
      let x ← treeSum 7 t
      fadd acc x) z

/-- One step of a program over a row (Table 11.5). -/
def runStep (w : Nat) (r : RowRegs) : Arith RowRegs := do
  let a := r.operand (swA w)
  let b := r.operand (swB w)
  let c := r.operand (swC w)
  let d := swDst w
  let el (f : F32 → F32 → F32 → Arith F32) : Arith RowRegs := do
    let xs ← map3 f a b c
    pure (r.set d xs)
  let all (x : F32) : List F32 := List.replicate r.n x
  match swOp w with
  | 0x01 => el (fun x y _ => fadd x y)
  | 0x02 => el (fun x y _ => fsub x y)
  | 0x03 => el (fun x y _ => fmul x y)
  | 0x04 => el ffma
  | 0x05 => el (fun x y _ => pure (fmax x y))
  | 0x06 => el (fun x y _ => pure (fmin x y))
  | 0x07 => el (fun x _ _ => pure (F32.round (fval x).abs))
  | 0x08 => el (fun x _ _ => pure (F32.round (fval x).neg))
  | 0x09 => el (fun x y z => pure (F32.round (fval (if F32.lt 0 x then y else z))))
  | 0x10 => el (fun x _ _ => sfuArith sfuExp x)
  | 0x11 => el (fun x _ _ => sfuArith sfuLog x)
  | 0x12 => el (fun x _ _ => sfuArith sfuRecip x)
  | 0x13 => el (fun x _ _ => sfuArith sfuRsqrt x)
  | 0x14 => el (fun x _ _ => pure (sfuSigmoid x))
  | 0x20 => do
    let x ← rowSum a
    pure (r.set d (all x))
  | 0x21 => pure (r.set d (all (F32.round (fval (match a with | [] => 0 | x :: t => t.foldl fmax x)))))
  | 0x22 =>
    let m := sfuNorm a
    fun n => ((r.set d (all (F32.round (fval m.1)))).set (d + 1) (all m.2), n.plus (countOuts a [m.1, m.2]))
  | 0x23 =>
    let m := softmax (a.map (fun x => (x, x == 0xFE800000)))
    fun n => ({ r.set d m.1 with masked := r.masked || m.2 }, n.plus (countOuts a m.1))
  | _ => pure r

/-- A program from step `i` on, until END. -/
def runProg (p : Bytes) : Nat → Nat → RowRegs → Arith RowRegs
  | 0, _, r => pure r
  | n + 1, i, r =>
    if swOp (progStep p i) = 0 then pure r else do
      let r ← runStep (progStep p i) r
      runProg p n (i + 1) r

/-- One row of a job (R301): decoded, run, narrowed. Answers its elements, scales and whether a SOFTMAX step found the row
fully masked. -/
def State.jobRow (s : State) (r : Run) (row : List Nat) : Arith ((List Nat × List Nat) × Bool) := do
  let j := unle r.desc
  let d := unle r.dst
  let n := ldSize d 0
  let v0 ← (List.range n).mapM (fun i => s.elemF32 (unle r.src0) (i :: row))
  let v1 ← if jbUse1 j then (List.range n).mapM (fun i => s.elemF32 (unle r.src1) (i :: row)) else pure (List.replicate n 0)
  let regs : RowRegs :=
    { v := [v0, v1] ++ List.replicate 6 (List.replicate n 0)
      k := (List.range 16).map (fun i => BitVec.ofNat 32 (u r.prog (4 * i) 4)), n := n }
  let out ← runProg r.prog 56 0 regs
  let e ← narrowRow (ldFmt d) (nth out.v (jbOut j) [])
  pure (e, out.masked)

/-- The lines of the first `rows` rows of a tensor accounted for: of all its rows, the lines of its extent (R277). -/
def State.ldRowsTouch (s : State) (d rows : Nat) (write : Bool) : State :=
  if rows < (ldRows d).length then s.ldTouch d write ((((ldRows d).take rows).flatMap (ldRowLines d)).eraseDups)
  else if write then s.ldWriteAll d false else s.ldReadAll d false

/-- The first `rows` rows of a job, each read whole before any of it is written (R301). LAYER of its non-finite events is 0: a job has
none (DESIGN CHOICE, log entry 68). -/
def State.jobMove (s : State) (r : Run) (rows : Nat) : State × Bool :=
  let j := unle r.desc
  let d := unle r.dst
  let s := s.ldRowsTouch (unle r.src0) rows false
  let s := if jbUse1 j then s.ldRowsTouch (unle r.src1) rows false else s
  let z := ((ldRows d).take rows).foldl (fun (acc : State × Nf × Bool) row =>
    let v := runNf (acc.1.jobRow r row)
    let s := if v.1.2 then acc.1.count (Key.SFU_ROWMASK_COUNT (jbOwner j)) 1 else acc.1
    (s.rowPut d row v.1.1.1 v.1.1.2, acc.2.1.plus v.2, acc.2.2 || v.1.2)) (s.ldRowsTouch d rows true, {}, false)
  (z.1.nonFinite 6 (jbOwner j) 0 (s.step (jbOwner j)) z.2.1, z.2.2)

/-! ### Jobs -/

/-- Checks of an entry written with VALID set (R300). -/
def State.jobCheck (s : State) (j : Nat) : Option (Nat × Nat) :=
  let a := s.ld (jbSrc0 j)
  let b := s.ld (jbSrc1 j)
  let d := s.ld (jbDst j)
  let srcs := if jbUse1 j then [a, b] else [a]
  if !((d :: srcs).all (fun x => ldValid x && ldOwner x == jbOwner j)) || !(ldWrite d) || bits j 1 69 != 0 ||
     (jbNotify j && !(s.ownsQueue (jbOwner j) (jbQueue j))) then some (Ec.descRange, 0x82)
  else if srcs.any (fun x => ldRank x != ldRank d || (List.range 5).any (fun k => ldSize x k != ldSize d k)) ||
     ldSize d 0 > 16384 then some (Ec.descRange, 0x83)
  else if (d :: srcs).any (fun x => ldFmt x == 8) then some (Ec.descRange, 0x84)
  else if srcs.any (fun x => ldOverlap d x && !(ldSame d x)) then some (Ec.descOverlap, 0x02)
  else none

/-- A write of SFU_JOB_TABLE (R300, R302). -/
def State.jobTableWrite (s : State) (o : Nat) (bs : Bytes) : State × Option Refused :=
  let old := s
  tableWrite Dom.SFU_JOB_TABLE 16 0x70 0x71 jbOwner ldValid State.jobCheck
    (fun s n d => if ldValid d then s else s.endJob n (old.job n)) o bs s

/-- SFU_JOB_START (R301). -/
def State.jobStart (s : State) (q : Nat) : State × Option Refused :=
  let ok := q ≤ 63 && ldValid (s.job q)
  let prog := bankProg (s.sfuBank (s.get Key.SFU_PROG_ACTIVE)) (jbProg (s.job q))
  if ok && s.sfu.queue.length < 16 && !(progEmpty prog) then ({ s with sfu := { s.sfu with queue := s.sfu.queue ++ [q] } }, none)
  else (s, some { cls := Ec.descRange, det := 0x85, ctx := if ok then some (jbOwner (s.job q)) else none, idx := q % 4096 })

/-- JOB_BEGIN (R301): the next queued job begins and latches its program from the active bank. -/
def jobBeginOp (s : State) : State :=
  match s.sfu.running, s.sfu.queue with
  | none, q :: r =>
    let j := s.job q
    let prog := bankProg (s.sfuBank (s.get Key.SFU_PROG_ACTIVE)) (jbProg j)
    let run : Run :=
      { idx := q, desc := le 16 j, src0 := le 64 (s.ld (jbSrc0 j)), src1 := le 64 (s.ld (jbSrc1 j)),
        dst := le 64 (s.ld (jbDst j)), prog := prog }
    { s with sfu := { queue := r, running := some run } }
  | _, _ => s

/-- JOB_COMPLETE (R301, R302): the running job's last row is written; an aborted one stopped after a free number of rows. -/
def jobCompleteOp (s : State) : State :=
  match s.sfu.running with
  | none => s
  | some r =>
    let j := unle r.desc
    let total := (ldRows (unle r.dst)).length
    let empty := ldEmpty (unle r.dst)
    let s := { s with sfu := { s.sfu with running := none } }
    let n := if r.aborted then Config.partialWork s.free 6 % (total + 1) else total
    let z := if empty then (s, false) else s.jobMove r n
    if r.aborted then z.1.jobNotice r.idx j true z.2
    else (z.1.count (Key.SFU_JOB_DONE (jbOwner j)) 1).jobNotice r.idx j false z.2

/-- SFU_CHECK_DONE. -/
def execSfuCheckDone (s : State) : Host.Outcome State Fault Refusal := .next (act sfuCheckDoneOp s)
/-- JOB_BEGIN. -/
def execJobBegin (s : State) : Host.Outcome State Fault Refusal := .next (act jobBeginOp s)
/-- JOB_COMPLETE. -/
def execJobComplete (s : State) : Host.Outcome State Fault Refusal := .next (actFresh jobCompleteOp s)

end Sys2Proof.Machine
end

