-- ==== Sys2Proof/Machine/Select.lean ====
section
/-! DEFINITION. The Selector: noise, exclusion, choice, gates, load statistics (R57 to R69, R76, R215). -/

namespace Sys2Proof.Machine

open Sys2Proof

/-! ### Noise (R58, R215) -/

/-- The mixing function of R215. -/
def mix64 (z : U64) : U64 :=
  let z := (z ^^^ (z >>> 33)) * 0xFF51AFD7ED558CCD
  let z := (z ^^^ (z >>> 33)) * 0xC4CEB9FE1A85EC53
  z ^^^ (z >>> 33)

/-- The noise word of (seed, step, layer, token id, expert) (R215). -/
def noiseWord (seed : U64) (st layer id e : Nat) : Nat :=
  let a := mix64 (seed ^^^ BitVec.ofNat 64 (st % 2 ^ 48))
  let b := mix64 (a ^^^ BitVec.ofNat 64 ((layer % 256) <<< 52) ^^^ BitVec.ofNat 64 ((e % 4096) <<< 32) ^^^ BitVec.ofNat 64 (id % 2 ^ 32))
  b.toNat % 2 ^ 32

/-- The noise value of a token and expert (R58): `kind` 1 uniform, 2 Gumbel. -/
def noiseValue (kind : Nat) (amp : F32) (w : Nat) : F32 :=
  let n := (w >>> 9) * 2 + 1
  if kind = 1 then
    let d : Int := 2 * (n : Int) - 2 ^ 24
    F32.round ((fval amp).mul (.fin (decide (d < 0)) d.natAbs (-24)))
  else
    let u := F32.round (.fin false n (-24))
    let inner := F32.round (fval (sfuLog u).1).neg
    F32.round ((fval amp).mul (fval (sfuLog inner).1).neg)

/-- What the routing of one layer in one step rests on: descriptor, bias, mask, and for each expert whether its primary entry
is valid and its home node. -/
structure Router where
  l : Bytes
  layer : Nat
  st : Nat
  seed : U64
  bias : List F32
  mask : Bytes
  valid : List Bool
  home : List Nat
deriving DecidableEq, Repr, Inhabited

/-- The router of a layer as a window uses it (R57, R59, R97). -/
def State.router (s : State) (c st layer bank : Nat) : Router :=
  let l := s.layer c layer
  let x := s.selins.find? (fun (x : SelIn) => x.ctx == c && x.step == st && x.layer == layer)
  let ps := (List.range (selE l)).map (fun e => s.pt bank (cdBase l + e))
  { l := l, layer := layer, st := st, seed := (s.ctx c).seed,
    bias := (match x with | some x => x.bias | none => []), mask := (match x with | some x => x.mask | none => []),
    valid := ps.map ptValid, home := ps.map ptNode }

/-- Expert `e` is masked by the bitmap (R55). -/
def Router.masked (r : Router) (e : Nat) : Bool := bit (nth r.mask (e / 8) 0).toNat (e % 8)

/-- One expert of a token while it is routed: its exclusion code (R139), its logit with noise, its rule value, its key. -/
structure Cand where
  e : Nat
  code : Nat := 0
  x : F32 := 0
  v : F32 := 0
  key : F32 := 0
deriving DecidableEq, Repr, Inhabited

/-- A logit with its noise added (R58, R61). -/
def Router.noised (r : Router) (id e : Nat) (x : F32) : Arith F32 :=
  let k := selNoise r.l
  if k = 0 then pure x else fadd x (noiseValue k (selAmp r.l) (noiseWord r.seed r.st r.layer id e))

/-- Column `e` is a padding column (R53). -/
def Router.padding (r : Router) (e : Nat) : Bool := decide (selE r.l ≤ e)

/-- The exclusion before the rule is applied, and the noised logit (R59, R61). -/
def Router.enter (r : Router) (id : Nat) (logits : List F32) (e : Nat) : Arith Cand :=
  let x := nth logits e 0
  if r.padding e || r.masked e || !(nth r.valid e false) || F32.isNan x then pure { e := e, code := 1, x := x }
  else do
    let y ← r.noised id e x
    pure { e := e, x := y }

/-- A softmax over some candidates, with its count (R46, R292). -/
def softmaxArith (row : List (F32 × Bool)) : Arith (List F32) := fun n =>
  let m := softmax row
  (m.1, n.plus (countOuts ((row.filter (fun (p : F32 × Bool) => !p.2)).map (·.1)) m.1))

/-- The rule's value of each candidate (R61). -/
def Router.applyRule (r : Router) (cs : List Cand) : Arith (List Cand) :=
  match selRule r.l with
  | 0 => do
    let ys ← softmaxArith (cs.map (fun (c : Cand) => (c.x, c.code != 0)))
    pure ((cs.zip ys).map (fun (p : Cand × F32) => { p.1 with v := p.2 }))
  | 2 => pure (cs.map (fun (c : Cand) => if c.code = 0 then { c with v := sfuSigmoid c.x } else c))
  | _ => pure (cs.map (fun (c : Cand) => { c with v := c.x }))

/-- The selection key (R61); a NaN key excludes (R59). -/
def Router.keyed (r : Router) (c : Cand) : Arith Cand :=
  if c.code ≠ 0 then pure c
  else do
    let k ← fadd c.v (nth r.bias c.e 0)
    pure { c with key := k, code := if F32.isNan k then 2 else 0 }

/-- The order of R60: larger key first, equal keys by expert index. -/
def candLt (a b : Cand) : Bool := F32.lt b.key a.key || (!(F32.lt a.key b.key) && decide (a.e < b.e))

/-- A node's score (R62): the sum of its best keys. -/
def Router.nodeScore (r : Router) (cs : List Cand) (v : Nat) : Arith F32 :=
  sumLeft ((((sortBy candLt (cs.filter (fun (c : Cand) => nth r.home c.e 0 == v))).take (selJ r.l))).map (·.key))

/-- The order of nodes of R62: larger score first, NaN last, equal scores by node number. -/
def nodeLt (a b : Nat × F32) : Bool :=
  match F32.isNan a.2, F32.isNan b.2 with
  | true, true => decide (a.1 < b.1)
  | true, false => false
  | false, true => true
  | false, false => F32.lt b.2 a.2 || (!(F32.lt a.2 b.2) && decide (a.1 < b.1))

/-- The candidates the node limit keeps (R62). -/
def Router.nodeLimit (r : Router) (cs : List Cand) : Arith (List Cand) :=
  if selM r.l = 0 then pure cs
  else do
    let vs := (cs.map (fun (c : Cand) => nth r.home c.e 0)).eraseDups
    let ns ← vs.mapM (fun v => do
      let x ← r.nodeScore cs v
      pure (v, x))
    let kept := ((sortBy nodeLt ns).take (selM r.l)).map (·.1)
    pure (cs.filter (fun (c : Cand) => kept.contains (nth r.home c.e 0)))

/-- A value is ±0. -/
def F32.isZero (x : F32) : Bool := x == 0 || x == 0x80000000

/-- `a / S` by the reciprocal, +0 where S is zero (R65). -/
def divOrZero (a sum : F32) : Arith F32 :=
  if F32.isZero sum then pure 0
  else do
    let q ← sfuArith sfuRecip sum
    fmul a q

/-- The gates of the chosen experts before ROUTE_SCALE, and whether the denominator was zero (R65). -/
def Router.gates (r : Router) (chosen : List Cand) : Arith (List F32 × Bool) :=
  let vs := chosen.map (·.v)
  match selRule r.l with
  | 1 => do
    let g ← softmaxArith (chosen.map (fun (c : Cand) => (c.x, false)))
    pure (g, false)
  | k =>
    if k = 0 && !(selRenorm r.l) then pure (vs, false)
    else do
      let sum ← sumLeft vs
      let g ← vs.mapM (fun v => divOrZero v sum)
      pure (g, F32.isZero sum)

/-- The probability term of each column for the load statistics (R67): +0 for an excluded one. The reciprocal of S_all is formed, and
counted, once for the token (DEDUCED, log entry 53). -/
def Router.terms (r : Router) (cs : List Cand) : Arith (List F32) :=
  match selRule r.l with
  | 0 => pure (cs.map (fun (c : Cand) => if c.code = 0 then c.v else 0))
  | 1 => softmaxArith (cs.map (fun (c : Cand) => (c.x, c.code != 0)))
  | _ => do
    let sum ← sumLeft ((cs.filter (fun (c : Cand) => c.code == 0)).map (·.v))
    let q ← sfuArith sfuRecip sum
    cs.mapM (fun (c : Cand) => if c.code = 0 then fmul c.v q else pure 0)

/-- What the Selector forms for one position. -/
structure Picked where
  sel : Sel := {}
  codes : List Nat := []
  terms : List F32 := []
  nans : Nat := 0
  short : Bool := false
  zeroDen : Bool := false
deriving DecidableEq, Repr, Inhabited

/-- The status word of a position that chose `n` experts (Table 3.3). -/
def statusWord (n : Nat) (nan short zeroDen : Bool) : Nat :=
  n ||| (if n = 0 then 32 else 0) ||| (if nan then 64 else 0) ||| (if short then 128 else 0) ||| (if zeroDen then 256 else 0)

/-- A choice entry (Table 3.4). -/
def choiceEntry (e : Nat) (gate : F32) (rank home : Nat) : U64 :=
  BitVec.ofNat 64 (gate.toNat <<< 32 ||| (e % 4096) <<< 20 ||| (rank % 16) <<< 16 ||| home % 16384)

/-- The ranked choices that a position's entries name: expert, gate and home node (R66). -/
def Sel.choices (x : Sel) : List (Nat × F32 × Nat) :=
  (x.entries.take (x.status % 32)).map (fun v => (bits v.toNat 20 12, BitVec.ofNat 32 (bits v.toNat 32 32), bits v.toNat 0 14))

/-- The K entries of some choices (R66): rank by rank, zero from the last on. -/
def choiceEntries (k : Nat) (cs : List (Nat × F32 × Nat)) : List U64 :=
  (List.range k).map (fun r => match cs[r]? with | some c => choiceEntry c.1 c.2.1 r c.2.2 | none => 0)

/-- `select` of R61 for a present token: choices, gates, reserve list, exclusion codes and statistics terms. -/
def Router.pick (r : Router) (id : Nat) (logits : List F32) : Arith Picked := do
  let c0 ← (List.range logits.length).mapM (r.enter id logits)
  let c1 ← r.applyRule c0
  let cs ← c1.mapM r.keyed
  let logitNan := (c0.filter (fun (c : Cand) =>
    c.code == 1 && !(r.padding c.e) && !(r.masked c.e) && nth r.valid c.e false)).length
  let nans := logitNan + (cs.filter (fun (c : Cand) => c.code == 2)).length
  let lim ← r.nodeLimit (cs.filter (fun (c : Cand) => c.code == 0))
  let order := sortBy candLt lim
  let n := min (selK r.l) order.length
  let chosen := order.take n
  let codes := (cs.take (selE r.l)).map (·.code)
  if n = 0 then
    pure { sel := { status := statusWord 0 (nans != 0) false false, entries := choiceEntries (selK r.l) [] }, codes := codes, nans := nans }
  else do
    let g ← r.gates chosen
    let scaled ← g.1.mapM (fun x => fmul x (selScale r.l))
    let terms ← if selStats r.l then r.terms cs else pure []
    let short := decide (n < selK r.l)
    pure
      { sel :=
          { status := statusWord n (nans != 0) short g.2
            entries := choiceEntries (selK r.l)
              ((chosen.zip scaled).map (fun (p : Cand × F32) => (p.1.e, p.2, nth r.home p.1.e 0)))
            reserve := ((order.drop n).take (cdReserve r.l)).map (·.e) }
        codes := codes, terms := terms, nans := nans, short := short, zeroDen := g.2 }

/-- The Selector's work on a tile: every position in order (R61). -/
def Router.tile (r : Router) (w : Win) : Arith (List Picked) :=
  (List.range 256).mapM (fun t =>
    if bit w.present t then r.pick (nth w.ids t 0) (nth w.logits t []) else pure { sel := { status := 512, entries := choiceEntries (selK r.l) [] } })

/-- N_CHOSEN of a status word. -/
def nChosen (status : Nat) : Nat := status % 32

/-- A token-position reduction of 256 values (R40). -/
def posReduce (xs : List F32) : Arith F32 := do
  let a ← treeSum 7 (xs.take 128)
  let b ← treeSum 7 ((xs.drop 128).take 128)
  fadd a b

/-! ### Load statistics (R67) -/

/-- A tile's part of the statistics. -/
def statPart (w : Win) (e : Nat) (ps : List Picked) : Arith StatPart := do
  let counts := (List.range e).map (fun i =>
    (ps.filter (fun (p : Picked) => p.sel.choices.any (fun (c : Nat × F32 × Nat) => c.1 == i))).length)
  let psums ← (List.range e).mapM (fun i => posReduce (ps.map (fun (p : Picked) => nth p.terms i 0)))
  pure { ctx := w.ctx, step := w.step, attempt := w.attempt, layer := w.layer, tile := w.tile,
         tokens := (ps.filter (fun (p : Picked) => nChosen p.sel.status != 0)).length, counts := counts, psums := psums }

/-- Two lists summed element by element. -/
def addLists : List F32 → List F32 → Arith (List F32)
  | a :: r, b :: t => do
    let x ← fadd a b
    let y ← addLists r t
    pure (x :: y)
  | _, _ => pure []

/-- The probability sums of a layer: tiles in tile-sequence order (R67). -/
def sumParts : List StatPart → Arith (List F32)
  | [] => pure []
  | p :: r => r.foldlM (fun acc q => addLists acc q.psums) p.psums

/-- Counts added element by element. -/
def addCounts (a b : List Nat) : List Nat := (a.zip b).map (fun (p : Nat × Nat) => p.1 + p.2)

/-- The load-statistics block (Table 3.5) of a layer's parts, in tile-sequence order. -/
def statBlock (st layer e : Nat) (parts : List StatPart) : Arith Bytes := do
  let ps ← sumParts parts
  let counts := (parts.map (·.counts)).foldl addCounts (List.replicate e 0)
  let tokens := (parts.map (·.tokens)).foldl (· + ·) 0
  pure (le 4 tokens ++ le 4 st ++ le 2 layer ++ le 2 e ++ zeros 4 ++
    (List.range e).flatMap (fun i => le 4 (nth counts i 0) ++ le 4 (nth ps i 0).toNat))

/-- The parts of a layer in a step's attempt, in tile-sequence order. -/
def State.statParts (s : State) (c st attempt layer : Nat) : List StatPart :=
  sortBy (fun (a b : StatPart) => decide (a.tile < b.tile))
    (s.stats.filter (fun (p : StatPart) => p.ctx == c && p.step == st && p.attempt == attempt && p.layer == layer))

/-- A tile added to its layer's statistics, and the block written (R67). -/
def State.addStats (s : State) (w : Win) (ps : List Picked) : State :=
  let l := s.layer w.ctx w.layer
  if !(selStats l) then s else
  let p := runNf (statPart w (selE l) ps)
  let s := { s with stats := s.stats ++ [p.1] }
  let b := runNf (statBlock w.step w.layer (selE l) (s.statParts w.ctx w.step w.attempt w.layer))
  (s.nonFinite 5 w.ctx w.layer w.step p.2).stgWrite (lyStats l) b.1

/-! ### The logit save (R139) -/

/-- The record of one position in a logit-save tile: zero where it chose no expert. -/
def logitRecord (l : Bytes) (logits : List F32) (p : Picked) : Bytes :=
  if nChosen p.sel.status = 0 then zeros (logitPos l)
  else
    let code (i : Nat) : Nat := nth p.codes i 0
    let bs := (logits.take (selE l)).flatMap (fun x => le 4 x.toNat) ++
      (List.range (ceilDiv (selE l) 4)).flatMap (fun i =>
        le 1 (code (4 * i) + 4 * code (4 * i + 1) + 16 * code (4 * i + 2) + 64 * code (4 * i + 3)))
    sub bs 0 (logitPos l)

/-- A save tile: header, CRC, body (Tables 6.2 and 6.3). -/
def saveTile (st layer tile c : Nat) (body : Bytes) (covered : Nat) : Bytes × Nat :=
  let head := le 8 (st % 2 ^ 48) ++ le 2 layer ++ le 2 tile ++ le 1 c ++ zeros 47
  let crc := crc32c (head ++ body.take covered)
  (head ++ le 4 crc ++ body, crc)

/-- The logit-save tile of a window written (R139). -/
def State.saveLogits (s : State) (w : Win) (ps : List Picked) : State :=
  let l := s.layer w.ctx w.layer
  if !(lyBackward l) then s else
  let body := (w.logits.zip ps).flatMap (fun (p : List F32 × Picked) => logitRecord l p.1 p.2)
  let t := saveTile w.step w.layer w.tile w.ctx body body.length
  let a := bwLogit l + w.index * logitStride l
  (s.hostWrite (s.portFor w.ctx a t.1.length) a t.1).noteVal w.ctx w.step w.layer w.tile item.saveL t.2

/-- The Selector's counters for a tile (R69). -/
def State.selCounts (s : State) (c : Nat) (ps : List Picked) : State :=
  let n (f : Picked → Bool) : Nat := (ps.filter f).length
  let s := s.count (Key.SEL_NAN_COUNT c) ((ps.map (·.nans)).foldl (· + ·) 0)
  let s := s.count (Key.SEL_ROWMASK_COUNT c) (n (fun p => bit p.sel.status 5))
  let s := s.count (Key.SEL_SHORT_COUNT c) (n (·.short))
  s.count (Key.SEL_ZERODEN_COUNT c) (n (·.zeroDen))

/-- SELECT_TILE (R58 to R69): the selection of the next tile the Scorer has completed (R208). -/
def selectTileOp (c layer tile : Nat) (s : State) : State :=
  match s.win? c layer tile 0 with
  | none => s
  | some w =>
    if s.nextWin 5 != some w then s else
    let r := runNf ((s.router c w.step layer w.bank).tile w)
    let s := s.setWin { w with stage := 4, sels := r.1.map (·.sel) }
    let s := (s.nonFinite 5 c layer w.step r.2).selCounts c r.1
    let s := (s.addStats w r.1).saveLogits w r.1
    (s.busy 5 (some c)).busy 6 (some c)

/-- SELECT_TILE. -/
def execSelectTile (ctx layer tile : Nat) (s : State) : Host.Outcome State Fault Refusal :=
  .next (act (selectTileOp ctx layer tile) s)

end Sys2Proof.Machine
end

