-- ==== Sys2Proof/Machine/Card.lean ====
section
/-! DEFINITION. The Carder: capacity, overflow, streams, gap stream, chunk map and route log (R77 to R91, R103, R148). -/

namespace Sys2Proof.Machine

open Sys2Proof

/-! ### Decisions (R77 to R80) -/

/-- A decided choice: `outcome` 0 placed, 1 rerouted, 2 dropped; a dropped one keeps expert, entry and position of R89. -/
structure Dec where
  pos : Nat
  rank : Nat
  chosen : Nat
  gate : F32
  outcome : Nat := 2
  expert : Nat := 0
  entry : Nat := 0xFFFF
  at_ : Nat := 0
  final : F32 := 0
  renormed : Bool := false
deriving DecidableEq, Repr, Inhabited

/-- Places used at each entry, reserve candidates spent as (position, expert), and decisions in processing order. -/
structure Carding where
  used : List (Nat × Nat) := []
  spent : List (Nat × Nat) := []
  decs : List Dec := []
deriving DecidableEq, Repr, Inhabited

/-- Places used at an entry. -/
def Carding.usedAt (k : Carding) (i : Nat) : Nat := (Sparse.get? k.used i).getD 0

/-- What the Carder reads of the bank: for each expert its usable entries with their capacities, in chain order (R73). -/
abbrev Chains := List (List (Nat × Nat))

/-- The chains of a layer in a bank. -/
def State.chains (s : State) (b : Nat) (l : Bytes) : Chains :=
  (List.range (selE l)).map (fun e => (s.usable b l e).map (fun i => (i, ptCap (s.pt b i))))

/-- The first usable entry of an expert with room. -/
def Carding.room (k : Carding) (ch : Chains) (e : Nat) : Option Nat :=
  ((nth ch e []).find? (fun (p : Nat × Nat) => decide (k.usedAt p.1 < p.2))).map (·.1)

/-- A record placed (R77). -/
def Carding.place (k : Carding) (d : Dec) (outcome x i : Nat) : Carding :=
  { k with
    used := Sparse.put k.used i (k.usedAt i + 1)
    decs := k.decs ++ [{ d with outcome := outcome, expert := x, entry := i, at_ := k.usedAt i }] }

/-- One choice decided (R77). -/
def Carding.decide1 (l : Bytes) (ch : Chains) (reserve : List Nat) (k : Carding) (d : Dec) : Carding :=
  match k.room ch d.chosen with
  | some i => k.place d 0 d.chosen i
  | none =>
    let spare := if cdOverflow l = 1 then
        reserve.find? (fun x => !(k.spent.contains (d.pos, x)) && (k.room ch x).isSome) else none
    match spare with
    | some x => ({ k with spent := k.spent ++ [(d.pos, x)] }).place d 1 x ((k.room ch x).getD 0)
    | none => { k with decs := k.decs ++ [d] }

/-- The choices of a tile in processing order (R77). -/
def choicesInOrder (l : Bytes) (sels : List Sel) : List Dec :=
  let one (t r : Nat) : List Dec :=
    match (nth sels t {}).choices[r]? with
    | some c => [{ pos := t, rank := r, chosen := c.1, gate := c.2.1 }]
    | none => []
  if cdOrder l = 0 then (List.range (selK l)).flatMap (fun r => (List.range 256).flatMap (fun t => one t r))
  else (List.range 256).flatMap (fun t => (List.range (selK l)).flatMap (fun r => one t r))

/-- Every choice of a tile decided. -/
def cardTile (l : Bytes) (ch : Chains) (sels : List Sel) : Carding :=
  (choicesInOrder l sels).foldl (fun k d => k.decide1 l ch (nth sels d.pos {}).reserve d) {}

/-- Final gates of one token, its decisions in rank order (R80), and whether it was rescaled. -/
def finalGates (l : Bytes) (ds : List Dec) : Arith (List Dec) := do
  let keep := ds.map (fun (d : Dec) => if d.outcome = 2 then d else { d with final := d.gate })
  let alive := ds.filter (fun (d : Dec) => d.outcome != 2)
  if cdRenorm l ≠ 1 || alive.length = ds.length || alive.isEmpty then pure keep
  else do
    let all ← sumLeft (ds.map (·.gate))
    let surv ← sumLeft (alive.map (·.gate))
    if F32.isZero surv || !(F32.finite surv) || !(F32.finite all) then pure keep
    else do
      let q ← sfuArith sfuRecip surv
      let f ← fmul all q
      ds.mapM (fun (d : Dec) =>
        if d.outcome = 2 then pure { d with renormed := true }
        else do
          let g ← fmul d.gate f
          pure { d with final := g, renormed := true })

/-- The decisions of a tile with their final gates, in position and rank order (R80, R89). -/
def gatedDecs (l : Bytes) (k : Carding) : Arith (List Dec) := do
  let byTok ← (List.range 256).mapM (fun t =>
    finalGates l (sortBy (fun (a b : Dec) => decide (a.rank < b.rank)) (k.decs.filter (fun (d : Dec) => d.pos == t))))
  pure byTok.flatten

/-! ### Records and streams (R81 to R85, R103) -/

/-- What the headers of a tile's records share. -/
structure TileHead where
  l : Bytes
  layer : Nat
  tile : Nat
  st : Nat
  node : Nat
  port : Nat
  fmt : Nat
  kind : Nat
deriving DecidableEq, Repr, Inhabited

/-- The header every record of a tile starts from. -/
def TileHead.base (h : TileHead) : Hdr :=
  { stepLo := h.st, tile := h.tile, kind := h.kind, fmt := h.fmt, layer := h.layer, stport := h.port, src := h.node }

/-- A pad record's header at place `i` (Tables 4.3, 5.2). -/
def TileHead.pad (h : TileHead) (i : Nat) (p : Place) : Hdr :=
  { h.base with place := i, slot := p.slot, tport := p.tport, pos := p.pos, pad := true, expert := p.expert, token := 0xFFFFFFFF }

/-- The header of a placed or rerouted record at place `i` (Tables 4.3, 5.2). -/
def TileHead.record (h : TileHead) (i : Nat) (p : Place) (d : Dec) (token : Nat) : Hdr :=
  { h.base with
    place := i, slot := p.slot, tport := p.tport, gate := d.final.toNat, pos := p.pos, rerouted := d.outcome == 1, rank := d.rank,
    expert := d.expert, token := token }

/-- A gap marker (Tables 4.3, 5.2). -/
def TileHead.gap (h : TileHead) (d : Dec) (token : Nat) : Hdr :=
  { h.base with place := 0xFFFFFF, gate := d.gate.toNat, gap := true, rank := d.rank, expert := d.chosen, token := token }

/-- The decision that took a place. -/
def decAt (ds : List Dec) (p : Place) : Option Dec :=
  ds.find? (fun (d : Dec) => d.outcome != 2 && d.entry == p.entry && d.at_ == p.pos)

/-- A stream in bytes, pad payloads as zero (R81, R83): `payload` gives a record's payload. -/
def streamBytes (h : TileHead) (places : List Place) (ds : List Dec) (ids : List Nat) (payload : Nat → Bytes) : Bytes :=
  let n := payloadLen h.fmt (lyD h.l)
  (places.zipIdx).flatMap (fun (x : Place × Nat) =>
    match decAt ds x.1 with
    | some d => hdrBytes (h.record x.2 x.1 d (nth ids d.pos 0)) ++ payload d.pos
    | none => hdrBytes (h.pad x.2 x.1) ++ zeros n)

/-- Pieces of a stream added, each with its buffer asked for (R84, R88). -/
def State.addStream (s : State) (k : PieceKey) (reclen : Nat) (pad : Nat → Bool) (bs : Bytes) : State :=
  (cutPieces bs reclen pad).foldl (fun s (c : Cut) =>
    let p : Piece :=
      { key := { k with idx := c.idx }, len := c.bytes.length, fill := if c.padOnly then [] else c.bytes, padOnly := c.padOnly,
        ready := true, holes := c.holes }
    s.addPiece p) s

/-- A stream formed toward one node: remembered with its places, and its pieces added. -/
def State.formStream (s : State) (h : TileHead) (k : PieceKey) (places : List Place) (ds : List Dec) (ids : List Nat)
    (payload : Nat → Bytes) : State :=
  let reclen := recordLen h.fmt (lyD h.l)
  let pl := places.map (fun (p : Place) => { p with used := (decAt ds p).isSome })
  s.addStream k reclen (fun i => !((nth pl i default).used)) (streamBytes h places ds ids payload)

/-- Streams of a tile: a destination's places in place order. -/
def State.streamsOf (s : State) (b : Nat) (l : Bytes) : List (Nat × List Place) := (s.dests b l).map (fun v => (v, s.places b l v))

/-- The forward streams of a tile as this engine formed them (R91): the backward exchange takes its blocks and lengths from them and
never reads CAPACITY or NEXT (R143). -/
def State.fwdStreams (s : State) (c st layer tile : Nat) : List (Nat × List Place) :=
  (s.streams.filter (fun (x : Stream) => x.ctx == c && x.step == st && x.layer == layer && x.tile == tile && x.kind == 0)).map
    (fun (x : Stream) => (x.dst, x.places))

/-- The payload of each placed or rerouted record converted to the dispatch format, with its position (R32, R83). -/
def convertAll (l : Bytes) (fmt : Nat) (w : Win) (ds : List Dec) : Arith (List (Nat × Bytes)) :=
  (ds.filter (fun (d : Dec) => d.outcome != 2)).mapM (fun d => do
    let p ← convertPayload (lyHidden l) fmt (lyD l) (w.payload l d.pos)
    pure (d.pos, p))

/-- The converted payload of a position. -/
def payloadAt (ps : List (Nat × Bytes)) (t : Nat) : Bytes := ((ps.find? (fun (x : Nat × Bytes) => x.1 == t)).map (·.2)).getD []

/-- The dispatch of a tile written (R81 to R86): streams remembered, chunk map, streams, gap stream. -/
def State.writeDispatch (s : State) (h : TileHead) (c kind : Nat) (streams : List (Nat × List Place)) (ds : List Dec) (ids : List Nat)
    (payload : Nat → Bytes) (gaps : Bytes) : State :=
  let reclen := recordLen h.fmt (lyD h.l)
  let key (kd v : Nat) : PieceKey := { ctx := c, step := h.st, layer := h.layer, tile := h.tile, kind := kd, src := h.node, dst := v, idx := 0 }
  let xs := streams.map (fun (x : Nat × List Place) =>
    let pl := x.2.map (fun (p : Place) => { p with used := (decAt ds p).isSome })
    ({ ctx := c, step := h.st, layer := h.layer, tile := h.tile, kind := kind, dst := x.1, reclen := reclen, places := pl } : Stream))
  let s := { s with streams := s.streams ++ xs }
  let words := (xs.map Stream.pieceCount).foldl (· + ·) 0 + 2 * selK h.l
  let map : Piece := { key := { key 9 0 with idx := kind }, len := 4 * words, fill := zeros (4 * words), ready := true }
  let s := s.addPiece map
  let s := streams.foldl (fun s (x : Nat × List Place) => s.formStream h (key kind x.1) x.2 ds ids payload) s
  s.addStream (key 8 0) 32 (fun _ => false) gaps

/-! ### The route log (R89) -/

/-- A route entry (Table 4.5). -/
def Dec.word (d : Dec) : Nat :=
  d.final.toNat <<< 96 ||| d.gate.toNat <<< 64 ||| d.entry <<< 48 ||| d.expert <<< 36 ||| d.chosen <<< 24 ||| d.at_ <<< 12 |||
    d.rank <<< 8 ||| d.outcome <<< 6 ||| (b2n d.renormed) <<< 5

/-- A route-log tile (Table 4.4) and its LOG_CRC. -/
def routeLog (l : Bytes) (w : Win) (ds : List Dec) (pads : Nat) : Bytes × Nat :=
  let n (o : Nat) : Nat := (ds.filter (fun (d : Dec) => d.outcome == o)).length
  let head := le 8 (w.step % 2 ^ 48) ++ le 2 w.layer ++ le 2 w.tile ++ le 1 w.ctx ++ le 1 w.bank ++
    le 1 (cdRenorm l <<< 4 ||| cdOverflow l <<< 2 ||| cdOrder l) ++ le 1 (cdReserve l) ++ le 4 ds.length ++ le 4 (n 1) ++ le 4 (n 2) ++
    le 4 pads ++ le 1 w.port ++ zeros 27
  let body := (w.sels.flatMap (fun (x : Sel) => le 4 x.status)) ++ ds.flatMap (fun (d : Dec) => le 16 d.word)
  let crc := crc32c (head ++ body)
  (head ++ le 4 crc ++ body, crc)

/-- A window's tile head, for dispatch records in format `fmt`. -/
def State.tileHead (s : State) (w : Win) (port fmt kind : Nat) : TileHead :=
  { l := s.layer w.ctx w.layer, layer := w.layer, tile := w.tile, st := w.step, node := s.node, port := port, fmt := fmt, kind := kind }

/-- Metered increments of a forward tile (Table 18.7). -/
def State.meterTile (s : State) (w : Win) (ds : List Dec) : State :=
  let toks := (w.sels.filter (fun (x : Sel) => nChosen x.status != 0)).length
  if w.attempt = 0 then (s.tap 1 w.ctx toks).tap 3 w.ctx (ds.filter (fun (d : Dec) => d.outcome != 2)).length
  else s.tap 2 w.ctx toks

/-- The values a forward tile's digest takes from its window (Table 8.3). -/
def State.noteTile (s : State) (w : Win) (logCrc : Nat) : State :=
  let sel := ((s.selins.find? (fun (x : SelIn) => x.ctx == w.ctx && x.step == w.step && x.layer == w.layer)).map (·.crc)).getD 0
  let s := (s.noteVal w.ctx w.step w.layer w.tile item.ptCrc w.ptCrc).noteVal w.ctx w.step w.layer w.tile item.selin sel
  s.noteVal w.ctx w.step w.layer w.tile item.log logCrc

/-- The Carder's work on a forward tile (R77 to R90). -/
def State.cardForward (s : State) (w : Win) : State :=
  let l := s.layer w.ctx w.layer
  let k := cardTile l (s.chains w.bank l) w.sels
  let g := runNf (gatedDecs l k)
  let ds := g.1
  let pay := runNf (convertAll l (lyDisp l) w ds)
  let h := s.tileHead w w.port (lyDisp l) 0
  let streams := s.streamsOf w.bank l
  let gaps := ((k.decs.filter (fun (d : Dec) => d.outcome == 2)).map (fun (d : Dec) => hdrBytes (h.gap d (nth w.ids d.pos 0)))).flatten
  let placed := (ds.filter (fun (d : Dec) => d.outcome != 2)).length
  let pads := ((streams.map (fun (x : Nat × List Place) => x.2.length)).foldl (· + ·) 0) - placed
  let log := routeLog l w ds pads
  let a := lyLog l + w.index * logStride l
  let n (f : Dec → Bool) : Nat := (ds.filter f).length
  let s := s.writeDispatch h w.ctx 0 streams ds w.ids (payloadAt pay.1) gaps
  let s := s.hostWrite (s.portFor w.ctx a log.1.length) a log.1
  let s := s.count (Key.CRD_REROUTE_COUNT w.ctx) (n (fun d => d.outcome == 1))
  let s := s.count (Key.CRD_DROP_COUNT w.ctx) (n (fun d => d.outcome == 2))
  let s := s.count (Key.CRD_PAD_COUNT w.ctx) pads
  let s := s.count (Key.CRD_RENORM_COUNT w.ctx) (((ds.filter (fun (d : Dec) => d.renormed)).map (·.pos)).eraseDups).length
  let s := (s.nonFinite 7 w.ctx w.layer w.step g.2).nonFinite 11 w.ctx w.layer w.step pay.2
  let s := ((s.noteTile w log.2).meterTile w ds).setWin { w with stage := 5 }
  (s.busy 7 (some w.ctx)).busy 11 (some w.ctx)

/-- Route entry `j` of a route-log tile. -/
def logEntry (log : Bytes) (j : Nat) : Nat := u log (1088 + 16 * j) 16
def lePt (e : Nat) : Nat := bits e 48 16
def leExpert (e : Nat) : Nat := bits e 36 12
def leChosen (e : Nat) : Nat := bits e 24 12
def lePos (e : Nat) : Nat := bits e 12 12
def leRank (e : Nat) : Nat := bits e 8 4
def leOutcome (e : Nat) : Nat := bits e 6 2
def leRenormed (e : Nat) : Bool := bit e 5
def leFinal (e : Nat) : F32 := BitVec.ofNat 32 (bits e 96 32)
def leOrig (e : Nat) : F32 := BitVec.ofNat 32 (bits e 64 32)

/-- Status word of position `t` of a route-log tile. -/
def logStatus (log : Bytes) (t : Nat) : Nat := u log (64 + 4 * t) 4

/-- Bytes of a route-log tile whose first 1,088 bytes are `log`. -/
def logBytes (log : Bytes) : Nat := 1088 + 16 * u log 16 4

/-- The route entries of a log tile, each with its position (R89). -/
def logEntries (log : Bytes) : List (Nat × Nat) :=
  let ts := (List.range 256).flatMap (fun t => List.replicate (nChosen (logStatus log t)) t)
  (ts.zipIdx).map (fun (x : Nat × Nat) => (x.1, logEntry log x.2))

/-- A route entry as a decision. -/
def decOf (x : Nat × Nat) : Dec :=
  { pos := x.1, rank := leRank x.2, chosen := leChosen x.2, gate := leOrig x.2, outcome := leOutcome x.2, expert := leExpert x.2,
    entry := lePt x.2, at_ := lePos x.2, final := leFinal x.2, renormed := leRenormed x.2 }

/-- The route-log tile of a layer's tile `index` as host memory holds it now. -/
def State.readLog (s : State) (l : Bytes) (index : Nat) : Bytes :=
  let a := lyLog l + index * logStride l
  s.hostBytes a (min (logStride l) (logBytes (s.hostBytes a 1088)))

/-- The Carder's refetch dispatch of a tile in B1 (R148): from the route log and the re-ingested hidden states alone. -/
def State.cardRefetch (s : State) (w src : Win) : State :=
  let l := s.layer w.ctx w.layer
  let a := lyLog l + w.index * logStride l
  let log := s.readLog l w.index
  let ds := (logEntries log).map decOf
  let pay := runNf (convertAll l (lyDisp l) src ds)
  let h := s.tileHead w (u log 32 1) (lyDisp l) 0
  let streams := s.fwdStreams w.ctx w.step w.layer w.tile
  let placed := (ds.filter (fun (d : Dec) => d.outcome != 2)).length
  let pads := ((streams.map (fun (x : Nat × List Place) => x.2.length)).foldl (· + ·) 0) - placed
  let s := s.hostRead (s.portFor w.ctx a log.length) a log.length
  let s := (s.writeDispatch h w.ctx 7 streams ds src.ids (payloadAt pay.1) []).count (Key.CRD_PAD_COUNT w.ctx) pads
  let s := (s.nonFinite 11 w.ctx w.layer w.step pay.2).setWin { w with stage := 5 }
  (s.busy 7 (some w.ctx)).busy 11 (some w.ctx)

/-- CARD_TILE (R77, R148): the next forward tile the Selector has completed, or the refetch tile the Carder has begun (R208). -/
def cardTileOp (c layer tile work : Nat) (s : State) : State :=
  match s.win? c layer tile work with
  | none => s
  | some w =>
    if work = 0 then (if s.nextWin 7 = some w && !(s.occupied 7) then s.cardForward w else s)
    else if work = 2 then
      match s.reingested c w.step layer tile with
      | some x => if w.begun && decide (w.stage < 5) then s.cardRefetch w x else s
      | none => s
    else s

/-- CARD_TILE. -/
def execCardTile (ctx layer tile work : Nat) (s : State) : Host.Outcome State Fault Refusal :=
  .next (actFresh (cardTileOp ctx layer tile work) s)

end Sys2Proof.Machine
end

