-- ==== Sys2Proof/Machine/Group.lean ====
section
/-! DEFINITION. Fabric shape, groups and the two trees of Sum-All (R306 to R308, R314), and the COLLECTIVE command's class
fields (Table 12.2). -/

namespace Sys2Proof.Machine

open Sys2Proof

/-- Size of axis `a` of the fabric's shape (R306). -/
def State.axis (s : State) (a : Nat) : Nat := bits (s.get Key.FAB_SHAPE) (16 * a) 16
/-- Product of the axis sizes below axis `a`. -/
def State.axesBelow (s : State) (a : Nat) : Nat := ((List.range a).map s.axis).foldl (· * ·) 1
/-- Coordinate of a node along an axis (R306). -/
def State.coord (s : State) (n a : Nat) : Nat := n / s.axesBelow a % s.axis a
/-- A group entry (Table 12.1). -/
def State.group (s : State) (g : Nat) : Nat := unle (s.domBytes Dom.CLE_GROUPS (32 * g) 32)
def gpValid (e : Nat) : Bool := bit e 255
def gpOwner (e : Nat) : Nat := bits e 252 3
def gpChannel (e : Nat) : Nat := bits e 248 4
def gpBlock (e a : Nat) : Nat := bits e (16 + 32 * a) 16
def gpStride (e a : Nat) : Nat := bits e (32 * a) 16

/-- Coordinates of a group's members along an axis, in order of k_a (R308). -/
def State.gpCoords (s : State) (e a : Nat) : List Nat :=
  let c := s.coord s.node a
  let t := gpStride e a
  let b := gpBlock e a
  (List.range b).map (fun k => c % t + c / (t * b) * (t * b) + k * t)

/-- The members of a group as node numbers in rank order (R308). -/
def State.members (s : State) (e : Nat) : List Nat :=
  (List.range 4).foldl (fun ms a =>
    (s.gpCoords e a).flatMap (fun x => ms.map (fun m => m + x * s.axesBelow a))) [0]

/-- Parent, left child and right child of a position of the tree over positions `lo` to `hi` (R314). -/
def treeAt : Nat → Nat → Nat → Option Nat → Nat → Option Nat × Option Nat × Option Nat
  | 0, _, _, _, _ => (none, none, none)
  | n + 1, lo, hi, up, q =>
    let m := (lo + hi) / 2
    if q = m then
      (up, if lo < m then some ((lo + (m - 1)) / 2) else none, if m < hi then some ((m + 1 + hi) / 2) else none)
    else if q < m then treeAt n lo (m - 1) (some m) q
    else treeAt n (m + 1) hi (some m) q

/-- The tree neighbours of the own node for piece `j`, as node numbers: parent, left child, right child. -/
def State.neighbours (s : State) (e j : Nat) : Option Nat × Option Nat × Option Nat :=
  let ms := s.members e
  let p := ms.length
  let flip (x : Nat) : Nat := if j % 2 = 0 then x else p - 1 - x
  let t := treeAt p 0 (p - 1) none (flip (ms.findIdx (· == s.node)))
  let at_ (q : Nat) : Nat := nth ms (flip q) 0
  (t.1.map at_, t.2.1.map at_, t.2.2.map at_)

/-! ### The COLLECTIVE command -/

def clGroup (w : Nat) : Nat := bits w 220 12
def clSeq (w : Nat) : Nat := bits w 204 16
def clSrc (w : Nat) : Nat := bits w 192 12
def clDst (w : Nat) : Nat := bits w 180 12
def clFmt (w : Nat) : Nat := bits w 176 4
def clCap (w : Nat) : Nat := bits w 148 28
def clQueue (w : Nat) : Nat := bits w 139 9
def clSignal (w : Nat) : Bool := bit w 138
def clKind (w : Nat) : Nat := bits w 136 2
def clLayer (w : Nat) : Nat := bits w 128 8

/-- Bytes of an element of a collective's format (R311). -/
def clWidth (f : Nat) : Nat := if f = 0 || f = 8 then 4 else 2
/-- Pieces of a collective of `c` elements (R313). -/
def clPieces (f c : Nat) : Nat := ceilDiv (c * clWidth f) 4096
/-- Bytes of piece `j`. -/
def clPieceLen (f c j : Nat) : Nat := min 4096 (c * clWidth f - 4096 * j)

end Sys2Proof.Machine
end

