-- ==== Sys2Proof/Machine/Free.lean ====
section
/-! DEFINITION. Frees of pool buffers (R247 to R250) and what they end: descriptors bound to the buffer (R273), request
entries (R350) and scans (R365) whose range it holds. -/

namespace Sys2Proof.Machine

open Sys2Proof

/-- Fields of a scan request (Table 14.3). -/
def scStart (d : Nat) : Nat := bits d 192 64
def scExpect (d : Nat) : Nat := bits d 128 64
def scFold (d : Nat) : Nat := bits d 64 64
def scLen (d : Nat) : Nat := bits d 32 32
def scCtx (d : Nat) : Nat := bits d 29 3
def scPort (d : Nat) : Nat := bits d 27 2
def scHost (d : Nat) : Bool := bit d 26
def sc64 (d : Nat) : Bool := bit d 25
def scMode (d : Nat) : Nat := bits d 23 2
def scCompare (d : Nat) : Bool := bit d 22
def scLine (d : Nat) : Nat := bits d 20 2
def scTag (d : Nat) : Nat := bits d 12 8
def scQueue (d : Nat) : Nat := bits d 3 9
def scNotify (d : Nat) : Bool := bit d 2

/-- Completion notice of a scan (Table 14.4). -/
def State.scanNotice (s : State) (d status result : Nat) : State :=
  if scNotify d then s.postWord (scQueue d) 0x15 20 (scCtx d) (status <<< 8 ||| scTag d) (le 8 result ++ le 8 (scExpect d))
  else s

/-- Scans ended as far as they wait or run (R365): a queued one is removed with its notice, the running one stops. -/
def State.endScans (s : State) (p : Nat → Bool) : State :=
  let gone := s.cvu.queue.filter (fun d => p (unle d))
  let s := { s with cvu := { s.cvu with
    queue := s.cvu.queue.filter (fun d => !(p (unle d)))
    running := s.cvu.running.map (fun r => (r.1, r.2 || p (unle r.1))) } }
  gone.foldl (fun s d => s.scanNotice (unle d) 2 0) s

/-- Fields of a request entry (Table 13.6). -/
def rqRemote (d : Nat) : Nat := bits d 448 64
def rqLocal (d : Nat) : Nat := bits d 384 64
def rqOp0 (d : Nat) : Nat := bits d 320 64
def rqOp1 (d : Nat) : Nat := bits d 256 64
def rqLen (d : Nat) : Nat := bits d 224 32
def rqDest (d : Nat) : Nat := bits d 210 14
def rqOp (d : Nat) : Nat := bits d 206 4
def rqAop (d : Nat) : Nat := bits d 202 4
def rqCtx (d : Nat) : Nat := bits d 199 3
def rqHost (d : Nat) : Bool := bit d 198
def rqPort (d : Nat) : Nat := bits d 196 2
def rqFlag (d : Nat) : Bool := bit d 195
def rqCache (d : Nat) : Bool := bit d 194
def rqCount (d : Nat) : Bool := bit d 193
def rqCounter (d : Nat) : Nat := bits d 187 6
def rqLcounter (d : Nat) : Nat := bits d 181 6
def rqQueue (d : Nat) : Nat := bits d 172 9
def rqNotify (d : Nat) : Bool := bit d 171
/-- Request entry `q`. -/
def State.reqEntry (s : State) (q : Nat) : Nat := unle (s.domBytes Dom.FEP_REQ_TABLE (64 * q) 64)
/-- Bytes of an entry's local range. -/
def rqLocalLen (d : Nat) : Nat := if rqOp d = 3 then 8 else rqLen d

/-- What the accepted free of a buffer ends: `host` its memory, `a` its address, `n` its size. -/
def State.bufferGone (s : State) (host : Bool) (a n : Nat) : State :=
  let inside (b m : Nat) : Bool := decide (a ≤ b ∧ b + m ≤ a + n)
  let s := s.invalidate (fun d => ldHost d == host && !(ldEmpty d) &&
    decide (0 ≤ (ldExtent d).1) && inside (ldExtent d).1.toNat ((ldExtent d).2 - (ldExtent d).1).toNat)
  let s := (s.listedEntries Dom.FEP_REQ_TABLE 64).foldl (fun s q =>
    let d := s.reqEntry q
    if ldValid d && rqHost d == host && inside (rqLocal d) (rqLocalLen d) then s.clearValid Dom.FEP_REQ_TABLE 64 q 0 else s) s
  s.endScans (fun d => scHost d == host && inside (scStart d) (scLen d))

/-- First failing check of a free (Table 9.5), or the class and index it frees. -/
def State.freeCheck (s : State) (host : Bool) (ctx a : Nat) : Except (Nat × Nat) (Nat × Nat) :=
  match s.bufferAt (if host then [3, 4] else [0, 1, 2]) a 1 with
  | none => .error (Ec.poolRange, 0x01)
  | some (c, i) =>
    if (a - s.get (Key.POOL_BASE c)) % poolSize c ≠ 0 then .error (Ec.poolAlign, 0x01)
    else match s.owner c i with
      | none => .error (Ec.poolRange, 0x02)
      | some o => if o = ctx then .ok (c, i) else .error (Ec.poolRange, 0x03)

/-- An accepted free (R249): the buffer unallocated, on top of the cache, and no byte of it touched. -/
def State.freeBuffer (s : State) (c i : Nat) : State :=
  match s.owner c i with
  | none => s
  | some o =>
    let a := s.get (Key.POOL_BASE c) + i * poolSize c
    let p := s.pool c
    let s := s.setPool c { p with owner := Sparse.del p.owner i, cache := a :: p.cache }
    let s := s.put (Key.POOL_HELD c o) (s.get (Key.POOL_HELD c o) - 1)
    let s := s.put (Key.POOL_FREE c) (s.get (Key.POOL_FREE c) + 1)
    (s.startSpill c).bufferGone (c ≥ 3) a (poolSize c)

/-- A free, from a unit or the host (R247 to R249): refused, it changes nothing but the log and POOL_FREE_REFUSED, and a
unit's also replays the step (Table 17.7). -/
def freeOp (host : Bool) (ctx a : Nat) (s : State) : State :=
  match s.freeCheck host ctx a with
  | .ok (c, i) => s.freeBuffer c i
  | .error (k, d) =>
    let s := (s.log { cls := k, det := d, dom := 12, ctx := some ctx, arg := a % 2 ^ 32 }).count (Key.POOL_FREE_REFUSED ctx) 1
    if host then s else s.replayStep ctx

/-- The buffer of a piece freed and the piece forgotten; a request of it that still waits is withdrawn. -/
def State.dropPiece (s : State) (k : PieceKey) : State :=
  match s.piece k with
  | none => s
  | some p =>
    let s := { s with pieces := s.pieces.filter (fun q => q.key != k) }
    match p.buf with
    | some a => freeOp false k.ctx a s
    | none => { s with pools := s.pools.map (fun q => { q with wait := q.wait.filter (fun r => r.key != k) }) }

/-- The scan of R250: every buffer of classes 0 to 2 that a context holds is freed. -/
def State.freeAll (s : State) (ctx : Nat) : State :=
  [0, 1, 2].foldl (fun s c =>
    (((s.pool c).owner.filter (fun e => e.2 == ctx)).map (·.1)).foldl (fun s i => s.freeBuffer c i) s) s

/-- POOL_FREE (R247): a unit frees a buffer. -/
def execPoolFree (ctx addr : Nat) (s : State) : Host.Outcome State Fault Refusal := .next (act (freeOp false ctx addr) s)

end Sys2Proof.Machine
end

