-- ==== Sys2Proof/Machine/Tensor.lean ====
section
/-! DEFINITION. Elements of tensors as the units that run with a context's latched descriptors read and write them (R129,
R151, R275, R312). -/

namespace Sys2Proof.Machine

open Sys2Proof

/-- The layout descriptor `n` as a context latched it (R275). -/
def State.latched (s : State) (c n : Nat) : Nat :=
  match (s.ctx c).image with
  | some i => ((i.latched.find? (fun (x : Nat × Bytes) => x.1 == n)).map (fun (x : Nat × Bytes) => unle x.2)).getD 0
  | none => 0

/-- The index tuple of element number `i`, dimension 0 fastest. -/
def elemIndex (d i : Nat) : List Nat :=
  ((ldDims d).foldl (fun (a : List Nat × Nat) k => (a.1 ++ [a.2 % ldSize d k], a.2 / ldSize d k)) ([], i)).1

/-- The lines that some accesses touch, each once. -/
def linesOf (as : List (Nat × Nat)) : List Nat :=
  (as.flatMap (fun (x : Nat × Nat) => (List.range (lineCount x.1 x.2)).map (fun j => x.1 / 128 + j))).eraseDups

/-- Accounting of accesses, as address and length, in a tensor's memory. -/
def State.touch (s : State) (d : Nat) (write : Bool) (as : List (Nat × Nat)) : State :=
  let ls := linesOf as
  if ldHost d then
    s.count64 (if write then Key.MEM_WR_BYTES (ldPort d) else Key.MEM_RD_BYTES (ldPort d)) (128 * ls.length)
  else ls.foldl (fun s n => bankTouch write true 1 n s) s

/-- Addresses and lengths of elements `a` to `b - 1` of a tensor. -/
def elemSpans (d a b : Nat) : List (Nat × Nat) :=
  (List.range (b - a)).map (fun i => ((elemPlace d (elemIndex d (a + i))).1, max 1 (ldWidth d)))

/-- Elements `a` to `b - 1` of an unscaled tensor as bits. -/
def State.elems (s : State) (d a b : Nat) : List Nat := (List.range (b - a)).map (fun i => (s.elem d (elemIndex d (a + i))).1)

/-- Elements of an unscaled tensor written from element `a` on. -/
def State.elemsPut (s : State) (d a : Nat) (xs : List Nat) : State :=
  ((xs.zipIdx).foldl (fun s (x : Nat × Nat) => s.ldPut d (elemPlace d (elemIndex d (a + x.2))).1 (le (ldWidth d) x.1)) s).touch d true
    (elemSpans d a (a + xs.length))

/-! ### Layer gradients -/

/-- The router-gradient work of a layer in a step. -/
def State.layerGrad (s : State) (c st layer : Nat) : Option LayerGrad :=
  s.layerGrads.find? (fun (g : LayerGrad) => g.ctx == c && g.step == st && g.layer == layer)

/-- It replaced, or added. -/
def State.setLayerGrad (s : State) (g : LayerGrad) : State :=
  { s with layerGrads :=
      s.layerGrads.filter (fun (x : LayerGrad) => !(x.ctx == g.ctx && x.step == g.step && x.layer == g.layer)) ++ [g] }

/-- Address of element `i` of a layer's router-gradient accumulator: FP32, expert-major (R155). -/
def accAddr (l : Bytes) (i : Nat) : Nat := bwAcc l + 4 * i

/-- Elements `a` to `b - 1` of the accumulator (R155, R156). -/
def State.accElems (s : State) (l : Bytes) (a b : Nat) : List F32 :=
  (unpack 0 (if bwHost l then s.hostBytes (accAddr l a) (4 * (b - a)) else s.stgBytes (accAddr l a) (4 * (b - a)))).map (BitVec.ofNat 32)

/-- The accounting of their read. -/
def State.accRead (s : State) (c : Nat) (l : Bytes) (a b : Nat) : State :=
  let n := 4 * (b - a)
  if bwHost l then s.hostRead (s.portFor c (accAddr l a) n) (accAddr l a) n else s.stgRead (accAddr l a) n

/-- Elements of the accumulator written from element `a` on. -/
def State.accPut (s : State) (c : Nat) (l : Bytes) (a : Nat) (xs : List F32) : State :=
  let bs := xs.flatMap (fun x => le 4 x.toNat)
  if bwHost l then s.hostWrite (s.portFor c (accAddr l a) bs.length) (accAddr l a) bs else s.stgWrite (accAddr l a) bs

end Sys2Proof.Machine
end

