-- ==== Sys2Proof/Machine/Cle.lean ====
section
/-! DEFINITION. The Collective Engine (chapter 12, R310 to R329): operations, piece slots, up values, results, signals and
aborts. What its chunks do on arrival stands in Exchange.lean. -/

namespace Sys2Proof.Machine

open Sys2Proof

/-! ### Operations -/

/-- The operation of a group with a sequence number in a step. -/
def State.coll (s : State) (c st group seq : Nat) : Option Coll :=
  s.cle.ops.find? (fun (o : Coll) => o.ctx == c && o.step == st && o.group == group && o.seq == seq)

/-- An operation replaced, or added. -/
def State.setColl (s : State) (o : Coll) : State :=
  let ops := s.cle.ops.filter (fun (x : Coll) => !(x.ctx == o.ctx && x.step == o.step && x.group == o.group && x.seq == o.seq)) ++ [o]
  { s with cle := { s.cle with ops := ops } }

/-- The oldest operation of a group and sequence number that satisfies `p`: steps may overlap (R419). -/
def State.collFor (s : State) (c group seq : Nat) (p : Coll → Bool) : Option Coll :=
  s.cle.ops.find? (fun (o : Coll) => o.ctx == c && o.group == group && o.seq == seq && o.issued && o.aborted == 0 && p o)

/-- Whether the own node has a parent in the tree of piece `j`, and its children there. -/
def State.collParent (s : State) (o : Coll) (j : Nat) : Option Nat := (s.neighbours (s.group o.group) j).1
def State.collLeft (s : State) (o : Coll) (j : Nat) : Option Nat := (s.neighbours (s.group o.group) j).2.1
def State.collRight (s : State) (o : Coll) (j : Nat) : Option Nat := (s.neighbours (s.group o.group) j).2.2

/-- Members that this one sends a chunk of piece `j` to (R317). -/
def State.collPeers (s : State) (o : Coll) (j : Nat) : List Nat :=
  (s.collParent o j).toList ++ (s.collLeft o j).toList ++ (s.collRight o j).toList

/-- Elements that a member contributes (R312). -/
def State.collLen (s : State) (o : Coll) : Nat := if o.kind = 0 then ldCount (s.latched o.ctx o.srcDesc) else o.cap

/-- Pieces of an operation. -/
def Coll.pieces (o : Coll) : Nat := clPieces o.fmt o.cap
/-- Elements of a piece (R313). -/
def Coll.perPiece (o : Coll) : Nat := 4096 / clWidth o.fmt
/-- First element of piece `j`, and the one past its last. -/
def Coll.first (o : Coll) (j : Nat) : Nat := j * o.perPiece
def Coll.last (o : Coll) (j : Nat) : Nat := min o.cap ((j + 1) * o.perPiece)

/-! ### Piece slots (R319) -/

/-- The piece slot of a live piece. -/
def State.pieceSlot (s : State) (c st group seq piece : Nat) (deliv : Bool) : Option PieceSlot :=
  s.cle.slots.find? (fun (x : PieceSlot) =>
    x.ctx == c && x.step == st && x.group == group && x.seq == seq && x.piece == piece && x.deliv == deliv)

/-- A piece slot replaced. -/
def State.setSlot (s : State) (p : PieceSlot) : State :=
  { s with cle := { s.cle with slots := s.cle.slots.map (fun (x : PieceSlot) => if x.chan == p.chan && x.slot == p.slot then p else x) } }

/-- The lowest free slot of a channel. -/
def State.freeSlot (s : State) (chan : Nat) : Option Nat :=
  (List.range 256).find? (fun i => !(s.cle.slots.any (fun (x : PieceSlot) => x.chan == chan && x.slot == i)))

/-- Staging Store offset of a piece slot. -/
def State.slotAddr (s : State) (p : PieceSlot) : Nat := s.get Key.CLE_REDUCE_BASE + 1048576 * p.chan + 4096 * p.slot

/-- The slot of a live piece, taken now where it has none; none where its channel is full. -/
def State.takeSlot (s : State) (c st group seq piece : Nat) (deliv : Bool) : Option (State × PieceSlot) :=
  match s.pieceSlot c st group seq piece deliv with
  | some p => some (s, p)
  | none =>
    let chan := gpChannel (s.group group)
    match s.freeSlot chan with
    | none => none
    | some i =>
      let p : PieceSlot :=
        { chan := chan, slot := i, ctx := c, step := st, group := group, seq := seq, piece := piece, parts := [], deliv := deliv }
      some ({ s with cle := { s.cle with slots := s.cle.slots ++ [p] } }, p)

/-- A part of a live piece: from the reduction buffer (R9), but a child's up value as it is latched. -/
def State.slotPart (s : State) (p : PieceSlot) (kind node : Nat) : Option Bytes :=
  (p.parts.find? (fun (x : Part) => x.kind == kind && x.node == node)).map (fun (x : Part) =>
    if x.kind = 0 then x.data else s.stgBytes (s.slotAddr p) x.len)

/-- A part put into a piece slot: its bytes stand in the channel of the reduction buffer. -/
def State.putPart (s : State) (p : PieceSlot) (kind node : Nat) (bs : Bytes) : State :=
  let x : Part := { kind := kind, node := node, len := bs.length, data := if kind = 0 then bs else [] }
  let parts := p.parts.filter (fun (y : Part) => !(y.kind == kind && y.node == node)) ++ [x]
  (s.setSlot { p with parts := parts }).stgWrite (s.slotAddr p) bs

/-- A piece slot freed. -/
def State.dropSlot (s : State) (p : PieceSlot) : State :=
  { s with cle := { s.cle with slots := s.cle.slots.filter (fun (x : PieceSlot) => !(x.chan == p.chan && x.slot == p.slot)) } }

/-- Element numbers of the rows a layer delivers (R316), as first and one past last. -/
def delivSpan (l : Bytes) : Nat × Nat := (bwFirst l * lyD l, (bwFirst l + bwCount l) * lyD l)

/-- A piece of the gradient's Sum-All that holds elements kept for a delivery stream yet to be formed. -/
def State.keepsRows (s : State) (o : Coll) (j : Nat) : Bool :=
  let k := delivSpan (s.layer o.ctx o.layer)
  o.kind == 1 && decide (o.first j < k.2 ∧ k.1 < o.last j) &&
    (match s.layerGrad o.ctx o.step o.layer with | some g => !g.formed | none => true)

/-- A live piece whose sends are all released and whose result is written gives its slot back (R319). The slot of a piece
that holds rows to deliver stays until the delivery stream is formed. -/
def State.settleSlot (s : State) (c st group seq piece : Nat) : State :=
  match s.coll c st group seq, s.pieceSlot c st group seq piece false with
  | some o, some p =>
    if o.written.contains piece && (s.collPeers o piece).all (fun v => o.released.contains (piece, v)) && !(s.keepsRows o piece)
    then s.dropSlot p else s
  | _, _ => s

/-! ### Signals (R324) -/

/-- A signal of an operation posted to its credit queue. -/
def State.collSignal (s : State) (o : Coll) (kind piece status past pad : Nat) : State :=
  if o.signal then
    s.postWord o.queue kind 17 o.ctx 0
      (le 8 (o.step % 2 ^ 48) ++ le 2 o.group ++ le 2 o.seq ++ le 2 piece ++ le 1 status ++ le 1 0 ++ le 4 past ++ le 4 pad)
  else s

/-- The signal of its end. -/
def State.collEnd (s : State) (o : Coll) (status : Nat) : State :=
  s.collSignal o 0x13 o.written.length status (min max32 o.dropped) (min max32 o.padded)

/-! ### Aborts (R325 to R328) -/

/-- An operation aborted here with a class (R325 to R328): `det` is the detail logged. A class 0x31 stops the context at
the end of the step. A class 0x32 replays the step, or stops the context where the operation has timed out before in this
step. DEDUCED (log entry 56): the event of a second timeout stands in place of the first one's. -/
def State.collAbort (s : State) (o : Coll) (cls det : Nat) (node : Option Nat) : State :=
  if o.done || o.aborted != 0 then s else
  let o := { o with aborted := cls }
  let s := s.setColl o
  let left := s.cle.slots.filter (fun (p : PieceSlot) =>
    !(p.ctx == o.ctx && p.step == o.step && p.group == o.group && p.seq == o.seq && !p.deliv))
  let s := { s with cle := { s.cle with slots := left } }
  let s := s.count (Key.CLE_ABORTS o.ctx) 1
  let x := s.ctx o.ctx
  let again := x.timedOut.contains (o.step, o.group, o.seq)
  let ev : Ev :=
    { cls := if cls = 0x31 then Ec.signature else Ec.timeoutColl, det := if cls = 0x32 && again then 3 else det, dom := 17,
      ctx := some o.ctx, step := some o.step, layer := some o.layer, node := node, arg := o.group <<< 20 ||| o.seq }
  let s := if o.issued then s.collEnd o cls else s
  let s := s.log ev
  if cls = 0x31 then s.faultStop o.ctx o.step
  else if again then s.imposeStop o.ctx
  else (s.setCtx o.ctx { x with timedOut := x.timedOut ++ [(o.step, o.group, o.seq)] }).replayStep o.ctx

/-- The operation that a chunk's signature names, known here only from the plan while its command has not been issued. -/
def State.collNamed (s : State) (c st group seq layer : Nat) : Coll :=
  match s.coll c st group seq with
  | some o => o
  | none =>
    { ctx := c, step := st, group := group, seq := seq, srcDesc := 0, dstDesc := 0, fmt := 0, cap := 0, queue := 0, signal := false,
      kind := 0, layer := layer, stamp := 0, issued := false }

/-! ### Commands -/

/-- The class fields of a COLLECTIVE (Table 12.2). -/
def collFields (group seq src dst fmt cap queue : Nat) (signal : Bool) (kind layer : Nat) : Nat :=
  group <<< 220 ||| seq <<< 204 ||| src <<< 192 ||| dst <<< 180 ||| fmt <<< 176 ||| cap <<< 148 ||| queue <<< 139 |||
    (if signal then 2 ^ 138 else 0) ||| kind <<< 136 ||| layer <<< 128

/-- COLLECTIVE (R310). -/
def collectiveOp (c group seq src dst fmt cap queue : Nat) (signal : Bool) (kind layer : Nat) (s : State) : State :=
  let w := collFields group seq src dst fmt cap queue signal kind layer
  if s.mayIssue c 0x07 w then
    let st := s.step c
    let old := s.collNamed c st group seq layer
    let s := s.issue c 0x07 w
    if old.issued && (s.coll c st group seq).isSome then s else
    let o : Coll :=
      { ctx := c, step := st, group := group, seq := seq, srcDesc := src, dstDesc := dst, fmt := fmt, cap := cap, queue := queue,
        signal := signal, kind := kind, layer := layer, stamp := s.stamp, aborted := old.aborted }
    let s := s.setColl o
    if o.aborted = 0 then s else s.collEnd o o.aborted
  else s

/-- An operation may begin: its command has been issued and the one before it in its group has ended here (R321). -/
def State.collTurn (s : State) (o : Coll) : Bool :=
  o.issued && !o.begun && o.aborted == 0 &&
    (o.seq == 0 || (match s.coll o.ctx o.step o.group (o.seq - 1) with | some p => p.issued && (p.done || p.aborted != 0) | none => false))

/-- COLLECTIVE_BEGIN (R312, R321). -/
def collectiveBeginOp (c group seq : Nat) (s : State) : State :=
  match s.collFor c group seq (fun o => !o.begun) with
  | none => s
  | some o =>
    if s.collTurn o then
      let n := s.collLen o
      let s := s.setColl { o with begun := true, padded := o.cap - n, dropped := n - o.cap }
      s.count (Key.CLE_OVERFLOW c) (n - o.cap)
    else s

/-- What a member contributes may be read: B6 has run for a gradient or visit vector (R158). -/
def State.collSource (s : State) (o : Coll) : Bool :=
  o.kind == 0 || (match s.layerGrad o.ctx o.step o.layer with | some g => g.reduced | none => false)

/-- The member's own padded elements of a piece, as bits of the format (R312). -/
def State.collOwn (s : State) (o : Coll) (j : Nat) : Arith (List Nat) :=
  let a := o.first j
  let b := o.last j
  let n := s.collLen o
  if o.kind = 0 then
    let xs := s.elems (s.latched o.ctx o.srcDesc) a (min b n)
    pure (xs ++ List.replicate ((b - a) - xs.length) 0)
  else if o.kind = 2 then
    pure ((List.range (b - a)).map (fun i =>
      match s.layerGrad o.ctx o.step o.layer with | some g => nth g.visits (a + i) 0 | none => 0))
  else
    let xs := s.accElems (s.layer o.ctx o.layer) a b
    if o.fmt = 0 then pure (xs.map (·.toNat)) else xs.mapM (narrow16 o.fmt)

/-- The accounting of that read. -/
def State.collOwnRead (s : State) (o : Coll) (j : Nat) : State :=
  let a := o.first j
  let b := o.last j
  if o.kind = 0 then
    let d := s.latched o.ctx o.srcDesc
    s.touch d false (elemSpans d a (min b (s.collLen o)))
  else if o.kind = 1 then s.accRead o.ctx (s.layer o.ctx o.layer) a b else s

/-- Two values of a piece added element by element (R44). -/
def addPieces (f : Nat) : List Nat → List Nat → Arith (List Nat)
  | a :: r, b :: t => do
    let x ← addIn f a b
    let y ← addPieces f r t
    pure (x :: y)
  | _, _ => pure []

/-- Elements of a piece as bits. -/
def pieceElems (f : Nat) (bs : Bytes) : List Nat := if f = 8 then unpack 0 bs else unpack f bs
/-- Bits of elements as bytes. -/
def elemBytes (f : Nat) (xs : List Nat) : Bytes := xs.flatMap (le (clWidth f))

/-- The up value of a piece (R315): left child, own, right child. -/
def upValue (f : Nat) (own : List Nat) (left right : Option (List Nat)) : Arith (List Nat) := do
  let x ← match left with | some l => addPieces f l own | none => pure own
  match right with | some r => addPieces f x r | none => pure x

/-- COLLECTIVE_UP_VALUE (R315): formed once its inputs have committed. -/
def collectiveUpValueOp (c group seq j : Nat) (s : State) : State :=
  match s.collFor c group seq (fun o => o.begun && !(o.upped.contains j)) with
  | none => s
  | some o =>
    if decide (j < o.pieces) && s.collSource o then
      let got (v : Nat) : Option Bytes := (s.pieceSlot c o.step group seq j false).bind (fun p => s.slotPart p 0 v)
      let l := (s.collLeft o j).map got
      let r := (s.collRight o j).map got
      if l == some none || r == some none then s else
      match s.takeSlot c o.step group seq j false with
      | none => s
      | some (s, p) =>
        let own := s.collOwn o j
        let up := runNf (own.bind (fun x => upValue o.fmt x ((l.bind id).map (pieceElems o.fmt)) ((r.bind id).map (pieceElems o.fmt))))
        let s := s.collOwnRead o j
        let s := s.putPart p 1 s.node (elemBytes o.fmt up.1)
        let s := s.setColl { o with upped := o.upped ++ [j] }
        (s.nonFinite 17 c o.layer o.step up.2).busy 17 none
    else s

/-- The result of a piece at this member, once it has it (R315): the root's up value, else what its parent sent. -/
def State.collResult (s : State) (o : Coll) (j : Nat) : Option Bytes :=
  match s.pieceSlot o.ctx o.step o.group o.seq j false with
  | none => none
  | some p =>
    match s.collParent o j with
    | none => s.slotPart p 1 s.node
    | some v => s.slotPart p 2 v

/-- The Staging Store run of a live piece. -/
def State.collRun (s : State) (o : Coll) (j : Nat) : List (Nat × Nat) :=
  ((s.pieceSlot o.ctx o.step o.group o.seq j false).map (fun p => (s.slotAddr p, clPieceLen o.fmt o.cap j))).toList

/-- The accounting of a read of it. -/
def State.collRead (s : State) (o : Coll) (j : Nat) : State := (s.collRun o j).foldl (fun s r => s.stgRead r.1 r.2) s

/-- A piece's result written where it goes (R316). -/
def State.collPut (s : State) (o : Coll) (j : Nat) (bs : Bytes) : State :=
  let a := o.first j
  let xs := pieceElems o.fmt bs
  if o.kind = 0 then s.elemsPut (s.latched o.ctx o.dstDesc) a xs
  else match s.layerGrad o.ctx o.step o.layer with
    | none => s
    | some g =>
      if o.kind = 2 then s.setLayerGrad { g with visits := g.visits.take a ++ xs ++ g.visits.drop (a + xs.length) }
      else
        let k := delivSpan (s.layer o.ctx o.layer)
        let keep := ((xs.zipIdx).map (fun (x : Nat × Nat) => (a + x.2, x.1))).filter (fun (x : Nat × Nat) => decide (k.1 ≤ x.1 ∧ x.1 < k.2))
        s.setLayerGrad { g with rows := keep.foldl (fun m (x : Nat × Nat) => Sparse.put m x.1 x.2) g.rows }

/-- COLLECTIVE_RESULT_WRITE (R316, R324). A result write waits while 256 signals wait for credits. -/
def collectiveResultWriteOp (c group seq j : Nat) (s : State) : State :=
  match s.collFor c group seq (fun o => o.begun && !o.done && !(o.written.contains j)) with
  | none => s
  | some o =>
    if o.signal && 256 ≤ (s.queue o.queue).offers.length then s
    else
      match s.collResult o j with
      | none => s
      | some bs =>
        let s := (s.collRead o j).collPut o j bs
        let o := { o with written := o.written ++ [j] }
        let o := { o with done := decide (o.written.length = o.pieces) }
        let s := (s.setColl o).collSignal o 0x12 j 0 0 0
        let s := if o.done then (s.count (Key.CLE_OPS_DONE c) 1).collEnd o 0 else s
        (s.settleSlot c o.step group seq j).busy 17 none

/-- COLLECTIVE_TIMEOUT (R326). -/
def collectiveTimeoutOp (c group seq : Nat) (s : State) : State :=
  match s.collFor c group seq (fun o => !o.done && s.expired o.stamp (s.collTimeout c)) with
  | none => s
  | some o => s.collAbort o 0x32 1 none

/-! ### Chunks of an operation -/

/-- What a collective chunk toward a member carries: the up value toward the parent, the result toward a child (R317). -/
def State.collData (s : State) (o : Coll) (j dst : Nat) : Option Bytes :=
  if s.collParent o j = some dst then
    (s.pieceSlot o.ctx o.step o.group o.seq j false).bind (fun p => s.slotPart p 1 s.node)
  else s.collResult o j

/-- A collective chunk released (R319). -/
def State.collReleased (s : State) (c st group seq j dst : Nat) : State :=
  match s.coll c st group seq with
  | none => s
  | some o => (s.setColl { o with released := o.released ++ [(j, dst)] }).settleSlot c st group seq j

/-- COLLECTIVE. -/
def execCollective (ctx group seq src dst fmt cap queue : Nat) (signal : Bool) (kind layer : Nat) (s : State) :
    Host.Outcome State Fault Refusal := .next (act (collectiveOp ctx group seq src dst fmt cap queue signal kind layer) s)
/-- COLLECTIVE_BEGIN. -/
def execCollectiveBegin (ctx group seq : Nat) (s : State) : Host.Outcome State Fault Refusal :=
  .next (act (collectiveBeginOp ctx group seq) s)
/-- COLLECTIVE_UP_VALUE. -/
def execCollectiveUpValue (ctx group seq piece : Nat) (s : State) : Host.Outcome State Fault Refusal :=
  .next (actFresh (collectiveUpValueOp ctx group seq piece) s)
/-- COLLECTIVE_RESULT_WRITE. -/
def execCollectiveResultWrite (ctx group seq piece : Nat) (s : State) : Host.Outcome State Fault Refusal :=
  .next (act (collectiveResultWriteOp ctx group seq piece) s)
/-- COLLECTIVE_TIMEOUT. -/
def execCollectiveTimeout (ctx group seq : Nat) (s : State) : Host.Outcome State Fault Refusal :=
  .next (act (collectiveTimeoutOp ctx group seq) s)

end Sys2Proof.Machine
end

