-- ==== Sys2Proof/Machine/Message.lean ====
section
/-! DEFINITION. Fabric messages (R337 to R339, Table 13.3), the buffers of the link ports (R341), and what a link loss and
a warm reset do to them. -/

namespace Sys2Proof.Machine

open Sys2Proof

/-- A reply. -/
def Msg.isReply (m : Msg) : Bool := m.kind == 8
/-- A store or atomic: a request with a sequence number (R342). -/
def Msg.sequenced (m : Msg) : Bool := m.kind == 2 || m.kind == 3
/-- Bytes of its range: an atomic counts as 8 (R335). -/
def Msg.span (m : Msg) : Nat := if m.kind = 3 then 8 else m.len

/-- Flits of a message (R338). -/
def Msg.flits (m : Msg) : Nat := ceilDiv (64 + m.data.length) 128

/-- The header with CRC, credits and HOPS as zero (R339). -/
def Msg.bits0 (m : Msg) : Nat :=
  m.op1 <<< 416 ||| m.op0 <<< 352 ||| m.offset <<< 288 ||| m.src <<< 274 ||| m.dst <<< 260 |||
    m.seq <<< 244 ||| m.base <<< 228 ||| m.tag <<< 218 ||| m.len <<< 205 ||| m.counter <<< 199 ||| (if m.count then 1 <<< 198 else 0) |||
    (if m.flag then 1 <<< 197 else 0) ||| (if m.sync then 1 <<< 196 else 0) ||| m.ctx <<< 193 ||| m.aop <<< 189 |||
    m.status <<< 185 ||| m.kind <<< 169

/-- A message's bytes on the link, with the credits it returns (R337 to R339): whole flits. -/
def Msg.wire (m : Msg) (creq crsp : Nat) : Bytes :=
  let h := m.bits0
  let crc := crc32c (le 64 h ++ m.data)
  let body := le 64 (h ||| crc <<< 480 ||| creq <<< 179 ||| crsp <<< 173 ||| m.hops <<< 164) ++ m.data
  body ++ zeros (128 * m.flits - body.length)

/-- KIND of a header (Table 13.3). -/
def mhKind (h : Nat) : Nat := bits h 169 4
/-- Its CREDIT_REQ and CREDIT_RSP. -/
def mhCreditReq (h : Nat) : Nat := bits h 179 6
def mhCreditRsp (h : Nat) : Nat := bits h 173 6

/-- The message of a header and the bytes after it (Table 13.3): a store or a load reply carries LENGTH data bytes. -/
def msgOf (h : Nat) (payload : Bytes) : Msg :=
  { op1 := bits h 416 64, op0 := bits h 352 64, offset := bits h 288 64, src := bits h 274 14, dst := bits h 260 14,
    seq := bits h 244 16, base := bits h 228 16, tag := bits h 218 10, len := bits h 205 13, counter := bits h 199 6,
    count := bit h 198, flag := bit h 197, sync := bit h 196, ctx := bits h 193 3, aop := bits h 189 4, status := bits h 185 4,
    kind := mhKind h, hops := bits h 164 5,
    data := if mhKind h = 2 || mhKind h = 8 then sub payload 0 (bits h 205 13) else [] }

/-- The CRC of an arriving message agrees (R339): over its 64 header bytes with CRC, credits and HOPS as zero, and its data. -/
def msgCrcOk (h : Nat) (payload : Bytes) : Bool :=
  let h0 := (bits h 185 295) <<< 185 ||| mhKind h <<< 169 ||| bits h 0 164
  crc32c (le 64 h0 ++ (msgOf h payload).data) == bits h 480 32

/-- The Fabric Endpoint's part of a link port. -/
def Fep.port (f : Fep) (p : Nat) : FepPort := nth f.ports p {}

/-- Messages of a port no longer hold a place in any link buffer (R341). -/
def forgetFrom (p : Nat) (l : List (Option Nat × Msg)) : List (Option Nat × Msg) :=
  l.map (fun (x : Option Nat × Msg) => if x.1 == some p then (none, x.2) else x)

/-- A link port lost (R341): credits owed across the loss are forgotten, 32 of each channel are held when it leaves the lost
state, the message whose flits were under way is gone, and none waits on it. -/
def Fep.portLost (f : Fep) (p : Nat) : Fep :=
  let ports := setAt f.ports p {}
  { f with
    stalled := forgetFrom p f.stalled
    ports := ports.map (fun (x : FepPort) =>
      { x with
        reqFwd := forgetFrom p x.reqFwd
        rspFwd := forgetFrom p x.rspFwd
        tx := x.tx.map (fun (t : FepTx) => if t.from_ == some p then { t with from_ := none } else t) }) }

/-- Flits of the messages of a list that hold the buffer of port `p`. -/
def heldFlits (p : Nat) (l : List (Option Nat × Msg)) : Nat :=
  (l.map (fun (x : Option Nat × Msg) => if x.1 == some p then x.2.flits else 0)).foldl (· + ·) 0

/-- The Fabric Endpoint emptied by a warm reset (Table 16.1): messages dropped, the buffer space they held owed to the far
ends; streams and sources restart (R342). -/
def Fep.emptied (f : Fep) : Fep :=
  let fwdReq := f.stalled ++ f.ports.flatMap (fun (x : FepPort) => x.reqFwd ++
    (match x.tx with | some t => if t.msg.isReply then [] else [(t.from_, t.msg)] | none => []))
  let fwdRsp := f.ports.flatMap (fun (x : FepPort) => x.rspFwd ++
    (match x.tx with | some t => if t.msg.isReply then [(t.from_, t.msg)] else [] | none => []))
  { ports := (List.range f.ports.length).map (fun p =>
      let x := f.port p
      { credReq := x.credReq, credRsp := x.credRsp, oweReq := x.oweReq + heldFlits p fwdReq,
        oweRsp := x.oweRsp + heldFlits p fwdRsp }) }

end Sys2Proof.Machine
end

