-- ==== Sys2Proof/Machine/Obs.lean ====
section
/-! DEFINITION. Observation (chapter 18, R430 to R437): snapshots, the trace's control, the frame view and the tap. -/

namespace Sys2Proof.Machine

open Sys2Proof

/-- A frame-view entry (R378), by key. -/
def frameView (k : Nat) : Bool :=
  let i := k / 256
  let b := k % 256
  (decide (0x6000 ≤ i ∧ i ≤ 0x67FF) && (match entryAt i b with | some e => e.acc == 1 | none => false)) ||
  (i == 0x4002 && decide (1 ≤ b ∧ b ≤ 3)) || i == 0x4108 ||
  (decide (0x5000 ≤ i ∧ i ≤ 0x5004) && (b == 5 || b == 6)) || decide (0x5010 ≤ i ∧ i ≤ 0x5014)

/-- The frame view taken (R378): the live values of every frame-view entry, in one TIME edge. -/
def State.copyView (s : State) : State :=
  { s with
    view := s.regs.filter (fun e => frameView e.1)
    viewDom := s.dom.filter (fun e => e.1 / domSpan == Dom.SNAP_SET0 || e.1 / domSpan == Dom.SNAP_SET1) }

/-- A tap flush (R437): each non-zero accumulator in ascending FIELD and CONTEXT, one EDGES word, then the closing word.
An engine without the partition ties the tap off (R438). `edges` is the frame's count so far. -/
def State.flushTap (s : State) (edges : Nat) (last : Nat) : State :=
  if s.build.partition then
    let words := (s.meter.acc.filter (fun e => e.2 != 0)).map (fun e =>
      BitVec.ofNat 64 ((e.1 / 8) <<< 60 ||| (e.1 % 8) <<< 57 ||| e.2 % 2 ^ 57))
    let ed : U64 := BitVec.ofNat 64 (0xA <<< 60 ||| (edges - s.meter.edgesSent + s.meter.edgesOwed))
    { s with meter := { s.meter with
      acc := [], tap := s.meter.tap ++ words ++ [ed, BitVec.ofNat 64 last], edgesSent := edges, edgesOwed := 0 } }
  else s

/-- The LATCH tap word (Table 18.6). -/
def latchWord (id seq : Nat) : Nat := 0x8 <<< 60 ||| id <<< 32 ||| seq % 2 ^ 32

/-- The set a new image goes to (R433). -/
def State.snapTarget (s : State) : Nat := if s.get Key.SNAP_LATEST = 0 then 1 else 0

/-- An origin joins the latch of this TIME edge (R431): ORIGIN and CTX_MASK gain its bits, and SNAPSHOT_ID is that of the
lowest-numbered context; the tap word and the trace record of the latch follow. -/
def State.joinLatch (s : State) (l : Latch) (origin : Nat) (cmd : Option (Nat × Nat)) : State :=
  let low := match cmd with | some (c, _) => l.mask % 2 ^ c == 0 | none => false
  let mask := match cmd with | some (c, _) => 1 <<< c | none => 0
  let l' := { l with origin := l.origin ||| origin, mask := l.mask ||| mask, id := if low then (cmd.map (·.2)).getD 0xFFFF else l.id }
  let w := BitVec.ofNat 64 (latchWord l.id l.seq)
  let w' := BitVec.ofNat 64 (latchWord l'.id l'.seq)
  let record (e : LogEnt) : LogEnt :=
    if e.kind = 8 && e.arg0 == l.id <<< 32 ||| l.seq then { e with arg0 := l'.id <<< 32 ||| l'.seq, arg1 := l'.origin } else e
  { s with
    obs := { s.obs with
      latch := some l'
      traceBuf := { s.obs.traceBuf with ents := s.obs.traceBuf.ents.map record } }
    meter := { s.meter with tap := s.meter.tap.map (fun x => if x = w then w' else x) } }

/-- The trace at an accepted latch edge (R436): an armed start begins with the LATCH record, an armed stop ends with it. -/
def State.traceLatch (s : State) (id n origin : Nat) : State :=
  let st := s.get Key.TRC_STATE
  let s := if st = 1 then ({ s with obs := { s.obs with tracing := true } }).put Key.TRC_STATE 2 else s
  let s := s.trace 0x08 none 0 none (id <<< 32 ||| n) origin
  let first (e : LogEnt) : LogEnt := if e.kind = 8 && e.arg0 == id <<< 32 ||| n then { e with first := true } else e
  if st = 1 then
    { s with obs := { s.obs with traceBuf := { s.obs.traceBuf with ents := s.obs.traceBuf.ents.map first } } }
  else if st = 3 then ({ s with obs := { s.obs with tracing := false } }).put Key.TRC_STATE 0
  else s

/-- A latch accepted (R431, R434, R437). -/
def State.takeLatch (s : State) (origin : Nat) (cmd : Option (Nat × Nat)) : State :=
  let id := (cmd.map (·.2)).getD 0xFFFF
  let mask := match cmd with | some (c, _) => 1 <<< c | none => 0
  let s := s.busyAll
  let n := (s.obs.accepted + 1) % 2 ^ 32
  let l : Latch :=
    { tick := s.tick, frame := s.frame, slips := s.get Key.TB_SLIPS, id := id, origin := origin, mask := mask, seq := n,
      regs := s.regs.filter (fun e => decide (0x600200 ≤ e.1 ∧ e.1 ≤ 0x603BFF) || e.1 / 256 == 0x4108) }
  let s := { s with obs := { s.obs with latch := some l, lastTick := some s.time.ticks, accepted := n, pending := true } }
  ((s.flushTap s.edgesSoFar (latchWord id n)).emit .snap).traceLatch id n origin

/-- A latch edge (R431, R433, R434). `origin` is the bit of ORIGIN; `cmd` the context and SNAPSHOT_ID of a command.
Origins of one TIME edge make one latch; one within 1,024 edges of the last, or for the locked set, is dropped. -/
def State.latchEdge (s : State) (origin : Nat) (cmd : Option (Nat × Nat)) : State :=
  match s.obs.latch, s.obs.lastTick == some s.time.ticks with
  | some l, true => s.joinLatch l origin cmd
  | _, _ =>
    if s.obs.dropTick = some s.time.ticks then s
    else if (match s.obs.lastTick with | some t => decide (s.time.ticks < t + 1024) | none => false) ||
        s.get Key.SNAP_LOCK = s.snapTarget then
      ({ s with obs := { s.obs with dropTick := some s.time.ticks } }).count Key.SNAP_MISSED 1
    else s.takeLatch origin cmd

/-- The latch edges of the trigger input and of the dictionary that fall on the TIME edge now (R431); the input's only while
SNAP_TRIG_ENABLE is TRUE. -/
def State.dueLatches (s : State) : State :=
  let due := s.obs.latchDue.filter (fun d => decide (d.2 ≤ 1) && (d.1 != 2 || s.get Key.SNAP_TRIG_ENABLE == 1))
  let s := { s with obs := { s.obs with
    latchDue := (s.obs.latchDue.filter (fun d => decide (1 < d.2))).map (fun d => (d.1, d.2 - 1)) } }
  due.foldl (fun s d => s.latchEdge d.1 none) s

/-- A latch edge to come after `n` TIME edges. -/
def State.latchIn (s : State) (origin n : Nat) : State :=
  { s with obs := { s.obs with latchDue := s.obs.latchDue ++ [(origin, n)] } }

/-- The counters of a snapshot image, in the order of R432. -/
def snapKeys : List Nat :=
  sortBy (fun a b => decide (a < b))
    ((entries.filter (fun e => e.acc == 1 && !e.isDomain &&
        (decide (0x6002 ≤ e.idx0 ∧ e.idx1 ≤ 0x602B) || decide (0x6030 ≤ e.idx0 ∧ e.idx1 ≤ 0x603B)))).flatMap
      (fun e => (List.range (e.idx1 - e.idx0 + 1)).flatMap (fun i =>
        (List.range (e.sub1 - e.sub0 + 1)).map (fun j => entryKey (e.idx0 + i) (e.sub0 + j)))))

/-- A snapshot image (Table 18.2). -/
def snapImage (l : Latch) : Bytes :=
  let val (k : Nat) : Nat := (Sparse.read regDefault l.regs k).toNat
  let head := le 4 l.seq ++ le 2 l.id ++ le 1 l.origin ++ le 1 l.mask ++ le 8 l.frame ++ le 8 l.tick ++ le 4 l.slips
  let tail := (List.range 8).flatMap (fun c => le 8 (val (Key.TT_STEP c))) ++ zeros 32 ++ snapKeys.flatMap (fun k => le 8 (val k))
  head ++ le 4 (crc32c (head ++ tail)) ++ tail

/-- SNAPSHOT_IMAGE_DONE (R432, R433). -/
def snapshotImageDoneOp (s : State) : State :=
  match s.obs.pending, s.obs.latch with
  | true, some l =>
    let t := s.snapTarget
    let s := s.domPut (if t = 0 then Dom.SNAP_SET0 else Dom.SNAP_SET1) 0 (snapImage l)
    let s := (s.put Key.SNAP_SEQ l.seq).put Key.SNAP_LATEST t
    { s with obs := { s.obs with pending := false } }
  | _, _ => s

/-- SNAPSHOT (R431): a running context's command latches at its tick. -/
def snapshotOp (c id : Nat) (s : State) : State :=
  if s.mayIssue c 0x09 (id <<< 216) then (s.issue c 0x09 (id <<< 216)).latchEdge 1 (some (c, id)) else s
/-- SNAP_IN_EDGE (R431): first sampled at the next TIME edge, it latches at the second edge after that one (DEDUCED, log entry
63). -/
def snapInEdgeOp (s : State) : State := s.latchIn 2 3
/-- SNAP_CONTROL (R431, R376): the write reaches the unit before the third TIME edge (DEDUCED, log entry 63). -/
def snapControlOp (v : Nat) (s : State) : State := if v = 1 then s.latchIn 4 3 else s

/-- TRC_CONTROL (R436): 0x01 starts with a ring, 0x02 stops, 0x03 arms a start, 0x04 arms a stop; an arm changes nothing else
before its latch edge (DEDUCED, log entry 41). -/
def trcControlOp (v : Nat) (s : State) : State :=
  if v = 1 then
    (if s.get Key.TRC_LEN = 0 then s else ({ s with obs := { s.obs with tracing := true } }).put Key.TRC_STATE 2)
  else if v = 2 then ({ s with obs := { s.obs with tracing := false } }).put Key.TRC_STATE 0
  else if v = 3 then s.put Key.TRC_STATE 1
  else if v = 4 then s.put Key.TRC_STATE 3
  else s

/-- RPL_CONTROL (R232). -/
def rplControlOp (v : Nat) (s : State) : State :=
  if v = 1 then (if s.get Key.RPL_LEN = 0 then s else s.put Key.RPL_STATE 1)
  else if v = 2 then s.put Key.RPL_STATE 0 else s

/-- OBS_COUNT_CLEAR TRUE (R430): every counter of Table 18.1 but OBS_FRAMES. -/
def obsCountClearOp (s : State) : State :=
  let inTable (k : Nat) : Bool := decide (0x603000 ≤ k ∧ k ≤ 0x603AFF)
  { s with regs := s.regs.filter (fun e => !(inTable e.1)), view := s.view.filter (fun e => !(inTable e.1)) }

/-- FLT_LOG_CLEAR TRUE (R429). -/
def fltLogClearOp (s : State) : State :=
  let gone (k : Nat) : Bool := k == Dom.FLT_LOG || k == Dom.FLT_FIRST || k == Dom.FLT_CLASS_COUNT
  let s := (s.put Key.FLT_LOG_HEAD 0).put Key.FLT_LOG_LOST 0
  { s with dom := s.dom.filter (fun e => !(gone (e.1 / domSpan))) }

/-- NUM_NONFINITE_CLEAR TRUE (R47). -/
def numNonfiniteClearOp (s : State) : State := s.zero [Key.NUM_NONFINITE_COUNT, Key.NUM_NONFINITE_FIRST]

/-- SNAPSHOT. -/
def execSnapshot (ctx id : Nat) (s : State) : Host.Outcome State Fault Refusal := .next (act (snapshotOp ctx id) s)
/-- SNAP_IN_EDGE. -/
def execSnapInEdge (s : State) : Host.Outcome State Fault Refusal := .next (act snapInEdgeOp s)
/-- SNAPSHOT_IMAGE_DONE. -/
def execSnapshotImageDone (s : State) : Host.Outcome State Fault Refusal := .next (act snapshotImageDoneOp s)

end Sys2Proof.Machine
end

