-- ==== Sys2Proof/Machine/Timebase.lean ====
section
/-! DEFINITION. The fabric timebase (chapter 7, R169 to R207, and R396, R407, R408): TIME edges, timing words, notices
received, link readiness and loss, slip frames, plan switches, the throttle. -/

namespace Sys2Proof.Machine

open Sys2Proof

/-- The fine units of one TIME edge (R193): TB gains 16, or 15 or 17 on an edge that slews, at most one in any 16. -/
def State.edgeTime (s : State) : Time :=
  let t := s.time
  let slewing := t.slew != 0 && decide (15 ≤ t.sinceSlew)
  let d : Nat := if slewing then (if t.slew > 0 then 15 else 17) else 16
  { t with
    tb := t.tb + BitVec.ofNat 64 d
    ticks := t.ticks + 1
    edges := t.edges + 1
    slew := if slewing then (if t.slew > 0 then t.slew - 1 else t.slew + 1) else t.slew
    sinceSlew := if slewing then 0 else t.sinceSlew + 1
    sampled := min 2 (t.sampled + 1) }

/-- The level of the throttle input accepted once two consecutive TIME edges have seen it, outside resets (R396). -/
def State.takeLevel (s : State) : State :=
  if s.phase == .running && decide (2 ≤ s.time.sampled) && s.get Key.CLK_LEVEL_IN != s.time.throttle then
    (s.put Key.CLK_LEVEL_IN s.time.throttle).setRate
  else s

/-- One TIME edge: TB counts (R193), the log writers write what has happened since the last edge (R230, R435), the throttle input
is sampled (R396), and the latch edges that fall on it act (R431). -/
def State.timeEdge (s : State) : State :=
  if s.clocked then (({ s with time := s.edgeTime }).flushRpl.flushTrace.takeLevel).dueLatches else s

/-- TIME edges until TB has reached a tick; `fuel` bounds their number. -/
def State.edgesTo (t : Nat) : Nat → State → State
  | 0, s => s
  | fuel + 1, s => if s.tick < t then State.edgesTo t fuel s.timeEdge else s

/-- TB brought forward to a tick it has not reached, edge by edge: an edge adds 15 fine units at least. -/
def State.reachTick (s : State) (t : Nat) : State := State.edgesTo t (2 * (t - s.tick)) s

/-- TB and SLIPS set in one step (R193, R408): the frame in force is that of the new TB, and the frame boundaries and the CORE
windows are its (R398). -/
def State.stepTime (s : State) (tb slips : Nat) : State :=
  let t : U64 := BitVec.ofNat 64 tb
  let f := t.toNat / 36864
  let n := t.toNat / 16 % 2304
  let r := rateAt s.rates s.time.edges
  let rates : List RateSeg := [{ r with start := 0 }]
  let s := { s with
    time := { s.time with tb := t, frame := f, edges := n, slot := none, slipping := false, slipDue := false, slew := 0, sinceSlew := 16 }
    rates := rates
    issuedCmds := []
    meter := { s.meter with
      edgesOwed := s.meter.edgesOwed + (s.edgesSoFar - s.meter.edgesSent)
      edgesSent := (frameWindows rates (n + 1) 0 n).1 }
    ports := s.ports.map (fun (p : LinkPort) => { p with last := none, sent := [], offsets := [] }) }
  (s.put Key.TB_SLIPS slips).put Key.TB_PLAN_FRAME (f - slips)

/-- TB_CONTROL 0x01 (R408). -/
def tbStartOp (s : State) : State :=
  if s.get Key.TB_STATE = 0 then
    let p := s.get Key.TB_PARENT
    if p = 0x3E then (s.stepTime (s.get Key.TB_INIT) 0).setTb 2
    else if p = 0x3F then
      let s := (s.stepTime (s.get Key.TB_INIT) 0).setTb 1
      { s with time := { s.time with tickRun := 0 } }
    else
      let s := s.setTb 1
      { s with time := { s.time with acquired := false, lockRun := 0 } }
  else s

/-! ### Link ports -/

/-- A link port's timebase side. -/
def State.port (s : State) (p : Nat) : LinkPort := nth s.ports p {}
/-- It replaced. -/
def State.setPort (s : State) (p : Nat) (x : LinkPort) : State := { s with ports := setAt s.ports p x }
/-- A port's bit of LINK_LOST. -/
def State.lost (s : State) (p : Nat) : Bool := bit (s.get Key.LINK_LOST) p

/-! ### Messages onto the link ports (R338, R340, R341) -/

/-- The Fabric Endpoint's part of a port replaced. -/
def State.setFepPort (s : State) (p : Nat) (x : FepPort) : State := { s with fep := { s.fep with ports := setAt s.fep.ports p x } }

/-- The port a message for another node leaves on (R340): PRIMARY, or ALT while PRIMARY is lost or 63; none where that is
lost, 63 or not connected. -/
def State.fepRoute (s : State) (dst : Nat) : Option Nat :=
  let e := unle (s.domBytes Dom.FEP_ROUTE (2 * dst) 2)
  let dead (p : Nat) : Bool := p == 63 || s.lost p
  let p := if dead (bits e 0 6) then bits e 6 6 else bits e 0 6
  if p < 48 && !(s.lost p) && (s.port p).up then some p else none

/-- Flits of an arrived message leave the buffer of the port they came on: their credits are owed (R341). -/
def State.fepOwe (s : State) (from_ : Option Nat) (reply : Bool) (n : Nat) : State :=
  match from_ with
  | none => s
  | some p =>
    let x := s.fep.port p
    s.setFepPort p (if reply then { x with oweRsp := x.oweRsp + n } else { x with oweReq := x.oweReq + n })

/-- The last flit of a request's sending has left: its timer starts at the first (R346). -/
def State.fepLeft (s : State) (tag : Nat) : State :=
  { s with fep := { s.fep with reqs := s.fep.reqs.map (fun (r : Req) =>
      if r.msg.tag == tag && r.first.isNone then { r with first := some s.time.ticks } else r) } }

/-- An own message for another node put on its port; one that no port takes is discarded (R340), its timer running as
though it had left. -/
def State.fepPut (s : State) (m : Msg) : State :=
  match s.fepRoute m.dst with
  | some p =>
    let x := s.fep.port p
    s.setFepPort p (if m.isReply then { x with rspOwn := x.rspOwn ++ [m] } else { x with reqOwn := x.reqOwn ++ [m] })
  | none =>
    let s := s.count (Key.FEP_UNROUTED m.ctx) 1
    if m.isReply then s else s.fepLeft m.tag

/-- A message of another node put on the port of its route, or discarded (R340); `from_` is the port whose buffer it holds. -/
def State.fepPass (s : State) (from_ : Option Nat) (m : Msg) : State :=
  match s.fepRoute m.dst with
  | some q =>
    let x := s.fep.port q
    s.setFepPort q (if m.isReply then { x with rspFwd := x.rspFwd ++ [(from_, m)] } else { x with reqFwd := x.reqFwd ++ [(from_, m)] })
  | none => (s.count (Key.FEP_UNROUTED m.ctx) 1).fepOwe from_ m.isReply m.flits

/-- The link the timebase follows (R195): its parent, or its backup while the parent is lost. -/
def State.followed (s : State) : Option Nat :=
  let p := s.get Key.TB_PARENT
  let b := s.get Key.TB_BACKUP
  if p > 47 then none
  else if !(s.lost p) then some p
  else if b ≤ 47 && (s.port b).ready then some b
  else none

/-- Integer mean of a list. -/
def meanNat (l : List Nat) : Nat := if l.isEmpty then 0 else (l.foldl (· + ·) 0) / l.length
/-- Integer mean of a list of signed numbers, towards zero. -/
def meanInt (l : List Int) : Int := if l.isEmpty then 0 else (l.foldl (· + ·) 0).tdiv (l.length : Int)

/-- The contexts that an own lost port stops (R207): each in ARMED, RUNNING or STOPPING whose image sends or receives on it and
has no plan for its FLID. -/
def State.noPlanCtxs (s : State) (p flid : Nat) : List Nat :=
  (List.range 8).filter (fun c => (s.runs c || s.tt c == 3) &&
    (match (s.ctx c).image with
     | some i => i.used.contains p && !(i.plans.any (fun d => d.flid == flid))
     | none => false))

/-- Their event. -/
def noPlanEv (p flid c : Nat) : Ev := { cls := Ec.linkDown, det := 0x03, dom := 23, ctx := some c, arg := flid <<< 16 ||| p }

/-- The engine has lost its parent link (R195): the backup is followed, a locked engine enters holdover, an acquiring one
runs on its own clock. -/
def State.parentLost (s : State) : State :=
  if s.followed.isSome then s else
  let st := s.get Key.TB_STATE
  let s := if st = 1 || st = 2 then { s with time := { s.time with slew := 0, lockRun := 0 } } else s
  if st = 2 then s.setTb 3
  else if st = 1 then { s with time := { s.time with acquired := false } }
  else s

/-- A link port no longer ready, its Fabric Endpoint queues empty (R204, R341). -/
def State.portDown (s : State) (p : Nat) : State :=
  { s.setPort p { s.port p with ready := false, good := 0 } with fep := s.fep.portLost p }

/-- A link port no longer ready, with the Fabric Endpoint's part of it (R204, R341): what is left of the message under way leaves the buffer
of the port it came on, the timer of an own request runs from now (R346), and the messages that wait go by the other route (R340). -/
def State.portGone (s : State) (p : Nat) : State :=
  let x := s.fep.port p
  let s := s.portDown p
  let s := match x.tx with
    | some t => if t.own then (if t.msg.isReply then s else s.fepLeft t.msg.tag)
      else if t.from_ = some p then s else s.fepOwe t.from_ t.msg.isReply t.left
    | none => s
  let s := (x.rspFwd ++ x.reqFwd).foldl (fun s (y : Option Nat × Msg) => s.fepPass (if y.1 = some p then none else y.1) y.2) s
  (x.rspOwn ++ x.reqOwn).foldl State.fepPut s

/-- A link port lost (R204, R207): its event and those of the contexts it stops are of one cycle (R426). -/
def State.linkLost (s : State) (p : Nat) : State :=
  if s.lost p then s else
  let was := s.followed
  let s := s.put Key.LINK_LOST (setBit (s.get Key.LINK_LOST) p)
  let s := s.portGone p
  let f := s.flid p
  let stops := match f with | some f => s.noPlanCtxs p f | none => []
  let s := s.logEvs ({ cls := Ec.linkDown, det := 0x01, dom := 23, arg := (f.getD 0) <<< 16 ||| p } :: stops.map (noPlanEv p (f.getD 0)))
  let s := stops.foldl (fun s c => s.faultStop c (s.step c)) s
  let s := match f with
    | some f => s.raiseNotice { kind := 2, target := s.noticeTarget, arg := f }
    | none => s
  if was = some p then s.parentLost else s

/-- R204 applies to a link port: it is ready, or the first 16 slots after internal initialisation are over (R407). -/
def State.watches (s : State) (p : Nat) : Bool :=
  s.clocked && s.phase != .initialising && ((s.port p).ready || decide (s.time.initAt + 144 ≤ s.time.ticks))

/-- LK_UP_FALL (R452): link down. -/
def lkUpFallOp (p : Nat) (s : State) : State :=
  if p < 48 then
    let s := if s.watches p then s.linkLost p else s
    s.setPort p { s.port p with up := false, ready := false, good := 0, last := none, sent := [] }
  else s

/-- LK_UP_RISE (R452, R407). -/
def lkUpRiseOp (p : Nat) (s : State) : State :=
  if p < 48 then s.setPort p { s.port p with up := true, good := 0, silent := 0 } else s

/-- TIMING_WORD_SILENCE (R204): no timing word has passed its CRC for 16 consecutive slots. -/
def timingWordSilenceOp (p : Nat) (s : State) : State :=
  if p < 48 && s.phase != .initialising && 16 ≤ (s.port p).silent then s.linkLost p else s

/-! ### Timing words -/

/-- Order of notices that wait for one port (R198). -/
def noticeLt (a b : NoticeTx) : Bool :=
  lexLt [a.notice.target, a.notice.kind, a.notice.arg] [b.notice.target, b.notice.kind, b.notice.arg]

/-- Bits [255:32] of a timing word (Table 7.13) with its CRC. -/
def timingBits (hi : Nat) : BitVec 256 := BitVec.ofNat 256 (hi <<< 32 ||| crc32c (le 28 hi))

/-- The timing word of a connected link port sent (R191, R198). -/
def State.sendTiming (s : State) (p : Nat) : State :=
  let x := s.port p
  if x.up then
    let w := (sortBy noticeLt (s.noticeTx.filter (fun n => n.port == p))).head?
    let n : Notice := match w with | some w => w.notice | none => { kind := 0, target := 0, arg := 0 }
    let tx := s.time.tb.toNat % 2 ^ 32
    let (echo, hold) := match x.last with
      | some (e, at_) => (e, (s.time.tb.toNat - at_) % 2 ^ 16)
      | none => (0, 0)
    let hi := n.kind <<< 216 ||| (n.target % 2 ^ 44) <<< 172 ||| (n.arg % 2 ^ 16) <<< 156 ||| (s.get Key.TB_SLIPS) <<< 124 |||
      (s.frame % 2 ^ 44) <<< 80 ||| tx <<< 48 ||| echo <<< 16 ||| hold
    let s := s.setPort p { x with sent := (tx :: x.sent).take 1024 }
    let s := match w with
      | some w =>
        let rest := (s.noticeTx.map (fun (m : NoticeTx) => if m = w then { m with left := m.left - 1 } else m)).filter (fun (m : NoticeTx) => m.left != 0)
        { s with noticeTx := rest }
      | none => s
    s.emit (.timing p (timingBits hi))
  else s

/-- A notice received (R197, R199). -/
def State.takeNotice (s : State) (n : Notice) (p : Nat) : State :=
  if s.seen.contains n then s else
  let s := s.spreadNotice n
  if n.target ≤ s.time.frame then
    let s := s.log { cls := Ec.overrun, det := 0x03, dom := 23 }
    (s.actNotice n p (s.time.frame + 1)).replayRunning
  else s.actNotice n p n.target

/-- What a measured offset does to the timebase that follows the port (R193, R195). -/
def State.follow (s : State) (p : Nat) (theta : Int) : State :=
  let near := decide (theta.natAbs ≤ 8)
  let run := if near then s.time.lockRun + 1 else 0
  let avg := meanInt (s.port p).offsets
  let s := { s with time := { s.time with lockRun := run, slew := avg } }
  let s := s.put Key.TB_OFFSET (unsint 32 avg)
  let st := s.get Key.TB_STATE
  if (st = 2 || st = 3) && theta.natAbs > 32 then
    let s := (s.setTb 4).log { cls := Ec.overrun, det := 0x05, dom := 23 }
    { s with time := { s.time with lockRun := 0 } }.replayRunning
  else if (st = 1 || st = 3 || st = 4) && run ≥ 256 then s.setTb 2
  else s

/-- The sender's whole TB at sending, from FRAME and TX_LO. -/
def fullTb (frame tx : Nat) : Nat := frame * 36864 + (tx + 2 ^ 32 - frame * 36864 % 2 ^ 32) % 2 ^ 32

/-- A measurement of R192 taken into a port's averages: round trip and local stamp. -/
def State.measure (s : State) (p rtt : Nat) (theta : Int) : State :=
  let x := s.port p
  let delays := ((rtt / 2) :: x.delays).take 16
  (s.setPort p { x with delays := delays, offsets := (theta :: x.offsets).take 16 }).put (Key.LINK_DELAY p) (meanNat delays)

/-- A timing word that passed its CRC heard on a port (R204, R407): a port that meets R407 is no longer lost. -/
def State.heardWord (s : State) (p : Nat) : State :=
  let x := s.port p
  let good := min 16 (x.good + 1)
  let s := s.setPort p { x with good := good, silent := 0, ready := x.ready || good == 16 }
  if good = 16 && !x.ready then s.put Key.LINK_LOST (clearBit (s.get Key.LINK_LOST) p) else s

/-- RTT of a word (R191): its arrival at `now`, the echo it carries and the far end's hold time, in 32-bit fine units. -/
def wordRtt (now echo hold : Nat) : Nat := (now % 2 ^ 32 + 2 ^ 33 - echo - hold) % 2 ^ 32

/-- The offset a word measures (R192): how far the local timebase at its arrival is ahead of its sender's, delay removed. -/
def wordTheta (now tx rtt : Nat) : Int := sint 32 ((now % 2 ^ 32 + 2 ^ 33 - tx - rtt / 2) % 2 ^ 32)

/-- The delay and the offset a word measures, where its echo is one of this engine's words (R191, R192), and what the next word
sent on the port will echo. -/
def State.measuredBy (s : State) (p tx now rtt : Nat) (theta : Int) (own : Bool) : State :=
  let s := if own then s.measure p rtt theta else s
  s.setPort p { s.port p with last := some (tx, now) }

/-- The time that a word of the followed link gives (R193 to R195): an acquiring engine takes it, any other follows it. -/
def State.steeredBy (s : State) (p hi : Nat) (theta : Int) (own : Bool) : State :=
  if s.followed = some p && s.get Key.TB_STATE ≠ 0 then
    if s.get Key.TB_STATE = 1 && !s.time.acquired then
      if (s.port p).delays.isEmpty then s
      else
        let s := s.stepTime (fullTb (bits hi 80 44) (bits hi 48 32) + s.get (Key.LINK_DELAY p)) (bits hi 124 32)
        { s with time := { s.time with acquired := true, lockRun := 0 } }
    else if own then s.follow p theta else s
  else s

/-- What a timing word says of time (R191 to R195); `hi` is its bits above the CRC, `ph` LK_TM_RX_PH of its first byte (R453). -/
def State.timedBy (s : State) (p hi ph : Nat) : State :=
  let now := (s.time.tb - BitVec.ofNat 64 ph).toNat
  let tx := bits hi 48 32
  let echo := bits hi 16 32
  let rtt := wordRtt now echo (bits hi 0 16)
  let own := (s.port p).sent.contains echo
  let theta := wordTheta now tx rtt
  (s.measuredBy p tx now rtt theta own).steeredBy p hi theta own

/-- A notice that a timing word carries taken (R197). -/
def State.noticedBy (s : State) (p hi : Nat) : State :=
  let k := bits hi 216 4
  if 1 ≤ k ∧ k ≤ 3 then s.takeNotice { kind := k, target := bits hi 172 44, arg := bits hi 156 16 } p else s

/-- TIMING_WORD_RECEIVED (R191 to R195, R197, R199, R407): a word that fails its CRC is counted (R430). `ph` is the input
LK_TM_RX_PH, 0 to 3 fine units (R453). -/
def timingWordReceivedOp (p : Nat) (word : BitVec 256) (ph : Nat) (s : State) : State :=
  let w := word.toNat
  let hi := w >>> 32
  if p < 48 && s.clocked && (s.port p).up then
    if crc32c (le 28 hi) ≠ w % 2 ^ 32 then
      (s.count64 (Key.LNK_CHECK_FAIL p) 1).setPort p { s.port p with good := 0 }
    else ((s.heardWord p).timedBy p hi (ph % 4)).noticedBy p hi
  else s

/-- TICK_IN_EDGE (R196, R230, R408, R464): `ph` is how many fine units after the last TIME edge the tick input rose. -/
def tickInEdgeOp (ph : Nat) (s : State) : State :=
  if s.get Key.TB_PARENT = 0x3F then
    let tb := (s.time.tb + BitVec.ofNat 64 (ph % 16)).toNat
    let s := s.rpl 0x01 none 0 false tb 0
    if s.get Key.TB_STATE = 0 then s else
    let d := tb % 36864
    let theta : Int := if d < 18432 then (d : Int) else (d : Int) - 36864
    let run := if theta.natAbs ≤ 8 then s.time.tickRun + 1 else 0
    let s := { s with time := { s.time with slew := theta, tickRun := run } }
    if s.get Key.TB_STATE = 1 && run ≥ 16 then s.setTb 2 else s
  else s

/-! ### Slips and plan switches -/

/-- The slip notices that wait for the frame in force or an earlier one, the one to begin first. -/
def State.dueSlip (s : State) (f : Nat) : Option (Nat × Notice) :=
  (sortBy (fun a b => lexLt [a.1, a.2.target] [b.1, b.2.target])
    (s.targets.filter (fun t => t.2.kind == 1 && decide (t.1 ≤ f)))).head?

/-- SLIP (R201, R202): the slip frame at whose boundary the engine stands begins. -/
def slipOp (s : State) : State :=
  match s.time.slipDue, s.dueSlip s.time.frame with
  | true, some t =>
    let n := (s.get Key.TB_SLIPS + 1) % 2 ^ 32
    let s := s.put Key.TB_SLIPS n
    let s := { s with
      targets := s.targets.erase t
      time := { s.time with slipDue := false, slipping := true,
                            deficitReq := if s.time.deficitReq = some t.2.target then none else s.time.deficitReq } }
    (s.issued 0x0C none).trace 0x04 none 0 none t.2.target n
  | _, _ => s

/-- The image frames a context's plan for a FLID replaces. -/
def Image.plan (i : Image) (flid : Nat) : Option Plan := i.plans.find? (fun p => p.flid == flid)

/-- The replacement of an image frame under the plans in force, else its normal entry. -/
def Image.source (i : Image) (inForce : List Nat) (k : Nat) : Repl :=
  match (inForce.filterMap i.plan).flatMap (fun p => p.repl.filter (fun r => r.frame == k)) with
  | r :: _ => r
  | [] => nth i.index k default

/-- A second plan of a context replaces a frame that a plan in force replaces (R207). -/
def State.planConflicts (s : State) (c flid : Nat) : Bool :=
  let x := s.ctx c
  match x.image with
  | none => false
  | some i => match i.plan flid with
    | none => false
    | some p => !(x.plans.contains flid) &&
        (x.plans.filterMap i.plan).any (fun q => q.repl.any (fun a => p.repl.any (fun b => a.frame == b.frame)))

/-- Its event. -/
def conflictEv (flid c : Nat) : Ev := { cls := Ec.linkDown, det := 0x04, dom := 23, ctx := some c, arg := flid <<< 16 ||| 0xFFFF }

/-- A plan switch applied to one context (R206): whether its plan is now in force. -/
def State.switchPlan (s : State) (c flid : Nat) : State × Bool :=
  match (s.ctx c).image with
  | none => (s, false)
  | some i =>
    match i.plan flid with
    | none => (s, false)
    | some p =>
      let x := s.ctx c
      if x.plans.contains flid then (s, false)
      else
        let plans := x.plans ++ [flid]
        let progs := x.progs.map (fun g =>
          if s.planFrame ≤ g.frame && p.repl.any (fun r => r.frame == g.k) then
            { g with src := i.source plans g.k, bytes := none, dropped := false } else g)
        (s.setCtx c { x with plans := plans, progs := progs }, true)

/-- PLAN_SWITCH (R203, R206, R207): a plan-switch notice takes effect at the planned frame in force. -/
def planSwitchOp (flid : Nat) (s : State) : State :=
  if s.time.slipping || s.time.slipDue then s else
  match s.targets.find? (fun t => t.2.kind == 2 && t.2.arg == flid && decide (t.1 ≤ s.time.frame)) with
  | none => s
  | some t =>
    let s := { s with targets := s.targets.erase t }
    let s := s.issued 0x0B none
    let cs := (List.range 8).filter (fun c => s.runs c || s.tt c == 3)
    let bad := cs.filter (fun c => s.planConflicts c flid)
    let s := s.logEvs (bad.map (conflictEv flid))
    let s := bad.foldl (fun s c => s.faultStop c (s.step c)) s
    let r := cs.foldl (fun (a : State × Bool) c =>
      if bad.contains c then a else let b := a.1.switchPlan c flid; (b.1, a.2 || b.2)) (s, false)
    if r.2 then (r.1.count Key.PLAN_SWITCH_COUNT 1).rpl 0x05 none 0 false flid r.1.planFrame else r.1

/-! ### The throttle -/

/-- THROTTLE_CHANGE (R396): the throttle input stands at a level, which TIME edges sample from now on. -/
def throttleChangeOp (level : Nat) (s : State) : State :=
  if level % 8 = s.time.throttle then s else { s with time := { s.time with throttle := level % 8, sampled := 0 } }

/-- LK_UP_FALL. -/
def execLkUpFall (port : Nat) (s : State) : Host.Outcome State Fault Refusal := .next (lkUpFallOp port s)
/-- LK_UP_RISE. -/
def execLkUpRise (port : Nat) (s : State) : Host.Outcome State Fault Refusal := .next (lkUpRiseOp port s)
/-- TIMING_WORD_RECEIVED. -/
def execTimingWordReceived (port : Nat) (word : BitVec 258) (s : State) : Host.Outcome State Fault Refusal :=
  .next (actTime (timingWordReceivedOp port (word.setWidth 256) (bits word.toNat 256 2)) s)
/-- TIMING_WORD_SILENCE. -/
def execTimingWordSilence (port : Nat) (s : State) : Host.Outcome State Fault Refusal := .next (actTime (timingWordSilenceOp port) s)
/-- TICK_IN_EDGE. -/
def execTickInEdge (s : State) : Host.Outcome State Fault Refusal := .next (actTime (tickInEdgeOp s.env.tickPhase) s)
/-- SLIP. -/
def execSlip (s : State) : Host.Outcome State Fault Refusal := .next (act slipOp s)
/-- PLAN_SWITCH. -/
def execPlanSwitch (flid : Nat) (s : State) : Host.Outcome State Fault Refusal := .next (act (planSwitchOp flid) s)
/-- THROTTLE_CHANGE. -/
def execThrottleChange (level : Nat) (s : State) : Host.Outcome State Fault Refusal := .next (throttleChangeOp level s)

end Sys2Proof.Machine
end

