-- ==== Sys2Proof/Machine/Plan.lean ====
section
/-! DEFINITION. The commands of an image (Tables 7.6 to 7.9) and what its plan says: which chunks, places and phases it
plans, as the load check and the bank check compare them (R87, R141, R317, R468, R469). -/

namespace Sys2Proof.Machine

open Sys2Proof

/-- A planned command: its image frame, its byte offset in the image, its 256 bits. -/
structure Cmd where
  k : Nat
  off : Nat
  w : Nat
deriving DecidableEq, Repr, Inhabited

def Cmd.cls (c : Cmd) : Nat := bits c.w 248 8
def Cmd.tick (c : Cmd) : Nat := bits c.w 236 12
/-- Its tick from the start of the step. -/
def Cmd.at_ (c : Cmd) : Nat := c.k * 2304 + c.tick
/-- Its slot from the start of the step. -/
def Cmd.slot (c : Cmd) : Nat := c.k * 256 + c.tick / 9

/-- LAYER of a command, in the field of its class (Tables 7.8 and 12.2). -/
def Cmd.layer (c : Cmd) : Nat :=
  match c.cls with
  | 1 | 5 | 6 => bits c.w 224 8
  | 2 | 4 => bits c.w 215 8
  | 3 => bits c.w 220 8
  | 7 => bits c.w 128 8
  | _ => 0

/-- TILE_SEQ of a command, in the field of its class. -/
def Cmd.tile (c : Cmd) : Nat :=
  match c.cls with
  | 2 | 4 => bits c.w 199 16
  | 3 => bits c.w 204 16
  | _ => bits c.w 208 16

/-- WORK of a TILE_WINDOW, COMBINE or GRADIENT command. -/
def Cmd.work (c : Cmd) : Nat := if c.cls = 1 then bits c.w 184 4 else bits c.w 188 4
/-- SRC_TILE_PORT of a TILE_WINDOW. -/
def Cmd.srcPort (c : Cmd) : Nat := bits c.w 188 4
/-- TILE_INDEX of a TILE_WINDOW, COMBINE or GRADIENT. -/
def Cmd.index (c : Cmd) : Nat := bits c.w 192 16
/-- n_last of a COMBINE, in slots of the step. -/
def Cmd.nLast (c : Cmd) : Nat := bits c.w 172 16 * 256 + bits c.w 164 8

/-- The fields of a SEND or RECEIVE. -/
def Cmd.xfer (c : Cmd) : Xfer :=
  { port := bits c.w 226 6, source := bits c.w 223 3, layer := c.layer, tile := c.tile, piece := bits c.w 183 16,
    dst := bits c.w 169 14, seq := bits c.w 137 32, queue := bits c.w 128 9, len := bits c.w 115 13, src := bits c.w 101 14,
    sig := bits c.w 37 64 }

def Cmd.tsPort (c : Cmd) : Nat := bits c.w 228 4
def Cmd.tsSrc (c : Cmd) : Nat := bits c.w 190 14
def Cmd.tsFirst (c : Cmd) : Nat := bits c.w 166 24
def Cmd.tsCount (c : Cmd) : Nat := bits c.w 142 24
def Cmd.tsDir (c : Cmd) : Nat := bits c.w 140 2
def Cmd.tsSeq (c : Cmd) : Nat := bits c.w 124 16

/-- The class fields of a SEND or RECEIVE (Table 7.8). -/
def xferFields (x : Xfer) : Nat :=
  x.port <<< 226 ||| x.source <<< 223 ||| x.layer <<< 215 ||| x.tile <<< 199 ||| x.piece <<< 183 ||| x.dst <<< 169 ||| x.seq <<< 137 |||
    x.queue <<< 128 ||| x.len <<< 115 ||| x.src <<< 101 ||| x.sig <<< 37

/-- The class fields of a TILE_SEND (Table 7.8). -/
def tileFields (port layer tile src first count dir seq : Nat) : Nat :=
  port <<< 228 ||| layer <<< 220 ||| tile <<< 204 ||| src <<< 190 ||| first <<< 166 ||| count <<< 142 ||| dir <<< 140 ||| seq <<< 124

/-- C_tp (R118). -/
def chunksPerSlot (mhz : Nat) : Nat := min 3 ((36 * mhz / 1000 - 8) / 17)

/-- Fields of a signature (Table 5.4). -/
def sigOp (x : Nat) : Nat := bits x 60 4
def sigFmt (x : Nat) : Nat := bits x 56 4
def sigGroup (x : Nat) : Nat := bits x 44 12
def sigSeq (x : Nat) : Nat := bits x 28 16
def sigSize (x : Nat) : Nat := bits x 0 28
/-- A signature. -/
def sigWord (op fmt group seq size : Nat) : Nat := op <<< 60 ||| fmt <<< 56 ||| group <<< 44 ||| seq <<< 28 ||| size % 2 ^ 28

/-- A SEND of a source, and a RECEIVE of one. -/
def Cmd.sends (c : Cmd) (src : Nat) : Bool := c.cls == 2 && c.xfer.source == src
def Cmd.receives (c : Cmd) (src : Nat) : Bool := c.cls == 4 && c.xfer.source == src

/-- The commands of a program at offset `off`. -/
def progCmds (k off : Nat) (bs : Bytes) : List Cmd :=
  (List.range ((bs.length - 320) / 32)).map (fun j => { k := k, off := off + 320 + 32 * j, w := u bs (320 + 32 * j) 32 })

/-- The bytes of a program as host memory holds them. -/
def State.progBytes (s : State) (a : Nat) (r : Repl) : Bytes := s.hostBytes (a + r.off) r.len

/-- Every command of a list of programs. -/
def State.planCmds (s : State) (a : Nat) (frames : List Repl) : List Cmd :=
  frames.flatMap (fun r => progCmds r.frame r.off (s.progBytes a r))

/-- Every command of a loaded image's normal plan. -/
def State.imageCmds (s : State) (i : Image) : List Cmd := s.planCmds i.addr i.index

/-- Byte offset of a layer entry. -/
def Image.layerOff (i : Image) (l : Nat) : Nat := u i.hdr 56 8 + 256 * l

/-- Some fields of a header under check. -/
def Image.node (i : Image) : Nat := u i.hdr 16 2
def Image.stepFrames (i : Image) : Nat := u i.hdr 24 4
def Image.layerOf (i : Image) (l : Nat) : Bytes := nth i.layers l []

/-! ### Plans compared with a bank (R87, R468, R469) -/

/-- Places of the stream to node `v`. -/
def State.placeCount (s : State) (b : Nat) (l : Bytes) (v : Nat) : Nat :=
  (((s.layerEntries b l).filter (fun x => ptNode (s.pt b x.1) == v)).map (fun x => ptCap (s.pt b x.1))).foldl (· + ·) 0

/-- The tick at which a tile's window of a kind of work opens. -/
def windowAt (cs : List Cmd) (work l t : Nat) : Option Nat :=
  (cs.find? (fun c => c.cls == 1 && c.work == work && c.layer == l && c.tile == t)).map Cmd.at_

/-- A list of PIECE values is 0 to n − 1, each once. -/
def isUpTo (xs : List Nat) (n : Nat) : Bool := sortBy (fun a b => decide (a < b)) xs == List.range n

/-- Ranges of places cover 0 to P − 1, each once: the end they reach in ascending order, if they never leave a gap. -/
def coverEnd : List (Nat × Nat) → Nat → Option Nat
  | [], at_ => some at_
  | (a, n) :: r, at_ => if a = at_ then coverEnd r (at_ + n) else none

/-- The offset named for a disagreement: the first of the commands compared, else the layer entry. -/
def firstOff (cs : List Cmd) (d : Nat) : Nat := match cs with | c :: _ => c.off | [] => d

/-- Chunks of one stream compared with its piece count, and with `len` their lengths (R87, R469). -/
def streamBad (cs : List Cmd) (d total : Nat) (len : Bool) : List Nat :=
  if !(isUpTo (cs.map (fun c => c.xfer.piece)) (ceilDiv total 4096)) then [firstOff cs d]
  else if len then
    (cs.filter (fun c => c.xfer.len != min 4096 (total - 4096 * c.xfer.piece))).map Cmd.off
  else []

/-- Own-node TILE_SENDs compared with the stream's place count (R87). -/
def ownBad (cs : List Cmd) (d places : Nat) : List Nat :=
  let r := sortBy (fun a b => decide (a.1 < b.1)) (cs.map (fun c => (c.tsFirst, c.tsCount)))
  if coverEnd r 0 == some places then [] else [firstOff cs d]

/-- Split of a tile's commands at its refetch window: those of the forward exchange and those of B1 (R148). -/
def splitAt (b1 : Option Nat) (cs : List Cmd) : List Cmd × List Cmd :=
  match b1 with
  | some t => (cs.filter (fun c => decide (c.at_ < t)), cs.filter (fun c => decide (t ≤ c.at_)))
  | none => (cs, [])

/-- The streams of one tile of a layer compared with bank `b` (R87, R468): offsets of what disagrees. -/
def State.tileBad (s : State) (b : Nat) (i : Image) (cs : List Cmd) (len : Bool) (l t : Nat) : List Nat :=
  let ly := i.layerOf l
  let me := i.node
  let d := i.layerOff l
  let mine := cs.filter (fun c => c.layer == l && c.tile == t && (c.cls == 2 || c.cls == 3 || c.cls == 4))
  let b1 := windowAt cs 2 l t
  let dests := s.dests b ly
  -- dispatch toward other nodes: source code, record length
  let out (src reclen : Nat) (on : Bool) : List Nat :=
    let sent := mine.filter (fun c => c.sends src)
    ((dests ++ sent.map (fun c => c.xfer.dst)).eraseDups.filter (· != me)).flatMap (fun v =>
      streamBad (sent.filter (fun c => c.xfer.dst == v)) d (if on then s.placeCount b ly v * reclen else 0) len)
  -- returns expected from other nodes
  let back (recvs : List Cmd) (reclen : Nat) (on : Bool) : List Nat :=
    ((dests ++ recvs.map (fun c => c.xfer.src)).eraseDups.filter (· != me)).flatMap (fun v =>
      streamBad (recvs.filter (fun c => c.xfer.src == v)) d (if on then s.placeCount b ly v * reclen else 0) false)
  let own (dir : Nat) : List Cmd := mine.filter (fun c => c.cls == 3 && c.tsSrc == me && c.tsDir == dir)
  let p := s.placeCount b ly me
  let fwd := splitAt b1 (own 0)
  let ret := splitAt b1 (mine.filter (fun c => c.receives 1 && c.xfer.dst == me))
  let bk := lyBackward ly
  let ld := recordLen (lyDisp ly) (lyD ly)
  let lr := recordLen (lyRet ly) (lyD ly)
  out 0 ld true ++ out 7 ld b1.isSome ++ out 5 (recordLen (lyBwd ly) (lyD ly)) bk ++
  back ret.1 lr true ++ back ret.2 lr b1.isSome ++
  back (mine.filter (fun c => c.receives 6 && c.xfer.dst == me)) (recordLen (lyIn ly) (lyD ly)) bk ++
  ownBad fwd.1 d p ++ (if b1.isSome then ownBad fwd.2 d p else []) ++ ownBad (own 1) d (if bk then p else 0)

/-- Tiles of a layer that the plan opens forward windows for. -/
def planTiles (cs : List Cmd) (l : Nat) : List Nat :=
  ((cs.filter (fun c => c.cls == 1 && c.work == 0 && c.layer == l)).map Cmd.tile).eraseDups

/-- Bytes of a layer's delivery stream (R159). -/
def delivLen (ly : Bytes) : Nat := bwCount ly * recordLen (bwFmt ly) (lyD ly)

/-- The COLLECTIVE command that a signature's GROUP and SEQ name. -/
def collOf (cs : List Cmd) (sig : Nat) : Option Cmd :=
  cs.find? (fun c => c.cls == 7 && clGroup c.w == sigGroup sig && clSeq c.w == sigSeq sig)

/-- Delivery and collective chunks whose PAYLOAD_LEN is not their piece's (R469). -/
def lenBad (i : Image) (cs : List Cmd) : List Nat :=
  ((cs.filter (fun c => c.sends 4)).filter (fun c =>
    c.xfer.len != min 4096 (delivLen (i.layerOf c.layer) - 4096 * c.xfer.piece))).map Cmd.off ++
  ((cs.filter (fun c => (c.sends 3 && c.xfer.src == i.node) || (c.receives 3 && c.xfer.dst == i.node))).filter (fun c =>
    match collOf cs c.xfer.sig with
    | some g => c.xfer.len != clPieceLen (clFmt g.w) (clCap g.w) c.xfer.piece
    | none => false)).map Cmd.off

/-- SENDs that put a piece of the own node's streams on a port: its records leave by TILE_SEND and its return stream crosses no
port (R18, R87, R468). -/
def ownSends (i : Image) (cs : List Cmd) : List Nat :=
  (cs.filter (fun c => (c.sends 0 || c.sends 1 || c.sends 5 || c.sends 6 || c.sends 7) && c.xfer.src == i.node &&
    c.xfer.dst == i.node)).map Cmd.off

/-- Every disagreement between a plan and a bank. -/
def State.planBad (s : State) (b : Nat) (i : Image) (cs : List Cmd) (len : Bool) : List Nat :=
  (List.range i.layers.length).flatMap (fun l => (planTiles cs l).flatMap (s.tileBad b i cs len l)) ++
    (if len then lenBad i cs ++ ownSends i cs else [])

/-- The smallest of some offsets. -/
def leastOff (xs : List Nat) : Option Nat := (sortBy (fun a b => decide (a < b)) xs).head?

/-! ### Chains (codes 0x04 to 0x06 of Table 4.7) -/

/-- The whole chain of an expert, ended by its fifth entry or by an entry with VALID clear, whose NEXT
leads nowhere (DEDUCED, log entry 15). -/
def State.rawChain (s : State) (b : Nat) : Nat → Nat → List Nat → List Nat
  | 0, _, acc => acc
  | n + 1, i, acc =>
    let acc' := acc ++ [i]
    let x := ptNext (s.pt b i)
    if x = 0xFFFF || !(ptValid (s.pt b i)) then acc' else s.rawChain b n x acc'

/-- The first of codes 0x04 to 0x06 that the chain of expert `e` of a layer breaks. -/
def State.chainCode (s : State) (b : Nat) (ly : Bytes) (e : Nat) : Option Nat :=
  let p := cdBase ly + e
  if !(ptValid (s.pt b p)) then none else
  let ch := s.rawChain b 5 p []
  let others := (List.range (selE ly)).filter (fun x => x != e && ptValid (s.pt b (cdBase ly + x)))
  if ch.length > 4 || ch.eraseDups.length != ch.length ||
     ch.any (fun i => others.any (fun x => (s.rawChain b 5 (cdBase ly + x) []).contains i)) ||
     (ch.drop 1).any (fun i => decide (cdBase ly ≤ i ∧ i < cdBase ly + selE ly)) then some 4
  else if (ch.drop 1).any (fun i => !(ptValid (s.pt b i))) then some 5
  else if (ch.map (fun i => ptCap (s.pt b i))).foldl (· + ·) 0 > 4096 then some 6
  else none

/-! ### Order of phases (R141, R162, R317) -/

/-- Ticks at which a plan's commands of a class and kind of work stand, for a layer and, where given, a tile. -/
def phaseAt (cs : List Cmd) (cls work l : Nat) (t : Option Nat) : List Nat :=
  (cs.filter (fun c => c.cls == cls && c.work == work && c.layer == l &&
    (match t with | some t => c.tile == t | none => true))).map Cmd.at_

/-- A command stands no earlier than every one of some points, of which there is one at least. -/
def notBefore (c : Cmd) (pts : List Nat) : Bool := !pts.isEmpty && pts.all (fun p => decide (p ≤ c.at_))

/-- Ticks of the COLLECTIVE commands of a layer's B6: the Sum-Alls of its visits and of its router gradients (R158, R311). -/
def collAt (cs : List Cmd) (l : Nat) : List Nat := (cs.filter (fun c => c.cls == 7 && clKind c.w != 0 && c.layer == l)).map Cmd.at_

/-- A command of a backward phase stands where Table 6.4 allows it. The plan names opening ticks and no ends (DESIGN CHOICE, log
entry 73): a forward window has ended one tick after it opens, any other phase stands at its command's tick, and the router-term
write, which no command plans, waits for B3's close point at run time. -/
def phaseOk (i : Image) (cs : List Cmd) (c : Cmd) : Bool :=
  let l := c.layer
  let t := some c.tile
  match c.cls, c.work with
  | 7, _ => clKind c.w == 0 || notBefore c (phaseAt cs 6 2 l none)
  | 1, 1 => notBefore c ((phaseAt cs 1 0 l none).map (· + 1))
  | 1, 2 => notBefore c (phaseAt cs 1 1 l t)
  | 6, 0 => notBefore c (phaseAt cs 1 1 l t) &&
      (!(bwRefetch (i.layerOf l)) ||
        notBefore c ((cs.filter (fun x => x.cls == 5 && x.work == 2 && x.layer == l && x.tile == c.tile)).map (fun x => 9 * (x.nLast + 3))))
  | 5, 1 => notBefore c (phaseAt cs 6 0 l t)
  | 6, 1 => notBefore c (phaseAt cs 6 0 l t)
  | 6, 2 => notBefore c (phaseAt cs 6 1 l t)
  | 6, 3 => notBefore c (phaseAt cs 6 2 l none)
  | 6, 4 => notBefore c (phaseAt cs 6 3 l none) && (collAt cs l).all (fun p => decide (p ≤ c.at_))
  | _, _ => true

/-- The planned collective SENDs and RECEIVEs of this engine, as (direction, peer, piece), agree with its roles in the trees
of one COLLECTIVE (R317). -/
def State.rolesOk (s : State) (i : Image) (cs : List Cmd) (g : Cmd) : Bool :=
  let e := s.group (clGroup g.w)
  let me := i.node
  let own (x : Nat × Nat × Nat) (y : Nat × Nat × Nat) : Bool := lexLt [x.1, x.2.1, x.2.2] [y.1, y.2.1, y.2.2]
  let names (c : Cmd) : Bool := sigGroup c.xfer.sig == clGroup g.w && sigSeq c.xfer.sig == clSeq g.w
  let want := (List.range (clPieces (clFmt g.w) (clCap g.w))).flatMap (fun j =>
    let n := s.neighbours e j
    (n.2.1.toList ++ n.2.2.toList).flatMap (fun v => [(0, v, j), (1, v, j)]) ++ n.1.toList.flatMap (fun v => [(1, v, j), (0, v, j)]))
  let got := (cs.filter (fun c => c.receives 3 && c.xfer.dst == me && names c)).map (fun c => (0, c.xfer.src, c.xfer.piece)) ++
    (cs.filter (fun c => c.sends 3 && c.xfer.src == me && names c)).map (fun c => (1, c.xfer.dst, c.xfer.piece))
  sortBy own want == sortBy own got

/-- Code 0x0E of Table 7.12: the offset of the first command out of place. -/
def State.orderBad (s : State) (i : Image) (cs : List Cmd) : Option Nat :=
  let colls := cs.filter (fun c => c.cls == 7)
  let groups := (colls.map (fun c => clGroup c.w)).eraseDups
  let phases := (cs.filter (fun c => !(phaseOk i cs c))).map Cmd.off
  let deliv := (cs.filter (fun c => c.sends 4 && c.xfer.src == i.node && !(notBefore c
    ((phaseAt cs 6 4 c.layer none).map (· + 2304 * bwDeadline (i.layerOf c.layer)))))).map Cmd.off
  let late := (cs.filter (fun c => c.cls == 5 && decide (c.nLast < c.slot))).map Cmd.off
  let swaps := (cs.filter (fun c => c.cls == 10 && c.at_ != 0)).map Cmd.off
  let seqs := groups.flatMap (fun g =>
    let x := colls.filter (fun c => clGroup c.w == g)
    if isUpTo (x.map (fun c => clSeq c.w)) x.length then [] else [firstOff x 0])
  let roles := (colls.filter (fun g => !(s.rolesOk i cs g))).map Cmd.off
  let strays := (cs.filter (fun c => ((c.sends 3 && c.xfer.src == i.node) || (c.receives 3 && c.xfer.dst == i.node)) &&
    (collOf cs c.xfer.sig).isNone)).map Cmd.off
  leastOff (phases ++ deliv ++ late ++ swaps ++ seqs ++ roles ++ strays)

end Sys2Proof.Machine
end

