-- ==== Sys2Proof/Machine/Link.lean ====
section
/-! DEFINITION. Link ports in a slot: wire images and trailers (R110, R111), copies held and their releases (R115, R116),
re-sends and late chunks (R116, R188), and the slot start (R191). -/

namespace Sys2Proof.Machine

open Sys2Proof

/-! ### Chunk headers (Table 5.3) -/

def chSig (h : Nat) : Nat := bits h 384 64
def chPiece (h : Nat) : Nat := bits h 208 16
def chPlan (h : Nat) : Nat := bits h 192 16
def chPad (h : Nat) : Bool := bit h 180
def chFirst (h : Nat) : Nat := bits h 168 12
def chCount (h : Nat) : Nat := bits h 160 8
def chSrc (h : Nat) : Nat := bits h 112 14
def chDst (h : Nat) : Nat := bits h 96 14

/-- The fields of a chunk header that its sender chooses. -/
structure Chunk where
  x : Xfer
  plan : Nat
  pad : Bool
  first : Nat
  count : Nat
  ctx : Nat
  step : Nat
deriving DecidableEq, Repr, Inhabited

/-- A chunk header with its CRC as zero (Table 5.3). -/
def Chunk.bits0 (k : Chunk) : Nat :=
  k.x.sig <<< 384 ||| k.x.tile <<< 224 ||| k.x.piece <<< 208 ||| k.plan <<< 192 ||| b2n k.pad <<< 180 ||| k.first <<< 168 |||
    k.count <<< 160 ||| k.x.len <<< 144 ||| k.x.queue <<< 128 ||| k.x.src <<< 112 ||| k.x.dst <<< 96 ||| k.x.seq <<< 64 |||
    k.ctx <<< 56 ||| k.x.layer <<< 48 ||| k.step % 2 ^ 48

/-- A chunk header with its CRC (R107). -/
def Chunk.header (k : Chunk) (payload : Bytes) : Nat :=
  let h := k.bits0
  h ||| chunkCrc k.x.seq k.x.dst k.x.queue h (if k.pad then zeros k.x.len else payload) <<< 448

/-- Record headers that begin in bytes `a` to `a + n - 1` of a stream: the first one's offset, 0xFFF with none, and how
many (R105). -/
def headsIn (reclen a n : Nat) : Nat × Nat :=
  let f := alignUp a reclen
  if f < a + n then (f - a, ceilDiv (a + n - f) reclen) else (0xFFF, 0)

/-- Clock domain of a port (Table 1.5): ports 48 to 63 are the tile ports. -/
def portDomain (p : Nat) : Nat := if p < 48 then 14 + p / 16 else 13

/-! ### Wire images -/

/-- A release word (Table 5.6). -/
def relWord (r : Rel) : Nat := 2 ^ 18 ||| r.status <<< 16 ||| (r.slot / 256 % 256) <<< 8 ||| r.slot % 256

/-- Releases of a port that may leave in this slot, in order (R115). -/
def State.dueRels (s : State) (p : Nat) : List Rel :=
  sortBy (fun (a b : Rel) => lexLt [a.slot, a.order] [b.slot, b.order])
    (s.rels.filter (fun (r : Rel) => r.port == p && decide (r.due ≤ s.fslot)))

/-- The trailer of a port's slot, with up to seven releases (R111). -/
def State.trailer (s : State) (p : Nat) : State × Bytes :=
  let rs := (s.dueRels p).take 7
  let body := sub (rs.flatMap (fun (r : Rel) => le 8 (relWord r))) 0 56
  ({ s with rels := s.rels.filter (fun (r : Rel) => !(rs.contains r)) }, body ++ le 8 (crc32c body))

/-- A wire image of a chunk, or the trailer alone, on a link port that is up (R110); a port that is down sends nothing. -/
def State.sendImage (s : State) (p : Nat) (chunk : Bytes) : State :=
  if (s.port p).up then
    let (s, tr) := s.trailer p
    let body := chunk ++ zeros (alignUp chunk.length 64 - chunk.length) ++ tr
    let img := body ++ zeros (alignUp body.length 128 - body.length)
    let n := img.length / 128
    let s := s.setPort p { s.port p with used := (s.fslot + 1, n) }
    (s.emit (.image p (if chunk.isEmpty then 2 else 1) img)).count64 (Key.LNK_TX_FLITS p) n
  else s

/-- Grants of the slot in force that a link port may still lend (R110, R112): none before the slot's image has left. -/
def State.lent (s : State) (p : Nat) : Nat := let x := (s.port p).used; if x.1 = s.fslot + 1 then 33 - x.2 else 0

/-- A copy put on its port: CVU_INJECT inverts bit 0 of its CRC field (R366). -/
def State.sendCopy (s : State) (p : Nat) (bytes : Bytes) : State :=
  let hit := s.cvu.inject.contains p
  let up := if p < 48 then (s.port p).up else s.tileUp (p - 48)
  let bytes := if hit && up then le 64 (u bytes 0 64 ^^^ 2 ^ 448) ++ bytes.drop 64 else bytes
  let s := if hit && up then { s with cvu := { s.cvu with inject := s.cvu.inject.filter (· != p) } } else s
  if p < 48 then s.sendImage p bytes
  else if up then ((s.tileSpend (p - 48) 1 0).emit (.tileChunk (p - 48) bytes)).count64 (Key.TP_TX_BYTES (p - 48)) bytes.length
  else s

/-- The accounting of the Staging Store runs that a sending reads (R9, R430). -/
def State.readRuns (s : State) (rs : List (Nat × Nat)) : State := rs.foldl (fun s r => s.stgRead r.1 r.2) s

/-- The first sending of a chunk: put on its port, held until released (R116), metered (Table 18.7). On a tile port it takes its number
in the port's series (R108, R455). -/
def State.sendFirst (s : State) (c st : Nat) (x : Xfer) (hdr : Nat) (payload : Bytes) (reads : List (Nat × Nat) := []) : State :=
  let bytes := le 64 hdr ++ (if chPad hdr then [] else payload)
  let s := ((s.readRuns reads).sendCopy x.port bytes).tap 4 c (64 + (if chPad hdr then 0 else chLen hdr))
  let s := if x.port < 48 then s else s.setSeq c st (x.port - 48) true (x.seq + 1)
  let h : Held := { ctx := c, step := st, x := x, bytes := bytes, slot := s.fslot, stamp := s.stamp, reads := reads }
  { s with helds := s.helds ++ [h] }

/-! ### Planned slots -/

/-- The commands of a class that a context issues in the plan frame in force. -/
def State.planned (s : State) (c cls : Nat) : List Cmd :=
  if s.issuable c then
    (((s.ctx c).progs.filter (fun (g : Prog) => g.frame == s.planFrame)).flatMap (fun (g : Prog) =>
      match g.bytes with | some bs => progCmds g.k g.src.off bs | none => [])).filter (fun (k : Cmd) => k.cls == cls)
  else []

/-- Some context plans a chunk in the slot in force on a port, in the sending direction. -/
def State.sendPlanned (s : State) (p : Nat) : Bool :=
  (List.range 8).any (fun c =>
    (s.planned c 2).any (fun (k : Cmd) => k.xfer.port == p && k.tick / 9 == s.slot) ||
    (s.planned c 3).any (fun (k : Cmd) => k.tsPort + 48 == p && k.tick / 9 == s.slot))

/-- A context may send an unplanned chunk on a port in the slot in force: it owns the slot, or a slip frame runs (R188, R202). -/
def State.freeSend (s : State) (c p : Nat) : Bool :=
  !(s.sendPlanned p) && (s.time.slipping || s.ownsSlot c p s.slot false)

/-! ### What a SEND carries -/

/-- A chunk that may leave: header with CRC, payload. -/
structure Ready where
  hdr : Nat
  bytes : Bytes
  /-- The piece it carries. -/
  key : Option PieceKey := none
  /-- Its length differs from its SEND's (R469). -/
  short : Bool := false
  /-- The header's planned fields. -/
  x : Xfer
  /-- Staging Store runs that it is read from. -/
  reads : List (Nat × Nat) := []
deriving DecidableEq, Repr, Inhabited

/-- Record length of the stream that a SOURCE names (Table 7.9). -/
def sourceLen (l : Bytes) (source : Nat) : Nat :=
  let f := match source with | 1 => lyRet l | 4 => bwFmt l | 5 => lyBwd l | 6 => lyIn l | _ => lyDisp l
  recordLen f (lyD l)

/-- The Staging Store runs of a piece that reading it takes: no pad payload is read (R83). -/
def Piece.runs (p : Piece) : List (Nat × Nat) :=
  if p.padOnly || p.void then [] else match p.buf with
    | some a => (runsBetween 0 p.len p.holes).map (fun r => (a + r.1, r.2))
    | none => []

/-- A piece of a stream as a chunk: `n` bytes from its start. -/
def State.pieceChunk (s : State) (c st : Nat) (x : Xfer) (p : Piece) : Ready :=
  let h := headsIn (sourceLen (s.layer c x.layer) x.source) (4096 * x.piece) x.len
  let bs := sub (s.pieceBytes p) 0 x.len
  let k : Chunk :=
    { x := x, plan := s.planId c, pad := p.padOnly && !p.void, first := h.1, count := h.2, ctx := c, step := st }
  { hdr := k.header bs, bytes := bs, key := some p.key, short := decide (p.len ≠ x.len), x := x, reads := p.runs }

/-- The key of the piece that a SEND of this engine's own stream names. -/
def State.sendKey (s : State) (c st : Nat) (x : Xfer) : PieceKey :=
  let k (kind : Nat) : PieceKey :=
    { ctx := c, step := st, layer := x.layer, tile := x.tile, kind := kind, src := s.node, dst := x.dst, idx := x.piece }
  if x.source = 1 then
    match s.piece (k 1) with
    | some p => if p.sent then k 10 else k 1
    | none => if (s.piece (k 10)).isSome then k 10 else k 1
  else k x.source

/-- The return stream that a SEND of SOURCE 1 or 6 draws on is known here, so that a piece beyond its end is complete. -/
def State.retBeyond (s : State) (c st : Nat) (x : Xfer) : Bool :=
  (x.source == 1 || x.source == 6) &&
  s.rets.any (fun (r : Ret) => r.ctx == c && r.step == st && r.layer == x.layer && r.tile == x.tile && r.src == x.dst &&
    (if x.source = 6 then r.kind == 3 else r.kind == 1) &&
    decide (r.count * sourceLen (s.layer c x.layer) x.source ≤ 4096 * x.piece))

/-- A collective chunk of this member (Table 12.3); an abort chunk once the operation is aborted (R327). -/
def State.collChunk (s : State) (c st : Nat) (x : Xfer) : Option Ready :=
  match s.coll c st (sigGroup x.sig) (sigSeq x.sig) with
  | none => none
  | some o =>
    let x := if o.issued then { x with layer := o.layer, tile := 0, sig := sigWord 8 o.fmt o.group o.seq o.cap } else { x with tile := 0 }
    let k (pad : Bool) (count : Nat) : Chunk :=
      { x := x, plan := s.planId c, pad := pad, first := 0xFFF, count := count, ctx := c, step := st }
    if o.aborted ≠ 0 then
      let a := k true o.aborted
      some { hdr := a.header [], bytes := [], x := x }
    else (s.collData o x.piece x.dst).map (fun bs =>
      let a := k false 0
      { hdr := a.header (sub bs 0 x.len), bytes := sub bs 0 x.len, x := x, reads := s.collRun o x.piece })

/-- A delivery chunk: its piece slot, once residency is confirmed (R159, R162). -/
def State.delivSlot (s : State) (c st layer piece : Nat) : Option PieceSlot :=
  s.cle.slots.find? (fun (p : PieceSlot) => p.deliv && p.ctx == c && p.step == st && p.seq == layer && p.piece == piece)

/-- What a SEND carries, once it is complete (Table 7.10). -/
def State.sendReady (s : State) (c st : Nat) (x : Xfer) : Option Ready :=
  match x.source with
  | 2 =>
    match s.expects.find? (fun (e : Expect) => e.ctx == c && e.step == st && e.relay && e.x.src == x.src && e.x.seq == x.seq && e.x.dst == x.dst),
      s.piece { ctx := c, step := st, layer := x.layer, tile := x.tile, kind := 2, src := x.src, dst := x.dst, idx := x.seq } with
    | some e, some p =>
      if p.here && e.committed then some { hdr := e.hdr, bytes := s.pieceBytes p, key := some p.key, x := x, reads := p.runs } else none
    | _, _ => none
  | 3 => s.collChunk c st x
  | 4 =>
    match s.layerGrad c st x.layer, s.delivSlot c st x.layer x.piece with
    | some g, some p =>
      if g.confirmed then
        let l := s.layer c x.layer
        let h := headsIn (sourceLen l 4) (4096 * x.piece) x.len
        let bs := sub ((s.slotPart p 3 0).getD []) 0 x.len
        let x := { x with tile := 0, sig := sigWord 8 (bwFmt l) 0xFFF x.layer (sourceLen l 4) }
        let k : Chunk := { x := x, plan := s.planId c, pad := false, first := h.1, count := h.2, ctx := c, step := st }
        some { hdr := k.header bs, bytes := bs, x := x, reads := [(s.slotAddr p, x.len)] }
      else none
    | _, _ => none
  | _ =>
    match s.piece (s.sendKey c st x) with
    | some p => if p.here then some (s.pieceChunk c st x p) else none
    | none =>
      if s.retBeyond c st x then
        let p : Piece := { key := s.sendKey c st x, len := 0, fill := [], ready := true }
        some { s.pieceChunk c st x p with key := none }
      else none

/-- A SEND that has nothing to carry in this step: a relay whose chunk was refused (R117), a delivery without residency
(R163). -/
def State.sendNothing (s : State) (c st : Nat) (x : Xfer) : Bool :=
  (x.source == 2 && s.expects.any (fun (e : Expect) => e.ctx == c && e.step == st && e.relay && e.void && e.x.src == x.src && e.x.seq == x.seq &&
    e.x.dst == x.dst)) ||
  (x.source == 4 && (match s.layerGrad c st x.layer with | some g => g.absent | none => false))

/-- Every command of a context's plan as it stands (R205, R206). -/
def State.planNow (s : State) (c : Nat) : List Cmd :=
  match (s.ctx c).image with
  | some i => s.planCmds i.addr ((List.range i.stepFrames).map (i.source (s.ctx c).plans))
  | none => []

/-- The phase numbers of the chunks that carry a tile's returns of a SOURCE over links, in the order of the plan: of the forward returns,
then those of B1 (R148). -/
def State.retSeqs (s : State) (c layer tile source : Nat) : List Nat :=
  let ks := sortBy (fun (a b : Cmd) => decide (a.at_ < b.at_)) ((s.planNow c).filter (fun (k : Cmd) =>
    (k.sends source || k.receives source) && k.layer == layer && k.tile == tile))
  (ks.map (fun (k : Cmd) => sigSeq k.xfer.sig)).eraseDups

/-- The return pieces of the own node that belong to a phase, as keys of its fold: those of every tile whose returns cross links in it, by the
places that the plan sends to the own tiles (R87, R229). -/
def State.ownPieces (s : State) (c seq : Nat) : List (List Nat) :=
  let cs := s.planNow c
  let tiles := ((cs.filter (fun (k : Cmd) => (k.cls == 2 || k.cls == 4) && (k.xfer.source == 1 || k.xfer.source == 6) &&
    sigSeq k.xfer.sig == seq)).map (fun (k : Cmd) => (k.layer, k.tile, k.xfer.source))).eraseDups
  tiles.flatMap (fun (x : Nat × Nat × Nat) =>
    let own := cs.filter (fun (k : Cmd) => k.cls == 3 && k.layer == x.1 && k.tile == x.2.1 && k.tsSrc == s.node &&
      k.tsDir == (if x.2.2 = 6 then 1 else 0))
    let halves := splitAt (if x.2.2 = 1 then windowAt cs 2 x.1 x.2.1 else none) own
    let mine := if (s.retSeqs c x.1 x.2.1 x.2.2).head? == some seq then halves.1 else halves.2
    let places := (mine.map Cmd.tsCount).foldl (· + ·) 0
    (List.range (ceilDiv (places * sourceLen (s.layer c x.1) x.2.2) 4096)).map (fun j => [x.1, x.2.1, s.node, s.node, j]))

/-- The order of Table 8.7's phase fold. -/
def phaseLt (a b : List Nat × Nat) : Bool := lexLt a.1 b.1

/-- The phase fold (R229), recorded once every piece that the plan has this engine receive, relay or form as a return piece
in the phase is known. DEDUCED (log entry 59): a phase of return pieces formed alone ends with the last of them. -/
def State.phaseFold (s : State) (c st seq : Nat) : State :=
  match s.notes c st with
  | none => s
  | some a =>
    let got := a.phase.filter (fun (x : Nat × List Nat × Nat) => x.1 == seq)
    let named (k : Cmd) : Bool := sigSeq k.xfer.sig == seq && decide (1 ≤ sigOp k.xfer.sig ∧ sigOp k.xfer.sig ≤ 4)
    let want := (s.planNow c).filter (fun (k : Cmd) => named k && (k.cls == 4 || k.sends 1 || k.sends 6))
    let has (k : Cmd) : Bool := got.any (fun (x : Nat × List Nat × Nat) =>
      x.2.1 == [k.xfer.layer, k.xfer.tile, k.xfer.src, k.xfer.dst, k.xfer.piece])
    let own := (s.ownPieces c seq).all (fun k => got.any (fun (x : Nat × List Nat × Nat) => x.2.1 == k))
    if got.isEmpty || a.phaseDone.contains seq || !(want.all has) || !own then s else
    let fold := crc64 ((sortBy phaseLt (got.map (·.2))).flatMap (fun (x : List Nat × Nat) => le 4 x.2))
    let s := s.updAudit c st (fun a => { a with phaseDone := a.phaseDone ++ [seq] })
    s.rpl 0x09 (some c) (s.attemptOf c st) true (seq <<< 48 ||| st % 2 ^ 48) fold

/-- Delivery records with ZERO_VISIT whose headers a delivery piece carries (R167). -/
def State.zeroVisits (s : State) (c st : Nat) (x : Xfer) : Nat :=
  let l := s.layer c x.layer
  let h := headsIn (sourceLen l 4) (4096 * x.piece) x.len
  match s.layerGrad c st x.layer with
  | some g => ((List.range h.2).filter (fun i => nth g.visits (bwFirst l + h.1 + i) 0 == 0)).length
  | none => 0

/-- A chunk that is complete sent for the first time, in a planned slot or later: return pieces enter the phase fold
(R229), delivery chunks the delivery fold (R218). -/
def State.sendChunk (s : State) (c st : Nat) (x : Xfer) (r : Ready) : State :=
  let s := if r.short && (x.source == 1 || x.source == 6) then
      s.log { cls := Ec.seq, det := 0x19, dom := portDomain x.port, ctx := some c, step := some st, layer := some x.layer,
              node := some x.dst, arg := (x.seq % 65536) <<< 16 ||| x.port }
    else s
  let s := match r.key with
    | some k => (match s.piece k with | some p => s.setPiece { p with sent := true } | none => s)
    | none => s
  let s := if x.source = 1 || x.source = 6 then
      (s.notePhase c st (sigSeq x.sig) [x.layer, x.tile, x.src, x.dst, x.piece] (chCrc r.hdr)).phaseFold c st (sigSeq x.sig)
    else if x.source = 4 then
      (s.updAudit c st (fun a => { a with deliv := a.deliv ++ [(x.layer, x.seq, chCrc r.hdr)] })).count (Key.BWD_ZERO_VISIT c)
        (s.zeroVisits c st x)
    else s
  s.sendFirst c st r.x r.hdr r.bytes r.reads

/-! ### Routes of a degraded plan (R205 to R207) -/

/-- The link of a port is the one that a degraded plan in force for a context does without. -/
def State.planLost (s : State) (c p : Nat) : Bool :=
  decide (p < 48) && (s.ctx c).plans.any (fun f => s.linkConnected c p && bits (s.linkEntry c p) 48 16 == f)

/-- The port that a chunk takes now, by the class of its command (2 SEND, 4 RECEIVE): its own or, where a degraded plan does without that
link, the one the plan in force names for the same chunk, else for another chunk of the same two nodes (R116, R207; DEDUCED, log
entry 81). -/
def State.routePort (s : State) (c cls : Nat) (x : Xfer) : Nat :=
  if s.planLost c x.port then
    let ks := (s.planNow c).filter (fun (k : Cmd) => k.cls == cls && k.xfer.src == x.src && k.xfer.dst == x.dst && !(s.planLost c k.xfer.port))
    match ks.find? (fun (k : Cmd) => k.xfer.seq == x.seq), ks.head? with
    | some k, _ => k.xfer.port
    | none, some k => k.xfer.port
    | none, none => x.port
  else x.port

/-! ### Releases (R115 to R117) -/

/-- A tile-port chunk released: once the tile has taken every place of the stream, its pieces go back to their pool (R82,
R122). -/
def State.tileReleased (s : State) (h : Held) : State :=
  let k : PieceKey :=
    { ctx := h.ctx, step := h.step, layer := h.x.layer, tile := h.x.tile, kind := h.kind, src := h.from_, dst := s.node, idx := 0 }
  let busy := s.helds.any (fun (x : Held) => x.x.source == 8 && x.ctx == h.ctx && x.step == h.step && x.x.layer == h.x.layer &&
    x.x.tile == h.x.tile && x.kind == h.kind && x.from_ == h.from_)
  let past := s.rets.any (fun (r : Ret) => r.ctx == h.ctx && r.step == h.step && r.layer == h.x.layer && r.tile == h.x.tile && r.src == h.from_ &&
    r.b1 == (h.kind == 7) && r.kind == (if h.kind = 5 then 3 else 1) &&
    decide (r.count ≤ r.sent.length + (r.filled.filter (fun (f : RetRec) => !(r.sent.any (fun (x : Nat × Nat × Hdr) => x.1 == f.place)))).length))
  if !busy && past then (s.streamPieces k).foldl (fun s (p : Piece) => s.dropPiece p.key) s else s

/-- What a released chunk gives back: its piece's buffer, its piece slot (R116, R318, R319). -/
def State.releasedChunk (s : State) (h : Held) : State :=
  let x := h.x
  match x.source with
  | 3 => s.collReleased h.ctx h.step (sigGroup x.sig) (sigSeq x.sig) x.piece x.dst
  | 4 =>
    let s := s.count (Key.BWD_DELIVERED h.ctx) 1
    match s.delivSlot h.ctx h.step x.layer x.piece with | some p => s.dropSlot p | none => s
  | 8 => s.tileReleased h
  | 2 => s.dropPiece { ctx := h.ctx, step := h.step, layer := x.layer, tile := x.tile, kind := 2, src := x.src, dst := x.dst, idx := x.seq }
  | _ =>
    let k (kind : Nat) : PieceKey :=
      { ctx := h.ctx, step := h.step, layer := x.layer, tile := x.tile, kind := kind, src := s.node, dst := x.dst, idx := x.piece }
    let gone (kd : Nat) : Bool := match s.piece (k kd) with | some p => p.sent | none => false
    if x.source = 1 then (if gone 1 then s.dropPiece (k 1) else s.dropPiece (k 10)) else s.dropPiece (k x.source)

/-- A refused exchange chunk at one of its two engines (R117). -/
def State.signatureStop (s : State) (c st layer : Nat) (node : Option Nat) (seq dom : Nat) : State :=
  (s.log { cls := Ec.signature, det := 0x10, dom := dom, ctx := some c, step := some st, layer := some layer, node := node,
           arg := 0xFFF <<< 20 ||| seq }).faultStop c st

/-- Records of a refused piece lost at the token's source (R117). -/
def State.loseRecords (s : State) (c st layer tile kind node piece : Nat) : State :=
  { s with losts := s.losts ++ [{ ctx := c, step := st, layer := layer, tile := tile, kind := kind, node := node, piece := piece }] }

/-! ### Return streams (R117, R122) -/

/-- Two return streams are the same one. -/
def Ret.same (a b : Ret) : Bool :=
  a.ctx == b.ctx && a.step == b.step && a.layer == b.layer && a.tile == b.tile && a.kind == b.kind && a.b1 == b.b1 && a.src == b.src

/-- A return stream replaced. -/
def State.setRet (s : State) (r : Ret) : State := { s with rets := s.rets.map (fun (x : Ret) => if x.same r then r else x) }

/-- SOURCE code of a return stream's pieces, 10 for B1. -/
def Ret.code (r : Ret) : Nat := if r.kind = 3 then 6 else if r.b1 then 10 else 1

/-- Return format of a stream, and its record length. -/
def State.retFmt (s : State) (r : Ret) : Nat := let l := s.layer r.ctx r.layer; if r.kind = 3 then lyIn l else lyRet l
def State.retLen (s : State) (r : Ret) : Nat := recordLen (s.retFmt r) (lyD (s.layer r.ctx r.layer))

/-- What stands at a place. -/
def Ret.at_ (r : Ret) (i : Nat) : Option RetRec := r.filled.find? (fun (f : RetRec) => f.place == i)

/-- The key of piece `j` of a return stream, and its length (R122). -/
def State.retKey (s : State) (r : Ret) (j : Nat) : PieceKey :=
  { ctx := r.ctx, step := r.step, layer := r.layer, tile := r.tile, kind := r.code, src := s.node, dst := r.src, idx := j }
def State.retPiece (s : State) (r : Ret) (j : Nat) : Nat := min 4096 (r.count * s.retLen r - 4096 * j)

/-- The places that have bytes in piece `j`: the first, and how many. -/
def State.retPlaces (s : State) (r : Ret) (j : Nat) : List Nat :=
  let l := s.retLen r
  let a := 4096 * j / l
  (List.range ((4096 * j + s.retPiece r j - 1) / l - a + 1)).map (a + ·)

/-- What is left of some holes once `n` bytes from `o` are written. -/
def cutHoles (o n : Nat) (hs : List (Nat × Nat)) : List (Nat × Nat) :=
  hs.flatMap (fun h =>
    (if h.1 < o then [(h.1, min (h.1 + h.2) o - h.1)] else []) ++
    (if o + n < h.1 + h.2 then [(max h.1 (o + n), h.1 + h.2 - max h.1 (o + n))] else []))

/-- Bytes written into a piece of `len` bytes, whose buffer is asked for with the first of them (R9, R88). -/
def State.pieceWrite (s : State) (k : PieceKey) (len o : Nat) (bs : Bytes) : State :=
  let s := s.addPiece { key := k, len := len, fill := zeros len, holes := [(0, len)] }
  match s.piece k with
  | none => s
  | some p =>
    let p := { p with holes := cutHoles o bs.length p.holes }
    match p.buf with
    | some a => (s.stgWrite (a + o) bs).setPiece p
    | none => s.setPiece { p with fill := p.fill.take o ++ bs ++ p.fill.drop (o + bs.length) }

/-- A record, or the header of a pad, written at its place of a return stream (R122). -/
def State.retPut (s : State) (r : Ret) (f : RetRec) (bs : Bytes) : State × Ret :=
  let a := f.place * s.retLen r
  let s := (List.range ((a + bs.length - 1) / 4096 - a / 4096 + 1)).foldl (fun s i =>
    let j := a / 4096 + i
    let lo := max a (4096 * j)
    let hi := min (a + bs.length) (4096 * (j + 1))
    s.pieceWrite (s.retKey r j) (s.retPiece r j) (lo - 4096 * j) (sub bs (lo - a) (hi - lo))) s
  (s, { r with filled := r.filled ++ [f] })

/-- The bytes at a place of a return stream as they stand, where the store holds them all (R9). -/
def State.retBytes (s : State) (r : Ret) (i : Nat) : Option Bytes :=
  let l := s.retLen r
  let js := (List.range ((i * l + l - 1) / 4096 - i * l / 4096 + 1)).map (fun j => i * l / 4096 + j)
  let ps := js.map (fun j => s.piece (s.retKey r j))
  if ps.all (fun p => match p with | some p => p.padOnly || p.buf.isSome | none => false) then
    some (sub ((ps.filterMap id).flatMap s.pieceBytes) (i * l % 4096) l)
  else none

/-- The header of a void return at a place (R117). -/
def State.voidHdr (s : State) (r : Ret) (i : Nat) : Hdr :=
  { place := i, kind := r.kind, fmt := s.retFmt r, gap := true, src := r.src, layer := r.layer, tile := r.tile, stepLo := r.step,
    token := 0xFFFFFFFF }

/-- A void return written at a place that is still empty. -/
def State.voidAt (x : State × Ret) (i : Nat) : State × Ret :=
  if (x.2.at_ i).isSome then x else
  x.1.retPut x.2 { place := i, at_ := x.1.time.ticks } (hdrBytes (x.1.voidHdr x.2 i) ++ zeros (x.1.retLen x.2 - 32))

/-- The phase number of the chunks that return a stream's pieces over links, where the plan has any (R229). -/
def State.retSeq (s : State) (r : Ret) : Option Nat :=
  let seqs := s.retSeqs r.ctx r.layer r.tile (if r.kind = 3 then 6 else 1)
  if r.b1 then seqs[1]? else seqs.head?

/-- CRC of the chunk that a return piece of the own node stands for, formed as if it were sent (R218). Its CHUNK_SEQ and
DEST_QUEUE, and a phase number that the plan does not name, are free. -/
def State.ownCrc (s : State) (r : Ret) (j : Nat) (bs : Bytes) (pad : Bool) : Nat :=
  let l := s.retLen r
  let free := Config.ownChunk (lexCode [r.layer, r.tile, r.code, j])
  let seq := (s.retSeq r).getD (free / 2 ^ 41 % 2 ^ 16)
  let x : Xfer :=
    { port := 0, source := r.code, layer := r.layer, tile := r.tile, piece := j, dst := s.node, seq := free % 2 ^ 32, queue := free / 2 ^ 32 % 512,
      len := bs.length, src := s.node, sig := sigWord (if r.kind = 3 then 4 else 2) (s.retFmt r) 0 seq l }
  let h := headsIn l (4096 * j) bs.length
  let k : Chunk := { x := x, plan := s.planId r.ctx, pad := pad, first := h.1, count := h.2, ctx := r.ctx, step := r.step }
  chCrc (k.header bs)
where
  lexCode (xs : List Nat) : Nat := xs.foldl (fun a x => a * 2 ^ 24 + x) 0

/-- A return piece whose every place has been written is complete (R122); one that nothing was written into lies within pad payloads.
A piece of the own node enters the phase fold (R229). -/
def State.formReturn (s : State) (r : Ret) (j : Nat) : State :=
  let k := s.retKey r j
  let n := s.retPiece r j
  let own := decide (r.src = s.node)
  let s := match s.piece k with
    | some p =>
      s.setPiece { p with ready := true, crc := if own then s.ownCrc r j (s.pieceBytes p) false else 0, arrival := s.time.ticks }
    | none =>
      s.addPiece { key := k, len := n, padOnly := true, ready := true, holes := [(0, n)],
                   crc := if own then s.ownCrc r j (zeros n) true else 0, arrival := s.time.ticks }
  match (if own then s.retSeq r else none), s.piece k with
  | some q, some p => (s.notePhase r.ctx r.step q [r.layer, r.tile, s.node, s.node, j] p.crc).phaseFold r.ctx r.step q
  | _, _ => s

/-- Return pieces that have become complete are formed (R122). -/
def State.formReturns (s : State) (r : Ret) : State :=
  let js := (List.range (ceilDiv (r.count * s.retLen r) 4096)).filter (fun j =>
    !(r.made.contains j) && (s.retPlaces r j).all (fun i => (r.at_ i).isSome))
  js.foldl (fun s j => s.formReturn r j) (s.setRet { r with made := r.made ++ js })

/-- Some record that the bytes of return piece `j` answer left on a tile port that had an answer refused (R117). -/
def State.retRefused (s : State) (r : Ret) (j : Nat) : Bool :=
  r.sent.any (fun (x : Nat × Nat × Hdr) => s.refusedTiles.contains (r.ctx, r.step, x.2.1) && (s.retPlaces r j).contains x.1)

/-- At the readiness point of return piece `j`, void returns at every place of it still empty, if a tile port has had an answer refused
for one of its records (R117). -/
def State.fillVoids (s : State) (r : Ret) (j : Nat) : State :=
  if s.retRefused r j && decide (4096 * j < r.count * s.retLen r) then
    let x := (s.retPlaces r j).foldl State.voidAt (s, r)
    (x.1.setRet x.2).formReturns x.2
  else s

/-- The same for the return piece that a SEND carries. -/
def State.voidFill (s : State) (c st : Nat) (x : Xfer) : State :=
  if x.source = 1 || x.source = 6 then
    (s.rets.filter (fun (r : Ret) => r.ctx == c && r.step == st && r.layer == x.layer && r.tile == x.tile && r.src == x.dst &&
      (r.kind == 3) == (x.source == 6))).foldl (fun s (r : Ret) => s.fillVoids r x.piece) s
  else s

/-- The return stream of a tile-port chunk. -/
def State.retOf (s : State) (h : Held) : Option Ret :=
  s.rets.find? (fun (r : Ret) => r.ctx == h.ctx && r.step == h.step && r.layer == h.x.layer && r.tile == h.x.tile && r.src == h.from_ &&
    r.b1 == (h.kind == 7) && r.kind == (if h.kind = 5 then 3 else 1))

/-- A copy refused by its receiver (R117, R325). -/
def State.refusedChunk (s : State) (h : Held) : State :=
  let x := h.x
  if x.source = 3 || (x.source = 2 && sigOp x.sig = 8 && sigGroup x.sig ≠ 0xFFF) then
    let o := s.collNamed h.ctx h.step (sigGroup x.sig) (sigSeq x.sig) x.layer
    let s := s.collAbort o 0x31 0x20 (some x.dst)
    if x.source = 3 then s.collReleased h.ctx h.step o.group o.seq x.piece x.dst else s.releasedChunk h
  else
    let s := s.signatureStop h.ctx h.step x.layer (some x.dst) (sigSeq x.sig) (portDomain x.port)
    let s := if x.source = 0 || x.source = 5 || x.source = 7 then s.loseRecords h.ctx h.step x.layer x.tile x.source x.dst x.piece else s
    if x.source = 8 then
      match s.retOf h with
      | some r =>
        let y := h.places.foldl State.voidAt (s, r)
        ((y.1.setRet y.2).formReturns y.2).releasedChunk h
      | none => s
    else if x.source = 4 then (match s.delivSlot h.ctx h.step x.layer x.piece with | some p => s.dropSlot p | none => s)
    else s.releasedChunk h

/-- A held copy forgotten. -/
def State.dropHeld (s : State) (h : Held) : State := { s with helds := s.helds.erase h }

/-- A release of a held copy (R116): STATUS 0 released, 1 re-send, 2 refused. -/
def State.takeRelease (s : State) (h : Held) (status : Nat) : State :=
  if status = 0 then (s.dropHeld h).releasedChunk h
  else if status = 1 then { s with helds := s.helds.map (fun (x : Held) => if x = h then { x with again := true } else x) }
  else if status = 2 then (s.dropHeld h).refusedChunk h
  else s

/-- The slots from a copy's sending to the arrival that a release word names, by its 8 bits of frame and slot (Table 5.6). -/
def relAge (h : Held) (w : Nat) : Nat := (bits w 8 8 * 256 + bits w 0 8 + 65536 - h.slot % 65536) % 65536

/-- The held copy that a release word on a link port names (R116): sent in slot s, it is planned to arrive in slot s + F. DEDUCED (log entry 43):
a short image that arrived earlier (R451) is the oldest copy that can have arrived in the slot named. -/
def State.heldFor (s : State) (p w : Nat) : Option Held :=
  let hs := s.helds.filter (fun (h : Held) => h.x.port == p)
  match hs.find? (fun (h : Held) => relAge h w == s.flight h.ctx p) with
  | some h => some h
  | none => hs.find? (fun (h : Held) => decide (relAge h w < s.flight h.ctx p))

/-- TRAILER_ARRIVAL (R111). -/
def trailerArrivalOp (p : Nat) (trailer : BitVec 512) (s : State) : State :=
  if p < 48 && (s.port p).up then
    let bs := le 64 trailer.toNat
    let s := if (s.port p).heard = some s.fslot then s else s.count64 (Key.LNK_RX_FLITS p) 1
    if u bs 56 8 ≠ crc32c (bs.take 56) then s.count64 (Key.LNK_CHECK_FAIL p) 1
    else (List.range 7).foldl (fun s i =>
      let w := u bs (8 * i) 8
      if bit w 18 then (match s.heldFor p w with | some h => s.takeRelease h (bits w 16 2) | none => s) else s) s
  else s

/-- RELEASE_DEADLINE (R116): no release by the end of slot s + 2F + 3. -/
def releaseDeadlineOp (p seq src dst : Nat) (s : State) : State :=
  match s.helds.find? (fun (h : Held) => h.x.port == p && h.x.seq == seq && h.x.src == src && h.x.dst == dst && !h.again &&
      decide (h.slot + 2 * s.flight h.ctx p + 3 < s.fslot)) with
  | some h => { s with helds := s.helds.map (fun (x : Held) => if x = h then { x with again := true } else x) }
  | none => s

/-! ### Re-sends and late chunks (R116, R188) -/

/-- A chunk that waits for an unplanned slot: a copy to re-send, or a late chunk that is complete now. -/
inductive Waiting where
  | again (h : Held)
  | late (l : Late) (r : Ready)
deriving DecidableEq, Repr, Inhabited

/-- Its place in the order of R116: step, CHUNK_SEQ, destination. -/
def Waiting.key : Waiting → List Nat
  | .again h => [h.step, h.x.seq, h.x.dst]
  | .late l _ => [l.step, l.x.seq, l.x.dst]

/-- A tile port may still send `n` chunks of a context in the slot in force (R459); a link port has no such bound. -/
def State.tileRoom (s : State) (c p n : Nat) : Bool :=
  decide (p < 48) || decide ((s.tileTxNow (p - 48)).chunks + n ≤ chunksPerSlot (s.planMhz c))

/-- The first chunk that may leave on a port in the slot in force, on the route it takes now. -/
def State.nextAgain (s : State) (p : Nat) : Option Waiting :=
  let may (c : Nat) (x : Xfer) : Bool := s.routePort c 2 x == p && s.freeSend c p && s.tileRoom c p 1
  let as := (s.helds.filter (fun (h : Held) => h.again && may h.ctx h.x)).map Waiting.again
  let ls := s.lates.filterMap (fun (l : Late) =>
    if l.due && may l.ctx l.x then (s.sendReady l.ctx l.step l.x).map (Waiting.late l) else none)
  (sortBy (fun (a b : Waiting) => lexLt a.key b.key) (as ++ ls)).head?

/-- A waiting chunk sent on a port. -/
def State.sendWaiting (s : State) (p : Nat) : Waiting → State
  | .late l r => { s with lates := s.lates.erase l }.sendChunk l.ctx l.step { l.x with port := p } { r with x := { r.x with port := p } }
  | .again h =>
    let s := { s with helds := s.helds.map (fun (x : Held) =>
      if x = h then { x with again := false, slot := s.fslot, x := { x.x with port := p } } else x) }
    let s := ((s.readRuns h.reads).sendCopy p h.bytes).count (Key.EXC_RESEND_COUNT h.ctx) 1
    let hd := u h.bytes 0 64
    s.trace 0x03 (some h.ctx) (s.attemptOf h.ctx h.step) (some p) (p <<< 48 ||| h.x.src <<< 32 ||| h.x.seq)
      (h.x.piece <<< 48 ||| h.x.tile <<< 32 ||| chCrc hd)

/-! ### The slot start -/

/-- One more slot without a timing word counted on every link port (R204). -/
def State.countSilence (s : State) : State :=
  { s with ports := s.ports.map (fun (x : LinkPort) => { x with silent := x.silent + 1 }) }

/-- Entries that a tile port owes leave in control flits of 15 entries, at most 8 in a slot (R458, R459): those that wait, then the
releases due. -/
def State.sendTileRels (s : State) (t : Nat) : State :=
  if !(s.tileUp t) then s else
  let ws := ((s.ctlWait.filter (fun (e : Nat × Bytes) => e.1 == t)).map (·.2)).take 120
  let rs := (s.dueRels (48 + t)).take (120 - ws.length)
  let es := ws ++ rs.map (fun (r : Rel) => ctlEntry 1 r.ctx r.status 0 r.seq r.step)
  let later := (s.ctlWait.filter (fun (e : Nat × Bytes) => e.1 == t)).drop 120
  let s := { s with rels := s.rels.filter (fun (r : Rel) => !(rs.contains r)),
                    ctlWait := s.ctlWait.filter (fun (e : Nat × Bytes) => e.1 != t) ++ later }
  (List.range (ceilDiv es.length 15)).foldl (fun s i => s.emitControl t ((es.drop (15 * i)).take 15)) s

/-- LINK_SLOT_START (R110, R191, R204, R459): timing words, and the trailer of every link slot that carries no chunk. -/
def linkSlotStartOp (s : State) : State :=
  let n := s.fslot
  let s := match s.time.slot with
    | some m => if n ≤ m then s.reachTick ((m + 1) / 256 * 2304 + (m + 1) % 256 * 9) else s
    | none => s
  let s := { s with time := { s.time with slot := some s.fslot } }
  let s := (List.range 48).foldl State.sendTiming s.countSilence
  if s.phase == .running then
    let s := (List.range 48).foldl (fun s p =>
      if (s.port p).up && !(s.sendPlanned p) && (s.nextAgain p).isNone then s.sendImage p [] else s) s
    (List.range 16).foldl State.sendTileRels (s.emit .tileSlot)
  else s

/-- RELEASE_DEADLINE. -/
def execReleaseDeadline (port seq src dst : Nat) (s : State) : Host.Outcome State Fault Refusal :=
  .next (act (releaseDeadlineOp port seq src dst) s)
/-- LINK_SLOT_START: timing words run through a warm reset (R404). -/
def execLinkSlotStart (s : State) : Host.Outcome State Fault Refusal := .next (actTime linkSlotStartOp s)

end Sys2Proof.Machine
end

