-- ==== Sys2Proof/Machine/Exchange.lean ====
section
/-! DEFINITION. The token exchange on links: SEND, RECEIVE, arrival checks and commits, late outputs and the timeouts of the
exchange (R110 to R117, R184, R188, R325, R327, R416). -/

namespace Sys2Proof.Machine

open Sys2Proof

/-- Frame within the step, for EC_OVERRUN (Table 17.6). -/
def State.frameInStep (s : State) (c : Nat) : Nat := (s.planFrame - (s.ctx c).first) % 65536

/-! ### Late outputs (R188) -/

/-- The fabric tick of a plan tick, as slips stand now. -/
def State.fabricAt (s : State) (t : Nat) : Nat := s.tick + t - s.planTick

/-- The counter, the event and the slip request of a late output. `ready` is the fabric tick of its readiness point (Table 7.10): its safe
point is NOTICE_SPAN after it. -/
def State.overrun (s : State) (c st ready : Nat) (layer : Option Nat) : State :=
  let s := s.count (Key.TT_OVERRUN_COUNT c) 1
  let s := s.log { cls := Ec.overrun, det := 0x01, dom := 23, ctx := some c, step := some st, layer := layer,
                   arg := s.frameInStep c <<< 16 }
  s.requestSlip (ceilDiv (ready + s.noticeSpan c) 2304)

/-- The statistics block of a layer is written: every tile of the step has added its part (R67). -/
def State.statsDone (s : State) (c st layer : Nat) : Bool :=
  (s.stats.filter (fun (p : StatPart) => p.ctx == c && p.step == st && p.layer == layer)).length == lyTiles (s.layer c layer)

/-- Outputs that are neither chunks nor tile-port sends, by `kind`: 0 to 2 the combines (WORK), 3 route-log tile, 4
logit-save tile, 5 output-save tile, 6 statistics block, 8 the result of the collective that `layer` and `tile` name by group and
sequence number (R316). -/
def State.outDone (s : State) (c st kind layer tile : Nat) : Bool :=
  let comb (w : Nat) : Bool :=
    s.combs.any (fun (k : Comb) => k.ctx == c && k.step == st && k.layer == layer && k.tile == tile && k.work == w && k.closed)
  let win (n : Nat) : Bool := s.wins.any (fun (w : Win) => w.ctx == c && w.step == st && w.layer == layer && w.tile == tile && w.work == 0 &&
    decide (n ≤ w.stage))
  match kind with
  | 0 | 1 | 2 => comb kind
  | 3 => win 5
  | 4 => win 4
  | 5 => comb 0
  | 6 => s.statsDone c st layer
  | 8 => match s.coll c st layer tile with | some o => o.done || o.aborted != 0 | none => false
  | _ => true

/-- The latest of some ticks of the step, as a plan tick. -/
def State.lastTick (s : State) (c : Nat) (ts : List Nat) : Option Nat :=
  if ts.isEmpty then none else some ((s.ctx c).first * 2304 + ts.foldl max 0)

/-- The readiness point of such an output in the current step, as a plan tick (Table 7.10, R131, R316): none where the plan has no such output. -/
def State.readyAt (s : State) (c kind layer tile : Nat) : Option Nat :=
  let comb (w : Nat) : Option Nat := (s.combs.find? (fun (k : Comb) =>
    k.ctx == c && k.step == s.step c && k.layer == layer && k.tile == tile && k.work == w)).map Comb.closeAt
  let cs := s.planNow c
  match kind with
  | 0 | 1 | 2 => comb kind
  | 5 => comb 0
  | 3 | 4 => s.lastTick c ((cs.filter (fun (k : Cmd) => k.layer == layer && k.tile == tile &&
      ((k.sends 0 && k.xfer.src == s.node) || (k.cls == 3 && k.tsSrc == s.node && k.tsDir == 0)))).map (fun (k : Cmd) => 9 * (k.slot + 1)))
  | 6 => ((phaseAt cs 6 1 layer none).head?).map (fun t => (s.ctx c).first * 2304 + (phaseAt cs 6 1 layer none).foldl min t)
  | 8 => s.lastTick c ((cs.filter (fun (k : Cmd) => k.receives 3 && k.xfer.dst == s.node && sigGroup k.xfer.sig == layer &&
      sigSeq k.xfer.sig == tile)).map (fun (k : Cmd) => 9 * (k.slot + 3)))
  | _ => none

/-- A late output noted, with its overrun. -/
def State.noteLateOut (s : State) (c st kind layer tile ready : Nat) : State :=
  let l : LateOut := { ctx := c, step := st, kind := kind, layer := layer, tile := if kind = 6 then 0 else tile }
  if s.lateOuts.contains l then s else
  let ly := if kind = 8 then (s.coll c st layer tile).map Coll.layer else some layer
  ({ s with lateOuts := s.lateOuts ++ [l] }).overrun c st (s.fabricAt ready) ly

/-! ### SEND -/

/-- A SEND noted as late, with its overrun; `ready` is its readiness point. -/
def State.lateSend (s : State) (l : Late) (ready : Nat) : State :=
  let s := s.overrun l.ctx l.step ready (some l.x.layer)
  { s with lates := s.lates ++ [l] }

/-- SEND (R110, R188). A chunk found late at its readiness point, or incomplete now, leaves the slot to the trailer alone. -/
def sendOp (c : Nat) (x : Xfer) (s : State) : State :=
  if s.mayIssue c 0x02 (xferFields x) then
    let st := s.step c
    let s := (s.issue c 0x02 (xferFields x) (some x.port)).voidFill c st x
    let only (s : State) : State := if x.port < 48 then s.sendImage x.port [] else s
    if s.lates.any (fun (l : Late) => l.ctx == c && l.step == st && l.x == x) then
      only { s with lates := s.lates.map (fun (l : Late) => if l.ctx == c && l.step == st && l.x == x then { l with due := true } else l) }
    else if s.sendNothing c st x then only s
    else match s.sendReady c st x with
      | some r => s.sendChunk c st x r
      | none => only (s.lateSend { ctx := c, step := st, x := x } ((s.fslot - 1) * 9))
  else s

/-! ### RECEIVE -/

/-- The step that plan frame `f` belongs to, for the frame in force and the one after it (R171, R421). -/
def State.stepAt (s : State) (c : Nat) (g : Prog) : Nat :=
  if g.k != 0 || (s.runs c && g.frame == s.planFrame) then s.step c
  else if s.tt c == 3 then s.get (Key.TT_FIRST_STEP c)
  else match (s.ctx c).replay with
    | some (r, _, _) => r
    | none => s.step c + 1

/-- Where the plan has a RECEIVE: step and plan stamp, of the frame in force or the next, the first one not expected yet. -/
def State.receiveAt (s : State) (c : Nat) (x : Xfer) : Option (Nat × Nat) :=
  let at_ := ((s.ctx c).progs.filter (fun (g : Prog) => !g.dropped && (g.frame == s.planFrame || g.frame == s.planFrame + 1))).flatMap
    (fun (g : Prog) => match g.bytes with
      | some bs => ((progCmds g.k g.src.off bs).filter (fun (k : Cmd) => k.cls == 4 && k.xfer == x)).map
          (fun (k : Cmd) => (s.stepAt c g, g.frame * 2304 + k.tick))
      | none => [])
  at_.find? (fun (a : Nat × Nat) => !(s.expects.any (fun (e : Expect) => e.ctx == c && e.step == a.1 && e.x == x)))

/-- KIND of the piece that an expectation fills; 10 for a return piece of B1, told from the forward return by the phase
number of its signature (R148). -/
def State.expectKind (s : State) (c st : Nat) (x : Xfer) : Nat :=
  if x.dst ≠ s.node then 2
  else if x.source = 1 then
    match s.fwdRets.find? (fun (r : Nat × Nat × Nat × Nat × Nat) => r.1 == c && r.2.1 == st && r.2.2.1 == x.layer && r.2.2.2.1 == x.tile) with
    | some r => if r.2.2.2.2 = sigSeq x.sig then 1 else 10
    | none => 1
  else x.source

/-- The key of the piece an expectation fills. -/
def Expect.key (e : Expect) : PieceKey :=
  { ctx := e.ctx, step := e.step, layer := e.x.layer, tile := e.x.tile, kind := e.kind, src := e.x.src, dst := e.x.dst,
    idx := if e.relay then e.x.seq else e.x.piece }

/-- An expectation that fills a piece slot rather than a buffer (R319). -/
def Expect.inSlot (e : Expect) : Bool := e.x.source == 3 && !e.relay

/-- The SEND that a context plans on a port in the slot after the slot in force, with its step: its readiness point is now
(Table 7.10). -/
def State.sendNext (s : State) (c p : Nat) : Option (Nat × Xfer) :=
  let n := s.slot + 1
  let f := s.planFrame + n / 256
  if s.time.slipping && n ≠ 256 then none else
  (((s.ctx c).progs.filter (fun (g : Prog) => !g.dropped && g.frame == f)).flatMap (fun (g : Prog) => match g.bytes with
    | some bs => ((progCmds g.k g.src.off bs).filter (fun (k : Cmd) => k.cls == 2 && k.xfer.port == p && k.tick / 9 == n % 256)).map
        (fun (k : Cmd) => (s.stepAt c g, k.xfer))
    | none => [])).head?

/-- A SEND still incomplete at its readiness point (R188). -/
def State.chunkLate (s : State) (c p : Nat) : State :=
  match s.sendNext c p with
  | none => s
  | some (st, x) =>
    let s := s.voidFill c st x
    if (s.sendReady c st x).isSome || s.sendNothing c st x || s.lates.any (fun (l : Late) => l.ctx == c && l.step == st && l.x == x) then s
    else s.lateSend { ctx := c, step := st, x := x, due := false } (s.fslot * 9)

/-- OUTPUT_LATE (R188): an output is incomplete at its readiness point. `kind` 0 to 6 and 8 name the output as `outDone` does; 7 is the
chunk of the SEND planned on port `layer` in the next slot. -/
def outputLateOp (c kind layer tile : Nat) (s : State) : State :=
  if !(s.tt c == 3 || s.runs c) then s
  else if kind = 7 then s.chunkLate c layer
  else match s.readyAt c kind layer tile with
    | some t => if s.runs c && decide (t ≤ s.planTick + 1) && !(s.outDone c (s.step c) kind layer tile) then
        s.noteLateOut c (s.step c) kind layer tile t else s
    | none => s

/-- The expectation of a RECEIVE becomes outstanding in a step, and its receive buffer is asked for. -/
def State.openExpect (s : State) (c st stamp : Nat) (x : Xfer) : State :=
  if s.expects.any (fun (e : Expect) => e.ctx == c && e.step == st && e.x == x) then s else
  let kind := s.expectKind c st x
  let s := if kind = 1 && x.source = 1 && !(s.fwdRets.any (fun r => r.1 == c && r.2.1 == st && r.2.2.1 == x.layer && r.2.2.2.1 == x.tile))
    then { s with fwdRets := s.fwdRets ++ [(c, st, x.layer, x.tile, sigSeq x.sig)] } else s
  let e : Expect := { ctx := c, step := st, x := x, relay := x.dst != s.node, stamp := stamp, kind := kind }
  let s := { s with expects := s.expects ++ [e] }
  if e.inSlot then s else s.addPiece { key := e.key, len := x.len, rx := true }

/-- RECEIVE (R184): at its tick the command is issued and its expectation stands; before it, outside slip frames (R202), the port opens an
expectation that the plan names for this frame or the next. -/
def receiveOp (c : Nat) (x : Xfer) (s : State) : State :=
  if s.mayIssue c 0x04 (xferFields x) then
    (s.issue c 0x04 (xferFields x) (some x.port)).openExpect c (s.step c) s.stamp x
  else if s.time.slipping || s.time.slipDue || !(s.tt c == 3 || s.runs c) then s
  else match s.receiveAt c x with
    | some a => s.openExpect c a.1 a.2 x
    | none => s

/-! ### Arrival (R114, R115) -/

/-- An expectation's header fields agree (check 4 of Table 5.7). -/
def State.fieldsAgree (s : State) (e : Expect) (h : Nat) : Bool :=
  chCtx h == e.ctx && chStep h == e.step && chLayer h == e.x.layer && chTile h == e.x.tile && chPiece h == e.x.piece &&
  chPlan h == s.planId e.ctx && chLen h == e.x.len && chDst h == e.x.dst && chSrc h == e.x.src

/-- A chunk's header names an expectation (R114). -/
def Expect.named (e : Expect) (h : Nat) : Bool :=
  chCtx h == e.ctx && chStep h == e.step && chSrc h == e.x.src && chSeq h == e.x.seq

/-- The expectation that an arriving chunk is matched to: that of the slot in force on its port, else one that its header
names (R114, R184). Of several in one slot of a tile port (R118) it is the one that the header names, else the first to come. -/
def State.expectFor (s : State) (p h : Nat) : Option Expect :=
  let now := s.planFrame * 256 + s.slot
  let es := s.expects.filter (fun (e : Expect) => s.routePort e.ctx 4 e.x == p)
  let due := if s.time.slipping then [] else es.filter (fun (e : Expect) => e.x.port == p && e.stamp / 9 == now)
  match due.find? (fun (e : Expect) => e.named h), due.find? (fun (e : Expect) => !e.committed), due.head? with
  | some e, _, _ => some e
  | none, some e, _ => some e
  | none, none, some e => some e
  | none, none, none => es.find? (fun (e : Expect) => e.named h)

/-- An expectation replaced by key. -/
def State.setExpect (s : State) (old new : Expect) : State :=
  { s with expects := s.expects.map (fun (e : Expect) => if e = old then new else e) }

/-- A release for a copy that arrived in a slot on a port; on a tile port the series goes on with it but where it asks for a re-send
(R455). -/
def State.releaseIn (s : State) (p slot : Nat) (e : Expect) (status : Nat) : State :=
  let s := if p < 48 || status = 1 then s else
    s.setSeq e.ctx e.step (p - 48) false (max (s.nextSeq e.ctx e.step (p - 48) false) (e.x.seq + 1))
  s.queueRel p status slot e.ctx e.x.seq e.step p

/-- A release for a copy that arrived now on a port. -/
def State.releaseNow (s : State) (p : Nat) (e : Expect) (status : Nat) : State := s.releaseIn p s.fslot e status

/-- The completion notice of a committed chunk (R265): to a queue of the context's partition, so that a relay posts none to the queue of the
chunk's destination (R470). -/
def State.chunkNotice (s : State) (p : Nat) (e : Expect) (pad : Bool) (buffer : Nat) : State :=
  let x := e.x
  if !(s.ownsQueue e.ctx x.queue) then s else
  s.postWord x.queue 0x01 (portDomain p) e.ctx (p <<< 34 ||| b2n pad <<< 33 ||| b2n e.relay <<< 32 ||| x.seq)
    (le 8 (e.step % 2 ^ 48) ++ le 2 x.src ++ le 2 x.dst ++ le 2 x.tile ++ le 2 x.piece ++ le 1 x.layer ++ le 1 (sigOp x.sig) ++
      le 2 x.len ++ le 4 buffer)

/-- What every first commit does besides its buffer: the release, the trace record, the metering, the notice. -/
def State.committedChunk (s : State) (p slot : Nat) (e : Expect) (h : Nat) (pad : Bool) (buffer : Nat) : State :=
  let x := e.x
  let s := s.setExpect e { e with committed := true, hdr := h, inHand := none }
  let s := s.tap 5 e.ctx (64 + (if pad then 0 else x.len))
  let s := s.trace 0x02 (some e.ctx) (s.attemptOf e.ctx e.step) (some p) (p <<< 48 ||| x.src <<< 32 ||| x.seq)
    (x.piece <<< 48 ||| x.tile <<< 32 ||| chCrc h)
  (s.chunkNotice p e pad buffer).releaseIn p slot e 0

/-- A chunk's payload put into its receive buffer; none until the buffer is granted. A pad-only chunk has none, and its buffer goes back,
or is no longer asked for (R115). -/
def State.putPayload (s : State) (c : Nat) (q : Piece) (pad : Bool) (bs : Bytes) : Option State :=
  if pad then
    some (match q.buf with
      | some a => freeOp false c a s
      | none => { s with pools := s.pools.map (fun (k : PoolClass) => { k with wait := k.wait.filter (fun (r : PoolReq) => r.key != q.key) }) })
  else if q.len = 0 then some s
  else q.buf.map (fun a => s.stgWrite a bs)

/-- A chunk that passed every check committed to its receive buffer (R115); until the buffer is granted it waits uncommitted (R9). -/
def State.commitPiece (s : State) (e : Expect) (y : InHand) : State :=
  let pad := chPad y.hdr
  let x := e.x
  let s := s.addPiece { key := e.key, len := x.len, rx := true, padOnly := pad }
  match s.piece e.key with
  | none => s
  | some q =>
    match s.putPayload e.ctx { q with len := x.len } pad y.bytes with
    | none => s.setExpect e { e with inHand := some y }
    | some s =>
      let buf := if pad then none else q.buf
      let s := s.setPiece { q with padOnly := pad, buf := buf, ready := true, crc := chCrc y.hdr, arrival := s.time.ticks, port := y.port }
      let s := if decide (1 ≤ sigOp x.sig ∧ sigOp x.sig ≤ 4) then
          s.notePhase e.ctx e.step (sigSeq x.sig) [x.layer, x.tile, x.src, x.dst, x.piece] (chCrc y.hdr) else s
      (s.committedChunk y.port y.slot e y.hdr pad (buf.getD 0)).phaseFold e.ctx e.step (sigSeq x.sig)

/-- Chunks in hand whose buffers have been granted commit. -/
def State.commitInHand (s : State) : State :=
  s.expects.foldl (fun s (e : Expect) =>
    match e.inHand, s.piece e.key with
    | some y, some q => if q.buf.isSome then s.commitPiece e y else s
    | _, _ => s) s

/-- A collective chunk toward this member that passed every check (R319, R325 to R327). -/
def State.commitColl (s : State) (p : Nat) (e : Expect) (h : Nat) (bs : Bytes) : State :=
  let x := e.x
  let g := sigGroup x.sig
  let q := sigSeq x.sig
  let o := s.collNamed e.ctx e.step g q x.layer
  let passed (s : State) : State := (s.setExpect e { e with committed := true, hdr := h }).releaseNow p e 0
  if chPad h && (chCount h == 0x31 || chCount h == 0x32) then
    passed (s.collAbort o (chCount h) (if chCount h = 0x31 then 0x21 else 2) (some x.src))
  else if o.aborted ≠ 0 then passed s
  else match s.takeSlot e.ctx e.step g q x.piece false with
    | none => (s.count (Key.CLE_SLOT_WAIT e.ctx) 1).releaseNow p e 1
    | some (s, w) =>
      let up := s.collParent o x.piece == some x.src
      let s := s.putPart w (if up then 2 else 0) x.src bs
      s.committedChunk p s.fslot e h false (s.slotAddr w)

/-- A chunk refused for its signature here (R117, R325). -/
def State.refuseArrival (s : State) (p : Nat) (e : Expect) : State :=
  let x := e.x
  let s := s.releaseNow p e 2
  let s := s.setExpect e { e with committed := true, void := true }
  let coll := x.source = 3 || (e.relay && sigOp x.sig = 8 && sigGroup x.sig ≠ 0xFFF)
  let s := if coll then s.collAbort (s.collNamed e.ctx e.step (sigGroup x.sig) (sigSeq x.sig) x.layer) 0x31 0x20 (some x.src) else s
  if e.inSlot then s
  else
    let s := if coll then s else s.signatureStop e.ctx e.step x.layer (some x.src) (sigSeq x.sig) (portDomain p)
    let s := if e.kind = 1 || e.kind = 6 || e.kind = 10 then s.loseRecords e.ctx e.step x.layer x.tile e.kind x.src x.piece else s
    match s.piece e.key with
    | some q => s.setPiece { q with void := true, ready := true, arrival := s.time.ticks, port := p }
    | none => s

/-- The checks of Table 5.7 on an arriving chunk. -/
def State.arrive (s : State) (p h : Nat) (payload : Bytes) : State :=
  let ev (cls det c st layer src : Nat) : Ev :=
    { cls := cls, det := det, dom := portDomain p, ctx := some c, step := some st, layer := some layer, node := some src,
      arg := (chSeq h % 65536) <<< 16 ||| p }
  match s.expectFor p h with
  | none => s.log (ev Ec.seq 0x01 (chCtx h) (chStep h) (chLayer h) (chSrc h))
  | some e =>
    let bs := if chPad h then zeros (chLen h) else sub payload 0 (chLen h)
    if chCrc h ≠ chunkCrc e.x.seq e.x.dst e.x.queue h bs then
      let s := s.log (ev Ec.crc (if p < 48 then 0x01 else 0x02) e.ctx e.step e.x.layer e.x.src)
      (if p < 48 then s.count64 (Key.LNK_CHECK_FAIL p) 1 else s).releaseNow p e 1
    else if chSig h ≠ e.x.sig then s.refuseArrival p e
    else if !(s.fieldsAgree e h) then s.log (ev Ec.seq 0x02 e.ctx e.step e.x.layer e.x.src)
    else if e.committed then (s.count (Key.EXC_DUP_COUNT e.ctx) 1).releaseNow p e 0
    else if e.inSlot then s.commitColl p e h bs
    else s.commitPiece e { port := p, slot := s.fslot, hdr := h, bytes := bs }

/-- CHUNK_ARRIVAL (R114): on a link port, or an engine's chunk on a tile port under its series number (R455). -/
def chunkArrivalOp (p : Nat) (hdr : BitVec 512) (payload : Bytes) (s : State) : State :=
  let h := hdr.toNat
  let n := 64 + (if chPad h then 0 else chLen h)
  if p < 48 then
    if (s.port p).up then
      let s := s.count64 (Key.LNK_RX_FLITS p) (ceilDiv (alignUp n 64 + 64) 128)
      (s.setPort p { s.port p with heard := some s.fslot }).arrive p h payload
    else s
  else if p < 64 && s.tileUp (p - 48) then
    let s := s.count64 (Key.TP_RX_BYTES (p - 48)) n
    let c := chCtx h
    let st := chStep h
    let next := s.nextSeq c st (p - 48) false
    if chSeq h < next then (s.count (Key.EXC_DUP_COUNT c) 1).queueRel p 0 s.fslot c (chSeq h) st p
    else if next < chSeq h then s
    else s.arrive p h payload
  else s

/-! ### Timeouts (R416, R417) -/

/-- CHUNK_RELEASE_TIMEOUT: 4 plan frames since a held chunk's first send slot. -/
def chunkReleaseTimeoutOp (c seq src dst : Nat) (s : State) : State :=
  match s.helds.find? (fun (h : Held) => h.ctx == c && h.x.seq == seq && h.x.src == src && h.x.dst == dst && s.expired h.stamp 4) with
  | none => s
  | some h =>
    let s := s.dropHeld h
    let s := s.log { cls := Ec.seq, det := 0x04, dom := portDomain h.x.port, ctx := some c, step := some h.step, layer := some h.x.layer,
                     node := some h.x.dst, arg := (seq % 65536) <<< 16 ||| h.x.port }
    s.replayStep c

/-- EXPECTATION_TIMEOUT: 4 plan frames since a planned receive slot. -/
def expectationTimeoutOp (c seq src dst : Nat) (s : State) : State :=
  match s.expects.find? (fun (e : Expect) => e.ctx == c && e.x.seq == seq && e.x.src == src && e.x.dst == dst && s.expired e.stamp 4) with
  | none => s
  | some e =>
    let s := { s with expects := s.expects.filter (fun (x : Expect) => x != e) }
    if e.committed then s else
    let s := s.log { cls := Ec.seq, det := 0x05, dom := portDomain e.x.port, ctx := some c, step := some e.step, layer := some e.x.layer,
                     node := some e.x.src, arg := (seq % 65536) <<< 16 ||| e.x.port }
    (if e.inSlot then s else s.dropPiece e.key).replayStep c

/-- SLOT_GUARD_EXPIRY: an image cut off at the slot guard is discarded without release. -/
def slotGuardExpiryOp (p : Nat) (s : State) : State :=
  if p < 48 && (s.port p).up then
    let now := s.planFrame * 256 + s.slot
    match s.expects.find? (fun (e : Expect) => e.x.port == p && e.stamp / 9 == now && !s.time.slipping) with
    | some e => s.log { cls := Ec.seq, det := 0x03, dom := portDomain p, ctx := some e.ctx, step := some e.step, layer := some e.x.layer,
                        node := some e.x.src, arg := (e.x.seq % 65536) <<< 16 ||| p }
    | none => s.log { cls := Ec.seq, det := 0x03, dom := portDomain p, arg := p }
  else s

/-- TILE_WATCHDOG_EXPIRY: a window has outlasted TILE_WD (R416). -/
def tileWatchdogExpiryOp (c layer tile work : Nat) (s : State) : State :=
  match s.wins.find? (fun (w : Win) => w.ctx == c && w.layer == layer && w.tile == tile && w.work == work && decide (w.stage < 5) &&
      !w.watched && s.expired w.stamp (u (s.hdr c) 30 2)) with
  | none => s
  | some w =>
    let x := s.ctx c
    let again := decide (0 < w.attempt) && x.outlasted.contains (w.step, layer, tile, work)
    let dom := if work = 1 then 13 else 7
    let s := (s.setWin { w with watched := true }).setCtx c { x with outlasted := x.outlasted ++ [(w.step, layer, tile, work)] }
    let s := s.log { cls := Ec.overrun, det := if again then 0x07 else 0x06, dom := dom, ctx := some c, step := some w.step, layer := some layer,
                     arg := s.frameInStep c <<< 16 ||| tile }
    if again then s.imposeStop c else s.replayStep c

/-- SEND. -/
def execSend (ctx : Nat) (x : Xfer) (s : State) : Host.Outcome State Fault Refusal := .next (actFresh (sendOp ctx x) s)
/-- RECEIVE. -/
def execReceive (ctx : Nat) (x : Xfer) (s : State) : Host.Outcome State Fault Refusal := .next (act (receiveOp ctx x) s)
/-- OUTPUT_LATE. -/
def execOutputLate (ctx kind layer tile : Nat) (s : State) : Host.Outcome State Fault Refusal :=
  .next (actFresh (outputLateOp ctx kind layer tile) s)
/-- CHUNK_RELEASE_TIMEOUT. -/
def execChunkReleaseTimeout (ctx seq src dst : Nat) (s : State) : Host.Outcome State Fault Refusal :=
  .next (act (chunkReleaseTimeoutOp ctx seq src dst) s)
/-- EXPECTATION_TIMEOUT. -/
def execExpectationTimeout (ctx seq src dst : Nat) (s : State) : Host.Outcome State Fault Refusal :=
  .next (act (expectationTimeoutOp ctx seq src dst) s)
/-- SLOT_GUARD_EXPIRY. -/
def execSlotGuardExpiry (port : Nat) (s : State) : Host.Outcome State Fault Refusal := .next (act (slotGuardExpiryOp port) s)
/-- TILE_WATCHDOG_EXPIRY. -/
def execTileWatchdogExpiry (ctx layer tile work : Nat) (s : State) : Host.Outcome State Fault Refusal :=
  .next (act (tileWatchdogExpiryOp ctx layer tile work) s)

end Sys2Proof.Machine
end

