-- ==== Sys2Proof/Machine/Tile.lean ====
section
/-! DEFINITION. Tile ports: TILE_SEND (R119, R120), tile-origin chunks and return streams (R33, R121, R122, R455, R456), control
flits received (R458), and the re-send queue of every port (R116, R188). -/

namespace Sys2Proof.Machine

open Sys2Proof

/-! ### TILE_SEND -/

/-- KIND of the pieces that a TILE_SEND reads: backward dispatch, the refetch dispatch of B1 once it is there, else the
forward dispatch. -/
def State.tileKind (s : State) (c st layer tile src dir : Nat) : Nat :=
  if dir = 1 then 5
  else if s.pieces.any (fun (p : Piece) => p.key.ctx == c && p.key.step == st && p.key.layer == layer && p.key.tile == tile && p.key.kind == 7 &&
      p.key.src == src && p.key.dst == s.node) then 7
  else 0

/-- Record length of a TILE_SEND's stream. -/
def State.tileLen (s : State) (c layer dir : Nat) : Nat :=
  let l := s.layer c layer
  recordLen (if dir = 1 then lyBwd l else lyDisp l) (lyD l)

/-- Places of the stream that `src` sent here (R81): those of the own stream, else the planned receives' bytes in records. -/
def State.streamPlaces (s : State) (c st layer tile src kind reclen : Nat) : Nat :=
  if src = s.node then
    ((s.streams.find? (fun (x : Stream) => x.ctx == c && x.step == st && x.layer == layer && x.tile == tile && x.kind == kind &&
      x.dst == src)).map (fun (x : Stream) => x.places.length)).getD 0
  else
    let plan := ((s.planNow c).filter (fun (k : Cmd) => k.receives kind && k.layer == layer && k.tile == tile && k.xfer.src == src &&
      k.xfer.dst == s.node)).map (fun (k : Cmd) => k.xfer.len)
    let here := (s.streamPieces { ctx := c, step := st, layer := layer, tile := tile, kind := kind, src := src, dst := s.node, idx := 0 }).map
      Piece.len
    max (plan.foldl (· + ·) 0) (here.foldl (· + ·) 0) / reclen

/-- The return stream that a TILE_SEND opens or continues. -/
def State.openRet (s : State) (c st layer tile src kind seq reclen : Nat) : State × Ret :=
  let r : Ret :=
    { ctx := c, step := st, layer := layer, tile := tile, kind := if kind = 5 then 3 else 1, b1 := kind == 7, src := src,
      count := s.streamPlaces c st layer tile src kind reclen, seq := seq }
  match s.rets.find? (fun (x : Ret) => x.same r) with
  | some x => (s, x)
  | none => ({ s with rets := s.rets ++ [r] }, r)

/-- One place read for tile-port egress (R117, R119): its record as it stands in state `o`, where it is sent; a pad and a lost record
are skipped and answered at once in the return stream. -/
def readPlace (o : State) (k : PieceKey) (reclen port : Nat) (acc : State × Ret × List (Nat × Bytes)) (i : Nat) :
    State × Ret × List (Nat × Bytes) :=
  let s := acc.1
  let r := acc.2.1
  let void := match o.spanPieces k (i * reclen) reclen with | some ps => ps.any Piece.void | none => true
  let bs := o.spanBytes k (i * reclen) reclen
  let h := hdrOf bs
  if void then let x := State.voidAt (s, r) i; (x.1, x.2, acc.2.2)
  else if h.pad then
    if (r.at_ i).isSome then acc
    else
      let x := s.retPut r { place := i, pad := true, at_ := s.time.ticks } (hdrBytes { h with kind := r.kind, fmt := s.retFmt r })
      (x.1, x.2, acc.2.2)
  else (s, { r with sent := r.sent ++ [(i, port, h)] }, acc.2.2 ++ [(i, bs)])

/-- The Staging Store runs of a record of a stream. -/
def State.placeRuns (s : State) (k : PieceKey) (reclen i : Nat) : List (Nat × Nat) :=
  let a := i * reclen
  (List.range ((a + reclen - 1) / 4096 - a / 4096 + 1)).filterMap (fun n =>
    let j := a / 4096 + n
    let lo := max a (4096 * j)
    (s.piece { k with idx := j }).bind (fun (p : Piece) => p.buf.map (fun b => (b + (lo - 4096 * j), min (a + reclen) (4096 * (j + 1)) - lo))))

/-- The chunks of a TILE_SEND sent (R119, R120). -/
def State.tileSendNow (s : State) (t : LateTile) : State :=
  let kind := s.tileKind t.ctx t.step t.layer t.tile t.src t.dir
  let l := s.tileLen t.ctx t.layer t.dir
  let k : PieceKey :=
    { ctx := t.ctx, step := t.step, layer := t.layer, tile := t.tile, kind := kind, src := t.src, dst := s.node, idx := 0 }
  let o := s.openRet t.ctx t.step t.layer t.tile t.src kind t.seq l
  let got := (List.range t.count).foldl (fun a i => readPlace o.1 k l t.port a (t.first + i)) (o.1, o.2, [])
  let sent := got.2.2
  let s := sent.foldl (fun s (x : Nat × Bytes) => s.readRuns (s.placeRuns k l x.1)) got.1
  let s := (s.setRet got.2.1).formReturns got.2.1
  let ly := s.layer t.ctx t.layer
  let fmt := if t.dir = 1 then lyBwd ly else lyDisp ly
  let all := (sent.map (·.2)).flatten
  let sig := sigWord (if t.dir = 1 then 3 else 1) fmt 0 t.seq l
  let s := (List.range (ceilDiv all.length 4096)).foldl (fun s j =>
    let a := 4096 * j
    let n := min 4096 (all.length - a)
    let seq := s.nextSeq t.ctx t.step t.port true
    let x : Xfer :=
      { port := 48 + t.port, source := 8, layer := t.layer, tile := t.tile, piece := j, dst := s.node, seq := seq, queue := 0, len := n,
        src := s.node, sig := sig }
    let h := headsIn l a n
    let ch : Chunk := { x := x, plan := s.planId t.ctx, pad := false, first := h.1, count := h.2, ctx := t.ctx, step := t.step }
    let bs := sub all a n
    let s := s.sendFirst t.ctx t.step x (ch.header bs) bs
    let ps := ((sent.zipIdx).filter (fun (y : (Nat × Bytes) × Nat) => decide (y.2 * l < a + n ∧ a < (y.2 + 1) * l))).map (·.1.1)
    { s with helds := s.helds.map (fun (y : Held) => if y.x == x && y.ctx == t.ctx && y.step == t.step then
        { y with from_ := t.src, kind := kind, places := ps, reads := ps.flatMap (s.placeRuns k l) } else y) }) s
  let s := if all.isEmpty then s.tileReleased
      { ctx := t.ctx, step := t.step, x := { (default : Xfer) with layer := t.layer, tile := t.tile, source := 8 }, bytes := [], slot := 0,
        stamp := 0, from_ := t.src, kind := kind } else s
  s.busy 13 (some t.ctx)

/-- The places of a TILE_SEND have committed (Table 7.10). -/
def State.tileSendReady (s : State) (t : LateTile) : Bool :=
  let kind := s.tileKind t.ctx t.step t.layer t.tile t.src t.dir
  let l := s.tileLen t.ctx t.layer t.dir
  (s.spanPieces { ctx := t.ctx, step := t.step, layer := t.layer, tile := t.tile, kind := kind, src := t.src, dst := s.node, idx := 0 }
    (t.first * l) (t.count * l)).isSome

/-- TILE_SEND (R119, R188). -/
def tileSendOp (c port layer tile src first count dir seq : Nat) (s : State) : State :=
  let w := tileFields port layer tile src first count dir seq
  if s.mayIssue c 0x03 w then
    let s := s.issue c 0x03 w (some (48 + port))
    let t : LateTile :=
      { ctx := c, step := s.step c, port := port, layer := layer, tile := tile, src := src, first := first, count := count, dir := dir, seq := seq }
    if s.tileSendReady t then s.tileSendNow t
    else ({ s with lateTiles := s.lateTiles ++ [t] }).overrun c t.step (s.fslot * 9) (some layer)
  else s

/-! ### Tile-origin chunks -/

/-- A returned record put into the return stream that its own SRC_NODE, LAYER and TILE_SEQ name in the current phase (R33, R122); `seq` is
the phase SEQ it answers, `arg` the ARG of its events, `cont` tells that it began in an earlier chunk. -/
def State.takeReturn (s : State) (c st layer port kind seq arg : Nat) (bs : Bytes) (cont : Bool) : State :=
  let h := hdrOf bs
  let ev (cls det arg : Nat) (node : Option Nat) : Ev :=
    { cls := cls, det := det, dom := 13, ctx := some c, step := some st, layer := some layer, node := node, arg := arg }
  match s.rets.find? (fun (r : Ret) => r.ctx == c && r.step == st && r.layer == h.layer && r.tile == h.tile && r.kind == kind && r.seq == seq &&
      r.src == h.src) with
  | none => s.log (ev Ec.seq 0x18 arg (some h.src))
  | some r =>
    if r.count ≤ h.place then s.log (ev Ec.seq 0x18 arg (some h.src))
    else if (r.at_ h.place).isSome then s.log (ev Ec.seq 0x15 arg (some h.src))
    else
      let bad := h.fmt != s.retFmt r
      let s := if bad then s.log (ev Ec.descRange 0x32 (port <<< 16) none) else s
      let raw := u bs 0 32
      let fixed := le 32 (setBit raw 75 - bits raw 80 4 * 2 ^ 80 + s.retFmt r * 2 ^ 80) ++ zeros (bs.length - 32)
      let x := s.retPut r { place := h.place, at_ := s.time.ticks, port := 48 + port, cont := cont } (if bad then fixed else bs)
      (x.1.setRet x.2).formReturns x.2

/-- The records of a chunk taken one return record length after another (R456). What is left over waits for the series' next chunk, which
ends it first: by the length of the answers it began among. The records that begin in the new chunk stand from there on, by its own
length `reclen`; where the chunk before was refused, from FIRST_OFFSET `first` on (R105). -/
def State.takeReturns (s : State) (c st layer port kind seq reclen first arg : Nat) (bs : Bytes) : State :=
  let mine (p : Partial) : Bool := p.ctx == c && p.step == st && p.port == port
  let old := s.partials.find? mine
  let keep := s.partials.filter (fun (p : Partial) => !(mine p))
  let lack := match old with | some p => p.reclen - p.bytes.length | none => min first bs.length
  let whole := decide (lack ≤ bs.length)
  let s := { s with partials := keep ++ (match old with
    | some p => if whole then [] else [{ p with bytes := p.bytes ++ bs }]
    | none => []) }
  let s := match old with
    | some p => if whole then s.takeReturn c st layer port p.kind p.seq arg (p.bytes ++ sub bs 0 lack) true else s
    | none => s
  if !whole then s else
  let new := bs.drop lack
  let n := if reclen = 0 then 0 else new.length / reclen
  let rest := new.drop (n * reclen)
  let s := if rest.isEmpty || reclen = 0 then s else
    { s with partials := s.partials ++ [{ ctx := c, step := st, port := port, kind := kind, seq := seq, reclen := reclen, bytes := rest }] }
  (List.range n).foldl (fun s i => s.takeReturn c st layer port kind seq arg (sub new (i * reclen) reclen) false) s

/-- A stream still awaits an answer from a tile port (R456). -/
def Ret.awaits (r : Ret) (port : Nat) : Bool :=
  r.sent.any (fun (x : Nat × Nat × Hdr) => x.2.1 == port && (r.at_ x.1).isNone)

/-- The signature that the answers to a stream's records carry (R456). -/
def State.answerSig (s : State) (r : Ret) : Nat := sigWord (if r.kind = 3 then 4 else 2) (s.retFmt r) 0 r.seq (s.retLen r)

/-- A tile-origin chunk that carries the number its series expects, `next` (R455, R456). -/
def State.originChunk (s : State) (port h next : Nat) (bs : Bytes) : State :=
  let c := chCtx h
  let st := chStep h
  let ev (cls det : Nat) : Ev :=
    { cls := cls, det := det, dom := 13, ctx := some c, step := some st, layer := some (chLayer h), arg := (next % 65536) <<< 16 ||| (48 + port) }
  let rel (status : Nat) (s : State) : State := s.queueRel (48 + port) status s.fslot c next st port
  if chCrc h ≠ chunkCrc next s.node 0 h bs then rel 1 (s.log (ev Ec.crc 0x02))
  else
    let rs := s.rets.filter (fun (r : Ret) => r.ctx == c && r.step == st && r.layer == chLayer h && r.tile == chTile h && r.awaits port)
    match rs.head?, rs.find? (fun (r : Ret) => s.answerSig r == chSig h) with
    | none, _ => s.log (ev Ec.seq 0x02)
    | some r, none =>
      -- the dispatch it answers is known, its signature is not that dispatch's
      let s := s.setSeq c st port false (next + 1)
      let s := { s with
        refusedTiles := s.refusedTiles ++ [(c, st, port)]
        partials := s.partials.filter (fun (p : Partial) => !(p.ctx == c && p.step == st && p.port == port)) }
      rel 2 (s.signatureStop c st (chLayer h) none r.seq 13)
    | some _, some r =>
      if chPlan h ≠ s.planId c || chDst h ≠ s.node || chSrc h ≠ s.node then s.log (ev Ec.seq 0x02)
      else
        let s := (s.setSeq c st port false (next + 1)).tap 5 c (64 + chLen h)
        let s := s.trace 0x02 (some c) (s.attemptOf c st) (some (48 + port)) ((48 + port) <<< 48 ||| chSrc h <<< 32 ||| next)
          (chPiece h <<< 48 ||| chTile h <<< 32 ||| chCrc h)
        (rel 0 (s.takeReturns c st (chLayer h) port r.kind r.seq (s.retLen r) (chFirst h)
          ((next % 65536) <<< 16 ||| (48 + port)) bs)).busy 13 (some c)

/-- TILE_ORIGIN_CHUNK (R455, R456). -/
def tileOriginChunkOp (port : Nat) (hdr : BitVec 512) (payload : Bytes) (s : State) : State :=
  if s.tileUp port then
    let h := hdr.toNat
    let c := chCtx h
    let st := chStep h
    let s := s.count64 (Key.TP_RX_BYTES port) (64 + chLen h)
    let next := s.nextSeq c st port false
    if chSeq h < next then (s.count (Key.EXC_DUP_COUNT c) 1).queueRel (48 + port) 0 s.fslot c (chSeq h) st port
    else if next < chSeq h then s
    else s.originChunk port h next (sub payload 0 (chLen h))
  else s

/-- One entry of a control flit from a tile: a RELEASE frees, re-sends or refuses the copy it names (R458, R459). -/
def State.tileEntry (s : State) (port : Nat) (e : Bytes) : State :=
  if u e 0 1 = 1 then
    match s.helds.find? (fun (h : Held) => h.x.port == 48 + port && h.ctx == u e 1 1 && h.x.seq == u e 4 4 && h.step == u e 8 8) with
    | some h => s.takeRelease h (u e 2 1)
    | none => s
  else s

/-- CONTROL_FLIT_RECEIVED (R458). -/
def controlFlitReceivedOp (port : Nat) (flit : Bytes) (s : State) : State :=
  if s.tileUp port then
    let s := s.count64 (Key.TP_RX_BYTES port) 256
    if u flit 252 4 ≠ crc32c (sub flit 0 252) then s
    else (List.range 15).foldl (fun s i => s.tileEntry port (sub flit (16 * i) 16)) s
  else s

/-- The first late TILE_SEND of a tile port whose places have committed, with its place in the order of R116: its chunks take the next
numbers of the port's series (R108). -/
def State.nextLateTile (s : State) (p : Nat) : Option (List Nat × LateTile) :=
  let need (t : LateTile) : Nat := ceilDiv (t.count * s.tileLen t.ctx t.layer t.dir) 4096
  (sortBy (fun (a b : List Nat × LateTile) => lexLt a.1 b.1)
    ((s.lateTiles.filter (fun (t : LateTile) => t.port + 48 == p && s.tileSendReady t && s.freeSend t.ctx p && s.tileRoom t.ctx p (need t))).map
      (fun t => ([t.step, s.nextSeq t.ctx t.step t.port true, s.node], t)))).head?

/-- RESEND_QUEUE_SEND (R116, R188): the first waiting chunk of a port leaves in the slot in force: a copy to re-send, a late chunk, or on a
tile port the chunks of a late TILE_SEND. -/
def resendQueueSendOp (p : Nat) (s : State) : State :=
  if !(if p < 48 then (s.port p).up else s.tileUp (p - 48)) then s else
  let late (t : LateTile) : State := ({ s with lateTiles := s.lateTiles.erase t }).tileSendNow t
  match s.nextAgain p, s.nextLateTile p with
  | some w, some t => if lexLt t.1 w.key then late t.2 else s.sendWaiting p w
  | some w, none => s.sendWaiting p w
  | none, some t => late t.2
  | none, none => s

/-- TILE_SEND. -/
def execTileSend (ctx port layer tile src first count dir seq : Nat) (s : State) : Host.Outcome State Fault Refusal :=
  .next (actFresh (tileSendOp ctx port layer tile src first count dir seq) s)
/-- TILE_ORIGIN_CHUNK. -/
def execTileOriginChunk (port : Nat) (hdr : BitVec 512) (payload : Bytes) (s : State) : Host.Outcome State Fault Refusal :=
  .next (actFresh (tileOriginChunkOp port hdr payload) s)
/-- RESEND_QUEUE_SEND. -/
def execResendQueueSend (port : Nat) (s : State) : Host.Outcome State Fault Refusal := .next (actFresh (resendQueueSendOp port) s)

end Sys2Proof.Machine
end

