-- ==== Sys2Proof/Machine/Combine.lean ====
section
/-! DEFINITION. The Fuller's combines (R123 to R131, R140, R149, R150) and the write ledger (R422, R423). -/

namespace Sys2Proof.Machine

open Sys2Proof

/-! ### The write ledger -/

/-- Address of a ledger entry (R422): path kind `k` 0 forward combine, 1 input-gradient combine, 2 router term. -/
def State.ledgerAddr (s : State) (c layer index k : Nat) : Nat :=
  let n (l : Nat) : Nat := lyTiles (s.layer c l)
  let before := ((List.range layer).map (fun l => n l * (if lyBackward (s.layer c l) then 3 else 1))).foldl (· + ·) 0
  s.get (Key.FLT_LEDGER_BASE c) + 64 * (before + k * n layer + index)

/-- The layout descriptor of a path. -/
def State.pathDesc (s : State) (c layer k : Nat) : Nat :=
  let l := s.layer c layer
  s.latched c (if k = 0 then lyResid l else bwDx l)

/-- Positions that earlier attempts of a step have added, from the tile's ledger entry (R423); none in a first attempt. -/
def State.ledgerDone (s : State) (c st layer index k : Nat) : Nat :=
  if s.attemptOf c st = 0 then 0 else
  let bs := s.hostBytes (s.ledgerAddr c layer index k) 64
  if u bs 0 8 == st % 2 ^ 48 && u bs 8 4 == s.get (Key.TT_FRAME_BASE c) % 2 ^ 32 && u bs 12 1 == k && u bs 13 1 == c then u bs 32 32 else 0

/-- The accounting of that read. -/
def State.ledgerRead (s : State) (c st layer index k : Nat) : State :=
  if s.attemptOf c st = 0 then s else s.hostRead (ldPort (s.pathDesc c layer k)) (s.ledgerAddr c layer index k) 64

/-- A ledger entry written (R423, Table 17.3). -/
def State.ledgerWrite (s : State) (c st layer index k mask : Nat) : State :=
  s.hostWrite (ldPort (s.pathDesc c layer k)) (s.ledgerAddr c layer index k)
    (le 8 (st % 2 ^ 48) ++ le 4 (s.get (Key.TT_FRAME_BASE c)) ++ le 1 k ++ le 1 c ++ zeros 18 ++ le 32 mask)

/-! ### Row use (R274) -/

/-- Index tuple of element `i` of position `t` of tile sequence `tile`. -/
def rowIndex (d tile t i : Nat) : List Nat := [i, t, tile - ldSeqBase d]

/-- The address and length of what a tile's 256 rows span, and of its lines the accounting of one use (R277). -/
def tileSpan (d tile : Nat) : Nat × Nat :=
  let row (t i : Nat) : Nat := (elemPlace d (rowIndex d tile t i)).1
  let n := ldSize d 0
  let ends := [row 0 0, row 0 (n - 1), row 255 0, row 255 (n - 1)]
  let lo := ends.foldl min (row 0 0)
  let hi := ends.foldl max 0 + (if fmtScaled (ldFmt d) then payloadLen (ldFmt d) n - packLen (ldFmt d) n + 1 else max 1 (ldWidth d))
  (lo, hi - lo)
def State.touchTile (s : State) (d tile : Nat) (write : Bool) : State := s.touch d write [tileSpan d tile]

/-- A sum added into a position's elements (R43, R129): read, added, written. The lines of a use are accounted for once, with its
first row. -/
def State.writeBack (s : State) (d tile t : Nat) (acc : List F32) : State × Nf :=
  (acc.zipIdx).foldl (fun (a : State × Nf) (x : F32 × Nat) =>
    let i := rowIndex d tile t x.2
    let v := runNf (writeBackElem (ldFmt d) (a.1.elem d i).1 x.1)
    (a.1.ldPut d (elemPlace d i).1 (le (ldWidth d) v.1), a.2.plus v.2)) (s, {})

/-! ### Combines -/

/-- Two combines are the same one. -/
def Comb.same (a b : Comb) : Bool :=
  a.ctx == b.ctx && a.step == b.step && a.layer == b.layer && a.tile == b.tile && a.work == b.work

/-- A combine replaced. -/
def State.setComb (s : State) (k : Comb) : State := { s with combs := s.combs.map (fun (x : Comb) => if x.same k then k else x) }

/-- The oldest combine of a tile and kind of work that satisfies `p`. -/
def State.comb? (s : State) (c layer tile work : Nat) (p : Comb → Bool) : Option Comb :=
  s.combs.find? (fun (k : Comb) => k.ctx == c && k.layer == layer && k.tile == tile && k.work == work && p k)

/-- The combine of a tile and kind of work in a step. -/
def State.combOf (s : State) (c st layer tile work : Nat) : Option Comb :=
  s.combs.find? (fun (k : Comb) => k.ctx == c && k.step == st && k.layer == layer && k.tile == tile && k.work == work)

/-- Formats of the records a combine takes, and of the records that asked for them. -/
def combFmt (l : Bytes) (work : Nat) : Nat := if work = 1 then lyIn l else lyRet l
def askFmt (l : Bytes) (work : Nat) : Nat := if work = 1 then lyBwd l else lyDisp l
/-- SOURCE code of its return pieces, and of the dispatch they answer. -/
def combCode (work : Nat) : Nat := match work with | 0 => 1 | 1 => 6 | _ => 10
def askCode (work : Nat) : Nat := match work with | 0 => 0 | 1 => 5 | _ => 7

/-- A COMBINE command (R123, R131, R149, R150): the phase opens; with an attempt above 0 the ledger entry is read (R423). -/
def combineOp (work c layer tile index nFrame nSlot : Nat) (s : State) : State :=
  let w := layer <<< 224 ||| tile <<< 208 ||| index <<< 192 ||| work <<< 188 ||| nFrame <<< 172 ||| nSlot <<< 164
  if s.mayIssue c 0x05 w then
    let st := s.step c
    let s := s.issue c 0x05 w
    let steam := (((s.ctx c).first + nFrame) * 256 + nSlot + 3) * 9
    let done := if work = 2 then 0 else s.ledgerDone c st layer index work
    let s := if work = 2 then s else s.ledgerRead c st layer index work
    let k : Comb :=
      { ctx := c, step := st, attempt := s.attemptOf c st, layer := layer, tile := tile, index := index, work := work,
        closeAt := if work = 2 || s.steam c then steam else steam + 2304, done := done }
    { s with combs := s.combs ++ [k] }
  else s

/-- COMBINE_FORWARD. -/
def combineForwardOp (c layer tile index nFrame nSlot : Nat) (s : State) : State := combineOp 0 c layer tile index nFrame nSlot s
/-- COMBINE_INPUT_GRADIENT (B3). -/
def combineInputGradientOp (c layer tile index nFrame nSlot : Nat) (s : State) : State := combineOp 1 c layer tile index nFrame nSlot s
/-- COMBINE_REFETCH_RETURN (B1). -/
def combineRefetchReturnOp (c layer tile index nFrame nSlot : Nat) (s : State) : State := combineOp 2 c layer tile index nFrame nSlot s

/-! ### Returned records -/

/-- Record length of a combine's returns. -/
def State.combLen (s : State) (k : Comb) : Nat := let l := s.layer k.ctx k.layer; recordLen (combFmt l k.work) (lyD l)

/-- The return stream from a node, as piece key. -/
def State.combKey (s : State) (k : Comb) (v : Nat) : PieceKey :=
  { ctx := k.ctx, step := k.step, layer := k.layer, tile := k.tile, kind := combCode k.work, src := v, dst := s.node, idx := 0 }

/-- The own node's return stream of a combine. -/
def State.ownRet (s : State) (k : Comb) : Option Ret :=
  s.rets.find? (fun (r : Ret) => r.ctx == k.ctx && r.step == k.step && r.layer == k.layer && r.tile == k.tile && r.src == s.node &&
    r.code == combCode k.work)

/-- The larger of two arrival keys. -/
def laterKey (a b : List Nat) : List Nat := if lexLt a b then b else a

/-- The returned record of a route entry once it has committed to the Staging Store, with its place in the arrival order (R9, R128). -/
def State.returned (s : State) (k : Comb) (e : CEnt) : Option (Bytes × List Nat) :=
  let n := s.combLen k
  if e.node = s.node then
    (s.ownRet k).bind (fun r => (r.at_ e.place).bind (fun (f : RetRec) =>
      (s.retBytes r e.place).map (fun bs => (bs, [f.at_, f.port, if f.cont then 0 else 1, e.place]))))
  else
    (s.spanPieces (s.combKey k e.node) (e.place * n) n).map (fun ps =>
      (s.spanBytes (s.combKey k e.node) (e.place * n) n,
       ps.foldl (fun a (p : Piece) => laterKey a [p.arrival, p.port]) [] ++ [1, e.place]))

/-- The accounting of a read of it. -/
def State.readReturned (s : State) (k : Comb) (e : CEnt) : State :=
  s.readRuns (s.placeRuns (s.combKey k e.node) (s.combLen k) e.place)

/-- A route entry whose record was lost with a refused chunk, on its way out or back (R117). -/
def State.lostEntry (s : State) (k : Comb) (e : CEnt) : Bool :=
  let l := s.layer k.ctx k.layer
  s.losts.any (fun (x : Lost) =>
    x.ctx == k.ctx && x.step == k.step && x.layer == k.layer && x.tile == k.tile && x.node == e.node &&
    (x.kind == combCode k.work || x.kind == askCode k.work) &&
    (let n := recordLen (if x.kind = combCode k.work then combFmt l k.work else askFmt l k.work) (lyD l)
     decide (e.place * n < 4096 * (x.piece + 1) ∧ 4096 * x.piece < (e.place + 1) * n)))

/-- Ids TIN delivered for a tile of a step. -/
def State.tokenIds (s : State) (c st layer tile : Nat) : List Nat :=
  ((s.wins.find? (fun (w : Win) => w.ctx == c && w.step == st && w.layer == layer && w.tile == tile && w.work ≤ 1 && !w.ids.isEmpty)).map
    Win.ids).getD []

/-- The comparison of R124: `x` is the route entry. -/
def State.headerAgrees (s : State) (k : Comb) (e : CEnt) (x : Nat) (h : Hdr) : Bool :=
  h.token == nth (s.tokenIds k.ctx k.step k.layer k.tile) e.pos 0 && h.src == s.node && h.layer == k.layer && h.tile == k.tile &&
  h.stepLo == k.step % 2 ^ 32 && h.rank == leRank x && h.expert == leExpert x && h.rerouted == (leOutcome x == 1) &&
  h.kind == (if k.work = 1 then 3 else 1) && !h.pad

/-! ### The route log at a combine (R123) -/

/-- Whether a log tile's LOG_CRC holds. -/
def logOk (log : Bytes) : Bool := u log 60 4 == crc32c (log.take 60 ++ log.drop 64)

/-- The streams that a combine's records came out of, toward each node: in the forward pass those of the bank the log names; behind it those that
the forward pass formed, since CAPACITY and NEXT are not read again (R91, R143). -/
def State.combStreams (s : State) (k : Comb) (log : Bytes) : List (Nat × List Place) :=
  if k.work = 0 then s.streamsOf (u log 13 1) (s.layer k.ctx k.layer) else s.fwdStreams k.ctx k.step k.layer k.tile

/-- The route entries of a log as combine entries: a dropped rank is closed from the start, and in B1 every rank that the
forward combine closed (R123, R148). -/
def State.entsOf (s : State) (k : Comb) (log : Bytes) : List CEnt :=
  let b := u log 13 1
  let streams := s.combStreams k log
  let fwd := if k.work = 2 then ((s.combOf k.ctx k.step k.layer k.tile 0).map Comb.ents).getD [] else []
  ((logEntries log).zipIdx).map (fun (y : (Nat × Nat) × Nat) =>
    let x := y.1.2
    let v := ptNode (s.pt b (lePt x))
    let places := ((streams.find? (fun (z : Nat × List Place) => z.1 == v)).map (·.2)).getD []
    let shut := leOutcome x == 2 || (match fwd[y.2]? with | some f => f.state == 2 | none => false)
    { pos := y.1.1, rank := leRank x, entry := x, node := if leOutcome x = 2 then s.node else v,
      place := places.findIdx (fun (p : Place) => p.entry == lePt x && p.pos == lePos x), state := if shut then 2 else 0 })

/-! ### Buffers -/

/-- The expected pieces of a combine's return streams, as node and piece. -/
def State.combPieces (s : State) (k : Comb) : List (Nat × Nat) :=
  match k.log with
  | none => []
  | some log =>
    (s.combStreams k log).flatMap (fun (z : Nat × List Place) =>
      (List.range (ceilDiv (z.2.length * s.combLen k) 4096)).map (fun j => (z.1, j)))

/-- Return buffers whose every record has been combined, closed or found a pad go back to their pool, their CRCs noted
(R130, R218). In B1 they stay until B2 ends (R149). -/
def State.freeReturns (s : State) (k : Comb) (all : Bool) : State :=
  let n := s.combLen k
  if k.log.isNone || (k.work == 2 && !all) then s else
  (s.combPieces k).foldl (fun s (y : Nat × Nat) =>
    let key : PieceKey := { s.combKey k y.1 with idx := y.2 }
    match s.piece key, s.combOf k.ctx k.step k.layer k.tile k.work with
    | some p, some k =>
      let open_ := k.ents.any (fun (e : CEnt) => e.state == 0 && e.node == y.1 &&
        decide (e.place * n < 4096 * (y.2 + 1) ∧ 4096 * y.2 < (e.place + 1) * n))
      if p.here && !open_ then
        let s := s.setComb { k with crcs := k.crcs.filter (fun (z : Nat × Nat × Nat) => !(z.1 == y.1 && z.2.1 == y.2)) ++ [(y.1, y.2, p.crc)] }
        s.dropPiece key
      else s
    | _, _ => s) s

/-- The CRCs of every return piece of a combine in the order of R218, once all are known. -/
def State.combCrcs (s : State) (k : Comb) : Option (List Nat) :=
  let xs := (s.combPieces k).map (fun (y : Nat × Nat) =>
    match k.crcs.find? (fun (z : Nat × Nat × Nat) => z.1 == y.1 && z.2.1 == y.2) with
    | some z => some z.2.2
    | none => (s.piece { s.combKey k y.1 with idx := y.2 }).bind (fun (p : Piece) => if p.ready then some p.crc else none))
  if k.log.isSome && xs.all Option.isSome then some (xs.filterMap id) else none

/-! ### Combining -/

/-- An entry of a combine replaced. -/
def Comb.setEnt (k : Comb) (j : Nat) (e : CEnt) : Comb := { k with ents := setAt k.ents j e }

/-- Entries of a position that still wait. -/
def Comb.waits (k : Comb) (t : Nat) : List CEnt := k.ents.filter (fun (e : CEnt) => e.pos == t && e.state == 0)

/-- The sum of a position whose surviving ranks are all combined or closed written back, unless an earlier attempt has
(R129, R423). -/
def State.settleToken (s : State) (k : Comb) (t : Nat) : State × Comb :=
  if !(k.waits t).isEmpty || k.work = 2 then (s, k) else
  match k.sums.find? (fun (x : Nat × List F32) => x.1 == t) with
  | none => (s, k)
  | some x =>
    let k := { k with sums := k.sums.filter (fun (y : Nat × List F32) => y.1 != t) }
    if bit k.done t then (s, k)
    else
      let d := s.pathDesc k.ctx k.layer k.work
      let s := if k.written = 0 then (s.touchTile d k.tile false).touchTile d k.tile true else s
      let r := s.writeBack d k.tile t x.2
      (r.1.nonFinite 11 k.ctx k.layer k.step r.2, { k with written := setBit k.written t })

/-- A rank closed by a gap record (Table 5.8), or without an output in B1 (R148): `det` is the detail logged, 0 for none. -/
def State.closeEnt (s : State) (k : Comb) (j : Nat) (e : CEnt) (det : Nat) : State :=
  let s := if det = 0 then s else
    s.log { cls := Ec.seq, det := det, dom := 8, ctx := some k.ctx, step := some k.step, layer := some k.layer, node := some e.node, arg := 0xFFFF }
  let s := s.count (if k.work = 2 then Key.BWD_REFETCH_GAP k.ctx else Key.FUL_GAP_COUNT k.ctx) 1
  let r := s.settleToken (k.setEnt j { e with state := 2, lost := true }) e.pos
  r.1.setComb r.2

/-- Entries of a combine whose records were lost are closed at once (R117). -/
def State.closeLost (s : State) (k : Comb) : State :=
  (List.range k.ents.length).foldl (fun s j =>
    match s.combOf k.ctx k.step k.layer k.tile k.work with
    | none => s
    | some k =>
      let e := nth k.ents j default
      if e.state == 0 && s.lostEntry k e then s.closeEnt k j e (if k.work = 2 then 0x17 else 0) else s) s

/-- Lines of the accumulator file in use (R126). -/
def State.openLines (s : State) : Nat :=
  (s.combs.map (fun (k : Comb) => k.sums.length * (lyD (s.layer k.ctx k.layer) / 128))).foldl (· + ·) 0

/-- A token's accumulator after one more record (R41, R42). -/
def combineInto (acc : Option (List F32)) (g : F32) (o : List F32) : Arith (List F32) :=
  match acc with
  | none => o.mapM (fun x => fmul g x)
  | some a => (a.zip o).mapM (fun (p : F32 × F32) => ffma g p.2 p.1)

/-- Address of an output-save tile (R140). -/
def outAddr (l : Bytes) (index : Nat) : Nat := bwOut l + index * outStride l

/-- A record that passes, combined (R41, R42) or kept in its buffer (R149); its payload copied into the output save (R140). -/
def State.combineEnt (s : State) (k : Comb) (j : Nat) (e : CEnt) (bs : Bytes) : State :=
  let l := s.layer k.ctx k.layer
  let f := combFmt l k.work
  let pay := bs.drop 32
  if k.work = 2 then s.setComb (k.setEnt j { e with state := 1 })
  else
    let old := (k.sums.find? (fun (x : Nat × List F32) => x.1 == e.pos)).map (·.2)
    if old.isNone && decide (4096 < s.openLines + lyD l / 128) then s else
    let g := if k.work = 1 then F32.one else leFinal e.entry
    let r := runNf (do let o ← decodePayload f (lyD l) pay; combineInto old g o)
    let k := { k.setEnt j { e with state := 1 } with
      sums := k.sums.filter (fun (x : Nat × List F32) => x.1 != e.pos) ++ [(e.pos, r.1)] }
    let s := s.readReturned k e
    let a := outAddr l k.index + 576 + j * payloadLen f (lyD l)
    let s := if k.work = 0 && lyBackward l && !(bwRefetch l) then s.hostWrite (s.portFor k.ctx a pay.length) a pay else s
    let s := s.nonFinite 8 k.ctx k.layer k.step r.2
    let t := s.settleToken k e.pos
    (t.1.setComb t.2).busy 8 (some k.ctx)

/-- A record may be taken now: in Block mode after every lower rank (R127), in Steam mode in the token's arrival order
(R128), in B1 as it comes. -/
def State.mayCombine (s : State) (k : Comb) (e : CEnt) (key : List Nat) : Bool :=
  if k.work = 2 then true
  else if s.steam k.ctx then
    (k.waits e.pos).all (fun (x : CEnt) => match s.returned k x with | some y => !(lexLt y.2 key) | none => true)
  else (k.waits e.pos).all (fun (x : CEnt) => decide (e.rank ≤ x.rank))

/-- The steps of R124 on a committed record. -/
def State.examine (s : State) (k : Comb) (j : Nat) (e : CEnt) (bs : Bytes) : State :=
  let h := hdrOf bs
  let b1 := k.work = 2
  if h.gap && h.token == 0xFFFFFFFF then s.closeEnt k j e (if b1 then 0x17 else 0)
  else if !(s.headerAgrees k e e.entry h) then s.closeEnt k j e (if b1 then 0x17 else 0x14)
  else if h.gap then s.closeEnt k j e (if b1 then 0x17 else 0)
  else s.combineEnt k j e bs

/-! ### The close point (R131) -/

/-- Every rank of the tile is combined or closed, and written back. -/
def Comb.complete (k : Comb) : Bool := k.log.isSome && k.ents.all (fun (e : CEnt) => e.state != 0) && k.sums.isEmpty

/-- CLOSED and the header of the output-save tile written (R140, Table 6.3). -/
def State.writeClosed (s : State) (k : Comb) : State × Nat :=
  let l := s.layer k.ctx k.layer
  let mask := ((k.ents.zipIdx).filter (fun (x : CEnt × Nat) => x.1.state == 2)).foldl (fun m (x : CEnt × Nat) => setBit m x.2) 0
  let t := saveTile k.step k.layer k.tile k.ctx (le 512 mask) 512
  let a := outAddr l k.index
  (s.hostWrite (s.portFor k.ctx a t.1.length) a t.1, t.2)

/-- A tile's input-gradient digest may close once its B3 write-backs and router-term writes are complete (R219). -/
def State.gradClosable (s : State) (c st layer tile : Nat) : State :=
  let b3 := match s.combOf c st layer tile 1 with | some k => k.closed | none => false
  let router := !(bwRouter (s.layer c layer)) || s.grads.any (fun (g : Grad) => g.ctx == c && g.step == st && g.layer == layer && g.tile == tile && g.routerDone)
  if b3 && router then s.noteClosable c st layer 1 tile else s

/-- The chunk map that served a combine's dispatch, and after the forward combine the gap stream, given back to their pools. -/
def State.dropStreams (s : State) (k : Comb) : State :=
  let mine (p : Piece) : Bool := p.key.ctx == k.ctx && p.key.step == k.step && p.key.layer == k.layer && p.key.tile == k.tile &&
    ((k.work == 0 && (p.key.kind == 8 || (p.key.kind == 9 && p.key.idx == 0))) || (k.work == 2 && p.key.kind == 9 && p.key.idx == 7))
  (s.pieces.filter mine).foldl (fun s (p : Piece) => s.dropPiece p.key) s

/-- A combine phase ends: output save, ledger, digest. -/
def State.endComb (s : State) (k : Comb) : State :=
  let l := s.layer k.ctx k.layer
  let s := s.setComb { k with closed := true }
  let s := { s with lateOuts := s.lateOuts.filter (fun (o : LateOut) =>
    !(o.ctx == k.ctx && o.step == k.step && o.kind == k.work && o.layer == k.layer && o.tile == k.tile)) }
  let s := (s.dropStreams k).freeReturns k false
  if k.work = 2 then s else
  let s := s.ledgerWrite k.ctx k.step k.layer k.index k.work (k.done ||| k.written)
  if k.work = 0 then
    let s := if lyBackward l then
        let r := s.writeClosed k
        r.1.noteVal k.ctx k.step k.layer k.tile item.saveO r.2 else s
    s.noteClosable k.ctx k.step k.layer 0 k.tile
  else s.gradClosable k.ctx k.step k.layer k.tile

/-- A combine that is late ends as soon as its last token is written back. -/
def State.endLate (s : State) (c st layer tile work : Nat) : State :=
  match s.combOf c st layer tile work with
  | some k => if k.late && k.complete && !k.closed then s.endComb k else s
  | none => s

/-- COMBINE_RECORD (R124 to R129, R149): route entry `j` of the tile's combine. -/
def combineRecordOp (c layer tile work j : Nat) (s : State) : State :=
  match s.comb? c layer tile work (fun k => k.log.isSome && !k.closed) with
  | none => s
  | some k0 =>
    let s := s.closeLost k0
    match s.combOf c k0.step layer tile work with
    | none => s
    | some k =>
      let s := match k.ents[j]? with
        | none => s
        | some e =>
          if e.state ≠ 0 then s
          else match s.returned k e with
            | none => s
            | some r => if s.mayCombine k e r.2 then s.examine k j e r.1 else s
      (s.freeReturns k0 false).endLate c k0.step layer tile work

/-- ROUTE_LOG_LOAD (R123): once the tile's log has been written; `corrupt` reads of it come back damaged. -/
def routeLogLoadOp (c layer tile work corrupt : Nat) (s : State) : State :=
  match s.comb? c layer tile work (fun k => k.log.isNone && !k.closed) with
  | none => s
  | some k =>
    let l := s.layer c layer
    let committed := s.wins.any (fun (w : Win) => w.ctx == c && w.step == k.step && w.layer == layer && w.tile == tile && w.work == 0 && w.stage == 5)
    if !committed && work = 0 then s else
    let log := s.readLog l k.index
    let a := lyLog l + k.index * logStride l
    let bad := if logOk log then corrupt else 2
    let rd (s : State) : State := s.hostRead (s.portFor c a log.length) a log.length
    let s := if bad = 0 then rd s else rd (rd s)
    if 2 ≤ bad then
      (s.log { cls := Ec.crc, det := 0x12, dom := 8, ctx := some c, step := some k.step, layer := some layer, arg := 0xFFFF }).replayStep c
    else
      let s := s.setComb { k with log := some log, ents := s.entsOf k log }
      match s.combOf c k.step layer tile work with
      | some k => ((s.closeLost k).freeReturns k false).endLate c k.step layer tile work
      | none => s

/-- COMBINE_CLOSE_POINT (R131): the phase ends, or is late (R188). -/
def combineClosePointOp (c layer tile work : Nat) (s : State) : State :=
  match s.comb? c layer tile work (fun k => !k.closed && !k.late && decide (k.closeAt ≤ s.planTick + 1)) with
  | none => s
  | some k =>
    let s := match s.ownRet k with
      | some r => (List.range (ceilDiv (r.count * s.retLen r) 4096)).foldl (fun (s : State) j =>
          match s.ownRet k with | some r => s.fillVoids r j | none => s) s
      | none => s
    let s := (s.closeLost k).freeReturns k false
    match s.combOf c k.step layer tile work with
    | none => s
    | some k =>
      if k.complete then s.endComb k
      else (s.setComb { k with late := true }).noteLateOut c k.step work layer tile k.closeAt

/-! ### What an arrival does beyond its port -/

/-- Records lost with it are closed at once in every combine that waits for them (R117); a return buffer that an ended combine was the
last to need goes back to its pool (R130). `old` is the state before the arrival. -/
def State.afterArrival (old s : State) : State :=
  let s := if s.losts = old.losts then s else
    s.combs.foldl (fun s (k : Comb) => if k.log.isSome && !k.closed then
      ((s.closeLost k).freeReturns k false).endLate k.ctx k.step k.layer k.tile k.work else s) s
  if s.pieces = old.pieces then s else
    s.combs.foldl (fun s (k : Comb) => if k.closed then s.freeReturns k false else s) s

/-- An arrival with what it does at once beyond its port. -/
def arriving (f : State → State) (s : State) : State := State.afterArrival s (f s)

/-- CHUNK_ARRIVAL. -/
def execChunkArrival (port : Nat) (hdr : BitVec 512) (payload : Bytes) (s : State) : Host.Outcome State Fault Refusal :=
  .next (actFresh (arriving (chunkArrivalOp port hdr payload)) s)
/-- TRAILER_ARRIVAL. -/
def execTrailerArrival (port : Nat) (trailer : BitVec 512) (s : State) : Host.Outcome State Fault Refusal :=
  .next (act (arriving (trailerArrivalOp port trailer)) s)
/-- CONTROL_FLIT_RECEIVED. -/
def execControlFlitReceived (port : Nat) (flit : Bytes) (s : State) : Host.Outcome State Fault Refusal :=
  .next (actFresh (arriving (controlFlitReceivedOp port flit)) s)
/-- POOL_ALLOC_GRANT: a buffer granted (R243), and with it the chunk that waits for it committed (R115). -/
def execPoolAllocGrant (cls : Nat) (s : State) : Host.Outcome State Fault Refusal :=
  .next (act (arriving (fun s => (poolAllocGrantOp cls s).commitInHand)) s)
/-- COMBINE_FORWARD. -/
def execCombineForward (ctx layer tile index nFrame nSlot : Nat) (s : State) : Host.Outcome State Fault Refusal :=
  .next (actFresh (combineForwardOp ctx layer tile index nFrame nSlot) s)
/-- COMBINE_INPUT_GRADIENT. -/
def execCombineInputGradient (ctx layer tile index nFrame nSlot : Nat) (s : State) : Host.Outcome State Fault Refusal :=
  .next (actFresh (combineInputGradientOp ctx layer tile index nFrame nSlot) s)
/-- COMBINE_REFETCH_RETURN. -/
def execCombineRefetchReturn (ctx layer tile index nFrame nSlot : Nat) (s : State) : Host.Outcome State Fault Refusal :=
  .next (act (combineRefetchReturnOp ctx layer tile index nFrame nSlot) s)
/-- ROUTE_LOG_LOAD. -/
def execRouteLogLoad (ctx layer tile work corrupt : Nat) (s : State) : Host.Outcome State Fault Refusal :=
  .next (actFresh (routeLogLoadOp ctx layer tile work corrupt) s)
/-- COMBINE_RECORD. -/
def execCombineRecord (ctx layer tile work entry : Nat) (s : State) : Host.Outcome State Fault Refusal :=
  .next (actFresh (combineRecordOp ctx layer tile work entry) s)
/-- COMBINE_CLOSE_POINT. -/
def execCombineClosePoint (ctx layer tile work : Nat) (s : State) : Host.Outcome State Fault Refusal :=
  .next (actFresh (combineClosePointOp ctx layer tile work) s)

end Sys2Proof.Machine
end

