-- ==== Sys2Proof/Machine/Backward.lean ====
section
/-! DEFINITION. The backward pass of a tile (R142 to R158): gate gradients and gradient records (B2), logit gradients (B4), the
router-weight gradient and the router term (B5), and the layer's end (B6). -/

namespace Sys2Proof.Machine

open Sys2Proof

/-! ### Tiles' backward work -/

/-- The backward work of a tile in a step. -/
def State.grad (s : State) (c st layer tile : Nat) : Option Grad :=
  s.grads.find? (fun (g : Grad) => g.ctx == c && g.step == st && g.layer == layer && g.tile == tile)

/-- It replaced. -/
def State.setGrad (s : State) (g : Grad) : State :=
  { s with grads := s.grads.map (fun (x : Grad) =>
      if x.ctx == g.ctx && x.step == g.step && x.layer == g.layer && x.tile == g.tile then g else x) }

/-- The router-gradient work of a layer in a step, with no visit counted yet where none stands. -/
def State.layerGradOr (s : State) (c st layer : Nat) : LayerGrad :=
  (s.layerGrad c st layer).getD { ctx := c, step := st, layer := layer, visits := List.replicate (selE (s.layer c layer)) 0 }

/-- Sequence numbers of the tiles whose forward windows a step has opened in a layer. -/
def State.forwardTiles (s : State) (c st layer : Nat) : List Nat :=
  ((s.wins.filter (fun (w : Win) => w.ctx == c && w.step == st && w.layer == layer && w.work == 0)).map Win.tile).eraseDups

/-! ### B2: reads and checks (R142) -/

/-- Whether a save tile's SAVE_CRC holds over its first `n` bytes past the header. -/
def saveOk (t : Bytes) (n : Nat) : Bool := u t 60 4 == crc32c (t.take 60 ++ (t.drop 64).take n)

/-- STEP, LAYER, TILE_SEQ and CONTEXT of a log or save tile equal the expected values. -/
def tileIs (t : Bytes) (c st layer tile : Nat) : Bool :=
  u t 0 8 == st % 2 ^ 48 && u t 8 2 == layer && u t 10 2 == tile && u t 12 1 == c

/-- A row of a descriptor as the payload of its format: elements, then scale bytes. -/
def State.rowPayload (s : State) (d tile t : Nat) : Bytes :=
  let f := ldFmt d
  let n := ldSize d 0
  if fmtScaled f then s.ldBytes d (stridedAddr d (rowIndex d tile t 0)) (payloadLen f n)
  else pack f ((List.range n).map (fun i => (s.elem d (rowIndex d tile t i)).1))

/-- The dL/dy tile as read through DY_DESC: a payload for each position (R145). -/
def State.readDy (s : State) (d tile : Nat) : List Bytes := (List.range 256).map (fun t => s.rowPayload d tile t)

/-- What B2 reads of a tile. -/
structure B2Tiles where
  log : Bytes
  lsave : Bytes
  osave : Bytes
deriving DecidableEq, Repr, Inhabited

/-- The log tile and both save tiles as host memory holds them. -/
def State.b2Tiles (s : State) (l : Bytes) (index : Nat) : B2Tiles :=
  let log := s.readLog l index
  let n := logBytes log
  let outs := if bwRefetch l then 0 else (n - 1088) / 16 * payloadLen (lyRet l) (lyD l)
  { log := log, lsave := s.hostBytes (bwLogit l + index * logitStride l) (64 + 256 * logitPos l),
    osave := s.hostBytes (outAddr l index) (576 + outs) }

/-- The accounting of those reads: a tile whose first read failed its check, as it stands or as it came back, is read twice. -/
def State.b2Reads (s : State) (c : Nat) (l : Bytes) (index : Nat) (t : B2Tiles) (corrupt : Nat) : State :=
  let rd (s : State) (a n i : Nat) (ok : Bool) : State :=
    (List.range (if ok && bits corrupt (2 * i) 2 == 0 then 1 else 2)).foldl (fun s _ => s.hostRead (s.portFor c a n) a n) s
  let s := rd s (lyLog l + index * logStride l) t.log.length 0 (logOk t.log)
  let s := rd s (bwLogit l + index * logitStride l) t.lsave.length 1 (saveOk t.lsave (256 * logitPos l))
  rd s (outAddr l index) t.osave.length 2 (saveOk t.osave 512)

/-- First failing check of R142, as class and detail. `corrupt` says how many reads of the log, of the logit save and of the
output save come back damaged, two bits each. -/
def b2Check (t : B2Tiles) (l : Bytes) (c st layer tile corrupt : Nat) : Option (Nat × Nat) :=
  let bad (ok : Bool) (i : Nat) : Bool := !ok || decide (2 ≤ bits corrupt (2 * i) 2)
  if bad (logOk t.log) 0 then some (Ec.crc, 0x13)
  else if bad (saveOk t.lsave (256 * logitPos l)) 1 || bad (saveOk t.osave 512) 2 then some (Ec.crc, 0x14)
  else if !(tileIs t.log c st layer tile && tileIs t.lsave c st layer tile && tileIs t.osave c st layer tile) then some (Ec.seq, 0x16)
  else none

/-! ### B2: gate gradients and gradient records (R145, R146) -/

/-- Entry `j` is marked in CLOSED. -/
def closedBit (osave : Bytes) (j : Nat) : Bool := bit (u osave (64 + j / 8) 1) (j % 8)

/-- The output of route entry `j`: saved, or refetched in B1 and still in its receive buffer (R149); none where B1 brought none (R148). -/
def State.outputOf (s : State) (l : Bytes) (t : B2Tiles) (b1 : Option Comb) (j : Nat) : Option Bytes :=
  if bwRefetch l then
    match b1 with
    | some k => (match k.ents[j]? with
      | some e => if e.state = 1 then (s.returned k e).map (fun x => x.1.drop 32) else none
      | none => none)
    | none => none
  else let n := payloadLen (lyRet l) (lyD l); some (sub t.osave (576 + j * n) n)

/-- The gate gradient of a route entry (R145): +0 for a dropped or closed one, and for one B1 did not bring back. -/
def gateGradient (l : Bytes) (t : B2Tiles) (out : Option Bytes) (dyFmt : Nat) (dy : Bytes) (j e : Nat) : Arith F32 :=
  if leOutcome e = 2 || closedBit t.osave j then pure 0
  else match out with
    | none => pure 0
    | some o => do
      let a ← opndOf dyFmt (lyRet l) (lyD l) dy
      let b ← opndOf (lyRet l) dyFmt (lyD l) o
      dot a b (lyD l)

/-- The payload of a gradient record (R146). -/
def gradientPayload (l : Bytes) (dyFmt : Nat) (dy : Bytes) (e : Nat) : Arith Bytes := do
  let xs ← decodePayload dyFmt (lyD l) dy
  let ys ← xs.mapM (fun x => fmul x (leFinal e))
  encodePayload (lyBwd l) ys

/-- One gradient record: route entry, whether it is closed, payload. -/
structure GradRec where
  dec : Dec
  closed : Bool
  payload : Bytes
deriving DecidableEq, Repr, Inhabited

/-- The record that stands at a place. -/
def gradAt (rs : List GradRec) (p : Place) : Option GradRec :=
  rs.find? (fun (r : GradRec) => r.dec.entry == p.entry && r.dec.at_ == p.pos)

/-- A backward stream in bytes (R144, Table 6.5); closed and pad payloads stand as zero. -/
def gradBytes (h : TileHead) (places : List Place) (rs : List GradRec) (ids : List Nat) : Bytes :=
  let n := payloadLen h.fmt (lyD h.l)
  (places.zipIdx).flatMap (fun (x : Place × Nat) =>
    match gradAt rs x.1 with
    | some r => hdrBytes { h.record x.2 x.1 r.dec (nth ids r.dec.pos 0) with gap := r.closed } ++ (if r.closed then zeros n else r.payload)
    | none => hdrBytes (h.pad x.2 x.1) ++ zeros n)

/-- The backward streams of a tile written (R144, R146). -/
def State.writeGrads (s : State) (h : TileHead) (c : Nat) (streams : List (Nat × List Place)) (rs : List GradRec) (ids : List Nat) : State :=
  let reclen := recordLen h.fmt (lyD h.l)
  streams.foldl (fun s (x : Nat × List Place) =>
    let pl := x.2.map (fun (p : Place) => { p with used := (gradAt rs p).isSome })
    let st : Stream :=
      { ctx := c, step := h.st, layer := h.layer, tile := h.tile, kind := 5, dst := x.1, reclen := reclen, places := pl }
    let key : PieceKey := { ctx := c, step := h.st, layer := h.layer, tile := h.tile, kind := 5, src := h.node, dst := x.1, idx := 0 }
    let hole (i : Nat) : Bool := match gradAt rs (nth pl i default) with | some r => r.closed | none => true
    ({ s with streams := s.streams ++ [st] }).addStream key reclen hole (gradBytes h pl rs ids)) s

/-- Visits of a tile: placed and rerouted entries by expert (R158). -/
def visitsOf (e : Nat) (es : List Nat) : List Nat :=
  (List.range e).map (fun x => (es.filter (fun y => leOutcome y != 2 && leExpert y == x)).length)

/-- B2 of a tile whose log and saves pass (R145, R146, R158). -/
def State.b2Work (s : State) (c st layer tile index : Nat) (t : B2Tiles) : State :=
  let l := s.layer c layer
  let d := s.latched c (bwDy l)
  let f := ldFmt d
  let dy := s.readDy d tile
  let es := logEntries t.log
  let b1 := s.combOf c st layer tile 2
  let dg := runNf ((es.zipIdx).mapM (fun (x : (Nat × Nat) × Nat) => gateGradient l t (s.outputOf l t b1 x.2) f (nth dy x.1.1 []) x.2 x.1.2))
  let rs := runNf ((((es.zipIdx).filter (fun (x : (Nat × Nat) × Nat) => leOutcome x.1.2 != 2))).mapM (fun (x : (Nat × Nat) × Nat) => do
    let shut := closedBit t.osave x.2
    let p ← if shut then pure [] else gradientPayload l f (nth dy x.1.1 []) x.1.2
    pure ({ dec := decOf x.1, closed := shut, payload := p } : GradRec)))
  let crc := crc32c dy.flatten
  let h : TileHead :=
    { l := l, layer := layer, tile := tile, st := st, node := s.node, port := u t.log 32 1, fmt := lyBwd l, kind := 2 }
  let s := s.touchTile d tile false
  let s := match b1 with
    | some k => (k.ents.filter (fun (e : CEnt) => e.state == 1)).foldl (fun (s : State) e => s.readReturned k e) s
    | none => s
  let s := s.writeGrads h c (s.fwdStreams c st layer tile) rs.1 (s.tokenIds c st layer tile)
  let g : Grad :=
    { ctx := c, step := st, layer := layer, tile := tile, index := index, log := t.log, lsave := t.lsave, osave := t.osave.take 576, dg := dg.1 }
  let s := { s with grads := s.grads ++ [g] }
  let lg := s.layerGradOr c st layer
  let s := s.setLayerGrad { lg with visits := addCounts lg.visits (visitsOf (selE l) (es.map (·.2))) }
  let s := (s.inputFold c st 1 layer tile crc).noteVal c st layer tile item.dy crc
  let s := match b1 with | some k => s.freeReturns k true | none => s
  let s := (s.nonFinite 8 c layer st dg.2).nonFinite 8 c layer st rs.2
  (s.busy 8 (some c)).busy 9 (some c)

/-- The class fields of a GRADIENT (Table 7.8). -/
def gradFields (work layer tile index : Nat) : Nat := layer <<< 224 ||| tile <<< 208 ||| index <<< 192 ||| work <<< 188

/-- GRADIENT_B2 (R142 to R148): taken up once the forward combine's saves and B1 of the tile are there (R16). -/
def gradientB2Op (c layer tile index corrupt : Nat) (s : State) : State :=
  let w := gradFields 0 layer tile index
  let st := s.gradStep c w
  let l := s.layer c layer
  let ended (work : Nat) (need : Bool) : Bool := match s.combOf c st layer tile work with | some k => k.closed | none => !need
  if s.gradDue c st w && (s.grad c st layer tile).isNone && ended 0 false && (!(bwRefetch l) || ended 2 true) then
    let s := s.takeGrad c st w
    let t := s.b2Tiles l index
    let s := s.b2Reads c l index t corrupt
    match b2Check t l c st layer tile corrupt with
    | some (k, d) => (s.log { cls := k, det := d, dom := 9, ctx := some c, step := some st, layer := some layer, arg := 0xFFFF }).replayStep c
    | none => s.b2Work c st layer tile index t
  else s

/-! ### B4: logit gradients (R152, R153) -/

/-- The aux coefficients from a statistics block (R152). -/
def auxCoeffs (l : Bytes) (block : Bytes) : Arith (List F32) :=
  let e := selE l
  let tokens := u block 0 4
  if F32.isZero (bwAlpha l) || tokens = 0 then pure (List.replicate e 0)
  else do
    let rt ← sfuArith sfuRecip (F32.ofNat tokens)
    let x ← fmul (bwAlpha l) (F32.ofNat e)
    let rk ← sfuArith sfuRecip (F32.ofNat (selK l))
    let b ← fmul x rk
    let y ← fmul b rt
    let b ← fmul y rt
    (List.range e).mapM (fun i => fmul b (F32.ofNat (u block (16 + 8 * i) 4)))

/-- The running sum h of both reverse functions: +0, then each product in turn. -/
def foldProducts : F32 → List F32 → List F32 → Arith F32
  | h, a :: r, b :: t => do
    let p ← fmul a b
    let h ← fadd h p
    foldProducts h r t
  | h, _, _ => pure h

/-- `soft_back` of R153 over values in order. -/
def softBack (vs gs : List F32) : Arith (List F32) := do
  let h ← foldProducts 0 vs gs
  (vs.zip gs).mapM (fun (p : F32 × F32) => do
    let y ← fsub p.2 h
    fmul p.1 y)

/-- `norm_back` of R153. -/
def normBack (vs gs : List F32) : Arith (List F32) := do
  let sum ← sumLeft vs
  if F32.isZero sum then pure (gs.map (fun _ => 0))
  else do
    let q ← sfuArith sfuRecip sum
    let qs ← vs.mapM (fun v => fmul v q)
    let h ← foldProducts 0 qs gs
    gs.mapM (fun g => do
      let y ← fsub g h
      fmul y q)

/-- A value of a list of experts and values; +0 where it lists none. -/
def atExp (xs : List (Nat × F32)) (e : Nat) : F32 := ((xs.find? (fun (x : Nat × F32) => x.1 == e)).map (·.2)).getD 0

/-- What B4 reads of one token: its logits with their noise, exclusion codes, and chosen experts with their gate gradients in
rank order. -/
structure TokenGrad where
  x : List F32
  code : List Nat
  chosen : List Nat
  gg : List F32
deriving DecidableEq, Repr, Inhabited

/-- `logit_grad` of R153 from its softmax-then-top-k rule on. -/
def ruleGrad (l : Bytes) (alpha : Bool) (coef : List F32) (t : TokenGrad) : Arith (List F32) := do
  let e := selE l
  let exps := List.range e
  let codeOf (i : Nat) : Nat := nth t.code i 1
  let inA := exps.filter (fun i => codeOf i == 0)
  let inA1 := exps.filter (fun i => codeOf i != 1)
  let spread (is_ : List Nat) (xs : List F32) : List F32 := exps.map (fun i => atExp (is_.zip xs) i)
  match selRule l with
  | 0 =>
    let sAll ← softmaxArith (exps.map (fun i => (nth t.x i 0, codeOf i == 1)))
    let dp ← if selRenorm l then normBack (t.chosen.map (fun i => nth sAll i 0)) t.gg else pure t.gg
    let gs ← inA1.mapM (fun i =>
      let g := atExp (t.chosen.zip dp) i
      if codeOf i = 0 then fadd g (nth coef i 0) else pure g)
    let dx ← softBack (inA1.map (fun i => nth sAll i 0)) gs
    pure (spread inA1 dx)
  | 1 =>
    let gs ← softmaxArith (t.chosen.map (fun i => (nth t.x i 0, false)))
    let d ← softBack gs t.gg
    let base := spread t.chosen d
    if alpha then
      let q ← softmaxArith (exps.map (fun i => (nth t.x i 0, codeOf i != 0)))
      let da ← softBack (inA.map (fun i => nth q i 0)) (inA.map (fun i => nth coef i 0))
      exps.mapM (fun i => if codeOf i = 0 then fadd (nth base i 0) (atExp (inA.zip da) i) else pure (nth base i 0))
    else pure base
  | _ =>
    let sg := inA.map (fun i => sfuSigmoid (nth t.x i 0))
    let sgOf (i : Nat) : F32 := atExp (inA.zip sg) i
    let dn ← normBack (t.chosen.map sgOf) t.gg
    let base := inA.map (fun i => atExp (t.chosen.zip dn) i)
    let ds ← if alpha then do
        let da ← normBack sg (inA.map (fun i => nth coef i 0))
        (base.zip da).mapM (fun (p : F32 × F32) => fadd p.1 p.2)
      else pure base
    let dx ← (ds.zip sg).mapM (fun (p : F32 × F32) => do
      let a ← fsub F32.one p.2
      let b ← fmul p.2 a
      fmul p.1 b)
    pure (spread inA dx)

/-- The rescaling factor f of R80 from the entries' GATE_ORIG, in rank order. -/
def rescale (es : List Nat) : Arith F32 := do
  let all ← sumLeft (es.map leOrig)
  let surv ← sumLeft ((es.filter (fun e => leOutcome e != 2)).map leOrig)
  let q ← sfuArith sfuRecip surv
  fmul all q

/-- The logit gradients of one position (R153): `es` its route entries with their gate gradients, in rank order. -/
def logitGrad (r : Router) (coef : List F32) (id : Nat) (rec_ : Bytes) (es : List (Nat × F32)) : Arith (List F32) := do
  let l := r.l
  let e := selE l
  let code := (List.range e).map (fun i => bits (u rec_ (4 * e + i / 4) 1) (2 * (i % 4)) 2)
  let raw := (unpack 0 (rec_.take (4 * e))).map (BitVec.ofNat 32)
  let x ← (List.range e).mapM (fun i => if nth code i 1 = 1 then pure (nth raw i 0) else r.noised id i (nth raw i 0))
  let f ← if es.any (fun (p : Nat × F32) => leRenormed p.1) then rescale (es.map (·.1)) else pure F32.one
  let gg ← es.mapM (fun (p : Nat × F32) => do
    let v ← if leRenormed p.1 && leOutcome p.1 != 2 then fmul p.2 f else pure p.2
    fmul v (selScale l))
  ruleGrad l (!(F32.isZero (bwAlpha l))) coef { x := x, code := code, chosen := es.map (fun (p : Nat × F32) => leChosen p.1), gg := gg }

/-- GRADIENT_B4 (R152, R153): taken up once B2 of the tile is done and, where the aux term is used, the layer's statistics block is written;
a block that is not is late (R186). -/
def gradientB4Op (c layer tile index : Nat) (s : State) : State :=
  let w := gradFields 1 layer tile index
  let st := s.gradStep c w
  let l := s.layer c layer
  match s.grad c st layer tile with
  | none => s
  | some g =>
    let lg := s.layerGradOr c st layer
    let needs := !(F32.isZero (bwAlpha l)) && lg.aux.isNone
    if !(s.gradDue c st w) || g.b4 then s
    else if needs && !(s.statsDone c st layer) then
      match s.readyAt c 6 layer 0 with
      | some t => if st = s.step c then s.noteLateOut c st 6 layer 0 t else s
      | none => s
    else
      let s := s.takeGrad c st w
      let n := 16 + 8 * selE l
      let aux := runNf (match lg.aux with | some a => pure a | none => auxCoeffs l (s.stgBytes (lyStats l) n))
      let s := if needs then s.stgRead (lyStats l) n else s
      let s := s.setLayerGrad { lg with aux := some aux.1 }
      let r := s.router c st layer (u g.log 13 1)
      let es := (logEntries g.log).zip g.dg
      let ids := s.tokenIds c st layer tile
      let dx := runNf (((List.range 256).filter (fun t => nChosen (logStatus g.log t) != 0)).mapM (fun t => do
        let mine := (es.filter (fun (x : (Nat × Nat) × F32) => x.1.1 == t)).map (fun (x : (Nat × Nat) × F32) => (x.1.2, x.2))
        let d ← logitGrad r aux.1 (nth ids t 0) (sub g.lsave (64 + t * logitPos l) (logitPos l)) mine
        pure (t, d)))
      let s := s.setGrad { g with dx := dx.1, b4 := true }
      let s := (s.nonFinite 9 c layer st aux.2).nonFinite 9 c layer st dx.2
      (s.busy 9 (some c)).busy 6 (some c)

/-! ### B5: router-weight gradient and router term (R155 to R157) -/

/-- The logit gradients of a position; +0 where it has none (R154). -/
def dxAt (g : Grad) (t : Nat) : Option (List F32) := (g.dx.find? (fun (x : Nat × List F32) => x.1 == t)).map (·.2)

/-- The tile's contribution to the accumulator (R155): `hs` the hidden states of present positions. -/
def contribution (l : Bytes) (g : Grad) (hs : List (Nat × List F32)) : Arith (List F32) := do
  let rows ← (List.range (selE l)).mapM (fun e => (List.range (lyD l)).mapM (fun i => do
    let ps ← (List.range 256).mapM (fun t =>
      match hs.find? (fun (x : Nat × List F32) => x.1 == t) with
      | some h => fmul (match dxAt g t with | some d => nth d e 0 | none => 0) (nth h.2 i 0)
      | none => pure 0)
    posReduce ps))
  pure rows.flatten

/-- The router term of a token (R157): `ws` the weight rows decoded. -/
def routerTerm (l : Bytes) (dx : List F32) (ws : List (List F32)) : Arith (List F32) := do
  let n := 256 * ceilDiv (selE l) 256
  let a := opndF32 ((List.range n).map (fun e => nth dx e 0))
  (List.range (lyD l)).mapM (fun i => dot a (opndF32 ((List.range n).map (fun e => nth (nth ws e []) i 0))) n)

/-- The router terms of a tile written into the input-gradient tensor (R151, R423). -/
def State.writeRouter (s : State) (c st layer tile index : Nat) (terms : List (Nat × List F32)) : State :=
  let d := s.pathDesc c layer 1
  let done := s.ledgerDone c st layer index 2
  let s := s.ledgerRead c st layer index 2
  let s := if terms.all (fun x => bit done x.1) then s else (s.touchTile d tile false).touchTile d tile true
  let r := terms.foldl (fun (a : (State × Nf) × Nat) (x : Nat × List F32) =>
    if bit done x.1 then a else
    let w := a.1.1.writeBack d tile x.1 x.2
    ((w.1, a.1.2.plus w.2), setBit a.2 x.1)) ((s, {}), 0)
  (r.1.1.nonFinite 11 c layer st r.1.2).ledgerWrite c st layer index 2 (done ||| r.2)

/-- GRADIENT_B5 (R151, R155 to R157): it waits for B4 of the tile, for the tiles before it in tile sequence and, with
ROUTER_DX, for B3's close point. -/
def gradientB5Op (c layer tile index : Nat) (s : State) : State :=
  let cmd := gradFields 2 layer tile index
  let st := s.gradStep c cmd
  let l := s.layer c layer
  match s.grad c st layer tile, s.reingested c st layer tile with
  | some g, some w =>
    let before := (s.forwardTiles c st layer).filter (fun t => decide (t < tile))
    let turn := before.all (fun t => match s.grad c st layer t with | some x => x.b5 | none => false)
    let b3 := match s.combOf c st layer tile 1 with | some k => k.closed | none => false
    if s.gradDue c st cmd && g.b4 && !g.b5 && turn && (!(bwRouter l) || b3) then
      let s := s.takeGrad c st cmd
      let lg := s.layerGradOr c st layer
      let hs := runNf ((presentPos w.present).mapM (fun t => do
        let h ← decodePayload (lyHidden l) (lyD l) (w.payload l t)
        pure (t, h)))
      let new := runNf (contribution l g hs.1)
      let n := selE l * lyD l
      let acc := if lg.tiles = 0 then (new.1, {}) else runNf (addLists (s.accElems l 0 n) new.1)
      let s := if lg.tiles = 0 then s else s.accRead c l 0 n
      let s := s.accPut c l 0 acc.1
      let s := s.setLayerGrad { lg with tiles := lg.tiles + 1 }
      let s := s.setGrad { g with b5 := true, routerDone := true }
      let dom := s.scorerDomain
      let s := ((s.nonFinite dom c layer st hs.2).nonFinite dom c layer st new.2).nonFinite dom c layer st acc.2
      let s := if bwRouter l then
          let rows := weightRows l (s.weightRegion l)
          let terms := runNf (do
            let ws ← rows.mapM (fun r => decodePayload (lyWeightFmt l) (lyD l) r)
            g.dx.mapM (fun (x : Nat × List F32) => do
              let d ← routerTerm l x.2 ws
              pure (x.1, d)))
          let s := (s.weightRead l).nonFinite dom c layer st terms.2
          s.writeRouter c st layer tile index terms.1
        else s
      ((s.gradClosable c st layer tile).scorerBusy c).busy 8 (some c)
    else s
  | _, _ => s

/-- GRADIENT_B6 (R158): after B5 of the layer's last tile the visits and the accumulator stand for the Sum-Alls. -/
def gradientB6Op (c layer tile index : Nat) (s : State) : State :=
  let w := gradFields 3 layer tile index
  let st := s.gradStep c w
  let done := (s.forwardTiles c st layer).all (fun t => match s.grad c st layer t with | some x => x.b5 | none => false)
  let lg := s.layerGradOr c st layer
  if s.gradDue c st w && done && !lg.reduced then
    let s := s.takeGrad c st w
    (s.setLayerGrad { lg with reduced := true }).busy 9 (some c)
  else s

/-- GRADIENT_B2. -/
def execGradientB2 (ctx layer tile index corrupt : Nat) (s : State) : Host.Outcome State Fault Refusal :=
  .next (actFresh (gradientB2Op ctx layer tile index corrupt) s)
/-- GRADIENT_B4. -/
def execGradientB4 (ctx layer tile index : Nat) (s : State) : Host.Outcome State Fault Refusal :=
  .next (actFresh (gradientB4Op ctx layer tile index) s)
/-- GRADIENT_B5. -/
def execGradientB5 (ctx layer tile index : Nat) (s : State) : Host.Outcome State Fault Refusal :=
  .next (actFresh (gradientB5Op ctx layer tile index) s)
/-- GRADIENT_B6. -/
def execGradientB6 (ctx layer tile index : Nat) (s : State) : Host.Outcome State Fault Refusal :=
  .next (act (gradientB6Op ctx layer tile index) s)

end Sys2Proof.Machine
end

