-- ==== Sys2Proof/Machine/Reset.lean ====
section
/-! DEFINITION. Cold and warm reset, the root clock, power (R395, R400 to R405, R410). -/

namespace Sys2Proof.Machine

open Sys2Proof

/-- The engine's state once its root clock has stopped: no part of it is defined (R395), so nothing is known of it. -/
opaque undefinedState : Nat → State

/-- The engine with every part at its default (R373, R400): what it keeps is outside it (build, surroundings, pins, the
commands that wait). -/
def State.cleared (s : State) (p : Phase) : State :=
  { build := s.build, env := s.env, pending := s.pending, free := s.free, outbox := s.outbox, phase := p, tpUp := s.tpUp,
    time := { throttle := s.time.throttle, sampled := 0 },
    ports := s.ports.map (fun (x : LinkPort) => ({ up := x.up } : LinkPort)) }

/-- COLD_RESET_ASSERT (R400). -/
def coldResetAssertOp (s : State) : State := s.cleared .coldHeld

/-- COLD_RESET_RELEASE (R400, R386, R438, R466): the dividers start, the straps are latched, and the partition, where the
engine has it, reads its 256 key bits. -/
def coldResetReleaseOp (s : State) : State :=
  if s.phase = .coldHeld && !s.clockStopped then
    let n := s.env.strap % 128
    let s := { s with phase := .initialising }
    let s := if s.build.partition then ({ s with meter := { s.meter with key := le 32 s.env.key.toNat } }).emit .keyReq else s
    let s := s.put Key.COM_CAN_NODE n
    if n = 0 then s.put Key.COM_CAN_STATE 3 else s
  else s

/-- INTERNAL_INIT_DONE (R401). -/
def internalInitDoneOp (s : State) : State :=
  if s.phase = .initialising && !s.clockStopped then
    { s with phase := .running, cp := {}, can := {}, time := { s.time with initAt := s.time.ticks }, ports := s.ports.map (fun (x : LinkPort) => { x with silent := 0 }) }
  else s

/-- Scalars a warm reset leaves (Table 16.1): all but the counters at 0x6000 to 0x67FF and the entries it names. -/
def warmKeeps (k : Nat) : Bool :=
  let i := k / 256 % 65536
  if 0x6000 ≤ i ∧ i ≤ 0x67FF then
    [Key.SNAP_SEQ, Key.SNAP_LATEST, Key.SNAP_LOCK, Key.SNAP_TRIG_ENABLE, Key.TRC_BASE, Key.TRC_LEN, Key.TRC_PORT, Key.TRC_KINDS,
      Key.TRC_CTX_MASK, Key.TRC_PORT_MASK].contains k
  else !([0x2101, Key.TT_STATE 0 / 256, Key.TT_LOAD_RESULT 0 / 256, Key.POOL_HELD 0 0 / 256, Key.POOL_HELD 1 0 / 256,
      Key.POOL_HELD 2 0 / 256, Key.POOL_HELD 3 0 / 256, Key.POOL_HELD 4 0 / 256, Key.DRU_RING_HEAD 0 / 256,
      Key.DRU_RING_TAIL 0 / 256, Key.INT_CAUSE 0 / 256].contains i ||
    [Key.DICT_REFUSED_CP, Key.DICT_REFUSED_CAN, Key.CVU_MISMATCH_PEND, Key.POOL_STATE, Key.PT_SHADOW_READY, Key.SFU_SHADOW_READY,
      Key.RPL_HEAD, Key.RPL_TAIL, Key.RPL_STATE].contains k)

/-- DOMAIN entries a warm reset zeroes (Table 16.1). -/
def warmZeroes (d : Nat) : Bool :=
  d == Dom.FEP_COUNTERS || d == Dom.PQ_LEVEL_CAUSE || decide (Dom.DRU_STEP_DIGEST 0 ≤ d ∧ d < Dom.DRU_STEP_DIGEST 8)

/-- What a warm reset does (R404, Table 16.1); the timebase, the links' timing and the metering partition run on. -/
def State.warmed (s : State) : State :=
  let regs := s.regs.filter (fun (e : Nat × U64) => warmKeeps e.1)
  let dom := s.dom.filter (fun (e : Nat × Byte) => !(warmZeroes (e.1 / domSpan)))
  let t : State :=
    { build := s.build, env := s.env, pending := s.pending, free := s.free, outbox := s.outbox, phase := s.phase, tpUp := s.tpUp,
      clockStopped := s.clockStopped, regs := regs, dom := dom,
      view := s.view.filter (fun (e : Nat × U64) => warmKeeps e.1), viewDom := s.viewDom,
      stg := s.stg, qstore := s.qstore, time := s.time, rates := s.rates, ports := s.ports,
      seen := s.seen, noticeTx := s.noticeTx, targets := s.targets,
      win := s.win, field := { s.field with events := [], levels := 0 },
      obs := { s.obs with traceLoss := {}, traceBuf := {}, tracing := false, latchDue := [], loads := [], declared := [] }, meter := s.meter,
      fep := s.fep.emptied }
  { t with queues := (List.range 512).filterMap (fun q =>
      let d := t.pqDesc q
      if pqKind d = 2 then some (q, queueFresh d) else none) }.setRate

/-- A warm reset starts (R403). -/
def State.startWarm (s : State) (cause : Nat) : State := { s.warmed with phase := .warm cause }

/-- WARM_RESET_INPUT (R403, R405): ignored during internal initialisation; joined to a warm reset that runs. -/
def warmResetInputOp (s : State) : State := if s.live then s.startWarm 2 else s

/-- WARM_RESET_DONE (R403). -/
def warmResetDoneOp (s : State) : State :=
  match s.phase with
  | .warm cause =>
    if s.clockStopped then s else
    ((({ s with phase := .running }).put Key.RST_CAUSE cause).count Key.RST_WARM_COUNT 1).syncInts
  | _ => s

/-- ROOT_CLOCK_STOP (R395): every domain stops, and no state is defined until the next cold reset; the levels that the pins
drive stand. -/
def rootClockStopOp (s : State) : State :=
  if s.phase = .off then s else
  let t := undefinedState s.free
  { t with
    build := s.build, env := s.env, pending := s.pending, free := s.free + 1, outbox := s.outbox, clockStopped := true,
    time := { t.time with throttle := s.time.throttle }, tpUp := s.tpUp, ports := s.ports.mapIdx (fun p x => { nth t.ports p {} with up := x.up }) }

/-- POWER_REMOVED (R410): every dictionary entry is discarded. -/
def powerRemovedOp (s : State) : State := s.cleared .off

/-- COLD_RESET_ASSERT. -/
def execColdResetAssert (s : State) : Host.Outcome State Fault Refusal := .next (coldResetAssertOp s)
/-- COLD_RESET_RELEASE. -/
def execColdResetRelease (s : State) : Host.Outcome State Fault Refusal := .next (coldResetReleaseOp s)
/-- INTERNAL_INIT_DONE. -/
def execInternalInitDone (s : State) : Host.Outcome State Fault Refusal := .next (internalInitDoneOp s)
/-- WARM_RESET_INPUT. -/
def execWarmResetInput (s : State) : Host.Outcome State Fault Refusal := .next (warmResetInputOp s)
/-- WARM_RESET_DONE. -/
def execWarmResetDone (s : State) : Host.Outcome State Fault Refusal := .next (warmResetDoneOp s)
/-- ROOT_CLOCK_STOP. -/
def execRootClockStop (s : State) : Host.Outcome State Fault Refusal := .next (rootClockStopOp s)
/-- POWER_REMOVED. -/
def execPowerRemoved (s : State) : Host.Outcome State Fault Refusal := .next (powerRemovedOp s)

end Sys2Proof.Machine
end

