-- ==== Sys2Proof/Machine/Can.lean ====
section
/-! DEFINITION. The field-network port (R385 to R390): its error state, heartbeat and interrupt event frames. -/

namespace Sys2Proof.Machine

open Sys2Proof

/-- The port may send: neither bus-off nor disabled (R386, R390). -/
def State.canSends (s : State) : Bool := decide (s.get Key.COM_CAN_STATE < 2)

/-- Error active or error passive, from the counters (R390; the limits are those of ISO 11898-1). -/
def canActive (tec rec_ : Nat) : Nat := if tec ≥ 128 || rec_ ≥ 128 then 1 else 0

/-- The counters after a frame sent without an error (R390). -/
def State.canSent (s : State) (id : Nat) (bs : Bytes) : State :=
  let t := s.get Key.COM_CAN_TEC - 1
  ((s.put Key.COM_CAN_TEC t).put Key.COM_CAN_STATE (canActive t (s.get Key.COM_CAN_REC))).emit (.canFrame id bs)

/-- The counters after a frame received without an error: a receive count above 127 falls to a value of 119 to 127 that
the standard leaves open. -/
def State.canHeard (s : State) : State :=
  let r := s.get Key.COM_CAN_REC
  let r' := if r > 127 then 119 + Config.busyCycles s.free 25 % 9 else r - 1
  (s.put Key.COM_CAN_REC r').put Key.COM_CAN_STATE (canActive (s.get Key.COM_CAN_TEC) r')

/-- The identifier of a frame (Table 15.9). -/
def State.canId (s : State) (func : Nat) : Nat := func * 128 + s.get Key.COM_CAN_NODE

/-- The interrupt output levels, a bit each. -/
def State.intLevels (s : State) : Nat :=
  (List.range 4).foldl (fun n l => if s.intLevel l then setBit n l else n) 0

/-- HEARTBEAT (R389): one frame each COM_HEARTBEAT ms. -/
def heartbeatOp (s : State) : State :=
  let h := s.get Key.COM_HEARTBEAT
  if h ≠ 0 && s.canSends && decide (s.field.beat + h ≤ s.ms) then
    let running := (List.range 8).foldl (fun n c => if s.tt c = 4 then setBit n c else n) 0
    let bs := le 1 (s.get Key.TB_STATE) ++ le 1 running ++ le 1 s.intLevels ++ le 1 (s.get Key.COM_CAN_STATE) ++ le 4 s.frame
    ({ s with field := { s.field with beat := s.ms } }).canSent (s.canId 0xE) bs
  else s

/-- INTERRUPT_EVENT_FRAME (R389): the oldest waiting event frame goes out. -/
def interruptEventFrameOp (s : State) : State :=
  match s.field.events with
  | (l, cause) :: r =>
    if s.canSends then
      ({ s with field := { s.field with events := r } }).canSent (s.canId 0x1) (le 1 l ++ zeros 3 ++ le 4 cause)
    else s
  | [] => s

/-- What follows a transaction that has completed: the CAN data rate it wrote is in force (R385), the warm reset it asked for
starts (R403). -/
def State.afterTxn (s : State) (x : Txn) : State :=
  let s := match x.rate with | some r => { s with field := { s.field with rate := r } } | none => s
  if x.warm then s.startWarm 3 else s

/-- CAN_BUS_ERROR (R390): an error raises a counter by the amount the standard gives it, `count`. A transmit counter
above 255 takes the port to bus-off; a response that waits is lost, and its transaction stands (R388). -/
def canBusErrorOp (transmit : Bool) (count : Nat) (s : State) : State :=
  if s.canSends then
    let t := s.get Key.COM_CAN_TEC + (if transmit then count else 0)
    let r := s.get Key.COM_CAN_REC + (if transmit then 0 else count)
    let s := (s.put Key.COM_CAN_TEC (min 255 t)).put Key.COM_CAN_REC (min 255 r)
    if t > 255 then
      let s := s.put Key.COM_CAN_STATE 2
      let s := { s with field := { s.field with waiting := [] } }
      match s.can.busy with
      | some x => ({ s with can := { s.can with busy := none } }).afterTxn x
      | none => s
    else s.put Key.COM_CAN_STATE (canActive t r)
  else s

/-- CAN_BUS_OFF_RECOVERY (R390): 128 occurrences of 11 recessive bits have passed. -/
def canBusOffRecoveryOp (s : State) : State :=
  if s.get Key.COM_CAN_STATE = 2 then ((s.put Key.COM_CAN_TEC 0).put Key.COM_CAN_REC 0).put Key.COM_CAN_STATE 0 else s

/-- HEARTBEAT. -/
def execHeartbeat (s : State) : Host.Outcome State Fault Refusal := .next (act heartbeatOp s)
/-- INTERRUPT_EVENT_FRAME. -/
def execInterruptEventFrame (s : State) : Host.Outcome State Fault Refusal := .next (act interruptEventFrameOp s)
/-- CAN_BUS_ERROR. -/
def execCanBusError (transmit : Bool) (count : Nat) (s : State) : Host.Outcome State Fault Refusal :=
  .next (act (canBusErrorOp transmit count) s)
/-- CAN_BUS_OFF_RECOVERY. -/
def execCanBusOffRecovery (s : State) : Host.Outcome State Fault Refusal := .next (act canBusOffRecoveryOp s)

end Sys2Proof.Machine
end

