-- ==== Sys2Proof/Machine/Cvu.lean ====
section
/-! DEFINITION. The Check-Value Unit (chapter 14, R361 to R368): scan requests, the scan engine, injection. -/

namespace Sys2Proof.Machine

open Sys2Proof

/-- The detail of the first check of R361 that a request fails (Table 14.6). An empty range lies inside any range. -/
def State.scanCheck (s : State) (d : Nat) : Option Nat :=
  if bits d 0 2 ≠ 0 || scMode d = 3 || (!(sc64 d) && bits d 160 32 ≠ 0) || (scMode d = 1 && bits d 96 32 ≠ 0) ||
     (!(scHost d) && scPort d ≠ 0) || scLen d = 0xFFFFFFFF then some 0xB0
  else if (scLen d ≠ 0 && !(s.allocated (scCtx d) (scHost d) (scPort d) (scStart d) (scLen d))) || !(s.holdsPart (scCtx d))
  then some 0xB1
  else if (scNotify d && !(s.ownsQueue (scCtx d) (scQueue d))) || s.cvu.queue.length ≥ 16 then some 0xB2
  else none

/-- A request written: queued, or refused (R361). -/
def State.scanRequest (s : State) (bs : Bytes) : State × Option Refused :=
  let d := u bs 0 32
  match s.scanCheck d with
  | some k => (s, some { cls := Ec.descRange, det := k, ctx := some (scCtx d), idx := 0 })
  | none => ({ s with cvu := { s.cvu with queue := s.cvu.queue ++ [sub bs 0 32] } }, none)

/-- SCAN_BEGIN (R362). -/
def scanBeginOp (s : State) : State :=
  match s.cvu.running, s.cvu.queue with
  | none, d :: r => { s with cvu := { s.cvu with queue := r, running := some (d, false) } }
  | _, _ => s

/-- The fold prefix of a request (R359, Table 14.3). -/
def scPrefix (d : Nat) : Bytes := if scMode d = 1 then le 4 (scFold d) else if scMode d = 2 then le 8 (scFold d) else []

/-- The result of a scan over the bytes of its range as they stand (R363). -/
def State.scanResult (s : State) (d : Nat) : Nat :=
  let data := if scHost d then s.hostBytes (scStart d) (scLen d) else s.stgBytes (scStart d) (scLen d)
  if sc64 d then crc64 (scPrefix d ++ data) else crc32c (scPrefix d ++ data)

/-- The reads of a scan's first `n` bytes accounted (R362). -/
def State.scanReads (s : State) (d n : Nat) : State :=
  let s := s.count (Key.CVU_SCAN_LINES (scCtx d)) (lineCount (scStart d) n)
  if scHost d then s.hostRead (scPort d) (scStart d) n else s.stgRead (scStart d) n false

/-- A mismatch (R364). -/
def State.scanMismatch (s : State) (d result : Nat) : State :=
  let c := scCtx d
  let s := s.count (Key.CVU_MISMATCH_COUNT c) 1
  let s := s.log { cls := Ec.crc, det := 0x30, dom := 20, ctx := some c, arg := scTag d <<< 16 ||| 0xFFFF }
  let s := if s.get Key.CVU_MISMATCH_PEND = 0 then
    s.domPut Dom.CVU_MISMATCH_FIRST 0 (le 8 result ++ le 8 (scExpect d) ++ le 1 (scTag d) ++ le 1 c ++ zeros 6) else s
  (s.put Key.CVU_MISMATCH_PEND (setBit (s.get Key.CVU_MISMATCH_PEND) (scLine d))).syncInts

/-- SCAN_COMPLETE (R364, R365). An aborted scan stopped after a free number of its bytes. -/
def scanCompleteOp (s : State) : State :=
  match s.cvu.running with
  | none => s
  | some (bs, aborted) =>
    let d := unle bs
    let c := scCtx d
    let s := { s with cvu := { s.cvu with running := none } }
    if aborted then (s.scanReads d (Config.partialWork s.free 20 % (scLen d + 1))).scanNotice d 2 0
    else
      let r := s.scanResult d
      let s := s.scanReads d (scLen d)
      let s := s.domPut Dom.CVU_LAST_RESULT 0 (le 8 r ++ le 1 (scTag d) ++ le 1 c ++ zeros 6)
      let bad := scCompare d && r != scExpect d
      let s := if bad then s.scanMismatch d r else s
      (s.count (Key.CVU_SCAN_DONE c) 1).scanNotice d (if bad then 1 else 0) r

/-- CVU_INJECT (R366). -/
def cvuInjectOp (v : Nat) (s : State) : State :=
  if bit v 15 && bits v 6 9 = 0 then { s with cvu := { s.cvu with inject := s.cvu.inject.filter (· != v % 64) ++ [v % 64] } }
  else s

/-- CVU_SCAN_STATE (Table 14.5). -/
def State.scanState (s : State) : Nat :=
  s.cvu.queue.length <<< 24 ||| (match s.cvu.running with | some (d, _) => 256 ||| scTag (unle d) | none => 0)

/-- SCAN_BEGIN. -/
def execScanBegin (s : State) : Host.Outcome State Fault Refusal := .next (act scanBeginOp s)
/-- SCAN_COMPLETE. -/
def execScanComplete (s : State) : Host.Outcome State Fault Refusal := .next (actFresh scanCompleteOp s)

end Sys2Proof.Machine
end

