-- ==== Sys2Proof/Machine/Fep.lean ====
section
/-! DEFINITION. The Fabric Endpoint (chapter 13, R333 to R357): messages on the links, the requester, the target. -/

namespace Sys2Proof.Machine

open Sys2Proof

/-! ### Sequence numbers -/

/-- Distance from `b` up to `a`, modulo 65,536 (R342). -/
def seqSub (a b : Nat) : Nat := (a + 65536 - b % 65536) % 65536
/-- `a` lies below `b`, modulo 65,536 (R342). -/
def seqBelow (a b : Nat) : Bool := decide (32768 ≤ seqSub a b)

/-! ### Memory of the endpoint: outside the count of R180 (R348) -/

/-- Bytes at a local place. -/
def State.fepBytes (s : State) (host : Bool) (a n : Nat) : Bytes := if host then s.hostBytes a n else s.stgBytes a n
/-- The accounting of their read. -/
def State.fepRead (s : State) (host : Bool) (port a n : Nat) : State :=
  if host then s.hostRead port a n else s.stgRead a n false
/-- Bytes written at a local place. -/
def State.fepWrite (s : State) (host : Bool) (port a : Nat) (bs : Bytes) : State :=
  if host then s.hostWrite port a bs else s.stgWrite a bs false

/-! ### Onto the links (R338, R340, R341) -/

/-- A message of another node forwarded, or discarded (R340). -/
def State.fepForward (s : State) (p : Nat) (m : Msg) : State :=
  if m.hops = 31 then (s.count (Key.FEP_UNROUTED m.ctx) 1).fepOwe (some p) m.isReply m.flits
  else s.fepPass (some p) { m with hops := m.hops + 1 }

/-! ### The target (R335, R336, R342 to R348) -/

/-- A reply sent to its requester; a message for the own node never leaves it (R340). -/
def State.fepReply (s : State) (r : Msg) : State :=
  if r.dst = s.node then { s with fep := { s.fep with replies := s.fep.replies ++ [r] } } else s.fepPut r

/-- The reply to a request. Fields that no rule gives a reply are zero. -/
def State.replyTo (s : State) (m : Msg) (status : Nat) (old : Nat) (data : Bytes) : Msg :=
  { kind := 8, src := s.node, dst := m.src, seq := m.seq, tag := m.tag, ctx := m.ctx, status := status, op0 := old,
    len := data.length, data := data }

/-- A repeat answered (R345): the recorded reply again, STATUS void where no entry is left, and nothing yet where the reply
is still to be recorded. -/
def State.fepRepeat (s : State) (m : Msg) : State :=
  match s.fep.table.find? (fun (e : ReplayEnt) => e.src == m.src && e.seq == m.seq) with
  | some e => match e.reply with
    | some r => s.fepReply r
    | none => s
  | none => s.fepReply (s.replyTo m 2 0 [])

/-- NEXT of a source (R343). -/
def State.fepNext (s : State) (src : Nat) : Nat := (Sparse.get? s.fep.next src).getD 0

/-- NEXT of a source set; what waits below it has become a repeat and is answered (R343). -/
def State.setFepNext (s : State) (src n : Nat) : State :=
  let old (m : Msg) : Bool := m.sequenced && m.src == src && seqBelow m.seq n
  let gone := s.fep.queue.filter old
  let s := { s with fep := { s.fep with
    next := Sparse.put s.fep.next src (n % 65536)
    queue := s.fep.queue.filter (fun (m : Msg) => !(old m)) } }
  gone.foldl State.fepRepeat s

/-- A request enters the endpoint: sequence checks, then the request queue (R342, R343, R345). -/
def State.fepEnter (s : State) (m : Msg) : State :=
  let s := { s with fep := { s.fep with
    table := s.fep.table.filter (fun (e : ReplayEnt) => !(e.src == m.src && seqBelow e.seq m.base)) } }
  if !m.sequenced then { s with fep := { s.fep with queue := s.fep.queue ++ [m] } } else
  let s := if m.sync then
    ({ s with fep := { s.fep with table := s.fep.table.filter (fun (e : ReplayEnt) => e.src != m.src) } }).setFepNext m.src m.seq
    else s
  if 31 < seqSub m.seq m.base then
    s.log { cls := Ec.seq, det := 0x31, dom := 18, ctx := some m.ctx, node := some m.src, arg := m.seq <<< 16 ||| 0xFFFF }
  else if seqBelow m.seq (s.fepNext m.src) then s.fepRepeat m
  else
    let s := if seqBelow (s.fepNext m.src) m.base then s.setFepNext m.src m.base else s
    { s with fep := { s.fep with queue := s.fep.queue ++ [m] } }

/-- A request for this node: taken from its link buffer unless the request queue is full (R343, R348). -/
def State.fepTake (s : State) (from_ : Option Nat) (m : Msg) : State :=
  if 1024 ≤ s.fep.queue.length || !s.fep.stalled.isEmpty then
    { s with fep := { s.fep with stalled := s.fep.stalled ++ [(from_, m)] } }
  else (s.fepOwe from_ false m.flits).fepEnter m

/-- Requests that the full queue kept in link buffers taken while there is room (R348). -/
def State.fepDrain : Nat → State → State
  | 0, s => s
  | n + 1, s =>
    match s.fep.stalled with
    | [] => s
    | (f, m) :: r =>
      if 1024 ≤ s.fep.queue.length then s
      else State.fepDrain n ((({ s with fep := { s.fep with stalled := r } }).fepOwe f false m.flits).fepEnter m)

/-- Window `w` of a context (Table 13.1) and its fields. -/
def State.fepWindow (s : State) (c w : Nat) : Nat := unle (s.domBytes Dom.FEP_WINDOWS (512 * c + 32 * w) 32)
def wdBase (d : Nat) : Nat := bits d 192 64
def wdLocal (d : Nat) : Nat := bits d 128 64
def wdLen (d : Nat) : Nat := bits d 64 64
def wdPort (d : Nat) : Nat := bits d 6 2
def wdHost (d : Nat) : Bool := bit d 5
def wdAtomic (d : Nat) : Bool := bit d 4
def wdWrite (d : Nat) : Bool := bit d 3
def wdRead (d : Nat) : Bool := bit d 2

/-- The port of a context's scan table (R217): its FETCH_PORT, or the port that reaches it once its image is gone. -/
def State.scanPort (s : State) (c : Nat) : Nat :=
  if s.holdsPart c then s.fetchPort c else s.portFor c (s.get (Key.DRU_SCAN_BASE c)) 16785408

/-- Where a request leads. -/
inductive FepPlace where
  /-- Host memory or the Staging Store: memory port and address. -/
  | mem (host : Bool) (port addr : Nat)
  /-- A post-table record (R225). -/
  | post (i : Nat)
deriving DecidableEq, Repr

/-- A reserved atomic operation (Table 13.5). -/
def aopReserved (a : Nat) : Bool := a == 0 || decide (6 < a)

/-- The translation of a request (R335, R336): the detail of Table 13.9, or its place. -/
def State.fepTranslate (s : State) (m : Msg) : Except Nat FepPlace :=
  let n := m.span
  if 0xFFFF000000000000 ≤ m.offset then
    let o := m.offset - 0xFFFF000000000000
    if o < 64 * 256 && o % 64 = 0 && m.kind = 2 && m.flag && m.len = 64 && s.get Key.DRU_CHECK_ENABLE = 1 then .ok (.post (o / 64))
    else if 0x100000000 ≤ o && o - 0x100000000 + n ≤ 16785408 && o - 0x100000000 < 16785408 && m.kind = 1 &&
      s.get (Key.DRU_SCAN_BASE m.ctx) ≠ 0 then
      .ok (.mem true (s.scanPort m.ctx) (s.get (Key.DRU_SCAN_BASE m.ctx) + (o - 0x100000000)))
    else .error 5
  else
    let ws := ((List.range 16).map (s.fepWindow m.ctx)).filter ldValid
    match ws.find? (fun d => decide (wdBase d ≤ m.offset ∧ m.offset + n ≤ wdBase d + wdLen d)) with
    | none => .error (if ws.any (fun d => decide (wdBase d ≤ m.offset ∧ m.offset < wdBase d + wdLen d)) then 3 else 1)
    | some d =>
      if !(if m.kind = 1 then wdRead d else if m.kind = 2 then wdWrite d else wdAtomic d) then .error 2
      else if m.kind = 3 && (m.offset % 8 ≠ 0 || aopReserved m.aop) then .error 4
      else .ok (.mem (wdHost d) (wdPort d) (wdLocal d + m.offset - wdBase d))

/-- The new value of an atomic's word (Table 13.5). -/
def aopValue (a old x y : Nat) : Nat :=
  match a with
  | 1 => (old + x) % 2 ^ 64
  | 2 => x
  | 3 => if old = x then y else old
  | 4 => max old x
  | 5 => old ||| x
  | _ => old &&& x

/-- Arrival or completion counter `k` of a context raised by one (R352). -/
def State.fepCounter (s : State) (c k : Nat) : State :=
  let o := 512 * c + 8 * k
  s.domPut Dom.FEP_COUNTERS o (le 8 (unle (s.domBytes Dom.FEP_COUNTERS o 8) + 1))

/-- The context, check and step a post record belongs to (R226). -/
def postKey (bs : Bytes) : Nat × Nat × Nat := (u bs 8 1, u bs 9 1, u bs 0 8)

/-- A post stored in the post table (R226); its set is opened with the plan tick of its first post. A checked set whose
records are all replaced is forgotten. -/
def State.postArrived (s : State) (i : Nat) (bs : Bytes) : State :=
  let k := postKey bs
  let d := s.dru
  let posts := Sparse.put d.posts i bs
  let key (x : PostSet) : Nat × Nat × Nat := (x.ctx, x.check, x.step)
  let sets := d.sets.filter (fun (x : PostSet) => !x.done || posts.any (fun (r : Nat × Bytes) => postKey r.2 == key x))
  let sets := if sets.any (fun (x : PostSet) => key x == k) then sets
    else sets ++ [{ ctx := k.1, check := k.2.1, step := k.2.2, first := s.stamp }]
  { s with dru := { d with posts := posts, sets := sets } }

/-- A queued request may be applied now (R343 to R345). -/
def State.fepReady (s : State) (m : Msg) : Bool :=
  !m.sequenced ||
    (m.seq == s.fepNext m.src && decide (s.fep.table.length < 16384) &&
      !(m.flag && s.fep.writes.any (fun (w : WriteBack) => w.msg.src == m.src)))

/-- A store or atomic applied at local bytes: counted in the stream, its reply to be recorded when its write completes (R344, R345). -/
def State.fepIssued (s : State) (m r : Msg) (host : Bool) (a : Nat) : State :=
  { s with fep := { s.fep with
    writes := s.fep.writes ++ [{ msg := m, reply := r, host := host, addr := a }]
    table := s.fep.table ++ [{ src := m.src, seq := m.seq, reply := none, at_ := s.time.ticks }] } }

/-- One request applied (R335, R344, R347). -/
def State.fepDo (s : State) (m : Msg) : State :=
  match s.fepTranslate m with
  | .error d =>
    let r := s.replyTo m 1 0 []
    let s := s.log { cls := Ec.xlate, det := d, dom := 18, ctx := some m.ctx, node := some m.src, arg := m.offset % 2 ^ 32 }
    let s := if m.sequenced then
      { s with fep := { s.fep with
        table := s.fep.table ++ [{ src := m.src, seq := m.seq, reply := some r, at_ := s.time.ticks }] } } else s
    s.fepReply r
  | .ok (.post i) => (s.postArrived i m.data).fepIssued m (s.replyTo m 0 0 []) true (0xFFFF000000000000 + 64 * i)
  | .ok (.mem host port a) =>
    if m.kind = 1 then
      let r := s.replyTo m 0 0 (s.fepBytes host a m.len)
      let s := s.fepRead host port a m.len
      (if m.count then s.fepCounter m.ctx m.counter else s).fepReply r
    else if m.kind = 2 then (s.fepWrite host port a m.data).fepIssued m (s.replyTo m 0 0 []) host a
    else
      let old := unle (s.fepBytes host a 8)
      let s := (s.fepRead host port a 8).fepWrite host port a (le 8 (aopValue m.aop old m.op0 m.op1))
      s.fepIssued m (s.replyTo m 0 old []) host a

/-- FEP_APPLY (R343, R344): the ready request that entered the queue first. -/
def fepApplyOp (s : State) : State :=
  match s.fep.queue.find? s.fepReady with
  | none => s
  | some m =>
    let s := { s with fep := { s.fep with queue := s.fep.queue.erase m } }
    let s := s.fepDo m
    let s := if m.sequenced then s.setFepNext m.src (m.seq + 1) else s
    (State.fepDrain s.fep.stalled.length s).busy 18 none

/-- FEP_WRITE_COMPLETE (R344, R345, R352): an applied store or atomic completes at memory. Requests of one stream that
touch the same bytes complete in the order they were applied. -/
def fepWriteCompleteOp (src seq : Nat) (s : State) : State :=
  match s.fep.writes.find? (fun (w : WriteBack) => w.msg.src == src && w.msg.seq == seq) with
  | none => s
  | some w =>
    let before := s.fep.writes.takeWhile (fun (x : WriteBack) => x != w)
    if before.any (fun (x : WriteBack) => x.msg.src == src && x.host == w.host && overlaps x.addr x.msg.span w.addr w.msg.span) then s else
    let s := { s with fep := { s.fep with
      writes := s.fep.writes.erase w
      table := s.fep.table.map (fun (e : ReplayEnt) =>
        if e.src == src && e.seq == seq then { e with reply := some w.reply } else e) } }
    (if w.msg.count then s.fepCounter w.msg.ctx w.msg.counter else s).fepReply w.reply

/-- REPLAY_TABLE_EXPIRY (R345): 64 µs since its application. -/
def replayTableExpiryOp (src seq : Nat) (s : State) : State :=
  { s with fep := { s.fep with table := s.fep.table.filter (fun (e : ReplayEnt) =>
      !(e.src == src && e.seq == seq && s.usPassed e.at_ 64)) } }

/-! ### The requester (R342, R346, R349 to R354) -/

/-- FEP_CREDITS of a context (Table 7.4). -/
def State.fepCredits (s : State) (c : Nat) : Nat := u (s.part c) 4110 2

/-- A request may be issued: a credit, or a reserved entry of the checker, and at most 32 of a stream outstanding (R342,
R351). -/
def State.fepMay (s : State) (credit : Option Nat) (dst : Nat) (sequenced : Bool) : Bool :=
  decide ((s.fep.reqs.filter (fun (r : Req) => r.credit == credit)).length < (match credit with | some c => s.fepCredits c | none => 16)) &&
    (!sequenced || decide ((s.fep.reqs.filter (fun (r : Req) => r.msg.sequenced && r.msg.dst == dst)).length < 32))

/-- The lowest free index of the outstanding table; the last 16 are the checker's (R351). -/
def State.fepTag (s : State) (credit : Option Nat) : Nat :=
  ((List.range 1024).find? (fun t => (credit.isNone == decide (1008 ≤ t)) && !(s.fep.reqs.any (fun (r : Req) => r.msg.tag == t)))).getD 0

/-- The oldest SEQ toward a target that is neither answered nor abandoned (R342); `n` is the next. -/
def State.fepBase (s : State) (dst n : Nat) : Nat :=
  match s.fep.reqs.find? (fun (r : Req) => r.msg.sequenced && r.msg.dst == dst) with
  | some r => r.msg.seq
  | none => n

/-- A request sent: to the own request queue, or onto its port (R340). -/
def State.fepOut (s : State) (m : Msg) : State :=
  if m.dst = s.node then (s.fepTake none m).fepLeft m.tag else s.fepPut m

/-- A request issued (R342, R346, R354). -/
def State.fepSend (s : State) (r : Req) : State :=
  let m := r.msg
  let known := Sparse.get? s.fep.streams m.dst
  let n := known.getD 0
  let m := { m with src := s.node, tag := s.fepTag r.credit, seq := if m.sequenced then n else 0, base := s.fepBase m.dst n,
                    sync := m.sequenced && known.isNone }
  let first := m.offset / 128
  let last := (m.offset + m.span - 1) / 128
  let s := { s with fep := { s.fep with
    reqs := s.fep.reqs ++ [{ r with msg := m, sends := 1, first := none }]
    streams := if m.sequenced then Sparse.put s.fep.streams m.dst ((n + 1) % 65536) else s.fep.streams
    cache := if m.sequenced then s.fep.cache.filter (fun (x : CacheLine) =>
      !(x.ctx == m.ctx && x.node == m.dst && decide (first ≤ x.line ∧ x.line ≤ last))) else s.fep.cache } }
  s.fepOut m

/-- The messages of a GET or PUT: offset and bytes from the start of its range (R351). -/
def fepCuts (remote len : Nat) : List (Nat × Nat) :=
  if len = 0 then [] else
  (List.range ((remote + len - 1) / 4096 - remote / 4096 + 1)).map (fun i =>
    let lo := max remote ((remote / 4096 + i) * 4096)
    let hi := min (remote + len) ((remote / 4096 + i + 1) * 4096)
    (lo - remote, hi - lo))

/-- A started entry that has completed: its notice (R353). -/
def State.fepNotice (s : State) (x : Started) : State :=
  let d := unle x.desc
  let s := { s with fep := { s.fep with run := s.fep.run.filter (fun (y : Started) => y.run != x.run) } }
  if rqNotify d then
    s.postWord (rqQueue d) 0x14 18 (rqCtx d) (x.worst <<< 36 ||| x.bad <<< 8 ||| x.q) (if rqOp d = 3 then le 8 x.old else [])
  else s

/-- A started entry replaced; it completes once nothing of it is left (R353). -/
def State.setStarted (s : State) (x : Started) : State :=
  if x.todo.isEmpty && x.out = 0 then s.fepNotice x
  else { s with fep := { s.fep with run := s.fep.run.map (fun (y : Started) => if y.run == x.run then x else y) } }

/-- The next queued start begins: its entry is taken as it stands; an entry that is no longer valid starts nothing. -/
def State.fepBegin (s : State) (q : Nat) (rest : List Nat) : State :=
  let d := s.reqEntry q
  let s := { s with fep := { s.fep with starts := rest } }
  if !(ldValid d) then s else
  let x : Started := { run := s.fep.runs, q := q, desc := le 64 d,
                       todo := if rqOp d = 3 then [(0, 8)] else fepCuts (rqRemote d) (rqLen d) }
  ({ s with fep := { s.fep with run := s.fep.run ++ [x], runs := s.fep.runs + 1 } }).setStarted x

/-- A line of the read cache (R354). -/
def State.fepLine (s : State) (c node line : Nat) : Option CacheLine :=
  s.fep.cache.find? (fun (x : CacheLine) => x.ctx == c && x.node == node && x.line == line)

/-- The message of `n` bytes at offset `o` of a started entry (R351). -/
def State.fepPiece (s : State) (x : Started) (o n : Nat) : Req :=
  let d := unle x.desc
  let cached := rqOp d = 1 && rqCache d
  let a := rqRemote d + o
  { msg := { kind := rqOp d, op0 := rqOp0 d, op1 := rqOp1 d, offset := if cached then a / 128 * 128 else a, dst := rqDest d,
             len := if cached then 128 else n, counter := rqCounter d, count := rqCount d,
             flag := rqFlag d && (rqOp d == 3 || (rqOp d == 2 && o + n == rqLen d)), ctx := rqCtx d,
             aop := if rqOp d = 3 then rqAop d else 0,
             data := if rqOp d = 2 then s.fepBytes (rqHost d) (rqLocal d + o) n else [] }
    asker := .entry x.run, credit := some (rqCtx d) }

/-- One message issued, or one start begun: waiting requests of the units first, then the entries in the order of their
starts (R351). None where nothing can go. -/
def State.fepStep (s : State) : Option State :=
  match s.fep.wait.find? (fun (r : Req) => s.fepMay r.credit r.msg.dst r.msg.sequenced) with
  | some r => some (({ s with fep := { s.fep with wait := s.fep.wait.erase r } }).fepSend r)
  | none =>
    match s.fep.run.find? (fun (x : Started) => !x.todo.isEmpty), s.fep.starts with
    | some x, _ =>
      match x.todo with
      | [] => none
      | (o, n) :: rest =>
        let d := unle x.desc
        match (if rqOp d = 1 && rqCache d then s.fepLine (rqCtx d) (rqDest d) ((rqRemote d + o) / 128) else none) with
        | some l =>
          some ((s.fepWrite (rqHost d) (rqPort d) (rqLocal d + o) (sub l.data ((rqRemote d + o) % 128) n)).setStarted
            { x with todo := rest })
        | none =>
          if s.fepMay (some (rqCtx d)) (rqDest d) (rqOp d != 1) then
            let s := s.fresh
            let r := s.fepPiece x o n
            let s := if rqOp d = 2 then s.fepRead (rqHost d) (rqPort d) (rqLocal d + o) n else s
            some ((s.setStarted { x with todo := rest, out := x.out + 1 }).fepSend r)
          else none
    | none, q :: rest => some (s.fepBegin q rest)
    | none, [] => none

/-- Everything issued that can be, at most `fuel` messages and starts. -/
def State.fepIssue : Nat → State → State
  | 0, s => s
  | fuel + 1, s => match s.fepStep with
    | some s' => State.fepIssue fuel s'
    | none => s

/-- Messages that one event can let go: the outstanding table, the queued starts and their cached answers (R351). -/
def fepFuel : Nat := 2048

/-- A request of a unit of the engine (R224, R226, R162). -/
def State.fepAsk (s : State) (r : Req) : State :=
  State.fepIssue fepFuel { s with fep := { s.fep with wait := s.fep.wait ++ [r] } }

/-- A line filled; the line filled longest ago makes room (R354). -/
def State.fepFill (s : State) (l : CacheLine) : State :=
  let rest := s.fep.cache.filter (fun (x : CacheLine) => !(x.ctx == l.ctx && x.node == l.node && x.line == l.line))
  { s with fep := { s.fep with cache := (if 256 ≤ rest.length then rest.drop 1 else rest) ++ [l] } }

/-- A message of a started entry has ended: STATUS 0 done, 1 xlate, 2 void or timeout (R352, R353). -/
def State.fepEntryEnd (s : State) (x : Started) (m : Msg) (status old : Nat) (data : Bytes) : State :=
  let d := unle x.desc
  let x := { x with out := x.out - 1, worst := max x.worst status, bad := x.bad + (if status = 0 then 0 else 1) }
  if status ≠ 0 then s.setStarted x else
  if rqOp d = 1 then
    let cached := rqCache d
    let o := if cached then 0 else m.offset - rqRemote d
    let bs := if cached then sub data (rqRemote d % 128) (rqLen d) else data
    let s := if cached then s.fepFill { ctx := m.ctx, node := m.dst, line := m.offset / 128, data := data } else s
    let s := s.fepWrite (rqHost d) (rqPort d) (rqLocal d + o) bs
    (s.fepCounter (rqCtx d) (rqLcounter d)).setStarted x
  else if rqOp d = 3 then
    let s := s.fepWrite (rqHost d) (rqPort d) (rqLocal d) (le 8 old)
    (s.fepCounter (rqCtx d) (rqLcounter d)).setStarted { x with old := old }
  else (s.fepCounter (rqCtx d) (rqLcounter d)).setStarted x

/-- A residency read has ended (R161, R162): its word, or none where no reply with STATUS done came. -/
def State.residencyAnswer (s : State) (c st layer : Nat) (word : Option Nat) : State :=
  let yes := match word with
    | some w => bits w 16 48 == st % 2 ^ 48 && bits w 8 8 == layer && bit w 0
    | none => false
  if !yes then s.count (Key.BWD_STATE_WAIT c) 1 else
  match s.layerGrad c st layer with
  | some g => if g.absent then s else s.setLayerGrad { g with confirmed := true }
  | none => s

/-- A request has ended (R346, R352): it leaves the outstanding table, what asked for it learns of it, and waiting requests
may go. -/
def State.fepEnd (s : State) (r : Req) (status old : Nat) (data : Bytes) : State :=
  let s := { s with fep := { s.fep with reqs := s.fep.reqs.filter (fun (x : Req) => x.msg.tag != r.msg.tag) } }
  let s := match r.asker with
    | .entry n => match s.fep.run.find? (fun (x : Started) => x.run == n) with
      | some x => s.fepEntryEnd x r.msg status old data
      | none => s
    | .post => s
    | .checker c k st i p =>
      let l : CheckLoad := { ctx := c, check := k, step := st, replica := i, part := p, data := if status = 0 then data else [] }
      { s with dru := { s.dru with loads := s.dru.loads ++ [l] } }
    | .residency st layer => s.residencyAnswer r.msg.ctx st layer (if status = 0 then some (unle (sub data 0 8)) else none)
  State.fepIssue fepFuel s

/-- FEP_REPLY_RECEIVED (R352): the oldest reply with a TAG; one that answers no outstanding request is discarded (R346). -/
def fepReplyReceivedOp (tag : Nat) (s : State) : State :=
  match s.fep.replies.find? (fun (m : Msg) => m.tag == tag) with
  | none => s
  | some m =>
    let s := { s with fep := { s.fep with replies := s.fep.replies.erase m } }
    match s.fep.reqs.find? (fun (r : Req) => r.msg.tag == tag && r.msg.dst == m.src && r.msg.seq == m.seq) with
    | some r => s.fepEnd r (min 2 m.status) m.op0 m.data
    | none => s

/-- FEP_RETRY (R346): 16 µs, and again 32 µs, after the first sending. -/
def fepRetryOp (tag : Nat) (s : State) : State :=
  match s.fep.reqs.find? (fun (r : Req) => r.msg.tag == tag) with
  | some r =>
    match r.first with
    | some t =>
      if (r.sends == 1 || r.sends == 2) && s.usPassed t (16 * r.sends) && !(s.usPassed t 50) then
        let m := { r.msg with base := s.fepBase r.msg.dst ((Sparse.get? s.fep.streams r.msg.dst).getD 0) }
        let s := { s with fep := { s.fep with reqs := s.fep.reqs.map (fun (x : Req) =>
          if x.msg.tag == tag then { x with msg := m, sends := x.sends + 1 } else x) } }
        (s.count (Key.FEP_RETRY_COUNT m.ctx) 1).fepOut m
      else s
    | none => s
  | none => s

/-- FEP_TIMEOUT (R346): 50 µs after the first sending. -/
def fepTimeoutOp (tag : Nat) (s : State) : State :=
  match s.fep.reqs.find? (fun (r : Req) => r.msg.tag == tag) with
  | some r =>
    match r.first with
    | some t =>
      if s.usPassed t 50 then
        let s := s.count (Key.FEP_TIMEOUT_COUNT r.msg.ctx) 1
        let s := s.log { cls := Ec.seq, det := 0x30, dom := 18, ctx := some r.msg.ctx, node := some r.msg.dst,
                         arg := r.msg.seq <<< 16 ||| 0xFFFF }
        s.fepEnd r 2 0 []
      else s
    | none => s
  | none => s

/-! ### Messages on the link ports -/

/-- FEP_MESSAGE_RECEIVED (R337 to R343): the message's flits have arrived on a link port. -/
def fepMessageReceivedOp (p : Nat) (hdr : BitVec 512) (payload : Bytes) (s : State) : State :=
  if p < 48 && (s.port p).up && !(s.lost p) then
    let h := hdr.toNat
    let m := msgOf h payload
    let s := s.count64 (Key.LNK_RX_FLITS p) m.flits
    if !(msgCrcOk h payload) then
      let s := (s.count (Key.FEP_CRC_DROP m.ctx) 1).count64 (Key.LNK_CHECK_FAIL p) 1
      let s := s.log { cls := Ec.crc, det := 0x20, dom := 18, ctx := some m.ctx, node := some m.src, arg := m.seq <<< 16 ||| p }
      if m.kind = 15 then s else s.fepOwe (some p) m.isReply m.flits
    else
      let x := s.fep.port p
      let s := s.setFepPort p { x with credReq := x.credReq + mhCreditReq h, credRsp := x.credRsp + mhCreditRsp h }
      if m.kind = 15 then s
      else if m.dst ≠ s.node then s.fepForward p m
      else if m.isReply then
        ({ s with fep := { s.fep with replies := s.fep.replies ++ [m] } }).fepOwe (some p) true m.flits
      else if m.sequenced || m.kind = 1 then s.fepTake (some p) m
      else s.fepOwe (some p) false m.flits
  else s

/-- The next message of a port (R338): replies before requests, forwarded before own, of a channel with a credit. -/
def FepPort.nextTx (x : FepPort) : Option (FepPort × FepTx) :=
  let begin_ (y : FepPort) (from_ : Option Nat) (m : Msg) (own : Bool) : Option (FepPort × FepTx) :=
    let a := min 32 x.oweReq
    let b := min 32 x.oweRsp
    some ({ y with oweReq := x.oweReq - a, oweRsp := x.oweRsp - b },
      { msg := m, bytes := m.wire a b, left := m.flits, from_ := from_, own := own })
  match (if 0 < x.credRsp then x.rspFwd else []), (if 0 < x.credRsp then x.rspOwn else []),
        (if 0 < x.credReq then x.reqFwd else []), (if 0 < x.credReq then x.reqOwn else []) with
  | (f, m) :: r, _, _, _ => begin_ { x with rspFwd := r } f m false
  | [], m :: r, _, _ => begin_ { x with rspOwn := r } none m true
  | [], [], (f, m) :: r, _ => begin_ { x with reqFwd := r } f m false
  | [], [], [], m :: r => begin_ { x with reqOwn := r } none m true
  | [], [], [], [] => none

/-- Flits sent in lent grants of the slot in force, counted (R430); in EXC_LENT_FLITS for each context that plans a SEND on the port in it
(R135; DESIGN CHOICE, log entry 72: the slots that a context's SENDs name are those planned for it). -/
def State.lentFlits (s : State) (p n : Nat) : State :=
  let u := (s.port p).used
  let s := s.setPort p { s.port p with used := (u.1, u.2 + n) }
  let s := (s.count64 (Key.LNK_TX_FLITS p) n).count64 (Key.LNK_LENT_FLITS p) n
  (List.range 8).foldl (fun s c =>
    if (s.planned c 2).any (fun (k : Cmd) => k.xfer.port == p && k.tick / 9 == s.slot) then s.count (Key.EXC_LENT_FLITS c) n else s) s

/-- Flits of the message under way sent as far as the slot's lent grants and the credits allow, and the message's end (R112, R338). A
forwarded message's flits leave the buffer of the port they came on as they go (R341). -/
def State.fepFlits (s : State) (p : Nat) (t : FepTx) : State :=
  let x := s.fep.port p
  let n := min (min t.left (s.lent p)) (if t.msg.isReply then x.credRsp else x.credReq)
  let x := if t.msg.isReply then { x with credRsp := x.credRsp - n } else { x with credReq := x.credReq - n }
  let s := s.lentFlits p n
  if n < t.left then (s.setFepPort p { x with tx := some { t with left := t.left - n } }).fepOwe t.from_ t.msg.isReply n
  else
    let s := ((s.setFepPort p { x with tx := none }).emit (.message p t.bytes)).fepOwe t.from_ t.msg.isReply n
    if t.own && !t.msg.isReply then s.fepLeft t.msg.tag else s

/-- The node at the far end of a link port (Table 7.3). -/
def State.peerNode (s : State) (p : Nat) : Nat :=
  match (List.range 8).find? (fun c => s.linkConnected c p) with | some c => bits (s.linkEntry c p) 0 14 | none => 0

/-- FEP_MESSAGE_SEND (R338, R341): the port's next lent grants. With nothing to send, 8 or more credits owed leave in a
credit message. -/
def fepMessageSendOp (p : Nat) (s : State) : State :=
  if p < 48 && (s.port p).up && !(s.lost p) then
    let x := s.fep.port p
    match x.tx with
    | some t => s.fepFlits p t
    | none =>
      match (if s.lent p = 0 then none else x.nextTx) with
      | some (y, t) => (s.setFepPort p { y with tx := some t }).fepFlits p t
      | none =>
        if 8 ≤ x.oweReq + x.oweRsp && 0 < s.lent p then
          let a := min 32 x.oweReq
          let b := min 32 x.oweRsp
          let m : Msg := { kind := 15, src := s.node, dst := s.peerNode p }
          ((s.setFepPort p { x with oweReq := x.oweReq - a, oweRsp := x.oweRsp - b }).emit (.message p (m.wire a b))).lentFlits p 1
        else s
  else s

/-! ### Writes of its tables -/

/-- A window as written obeys R334. -/
def State.windowOk (s : State) (c w d : Nat) : Bool :=
  let n := wdLen d
  let fits := bits d 8 56 = 0 && bit d 1 == false && wdBase d % 4096 = 0 && wdLocal d % 4096 = 0 && n % 4096 = 0 &&
    4096 ≤ n && n ≤ 2 ^ 40 && (wdHost d || wdPort d == 0)
  let apart := wdBase d + n ≤ 0xFFFF000000000000 &&
    (List.range 16).all (fun v => v == w || !(ldValid (s.fepWindow c v)) ||
      !(overlaps (wdBase d) n (wdBase (s.fepWindow c v)) (wdLen (s.fepWindow c v))))
  let inside := wdHost d ||
    (wdLocal d + n ≤ 134217728 && !(overlaps (wdLocal d) n (s.get Key.CLE_REDUCE_BASE) 16777216) &&
      [0, 1, 2].all (fun k => !(overlaps (wdLocal d) n (s.get (Key.POOL_BASE k)) (s.poolCount k * poolSize k))))
  fits && apart && inside

/-- A write of FEP_WINDOWS (R334): windows before the first failure stay written. -/
def State.fepWindowsWrite (s : State) (o : Nat) (bs : Bytes) : State × Option Refused :=
  let no (i : Nat) : Refused := { cls := Ec.descRange, det := 0xA0, ctx := none, idx := i }
  if bs.length % 32 ≠ 0 || (o % 32 ≠ 0 && !bs.isEmpty) then (s, some (no (o / 32))) else
  (List.range (bs.length / 32)).foldl (fun (acc : State × Option Refused) i =>
    match acc.2 with
    | some _ => acc
    | none =>
      let n := o / 32 + i
      let d := u bs (32 * i) 32
      if ldValid d && !(acc.1.windowOk (n / 16) (n % 16) d) then (acc.1, some { no n with ctx := some (n / 16) })
      else (acc.1.domPut Dom.FEP_WINDOWS (32 * n) (sub bs (32 * i) 32), none)) (s, none)

/-- A route entry obeys R340. -/
def routeOk (e : Nat) : Bool :=
  let ok (p : Nat) : Bool := p < 48 || p == 63
  bits e 12 4 = 0 && ok (bits e 6 6) && ok (bits e 0 6)

/-- A write of FEP_ROUTE (R340): whole, or refused whole. -/
def State.fepRouteWrite (s : State) (o : Nat) (bs : Bytes) : State × Option Refused :=
  let no (i : Nat) : State × Option Refused := (s, some { cls := Ec.descRange, det := 0xA1, ctx := none, idx := i })
  if bs.length % 2 ≠ 0 || (o % 2 ≠ 0 && !bs.isEmpty) then no (o / 2) else
  match (List.range (bs.length / 2)).find? (fun i => !(routeOk (u bs (2 * i) 2))) with
  | some i => no (o / 2 + i)
  | none => (s.domPut Dom.FEP_ROUTE o bs, none)

/-- A request entry written with VALID set obeys R350. -/
def State.requestCheck (s : State) (d : Nat) : Option (Nat × Nat) :=
  let a := rqRemote d
  let n := rqLocalLen d
  if rqOp d = 0 || 3 < rqOp d || (rqOp d = 3 && aopReserved (rqAop d)) || bits d 1 170 ≠ 0 || 16777216 < rqLen d ||
     s.axesBelow 4 ≤ rqDest d ||
     (rqOp d = 3 && (rqLen d ≠ 8 || a % 8 ≠ 0 || rqLocal d % 8 ≠ 0)) ||
     (rqCache d && (rqOp d ≠ 1 || 128 < rqLen d || 128 < a % 128 + rqLen d)) ||
     (n ≠ 0 && !(s.allocated (rqCtx d) (rqHost d) (rqPort d) (rqLocal d) n)) ||
     (rqNotify d && !(s.ownsQueue (rqCtx d) (rqQueue d)))
  then some (Ec.descRange, 0xA2) else none

/-- A write of FEP_REQ_TABLE (R350, R271). -/
def State.fepTableWrite (s : State) (o : Nat) (bs : Bytes) : State × Option Refused :=
  let r := tableWrite Dom.FEP_REQ_TABLE 64 0xA2 0xA2 rqCtx ldValid State.requestCheck (fun s _ _ => s) o bs s
  (r.1, r.2.map (fun (x : Refused) =>
    { x with node := if x.ctx.isSome then some (rqDest (u bs (64 * (x.idx - o / 64)) 64)) else none }))

/-- FEP_START (R351). -/
def State.fepStart (s : State) (q : Nat) : State × Option Refused :=
  let ok := q ≤ 255 && ldValid (s.reqEntry q)
  if ok && s.fep.starts.length < 16 && s.holdsPart (rqCtx (s.reqEntry q)) then
    (State.fepIssue fepFuel { s with fep := { s.fep with starts := s.fep.starts ++ [q] } }, none)
  else
    let d := s.reqEntry q
    let x : Refused :=
      { cls := Ec.descRange, det := 0xA3, ctx := if ok then some (rqCtx d) else none, idx := q % 65536,
        node := if ok then some (rqDest d) else none }
    (s, some x)

/-- Cache lines dropped (R354). -/
def State.fepDrop (s : State) (p : CacheLine → Bool) : State :=
  { s with fep := { s.fep with cache := s.fep.cache.filter (fun (x : CacheLine) => !(p x)) } }

/-- FEP_INVAL (R354). -/
def fepInvalOp (v : Nat) (s : State) : State :=
  if v < 8 then s.fepDrop (fun (x : CacheLine) => x.ctx == v) else if v = 0xFF then s.fepDrop (fun _ => true) else s

/-- FEP_STATE (Table 13.7). -/
def State.fepState (s : State) : Nat := s.fep.starts.length <<< 24 ||| s.fep.reqs.length

/-! ### Meanings -/

/-- FEP_MESSAGE_RECEIVED. -/
def execFepMessageReceived (port : Nat) (hdr : BitVec 512) (payload : Bytes) (s : State) : Host.Outcome State Fault Refusal :=
  .next (act (fepMessageReceivedOp port hdr payload) s)
/-- FEP_MESSAGE_SEND. -/
def execFepMessageSend (port : Nat) (s : State) : Host.Outcome State Fault Refusal := .next (act (fepMessageSendOp port) s)
/-- FEP_APPLY. -/
def execFepApply (s : State) : Host.Outcome State Fault Refusal := .next (actFresh fepApplyOp s)
/-- FEP_WRITE_COMPLETE. -/
def execFepWriteComplete (src seq : Nat) (s : State) : Host.Outcome State Fault Refusal := .next (act (fepWriteCompleteOp src seq) s)
/-- FEP_REPLY_RECEIVED. -/
def execFepReplyReceived (tag : Nat) (s : State) : Host.Outcome State Fault Refusal := .next (act (fepReplyReceivedOp tag) s)
/-- FEP_RETRY. -/
def execFepRetry (tag : Nat) (s : State) : Host.Outcome State Fault Refusal := .next (act (fepRetryOp tag) s)
/-- FEP_TIMEOUT. -/
def execFepTimeout (tag : Nat) (s : State) : Host.Outcome State Fault Refusal := .next (act (fepTimeoutOp tag) s)
/-- REPLAY_TABLE_EXPIRY. -/
def execReplayTableExpiry (src seq : Nat) (s : State) : Host.Outcome State Fault Refusal := .next (act (replayTableExpiryOp src seq) s)

end Sys2Proof.Machine
end

