-- ==== Sys2Proof/Machine/Deliver.lean ====
section
/-! DEFINITION. B7: residency of the optimiser state and the delivery stream (R159 to R163, R316, R318). -/

namespace Sys2Proof.Machine

open Sys2Proof

/-- A residency read (R161, R162): a remote load of the residency word, on a credit of the context. -/
def State.residencyRead (s : State) (g : LayerGrad) : State :=
  let l := s.layer g.ctx g.layer
  (s.setLayerGrad { g with readAt := s.frame }).fepAsk
    { msg := { kind := 1, offset := bwRes l, dst := bwState l, len := 8, ctx := g.ctx }
      asker := .residency g.step g.layer, credit := some g.ctx }

/-- GRADIENT_B7_RESIDENCY (R162): the residency check of a layer begins. -/
def gradientB7ResidencyOp (c layer tile index : Nat) (s : State) : State :=
  let lg := s.layerGradOr c (s.step c) layer
  let w := gradFields 4 layer tile index
  if s.mayIssue c 0x06 w && lg.check.isNone then
    (s.issue c 0x06 w).residencyRead { lg with check := some (s.stamp, bwDeadline (s.layer c layer)) }
  else s

/-- A residency check is open: neither confirmed nor given up. -/
def LayerGrad.waiting (g : LayerGrad) : Bool := g.check.isSome && !g.confirmed && !g.absent

/-- RES_DEADLINE plan frames have passed since its check, and no further read goes out (R162). -/
def State.resOver (s : State) (g : LayerGrad) : Bool :=
  match g.check with | some k => decide (k.1 / 2304 + k.2 ≤ s.planTick / 2304) | none => false

/-- Its deadline has expired (R163, R172). -/
def State.resExpired (s : State) (g : LayerGrad) : Bool :=
  match g.check with | some k => s.expired k.1 k.2 | none => false

/-- RESIDENCY_RETRY (R162): the slot of the check, in a frame after that of the last read. -/
def residencyRetryOp (c layer : Nat) (s : State) : State :=
  let due (g : LayerGrad) : Bool := g.ctx == c && g.layer == layer && g.waiting && !(s.resOver g) && decide (g.readAt < s.frame) &&
    (match g.check with | some k => k.1 % 2304 / 9 == s.slot | none => false)
  match s.layerGrads.find? due with
  | some g => s.residencyRead g
  | none => s

/-- RESIDENCY_DEADLINE (R163): no delivery of the layer; the step is replayed. -/
def residencyDeadlineOp (c layer : Nat) (s : State) : State :=
  match s.layerGrads.find? (fun (g : LayerGrad) => g.ctx == c && g.layer == layer && g.waiting && s.resExpired g) with
  | some g =>
    let s := s.setLayerGrad { g with absent := true }
    (s.log { cls := Ec.stateAbsent, det := 0x01, dom := 9, ctx := some c, step := some g.step, layer := some layer,
             node := some (bwState (s.layer c layer)) }).replayStep c
  | none => s

/-- The delivery record of expert `e` (R159, Table 6.5). -/
def State.delivRecord (s : State) (g : LayerGrad) (e : Nat) : Bytes :=
  let l := s.layer g.ctx g.layer
  let mask := match s.selins.find? (fun (x : SelIn) => x.ctx == g.ctx && x.step == g.step && x.layer == g.layer) with
    | some x => x.mask
    | none => []
  let v := nth g.visits e 0
  let row := (List.range (lyD l)).map (fun i => (Sparse.get? g.rows (e * lyD l + i)).getD 0)
  hdrBytes { token := v, src := s.node, layer := g.layer, expert := e, zeroVisit := v == 0,
             masked := bit (nth mask (e / 8) 0).toNat (e % 8), fmt := bwFmt l, stepLo := g.step, kind := 2, place := e - bwFirst l } ++
    sub (elemBytes (bwFmt l) row) 0 (payloadLen (bwFmt l) (lyD l))

/-- The delivery stream of a layer (R159). -/
def State.delivStream (s : State) (g : LayerGrad) : Bytes :=
  let l := s.layer g.ctx g.layer
  (List.range (bwCount l)).flatMap (fun i => s.delivRecord g (bwFirst l + i))

/-- The pieces of a delivery stream put into piece slots of the group's channel (R84, R316, R319); none where the channel is
full. -/
def State.delivPut (c st layer group : Nat) : List (Nat × Bytes) → State → Option State
  | [], s => some s
  | (i, bs) :: r, s =>
    match s.takeSlot c st group layer i true with
    | some (s', p) => State.delivPut c st layer group r (s'.putPart p 3 0 bs)
    | none => none

/-- DELIVERY_FORM (R159, R160): after B6's Sum-Alls have ended here, the delivery records of the range replace the pieces
that held its rows. -/
def deliveryFormOp (c layer : Nat) (s : State) : State :=
  let ended (st kind : Nat) : Bool := s.cle.ops.any (fun (o : Coll) => o.ctx == c && o.step == st && o.layer == layer && o.kind == kind && o.done)
  match s.layerGrads.find? (fun (g : LayerGrad) => g.ctx == c && g.layer == layer && g.reduced && !g.formed && ended g.step 1 && ended g.step 2) with
  | none => s
  | some g =>
    match s.cle.ops.find? (fun (o : Coll) => o.ctx == c && o.step == g.step && o.layer == layer && o.kind == 1) with
    | none => s
    | some o =>
      let keep := s.cle.slots.filter (fun (p : PieceSlot) =>
        !(p.ctx == c && p.step == g.step && p.group == o.group && p.seq == o.seq && !p.deliv &&
          o.written.contains p.piece && (s.collPeers o p.piece).all (fun v => o.released.contains (p.piece, v))))
      let bs := s.delivStream g
      let cuts := (List.range (ceilDiv bs.length 4096)).map (fun i => (i, (bs.drop (4096 * i)).take 4096))
      match State.delivPut c g.step layer o.group cuts { s with cle := { s.cle with slots := keep } } with
      | some s' => (s'.setLayerGrad { g with formed := true }).busy 9 (some c)
      | none => s

/-- GRADIENT_B7_RESIDENCY. -/
def execGradientB7Residency (ctx layer tile index : Nat) (s : State) : Host.Outcome State Fault Refusal :=
  .next (act (gradientB7ResidencyOp ctx layer tile index) s)
/-- RESIDENCY_RETRY. -/
def execResidencyRetry (ctx layer : Nat) (s : State) : Host.Outcome State Fault Refusal := .next (act (residencyRetryOp ctx layer) s)
/-- RESIDENCY_DEADLINE. -/
def execResidencyDeadline (ctx layer : Nat) (s : State) : Host.Outcome State Fault Refusal :=
  .next (act (residencyDeadlineOp ctx layer) s)
/-- DELIVERY_FORM. -/
def execDeliveryForm (ctx layer : Nat) (s : State) : Host.Outcome State Fault Refusal := .next (actFresh (deliveryFormOp ctx layer) s)

end Sys2Proof.Machine
end

