-- ==== Sys2Proof/Machine/Dru.lean ====
section
/-! DEFINITION. The Determinism and Replay Unit: tile and step digests, the digest ring, digest posts and the checker (R217
to R226). -/

namespace Sys2Proof.Machine

open Sys2Proof

/-! ### The digest ring (R221, R222) -/

/-- A digest-ring entry (Table 8.4). -/
def State.ringEntry (s : State) (a : Audit) (layer tile kind : Nat) (digest : Bytes) : Bytes :=
  le 8 (a.step % 2 ^ 48) ++ le 2 layer ++ le 2 tile ++ le 1 kind ++ le 1 (min 255 a.attempt) ++ le 1 a.ctx ++ [0] ++
    le 8 (s.ctx a.ctx).seed.toNat ++ zeros 8 ++ digest

/-- An entry written into a context's digest ring, or counted lost (R222); none where it has no ring. -/
def State.ringWrite (s : State) (c : Nat) (bs : Bytes) : State :=
  let n := s.get (Key.DRU_RING_LEN c)
  if n = 0 then s else
  match ringPut s (s.fetchPort c) (s.get (Key.DRU_RING_BASE c)) n (Key.DRU_RING_HEAD c) (Key.DRU_RING_TAIL c) bs with
  | some s' => s'
  | none => s.count (Key.DRU_RING_LOST c) 1

/-! ### Tile digests (R218, R219) -/

/-- The message of a tile digest (Table 8.3), with the CRC of the SFU bank active as it closes (R299). `fold` is the return fold. -/
def State.tileMessage (s : State) (a : Audit) (layer kind tile fold : Nat) : Bytes :=
  let v (i : Nat) : Nat := (a.val layer tile i).getD 0
  let w := ((a.folds.find? (fun (f : Nat × Nat) => f.1 == layer)).map (·.2)).getD 0
  sub (s.hdr a.ctx) 128 32 ++ le 8 (s.ctx a.ctx).seed.toNat ++ le 8 (a.step % 2 ^ 48) ++ le 2 layer ++ le 2 tile ++ le 1 kind ++
    le 1 a.ctx ++ zeros 2 ++ le 8 w ++ le 4 (v item.ptCrc) ++ le 4 (v item.selin) ++
    le 4 (if kind = 0 then v item.input else v item.dy) ++ le 4 (v item.log) ++ le 8 fold ++
    le 4 (if kind = 0 then 0 else v item.saveL) ++ le 4 (if kind = 0 then 0 else v item.saveO) ++ le 4 (s.get Key.SFU_ACTIVE_CRC) ++ zeros 28

/-- TILE_DIGEST_CLOSE (R219, R221): a combine whose digest may close, with the CRCs of all its return pieces. -/
def tileDigestCloseOp (c layer kind tile : Nat) (s : State) : State :=
  let open_ (a : Audit) : Bool := a.ctx == c && a.closable.contains (layer, kind, tile) &&
    !(a.tiles.any (fun (x : Nat × Nat × Nat × Bytes) => x.1 == layer && x.2.1 == kind && x.2.2.1 == tile)) &&
    a.folds.any (fun (f : Nat × Nat) => f.1 == layer)
  match s.audits.find? open_ with
  | none => s
  | some a =>
    match (s.combOf c a.step layer tile kind).bind s.combCrcs with
    | none => s
    | some crcs =>
      let fold := crc64 (crcs.flatMap (le 4))
      let d := sha256 (s.tileMessage a layer kind tile fold)
      let s := s.updAudit c a.step (fun x => { x with tiles := x.tiles ++ [(layer, kind, tile, d)] })
      let s := match s.audit c with
        | 1 => s.ringWrite c (s.ringEntry a layer tile kind d)
        | 2 => s.ringWrite c (s.ringEntry a layer tile (3 + kind) (zeros 32))
        | _ => s
      s.busy 21 (some c)

/-! ### The step digest (R220, R223) -/

/-- Tiles whose digests a step takes: its planned combines of WORK 0 and 1. -/
def digestTiles (cs : List Cmd) : List (Nat × Nat × Nat) :=
  ((cs.filter (fun k => k.cls == 5 && k.work < 2)).map (fun k => (k.layer, k.work, k.tile))).eraseDups

/-- The layers that deliver, and the delivery fold of each (R218, R220), once every planned delivery chunk has been formed. -/
def State.delivFolds (s : State) (a : Audit) (cs : List Cmd) : Option (List (Nat × Nat)) :=
  let ls := (List.range (s.layers a.ctx)).filter (fun l => bwCount (s.layer a.ctx l) != 0)
  let all := ls.map (fun l =>
    let want := (cs.filter (fun k => k.sends 4 && k.layer == l && k.xfer.src == s.node)).length
    let got := a.deliv.filter (fun (x : Nat × Nat × Nat) => x.1 == l)
    if want ≤ got.length then
      some (l, crc64 ((sortBy (fun (x y : Nat × Nat × Nat) => decide (x.2.1 < y.2.1)) got).flatMap (fun (x : Nat × Nat × Nat) => le 4 x.2.2)))
    else none)
  if all.all Option.isSome then some (all.filterMap id) else none

/-- Order of tile digests in a step digest. -/
def tileLt (a b : Nat × Nat × Nat × Bytes) : Bool := lexLt [a.1, a.2.1, a.2.2.1] [b.1, b.2.1, b.2.2.1]

/-- The message of a step digest (R220). -/
def State.stepMessage (s : State) (a : Audit) (folds : List (Nat × Nat)) : Bytes :=
  sub (s.hdr a.ctx) 128 32 ++ le 8 (s.ctx a.ctx).seed.toNat ++ le 8 a.step ++ le 1 a.ctx ++ zeros 15 ++
    (sortBy tileLt a.tiles).flatMap (fun (x : Nat × Nat × Nat × Bytes) => x.2.2.2) ++
    folds.flatMap (fun (x : Nat × Nat) => le 2 x.1 ++ zeros 6 ++ le 8 x.2) ++ le 8 a.scan ++ zeros 8

/-- The post record of a closed step (Table 8.6). -/
def State.postRecord (s : State) (a : Audit) (check replica last : Nat) : Bytes :=
  le 8 a.step ++ le 1 a.ctx ++ le 1 check ++ le 1 replica ++ le 1 last ++ le 2 s.node ++ zeros 2 ++ le 8 a.scan ++
    le 8 (0xFFFF000100000000 + 8392704 * (a.step % 2)) ++ a.digest

/-- The notes of a step whose digest is closed. -/
def State.closedNotes (s : State) (c st : Nat) : Option Audit :=
  (s.audits.filter (fun (a : Audit) => a.ctx == c && a.step == st && a.closed)).getLast?

/-- A digest post sent: a flagged 64 B store into the checker's post table (R225, R336). -/
def State.sendPost (s : State) (a : Audit) (checker check replica last : Nat) : State :=
  s.fepAsk
    { msg := { kind := 2, flag := true, dst := checker, ctx := a.ctx, len := 64,
               offset := 0xFFFF000000000000 + 64 * (16 * check + replica), data := s.postRecord a check replica last }
      asker := .post, credit := some a.ctx }

/-- STEP_DIGEST_CLOSE (R220 to R223): every item of the step is ready. Posts that waited for it go out (R224). -/
def stepDigestCloseOp (c st : Nat) (s : State) : State :=
  match s.notes c st with
  | none => s
  | some a =>
    let cs := s.planNow c
    let tiles := (digestTiles cs).all (fun t =>
      a.tiles.any (fun (x : Nat × Nat × Nat × Bytes) => x.1 == t.1 && x.2.1 == t.2.1 && x.2.2.1 == t.2.2))
    match s.delivFolds a cs with
    | none => s
    | some folds =>
      if a.closed || !tiles || !(decide (s.layers c ≤ a.folds.length)) || !(s.holdsPart c) then s else
      let d := sha256 (s.stepMessage a folds)
      let s := s.updAudit c st (fun x => { x with digest := d, closed := true })
      let s := s.domPut (Dom.DRU_STEP_DIGEST c) 0 (le 8 st ++ d)
      let s := s.rpl 0x0A (some c) a.attempt true st (unle (d.take 8))
      let s := if s.audit c = 0 then s else s.ringWrite c (s.ringEntry a 0 0 2 d)
      let e := s.domBytes (Dom.DRU_EXPECT c) 0 40
      let s := if u e 0 8 = st && e.drop 8 != d then
        s.log { cls := Ec.divergence, det := 0x10, dom := 21, ctx := some c, step := some st } else s
      let mine (p : LatePost) : Bool := p.ctx == c && p.step == st
      let go := s.dru.waiting.filter mine
      let s := { s with dru := { s.dru with waiting := s.dru.waiting.filter (fun (p : LatePost) => !(mine p)) } }
      match s.closedNotes c st with
      | some b => (go.foldl (fun s (p : LatePost) => s.sendPost b p.checker p.check p.replica p.last) s).busy 21 (some c)
      | none => s

/-! ### Digest posts (R224, R225) -/

/-- The class fields of a DIGEST_POST (Table 8.5). -/
def postFields (checker check replica last : Nat) : Nat := checker <<< 218 ||| check <<< 214 ||| replica <<< 210 ||| last <<< 206

/-- DIGEST_POST (R224): the digest of the step before the current one; nothing in the first step after a start. A digest
that is not closed makes the post a late output (R188). -/
def digestPostOp (c checker check replica last : Nat) (s : State) : State :=
  let st := s.step c
  let before := (st + 2 ^ 48 - 1) % 2 ^ 48
  let fields := postFields checker check replica last
  if !(s.mayIssue c 0x08 fields) then s else
  let s := s.issue c 0x08 fields
  if st = s.get (Key.TT_FIRST_STEP c) then s else
  match s.closedNotes c before with
  | some a => s.sendPost a checker check replica last
  | none =>
    let p : LatePost := { ctx := c, checker := checker, check := check, replica := replica, last := last, step := before, cmdStep := st }
    ({ s with dru := { s.dru with waiting := s.dru.waiting ++ [p] } }).overrun c st s.tick none

/-! ### The checker (R226) -/

/-- The record of a replica in a set, if its post is present. -/
def State.postOf (s : State) (x : PostSet) (i : Nat) : Option Bytes :=
  (Sparse.get? s.dru.posts (16 * x.check + i)).bind (fun bs => if postKey bs == (x.ctx, x.check, x.step) then some bs else none)

/-- REPLICA_LAST of a set, as any record of it present gives it. -/
def State.postLast (s : State) (x : PostSet) : Nat :=
  match (List.range 16).findSome? (s.postOf x) with | some bs => u bs 11 1 | none => 15

/-- Every post of a set is present. -/
def State.postsWhole (s : State) (x : PostSet) : Bool := (List.range (s.postLast x + 1)).all (fun i => (s.postOf x i).isSome)

/-- A part of a scan-table half as the checker loads it: side 0 replica 0, 1 the other; pass 0 tables, 1 rows, 2 the step
again; offset and bytes. -/
structure CheckPart where
  side : Nat
  pass : Nat
  off : Nat
  len : Nat
deriving DecidableEq, Repr, Inhabited

/-- Its name in a request. -/
def CheckPart.code (p : CheckPart) : Nat := (p.side * 4 + p.pass) * 2 ^ 32 + p.off

/-- Bytes loaded for a comparison, if the load has ended. -/
def State.checkData (s : State) (x : PostSet) (i : Nat) (p : CheckPart) : Option Bytes :=
  (s.dru.loads.find? (fun (l : CheckLoad) =>
    l.ctx == x.ctx && l.check == x.check && l.step == x.step && l.replica == i && l.part == p.code)).map (·.data)

/-- A load of the checker asked for, once, through its reserved entries of the outstanding table (R351). -/
def State.checkAsk (s : State) (x : PostSet) (i : Nat) (p : CheckPart) : State :=
  let who : Asker := .checker x.ctx x.check x.step i p.code
  let asked := (s.fep.wait ++ s.fep.reqs).any (fun (r : Req) => r.asker == who)
  if asked || (s.checkData x i p).isSome then s else
  match s.postOf x (if p.side = 0 then 0 else i) with
  | none => s
  | some bs =>
    s.fepAsk { msg := { kind := 1, dst := u bs 12 2, ctx := x.ctx, offset := u bs 24 8 + p.off, len := p.len }
               asker := who, credit := none }

/-- What a comparison has come to: loads still to come, or its event (detail, layer, expert). -/
inductive CheckTurn where
  | load (ps : List CheckPart)
  | found (det : Nat) (layer : Option Nat) (expert : Nat)
deriving DecidableEq, Repr

/-- Parts of both halves. -/
def bothSides (pass off len : Nat) : List CheckPart := [0, 1].map (fun d => { side := d, pass := pass, off := off, len := len })

/-- The rows of a layer in parts of at most 4,096 bytes (Table 8.2). -/
def rowParts (layer n : Nat) : List CheckPart :=
  (List.range (ceilDiv (8 * n) 4096)).flatMap (fun j => bothSides 1 (2112 + 8 * 4096 * layer + 4096 * j) (min 4096 (8 * n - 4096 * j)))

/-- The comparison of replica `i` with replica 0 (R226): tables, then rows, then the step again. DESIGN CHOICE (log entry 46): a load that ends
without data is taken as a half that no longer holds the step, and a pair whose tables do not tell the layer or whose rows
do not tell the expert names none. -/
def State.checkTurn (s : State) (x : PostSet) (i : Nat) : CheckTurn :=
  let tables := bothSides 0 0 8 ++ bothSides 0 64 2048 ++ bothSides 0 8390720 512
  let get (d p o n : Nat) : Bytes := (s.checkData x i { side := d, pass := p, off := o, len := n }).getD []
  let missing (ps : List CheckPart) : List CheckPart := ps.filter (fun p => (s.checkData x i p).isNone)
  if !(missing tables).isEmpty then .load (missing tables) else
  let fold (d l : Nat) : Nat := u (get d 0 64 2048) (8 * l) 8
  let count (d l : Nat) : Nat := u (get d 0 8390720 512) (2 * l) 2
  let layer := (List.range 256).find? (fun l => fold 0 l != fold 1 l)
  let same := match layer with | some l => count 0 l == count 1 l | none => false
  let rows := match layer with | some l => if same then rowParts l (count 0 l) else [] | none => []
  if !(missing rows).isEmpty then .load (missing rows) else
  let again := bothSides 2 0 8
  if !(missing again).isEmpty then .load (missing again) else
  let short (p : CheckPart) : Bool := (s.checkData x i p).getD [] |>.isEmpty
  let moved := [0, 1].any (fun d => u (get d 0 0 8) 0 8 != x.step || u (get d 2 0 8) 0 8 != x.step)
  if moved || (tables ++ rows ++ again).any short then .found 4 layer 0
  else match layer with
    | none => .found 4 none 0
    | some l =>
      let row (d : Nat) : Bytes := (rows.filter (fun p => p.side == d)).flatMap (fun p => (s.checkData x i p).getD [])
      let e := if same then (List.range (count 0 l)).find? (fun e => sub (row 0) (8 * e) 8 != sub (row 1) (8 * e) 8) else none
      .found 2 (some l) (e.getD 0xFFF)

/-- The event of a comparison. -/
def State.divergence (s : State) (x : PostSet) (node det : Nat) (layer : Option Nat) (arg : Nat) : State :=
  s.log { cls := Ec.divergence, det := det, dom := 21, ctx := some x.ctx, step := some x.step, layer := layer, node := some node, arg := arg }

/-- Replicas of a set that differ from replica 0, with whether their scan folds do too. -/
def State.differing (s : State) (x : PostSet) : List (Nat × Bool) :=
  let r (i : Nat) : Bytes := (s.postOf x i).getD []
  ((List.range (s.postLast x)).map (· + 1)).filterMap (fun i =>
    if sub (r i) 32 32 == sub (r 0) 32 32 then none else some (i, u (r i) 16 8 != u (r 0) 16 8))

/-- POST_SET_CHECK (R226): a whole set compared. Comparisons that need the scan tables ask for their loads; the set is done,
and its events are logged in replica order, once all have come back. -/
def postSetCheckOp (c check st : Nat) (s : State) : State :=
  match s.dru.sets.find? (fun (x : PostSet) => x.ctx == c && x.check == check && x.step == st && !x.done) with
  | none => s
  | some x =>
    if !(s.postsWhole x) then s else
    let ds := s.differing x
    let turns := (ds.filter (fun (d : Nat × Bool) => d.2)).map (fun (d : Nat × Bool) => (d.1, s.checkTurn x d.1))
    let asks := turns.flatMap (fun (t : Nat × CheckTurn) => match t.2 with | .load ps => ps.map (fun p => (t.1, p)) | .found _ _ _ => [])
    if !asks.isEmpty then asks.foldl (fun s (a : Nat × CheckPart) => s.checkAsk x a.1 a.2) s
    else
      let node (i : Nat) : Nat := u ((s.postOf x i).getD []) 12 2
      let s := ds.foldl (fun s (d : Nat × Bool) =>
        if !d.2 then s.divergence x (node d.1) 1 none 0
        else match turns.find? (fun (t : Nat × CheckTurn) => t.1 == d.1) with
          | some (_, .found det layer e) => s.divergence x (node d.1) det layer e
          | _ => s) s
      let mine (l : CheckLoad) : Bool := l.ctx == c && l.check == check && l.step == st
      let s := { s with dru := { s.dru with
        sets := s.dru.sets.map (fun (y : PostSet) => if y == x then { y with done := true } else y)
        loads := s.dru.loads.filter (fun (l : CheckLoad) => !(mine l)) } }
      s.busy 21 none

/-- POST_SET_TIMEOUT (R226): a set still incomplete 64 plan frames after its first post is discarded. -/
def postSetTimeoutOp (c check st : Nat) (s : State) : State :=
  match s.dru.sets.find? (fun (x : PostSet) =>
    x.ctx == c && x.check == check && x.step == st && !x.done && !(s.postsWhole x) && s.expired x.first 64) with
  | none => s
  | some x =>
    let d := s.dru
    let s := { s with dru := { d with
      sets := d.sets.filter (fun (y : PostSet) => y != x)
      posts := d.posts.filter (fun (r : Nat × Bytes) => postKey r.2 != (c, check, st))
      loads := d.loads.filter (fun (l : CheckLoad) => !(l.ctx == c && l.check == check && l.step == st)) } }
    s.log { cls := Ec.divergence, det := 3, dom := 21, ctx := some c, step := some st }

/-- TILE_DIGEST_CLOSE. -/
def execTileDigestClose (ctx layer kind tile : Nat) (s : State) : Host.Outcome State Fault Refusal :=
  .next (actFresh (tileDigestCloseOp ctx layer kind tile) s)
/-- STEP_DIGEST_CLOSE. -/
def execStepDigestClose (ctx step : Nat) (s : State) : Host.Outcome State Fault Refusal :=
  .next (actFresh (stepDigestCloseOp ctx step) s)
/-- DIGEST_POST. -/
def execDigestPost (ctx checker check replica last : Nat) (s : State) : Host.Outcome State Fault Refusal :=
  .next (act (digestPostOp ctx checker check replica last) s)
/-- POST_SET_CHECK. -/
def execPostSetCheck (ctx check step : Nat) (s : State) : Host.Outcome State Fault Refusal :=
  .next (actFresh (postSetCheckOp ctx check step) s)
/-- POST_SET_TIMEOUT. -/
def execPostSetTimeout (ctx check step : Nat) (s : State) : Host.Outcome State Fault Refusal :=
  .next (act (postSetTimeoutOp ctx check step) s)

end Sys2Proof.Machine
end

