-- ==== Sys2Proof/Machine/Place.lean ====
section
/-! DEFINITION. Placement-bank writes, the check of the shadow bank, and swaps (R92 to R98). -/

namespace Sys2Proof.Machine

open Sys2Proof

/-- Contexts whose layers a bank check knows (R94). -/
def State.knownCtxs (s : State) : List Nat := (List.range 8).filter (fun c => decide (2 ≤ s.tt c ∧ s.tt c ≤ 5))

/-- A context's timetable names the coming placement swap. -/
def State.namesSwap (s : State) (c : Nat) : Bool :=
  match (s.ctx c).image with
  | some i => (s.imageCmds i).any (fun x => x.cls == 10 && bit x.w 231)
  | none => false

/-- Layers of a context. -/
def State.layersOf (s : State) (c : Nat) : List Bytes := match (s.ctx c).image with | some i => i.layers | none => []

/-- Entries that serve a layer in bank `b` (R94). -/
def State.serving (s : State) (b : Nat) (ly : Bytes) : List Nat :=
  (List.range (selE ly)).flatMap (fun e =>
    let p := cdBase ly + e
    if ptValid (s.pt b p) then s.rawChain b 5 p [] else [p])

/-- Entry `i` serves a layer whose context does not name the coming swap, in either bank (code 0x09). -/
def State.mustKeep (s : State) (i : Nat) : Bool :=
  s.knownCtxs.any (fun c => !(s.namesSwap c) &&
    (s.layersOf c).any (fun ly => (s.serving 0 ly).contains i || (s.serving 1 ly).contains i))

/-- The first code that an entry of the shadow bank `b` breaks (Table 4.7). -/
def State.entryCode (s : State) (b i : Nat) : Option Nat :=
  let e := s.pt b i
  if ptValid e && bits e 1 4 != 0 then some 1
  else if ptValid e && decide (4096 < ptCap e) then some 2
  else if ptValid e && decide (s.axesBelow 4 ≤ ptNode e) then some 3
  else match leastOff (s.knownCtxs.flatMap (fun c => (s.layersOf c).flatMap (fun ly =>
      if cdBase ly ≤ i ∧ i < cdBase ly + selE ly then (s.chainCode b ly (i - cdBase ly)).toList else []))) with
    | some x => some x
    | none => if e != s.pt (1 - b) i && s.mustKeep i then some 9 else none

/-- Entries that a check can find something at: those written in either bank. Every other entry is zero in both. -/
def State.ptListed (s : State) : List Nat :=
  sortBy (fun a b => decide (a < b)) ((s.listedEntries Dom.PT_BANK0 8 ++ s.listedEntries Dom.PT_BANK1 8).eraseDups)

/-- PT_CHECK_RESULT of the check of a bank (R94, Table 4.7). -/
def State.bankResult (s : State) (b : Nat) : Nat :=
  match (s.ptListed.filterMap (fun i => (s.entryCode b i).map (fun x => (i, x)))).head? with
  | some (i, x) => i <<< 16 ||| x
  | none =>
    if s.knownCtxs.any (fun c => s.namesSwap c &&
      (match (s.ctx c).image with
       | some i => !((s.planBad b i (s.imageCmds i) false).isEmpty)
       | none => false)) then 7 else 0

/-- PT_CHECK_START TRUE (R94, R95). -/
def ptCheckStartOp (s : State) : State := { s with ptCheck := true }

/-- A running check of the shadow placement bank stopped (R95). -/
def State.stopPtCheck (s : State) : State :=
  if s.ptCheck then ({ s with ptCheck := false }).put Key.PT_CHECK_RESULT 8 else s

/-- A write to a placement bank, or its refusal (R93, R95). -/
def State.ptBankWrite (s : State) (b o : Nat) (bs : Bytes) : State × Option Refused :=
  if s.get Key.PT_ACTIVE = b then (s, some { cls := Ec.bankActive, det := 0x01, ctx := none, idx := 0 })
  else if bs.length % 8 ≠ 0 || (o % 8 ≠ 0 && !bs.isEmpty) then
    (s, some { cls := Ec.descRange, det := 0x30, ctx := none, idx := o / 8 })
  else if bs.isEmpty then (s, none)
  else (((s.domPut (ptDom b) o bs).put Key.PT_SHADOW_READY 0).stopPtCheck, none)

/-- PT_CHECK_DONE (R94). -/
def ptCheckDoneOp (s : State) : State :=
  if s.ptCheck then
    let b := 1 - s.get Key.PT_ACTIVE
    let r := s.bankResult b
    let s := ({ s with ptCheck := false }).put Key.PT_CHECK_RESULT r
    if r = 0 then (s.put Key.PT_SHADOW_READY 1).put Key.PT_SHADOW_CRC (crc32c (s.domBytes (ptDom b) 0 524288))
    else s.put Key.PT_SHADOW_READY 0
  else s

/-- PT_CHECK_DONE. -/
def execPtCheckDone (s : State) : Host.Outcome State Fault Refusal := .next (actFresh ptCheckDoneOp s)

end Sys2Proof.Machine
end

