-- ==== Sys2Proof/Machine/Image.lean ====
section
/-! DEFINITION. The load check: an image as host memory holds it, tested in the order of Table 7.12 (R173 to R182, R470, and
the rules that codes 0x01 to 0x10 name). Each test answers the byte offsets of the items that fail it. -/

namespace Sys2Proof.Machine

open Sys2Proof

/-! ### The image as read -/

/-- The lowest-numbered memory port that reaches a range for a context, if one does. -/
def State.portTo (s : State) (c a n : Nat) : Option Nat := (List.range 4).find? (fun p => s.reaches c p a n)

/-- Some memory port reaches a range for a context. -/
def State.reached (s : State) (c a n : Nat) : Bool := (s.portTo c a n).isSome

/-- FETCH_PORT, IMAGE_LEN, FABRIC_SIZE, PLAN_MHZ, LAYERS and PLAN_COUNT of a header (Table 7.2). -/
def hdFetch (h : Bytes) : Nat := bits (u h 7 1) 3 2
def hdLen (h : Bytes) : Nat := u h 8 8
def hdFabric (h : Bytes) : Nat := u h 18 2
def hdMhz (h : Bytes) : Nat := u h 20 2
def hdLayers (h : Bytes) : Nat := u h 22 2
def hdPlans (h : Bytes) : Nat := u h 36 2

/-- An entry of the frame index (R179). -/
def indexEntry (k : Nat) (e : Bytes) : Repl := { frame := k, len := u e 8 4, off := u e 0 8, crc := u e 12 4 }

/-- A replacement entry (R205). -/
def replEntry (e : Bytes) : Repl := { frame := u e 0 4, len := u e 4 4, off := u e 8 8, crc := u e 16 4 }

/-- A directory entry with its list (R205). -/
def State.planEntry (s : State) (a : Nat) (e : Bytes) : Plan :=
  { flid := u e 0 2
    repl := (List.range (u e 4 4)).map (fun j => replEntry (s.hostBytes (a + u e 8 8 + 24 * j) 24)) }

/-- The image at an address, its tables read where its header puts them; nothing latched yet. -/
def State.imageAt (s : State) (a : Nat) : Image :=
  let h := s.hostBytes a 256
  let t (o n : Nat) : Bytes := s.hostBytes (a + u h o 8) n
  { addr := a, hdr := h, links := t 40 768, part := t 48 4160
    layers := (List.range (hdLayers h)).map (fun l => s.hostBytes (a + u h 56 8 + 256 * l) 256)
    index := (List.range (u h 24 4)).map (fun k => indexEntry k (s.hostBytes (a + u h 64 8 + 16 * k) 16))
    plans := (List.range (hdPlans h)).map (fun j => s.planEntry a (s.hostBytes (a + u h 72 8 + 16 * j) 16))
    latched := [], used := [] }

/-! ### Header and tables (codes 0x02 to 0x06) -/

/-- Offsets of the header fields outside their range (code 0x03). -/
def State.headerBad (s : State) (c a : Nat) (h : Bytes) : List Nat :=
  let out (o n lo hi : Nat) : Nat × Bool := (o, decide (u h o n < lo ∨ hi < u h o n))
  let fields : List (Nat × Bool) := [
    (6, u h 6 1 != c),
    (7, bits (u h 7 1) 5 3 != 0 || bits (u h 7 1) 1 2 == 3),
    (8, decide (hdLen h < 4096 ∨ 2 ^ 40 < hdLen h) || hdLen h % 4096 != 0 || !(s.reaches c (hdFetch h) a (hdLen h))),
    (16, u h 16 2 != s.node),
    (18, decide (hdFabric h < 1 ∨ 16384 < hdFabric h) || hdFabric h != s.axesBelow 4),
    out 20 2 1000 2000, out 22 2 1 256, out 24 4 1 65536, out 28 2 27 2304, out 30 2 1 1024, out 32 2 0 4096,
    out 34 2 0 4096, out 36 2 0 512, out 38 2 0 0,
    (80, !(allZero (sub h 80 48))), (192, !(allZero (sub h 192 64)))]
  (fields.filter (·.2)).map (·.1)

/-- IMAGE_HASH disagrees with the image (code 0x04). -/
def State.hashBad (s : State) (a : Nat) (h : Bytes) : Bool :=
  let bs := s.hostBytes a (hdLen h)
  sha256 (bs.take 160 ++ zeros 32 ++ bs.drop 192) != sub h 160 32

/-- The five tables of a header: offset of the field that places each, its place, its length (R173). -/
def imageTables (h : Bytes) : List (Nat × Nat × Nat) :=
  [(40, u h 40 8, 768), (48, u h 48 8, 4160), (56, u h 56 8, 256 * hdLayers h), (64, u h 64 8, 16 * u h 24 4)] ++
    (if hdPlans h = 0 then [] else [(72, u h 72 8, 16 * hdPlans h)])

/-- Header fields that place a table misaligned, outside the image, over the header or over an earlier table (code 0x05). -/
def tablesBad (h : Bytes) : List Nat :=
  let ts := imageTables h
  (ts.filter (fun t => t.2.1 % 64 != 0 || decide (t.2.1 < 256 ∨ hdLen h < t.2.1 + t.2.2) ||
    ts.any (fun r => decide (r.1 < t.1) && overlaps r.2.1 r.2.2 t.2.1 t.2.2))).map (·.1)

/-- Link entries that break Table 7.3 or R175 (code 0x06). -/
def linksBad (i : Image) : List Nat :=
  let e (p : Nat) : Nat := u i.links (16 * p) 16
  let conn (p : Nat) : Bool := bit (e p) 31
  let flid (p : Nat) : Nat := bits (e p) 48 16
  ((List.range 48).filter (fun p =>
    bits (e p) 38 2 != 0 || bits (e p) 14 17 != 0 || bits (e p) 64 64 != 0 ||
    (conn p && (decide (bits (e p) 40 8 < 1 ∨ 32 < bits (e p) 40 8) || decide (hdFabric i.hdr ≤ bits (e p) 0 14) ||
      bits (e p) 0 14 == i.node || decide (47 < bits (e p) 32 6) ||
      (List.range p).any (fun q => conn q && flid q == flid p))))).map (fun p => u i.hdr 40 8 + 16 * p)

/-! ### The partition (codes 0x07 and 0x08) -/

def Image.stgBase (i : Image) : Nat := u i.part 4096 4
def Image.stgLen (i : Image) : Nat := u i.part 4100 4
def Image.queueFirst (i : Image) : Nat := u i.part 4104 2
def Image.queueCount (i : Image) : Nat := u i.part 4106 2
def Image.reduceMask (i : Image) : Nat := u i.part 4108 2
def Image.credits (i : Image) : Nat := u i.part 4110 2
def Image.quota (i : Image) (q : Nat) : Nat := u i.part (4112 + 4 * q) 4
/-- It owns a slot of a port for sending or receiving (Table 7.4). -/
def Image.ownsSlot (i : Image) (rx : Bool) (q slot : Nat) : Bool :=
  bit (u i.part ((if rx then 2048 else 0) + 32 * q + slot / 8) 1) (slot % 8)
/-- A range lies inside its Staging Store range (R178). -/
def Image.inRange (i : Image) (a n : Nat) : Bool := decide (i.stgBase ≤ a ∧ a + n ≤ i.stgBase + i.stgLen)
/-- It holds a packet queue. -/
def Image.ownsQueue (i : Image) (q : Nat) : Bool := decide (i.queueFirst ≤ q ∧ q < i.queueFirst + i.queueCount)

/-- Partition fields outside the engine (code 0x07; R240, R346). -/
def State.partitionBad (s : State) (i : Image) : List Nat :=
  let b := i.stgBase
  let n := i.stgLen
  let fields : List (Nat × Bool) := [
    (4096, b % 65536 != 0 || decide (134217728 < b + n) || overlaps b n (s.get Key.CLE_REDUCE_BASE) 16777216 ||
      [0, 1, 2].any (fun q => overlaps b n (s.get (Key.POOL_BASE q)) (s.poolCount q * poolSize q))),
    (4100, n % 65536 != 0), (4104, decide (512 < i.queueFirst + i.queueCount)), (4110, decide (1008 < i.credits))] ++
    (List.range 5).map (fun q => (4112 + 4 * q, decide (s.poolCount q < i.quota q))) ++
    [(4132, !(allZero (sub i.part 4132 28)))]
  (fields.filter (·.2)).map (fun x => u i.hdr 48 8 + x.1)

/-- Images of the other contexts in LOADED, ARMED, RUNNING or STOPPING (code 0x08). -/
def State.otherImages (s : State) (c : Nat) : List (Nat × Image) :=
  (List.range 8).filterMap (fun d =>
    if d != c && decide (2 ≤ s.tt d ∧ s.tt d ≤ 5) then ((s.ctx d).image).map (fun i => (d, i)) else none)

/-- The larger of holding and quota of a class, summed over every context with this image for `c` (R240). -/
def State.quotaSum (s : State) (c : Nat) (i : Image) (q : Nat) : Nat :=
  ((List.range 8).map (fun d =>
    max (s.get (Key.POOL_HELD q d))
      (if d = c then i.quota q else match (s.ctx d).image with | some j => j.quota q | none => 0))).foldl (· + ·) 0

/-- Partition fields that share something with another context's (code 0x08). -/
def State.sharingBad (s : State) (c : Nat) (i : Image) : List Nat :=
  let os := (s.otherImages c).map (·.2)
  let masks (o : Nat) (j : Image) : Bool := u i.part o 32 &&& u j.part o 32 != 0
  let fields : List (Nat × Bool) :=
    (List.range 128).map (fun q => (32 * q, os.any (masks (32 * q)))) ++ [
    (4096, os.any (fun j => overlaps i.stgBase i.stgLen j.stgBase j.stgLen)),
    (4104, os.any (fun j => overlaps i.queueFirst i.queueCount j.queueFirst j.queueCount)),
    (4108, os.any (fun j => i.reduceMask &&& j.reduceMask != 0)),
    (4110, decide (1008 < i.credits + (os.map Image.credits).foldl (· + ·) 0))] ++
    (List.range 5).map (fun q => (4112 + 4 * q,
      decide (i.quota q < s.get (Key.POOL_HELD q c)) || decide (s.poolCount q < s.quotaSum c i q)))
  (fields.filter (·.2)).map (fun x => u i.hdr 48 8 + x.1)

/-! ### Layers (code 0x09) -/

/-- A path's format is one of those Table 2.4 lists for it. -/
def fmtHidden (f : Nat) : Bool := decide (1 ≤ f ∧ f ≤ 5)
def fmtWeights (f : Nat) : Bool := decide (1 ≤ f ∧ f ≤ 7)
def fmtReturn (f : Nat) : Bool := decide (f ≤ 4)
def fmtTensor (f : Nat) : Bool := decide (f ≤ 1)
def fmtColl (f : Nat) : Bool := decide (f ≤ 2) || f == 8

/-- A vector in host memory at a 64 B boundary that the ports reach, or none (R56). -/
def State.vectorOk (s : State) (c a n : Nat) : Bool := a == 0 || (a % 64 == 0 && s.reached c a n)

/-- A selection descriptor obeys R56. -/
def State.selOk (s : State) (c : Nat) (l : Bytes) : Bool :=
  let amp := selAmp l
  decide (1 ≤ selE l ∧ selE l ≤ 4096) && decide (1 ≤ selK l ∧ selK l ≤ 16 ∧ selK l ≤ selE l) && decide (selM l ≤ 16) &&
  (selM l == 0 || decide (1 ≤ selJ l ∧ selJ l ≤ 4)) && selRule l != 3 && selNoise l != 3 && (!(selRenorm l) || selRule l == 0) &&
  F32.finite (selScale l) && (F32.lt 0 (selScale l)) &&
  (selNoise l == 0 || (F32.finite amp && !(F32.lt amp 0) && !((Val.fin false 1 120).lt (fval amp)))) &&
  s.vectorOk c (selBias l) (4 * selE l) && s.vectorOk c (selMask l) (ceilDiv (selE l) 8) && u l 0 4 == 0

/-- A carding descriptor obeys R75. -/
def cardOk (l : Bytes) : Bool :=
  decide (cdBase l + selE l ≤ 65536) && decide (cdOverflow l ≤ 1) && decide (cdOrder l ≤ 1) && decide (cdRenorm l ≤ 1) &&
  (if cdOverflow l = 0 then cdReserve l == 0 else decide (1 ≤ cdReserve l ∧ cdReserve l ≤ 8)) && bits (u l 32 8) 0 38 == 0

/-- A descriptor in row use (R274), with `write` where its use writes; `seqs` the tile sequence numbers named for the layer. -/
def State.rowUse (s : State) (c : Nat) (l : Bytes) (seqs : List Nat) (write : Bool) (n : Nat) : Bool :=
  let d := s.ld n
  ldValid d && ldKind d == 0 && ldRank d == 3 && ldSize d 0 == lyD l && ldSize d 1 == 256 && fmtTensor (ldFmt d) &&
  ldOwner d == c && (!write || ldWrite d) &&
  seqs.all (fun t => decide (ldSeqBase d ≤ t ∧ t < ldSeqBase d + ldSize d 2))

/-- The router-weight region obeys R50 and R178. -/
def State.weightsOk (s : State) (c : Nat) (i : Image) (l : Bytes) : Bool :=
  let a := lyWeight l
  let n := selE l * payloadLen (lyWeightFmt l) (lyD l)
  a % 4096 == 0 &&
  (if lyStream l then s.inHeld [3, 4] c a n || s.reaches c (lyPort l) a n else i.inRange a n)

/-- A backward descriptor obeys R138. -/
def State.backwardOk (s : State) (c : Nat) (i : Image) (l : Bytes) (seqs : List Nat) : Bool :=
  let alpha := bwAlpha l
  let save (a n : Nat) : Bool := a != 0 && a % 4096 == 0 && s.reached c a n
  let acc := 4 * selE l * lyD l
  save (bwLogit l) (lyTiles l * logitStride l) && save (bwOut l) (lyTiles l * outStride l) && bwAcc l % 4096 == 0 &&
  (if bwHost l then s.inHeld [3, 4] c (bwAcc l) acc || s.reached c (bwAcc l) acc else i.inRange (bwAcc l) acc) &&
  F32.finite alpha && !(F32.lt alpha 0) && (selStats l || !(F32.lt 0 alpha)) && decide (bwFirst l + bwCount l ≤ selE l) &&
  decide (bwState l < hdFabric i.hdr) && (bwCount l == 0 || bwState l != i.node) && decide (bwFmt l ≤ 2) &&
  decide (bw l 139 2 ≤ 1) && s.rowUse c l seqs false (bwDy l) && s.rowUse c l seqs true (bwDx l) && bw l 0 137 == 0

/-- Words of the chunk map of a tile of a layer under the active bank (R86). -/
def State.mapWords (s : State) (l : Bytes) : Nat :=
  let b := s.get Key.PT_ACTIVE
  ((s.dests b l).map (fun v => ceilDiv (s.placeCount b l v * recordLen (lyDisp l) (lyD l)) 4096)).foldl (· + ·) 0 + 2 * selK l

/-- A layer entry obeys R31, R50, R56, R75, R86, R89, R138, R178 and R274. Its reserved
fields must be zero (DESIGN CHOICE, log entry 70). -/
def State.layerOk (s : State) (c : Nat) (i : Image) (l : Bytes) (seqs : List Nat) : Bool :=
  let back := lyBackward l
  s.selOk c l && cardOk l && decide (128 ≤ lyD l ∧ lyD l ≤ 16384) && lyD l % 128 == 0 && decide (1 ≤ lyTiles l) &&
  bits (u l 44 4) 24 8 == 0 && fmtHidden (lyHidden l) && fmtWeights (lyWeightFmt l) && fmtHidden (lyDisp l) && fmtReturn (lyRet l) &&
  (if back then fmtHidden (lyBwd l) && fmtReturn (lyIn l) else lyBwd l == 0 && lyIn l == 0) && s.weightsOk c i l &&
  decide (lyTiles l * logStride l ≤ lyLogLen l) && s.reached c (lyLog l) (lyLogLen l) &&
  (!(selStats l) || (lyStats l % 65536 == 0 && i.inRange (lyStats l) 65536)) && decide (u l 76 2 < 4096) &&
  s.rowUse c l seqs true (lyResid l) && bits (u l 78 1) 4 4 == 0 && u l 79 1 == 0 &&
  (if back then s.backwardOk c i l seqs else u l 80 64 == 0) && allZero (sub l 144 112) && decide (s.mapWords l ≤ 16384)

/-- Entries of the write ledger up to and with a layer (R422). -/
def Image.ledgerEnd (i : Image) (l : Nat) : Nat :=
  ((i.layers.take (l + 1)).map (fun x => lyTiles x * (1 + 2 * b2n (lyBackward x)))).foldl (· + ·) 0

/-! ### Programs (codes 0x0A to 0x0F) -/

/-- A frame's program lies in the image and is the one its entry names (code 0x0A). A PROGRAM_OFF that is no multiple of 64
(R179) fails here too (DESIGN CHOICE, log entry 75). -/
def State.programOk (s : State) (i : Image) (r : Repl) : Bool :=
  let p := s.progBytes i.addr r
  r.off % 64 == 0 && decide (r.off + r.len ≤ hdLen i.hdr) && decide (320 ≤ r.len) &&
  (let n := u p 4 4
   decide (n ≤ 65536) && r.len == 320 + 32 * n) && u p 0 4 == r.frame && crc32c p == r.crc

/-- The commands of the programs that pass code 0x0A. -/
def State.goodCmds (s : State) (i : Image) (fs : List Repl) : List Cmd := s.planCmds i.addr (fs.filter (s.programOk i))

/-- Tile sequence numbers that TILE_WINDOW, COMBINE and GRADIENT commands name for a layer (R274). -/
def namedTiles (cs : List Cmd) (l : Nat) : List Nat :=
  (cs.filter (fun c => (c.cls == 1 || c.cls == 5 || c.cls == 6) && c.layer == l)).map Cmd.tile

/-- Layer entries that break a rule (code 0x09). -/
def State.layersBad (s : State) (c : Nat) (i : Image) : List Nat :=
  let cs := s.goodCmds i i.index
  let base := s.get (Key.FLT_LEDGER_BASE c)
  let len := s.get (Key.FLT_LEDGER_LEN c)
  ((List.range i.layers.length).filter (fun l =>
    !(s.layerOk c i (i.layerOf l) (namedTiles cs l)) || base == 0 || decide (len < 64 * i.ledgerEnd l))).map i.layerOff

/-- Bits of a command that Tables 7.7, 7.8, 8.5 and 12.2 reserve, for its class. -/
def reservedBits (cls : Nat) : Nat :=
  match cls with
  | 1 => 184 | 2 | 4 => 37 | 3 => 124 | 5 => 164 | 6 => 188 | 7 => 128 | 8 => 206 | 9 => 216 | 10 => 230 | _ => 0

/-- A signature's OP and FORMAT are not reserved (Table 5.4). -/
def sigOk (x : Nat) : Bool := ((decide (1 ≤ sigOp x ∧ sigOp x ≤ 4)) || sigOp x == 8) && fmtValid (sigFmt x)

/-- A command's own fields obey R181, R182 and R310 (code 0x0B). -/
def cmdOk (i : Image) (c : Cmd) : Bool :=
  let w := c.w
  decide (1 ≤ c.cls ∧ c.cls ≤ 10) && decide (c.tick ≤ 2303) && bits w 232 4 == 0 && bits w 0 (reservedBits c.cls) == 0 &&
  (!(decide (1 ≤ c.cls ∧ c.cls ≤ 7)) || decide (c.layer < i.layers.length)) &&
  (match c.cls with
   | 1 => decide (c.work ≤ 2)
   | 2 => c.tick % 9 == 0 && decide (c.xfer.len ≤ 4096) && sigOk c.xfer.sig
   | 3 => c.tick % 9 == 0 && decide (c.tsDir ≤ 1) && decide (1 ≤ c.tsCount ∧ c.tsCount ≤ 16777214) &&
       decide (c.tsFirst + c.tsCount ≤ 16777215)
   | 4 => c.tick % 9 == 0 && decide (c.xfer.len ≤ 4096) && sigOk c.xfer.sig && c.xfer.source != 2
   | 5 => decide (c.work ≤ 2) && decide (bits w 172 16 < i.stepFrames)
   | 6 => decide (c.work ≤ 4)
   | 7 => fmtColl (clFmt w) && clKind w != 3 && decide (1 ≤ clCap w)
   | 8 => decide (1 ≤ bits w 206 4)
   | 10 => bit w 231 || bit w 230
   | _ => true)

/-- Commands that stand before one of an earlier tick in the same program (R181). -/
def outOfOrder : List Cmd → List Nat
  | a :: b :: r => (if a.k == b.k && decide (b.tick < a.tick) then [b.off] else []) ++ outOfOrder (b :: r)
  | _ => []

/-- Commands that break code 0x0B: out of tick order or with a bad field. Reserved bytes of a program's header are ignored
(R5). -/
def cmdsBad (i : Image) (cs : List Cmd) : List Nat :=
  outOfOrder cs ++ (cs.filter (fun c => !(cmdOk i c))).map Cmd.off

/-- Chunks a command counts in its tile-port slot (R470). -/
def tileChunks (i : Image) (c : Cmd) : Nat :=
  if c.cls = 3 then
    let l := i.layerOf c.layer
    ceilDiv (c.tsCount * recordLen (if c.tsDir = 0 then lyDisp l else lyBwd l) (lyD l)) 4096
  else 1

/-- The port of a command (0 to 47 link, 48 to 63 tile). -/
def Cmd.port (c : Cmd) : Nat := if c.cls = 3 then 48 + c.tsPort else c.xfer.port
/-- It receives. -/
def Cmd.rx (c : Cmd) : Bool := c.cls == 4
/-- It uses a slot of a port. -/
def Cmd.usesPort (c : Cmd) : Bool := c.cls == 2 || c.cls == 3 || c.cls == 4

/-- Port, slot and queue of a command lie in the partition, and its link is connected (R470). -/
def portOk (i : Image) (c : Cmd) : Bool :=
  !c.usesPort || (i.ownsSlot c.rx c.port (c.tick / 9) &&
    (decide (48 ≤ c.port) || bit (u i.links (16 * c.port) 8) 31) &&
    (!(c.cls == 4 && c.xfer.dst == i.node) || i.ownsQueue c.xfer.queue))

/-- The commands of a port, direction and slot of the step. -/
def sameSlot (cs : List Cmd) (c : Cmd) : List Cmd :=
  cs.filter (fun d => d.usesPort && d.port == c.port && d.rx == c.rx && d.slot == c.slot)

/-- A command and those before it in its slot are more than the port carries (R470). -/
def slotOver (i : Image) (cs : List Cmd) (c : Cmd) : Bool :=
  let ds := sameSlot cs c
  if c.port < 48 then (ds.head?.map Cmd.off) != some c.off
  else
    let upTo := ds.takeWhile (fun d => d.off != c.off) ++ [c]
    decide (chunksPerSlot (hdMhz i.hdr) < (upTo.map (tileChunks i)).foldl (· + ·) 0)

/-- A COLLECTIVE obeys R311. -/
def State.collOk (s : State) (c : Nat) (i : Image) (cs : List Cmd) (g : Cmd) : Bool :=
  let w := g.w
  let e := s.group (clGroup w)
  let l := i.layerOf g.layer
  let sd := s.ld (clSrc w)
  let dd := s.ld (clDst w)
  let q := s.pqDesc (clQueue w)
  clGroup w != 0xFFF && gpValid e && gpOwner e == c && bit i.reduceMask (gpChannel e) &&
  !(cs.any (fun h => h.cls == 7 && clGroup h.w != clGroup w && decide (h.off < g.off) &&
    gpChannel (s.group (clGroup h.w)) == gpChannel e)) &&
  decide (clPieces (clFmt w) (clCap w) ≤ 65536) &&
  (match clKind w with
   | 0 => ldValid sd && ldValid dd && ldOwner sd == c && ldOwner dd == c && ldFmt sd == clFmt w && ldFmt dd == clFmt w &&
       ldWrite dd && ldCount dd == clCap w
   | 1 => clCap w == selE l * lyD l && clFmt w == bwFmt l
   | _ => clCap w == selE l && clFmt w == 8) &&
  (!(clSignal w) || (i.ownsQueue (clQueue w) && pqKind q == 2 && (pqConsumer q == 0 || pqProducer q == 17)))

/-- Frames of a step that the pieces of a collective span (R320), as first and last frame with 1 added to both. -/
def collSpans (i : Image) (cs : List Cmd) (g : Cmd) : List (Nat × Nat) :=
  let mine := cs.filter (fun c => ((c.sends 3 && c.xfer.src == i.node) || (c.receives 3 && c.xfer.dst == i.node)) &&
    sigGroup c.xfer.sig == clGroup g.w && sigSeq c.xfer.sig == clSeq g.w)
  let js := (mine.map (fun c => c.xfer.piece)).eraseDups
  js.map (fun j =>
    let ks := (mine.filter (fun c => c.xfer.piece == j)).map Cmd.k
    (ks.foldl min (nth ks 0 0), ks.foldl max 0 + 2))

/-- The spans of the delivery pieces of a COLLECTIVE of SOURCE_KIND 0b01 (R320), in the same form. -/
def delivSpans (i : Image) (cs : List Cmd) (g : Cmd) : List (Nat × Nat) :=
  if clKind g.w != 1 then [] else
  let mine := cs.filter (fun c => c.sends 4 && c.xfer.src == i.node && c.layer == g.layer)
  ((mine.map (fun c => c.xfer.piece)).eraseDups).map (fun j =>
    (g.k + 1, ((mine.filter (fun c => c.xfer.piece == j)).map Cmd.k).foldl max g.k + 2))

/-- How often a span of frames covers frame `r` of the step, taken modulo STEP_FRAMES `n`, since step follows step. -/
def spanCover (n r : Nat) (x : Nat × Nat) : Nat :=
  ((List.range (x.2 - x.1 + 1)).filter (fun d => (x.1 + d + n - 1) % n == r)).length

/-- Channels with more than 256 pieces in a frame: the first COLLECTIVE of each (R320). -/
def State.channelsOver (s : State) (i : Image) (cs : List Cmd) : List Nat :=
  let colls := cs.filter (fun c => c.cls == 7)
  (List.range 16).flatMap (fun ch =>
    let mine := colls.filter (fun g => gpChannel (s.group (clGroup g.w)) == ch)
    let spans := mine.flatMap (fun g => collSpans i cs g ++ delivSpans i cs g)
    if (List.range i.stepFrames).any (fun r => decide ((257 : Nat) ≤ (spans.map (spanCover i.stepFrames r)).foldl (fun (a b : Nat) => a + b) 0)) then
      (leastOff (mine.map Cmd.off)).toList
    else [])

/-- Commands that use what the partition does not hold, or more than a slot or channel carries (code 0x0C). -/
def State.resourcesBad (s : State) (c : Nat) (i : Image) (cs : List Cmd) : List Nat :=
  (cs.filter (fun x => !(portOk i x) || (x.usesPort && slotOver i cs x) || (x.cls == 7 && !(s.collOk c i cs x)))).map Cmd.off ++
    s.channelsOver i cs

/-- Layers with an expert whose chain in the active bank breaks a rule of Table 4.7 (code 0x0D). -/
def State.chainsBad (s : State) (i : Image) : List Nat :=
  let b := s.get Key.PT_ACTIVE
  ((List.range i.layers.length).filter (fun l =>
    (List.range (selE (i.layerOf l))).any (fun e => (s.chainCode b (i.layerOf l) e).isSome))).map i.layerOff

/-- Declared loads of a program above their limits (R180; code 0x0F). -/
def State.loadsBad (s : State) (i : Image) (r : Repl) : List Nat :=
  let p := s.progBytes i.addr r
  let limit := 95 * (9216 * hdMhz i.hdr / 1000) / 100
  let past (o n hi : Nat) : List Nat := if hi < u p o n then [r.off + o] else []
  past 8 4 limit ++ (List.range 128).flatMap (fun b => past (16 + 2 * b) 2 limit) ++
    (List.range 8).flatMap (fun m => past (272 + 4 * m) 4 8965324)

/-- The first code of 0x0B to 0x0F that a plan breaks, with its offset. -/
def State.planCode (s : State) (c : Nat) (i : Image) (fs : List Repl) : Option (Nat × Nat) :=
  let cs := s.planCmds i.addr fs
  match leastOff (cmdsBad i cs) with
  | some o => some (0x0B, o)
  | none => match leastOff (s.resourcesBad c i cs) with
    | some o => some (0x0C, o)
    | none => match leastOff (s.planBad (s.get Key.PT_ACTIVE) i cs true ++ s.chainsBad i) with
      | some o => some (0x0D, o)
      | none => match s.orderBad i cs with
        | some o => some (0x0E, o)
        | none => (leastOff (fs.flatMap (s.loadsBad i))).map (fun o => (0x0F, o))

/-! ### Degraded plans (code 0x10) -/

/-- Offsets of the directory. -/
def Image.dirOff (i : Image) (j : Nat) : Nat := u i.hdr 72 8 + 16 * j

/-- A degraded plan's directory entry, list and programs that fail (R205). Bytes that R205 gives as zero fail where they are not
(DESIGN CHOICE, log entry 70). -/
def State.degradedBad (s : State) (c : Nat) (i : Image) (j : Nat) : List Nat :=
  let e := s.hostBytes (i.addr + i.dirOff j) 16
  let p := nth i.plans j default
  let off := u e 8 8
  let item (n : Nat) : Nat := off + 24 * n
  let one (n : Nat) : Bool :=
    let x := s.hostBytes (i.addr + item n) 24
    let r := replEntry x
    decide (i.stepFrames ≤ r.frame) || u x 20 4 != 0 || !(s.programOk i r) ||
      (List.range n).any (fun m => decide (r.frame ≤ (nth p.repl m default).frame))
  if u e 2 2 != 0 || (decide (0 < j) && decide (p.flid ≤ (nth i.plans (j - 1) default).flid)) ||
     decide (hdLen i.hdr < off + 24 * u e 4 4) then [i.dirOff j]
  else
    let bad := (List.range p.repl.length).filter one
    if !bad.isEmpty then bad.map item else
    let fs := i.index.map (fun r => ((p.repl.find? (fun x => x.frame == r.frame)).getD r))
    let lost := (List.range 48).find? (fun q => bit (u i.links (16 * q) 8) 31 && bits (u i.links (16 * q) 8) 48 16 == p.flid)
    let uses := match lost with
      | some q => ((s.planCmds i.addr p.repl).filter (fun x => x.usesPort && x.port == q)).map Cmd.off
      | none => []
    let cs := s.planCmds i.addr fs
    let seqs := (List.range i.layers.length).filter (fun l => !(s.layerOk c i (i.layerOf l) (namedTiles cs l)))
    uses ++ seqs.map i.layerOff ++ ((s.planCode c i fs).map (·.2)).toList

/-! ### The whole check -/

/-- The descriptors latched with an image (R275): those its layer entries and its COLLECTIVE commands name. -/
def State.latchedOf (s : State) (i : Image) : List (Nat × Bytes) :=
  let byLayer := i.layers.flatMap (fun l => lyResid l :: (if lyBackward l then [bwDy l, bwDx l] else []))
  let byColl := ((s.imageCmds i).filter (fun x => x.cls == 7 && clKind x.w == 0)).flatMap (fun x => [clSrc x.w, clDst x.w])
  ((byLayer ++ byColl).eraseDups).map (fun n => (n, s.domBytes Dom.PRESS_DESC (64 * n) 64))

/-- The image as it is kept once it has passed. -/
def State.kept (s : State) (i : Image) : Image :=
  { i with
    latched := s.latchedOf i
    used := (((s.imageCmds i).filter (fun x => x.usesPort && decide (x.port < 48))).map Cmd.port).eraseDups }

/-- The first failure among some offsets, with its code. -/
def failAt (code : Nat) (os : List Nat) : Option (Nat × Nat) := (leastOff os).map (fun o => (code, o))

/-- Codes 0x05 to 0x10 in order, for an image whose header and hash have passed. -/
def State.tableCode (s : State) (c : Nat) (i : Image) : Option (Nat × Nat) :=
  (failAt 0x06 (linksBad i)).orElse fun _ =>
  (failAt 0x07 (s.partitionBad i)).orElse fun _ =>
  (failAt 0x08 (s.sharingBad c i)).orElse fun _ =>
  (failAt 0x09 (s.layersBad c i)).orElse fun _ =>
  (failAt 0x0A (((List.range i.index.length).filter (fun k => !(s.programOk i (nth i.index k default)))).map
    (fun k => u i.hdr 64 8 + 16 * k))).orElse fun _ =>
  (s.planCode c i i.index).orElse fun _ =>
  failAt 0x10 ((List.range i.plans.length).flatMap (s.degradedBad c i))

/-- The verdict of Table 7.12 on the image at TT_IMAGE_ADDR of a context: its first failing code with the offset of the item,
or the image. `s` is the state it is checked against. -/
def State.loadVerdict (s : State) (c : Nat) : Except (Nat × Nat) Image :=
  let a := s.get (Key.TT_IMAGE_ADDR c)
  let h := s.hostBytes a 256
  if a % 4096 ≠ 0 || !(s.reached c a 256) then .error (0x01, 0)
  else if u h 0 4 ≠ 0x31545455 then .error (0x02, 0)
  else if u h 4 2 ≠ 1 then .error (0x02, 4)
  else match failAt 0x03 (s.headerBad c a h) with
    | some e => .error e
    | none =>
      if s.hashBad a h then .error (0x04, 160)
      else match failAt 0x05 (tablesBad h) with
        | some e => .error e
        | none =>
          let i := s.imageAt a
          match s.tableCode c i with
          | some e => .error e
          | none => .ok (s.kept i)

end Sys2Proof.Machine
end

