-- ==== Sys2Proof/Machine/Context.lean ====
section
/-! DEFINITION. The Timetable Sequencer's contexts: loading, starting, stopping and unloading (R190), steps and frame programs
(R171, R185), bank swaps (R96, R299), the abort boundary and the replay (R418 to R425). -/

namespace Sys2Proof.Machine

open Sys2Proof

/-! ### Work given up (R420, R190) -/

/-- A path that the Fuller has begun: it has read the path's ledger entry, as a replayed step's opening does, or the tile's route log
(R123, R423; DEDUCED, log entry 13). -/
def Comb.begun (k : Comb) : Bool := decide (0 < k.attempt) || k.log.isSome

/-- The write-ledger entries of the paths begun in some steps (R420, R423). -/
def State.closeLedger (s : State) (c : Nat) (p : Nat → Bool) : State :=
  (s.combs.filter (fun (k : Comb) => k.ctx == c && p k.step && decide (k.work < 2) && k.begun && !k.closed)).foldl
    (fun s k => s.ledgerWrite c k.step k.layer k.index k.work (k.done ||| k.written)) s

/-- The work of a context's steps that satisfy `p` discarded with its buffers and piece slots, without release, re-send or
event (R420). DESIGN CHOICE (log entry 76): a window given up while it is held adds no ticks to ACC_WAIT_TT. -/
def State.abandon (s : State) (c : Nat) (p : Nat → Bool) : State :=
  let gone (x st : Nat) : Bool := x == c && p st
  let s := ((s.pieces.filter (fun (q : Piece) => gone q.key.ctx q.key.step)).map (·.key)).foldl State.dropPiece s
  let s := s.setCtx c { s.ctx c with gradsDue := (s.ctx c).gradsDue.filter (fun (g : Nat × Nat) => !(p g.1)) }
  { s with
    wins := s.wins.filter (fun (x : Win) => !(gone x.ctx x.step))
    selins := s.selins.filter (fun (x : SelIn) => !(gone x.ctx x.step))
    stats := s.stats.filter (fun (x : StatPart) => !(gone x.ctx x.step))
    streams := s.streams.filter (fun (x : Stream) => !(gone x.ctx x.step))
    rets := s.rets.filter (fun (x : Ret) => !(gone x.ctx x.step))
    helds := s.helds.filter (fun (x : Held) => !(gone x.ctx x.step))
    lates := s.lates.filter (fun (x : Late) => !(gone x.ctx x.step))
    lateOuts := s.lateOuts.filter (fun (x : LateOut) => !(gone x.ctx x.step))
    lateTiles := s.lateTiles.filter (fun (x : LateTile) => !(gone x.ctx x.step))
    losts := s.losts.filter (fun (x : Lost) => !(gone x.ctx x.step))
    fwdRets := s.fwdRets.filter (fun (x : Nat × Nat × Nat × Nat × Nat) => !(gone x.1 x.2.1))
    expects := s.expects.filter (fun (x : Expect) => !(gone x.ctx x.step))
    rels := s.rels.filter (fun (x : Rel) => !(gone x.ctx x.step))
    series := s.series.filter (fun (x : Series) => !(gone x.ctx x.step))
    refusedTiles := s.refusedTiles.filter (fun (x : Nat × Nat × Nat) => !(gone x.1 x.2.1))
    partials := s.partials.filter (fun (x : Partial) => !(gone x.ctx x.step))
    combs := s.combs.filter (fun (x : Comb) => !(gone x.ctx x.step))
    grads := s.grads.filter (fun (x : Grad) => !(gone x.ctx x.step))
    layerGrads := s.layerGrads.filter (fun (x : LayerGrad) => !(gone x.ctx x.step))
    audits := s.audits.filter (fun (x : Audit) => !(gone x.ctx x.step))
    cle := { ops := s.cle.ops.filter (fun (x : Coll) => !(gone x.ctx x.step))
             slots := s.cle.slots.filter (fun (x : PieceSlot) => !(gone x.ctx x.step)) }
    dru := { s.dru with waiting := s.dru.waiting.filter (fun (x : LatePost) => !(gone x.ctx x.cmdStep)) } }

/-- Work of a step still outstanding at this engine (R416); its digests are not work (DEDUCED, log entry 12). -/
def State.outstanding (s : State) (c st : Nat) : Bool :=
  let mine (x y : Nat) : Bool := x == c && y == st
  s.wins.any (fun (x : Win) => mine x.ctx x.step && decide (x.stage < 5)) ||
  s.combs.any (fun (x : Comb) => mine x.ctx x.step && !x.closed) ||
  s.expects.any (fun (x : Expect) => mine x.ctx x.step && !x.committed) ||
  s.helds.any (fun (x : Held) => mine x.ctx x.step) ||
  s.lates.any (fun (x : Late) => mine x.ctx x.step) ||
  s.lateTiles.any (fun (x : LateTile) => mine x.ctx x.step) ||
  s.cle.ops.any (fun (x : Coll) => mine x.ctx x.step && !x.done && x.aborted == 0) ||
  s.grads.any (fun (x : Grad) => mine x.ctx x.step && !x.b5) ||
  s.layerGrads.any (fun (x : LayerGrad) => mine x.ctx x.step && x.waiting)

/-! ### Loading and unloading (R190) -/

/-- A descriptor's extent lies in the partition range of a context that owns it (R273). -/
def State.inPartition (s : State) (c d : Nat) : Bool :=
  match (s.ctx c).image with
  | some i => ldOwner d == c && !(ldHost d) && !(ldEmpty d) && decide (0 ≤ (ldExtent d).1) &&
      i.inRange (ldExtent d).1.toNat ((ldExtent d).2 - (ldExtent d).1).toNat
  | none => false

/-- The engine as a load in LOADED is checked against it (R190): the context holds no partition and no buffer of classes 0
to 2. -/
def State.bare (s : State) (c : Nat) : State :=
  let s := s.invalidate (s.inPartition c)
  (s.setCtx c { s.ctx c with image := none }).freeAll c

/-- The unload path begins (R190, actions 1 to 3): `u` what follows it. -/
def State.startUnload (s : State) (c : Nat) (u : Unload) : State :=
  let s := s.abandon c (fun _ => true)
  let s := ((s.press.queue.filter (fun m => cpOwner (s.copy m) == c)).eraseDups).foldl (fun s m => s.endCopy m (s.copy m)) s
  let s := ((s.sfu.queue.filter (fun q => jbOwner (s.job q) == c)).eraseDups).foldl (fun s q => s.endJob q (s.job q)) s
  let s := { s with
    press := { s.press with running := s.press.running.map (fun (r : Run) => { r with aborted := r.aborted || cpOwner (unle r.desc) == c }) }
    sfu := { s.sfu with running := s.sfu.running.map (fun (r : Run) => { r with aborted := r.aborted || jbOwner (unle r.desc) == c }) } }
  let s := s.endScans (fun d => scCtx d == c)
  let s := s.fepDrop (fun (l : CacheLine) => l.ctx == c)
  let s := s.invalidate (s.inPartition c)
  s.setCtx c { s.ctx c with unload := some u, image := (s.ctx c).image.map (fun (i : Image) => { i with latched := [] }) }

/-- A running copy, job or scan of a context. -/
def State.worksFor (s : State) (c : Nat) : Bool :=
  s.press.running.any (fun (r : Run) => cpOwner (unle r.desc) == c) || s.sfu.running.any (fun (r : Run) => jbOwner (unle r.desc) == c) ||
    s.cvu.running.any (fun (r : Bytes × Bool) => scCtx (unle r.1) == c)

/-- A load that passed: the context enters LOADED with its image (R95, R190, R275). -/
def State.enterLoaded (s : State) (c : Nat) (i : Image) : State :=
  let s := s.setCtx c { image := some (s.kept i) }
  let s := (s.put (Key.TT_LOAD_RESULT c) 0).put (Key.TT_PLAN_HASH c) (u i.hdr 128 8)
  ((s.setTt c 2).put Key.PT_SHADOW_READY 0).stopPtCheck

/-- The event of a refused image or start (Table 7.17). -/
def refusedEv (c : Nat) : Ev :=
  { cls := Ec.descRange, det := 0x40, dom := 23, ctx := some c, arg := (c + 1) <<< 16 ||| 0x4105 }

/-- A load that failed (R190). -/
def State.loadFailed (s : State) (c code off : Nat) : State :=
  ((s.put (Key.TT_LOAD_RESULT c) (off <<< 24 ||| code)).setTt c 0).log (refusedEv c)

/-- TT_CONTROL 0x01 (R190): the context enters LOADING. -/
def ttLoadOp (c : Nat) (s : State) : State :=
  let st := s.tt c
  if (st = 0 || st = 2) && (s.ctx c).unload.isNone then
    { s.setTt c 1 with loads := s.loads ++ [{ ctx := c, held := st == 2 }] }
  else s

/-- The accounting of a load's reads: the header, and once code 0x03 has passed the rest (R190). -/
def State.loadReads (s : State) (c : Nat) (v : Except (Nat × Nat) Image) : State :=
  let a := s.get (Key.TT_IMAGE_ADDR c)
  let h := s.hostBytes a 256
  let code := match v with | .error e => e.1 | .ok _ => 0
  let s := match s.portTo c a 256 with | some p => s.hostRead p a 256 | none => s
  if code = 0 || 3 < code then s.hostRead (hdFetch h) (a + 256) (hdLen h - 256) else s

/-- TT_LOAD_DONE (R190): the checks have ended. A context that held an image gives it up first. -/
def ttLoadDoneOp (c : Nat) (s : State) : State :=
  match s.loads.find? (fun (l : Load) => l.ctx == c) with
  | none => s
  | some l =>
    let v := (if l.held then s.bare c else s).loadVerdict c
    let s := { s with loads := s.loads.filter (fun (x : Load) => x.ctx != c) }.loadReads c v
    if l.held then
      s.startUnload c (match v with | .ok i => { next := some i, code := 0, offset := 0 } | .error e => { next := none, code := e.1, offset := e.2 })
    else match v with
      | .ok i => s.enterLoaded c i
      | .error e => s.loadFailed c e.1 e.2

/-- TT_CONTROL 0x04 (R190). -/
def ttUnloadOp (c : Nat) (s : State) : State :=
  if s.tt c = 2 && (s.ctx c).unload.isNone then s.startUnload c { next := none, code := 0, offset := 0 } else s

/-- A write of TT_IMAGE_ADDR (R190): in LOADED it takes the unload path. -/
def ttImageAddrOp (c v : Nat) (s : State) : State := ttUnloadOp c (s.put (Key.TT_IMAGE_ADDR c) v)

/-- UNLOAD_PATH_DONE (R190, R250): the context's work has stopped, its buffers are freed, and the path ends. -/
def unloadPathDoneOp (c : Nat) (s : State) : State :=
  match (s.ctx c).unload with
  | none => s
  | some u =>
    if s.worksFor c then s else
    let s := (s.freeAll c).setCtx c {}
    match u.next with
    | some i => s.enterLoaded c i
    | none => if u.code = 0 then s.setTt c 0 else s.loadFailed c u.code u.offset

/-! ### Starting and stopping (R190) -/

/-- A connected port is not ready or not fit (R176). -/
def State.unfit (s : State) (c p : Nat) : Bool :=
  !(s.port p).ready || decide (s.flight c p * 144 < s.get (Key.LINK_DELAY p) + 64)

/-- The start codes 0x20 to 0x22, 0 where every check passes. -/
def State.startCode (s : State) (c : Nat) : Nat :=
  if s.get Key.TB_STATE ≠ 2 then 0x20
  else if s.get (Key.TT_FRAME_BASE c) < s.planFrame + 2 then 0x21
  else if (List.range 48).any (fun p => s.linkConnected c p && (s.lost p || s.unfit c p)) then 0x22
  else 0

/-- The events of ports that are unfit but not lost at a start (R176). -/
def State.unfitEvs (s : State) (c : Nat) : List Ev :=
  ((List.range 48).filter (fun p => s.linkConnected c p && !(s.lost p) && s.unfit c p)).map (fun p =>
    { cls := Ec.linkDown, det := 0x02, dom := 23, ctx := some c, arg := bits (s.linkEntry c p) 48 16 <<< 16 ||| p })

/-- TT_CONTROL 0x02 (R190, R214). What a former run left outstanding completes or times out while the context is LOADED, so nothing of it
stands beside the new run (DEDUCED, log entry 82). DESIGN CHOICE (log entry 74): a start that passes leaves TT_LOAD_RESULT. -/
def ttStartOp (c : Nat) (s : State) : State :=
  if s.tt c = 2 && (s.ctx c).unload.isNone then
    let code := s.startCode c
    if code ≠ 0 then
      (s.put (Key.TT_LOAD_RESULT c) code).logEvs ((if code = 0x22 then s.unfitEvs c else []) ++ [refusedEv c])
    else
      let seed := s.get (Key.DRU_SEED c)
      let s := (s.abandon c (fun _ => true)).setCtx c { image := (s.ctx c).image, seed := BitVec.ofNat 64 seed }
      ((s.setTt c 3).setRate).rpl 0x07 (some c) 0 true (s.get (Key.TT_FIRST_STEP c)) seed
  else s

/-- TT_CONTROL 0x03 (R190). -/
def ttStopOp (c : Nat) (s : State) : State :=
  if s.tt c = 3 then (s.abandon c (fun st => st == s.get (Key.TT_FIRST_STEP c))).toLoaded c false
  else if s.tt c = 4 then s.setTt c 5
  else s

/-! ### Steps (R171) -/

/-- The step after a step. -/
def stepNext (st : Nat) : Nat := (st + 1) % 2 ^ 48

/-- The scan-table half of a step as its beginning leaves it (R217). DEDUCED (log entry 40): LAYERS, the zero bytes and E of the layers that
are not there are written with it. -/
def State.openScan (s : State) (c st : Nat) : State :=
  let n := s.layers c
  ((s.scanPut c st 0 (le 8 (2 ^ 64 - 1) ++ le 2 n ++ zeros 54)).scanPut c st (8390720 + 2 * n) (zeros (2 * (256 - n)))).scanPut
    c st 8391232 (zeros 1472)

/-- A step of a context begins at plan frame `first` (R171, R421): its span opens, and the DRU's notes of it (R216, R220). The notes of
a closed step stay while the step after it, whose DIGEST_POST commands report it (R224), is open. -/
def State.beginStep (s : State) (c st first : Nat) : State :=
  let x := s.ctx c
  let at_ := ((x.attempts.find? (fun (a : Nat × Nat) => a.1 == st)).map (·.2)).getD 0
  let o : OpenStep := { step := st, attempt := at_, first := first, last := first + s.stepFrames c - 1 }
  let s := (s.setCtx c { x with first := first, attempt := at_, opens := x.opens ++ [o] }).put (Key.TT_STEP c) st
  let next (a : Audit) : Bool := stepNext a.step == st || x.opens.any (fun (y : OpenStep) => y.step == stepNext a.step)
  let keep (a : Audit) : Bool := a.ctx != c || (a.step != st && (!a.closed || next a))
  let a : Audit := { ctx := c, step := st, attempt := at_ }
  let s := { s with audits := s.audits.filter keep ++ [a] }
  s.openScan c st

/-- TT_STEP as the boundary at which a step begins leaves it in the frame view. DEDUCED (log entry 14): the step begins at that
boundary's tick 0, so the view of the boundary holds its step. -/
def State.viewStep (s : State) (c : Nat) : State :=
  { s with view := Sparse.set regDefault s.view (Key.TT_STEP c) (BitVec.ofNat 64 (s.get (Key.TT_STEP c))) }

/-- FIRST_STEP_BEGIN (R171): tick 0 of the plan frame TT_FRAME_BASE. -/
def firstStepBeginOp (c : Nat) (s : State) : State :=
  let base := s.get (Key.TT_FRAME_BASE c)
  if s.tt c = 3 && decide (base ≤ s.planFrame) && !s.time.slipping && !s.time.slipDue then
    (((s.setTt c 4).setRate).beginStep c (s.get (Key.TT_FIRST_STEP c)) base).viewStep c
  else s

/-- What the program in force of a context that stops in mid-frame declares stays declared for the frame (R180). -/
def State.keepLoads (s : State) (c : Nat) : State :=
  { s with obs := { s.obs with declared := s.obs.declared ++
      ((List.range 128).map (fun k => (k, s.declaredBy c k))).filter (fun (e : Nat × Nat) => e.2 != 0) } }

/-- STEP_END (R171, R190, R425): tick 2,303 of the step's last frame has come. -/
def stepEndOp (c : Nat) (s : State) : State :=
  let x := s.ctx c
  let n := s.stepFrames c
  if s.runs c && x.replay.isNone && !s.time.slipping && !s.time.slipDue &&
     decide ((x.first + n) * 2304 ≤ s.planTick + 1) then
    let st := s.step c
    let s := (s.keepGrads c).issued 0x0D (some c)
    let done := match x.replayTo with | none => true | some t => t == st
    let s := if done then s.setCtx c { s.ctx c with replayTo := none } else s
    if s.tt c = 5 && done then
      (((s.keepLoads c).abandon c (fun y => y == stepNext st)).put (Key.TT_STEP c) (stepNext st)).toLoaded c (!x.faultStops.isEmpty)
    else s.beginStep c (stepNext st) (x.first + n)
  else s

/-! ### Frame programs (R185) -/

/-- The plan frame and step from which a context's schedule runs on. -/
def State.schedule (s : State) (c : Nat) : Option (Nat × Nat) :=
  let x := s.ctx c
  if s.tt c = 3 then some (s.get (Key.TT_FRAME_BASE c), s.get (Key.TT_FIRST_STEP c))
  else if s.runs c then
    match x.replay with
    | some r => some (r.2.2, r.1)
    | none => some (x.first, s.step c)
  else none

/-- The plan frame before which the schedule of a stopping context ends (R190, R425). -/
def State.scheduleEnd (s : State) (c from_ st : Nat) : Option Nat :=
  if s.tt c = 5 then
    some (from_ + ((match (s.ctx c).replayTo with | some t => (t + 2 ^ 48 - st) % 2 ^ 48 | none => 0) + 1) * s.stepFrames c)
  else none

/-- The next frame whose program is to be fetched: the lowest of the frame in force and the two after it. -/
def State.fetchNext (s : State) (c : Nat) : Option (Nat × Nat) :=
  match s.schedule c with
  | none => none
  | some (from_, st) =>
    let n := s.stepFrames c
    let ok (f : Nat) : Bool := decide (from_ ≤ f) && !((s.ctx c).progs.any (fun (g : Prog) => g.frame == f)) &&
      (match s.scheduleEnd c from_ st with | some e => decide (f < e) | none => true)
    (([0, 1, 2].map (· + s.planFrame)).find? ok).map (fun f => (f, (f - from_) % n))

/-- FRAME_PROGRAM_FETCH (R185): a fetch begins; programs of frames gone by are forgotten. -/
def frameProgramFetchOp (c : Nat) (s : State) : State :=
  match s.fetchNext c, (s.ctx c).image with
  | some (f, k), some i =>
    let x := s.ctx c
    let g : Prog := { frame := f, k := k, src := i.source x.plans k, bytes := none, dropped := false }
    s.setCtx c { x with progs := x.progs.filter (fun (g : Prog) => decide (s.planFrame ≤ g.frame)) ++ [g] }
  | _, _ => s

/-- The step of a fetched frame. -/
def State.stepOfFrame (s : State) (c f : Nat) : Nat :=
  match s.schedule c with
  | some (from_, st) => (st + (f - from_) / s.stepFrames c) % 2 ^ 48
  | none => s.step c

/-- FRAME_PROGRAM_FETCHED (R185): the oldest fetch ends; `corrupt` reads of it came back damaged. -/
def frameProgramFetchedOp (c corrupt : Nat) (s : State) : State :=
  let x := s.ctx c
  match x.image, x.progs.find? (fun (g : Prog) => g.bytes.isNone && !g.dropped) with
  | some i, some g =>
    let bs := s.progBytes i.addr g.src
    let bad := if crc32c bs = g.src.crc then corrupt else 2
    let rd (s : State) : State := s.hostRead (s.fetchPort c) (i.addr + g.src.off) g.src.len
    let s := if bad = 0 then rd s else rd (rd s)
    let upd (h : Prog) : State := s.setCtx c { x with progs := x.progs.map (fun (y : Prog) => if y = g then h else y) }
    if bad < 2 then upd { g with bytes := some bs }
    else
      let st := s.stepOfFrame c g.frame
      let again := x.badFrames.contains (st, g.k)
      let s := upd { g with dropped := true }
      let s := s.setCtx c { s.ctx c with badFrames := (s.ctx c).badFrames ++ [(st, g.k)] }
      let s := s.log { cls := Ec.crc, det := if again then 0x16 else 0x15, dom := 23, ctx := some c, step := some st, arg := 0xFFFF }
      if again then s.imposeStop c else s.replayStep c
  | _, _ => s

/-! ### Bank swaps (R96, R299) -/

/-- A stop at a step boundary that has just begun a step (R96, R299): the step is not run. DEDUCED (log entry 19): at once. -/
def State.stopAtBoundary (s : State) (c : Nat) : State :=
  let st := s.step c
  let s := s.abandon c (fun y => y == st)
  (s.setCtx c { s.ctx c with opens := (s.ctx c).opens.filter (fun (o : OpenStep) => o.step != st) }).toLoaded c true

/-- A BANK_SWAP command of a context for one table (R96, R299, R183): the commands of one tick make one swap, and each
context that names a swap not made stops at this step boundary. `kind` 0 placement, 1 program; `ready`, `active`, `shadow`,
`activeCrc` its entries; `det` the detail of the refusal; `unit` its domain. -/
def State.bankSwap (s : State) (c kind ready active shadowCrc activeCrc det unit : Nat) : State :=
  match s.swaps.find? (fun (w : Nat × Nat × Bool) => w.1 == kind && w.2.1 == s.frame) with
  | some w => if w.2.2 then s else s.stopAtBoundary c
  | none =>
    let ok := s.get ready == 1
    let s := { s with swaps := s.swaps.filter (fun (w : Nat × Nat × Bool) => w.1 != kind) ++ [(kind, s.frame, ok)] }
    if ok then
      let s := (s.put active (1 - s.get active)).put ready 0
      let s := s.put activeCrc (s.get shadowCrc)
      s.rpl 0x06 (some c) (s.ctx c).attempt true (s.step c) (kind <<< 32 ||| s.get activeCrc)
    else (s.log { cls := Ec.descRange, det := det, dom := unit, ctx := some c }).stopAtBoundary c

/-- The mark of the BANK_SWAP command of a context at this tick that names a table: 0 the placement table, bit 231, 1 the SFU
program table, bit 230 (Table 7.8). -/
def State.swapMark (s : State) (c half : Nat) : Option (Nat × Nat) :=
  s.cmdMark c half (fun w => wCls w == 10 && bit w (231 - half))

/-- A table of a BANK_SWAP command issued: the trace records the command with its first table. -/
def State.issueSwap (s : State) (c half : Nat) (m : Nat × Nat) : State :=
  if s.issuedCmds.contains (c, m.1 + 1 - 2 * half) then { s with issuedCmds := s.issuedCmds ++ [(c, m.1)] } else s.issueAt c none m

/-- BANK_SWAP with PLACEMENT set (R96, R97): a check in progress goes on from index 0 of the new shadow bank. -/
def bankSwapPlacementOp (c : Nat) (s : State) : State :=
  match s.swapMark c 0 with
  | some m => (s.issueSwap c 0 m).bankSwap c 0 Key.PT_SHADOW_READY Key.PT_ACTIVE Key.PT_SHADOW_CRC Key.PT_ACTIVE_CRC 0x31 7
  | none => s

/-- BANK_SWAP with SFU_PROGRAM set (R299): a check in progress restarts on the new shadow bank. -/
def bankSwapProgramOp (c : Nat) (s : State) : State :=
  match s.swapMark c 1 with
  | some m => (s.issueSwap c 1 m).bankSwap c 1 Key.SFU_SHADOW_READY Key.SFU_PROG_ACTIVE Key.SFU_SHADOW_CRC Key.SFU_ACTIVE_CRC 0x80 6
  | none => s

/-! ### Replays (R418 to R425) -/

/-- The open steps of a context at the plan frame in force, oldest first (R419). -/
def State.openNow (s : State) (c : Nat) : List OpenStep :=
  (s.ctx c).opens.filter (fun (o : OpenStep) => decide (o.first ≤ s.planFrame ∧ s.planFrame ≤ o.last + s.stepSlack c + 2))

/-- The first plan frame from the frame in force on at which a step of the context may begin (R421). -/
def State.replayFrame (s : State) (c : Nat) : Nat :=
  let base := s.get (Key.TT_FRAME_BASE c)
  let n := s.stepFrames c
  base + ceilDiv (s.planFrame - base) n * n

/-- The open steps `os` of a context abandoned at the abort boundary (R420, R458); the oldest, `o`, is to run again. -/
def State.abandonOpen (s : State) (c : Nat) (o : OpenStep) (os : List OpenStep) : State :=
  let p (st : Nat) : Bool := os.any (fun (y : OpenStep) => y.step == st)
  let s := (s.closeLedger c p).abandon c p
  let s := (List.range 16).foldl (fun s t => s.emitControl t [ctlEntry 3 c (min 255 (o.attempt + 1)) 0 0 o.step]) s
  let x := s.ctx c
  let counts := x.attempts.filter (fun (a : Nat × Nat) => !(p a.1)) ++ os.map (fun (y : OpenStep) => (y.step, y.attempt + 1))
  let s := s.setCtx c { x with opens := x.opens.filter (fun (y : OpenStep) => !(p y.step)), attempts := counts, progs := [] }
  { s with issuedCmds := s.issuedCmds.filter (fun (m : Nat × Nat) => m.1 != c) }

/-- The last of the steps that a replay from step `st` runs again (R425): of those just abandoned, the last of which is `last`, and
of those that an earlier replay still owes. -/
def Ctx.replayEnd (x : Ctx) (st last : Nat) : Nat :=
  let far (t : Nat) : Nat := (t + 2 ^ 48 - st) % 2 ^ 48
  match x.replayTo with
  | some t => if far last < far t then t else last
  | none => last

/-- ABORT_BOUNDARY (R419, R420, R421, R425): the step-replay notices of a context that are due take effect at the planned frame
in force. -/
def abortBoundaryOp (c : Nat) (s : State) : State :=
  let due (t : Nat × Notice) : Bool := t.2.kind == 3 && t.2.arg == c && decide (t.1 ≤ s.time.frame)
  if s.time.slipping || s.time.slipDue || !(s.targets.any due) then s else
  let s := { s with targets := s.targets.filter (fun (t : Nat × Notice) => !(due t)) }
  if !(s.runs c) || (s.ctx c).replay.isSome then s else
  match s.openNow c with
  | [] => s
  | o :: r =>
    let os := o :: r
    let stopping := (s.ctx c).faultStops.any (fun st => os.any (fun (y : OpenStep) => y.step == st))
    let last := ((os.getLast?).map (fun (y : OpenStep) => y.step)).getD o.step
    let limit : Ev :=
      { cls := Ec.overrun, det := 0x09, dom := 23, ctx := some c, step := some o.step, arg := s.frameInStep c <<< 16 }
    if stopping then (s.abandonOpen c o os).toLoaded c true
    else if s.get (Key.FLT_REPLAY_MAX c) < o.attempt + 1 then ((s.log limit).abandonOpen c o os).toLoaded c true
    else
      let s := s.abandonOpen c o os
      s.setCtx c { s.ctx c with replay := some (o.step, o.attempt + 1, s.replayFrame c), replayTo := some ((s.ctx c).replayEnd o.step last) }

/-- REPLAY_BEGIN (R421): the plan frame of a replay has come. -/
def replayBeginOp (c : Nat) (s : State) : State :=
  match (s.ctx c).replay with
  | some (st, _, f) =>
    if s.runs c && decide (f ≤ s.planFrame) && !s.time.slipping && !s.time.slipDue then
      ((s.setCtx c { s.ctx c with replay := none }).count (Key.FLT_REPLAY_COUNT c) 1).beginStep c st f |>.viewStep c
    else s
  | none => s

/-- STEP_SLACK_EXPIRY (R416): the slack of a step has passed with work of it outstanding. -/
def stepSlackExpiryOp (c st : Nat) (s : State) : State :=
  match (s.ctx c).opens.find? (fun (o : OpenStep) => o.step == st && !o.slack) with
  | none => s
  | some o =>
    if s.expired ((o.last + 1) * 2304) (s.stepSlack c) && s.outstanding c st then
      let x := s.ctx c
      let s := s.setCtx c { x with opens := x.opens.map (fun (y : OpenStep) => if y = o then { y with slack := true } else y) }
      (s.log { cls := Ec.overrun, det := 0x08, dom := 23, ctx := some c, step := some st, arg := s.frameInStep c <<< 16 }).replayStep c
    else s

/-- TT_LOAD_DONE. -/
def execTtLoadDone (ctx : Nat) (s : State) : Host.Outcome State Fault Refusal := .next (actFresh (ttLoadDoneOp ctx) s)
/-- UNLOAD_PATH_DONE. -/
def execUnloadPathDone (ctx : Nat) (s : State) : Host.Outcome State Fault Refusal := .next (actFresh (unloadPathDoneOp ctx) s)
/-- FIRST_STEP_BEGIN. -/
def execFirstStepBegin (ctx : Nat) (s : State) : Host.Outcome State Fault Refusal := .next (act (firstStepBeginOp ctx) s)
/-- STEP_END. -/
def execStepEnd (ctx : Nat) (s : State) : Host.Outcome State Fault Refusal := .next (act (stepEndOp ctx) s)
/-- FRAME_PROGRAM_FETCH. -/
def execFrameProgramFetch (ctx : Nat) (s : State) : Host.Outcome State Fault Refusal := .next (act (frameProgramFetchOp ctx) s)
/-- FRAME_PROGRAM_FETCHED. -/
def execFrameProgramFetched (ctx corrupt : Nat) (s : State) : Host.Outcome State Fault Refusal :=
  .next (actFresh (frameProgramFetchedOp ctx corrupt) s)
/-- BANK_SWAP_PLACEMENT. -/
def execBankSwapPlacement (ctx : Nat) (s : State) : Host.Outcome State Fault Refusal := .next (act (bankSwapPlacementOp ctx) s)
/-- BANK_SWAP_PROGRAM. -/
def execBankSwapProgram (ctx : Nat) (s : State) : Host.Outcome State Fault Refusal := .next (act (bankSwapProgramOp ctx) s)
/-- ABORT_BOUNDARY. -/
def execAbortBoundary (ctx : Nat) (s : State) : Host.Outcome State Fault Refusal := .next (actFresh (abortBoundaryOp ctx) s)
/-- REPLAY_BEGIN. -/
def execReplayBegin (ctx : Nat) (s : State) : Host.Outcome State Fault Refusal := .next (act (replayBeginOp ctx) s)
/-- STEP_SLACK_EXPIRY. -/
def execStepSlackExpiry (ctx step : Nat) (s : State) : Host.Outcome State Fault Refusal := .next (act (stepSlackExpiryOp ctx step) s)

end Sys2Proof.Machine
end

