-- ==== Sys2Proof/Machine/Frame.lean ====
section
/-! DEFINITION. The frame boundary (R169, R170): the frame that ends is accounted for (R180, R188, R200, R399, R437), and the
next one begins, a planned frame or a slip frame (R201). -/

namespace Sys2Proof.Machine

open Sys2Proof

/-! ### The frame that ends -/

/-- C_f of the running context with the highest PLAN_MHZ; 0 with none (R173, R200). -/
def State.frameCycles (s : State) : Nat :=
  ((List.range 8).map (fun c => if s.runs c then 9216 * s.planMhz c / 1000 else 0)).foldl max 0

/-- The cycles credited for TIME edges that slewing took from a frame (R200). -/
def State.slewCredit (s : State) : Nat := ceilDiv ((2304 - s.time.edges) * (rateAt s.rates s.time.edges).n) 5

/-- The deficit Δ after a frame that delivered `c` CORE cycles, to which the credit adds (R200). -/
def State.deficitAfter (s : State) (c : Nat) : Nat :=
  (if s.time.slipping then s.time.deficit else s.time.deficit + s.frameCycles) - (c + s.slewCredit)

/-- The deficit rule at the end of a frame (R200). -/
def State.takeDeficit (s : State) (c : Nat) : State :=
  let d := s.deficitAfter c
  let ask := !s.time.slipping && decide (0 < d) && s.time.deficitReq.isNone
  let s := { s with time := { s.time with deficit := d } }
  if ask then
    let t := s.noticeTarget
    let s := { s with time := { s.time with deficitReq := some t } }
    (s.log { cls := Ec.overrun, det := 0x02, dom := 23 }).requestSlip t
  else s

/-- Planned accesses of a bank port in the frame in force, over the contexts that ran in it (R180): `k` is twice the bank, plus 1
for writes. -/
def State.declaredLoad (s : State) (k : Nat) : Nat :=
  ((List.range 8).map (fun c => if s.runs c && !s.time.slipping then s.declaredBy c k else 0)).foldl (· + ·) 0 +
    ((s.obs.declared.filter (fun (e : Nat × Nat) => e.1 == k)).map (·.2)).foldl (· + ·) 0

/-- Bank accesses of the frame compared with what was declared (R180). -/
def State.checkLoads (s : State) : State :=
  let past := s.obs.loads.any (fun (e : Nat × Nat) => decide (s.declaredLoad e.1 < e.2))
  let s := { s with obs := { s.obs with loads := [], declared := [] } }
  if past then s.log { cls := Ec.overrun, det := 0x04, dom := 23 } else s

/-- Late outputs still incomplete (R188). -/
def State.stillLate (s : State) : Nat :=
  (s.lates.filter (fun (l : Late) => (s.sendReady l.ctx l.step l.x).isNone)).length +
  (s.lateTiles.filter (fun (t : LateTile) => !(s.tileSendReady t))).length +
  (s.lateOuts.filter (fun (o : LateOut) => !(s.outDone o.ctx o.step o.kind o.layer o.tile))).length + s.dru.waiting.length

/-- One further slip for each output that is still incomplete at the boundary (R188). -/
def State.lateSlips (s : State) : State :=
  let n := s.stillLate
  let s := { s with lateOuts := s.lateOuts.filter (fun (o : LateOut) => !(s.outDone o.ctx o.step o.kind o.layer o.tile)) }
  (List.range n).foldl (fun s _ => s.requestSlip s.noticeTarget) s

/-- Mask of the contexts in RUNNING, for the FRAME tap word (Table 18.6). -/
def State.runningMask (s : State) : Nat := ((List.range 8).map (fun c => if s.tt c = 4 then 2 ^ c else 0)).foldl (· + ·) 0

/-- CORE edges and below-floor windows of the frame reported (R399). -/
def State.reportClock (s : State) : State :=
  let w := frameWindows s.rates (s.time.edges + 1) 0 s.time.edges
  let s := s.put Key.CLK_EDGES_LAST w.1
  if w.2 then s.count Key.CLK_BELOW_FLOOR 1 else s

/-! ### The frame that begins -/

/-- The fabric frame in force becomes `f`, at its first edge, with the CORE rate carried over (R396, R398). -/
def State.nextFrame (s : State) (f : Nat) : State :=
  let r := match s.rates.getLast? with | some r => { r with start := 0 } | none => { start := 0, n := 40, floor := 20 }
  { s with
    rates := [r]
    issuedCmds := []
    time := { s.time with frame := f, edges := 0, slipping := false }
    meter := { s.meter with edgesSent := 0 } }

/-- Spans of steps that have ended (R419). -/
def State.pruneOpens (s : State) : State :=
  { s with ctxs := (List.range 8).map (fun c =>
      let x := s.ctx c
      { x with opens := x.opens.filter (fun (o : OpenStep) => decide (s.planFrame ≤ o.last + s.stepSlack c + 2)) }) }

/-- The frame is a slip frame if a slip notice is due (R201), else a planned one (R170). -/
def State.beginFrame (s : State) (f : Nat) : State :=
  let s := s.nextFrame f
  if (s.dueSlip f).isSome then { s with time := { s.time with slipDue := true } }
  else (s.put Key.TB_PLAN_FRAME (f - s.get Key.TB_SLIPS)).pruneOpens

/-- FRAME_BOUNDARY (R169). A slip frame whose SLIP is still to come begins before it ends. TICK_OUT keeps its reset value through
initialisation (R447). -/
def frameBoundaryOp (s : State) : State :=
  let f := s.time.frame + 1
  let s := (List.range 8).foldl State.keepGrads (if s.time.slipDue then slipOp s else s)
  let s := s.reachTick (2304 * f)
  let s := s.reportClock
  let c := s.get Key.CLK_EDGES_LAST
  let s := (((s.takeDeficit c).checkLoads).count64 Key.OBS_FRAMES 1).busyAll
  let s := s.copyView.flushTap c (0x7 <<< 60 ||| s.runningMask)
  let s := if s.phase = .initialising then s else s.emit .tick
  (s.beginFrame f).lateSlips

/-- FRAME_BOUNDARY. -/
def execFrameBoundary (s : State) : Host.Outcome State Fault Refusal := .next (actTime frameBoundaryOp s)

end Sys2Proof.Machine
end

