-- ==== Sys2Proof/Machine/Meter.lean ====
section
/-! DEFINITION. The Sealed Metering Partition (chapter 18, R437 to R446). -/

namespace Sys2Proof.Machine

open Sys2Proof

/-- METER_MS (R443): it counts in state 1 on the partition's TIME ticks. -/
def State.meterMs (s : State) : Nat :=
  if s.get Key.METER_STATE = 1 then s.meter.msBase + (s.time.ticks - s.meter.tickBase) / 250000 else s.meter.msBase

/-- A counter of the counter block: quantity `q`, context `c` (Table 18.11). -/
def meterKey (q c : Nat) : Nat := entryKey (0x7010 + q) (c + 1)

/-- The kinds of Table 18.9 that set METER. -/
def meterSets (k : Nat) : Bool := [0x02, 0x03, 0x04, 0x06, 0x07, 0x08].contains k

/-- An entry of the event log (R444). -/
def State.meterLog (s : State) (kind ctx a0 a1 : Nat) : State :=
  let n := s.get Key.METER_LOG_HEAD
  let e := le 4 n ++ le 1 kind ++ le 1 ctx ++ le 2 0 ++ le 8 s.meterMs ++ le 8 a0 ++ le 8 a1
  let s := (s.domPut Dom.METER_LOG (32 * (n % 1024)) e).put Key.METER_LOG_HEAD ((n + 1) % 2 ^ 32)
  if meterSets kind then s.routeEvent 2 else s

/-- The counter block of a context (Table 18.10). -/
def State.meterBlock (s : State) (c : Nat) : Bytes :=
  (List.range 7).flatMap (fun q => le 8 (s.get (meterKey q c))) ++ zeros 8

/-- The adopted PARAMS (Table 18.8). -/
def State.meterParams (s : State) : Bytes := s.domBytes Dom.METER_PARAMS 0 64

/-- The seal logged (Table 17.7). -/
def State.sealEv (s : State) (d : Nat) : State := s.log { cls := Ec.seal, det := d, dom := 24 }

/-- The report of a LATCH word (R445, Table 18.10). DESIGN CHOICE (log entry 49): while restoring, STATUS reads as METER_STATE does. -/
def State.meterReport (s : State) (id seq : Nat) : State :=
  let st := s.get Key.METER_STATE
  let s := if st = 1 then { s with meter := { s.meter with reportSeq := s.meter.reportSeq + 1 } } else s
  let mask := match s.obs.latch with | some l => if l.seq = seq then l.mask else 0 | none => 0
  let frame := match s.obs.latch with | some l => l.frame | none => 0
  let body := le 8 s.meter.reportSeq ++ le 4 seq ++ le 2 id ++ le 1 (if st = 1 then 0 else st) ++ le 1 mask ++
    le 8 s.build.serial.toNat ++ le 4 (s.get Key.METER_SEAL_COUNT) ++ le 4 (s.get Key.METER_KEY_ID) ++ sub s.build.fwHash 0 32 ++
    le 8 s.meterMs ++ le 8 frame ++ le 8 (s.get Key.METER_ENERGY_IDLE) ++ sub s.meterParams 0 8 ++
    (List.range 8).flatMap s.meterBlock
  let s := s.domPut Dom.METER_REPORT 0 (body ++ (if st = 1 then hmac s.meter.key body else zeros 32))
  if st = 3 then (s.sealEv 0x05).meterLog 0x08 0xFF seq 0 else s

/-- The refusals of the interval and the last REFUSED tap value set. -/
def State.setRefused (s : State) (n v : Nat) : State := { s with meter := { s.meter with refCount := n, refLast := v } }

/-- One tap word counted in state 1 (Table 18.7). -/
def State.meterCount (s : State) (w : Nat) : State :=
  let f := bits w 60 4
  let c := bits w 57 3
  let v := bits w 0 57
  if 1 ≤ f ∧ f ≤ 5 then s.count64 (meterKey (f - 1) c) v
  else if f = 6 then
    { s with meter := { s.meter with busy := Sparse.put s.meter.busy c ((Sparse.get? s.meter.busy c).getD 0 + v) } }
  else if f = 7 then (List.range 8).foldl (fun s c => if bit v c then s.count64 (meterKey 5 c) 1 else s) s
  else if f = 9 then
    let s := s.count Key.METER_WRITE_REFUSED 1
    s.setRefused (s.meter.refCount + 1) v
  else if f = 0xA then { s with meter := { s.meter with powerEdges := s.meter.powerEdges + v } }
  else s

/-- TAP_WORD (R437, R442, R445): the partition takes the oldest tap word. -/
def tapWordOp (s : State) : State :=
  match s.meter.tap with
  | [] => s
  | w :: r =>
    let s := { s with meter := { s.meter with tap := r } }
    let st := s.get Key.METER_STATE
    let v := w.toNat
    let s := if st = 1 then s.meterCount v
      else if st = 0 then { s with meter := { s.meter with held := s.meter.held ++ [w] } } else s
    if bits v 60 4 = 8 then s.meterReport (bits v 32 16) (bits v 0 32) else s

/-- A power word taken as the last one (R440): the busy cycles and the edges count from it. -/
def State.powerTaken (s : State) (e : Nat) : State :=
  { s with meter := { s.meter with power := some (e, s.meterMs), missing := false, busy := [], powerEdges := 0 } }

/-- The energy of an interval shared over the contexts by their busy cycles, the rest idle (R440). -/
def State.shareEnergy (s : State) (dE : Nat) : State :=
  let b := 13 * s.meter.powerEdges
  let share (c : Nat) : Nat := if b = 0 then 0 else dE * ((Sparse.get? s.meter.busy c).getD 0) / b
  let tot := ((List.range 8).map share).foldl (· + ·) 0
  let s1 := (List.range 8).foldl (fun (t : State) (c : Nat) => t.count64 (meterKey 6 c) (share c)) s
  s1.count64 Key.METER_ENERGY_IDLE (dE - tot)

/-- POWER_WORD (R440). -/
def powerWordOp (e : Nat) (s : State) : State :=
  if s.get Key.METER_STATE = 1 then
    match s.meter.power with
    | none => s.powerTaken e
    | some (p, at_) =>
      let dE := (e + 2 ^ 32 - p) % 2 ^ 32
      let t := s.meterMs - at_
      if dE > u s.meterParams 8 4 * t then (s.powerTaken e).meterLog 0x07 0xFF dE t
      else (s.shareEnergy dE).powerTaken e
  else s

/-- POWER_TIMEOUT (R440). -/
def powerTimeoutOp (s : State) : State :=
  let last := match s.meter.power with | some (_, t) => t | none => s.meter.msBase
  if s.get Key.METER_STATE = 1 && !s.meter.missing && decide (last + u s.meterParams 12 2 ≤ s.meterMs) then
    ({ s with meter := { s.meter with missing := true } }).meterLog 0x06 0xFF last 0
  else s

/-- A state record (R441) with PERSIST_SEQ `n`. -/
def State.stateRecord (s : State) (n : Nat) (quiet : Bool) : Bytes :=
  let body := le 4 0x32534D55 ++ le 4 (s.get Key.METER_SEAL_COUNT) ++ le 8 n ++ le 8 s.meterMs ++ le 4 (if quiet then 1 else 0) ++
    le 4 (s.get Key.METER_LOG_HEAD) ++ le 8 (s.get Key.METER_ENERGY_IDLE) ++ le 4 (s.get Key.METER_WRITE_REFUSED) ++ le 4 0 ++
    le 8 s.meter.reportSeq ++ le 8 0 ++ (List.range 8).flatMap s.meterBlock ++ s.domBytes Dom.METER_LOG 0 32768
  body ++ hmac s.meter.key body

/-- Every context STOPPED. -/
def State.allStopped (s : State) : Bool := (List.range 8).all (fun c => s.tt c == 0)

/-- A state record put on the store interface (R443, R466). -/
def State.persist (s : State) (mark : Nat) : State :=
  let n := s.get Key.METER_PERSIST_SEQ + 1
  let a := if n % 2 = 0 then 4096 else 40960
  let bs := s.stateRecord n s.meter.quiet
  let s := s.emit (.nvRecord a bs)
  { s with meter := { s.meter with
    inFlight := some { seq := n, quiet := s.meter.quiet, slot := a, bytes := bs, mark := mark }, quiet := s.allStopped } }

/-- WRITE_REFUSED of an interval that ends, where writes were refused in it (R444, Table 18.9). -/
def State.logRefused (s : State) : State :=
  if s.meter.refCount = 0 then s
  else (s.meterLog 0x05 0xFF s.meter.refCount s.meter.refLast).setRefused 0 0

/-- METER_PERSIST (R443): a multiple of 1,000 METER_MS has come. -/
def meterPersistOp (s : State) : State :=
  let m := s.meterMs / 1000 * 1000
  if s.get Key.METER_STATE = 1 && decide (s.meter.mark < m) then
    let s := s.logRefused
    let s := { s with meter := { s.meter with mark := m } }
    if s.meter.inFlight.isSome then { s with meter := { s.meter with owed := true } } else s.persist m
  else s

/-- NV_DONE (R443): the record is durable; a record owed goes out now. -/
def nvDoneOp (s : State) : State :=
  match s.meter.inFlight with
  | none => s
  | some w =>
    let s := { s with
      env := { s.env with nv := Mem.write s.env.nv w.slot w.bytes }
      meter := { s.meter with inFlight := none } }
    let s := (s.put Key.METER_PERSIST_SEQ w.seq).put Key.METER_PERSIST_FLAGS (if w.quiet then 1 else 0)
    if s.meter.owed then ({ s with meter := { s.meter with owed := false } }).persist s.meter.mark else s

/-- PERSIST_ACK_TIMEOUT (R443). -/
def persistAckTimeoutOp (s : State) : State :=
  match s.meter.inFlight with
  | some w =>
    if !w.late && decide (w.mark + 1000 ≤ s.meterMs) then
      let s := { s with meter := { s.meter with inFlight := some { w with late := true } } }
      (s.sealEv 0x04).meterLog 0x04 0xFF w.mark (s.get Key.METER_PERSIST_SEQ)
    else s
  | none => s

/-- Bytes of the non-volatile store. -/
def State.nvBytes (s : State) (a n : Nat) : Bytes := Mem.read (fun i => Config.hostUnwritten s.free (2 ^ 64 + i)) s.env.nv a n

/-- The configuration record checks (R442 step 2). -/
def State.configOk (s : State) (r : Bytes) : Bool :=
  u r 0 4 == 0x314D5355 && hmac s.meter.key (sub r 0 224) == sub r 224 32 && sub r 72 32 == sub s.build.fwHash 0 32 &&
  decide (1 ≤ u r 16 4 ∧ u r 16 4 ≤ 4000000 ∧ 2 ≤ u r 20 2 ∧ u r 20 2 ≤ 1000) && allZero (sub r 22 50) && allZero (sub r 104 120)

/-- A state slot checks (R442 step 3). -/
def State.slotOk (s : State) (r : Bytes) : Bool :=
  u r 0 4 == 0x32534D55 && hmac s.meter.key (sub r 0 33344) == sub r 33344 32

/-- The counters of a state record taken. -/
def State.takeRecord (s : State) (r : Bytes) : State :=
  let s := (s.put Key.METER_PERSIST_SEQ (u r 8 8)).put Key.METER_PERSIST_FLAGS (u r 24 1 % 2)
  let s := (s.put Key.METER_LOG_HEAD (u r 28 4)).put Key.METER_ENERGY_IDLE (u r 32 8)
  let s := s.put Key.METER_WRITE_REFUSED (u r 40 4)
  let s := (List.range 8).foldl (fun s c =>
    (List.range 7).foldl (fun s q => s.put (meterKey q c) (u r (64 + 64 * c + 8 * q) 8)) s) s
  let s := s.domPut Dom.METER_LOG 0 (sub r 576 32768)
  { s with meter := { s.meter with reportSeq := u r 48 8, msBase := u r 16 8 } }

/-- A seal failure (R442): SEAL_FAIL with what failed and the seal count read. -/
def State.sealFail (s : State) (what count : Nat) : State :=
  let s := (s.sealEv 0x02).meterLog 0x03 0xFF what count
  ({ s with meter := { s.meter with held := [] } }).put Key.METER_STATE 2

/-- METER_RESTORE (R442). -/
def meterRestoreOp (s : State) : State :=
  if s.build.partition && s.phase == .running && s.get Key.METER_STATE == 0 then
    if allZero s.meter.key then ({ s with meter := { s.meter with held := [] } }).put Key.METER_STATE 3
    else
      let s := (s.put Key.METER_KEY_ID (u (sha256 s.meter.key) 0 4)).emit (.nvRead 0 256)
      let cfg := s.nvBytes 0 256
      let count := u cfg 4 4
      if !(s.configOk cfg) then s.sealFail 0x01 count
      else
        let s := (s.emit (.nvRead 4096 33376)).emit (.nvRead 40960 33376)
        let slots := [s.nvBytes 4096 33376, s.nvBytes 40960 33376]
        let good := slots.filter s.slotOk
        let s := if good.length < 2 then s.sealEv 0x03 else s
        let best := good.foldl (fun (b : Option Bytes) r => match b with
          | some x => if u x 8 8 < u r 8 8 then some r else b
          | none => some r) none
        let adopt (s : State) : State := (s.domPut Dom.METER_PARAMS 0 (sub cfg 8 64)).put Key.METER_SEAL_COUNT count
        let change (s : State) : State := s.meterLog 0x02 0xFF count (crc32c (sub cfg 8 64))
        let finish (s : State) (seq : Nat) : State :=
          let s := s.meterLog 0x01 0xFF count seq
          let held := s.meter.held
          let s := { s with meter := { s.meter with held := [], tickBase := s.time.ticks, mark := s.meter.msBase / 1000 * 1000,
                                                    quiet := s.allStopped } }
          held.foldl (fun s w => s.meterCount w.toNat) (s.put Key.METER_STATE 1)
        match best with
        | none =>
          let s := adopt s
          finish (if count = 1 then change s else s.meterLog 0x04 0xFF (2 ^ 64 - 1) 0) 0
        | some r =>
          let old := u r 4 4
          if count = old || count = old + 1 then
            let s := adopt (s.takeRecord r)
            let s := if count = old then s else change s
            let s := if u r 24 1 % 2 = 1 then s else
              let s := s.meterLog 0x04 0xFF (u r 16 8) (u r 8 8)
              { s with meter := { s.meter with msBase := s.meter.msBase + 1000 } }
            finish s (u r 8 8)
          else s.sealFail 0x02 count
  else s

/-- TAP_WORD. -/
def execTapWord (s : State) : Host.Outcome State Fault Refusal := .next (actTime tapWordOp s)
/-- POWER_WORD. -/
def execPowerWord (energy : U32) (s : State) : Host.Outcome State Fault Refusal := .next (actTime (powerWordOp energy.toNat) s)
/-- POWER_TIMEOUT. -/
def execPowerTimeout (s : State) : Host.Outcome State Fault Refusal := .next (actTime powerTimeoutOp s)
/-- METER_PERSIST. -/
def execMeterPersist (s : State) : Host.Outcome State Fault Refusal := .next (actTime meterPersistOp s)
/-- NV_DONE. -/
def execNvDone (s : State) : Host.Outcome State Fault Refusal := .next (actTime nvDoneOp s)
/-- PERSIST_ACK_TIMEOUT. -/
def execPersistAckTimeout (s : State) : Host.Outcome State Fault Refusal := .next (actTime persistAckTimeoutOp s)
/-- METER_RESTORE. -/
def execMeterRestore (s : State) : Host.Outcome State Fault Refusal := .next (actTime (fun s => meterRestoreOp s.fresh) s)

end Sys2Proof.Machine
end

