-- ==== Sys2Proof/Machine/Dict.lean ====
section
/-! DEFINITION. The object dictionary (chapter 15): what a read of an entry returns, what a write of it does, and the checks of
a transaction (R369 to R381). -/

namespace Sys2Proof.Machine

open Sys2Proof

/-! ### Entries -/

/-- Type codes' lengths (Table 15.1). The length of PQ_READ is that of the packet at READ of the transport's queue (Table 9.8). -/
def State.entryLen (s : State) (tr : Transport) (k : Nat) (e : Entry) : Nat :=
  if k = Dom.PQ_READ then
    let q := s.get (trKey tr Key.PQ_SELECT)
    if pqKind (s.pqDesc q) = 0 then 0 else 128 * (s.pqHeadLen q).getD 0
  else e.len

/-- The entry that an index and subindex name on this engine: 0x7000 to 0x77FF only with the partition (R381). -/
def State.entry (s : State) (idx sub : Nat) : Option Entry :=
  if 0x7000 ≤ idx ∧ idx ≤ 0x77FF ∧ !s.build.partition then none else entryAt idx sub

/-- The context that a per-context entry belongs to: subindex c + 1 (R371). -/
def entryCtx (idx sub : Nat) : Option Nat :=
  let per (a b : Nat) : Bool := decide (a ≤ idx ∧ idx ≤ b)
  if 1 ≤ sub ∧ sub ≤ 8 && (per 0x4100 0x4108 || per 0x5010 0x5014 || per 0x6004 0x602B || per 0x7010 0x7016 ||
      per 0x7800 0x7808 || per 0x8004 0x8007) then some (sub - 1) else none

/-- The clock domain of the unit whose chapter defines an entry, for the entry's own refusals (Tables 1.5 and 15.13). -/
def entryDom (idx : Nat) : Nat :=
  if 0x2200 = idx then 20
  else if 0x3000 ≤ idx ∧ idx ≤ 0x3002 then 7
  else if 0x4000 ≤ idx ∧ idx ≤ 0x4108 then 23
  else if 0x5000 ≤ idx ∧ idx ≤ 0x5103 then 12
  else if 0x5800 ≤ idx ∧ idx ≤ 0x5802 then 11
  else if 0x5C00 ≤ idx ∧ idx ≤ 0x5C05 then 6
  else if 0x6800 ≤ idx ∧ idx ≤ 0x6802 then 17
  else if 0x6810 ≤ idx ∧ idx ≤ 0x6814 then 18
  else if 0x7800 ≤ idx ∧ idx ≤ 0x7811 then 21
  else 19

/-! ### Reads (R378, R379) -/

/-- CLK_RATE_NOW (Table 16.2). -/
def State.rateNow (s : State) : Nat :=
  let r := rateAt s.rates s.time.edges
  (if r.n < r.floor then 0x80 else 0) ||| r.n

/-- CLE_COORD (Table 12.6). -/
def State.ownCoord (s : State) : Nat :=
  s.coord s.node 0 ||| s.coord s.node 1 <<< 16 ||| s.coord s.node 2 <<< 32 ||| s.coord s.node 3 <<< 48

/-- A state word of the copy or job starts (Tables 10.6 and 11.8). -/
def Starts.word (x : Starts) : Nat :=
  x.queue.length <<< 24 ||| (match x.running with | some r => 1 <<< 20 ||| r.idx | none => 0)

/-- Scalars of which each transport keeps its own copy (R246, R258, R284, R303, R330, R355, R367). -/
def ownCopies : List Nat :=
  [Key.POOL_ALLOC_RESULT, Key.PQ_SELECT, Key.PRESS_RESULT, Key.SFU_RESULT, Key.CLE_RESULT, Key.FEP_RESULT, Key.CVU_RESULT]

/-- The live value of a scalar (R379). -/
def State.liveScalar (s : State) (tr : Transport) (k : Nat) : Nat :=
  if k = Key.TB_TICK then s.tick
  else if k = Key.TB_FRAME then s.frame
  else if k = Key.ID_REVISION then s.build.revision.toNat
  else if k = Key.ID_OPTIONS then (if s.build.partition then 1 else 0)
  else if k = Key.ID_SERIAL then s.build.serial.toNat
  else if k = Key.CLK_FLOOR then (rateAt s.rates s.time.edges).floor
  else if k = Key.CLK_RATE_NOW then s.rateNow
  else if k / 256 = 0x2100 then s.cause (k % 256 - 1)
  else if k = Key.INT_LEVEL then s.intLevels
  else if k = Key.PRESS_COPY_STATE then s.press.word
  else if k = Key.SFU_JOB_STATE then s.sfu.word
  else if k = Key.CLE_COORD then s.ownCoord
  else if k = Key.FEP_STATE then s.fepState
  else if k = Key.CVU_SCAN_STATE then s.scanState
  else if k = Key.METER_MS then s.meterMs
  else if ownCopies.contains k then s.get (trKey tr k)
  else s.get k

/-- What a read of a scalar returns, under R372: a frame-view entry from the frame view (R378), any other live (R379). -/
def State.readScalar (s : State) (tr : Transport) (idx sub : Nat) (e : Entry) : Nat :=
  let k := entryKey idx sub
  (if frameView k then (Sparse.read regDefault s.view k).toNat else s.liveScalar tr k) % 2 ^ (8 * e.len)

/-- `n` bytes of PQ_STATE (Table 9.9) from offset `o`. -/
def State.pqStateBytes (s : State) (o n : Nat) : Bytes :=
  let q := o / 16
  Machine.sub ((List.range (n / 16 + 2)).flatMap (fun i => le 16 (s.pqState (q + i)))) (o - 16 * q) n

/-- `n` bytes from offset `o` of a DOMAIN entry as a read returns them. -/
def State.readDomain (s : State) (tr : Transport) (k o n : Nat) : Bytes :=
  if k = Dom.PQ_STATE then s.pqStateBytes o n
  else if k = Dom.PQ_READ then Machine.sub (s.pqHead (s.get (trKey tr Key.PQ_SELECT))) o n
  else if k = Dom.SFU_COEF then Machine.sub sfuCoef o n
  else if k = Dom.METER_FW_HASH then Machine.sub s.build.fwHash o n
  else if k = Dom.SNAP_SET0 ∨ k = Dom.SNAP_SET1 then Mem.read domDefault s.viewDom (k * domSpan + o) n
  else s.domBytes k o n

/-! ### Writes of scalars -/

/-- A refusal of detail `d` of EC_DESC_RANGE. -/
def refusedRange (d : Nat) (c : Option Nat) : Refused := { cls := Ec.descRange, det := d, ctx := c, idx := 0 }

/-- A result register of a table write or a start: item and outcome (R271, R282). -/
def State.putResult (s : State) (tr : Transport) (k item table : Nat) (r : Option Refused) : State :=
  s.put (trKey tr k) (item <<< (if k = Key.FEP_RESULT then 16 else 20) ||| table <<< 19 |||
    (match r with | some x => x.cls <<< 8 ||| x.det | none => 0))

/-- Refusals counted for the context they name (PRESS_DESC_REFUSED, SFU_JOB_REFUSED). -/
def State.countRefused (s : State) (k : Nat → Nat) (r : Option Refused) : State :=
  match r with
  | some x => match x.ctx with | some c => s.count (k c) 1 | none => s
  | none => s

/-- PRESS_RESULT and PRESS_DESC_REFUSED after a write of a Press table or a copy start. -/
def State.pressResult (tr : Transport) (item table : Nat) (x : State × Option Refused) : State × Option Refused :=
  ((x.1.putResult tr Key.PRESS_RESULT ((match x.2 with | some r => r.idx | none => item) % 4096) table x.2).countRefused
    Key.PRESS_DESC_REFUSED x.2, x.2)

/-- SFU_RESULT and SFU_JOB_REFUSED after a write of the job table or a job start. -/
def State.sfuResult (tr : Transport) (item : Nat) (x : State × Option Refused) : State × Option Refused :=
  ((x.1.putResult tr Key.SFU_RESULT ((match x.2 with | some r => r.idx | none => item) % 4096) 0 x.2).countRefused
    Key.SFU_JOB_REFUSED x.2, x.2)

/-- Another unit's result register after a write. -/
def State.unitResult (tr : Transport) (k item : Nat) (x : State × Option Refused) : State × Option Refused :=
  (x.1.putResult tr k (match x.2 with | some r => r.idx | none => item) 0 x.2, x.2)

/-- The queue a transport selects may be consumed through it (R258). -/
def State.hostQueue (s : State) (tr : Transport) : Option Nat :=
  let q := s.get (trKey tr Key.PQ_SELECT)
  let d := s.pqDesc q
  if pqKind d ≠ 0 && pqConsumer d = 0 then some q else none

/-- An operation on the queue a transport selects (R258). -/
def State.queueOp (s : State) (tr : Transport) (f : State → Nat → State) : State × Option Refused :=
  match s.hostQueue tr with
  | some q => (f s q, none)
  | none => (s, some (refusedRange 0x61 none))

/-- A free by the host (R247, R248). -/
def State.hostFree (s : State) (v : Nat) : State × Option Refused :=
  let c := bits v 61 3
  match s.freeCheck true c (bits v 0 61) with
  | .ok (k, i) => (s.freeBuffer k i, none)
  | .error (k, d) => (s.count (Key.POOL_FREE_REFUSED c) 1, some { cls := k, det := d, ctx := some c, idx := 0 })

/-- A write of RST_IDLE_SWAP (R409). -/
def State.idleSwaps (s : State) (v : Nat) : State × Option Refused :=
  let p := bit v 0
  let g := bit v 1
  if v > 3 || !s.allStopped || (p && s.get Key.PT_SHADOW_READY = 0) || (g && s.get Key.SFU_SHADOW_READY = 0) then
    (s, some (refusedRange 0xD1 none))
  else
    let s := if p then s.idleSwap 0 Key.PT_SHADOW_READY Key.PT_ACTIVE Key.PT_SHADOW_CRC Key.PT_ACTIVE_CRC else s
    let s := if g then s.idleSwap 1 Key.SFU_SHADOW_READY Key.SFU_PROG_ACTIVE Key.SFU_SHADOW_CRC Key.SFU_ACTIVE_CRC else s
    (s, none)

/-- A write of FAB_SHAPE (R306): VALID of every group entry is cleared. -/
def State.shapeWrite (s : State) (v : Nat) : State :=
  ((s.put Key.FAB_SHAPE v).listedEntries Dom.CLE_GROUPS 32).foldl (fun s g => s.clearValid Dom.CLE_GROUPS 32 g 255)
    (s.put Key.FAB_SHAPE v)

/-- A ring's base or length written: its pointers return to 0 (R232, R436). -/
def State.ringReset (s : State) (k v head tail : Nat) : State := ((s.put k v).put head 0).put tail 0

/-- A ring's TAIL written: a multiple of `n` below the length (R232). -/
def State.tailWrite (s : State) (k v len n : Nat) (c : Option Nat) : State × Option Refused :=
  if v % n = 0 && decide (v < s.get len) then (s.put k v, none) else (s, some (refusedRange 0x50 c))

/-- Keys of a group of per-context counters whose first index is `i`, up to `j` (the ..._COUNT_CLEAR entries). -/
def counterKeys (i j : Nat) : List (Nat → Nat) := (List.range (j + 1 - i)).map (fun n c => entryKey (i + n) (c + 1))

/-- The counters that a ..._COUNT_CLEAR entry clears, by its key. -/
def clearedBy (k : Nat) : Option (List (Nat → Nat)) :=
  if k = Key.SEL_COUNT_CLEAR then some (counterKeys 0x6004 0x6007)
  else if k = Key.CRD_COUNT_CLEAR then some (counterKeys 0x6008 0x600B)
  else if k = Key.EXC_COUNT_CLEAR then some (counterKeys 0x600C 0x600F)
  else if k = Key.BWD_COUNT_CLEAR then some (counterKeys 0x6010 0x6013)
  else if k = Key.TT_COUNT_CLEAR then some (counterKeys 0x6014 0x6016)
  else if k = Key.POOL_PQ_COUNT_CLEAR then some (counterKeys 0x6017 0x601A)
  else if k = Key.PRESS_COUNT_CLEAR then some (counterKeys 0x601B 0x601D)
  else if k = Key.SFU_COUNT_CLEAR then some (counterKeys 0x601E 0x6020)
  else if k = Key.CLE_COUNT_CLEAR then some (counterKeys 0x6021 0x6024)
  else if k = Key.FEP_COUNT_CLEAR then some (counterKeys 0x6025 0x6028)
  else if k = Key.CVU_COUNT_CLEAR then some (counterKeys 0x6029 0x602B)
  else none

/-- A write of a per-context scalar: context `c`, index `i`. -/
def State.writeCtx (s : State) (i c v : Nat) : State × Option Refused :=
  let k := entryKey i (c + 1)
  if i = 0x4101 then (ttImageAddrOp c v s, none)
  else if i = 0x4105 then
    (if v = 1 then ttLoadOp c s else if v = 2 then ttStartOp c s else if v = 3 then ttStopOp c s
     else if v = 4 then ttUnloadOp c s else s, none)
  else if i = 0x7801 ∨ i = 0x7802 then (s.ringReset k v (Key.DRU_RING_HEAD c) (Key.DRU_RING_TAIL c), none)
  else if i = 0x7804 then s.tailWrite k v (Key.DRU_RING_LEN c) 64 (some c)
  else if (i = 0x8004 ∧ 15 < v) ∨ (i = 0x8006 ∧ v % 4096 ≠ 0) ∨ (i = 0x8007 ∧ v % 64 ≠ 0) then (s, some (refusedRange 0xE0 (some c)))
  else (s.put k v, none)

/-- A write of a scalar of chapters 15 and 16: interrupts, field network, clocks and reset. -/
def State.writeControl (s : State) (k v : Nat) : State × Option Refused :=
  if k / 256 = 0x2100 then ((s.put k (s.get k - (s.get k &&& v))).syncInts, none)
  else if k / 256 = 0x2010 then
    if bit v 6 || v % 64 < 20 || 40 < v % 64 then (s, some (refusedRange 0xD0 none)) else ((s.put k v).setRate, none)
  else if k = Key.RST_IDLE_SWAP then s.idleSwaps v
  else if k = Key.RST_CONTROL then (s, none)
  else if k = Key.COM_HEARTBEAT then ({ s.put k v with field := { s.field with beat := s.ms } }, none)
  else (s.put k v, none)

/-- A write of a scalar of the units' chapters. -/
def State.writeUnit (s : State) (tr : Transport) (k v : Nat) : State × Option Refused :=
  if k = Key.CVU_MISMATCH_PEND then ((s.put k (s.get k - (s.get k &&& v))).syncInts, none)
  else if k = Key.CVU_INJECT then (cvuInjectOp v s, none)
  else if k = Key.PT_CHECK_START then (if v = 1 then ptCheckStartOp s else s, none)
  else if k = Key.SFU_CHECK_START then (if v = 1 then { s with sfuCheck := true } else s, none)
  else if k = Key.TB_PARENT then
    if v < 48 ∨ v = 0x3E ∨ v = 0x3F then (s.put k v, none) else (s, some (refusedRange 0x41 none))
  else if k = Key.TB_CONTROL then (if v = 1 then tbStartOp s else s, none)
  else if k = Key.POOL_CONTROL then (if v = 1 then poolInitialiseOp s else if v = 2 then poolSetLowOp s else s, none)
  else if k = Key.POOL_ALLOC_REQ then (poolAllocReqOp tr v s, none)
  else if k = Key.POOL_FREE_REQ then s.hostFree v
  else if k = Key.PQ_SELECT then
    if v < 512 then (s.put (trKey tr k) v, none) else (s, some (refusedRange 0x61 none))
  else if k = Key.PQ_MARK then (if v = 1 then s.queueOp tr State.pqMark else (s, none))
  else if k = Key.PQ_REWIND then (if v = 1 then s.queueOp tr State.pqRewind else (s, none))
  else if k = Key.PQ_RELEASE then (if v = 1 then s.queueOp tr State.pqRelease else (s, none))
  else if k = Key.PRESS_COPY_START then State.pressResult tr v 1 (s.copyStart v)
  else if k = Key.SFU_JOB_START then State.sfuResult tr v (s.jobStart v)
  else if k = Key.FAB_SHAPE then (s.shapeWrite v, none)
  else if k = Key.FEP_START then State.unitResult tr Key.FEP_RESULT v (s.fepStart v)
  else if k = Key.FEP_INVAL then (fepInvalOp v s, none)
  else (s.put k v, none)

/-- A write of a scalar of chapters 8, 17 and 18: rings, logs, observation. -/
def State.writeObs (s : State) (k v : Nat) : State × Option Refused :=
  if k = Key.NUM_NONFINITE_CLEAR then (if v = 1 then numNonfiniteClearOp s else s, none)
  else if k = Key.OBS_COUNT_CLEAR then (if v = 1 then obsCountClearOp s else s, none)
  else if k = Key.FLT_LOG_CLEAR then (if v = 1 then fltLogClearOp s else s, none)
  else if k = Key.SNAP_LOCK then (if v = 0 ∨ v = 1 ∨ v = 0xFF then s.put k v else s, none)
  else if k = Key.SNAP_CONTROL then (snapControlOp v s, none)
  else if k = Key.TRC_CONTROL then (trcControlOp v s, none)
  else if k = Key.TRC_BASE ∨ k = Key.TRC_LEN then (s.ringReset k v Key.TRC_HEAD Key.TRC_TAIL, none)
  else if k = Key.TRC_TAIL then s.tailWrite k v Key.TRC_LEN 32 none
  else if k = Key.RPL_CONTROL then (rplControlOp v s, none)
  else if k = Key.RPL_BASE ∨ k = Key.RPL_LEN then (s.ringReset k v Key.RPL_HEAD Key.RPL_TAIL, none)
  else if k = Key.RPL_TAIL then s.tailWrite k v Key.RPL_LEN 32 none
  else match clearedBy k with
    | some ks => (s.clearCounts ks v, none)
    | none => (s.put k v, none)

/-- A write of a scalar that has passed checks 1 to 7 of Table 15.4: its own checks and its effect. -/
def State.writeScalar (s : State) (tr : Transport) (idx sub v : Nat) : State × Option Refused :=
  let k := entryKey idx sub
  match entryCtx idx sub with
  | some c => s.writeCtx idx c v
  | none =>
    if idx < 0x2200 then s.writeControl k v
    else if idx < 0x6000 ∨ (0x6800 ≤ idx ∧ idx < 0x7000) then s.writeUnit tr k v
    else s.writeObs k v

/-! ### Writes of DOMAIN entries -/

/-- A group entry written with VALID set obeys R309. -/
def State.groupCheck (s : State) (e : Nat) : Option (Nat × Nat) :=
  let ok (a : Nat) : Bool :=
    let b := gpBlock e a
    let t := gpStride e a
    decide (1 ≤ b ∧ b ≤ 16384 ∧ 1 ≤ t ∧ t ≤ 16384) && s.axis a % (b * t) == 0
  if bits e 128 120 = 0 && (List.range 4).all ok then none else some (Ec.descRange, 0x92)

/-- A write of CLE_GROUPS (R309). -/
def State.groupsWrite (s : State) (o : Nat) (bs : Bytes) : State × Option Refused :=
  tableWrite Dom.CLE_GROUPS 32 0x90 0x91 gpOwner gpValid State.groupCheck (fun s _ _ => s) o bs s

/-- Descriptors `a` to `b - 1` were written: a context in LOADED that has latched one of them takes the unload path (R275). -/
def State.unlatch (s : State) (a b : Nat) : State :=
  (List.range 8).foldl (fun s c =>
    match (s.ctx c).image with
    | some i => if i.latched.any (fun (d : Nat × Bytes) => decide (a ≤ d.1 ∧ d.1 < b)) then ttUnloadOp c s else s
    | none => s) s

/-- A write of PRESS_DESC with what it does beside the table (R271, R275). -/
def State.descriptorsWrite (s : State) (tr : Transport) (o : Nat) (bs : Bytes) : State × Option Refused :=
  let x := s.pressDescWrite o bs
  let last := match x.2 with | some r => r.idx | none => (o + bs.length) / 64
  State.pressResult tr (o / 64) 0 (x.1.unlatch (o / 64) last, x.2)

/-- Bits of a W1C DOMAIN entry cleared (Table 15.2). -/
def clearOnes : Bytes → Bytes → Bytes
  | a :: r, b :: t => (a &&& ~~~b) :: clearOnes r t
  | r, [] => r
  | [], _ => []

/-- A write of bytes `bs`, not empty, at offset `o` of a DOMAIN entry that has passed checks 1 to 7 of Table 15.4. -/
def State.writeDomain (s : State) (tr : Transport) (k o : Nat) (bs : Bytes) : State × Option Refused :=
  if k = Dom.PT_BANK0 then s.ptBankWrite 0 o bs
  else if k = Dom.PT_BANK1 then s.ptBankWrite 1 o bs
  else if k = Dom.SFU_BANK0 then s.sfuBankWrite 0 o bs
  else if k = Dom.SFU_BANK1 then s.sfuBankWrite 1 o bs
  else if k = Dom.PQ_DESC then
    if s.pqDescRefused o bs then (s, some { refusedRange 0x60 none with idx := o / 16 }) else ((s.pqDescWrite o bs).syncInts, none)
  else if k = Dom.PQ_LEVEL_CAUSE then
    ((s.domPut k o (clearOnes (s.domBytes k o bs.length) bs)).syncInts, none)
  else if k = Dom.PRESS_DESC then s.descriptorsWrite tr o bs
  else if k = Dom.PRESS_COPY_TABLE then State.pressResult tr (o / 16) 1 (s.copyTableWrite o bs)
  else if k = Dom.SFU_JOB_TABLE then State.sfuResult tr (o / 16) (s.jobTableWrite o bs)
  else if k = Dom.CLE_GROUPS then State.unitResult tr Key.CLE_RESULT (o / 32) (s.groupsWrite o bs)
  else if k = Dom.FEP_WINDOWS then State.unitResult tr Key.FEP_RESULT (o / 32) (s.fepWindowsWrite o bs)
  else if k = Dom.FEP_ROUTE then State.unitResult tr Key.FEP_RESULT (o / 2) (s.fepRouteWrite o bs)
  else if k = Dom.FEP_REQ_TABLE then State.unitResult tr Key.FEP_RESULT (o / 64) (s.fepTableWrite o bs)
  else if k = Dom.CVU_SCAN_REQ then
    State.unitResult tr Key.CVU_RESULT 0 (s.scanRequest (Machine.sub (zeros o ++ bs) 0 32))
  else (s.domPut k o bs, none)

/-- A COMMIT of length 0 (R374): only a bank's role can refuse it, and nothing else follows. -/
def State.writeNothing (s : State) (k : Nat) : Option Refused :=
  if k = Dom.PT_BANK0 then (s.ptBankWrite 0 0 []).2
  else if k = Dom.PT_BANK1 then (s.ptBankWrite 1 0 []).2
  else if k = Dom.SFU_BANK0 then (s.sfuBankWrite 0 0 []).2
  else if k = Dom.SFU_BANK1 then (s.sfuBankWrite 1 0 []).2
  else none

/-! ### Checks 1 to 7 (Table 15.4) -/

/-- A request to the dictionary (Tables 15.6 and 15.10). `bad` is set where a reserved field is not zero. -/
structure DictReq where
  tr : Transport
  op : Nat
  bad : Bool := false
  tid : Nat := 0
  idx : Nat := 0
  sub : Nat := 0
  count : Nat := 0
  offset : Nat := 0
  length : Nat := 0
  value : Nat := 0
  sels : List Selector := []
deriving DecidableEq, Repr

/-- Operations that write (R377). -/
def DictReq.writes (r : DictReq) : Bool := r.op == 2 || r.op == 4

/-- The entries a request names, as index and subindex. -/
def DictReq.names (r : DictReq) : List (Nat × Nat) :=
  if r.op = 5 then (r.sels.take r.count).map (fun (x : Selector) => (x.idx, x.sub)) else [(r.idx, r.sub)]

/-- A selector lies within its fields. -/
def selFormed (x : Selector) : Bool := x.low == 0 && decide (x.idx < 65536 ∧ x.sub < 256)

/-- Check 1 but for the selectors of a list. -/
def DictReq.headFormed (r : DictReq) : Bool :=
  let ops : List Nat := match r.tr with | .cp => [1, 2, 3, 4, 5, 6] | .can => [1, 2, 3, 4, 5, 6, 0x10, 0x11]
  let most : Nat := match r.tr with | .cp => 63 | .can => 12
  !r.bad && ops.contains r.op && decide (r.idx < 65536 ∧ r.sub < 256 ∧ r.offset < 2 ^ 32 ∧ r.length < 2 ^ 32 ∧ r.value < 2 ^ 64) &&
  decide (r.tid < 256) && decide (r.count ≤ most)

/-- Check 1. -/
def DictReq.formed (r : DictReq) : Bool := r.headFormed && (r.sels.take r.count).all selFormed

/-- The list position that a failure of check 1 names: that of the first selector that fails it (R375). -/
def DictReq.badSel (r : DictReq) : Nat := if r.headFormed then (r.sels.take r.count).findIdx (fun x => !(selFormed x)) else 0

/-- Check 3 for one entry: the class and detail of its refusal. -/
def accessFault (op : Nat) (e : Entry) : Option (Nat × Nat) :=
  if (op = 2 ∨ op = 4) ∧ e.acc = 6 then some (Ec.seal, 0x01)
  else if ((op = 2 ∨ op = 4) ∧ e.acc = 1) ∨ ((op = 1 ∨ op = 3 ∨ op = 5) ∧ e.acc = 3) ∨ (op = 5 ∧ e.isDomain) then
    some (Ec.descRange, 0xC1)
  else none

/-- Values that an entry's table allows beside its type (R372). DEDUCED (log entry 26): where it says "a multiple of", other values are outside
its range; the entries whose chapter checks the value later (POOL_...) or by a code of its own are not here. -/
def rangeOk (k v : Nat) : Bool :=
  let i := k / 256
  if k = Key.COM_CAN_DATA_RATE then v ≤ 4
  else if k = Key.ENG_NODE then v ≤ 16383
  else if k = Key.TB_BACKUP then v ≤ 0x30
  else if i = 0x4103 then v < 2 ^ 48
  else if i = 0x4104 then v ≤ 7
  else if i = 0x7801 ∨ i = 0x7802 ∨ i = 0x7805 then v % 4096 == 0
  else if k = Key.RPL_BASE ∨ k = Key.RPL_LEN ∨ k = Key.TRC_BASE ∨ k = Key.TRC_LEN then v % 4096 == 0
  else if k = Key.RPL_PORT ∨ k = Key.TRC_PORT then v ≤ 3
  else if k = Key.CLE_REDUCE_BASE then v % 16777216 == 0 && decide (v < 134217728)
  else if k = Key.FAB_SHAPE then (List.range 4).all (fun a => decide (1 ≤ bits v (16 * a) 16 ∧ bits v (16 * a) 16 ≤ 16384))
  else true

/-- Check 6. -/
def valueOk (k v : Nat) (e : Entry) : Bool :=
  decide (v < 2 ^ (8 * e.len)) && (e.ty != 1 || decide (v ≤ 1)) && rangeOk k v

/-- A context is in STOPPED or LOADED. -/
def State.atRest (s : State) (c : Nat) : Bool := s.tt c == 0 || s.tt c == 2

/-- Check 7: the state rule of an RWS entry (R371), the pools' rule (R237), and no rule here where an entry's own chapter states
one (R252, R284, R303, R330). -/
def State.stateOk (s : State) (idx sub : Nat) (e : Entry) : Bool :=
  if e.acc ≠ 4 then true
  else if [0x5100, 0x5800, 0x5801, 0x5C04, 0x6801].contains idx then true
  else if 0x5000 ≤ idx ∧ idx ≤ 0x5004 then s.allStopped
  else match entryCtx idx sub with
    | some c => s.atRest c
    | none => (List.range 8).all s.atRest

/-- A failed check: class, detail, list position, context. -/
structure DictFail where
  cls : Nat
  det : Nat
  pos : Nat := 0
  ctx : Option Nat := none
deriving DecidableEq, Repr, Inhabited

/-- The first list position, with its entry's fault, where `f` finds one. -/
def firstAt {α β : Type} (f : α → Option β) : Nat → List α → Option (Nat × α × β)
  | _, [] => none
  | n, x :: r => match f x with
    | some b => some (n, x, b)
    | none => firstAt f (n + 1) r

/-- Checks 4 to 7 of a request that names one entry. -/
def State.oneCheck (s : State) (r : DictReq) (e : Entry) : Option Nat :=
  let k := entryKey r.idx r.sub
  if ((r.op = 1 ∨ r.op = 2) ∧ e.isDomain) ∨
     ((r.op = 3 ∨ r.op = 4) ∧ (!e.isDomain ∨ s.entryLen r.tr k e < r.offset + r.length)) then some 0xC3
  else if (r.op = 3 ∨ r.op = 4) ∧ 4096 < r.length then some 0xC4
  else if r.op = 2 ∧ !(valueOk k r.value e) then some 0xC5
  else if r.writes ∧ !(s.stateOk r.idx r.sub e) then some 0xC2
  else none

/-- Checks 1 to 7 of Table 15.4, stopped at the first failure (R375). -/
def State.dictCheck (s : State) (r : DictReq) : Option DictFail :=
  let range (d : Nat) : DictFail := { cls := Ec.descRange, det := d }
  if !r.formed then some { range 0xC6 with pos := r.badSel }
  else match firstAt (fun (n : Nat × Nat) => if (s.entry n.1 n.2).isNone then some () else none) 0 r.names with
    | some (p, _) => some { range 0xC0 with pos := p }
    | none =>
      match firstAt (fun (n : Nat × Nat) => (s.entry n.1 n.2).bind (accessFault r.op)) 0 r.names with
      | some (p, n, cd) => some { cls := cd.1, det := cd.2, pos := p, ctx := entryCtx n.1 n.2 }
      | none =>
        if r.op = 5 then (if 32 < r.count then some (range 0xC4) else none)
        else match s.entry r.idx r.sub with
          | none => none
          | some e => (s.oneCheck r e).map (fun d => { range d with ctx := entryCtx r.idx r.sub })

/-! ### Transactions (R374 to R377) -/

/-- A transport's port. -/
def State.tport (s : State) (tr : Transport) : Port := match tr with | .cp => s.cp | .can => s.can
/-- A transport's port replaced. -/
def State.setTport (s : State) (tr : Transport) (p : Port) : State :=
  match tr with | .cp => { s with cp := p } | .can => { s with can := p }

/-- Bytes of a transfer buffer: zero after reset (R374). -/
def bufBytes (b : List (Nat × Byte)) (o n : Nat) : Bytes := Mem.read (fun _ => 0) b o n
/-- Bytes put into a transfer buffer. -/
def bufPut (b : List (Nat × Byte)) (o : Nat) (bs : Bytes) : List (Nat × Byte) := Mem.writeDflt (fun _ => 0) b o bs

/-- Bytes put into a transport's read buffer. -/
def State.putRead (s : State) (tr : Transport) (bs : Bytes) : State :=
  let p := s.tport tr
  s.setTport tr { p with rbuf := bufPut p.rbuf 0 bs }

/-- Bytes put into a transport's write buffer; what would lie past it is left out. -/
def State.putWrite (s : State) (tr : Transport) (o : Nat) (bs : Bytes) : State :=
  let p := s.tport tr
  s.setTport tr { p with wbuf := bufPut p.wbuf o (bs.take (4096 - o)) }

/-- The bytes a COMMIT carries. -/
def State.commitBytes (s : State) (r : DictReq) : Bytes := bufBytes (s.tport r.tr).wbuf 0 (min 4096 r.length)

/-- The bit of ARG0 that names a transport (Table 8.8). -/
def trCode (tr : Transport) : Nat := match tr with | .cp => 0 | .can => 1

/-- The DICT_WRITE entry of a write transaction (R377, Table 8.8). -/
def State.recordWrite (s : State) (r : DictReq) (refused : Bool) : State :=
  let head := r.idx <<< 48 ||| r.sub <<< 40 ||| trCode r.tr <<< 38 ||| (if refused then 1 <<< 37 else 0)
  if r.op = 2 then s.rpl 0x03 none 0 false head r.value
  else if r.op = 4 then s.rpl 0x03 none 0 false (head ||| r.offset % 2 ^ 37) (r.length <<< 32 ||| crc32c (s.commitBytes r))
  else s

/-- A refusal logged and counted (R375, R377). -/
def State.noteRefusal (s : State) (tr : Transport) (e : Ev) : State :=
  (s.log e).count (match tr with | .cp => Key.DICT_REFUSED_CP | .can => Key.DICT_REFUSED_CAN) 1

/-- ARG of a refusal (Table 17.6). -/
def refusalArg (r : DictReq) (cls item : Nat) : Nat :=
  if cls = Ec.bankActive then r.offset % 2 ^ 32
  else if cls = Ec.poolRange ∨ cls = Ec.poolAlign then r.value % 2 ^ 32
  else if cls = Ec.seal then 0
  else (item % 65536) <<< 16 ||| r.idx % 65536

/-- The event of a transaction that a check of Table 15.4's rows 1 to 7 refuses: the Control and Dictionary Unit raises it. -/
def DictFail.ev (f : DictFail) (r : DictReq) : Ev :=
  { cls := f.cls, det := f.det, dom := 19, ctx := f.ctx, arg := refusalArg r f.cls 0 }

/-- The event of a transaction that its entry's own checks refuse (row 8): the entry's unit raises it. -/
def Refused.ev (x : Refused) (r : DictReq) : Ev :=
  { cls := x.cls, det := x.det, dom := entryDom r.idx, ctx := x.ctx, node := x.node, arg := refusalArg r x.cls x.idx }

/-- The REFUSED tap word of a write under R381 (Table 18.6). -/
def State.tapRefused (s : State) (r : DictReq) : State :=
  let w : U64 := BitVec.ofNat 64 (9 <<< 60 ||| trCode r.tr <<< 24 ||| r.idx <<< 8 ||| r.sub)
  { s with meter := { s.meter with tap := s.meter.tap ++ [w] } }

/-- A transaction as it completes. -/
def DictReq.txn (r : DictReq) : Txn := { op := r.op, tid := r.tid, idx := r.idx, sub := r.sub }

/-- A transaction refused by rows 1 to 7. -/
def State.failTxn (s : State) (r : DictReq) (f : DictFail) : State × Txn :=
  let s := s.recordWrite r true
  let s := if f.cls = Ec.seal then s.tapRefused r else s
  (s.noteRefusal r.tr (f.ev r), { r.txn with code := f.cls, detail := f.det, pos := f.pos })

/-- Entries whose write is itself the cause of other log entries of its cycle: its own stands before theirs (R230). The write
of every other entry is recorded as the rings stand after it. -/
def recordsFirst (idx : Nat) : Bool := [0x2018, 0x4105, 0x5005, 0x5006].contains idx

/-- The effect of a write transaction that has passed rows 1 to 7, with its own checks. -/
def State.applyWrite (s : State) (r : DictReq) : State × Option Refused :=
  if r.op = 2 then s.writeScalar r.tr r.idx r.sub r.value
  else if r.length = 0 then (s, s.writeNothing (entryKey r.idx r.sub))
  else s.writeDomain r.tr (entryKey r.idx r.sub) r.offset (s.commitBytes r)

/-- A write transaction that has passed rows 1 to 7. -/
def State.writeTxn (s : State) (r : DictReq) : State × Txn :=
  let early := r.op == 2 && recordsFirst r.idx
  let s := if early then s.recordWrite r (s.applyWrite r).2.isSome else s
  let x := s.applyWrite r
  let s := if early then x.1 else x.1.recordWrite r x.2.isSome
  match x.2 with
  | some f => (s.noteRefusal r.tr (f.ev r), { r.txn with code := f.cls, detail := f.det })
  | none =>
    let t := r.txn
    let k := entryKey r.idx r.sub
    (s, if r.op = 2 && k = Key.RST_CONTROL then { t with warm := r.value == 0xA55A }
        else if r.op = 2 && k = Key.COM_CAN_DATA_RATE then { t with rate := some r.value } else t)

/-- A CAPTURE that has passed rows 1 to 7. A read of PQ_READ takes the packet (R258). -/
def State.captureTxn (s : State) (r : DictReq) : State × Txn :=
  let k := entryKey r.idx r.sub
  if k = Dom.PQ_READ then
    match s.hostQueue r.tr with
    | none =>
      let f := refusedRange 0x61 none
      (s.noteRefusal r.tr (f.ev r), { r.txn with code := f.cls, detail := f.det })
    | some q =>
      let t := s.putRead r.tr (s.readDomain r.tr k r.offset r.length)
      (if r.length = 0 then t else t.pqAdvance q, r.txn)
  else (s.putRead r.tr (s.readDomain r.tr k r.offset r.length), r.txn)

/-- The values that a LIST_READ returns, 8 B each. -/
def State.listBytes (s : State) (tr : Transport) (names : List (Nat × Nat)) : Bytes :=
  names.flatMap (fun (n : Nat × Nat) => le 8 (match s.entry n.1 n.2 with | some e => s.readScalar tr n.1 n.2 e | none => 0))

/-- A transaction taken: accepted or refused whole, now (R374). -/
def State.runTxn (s : State) (r : DictReq) : State × Txn :=
  match s.dictCheck r with
  | some f => s.failTxn r f
  | none =>
    if r.writes then s.writeTxn r
    else if r.op = 3 then s.captureTxn r
    else if r.op = 5 then (s.putRead r.tr (s.listBytes r.tr r.names), r.txn)
    else match s.entry r.idx r.sub with
      | none => (s, r.txn)
      | some e =>
        if r.op = 1 then
          let v := s.readScalar r.tr r.idx r.sub e
          (s, { r.txn with value := some (BitVec.ofNat 64 v), tail := zeros 8 ++ le 8 v })
        else
          let n := s.entryLen r.tr (entryKey r.idx r.sub) e
          (s, { r.txn with
            value := some (BitVec.ofNat 64 (n <<< 32 ||| e.acc <<< 8 ||| e.ty))
            tail := le 1 e.ty ++ le 1 e.acc ++ zeros 2 ++ le 4 n })

end Sys2Proof.Machine
end

