-- ==== Sys2Proof/Machine/HostCmds.lean ====
section
/-! DEFINITION. The host's commands: the transactions of the two transports as they start and complete (R382 to R388), and the
writes of entries that the command table names for themselves. -/

namespace Sys2Proof.Machine

open Sys2Proof

/-! ### The transports -/

/-- A request that arrives while its transport still has a transaction in progress (R375, R384, R388): refused with 0xC7, and
the running transaction stands. -/
def State.overlapped (s : State) (r : DictReq) : State :=
  s.noteRefusal r.tr { cls := Ec.descRange, det := 0xC7, dom := 19, arg := r.idx % 65536 }

/-- A write of CP_REQ (R383, R384). -/
def State.cpRequest (s : State) (r : DictReq) : State :=
  match s.cp.busy with
  | some _ => { s.overlapped r with win := { s.win with overlap := true } }
  | none =>
    let x := s.runTxn r
    { x.1 with cp := { x.1.cp with busy := some x.2 } }

/-- The bytes of a response (Table 15.10). -/
def Txn.response (x : Txn) : Bytes :=
  le 1 (x.op + 0x80) ++ le 1 x.tid ++ le 2 x.idx ++ le 1 x.sub ++ le 1 x.code ++ le 1 x.detail ++ le 1 x.pos ++ x.tail

/-- The smallest CAN FD data length that holds `n` bytes (R387). -/
def canLen (n : Nat) : Nat := (([8, 12, 16, 20, 24, 32, 48, 64].find? (fun l => decide (n ≤ l))).getD 64)

/-- A message padded to its frame (R387). -/
def canPad (bs : Bytes) : Bytes := Machine.sub bs 0 (canLen bs.length)

/-- RBUF_READ or WBUF_WRITE (R387): a refusal is in the response only. -/
def State.bufferTxn (s : State) (r : DictReq) (data : Bytes) : State × Txn :=
  let fail (d : Nat) : Txn := { r.txn with code := Ec.descRange, detail := d }
  if !r.formed then (s, fail 0xC6)
  else if r.length = 0 ∨ 48 < r.length ∨ 4096 < r.offset + r.length then (s, fail 0xC4)
  else if r.op = 0x10 then (s, { r.txn with tail := zeros 8 ++ bufBytes s.can.rbuf r.offset r.length })
  else (s.putWrite .can r.offset (Machine.sub data 0 r.length), r.txn)

/-- A request frame (R385 to R388). -/
def State.canRequest (s : State) (r : DictReq) (data : Bytes) : State :=
  if !s.canSends then s else
  let s := s.canHeard
  let buffer := r.op == 0x10 || r.op == 0x11
  match s.can.busy with
  | some _ =>
    let s := if buffer then s else s.overlapped r
    let x : Txn := { r.txn with code := Ec.descRange, detail := 0xC7 }
    { s with field := { s.field with waiting := s.field.waiting ++ [x.response] } }
  | none =>
    let x := if buffer then s.bufferTxn r data else s.runTxn r
    { x.1 with can := { x.1.can with busy := some x.2 } }

/-- A request frame's payload (Table 15.10). -/
def DictReq.ofPayload (bs : Bytes) : DictReq :=
  let op := u bs 0 1
  let n := u bs 5 1
  { tr := .can, op := op, bad := u bs 6 2 != 0 || (op != 5 && n != 0), tid := u bs 1 1, idx := u bs 2 2, sub := u bs 4 1, count := n,
    offset := u bs 8 4, length := u bs 12 4, value := u bs 16 8,
    sels := (List.range 12).map (fun j => { idx := u bs (16 + 4 * j) 2, sub := u bs (18 + 4 * j) 1, low := u bs (19 + 4 * j) 1 }) }

/-- A request frame with its payload (R387). One shorter than 16 bytes is refused if it holds its first two, its other fields being
bytes that the spec gives no value for, and ignored if not. -/
def State.canPayload (s : State) (bs : Bytes) : State :=
  if 16 ≤ bs.length then s.canRequest (DictReq.ofPayload bs) (bs.drop 16)
  else if 2 ≤ bs.length then
    s.canRequest { DictReq.ofPayload (bs ++ (List.range (16 - bs.length)).map (Config.openRead s.free)) with bad := true } []
  else if s.canSends then s.canHeard
  else s

/-- A request on its transport. -/
def State.request (s : State) (r : DictReq) : State :=
  match r.tr with
  | .cp => s.cpRequest r
  | .can => s.canRequest r []

/-- CP_ARG written. -/
def State.putArg (s : State) (v : Nat) : State := { s with win := { s.win with arg := BitVec.ofNat 64 v } }

/-- CP_LIST selector `j` written. -/
def State.putSel (s : State) (j : Nat) (v : U64) : State :=
  { s with win := { s.win with list := Sparse.put s.win.list j v } }

/-- A selector's location of CP_LIST (Table 15.5). -/
def selWord (x : Selector) : Nat := x.idx <<< 48 ||| x.sub <<< 40 ||| x.low

/-- CP_LIST as selectors. -/
def State.listSels (s : State) : List Selector :=
  (List.range 32).map (fun j =>
    let v := ((Sparse.get? s.win.list j).getD 0).toNat
    ({ idx := bits v 48 16, sub := bits v 40 8, low := bits v 0 40 } : Selector))

/-- A write of CP_REQ (Table 15.6). -/
def State.reqWord (s : State) (v : Nat) : State :=
  let op := bits v 56 8
  let n := bits v 0 6
  let a := s.win.arg.toNat
  let r : DictReq :=
    { tr := .cp, op := op, bad := bits v 6 26 != 0 || (op != 5 && n != 0), idx := bits v 40 16, sub := bits v 32 8, count := n,
      offset := if op = 3 ∨ op = 4 then bits a 32 32 else 0, length := if op = 3 ∨ op = 4 then bits a 0 32 else 0,
      value := if op = 2 then a else 0, sels := s.listSels }
  s.cpRequest r

/-! ### The operations -/

/-- READ_SCALAR (R374). -/
def readScalarOp (tr : Transport) (rsv tid idx sub : Nat) (s : State) : State :=
  s.request { tr := tr, op := 1, bad := rsv != 0, tid := tid, idx := idx, sub := sub }

/-- WRITE_SCALAR (R374). On the Control Port the host writes CP_ARG first. -/
def writeScalarOp (tr : Transport) (rsv tid idx sub value : Nat) (s : State) : State :=
  (match tr with | .cp => s.putArg value | .can => s).request
    { tr := tr, op := 2, bad := rsv != 0, tid := tid, idx := idx, sub := sub, value := value }

/-- CP_ARG of a CAPTURE or COMMIT (Table 15.6). -/
def State.putSpan (s : State) (tr : Transport) (offset length : Nat) : State :=
  match tr with | .cp => s.putArg (offset <<< 32 ||| length) | .can => s

/-- CAPTURE (R374). -/
def captureOp (tr : Transport) (rsv tid idx sub offset length : Nat) (s : State) : State :=
  (s.putSpan tr offset length).request
    { tr := tr, op := 3, bad := rsv != 0, tid := tid, idx := idx, sub := sub, offset := offset, length := length }

/-- COMMIT (R374). -/
def commitOp (tr : Transport) (rsv tid idx sub offset length : Nat) (s : State) : State :=
  (s.putSpan tr offset length).request
    { tr := tr, op := 4, bad := rsv != 0, tid := tid, idx := idx, sub := sub, offset := offset, length := length }

/-- LIST_READ (R374). On the Control Port the host writes CP_LIST first, selectors 0 to 31. -/
def listReadOp (tr : Transport) (rsv tid count : Nat) (sels : List Selector) (s : State) : State :=
  match tr with
  | .cp =>
    let s := (List.range (min 32 sels.length)).foldl (fun s j => s.putSel j (BitVec.ofNat 64 (selWord (nth sels j { idx := 0, sub := 0 })))) s
    s.cpRequest { tr := .cp, op := 5, bad := rsv != 0, tid := tid, count := count, sels := s.listSels }
  | .can => s.canRequest { tr := .can, op := 5, bad := rsv != 0, tid := tid, count := count, sels := sels } []

/-- DESCRIBE (R374). -/
def describeOp (tr : Transport) (rsv tid idx sub : Nat) (s : State) : State :=
  s.request { tr := tr, op := 6, bad := rsv != 0, tid := tid, idx := idx, sub := sub }

/-- RBUF_READ (R387). -/
def rbufReadOp (rsv tid offset length : Nat) (s : State) : State :=
  s.canRequest { tr := .can, op := 0x10, bad := rsv != 0, tid := tid, offset := offset, length := length } []

/-- WBUF_WRITE (R387). -/
def wbufWriteOp (rsv tid offset length : Nat) (data : Bytes) (s : State) : State :=
  s.canRequest { tr := .can, op := 0x11, bad := rsv != 0, tid := tid, offset := offset, length := length } data

/-- CP_RESP (Table 15.7): DONE is 0 while a transaction, internal initialisation or a warm reset runs. -/
def State.cpResp (s : State) : Nat :=
  let w := s.win
  (if s.cp.busy.isNone && s.live then 1 <<< 63 else 0) ||| (if w.overlap then 1 <<< 62 else 0) ||| w.seq <<< 24 ||| w.pos <<< 16 |||
    w.code <<< 8 ||| w.detail

/-- What a read of the window at offset `a` returns (R382, Table 15.5). -/
def State.windowRead (s : State) (a : Nat) : Nat :=
  if a = 0 then s.win.arg.toNat
  else if a = 0x8 then unle ((List.range 8).map (Config.openRead s.free))
  else if a = 0x10 then s.cpResp
  else if a = 0x18 then s.win.value.toNat
  else if 0x100 ≤ a ∧ a < 0x200 then ((Sparse.get? s.win.list ((a - 0x100) / 8)).getD 0).toNat
  else if 0x1000 ≤ a ∧ a < 0x2000 then unle (bufBytes s.cp.rbuf (a - 0x1000) 8)
  else if 0x2000 ≤ a ∧ a < 0x3000 then unle (bufBytes s.cp.wbuf (a - 0x2000) 8)
  else 0

/-- A read access of the window (R382, R464): CP_ADDR holds bits [19:3] of the offset. -/
def State.readAccess (s : State) (o : Nat) : State := s.emit (.cpData (BitVec.ofNat 64 (s.windowRead (bits o 3 17 * 8))))

/-- CP_RESP_READ (R383): OVERLAP is cleared by reading CP_RESP. -/
def cpRespReadOp (o : Nat) (s : State) : State :=
  if bits o 3 17 = 2 then { s.readAccess o with win := { s.win with overlap := false } } else s.fresh.readAccess o

/-- TRANSACTION_COMPLETE on the Control Port (R384): CP_VALUE and CP_RESP hold their new contents as DONE rises. -/
def State.cpComplete (s : State) (x : Txn) : State :=
  let w := { s.win with
    value := x.value.getD s.win.value, seq := (s.win.seq + 1) % 256, pos := x.pos, code := x.code, detail := x.detail }
  ({ s with win := w, cp := { s.cp with busy := none } }).afterTxn x

/-- TRANSACTION_COMPLETE on the field network (R388): the response leaves, then those of requests refused meanwhile. -/
def State.canComplete (s : State) (x : Txn) : State :=
  let late := s.field.waiting
  let s := { s with can := { s.can with busy := none }, field := { s.field with waiting := [] } }
  ((x.response :: late).foldl (fun s bs => s.canSent (s.canId 0x5) (canPad bs)) s).afterTxn x

/-- TRANSACTION_COMPLETE (R384, R388). -/
def transactionCompleteOp (tr : Transport) (s : State) : State :=
  match (s.tport tr).busy with
  | none => s
  | some x => match tr with | .cp => s.cpComplete x | .can => s.canComplete x

/-! ### Writes through a transport -/

/-- A host write of one scalar. -/
def hostScalar (tr : Transport) (idx sub value : Nat) (s : State) : State := writeScalarOp tr 0 0 idx sub value s

/-- A host write of DOMAIN bytes: the write buffer filled from byte 0, then one COMMIT. The field network's buffer is not filled
while a request of it is handled. -/
def hostCommit (tr : Transport) (idx sub offset : Nat) (data : Bytes) (s : State) : State :=
  let fill := match tr with | .cp => true | .can => s.canSends && s.can.busy.isNone
  commitOp tr 0 0 idx sub offset data.length (if fill then s.putWrite tr 0 data else s)

/-- REGISTER_WRITE to the Control Port window (Table 15.5). -/
def State.windowWrite (s : State) (l : Location) (v : U64) : State :=
  match l with
  | .cpArg => s.putArg v.toNat
  | .cpList j => if j < 32 then s.putSel j v else s
  | .cpWbuf o => if o % 8 = 0 ∧ o < 4096 then s.putWrite .cp o (le 8 v.toNat) else s
  | .cpOther o => if o = 8 ∧ s.live then s.reqWord v.toNat else s
  | .entry tr tid idx sub => if s.live then writeScalarOp tr 0 tid idx sub v.toNat s else s
  | .canFrame bs => if s.live then s.canPayload bs else s

/-- The effect of a host command that may read memory: a byte nothing has written reads as a fresh free value. During internal
initialisation and a warm reset requests are ignored (R401, R403). -/
def hosted (f : State → State) (s : State) : Host.Outcome State Fault Refusal := .next (actFresh f s)

/-! ### Meanings -/

/-- READ_SCALAR. -/
def execReadScalar (tr : Transport) (rsv tid idx sub : Nat) (s : State) : Host.Outcome State Fault Refusal :=
  hosted (readScalarOp tr rsv tid idx sub) s
/-- WRITE_SCALAR. -/
def execWriteScalar (tr : Transport) (rsv tid idx sub : Nat) (value : U64) (s : State) : Host.Outcome State Fault Refusal :=
  hosted (writeScalarOp tr rsv tid idx sub value.toNat) s
/-- CAPTURE. -/
def execCapture (tr : Transport) (rsv tid idx sub offset length : Nat) (s : State) : Host.Outcome State Fault Refusal :=
  hosted (captureOp tr rsv tid idx sub offset length) s
/-- COMMIT. -/
def execCommit (tr : Transport) (rsv tid idx sub offset length : Nat) (s : State) : Host.Outcome State Fault Refusal :=
  hosted (commitOp tr rsv tid idx sub offset length) s
/-- LIST_READ. -/
def execListRead (tr : Transport) (rsv tid count : Nat) (sels : List Selector) (s : State) : Host.Outcome State Fault Refusal :=
  hosted (listReadOp tr rsv tid count sels) s
/-- DESCRIBE. -/
def execDescribe (tr : Transport) (rsv tid idx sub : Nat) (s : State) : Host.Outcome State Fault Refusal :=
  hosted (describeOp tr rsv tid idx sub) s
/-- RBUF_READ. -/
def execRbufRead (rsv tid offset length : Nat) (s : State) : Host.Outcome State Fault Refusal :=
  hosted (rbufReadOp rsv tid offset length) s
/-- WBUF_WRITE. -/
def execWbufWrite (rsv tid offset length : Nat) (data : Bytes) (s : State) : Host.Outcome State Fault Refusal :=
  hosted (wbufWriteOp rsv tid offset length data) s
/-- CP_RESP_READ. -/
def execCpRespRead (s : State) : Host.Outcome State Fault Refusal := .next (actTime (cpRespReadOp s.env.cpAddr) s)
/-- REGISTER_WRITE. -/
def execRegisterWrite (target : Location) (value : U64) (s : State) : Host.Outcome State Fault Refusal :=
  .next (actTime (fun s => s.fresh.windowWrite target value) s)
/-- TRANSACTION_COMPLETE. -/
def execTransactionComplete (tr : Transport) (s : State) : Host.Outcome State Fault Refusal := hosted (transactionCompleteOp tr) s

/-- POOL_INITIALISE. -/
def execPoolInitialise (tr : Transport) (s : State) : Host.Outcome State Fault Refusal :=
  hosted (hostScalar tr 0x5005 0x01 1) s
/-- POOL_SET_LOW. -/
def execPoolSetLow (tr : Transport) (s : State) : Host.Outcome State Fault Refusal :=
  hosted (hostScalar tr 0x5005 0x01 2) s
/-- POOL_ALLOC_REQ. -/
def execPoolAllocReq (tr : Transport) (value : U64) (s : State) : Host.Outcome State Fault Refusal :=
  hosted (hostScalar tr 0x5006 0x01 value.toNat) s
/-- POOL_FREE_REQ. -/
def execPoolFreeReq (tr : Transport) (value : U64) (s : State) : Host.Outcome State Fault Refusal :=
  hosted (hostScalar tr 0x5006 0x03 value.toNat) s
/-- PQ_MARK. -/
def execPqMark (tr : Transport) (s : State) : Host.Outcome State Fault Refusal :=
  hosted (hostScalar tr 0x5102 0x03 1) s
/-- PQ_REWIND. -/
def execPqRewind (tr : Transport) (s : State) : Host.Outcome State Fault Refusal :=
  hosted (hostScalar tr 0x5102 0x04 1) s
/-- PQ_RELEASE. -/
def execPqRelease (tr : Transport) (s : State) : Host.Outcome State Fault Refusal :=
  hosted (hostScalar tr 0x5102 0x05 1) s
/-- PRESS_COPY_START. -/
def execPressCopyStart (tr : Transport) (value : U64) (s : State) : Host.Outcome State Fault Refusal :=
  hosted (hostScalar tr 0x5802 0x02 value.toNat) s
/-- SFU_CHECK_START. -/
def execSfuCheckStart (tr : Transport) (s : State) : Host.Outcome State Fault Refusal :=
  hosted (hostScalar tr 0x5C00 0x02 1) s
/-- SFU_JOB_START. -/
def execSfuJobStart (tr : Transport) (value : U64) (s : State) : Host.Outcome State Fault Refusal :=
  hosted (hostScalar tr 0x5C05 0x01 value.toNat) s
/-- PT_CHECK_START. -/
def execPtCheckStart (tr : Transport) (s : State) : Host.Outcome State Fault Refusal :=
  hosted (hostScalar tr 0x3000 0x02 1) s
/-- FAB_SHAPE_WRITE. -/
def execFabShapeWrite (tr : Transport) (value : U64) (s : State) : Host.Outcome State Fault Refusal :=
  hosted (hostScalar tr 0x6800 0x01 value.toNat) s
/-- FEP_START. -/
def execFepStart (tr : Transport) (value : U64) (s : State) : Host.Outcome State Fault Refusal :=
  hosted (hostScalar tr 0x6813 0x01 value.toNat) s
/-- FEP_INVAL. -/
def execFepInval (tr : Transport) (value : U64) (s : State) : Host.Outcome State Fault Refusal :=
  hosted (hostScalar tr 0x6813 0x04 value.toNat) s
/-- CVU_INJECT. -/
def execCvuInject (tr : Transport) (value : U64) (s : State) : Host.Outcome State Fault Refusal :=
  hosted (hostScalar tr 0x2200 0x06 value.toNat) s
/-- TT_LOAD. -/
def execTtLoad (tr : Transport) (ctx : Nat) (s : State) : Host.Outcome State Fault Refusal :=
  hosted (hostScalar tr 0x4105 (ctx + 1) 1) s
/-- TT_START. -/
def execTtStart (tr : Transport) (ctx : Nat) (s : State) : Host.Outcome State Fault Refusal :=
  hosted (hostScalar tr 0x4105 (ctx + 1) 2) s
/-- TT_STOP. -/
def execTtStop (tr : Transport) (ctx : Nat) (s : State) : Host.Outcome State Fault Refusal :=
  hosted (hostScalar tr 0x4105 (ctx + 1) 3) s
/-- TT_UNLOAD. -/
def execTtUnload (tr : Transport) (ctx : Nat) (s : State) : Host.Outcome State Fault Refusal :=
  hosted (hostScalar tr 0x4105 (ctx + 1) 4) s
/-- TT_IMAGE_ADDR_WRITE. -/
def execTtImageAddrWrite (tr : Transport) (ctx : Nat) (value : U64) (s : State) : Host.Outcome State Fault Refusal :=
  hosted (hostScalar tr 0x4101 (ctx + 1) value.toNat) s
/-- TB_START. -/
def execTbStart (tr : Transport) (s : State) : Host.Outcome State Fault Refusal :=
  hosted (hostScalar tr 0x4000 0x0A 1) s
/-- RST_CONTROL_WARM. -/
def execRstControlWarm (tr : Transport) (s : State) : Host.Outcome State Fault Refusal :=
  hosted (hostScalar tr 0x2018 0x02 0xA55A) s
/-- RST_IDLE_SWAP_PLACEMENT. -/
def execRstIdleSwapPlacement (tr : Transport) (s : State) : Host.Outcome State Fault Refusal :=
  hosted (hostScalar tr 0x2018 0x04 1) s
/-- RST_IDLE_SWAP_PROGRAM. -/
def execRstIdleSwapProgram (tr : Transport) (s : State) : Host.Outcome State Fault Refusal :=
  hosted (hostScalar tr 0x2018 0x04 2) s
/-- NUM_NONFINITE_CLEAR. -/
def execNumNonfiniteClear (tr : Transport) (s : State) : Host.Outcome State Fault Refusal :=
  hosted (hostScalar tr 0x6002 0x03 1) s
/-- SEL_COUNT_CLEAR. -/
def execSelCountClear (tr : Transport) (value : U64) (s : State) : Host.Outcome State Fault Refusal :=
  hosted (hostScalar tr 0x6004 0x09 value.toNat) s
/-- CRD_COUNT_CLEAR. -/
def execCrdCountClear (tr : Transport) (value : U64) (s : State) : Host.Outcome State Fault Refusal :=
  hosted (hostScalar tr 0x6008 0x09 value.toNat) s
/-- EXC_COUNT_CLEAR. -/
def execExcCountClear (tr : Transport) (value : U64) (s : State) : Host.Outcome State Fault Refusal :=
  hosted (hostScalar tr 0x600C 0x09 value.toNat) s
/-- BWD_COUNT_CLEAR. -/
def execBwdCountClear (tr : Transport) (value : U64) (s : State) : Host.Outcome State Fault Refusal :=
  hosted (hostScalar tr 0x6010 0x09 value.toNat) s
/-- TT_COUNT_CLEAR. -/
def execTtCountClear (tr : Transport) (value : U64) (s : State) : Host.Outcome State Fault Refusal :=
  hosted (hostScalar tr 0x6014 0x09 value.toNat) s
/-- POOL_PQ_COUNT_CLEAR. -/
def execPoolPqCountClear (tr : Transport) (value : U64) (s : State) : Host.Outcome State Fault Refusal :=
  hosted (hostScalar tr 0x6017 0x09 value.toNat) s
/-- PRESS_COUNT_CLEAR. -/
def execPressCountClear (tr : Transport) (value : U64) (s : State) : Host.Outcome State Fault Refusal :=
  hosted (hostScalar tr 0x601B 0x09 value.toNat) s
/-- SFU_COUNT_CLEAR. -/
def execSfuCountClear (tr : Transport) (value : U64) (s : State) : Host.Outcome State Fault Refusal :=
  hosted (hostScalar tr 0x601E 0x09 value.toNat) s
/-- CLE_COUNT_CLEAR. -/
def execCleCountClear (tr : Transport) (value : U64) (s : State) : Host.Outcome State Fault Refusal :=
  hosted (hostScalar tr 0x6021 0x09 value.toNat) s
/-- FEP_COUNT_CLEAR. -/
def execFepCountClear (tr : Transport) (value : U64) (s : State) : Host.Outcome State Fault Refusal :=
  hosted (hostScalar tr 0x6025 0x09 value.toNat) s
/-- CVU_COUNT_CLEAR. -/
def execCvuCountClear (tr : Transport) (value : U64) (s : State) : Host.Outcome State Fault Refusal :=
  hosted (hostScalar tr 0x6029 0x09 value.toNat) s
/-- OBS_COUNT_CLEAR. -/
def execObsCountClear (tr : Transport) (s : State) : Host.Outcome State Fault Refusal :=
  hosted (hostScalar tr 0x603B 0x02 1) s
/-- FLT_LOG_CLEAR. -/
def execFltLogClear (tr : Transport) (s : State) : Host.Outcome State Fault Refusal :=
  hosted (hostScalar tr 0x8000 0x03 1) s
/-- RPL_START. -/
def execRplStart (tr : Transport) (s : State) : Host.Outcome State Fault Refusal :=
  hosted (hostScalar tr 0x7810 0x06 1) s
/-- RPL_STOP. -/
def execRplStop (tr : Transport) (s : State) : Host.Outcome State Fault Refusal :=
  hosted (hostScalar tr 0x7810 0x06 2) s
/-- SNAP_CONTROL. -/
def execSnapControl (tr : Transport) (s : State) : Host.Outcome State Fault Refusal :=
  hosted (hostScalar tr 0x6040 0x05 1) s
/-- TRACE_START. -/
def execTraceStart (tr : Transport) (s : State) : Host.Outcome State Fault Refusal :=
  hosted (hostScalar tr 0x6048 0x06 1) s
/-- TRACE_STOP. -/
def execTraceStop (tr : Transport) (s : State) : Host.Outcome State Fault Refusal :=
  hosted (hostScalar tr 0x6048 0x06 2) s
/-- TRACE_ARM_START. -/
def execTraceArmStart (tr : Transport) (s : State) : Host.Outcome State Fault Refusal :=
  hosted (hostScalar tr 0x6048 0x06 3) s
/-- TRACE_ARM_STOP. -/
def execTraceArmStop (tr : Transport) (s : State) : Host.Outcome State Fault Refusal :=
  hosted (hostScalar tr 0x6048 0x06 4) s
/-- PQ_DESC_WRITE. -/
def execPqDescWrite (tr : Transport) (offset : Nat) (data : Bytes) (s : State) : Host.Outcome State Fault Refusal :=
  hosted (hostCommit tr 0x5100 0x00 offset data) s
/-- PRESS_DESC_WRITE. -/
def execPressDescWrite (tr : Transport) (offset : Nat) (data : Bytes) (s : State) : Host.Outcome State Fault Refusal :=
  hosted (hostCommit tr 0x5800 0x00 offset data) s
/-- PRESS_COPY_TABLE_WRITE. -/
def execPressCopyTableWrite (tr : Transport) (offset : Nat) (data : Bytes) (s : State) : Host.Outcome State Fault Refusal :=
  hosted (hostCommit tr 0x5801 0x00 offset data) s
/-- SFU_JOB_TABLE_WRITE. -/
def execSfuJobTableWrite (tr : Transport) (offset : Nat) (data : Bytes) (s : State) : Host.Outcome State Fault Refusal :=
  hosted (hostCommit tr 0x5C04 0x00 offset data) s
/-- CLE_GROUPS_WRITE. -/
def execCleGroupsWrite (tr : Transport) (offset : Nat) (data : Bytes) (s : State) : Host.Outcome State Fault Refusal :=
  hosted (hostCommit tr 0x6801 0x00 offset data) s
/-- FEP_WINDOWS_WRITE. -/
def execFepWindowsWrite (tr : Transport) (offset : Nat) (data : Bytes) (s : State) : Host.Outcome State Fault Refusal :=
  hosted (hostCommit tr 0x6810 0x00 offset data) s
/-- FEP_ROUTE_WRITE. -/
def execFepRouteWrite (tr : Transport) (offset : Nat) (data : Bytes) (s : State) : Host.Outcome State Fault Refusal :=
  hosted (hostCommit tr 0x6811 0x00 offset data) s
/-- FEP_REQ_TABLE_WRITE. -/
def execFepReqTableWrite (tr : Transport) (offset : Nat) (data : Bytes) (s : State) : Host.Outcome State Fault Refusal :=
  hosted (hostCommit tr 0x6812 0x00 offset data) s
/-- SFU_BANK_WRITE. -/
def execSfuBankWrite (tr : Transport) (bank offset : Nat) (data : Bytes) (s : State) : Host.Outcome State Fault Refusal :=
  hosted (hostCommit tr (0x5C01 + bank % 2) 0x00 offset data) s
/-- PT_BANK_WRITE. -/
def execPtBankWrite (tr : Transport) (bank offset : Nat) (data : Bytes) (s : State) : Host.Outcome State Fault Refusal :=
  hosted (hostCommit tr (0x3001 + bank % 2) 0x00 offset data) s
/-- CVU_SCAN_REQ. -/
def execCvuScanReq (tr : Transport) (data : Bytes) (s : State) : Host.Outcome State Fault Refusal :=
  hosted (hostCommit tr 0x2200 0x01 0 data) s
/-- PQ_READ (R258): the packet at READ is captured from its start, as much of it as the read buffer holds. -/
def execPqRead (tr : Transport) (s : State) : Host.Outcome State Fault Refusal :=
  hosted (fun s => captureOp tr 0 0 0x5102 0x02 0 (min 4096 (128 * (s.pqHeadLen (s.get (trKey tr Key.PQ_SELECT))).getD 0)) s) s

end Sys2Proof.Machine
end

