-- ==== Sys2Proof/Machine/Dispatch.lean ====
section
/-! DEFINITION. One arm per command: the direct call of its meaning. -/

namespace Sys2Proof.Machine

/-- The effect of a command on everything but the queue (R14 to R19 name the parts each class addresses). -/
def exec (i : Instr) (s : State) : Host.Outcome State Fault Refusal :=
  match i with
  | .tileWindowForward ctx layer tile index port => Sys2Proof.Machine.execTileWindowForward ctx layer tile index port s
  | .tileWindowReingest ctx layer tile index port => Sys2Proof.Machine.execTileWindowReingest ctx layer tile index port s
  | .tileWindowRefetch ctx layer tile index port => Sys2Proof.Machine.execTileWindowRefetch ctx layer tile index port s
  | .tileWindowBegin unit => Sys2Proof.Machine.execTileWindowBegin unit s
  | .send ctx x => Sys2Proof.Machine.execSend ctx x s
  | .tileSend ctx port layer tile src first count dir seq => Sys2Proof.Machine.execTileSend ctx port layer tile src first count dir seq s
  | .receive ctx x => Sys2Proof.Machine.execReceive ctx x s
  | .combineForward ctx layer tile index nFrame nSlot => Sys2Proof.Machine.execCombineForward ctx layer tile index nFrame nSlot s
  | .combineInputGradient ctx layer tile index nFrame nSlot => Sys2Proof.Machine.execCombineInputGradient ctx layer tile index nFrame nSlot s
  | .combineRefetchReturn ctx layer tile index nFrame nSlot => Sys2Proof.Machine.execCombineRefetchReturn ctx layer tile index nFrame nSlot s
  | .routeLogLoad ctx layer tile work corrupt => Sys2Proof.Machine.execRouteLogLoad ctx layer tile work corrupt s
  | .combineRecord ctx layer tile work entry => Sys2Proof.Machine.execCombineRecord ctx layer tile work entry s
  | .combineClosePoint ctx layer tile work => Sys2Proof.Machine.execCombineClosePoint ctx layer tile work s
  | .gradientB2 ctx layer tile index corrupt => Sys2Proof.Machine.execGradientB2 ctx layer tile index corrupt s
  | .gradientB4 ctx layer tile index => Sys2Proof.Machine.execGradientB4 ctx layer tile index s
  | .gradientB5 ctx layer tile index => Sys2Proof.Machine.execGradientB5 ctx layer tile index s
  | .gradientB6 ctx layer tile index => Sys2Proof.Machine.execGradientB6 ctx layer tile index s
  | .gradientB7Residency ctx layer tile index => Sys2Proof.Machine.execGradientB7Residency ctx layer tile index s
  | .residencyRetry ctx layer => Sys2Proof.Machine.execResidencyRetry ctx layer s
  | .residencyDeadline ctx layer => Sys2Proof.Machine.execResidencyDeadline ctx layer s
  | .deliveryForm ctx layer => Sys2Proof.Machine.execDeliveryForm ctx layer s
  | .collective ctx group seq src dst fmt cap queue signal kind layer => Sys2Proof.Machine.execCollective ctx group seq src dst fmt cap queue signal kind layer s
  | .collectiveBegin ctx group seq => Sys2Proof.Machine.execCollectiveBegin ctx group seq s
  | .collectiveUpValue ctx group seq piece => Sys2Proof.Machine.execCollectiveUpValue ctx group seq piece s
  | .collectiveResultWrite ctx group seq piece => Sys2Proof.Machine.execCollectiveResultWrite ctx group seq piece s
  | .collectiveTimeout ctx group seq => Sys2Proof.Machine.execCollectiveTimeout ctx group seq s
  | .digestPost ctx checker check replica last => Sys2Proof.Machine.execDigestPost ctx checker check replica last s
  | .snapshot ctx id => Sys2Proof.Machine.execSnapshot ctx id s
  | .bankSwapPlacement ctx => Sys2Proof.Machine.execBankSwapPlacement ctx s
  | .bankSwapProgram ctx => Sys2Proof.Machine.execBankSwapProgram ctx s
  | .planSwitch flid => Sys2Proof.Machine.execPlanSwitch flid s
  | .slip => Sys2Proof.Machine.execSlip s
  | .stepEnd ctx => Sys2Proof.Machine.execStepEnd ctx s
  | .firstStepBegin ctx => Sys2Proof.Machine.execFirstStepBegin ctx s
  | .ingressSegment port hdr payload => Sys2Proof.Machine.execIngressSegment port hdr payload s
  | .scoreTileDone ctx layer tile => Sys2Proof.Machine.execScoreTileDone ctx layer tile s
  | .selectTile ctx layer tile => Sys2Proof.Machine.execSelectTile ctx layer tile s
  | .cardTile ctx layer tile work => Sys2Proof.Machine.execCardTile ctx layer tile work s
  | .poolAllocGrant cls => Sys2Proof.Machine.execPoolAllocGrant cls s
  | .poolFree ctx addr => Sys2Proof.Machine.execPoolFree ctx addr s
  | .poolRingRefillDone cls => Sys2Proof.Machine.execPoolRingRefillDone cls s
  | .linkSlotStart => Sys2Proof.Machine.execLinkSlotStart s
  | .chunkArrival port hdr payload => Sys2Proof.Machine.execChunkArrival port hdr payload s
  | .trailerArrival port trailer => Sys2Proof.Machine.execTrailerArrival port trailer s
  | .releaseDeadline port seq src dst => Sys2Proof.Machine.execReleaseDeadline port seq src dst s
  | .resendQueueSend port => Sys2Proof.Machine.execResendQueueSend port s
  | .outputLate ctx kind layer tile => Sys2Proof.Machine.execOutputLate ctx kind layer tile s
  | .frameBoundary => Sys2Proof.Machine.execFrameBoundary s
  | .frameProgramFetch ctx => Sys2Proof.Machine.execFrameProgramFetch ctx s
  | .frameProgramFetched ctx corrupt => Sys2Proof.Machine.execFrameProgramFetched ctx corrupt s
  | .timingWordReceived port word => Sys2Proof.Machine.execTimingWordReceived port word s
  | .timingWordSilence port => Sys2Proof.Machine.execTimingWordSilence port s
  | .lkUpFall port => Sys2Proof.Machine.execLkUpFall port s
  | .lkUpRise port => Sys2Proof.Machine.execLkUpRise port s
  | .tickInEdge => Sys2Proof.Machine.execTickInEdge s
  | .abortBoundary ctx => Sys2Proof.Machine.execAbortBoundary ctx s
  | .replayBegin ctx => Sys2Proof.Machine.execReplayBegin ctx s
  | .chunkReleaseTimeout ctx seq src dst => Sys2Proof.Machine.execChunkReleaseTimeout ctx seq src dst s
  | .expectationTimeout ctx seq src dst => Sys2Proof.Machine.execExpectationTimeout ctx seq src dst s
  | .slotGuardExpiry port => Sys2Proof.Machine.execSlotGuardExpiry port s
  | .tileWatchdogExpiry ctx layer tile work => Sys2Proof.Machine.execTileWatchdogExpiry ctx layer tile work s
  | .stepSlackExpiry ctx step => Sys2Proof.Machine.execStepSlackExpiry ctx step s
  | .tileOriginChunk port hdr payload => Sys2Proof.Machine.execTileOriginChunk port hdr payload s
  | .controlFlitReceived port flit => Sys2Proof.Machine.execControlFlitReceived port flit s
  | .tpUpChange port up => Sys2Proof.Machine.execTpUpChange port up s
  | .fepMessageReceived port hdr payload => Sys2Proof.Machine.execFepMessageReceived port hdr payload s
  | .fepMessageSend port => Sys2Proof.Machine.execFepMessageSend port s
  | .fepApply => Sys2Proof.Machine.execFepApply s
  | .fepWriteComplete src seq => Sys2Proof.Machine.execFepWriteComplete src seq s
  | .fepReplyReceived tag => Sys2Proof.Machine.execFepReplyReceived tag s
  | .fepRetry tag => Sys2Proof.Machine.execFepRetry tag s
  | .fepTimeout tag => Sys2Proof.Machine.execFepTimeout tag s
  | .replayTableExpiry src seq => Sys2Proof.Machine.execReplayTableExpiry src seq s
  | .postSetCheck ctx check step => Sys2Proof.Machine.execPostSetCheck ctx check step s
  | .postSetTimeout ctx check step => Sys2Proof.Machine.execPostSetTimeout ctx check step s
  | .tileDigestClose ctx layer kind tile => Sys2Proof.Machine.execTileDigestClose ctx layer kind tile s
  | .stepDigestClose ctx step => Sys2Proof.Machine.execStepDigestClose ctx step s
  | .poolInitialise tr => Sys2Proof.Machine.execPoolInitialise tr s
  | .poolInitDone => Sys2Proof.Machine.execPoolInitDone s
  | .poolSetLow tr => Sys2Proof.Machine.execPoolSetLow tr s
  | .poolAllocReq tr value => Sys2Proof.Machine.execPoolAllocReq tr value s
  | .poolFreeReq tr value => Sys2Proof.Machine.execPoolFreeReq tr value s
  | .packetOffer queue producer ctx words => Sys2Proof.Machine.execPacketOffer queue producer ctx words s
  | .packetCommit queue => Sys2Proof.Machine.execPacketCommit queue s
  | .packetAbort queue => Sys2Proof.Machine.execPacketAbort queue s
  | .gapMarkerCommit queue => Sys2Proof.Machine.execGapMarkerCommit queue s
  | .pqRead tr => Sys2Proof.Machine.execPqRead tr s
  | .pqMark tr => Sys2Proof.Machine.execPqMark tr s
  | .pqRewind tr => Sys2Proof.Machine.execPqRewind tr s
  | .pqRelease tr => Sys2Proof.Machine.execPqRelease tr s
  | .pqDescWrite tr offset data => Sys2Proof.Machine.execPqDescWrite tr offset data s
  | .pressDescWrite tr offset data => Sys2Proof.Machine.execPressDescWrite tr offset data s
  | .pressCopyTableWrite tr offset data => Sys2Proof.Machine.execPressCopyTableWrite tr offset data s
  | .pressCopyStart tr value => Sys2Proof.Machine.execPressCopyStart tr value s
  | .copyBegin => Sys2Proof.Machine.execCopyBegin s
  | .copyComplete => Sys2Proof.Machine.execCopyComplete s
  | .sfuBankWrite tr bank offset data => Sys2Proof.Machine.execSfuBankWrite tr bank offset data s
  | .sfuCheckStart tr => Sys2Proof.Machine.execSfuCheckStart tr s
  | .sfuCheckDone => Sys2Proof.Machine.execSfuCheckDone s
  | .sfuJobTableWrite tr offset data => Sys2Proof.Machine.execSfuJobTableWrite tr offset data s
  | .sfuJobStart tr value => Sys2Proof.Machine.execSfuJobStart tr value s
  | .jobBegin => Sys2Proof.Machine.execJobBegin s
  | .jobComplete => Sys2Proof.Machine.execJobComplete s
  | .ptBankWrite tr bank offset data => Sys2Proof.Machine.execPtBankWrite tr bank offset data s
  | .ptCheckStart tr => Sys2Proof.Machine.execPtCheckStart tr s
  | .ptCheckDone => Sys2Proof.Machine.execPtCheckDone s
  | .cleGroupsWrite tr offset data => Sys2Proof.Machine.execCleGroupsWrite tr offset data s
  | .fabShapeWrite tr value => Sys2Proof.Machine.execFabShapeWrite tr value s
  | .fepWindowsWrite tr offset data => Sys2Proof.Machine.execFepWindowsWrite tr offset data s
  | .fepRouteWrite tr offset data => Sys2Proof.Machine.execFepRouteWrite tr offset data s
  | .fepReqTableWrite tr offset data => Sys2Proof.Machine.execFepReqTableWrite tr offset data s
  | .fepStart tr value => Sys2Proof.Machine.execFepStart tr value s
  | .fepInval tr value => Sys2Proof.Machine.execFepInval tr value s
  | .cvuScanReq tr data => Sys2Proof.Machine.execCvuScanReq tr data s
  | .scanBegin => Sys2Proof.Machine.execScanBegin s
  | .scanComplete => Sys2Proof.Machine.execScanComplete s
  | .cvuInject tr value => Sys2Proof.Machine.execCvuInject tr value s
  | .readScalar tr rsv tid idx sub => Sys2Proof.Machine.execReadScalar tr rsv tid idx sub s
  | .writeScalar tr rsv tid idx sub value => Sys2Proof.Machine.execWriteScalar tr rsv tid idx sub value s
  | .capture tr rsv tid idx sub offset length => Sys2Proof.Machine.execCapture tr rsv tid idx sub offset length s
  | .commit tr rsv tid idx sub offset length => Sys2Proof.Machine.execCommit tr rsv tid idx sub offset length s
  | .listRead tr rsv tid count sels => Sys2Proof.Machine.execListRead tr rsv tid count sels s
  | .describe tr rsv tid idx sub => Sys2Proof.Machine.execDescribe tr rsv tid idx sub s
  | .rbufRead rsv tid offset length => Sys2Proof.Machine.execRbufRead rsv tid offset length s
  | .wbufWrite rsv tid offset length data => Sys2Proof.Machine.execWbufWrite rsv tid offset length data s
  | .cpRespRead => Sys2Proof.Machine.execCpRespRead s
  | .registerWrite target value => Sys2Proof.Machine.execRegisterWrite target value s
  | .ttLoad tr ctx => Sys2Proof.Machine.execTtLoad tr ctx s
  | .ttLoadDone ctx => Sys2Proof.Machine.execTtLoadDone ctx s
  | .ttStart tr ctx => Sys2Proof.Machine.execTtStart tr ctx s
  | .ttStop tr ctx => Sys2Proof.Machine.execTtStop tr ctx s
  | .ttUnload tr ctx => Sys2Proof.Machine.execTtUnload tr ctx s
  | .ttImageAddrWrite tr ctx value => Sys2Proof.Machine.execTtImageAddrWrite tr ctx value s
  | .unloadPathDone ctx => Sys2Proof.Machine.execUnloadPathDone ctx s
  | .tbStart tr => Sys2Proof.Machine.execTbStart tr s
  | .coldResetAssert => Sys2Proof.Machine.execColdResetAssert s
  | .coldResetRelease => Sys2Proof.Machine.execColdResetRelease s
  | .internalInitDone => Sys2Proof.Machine.execInternalInitDone s
  | .warmResetInput => Sys2Proof.Machine.execWarmResetInput s
  | .rstControlWarm tr => Sys2Proof.Machine.execRstControlWarm tr s
  | .warmResetDone => Sys2Proof.Machine.execWarmResetDone s
  | .rstIdleSwapPlacement tr => Sys2Proof.Machine.execRstIdleSwapPlacement tr s
  | .rstIdleSwapProgram tr => Sys2Proof.Machine.execRstIdleSwapProgram tr s
  | .throttleChange level => Sys2Proof.Machine.execThrottleChange level s
  | .numNonfiniteClear tr => Sys2Proof.Machine.execNumNonfiniteClear tr s
  | .selCountClear tr value => Sys2Proof.Machine.execSelCountClear tr value s
  | .crdCountClear tr value => Sys2Proof.Machine.execCrdCountClear tr value s
  | .excCountClear tr value => Sys2Proof.Machine.execExcCountClear tr value s
  | .bwdCountClear tr value => Sys2Proof.Machine.execBwdCountClear tr value s
  | .ttCountClear tr value => Sys2Proof.Machine.execTtCountClear tr value s
  | .poolPqCountClear tr value => Sys2Proof.Machine.execPoolPqCountClear tr value s
  | .pressCountClear tr value => Sys2Proof.Machine.execPressCountClear tr value s
  | .sfuCountClear tr value => Sys2Proof.Machine.execSfuCountClear tr value s
  | .cleCountClear tr value => Sys2Proof.Machine.execCleCountClear tr value s
  | .fepCountClear tr value => Sys2Proof.Machine.execFepCountClear tr value s
  | .cvuCountClear tr value => Sys2Proof.Machine.execCvuCountClear tr value s
  | .obsCountClear tr => Sys2Proof.Machine.execObsCountClear tr s
  | .fltLogClear tr => Sys2Proof.Machine.execFltLogClear tr s
  | .rplStart tr => Sys2Proof.Machine.execRplStart tr s
  | .rplStop tr => Sys2Proof.Machine.execRplStop tr s
  | .snapControl tr => Sys2Proof.Machine.execSnapControl tr s
  | .snapInEdge => Sys2Proof.Machine.execSnapInEdge s
  | .snapshotImageDone => Sys2Proof.Machine.execSnapshotImageDone s
  | .traceStart tr => Sys2Proof.Machine.execTraceStart tr s
  | .traceStop tr => Sys2Proof.Machine.execTraceStop tr s
  | .traceArmStart tr => Sys2Proof.Machine.execTraceArmStart tr s
  | .traceArmStop tr => Sys2Proof.Machine.execTraceArmStop tr s
  | .heartbeat => Sys2Proof.Machine.execHeartbeat s
  | .interruptEventFrame => Sys2Proof.Machine.execInterruptEventFrame s
  | .canBusOffRecovery => Sys2Proof.Machine.execCanBusOffRecovery s
  | .meterRestore => Sys2Proof.Machine.execMeterRestore s
  | .tapWord => Sys2Proof.Machine.execTapWord s
  | .powerWord energy => Sys2Proof.Machine.execPowerWord energy s
  | .powerTimeout => Sys2Proof.Machine.execPowerTimeout s
  | .meterPersist => Sys2Proof.Machine.execMeterPersist s
  | .nvDone => Sys2Proof.Machine.execNvDone s
  | .persistAckTimeout => Sys2Proof.Machine.execPersistAckTimeout s
  | .transactionComplete tr => Sys2Proof.Machine.execTransactionComplete tr s
  | .canBusError transmit count => Sys2Proof.Machine.execCanBusError transmit count s
  | .powerRemoved => Sys2Proof.Machine.execPowerRemoved s
  | .rootClockStop => Sys2Proof.Machine.execRootClockStop s

end Sys2Proof.Machine
end

