-- ==== Sys2Proof/Safety.lean ====
section
/-! DEFINITION. What counts as a safe run of the block, in the terms the statements use: every sparse store of the state
in its one canonical form, and the states that commands and TIME edges lead to. -/

namespace Sys2Proof

open Sys2Proof.Machine

/-- The stores of a state stand in their canonical form: keys strictly rising, and no dictionary byte or scalar listed that
equals its default. Equal contents are then equal data. -/
def Machine.Memory.wf (s : State) : Bool :=
  Sparse.canonical regDefault s.regs && Sparse.canonical domDefault s.dom && Sparse.rising s.stg && Sparse.rising s.qstore &&
  Sparse.rising s.env.mem

/-- The engine has what the spec gives it: 48 link ports and 16 tile ports with their pins (R452, R455). -/
def Machine.pinned (s : State) : Prop := s.ports.length = 48 ∧ s.tpUp.length = 16

/-- Eight contexts, five pool classes and 48 Fabric Endpoint ports (R189, R235, R338). -/
def Machine.shaped (s : State) : Prop := s.ctxs.length = 8 ∧ s.pools.length = 5 ∧ s.fep.ports.length = 48

/-- The transports' transfer buffers stand in canonical form: no byte listed that is zero (R374). -/
def Machine.buffered (s : State) : Prop :=
  Sparse.canonical (fun _ => 0) s.cp.rbuf = true ∧ Sparse.canonical (fun _ => 0) s.cp.wbuf = true ∧
  Sparse.canonical (fun _ => 0) s.can.rbuf = true ∧ Sparse.canonical (fun _ => 0) s.can.wbuf = true

/-- What holds in every state that a run passes through, for a build `b`: the build's fixed values are as they were (R2, R393),
host memory is in its canonical form, the pins are there, and so are the engine's own stores and transfer buffers in their
canonical form and its contexts, classes and ports. Once the root clock has stopped nothing is known of the engine's own state until the next cold
reset (R395). -/
def Machine.Sound (b : Build) (s : State) : Prop :=
  s.build = b ∧ Sparse.rising s.env.mem = true ∧ Machine.pinned s ∧
  (s.clockStopped = true ∨ (Machine.Memory.wf s = true ∧ Machine.shaped s ∧ Machine.buffered s))

/-- A transport takes a request now: the engine works, no transaction of the transport runs, and the field-network port, where it
is the transport, is on the bus (R374, R386, R390). -/
def Machine.hostReady (tr : Transport) (s : State) : Bool :=
  s.live && (s.tport tr).busy.isNone && (match tr with | .cp => true | .can => s.canSends)

/-- The replay log does not record and the trace does not trace: a command writes no entry of either (R227, R435). -/
def Machine.quiet (s : State) : Bool :=
  s.get Key.RPL_STATE != 1 && !s.obs.tracing

/-- Nothing waits for the next TIME edge: no entry for the replay log or the trace (R230, R435), no latch edge (R431), no level
of the throttle input other than the accepted one (R396). -/
def Machine.still (s : State) : Prop :=
  s.dru.rplBuf = {} ∧ s.obs.traceBuf = {} ∧ s.obs.latchDue = [] ∧ s.get Key.CLK_LEVEL_IN = s.time.throttle

/-- A transport's transaction in progress will complete as accepted (R374, Table 15.7). -/
def Machine.accepted (tr : Transport) (s : State) : Bool :=
  match (s.tport tr).busy with
  | some x => x.code == 0 && x.detail == 0
  | none => false

/-- The field network's receive counter and error state, which every request that its port hears moves (R390). -/
def Machine.canKeys : List Nat := [Key.COM_CAN_REC, Key.COM_CAN_STATE]

/-- Bank accesses of the Staging Store as counted (R430). -/
def Machine.bankKeys : List Nat := (List.range 64).flatMap (fun b => [Key.STG_BANK_READS b, Key.STG_BANK_WRITES b])

/-- Bytes moved through the memory ports as counted (R430). -/
def Machine.memKeys : List Nat := (List.range 4).flatMap (fun p => [Key.MEM_RD_BYTES p, Key.MEM_WR_BYTES p])

/-- Every scalar outside `ks` reads as before. -/
def Machine.keepsRegs (ks : List Nat) (s t : State) : Prop := ∀ k, k ∉ ks → t.get k = s.get k

/-- Every byte of a sparse memory outside `n` bytes from `a` reads as before. -/
def Machine.keepsBytes (a n : Nat) (m m' : List (Nat × Byte)) : Prop :=
  ∀ x, x < a ∨ a + n ≤ x → Sparse.get? m' x = Sparse.get? m x

/-- The state in which a request's transaction runs: the field network's port has heard its frame (R390). -/
def Machine.heard (tr : Transport) (s : State) : State := match tr with | .cp => s.fresh | .can => s.fresh.canHeard

/-- The state in which a scalar write's transaction runs: CP_ARG written, or the request frame heard. -/
def Machine.State.opened (s : State) (tr : Transport) (v : Nat) : State :=
  match tr with | .cp => s.fresh.putArg v | .can => s.fresh.canHeard

/-- The state in which a COMMIT of bytes `d` at offset `o` runs, the write buffer filled and, on the Control Port, CP_ARG written. -/
def Machine.heardBytes (tr : Transport) (o : Nat) (d : Bytes) (s : State) : State :=
  match tr with
  | .cp => (s.fresh.putWrite .cp 0 d).putArg (o <<< 32 ||| d.length)
  | .can => (s.fresh.putWrite .can 0 d).canHeard

/-- The transport's transaction replaced. -/
def Machine.taken (tr : Transport) (x : Txn) (s : State) : State := s.setTport tr { s.tport tr with busy := some x }

/-- Beside the dictionary's bytes and scalars a request moves the transport that carries it (R374, R384, R388), and the model's
counter of free values; everything else stands. -/
def Machine.onlyDict (s t : State) : Prop :=
  t = { s with regs := t.regs, dom := t.dom, view := t.view, free := t.free, cp := t.cp, can := t.can, win := t.win }

/-- The states that steps lead to from the state after reset, whatever commands are put into the queue in between. -/
inductive Reachable : State → Prop where
  | reset : Reachable State.reset
  | queue (s : State) (cs : List Instr) : Reachable s → Reachable { s with pending := cs }
  | step (s t : State) : Reachable s → Machine.step s = .next t → Reachable t

end Sys2Proof
end

