-- ==== Sys2Proof/Certificates/Slice0/Obligations.lean ====
section
/-! DEFINITION. The statements for the provers: what the commands and events of the engine do, family by family, and the invariants
that every step keeps. What a command leaves as it is stands in `keepsRegs`, in `keepsBytes`, or in an equation `t = { s with … }`
that names every part that may differ. -/

open Sys2Proof Sys2Proof.Machine

/-! ### The block -/

/-- A step takes the command at the front of the queue and answers what exec answers for it, the queue's rest left (the block's
rule in place of a fetch). -/
def Obligations.StepRunsFrontCommand : Prop :=
  ∀ (s : State) (c : Instr) (rest : List Instr), s.pending = c :: rest → Machine.step s = exec c { s with pending := rest }

/-- On an empty queue one edge of the TIME domain passes (the model's choice, log entry 1): TB gains 16 fine units, or 15 or 17
where an offset is being slewed away and the last such edge lies 15 or more back (R193). The entries that the replay log and the
trace hold for the edge are written, so that none waits (R230, R435); a throttle level that two edges have seen is accepted (R396).
Where nothing waits for the edge, nothing but the time changes. -/
def Obligations.IdleStepPassesTime : Prop :=
  ∀ s : State, s.pending = [] → s.clocked = true →
    ∃ t, Machine.step s = .next t ∧ t.time.ticks = s.time.ticks + 1 ∧
      t.time.tb = s.time.tb + (if s.time.slew = 0 ∨ s.time.sinceSlew < 15 then 16 else if 0 < s.time.slew then 15 else 17) ∧
      t.dru.rplBuf = {} ∧ (s.obs.latchDue = [] → t.obs.traceBuf = {}) ∧
      (s.phase = .running → 1 ≤ s.time.sampled → s.time.throttle < 8 → s.obs.latchDue = [] → Memory.wf s = true →
        t.get Key.CLK_LEVEL_IN = s.time.throttle) ∧
      (still s → t = { s with time := t.time })

/-- Every step, from any state whose stores are in canonical form, leaves them so, with the build's fixed values, the pins, the
eight contexts, the five pool classes and the 48 ports. -/
def Obligations.StepKeepsSound : Prop :=
  ∀ (b : Build) (s t : State), Sound b s → Machine.step s = .next t → Sound b t

/-- The state after reset is sound, for its own build. -/
def Obligations.ResetIsSound : Prop := Sound State.reset.build State.reset

/-- No command changes the build's fixed values (R2, R393) or the commands that wait behind it. -/
def Obligations.CommandsKeepBuildAndQueue : Prop :=
  ∀ (b : Build) (s t : State) (c : Instr), Sound b s → exec c s = .next t → t.build = s.build ∧ t.pending = s.pending

/-! ### Pools (chapter 9) -/

/-- POOL_ALLOC_GRANT: the oldest request that its quota does not hold back gets the buffer on top of the cache (R242, R243, R244),
the holdings and the free count move by one, and POOL_LOW follows the free count down; the other classes, host memory and the
other registers but the bank counters stand. No chunk waits in hand for its buffer (`ChunkReceived` says what such a grant does) and no
combine has ended whose return buffers a grant could give back. -/
def Obligations.PoolGrantGivesTop : Prop :=
  ∀ (c a : Nat) (rest : List Nat) (r : PoolReq) (s : State), s.live = true → shaped s → c < 5 → r.ctx < 8 →
    (∀ e, e ∈ s.expects → e.inHand = none) → (∀ k, k ∈ s.combs → k.closed = false) →
    s.get Key.POOL_STATE = 2 → s.nextGrant c = some r → (s.pool c).cache = a :: rest →
    ∃ t, exec (.poolAllocGrant c) s = .next t ∧
      (t.pool c).cache = rest ∧ (t.pool c).wait = (s.pool c).wait.erase r ∧
      t.owner c ((a - s.get (Key.POOL_BASE c)) / poolSize c) = some r.ctx ∧
      t.get (Key.POOL_HELD c r.ctx) = (s.get (Key.POOL_HELD c r.ctx) + 1) % 2 ^ 64 ∧
      t.get (Key.POOL_FREE c) = s.get (Key.POOL_FREE c) - 1 ∧
      t.get (Key.POOL_LOW c) = min (s.get (Key.POOL_FREE c) - 1) (s.get (Key.POOL_LOW c)) ∧
      (∀ p, s.piece r.key = some p → ∃ q, t.piece r.key = some q ∧ q.buf = some a) ∧
      (∀ d, d ≠ c → t.pool d = s.pool d) ∧
      keepsRegs (Key.POOL_HELD c r.ctx :: Key.POOL_FREE c :: Key.POOL_LOW c :: bankKeys) s t ∧
      t = { s with regs := t.regs, stg := t.stg, obs := t.obs, pools := t.pools, pieces := t.pieces }

/-- POOL_FREE and POOL_FREE_REQ: an accepted free (Table 9.5) clears the owner-map entry, lowers POOL_HELD by 1, raises POOL_FREE by 1
and puts the buffer on top of its class's cache (R247, R249); no byte of the Staging Store or of host memory is touched and no bank
access is counted; the other classes stand. With no copy, job or scan waiting that a unit's free could end, every other register
stands as well. -/
def Obligations.PoolFreeReturnsBuffer : Prop :=
  (∀ (ctx a c i : Nat) (s : State), s.live = true → quiet s = true → shaped s → ctx < 8 → s.freeCheck false ctx a = .ok (c, i) →
    ∃ t, exec (.poolFree ctx a) s = .next t ∧
      t.owner c i = none ∧ (t.pool c).cache.head? = some (s.get (Key.POOL_BASE c) + i * poolSize c) ∧
      t.get (Key.POOL_HELD c ctx) = s.get (Key.POOL_HELD c ctx) - 1 ∧
      t.get (Key.POOL_FREE c) = (s.get (Key.POOL_FREE c) + 1) % 2 ^ 64 ∧ (∀ k, k ∈ bankKeys → t.get k = s.get k) ∧
      (∀ d, d ≠ c → t.pool d = s.pool d) ∧ t.stg = s.stg ∧ t.env = s.env ∧ t.ctxs = s.ctxs ∧
      (s.cvu.queue = [] → s.press.queue = [] → s.sfu.queue = [] →
        keepsRegs [Key.POOL_HELD c ctx, Key.POOL_FREE c] s t)) ∧
  (∀ (tr : Transport) (v : U64) (c i : Nat) (s : State), hostReady tr s = true → quiet s = true → shaped s →
    s.freeCheck true (bits v.toNat 61 3) (bits v.toNat 0 61) = .ok (c, i) →
    ∃ t, exec (.poolFreeReq tr v) s = .next t ∧ accepted tr t = true ∧ t.owner c i = none ∧
      (t.pool c).cache.head? = some (s.get (Key.POOL_BASE c) + i * poolSize c) ∧
      t.get (Key.POOL_HELD c (bits v.toNat 61 3)) = s.get (Key.POOL_HELD c (bits v.toNat 61 3)) - 1 ∧
      t.get (Key.POOL_FREE c) = (s.get (Key.POOL_FREE c) + 1) % 2 ^ 64 ∧ (∀ k, k ∈ bankKeys → t.get k = s.get k) ∧
      (∀ d, d ≠ c → t.pool d = s.pool d) ∧ t.stg = s.stg ∧ t.env = s.env ∧ t.ctxs = s.ctxs)

/-- POOL_RING_REFILL_DONE: entries read from the ring's head stand beneath the cache's entries, in the ring's order (R242); where no
read is in flight, spilled entries stand at the ring's tail, bottom first, and memory outside the ring is as it was. -/
def Obligations.PoolRingMoves : Prop :=
  ∀ (c : Nat) (s : State), s.live = true → shaped s → c < 5 → Sparse.rising s.env.mem = true → s.get (Key.POOL_RING_PORT c) < 4 →
    (0 < (s.pool c).reading →
      ∃ t, exec (.poolRingRefillDone c) s = .next t ∧
        (t.pool c).cache = (s.pool c).cache ++ (List.range (s.pool c).reading).map (fun i =>
          unle (s.fresh.hostBytes (s.get (Key.POOL_RING_ADDR c) + 8 * (((s.pool c).head + i) % s.ringCap c)) 8)) ∧
        (t.pool c).head = (s.pool c).head + (s.pool c).reading ∧ (t.pool c).reading = 0 ∧
        (t.pool c).owner = (s.pool c).owner ∧ (∀ d, d ≠ c → t.pool d = s.pool d) ∧
        keepsRegs [Key.MEM_RD_BYTES (s.get (Key.POOL_RING_PORT c))] s t ∧
        t = { s with regs := t.regs, pools := t.pools, free := t.free }) ∧
    ((s.pool c).reading = 0 → (s.pool c).writing ≠ [] → (s.pool c).writing.length ≤ s.ringCap c →
      ∃ t, exec (.poolRingRefillDone c) s = .next t ∧
        (t.pool c).tail = (s.pool c).tail + (s.pool c).writing.length ∧ (t.pool c).writing = [] ∧
        (t.pool c).cache = (s.pool c).cache ∧ (t.pool c).owner = (s.pool c).owner ∧ (∀ d, d ≠ c → t.pool d = s.pool d) ∧
        (∀ i, i < (s.pool c).writing.length →
          Mem.read (fun _ => 0) t.env.mem (s.get (Key.POOL_RING_ADDR c) + 8 * (((s.pool c).tail + i) % s.ringCap c)) 8 =
            le 8 (nth (s.pool c).writing i 0)) ∧
        keepsBytes (s.get (Key.POOL_RING_ADDR c)) (8 * s.ringCap c) s.env.mem t.env.mem ∧
        keepsRegs [Key.MEM_WR_BYTES (s.get (Key.POOL_RING_PORT c))] s t ∧
        t = { s with regs := t.regs, pools := t.pools, free := t.free, env := { s.env with mem := t.env.mem } })

/-- POOL_INIT_DONE ends an initialisation: POOL_STATE is 2, and every class has its buffers free, the first 64 of them in its cache in
ascending order and all of them in its ring (R239). -/
def Obligations.PoolInitialised : Prop :=
  ∀ (s : State), s.live = true → shaped s → s.get Key.POOL_STATE = 1 →
    (∀ c, c < 5 → s.get (Key.POOL_COUNT c) = 0 ∨ s.get (Key.POOL_RING_PORT c) < 4) →
    ∃ t, exec .poolInitDone s = .next t ∧ t.get Key.POOL_STATE = 2 ∧
      (∀ c, c < 5 →
        t.get (Key.POOL_FREE c) = s.get (Key.POOL_COUNT c) ∧ t.get (Key.POOL_LOW c) = s.get (Key.POOL_COUNT c) ∧
        (t.pool c).owner = [] ∧ (t.pool c).head = min 64 (s.get (Key.POOL_COUNT c)) ∧ (t.pool c).tail = s.get (Key.POOL_COUNT c) ∧
        (t.pool c).cache = (List.range (min 64 (s.get (Key.POOL_COUNT c)))).map (fun i =>
          s.get (Key.POOL_BASE c) + i * poolSize c)) ∧
      keepsRegs (Key.POOL_STATE :: memKeys ++ (List.range 5).flatMap (fun c => [Key.POOL_FREE c, Key.POOL_LOW c])) s t ∧
      t = { s with regs := t.regs, pools := t.pools, env := { s.env with mem := t.env.mem } }

/-! ### Packet queues (chapter 9) -/

/-- PACKET_OFFER, PACKET_COMMIT and PACKET_ABORT: a drop-newest queue takes a packet where LEN + 1 words are free and no drop is
pending, and drops and counts it otherwise (R254, R259); a credit queue takes one against the producer's credits and holds it back
where they fall short (R261); a commit makes the open packet visible, an abort takes its words back
and counts it (R255). -/
def Obligations.QueuePackets : Prop :=
  ∀ (q prod ctx : Nat) (words : List Bytes) (s : State), s.live = true →
    (words ≠ [] → words.length ≤ 64 → pqKind (s.pqDesc q) = 1 → (s.queue q).offers = [] → (s.queue q).opened = none →
      ∃ t, exec (.packetOffer q prod ctx words) s = .next t ∧ (∀ r, r ≠ q → t.queue r = s.queue r) ∧
        (words.length + 1 ≤ s.pqFree q → (s.queue q).pend = 0 →
          t.queue q = { s.queue q with write := ptrAdd (s.queue q).write words.length, opened := some words.length } ∧
          t = { s with qstore := t.qstore, queues := t.queues }) ∧
        (¬ (words.length + 1 ≤ s.pqFree q ∧ (s.queue q).pend = 0) →
          t.queue q = { s.queue q with
            pend := satAdd 65535 (s.queue q).pend 1, pendWords := satAdd 0xFFFFF (s.queue q).pendWords words.length } ∧
          t.get (Key.PQ_DROP_COUNT ((s.queueOwner q).getD ctx)) =
            satAdd max32 (s.get (Key.PQ_DROP_COUNT ((s.queueOwner q).getD ctx))) 1 ∧
          t = { s with regs := t.regs, queues := t.queues })) ∧
    (words ≠ [] → words.length ≤ 64 → pqKind (s.pqDesc q) = 2 → (s.queue q).offers = [] → words.length ≤ pqDepth (s.pqDesc q) →
      (s.queue q).opened = none →
      ∃ t, exec (.packetOffer q prod ctx words) s = .next t ∧ (∀ r, r ≠ q → t.queue r = s.queue r) ∧
        t.queue q = (if words.length ≤ (s.queue q).credits then
          { s.queue q with write := ptrAdd (s.queue q).write words.length, opened := some words.length,
                           credits := (s.queue q).credits - words.length }
          else { s.queue q with offers := [{ producer := prod, ctx := ctx, words := words }] }) ∧
        t = { s with qstore := t.qstore, queues := t.queues }) ∧
    (∀ n, (s.queue q).opened = some n → (s.queue q).offers = [] →
      (∃ t, exec (.packetCommit q) s = .next t ∧
        (t.queue q).commit = (s.queue q).write ∧ (t.queue q).opened = none ∧ (t.queue q).write = (s.queue q).write ∧
        (t.queue q).read = (s.queue q).read ∧ (t.queue q).release = (s.queue q).release ∧
        (∀ r, r ≠ q → t.queue r = s.queue r) ∧
        t = { s with queues := t.queues, dom := t.dom, regs := t.regs, field := t.field }) ∧
      (∃ t, exec (.packetAbort q) s = .next t ∧
        (t.queue q).write = ptrSub (s.queue q).write n ∧ (t.queue q).opened = none ∧ (t.queue q).commit = (s.queue q).commit ∧
        (∀ c, s.queueOwner q = some c → t.get (Key.PQ_ABORT_COUNT c) = satAdd max32 (s.get (Key.PQ_ABORT_COUNT c)) 1) ∧
        (∀ r, r ≠ q → t.queue r = s.queue r) ∧ t = { s with queues := t.queues, regs := t.regs }))

/-- GAP_MARKER_COMMIT: a queue with drops pending and a word free commits one word and clears PEND and the pending word count
(R260). -/
def Obligations.QueueGapMarker : Prop :=
  ∀ (q : Nat) (s : State), s.live = true → 0 < (s.queue q).pend → 1 ≤ s.pqFree q → (s.queue q).opened = none →
    (s.queue q).offers = [] → Sparse.rising s.qstore = true →
    ∃ t, exec (.gapMarkerCommit q) s = .next t ∧ (t.queue q).pend = 0 ∧ (t.queue q).pendWords = 0 ∧
      (t.queue q).commit = ptrAdd (s.queue q).write 1 ∧ (t.queue q).write = ptrAdd (s.queue q).write 1 ∧
      (∀ r, r ≠ q → t.queue r = s.queue r) ∧ t.regs = s.regs ∧ t.stg = s.stg ∧ t.env = s.env ∧ t.ctxs = s.ctxs ∧
      Mem.read (fun _ => 0) t.qstore (128 * s.pqWord q (s.queue q).write) 128 =
        sub (le 8 (pqTag 0xFF 1 12 ((s.queueOwner q).getD 0)
          ((min 0xFFFFF (s.queue q).pend) <<< 20 ||| (s.queue q).pendWords))) 0 128

/-- PQ_MARK, PQ_REWIND and PQ_RELEASE by the host, on the queue its transport selects, which the host consumes (R257, R258): MARK takes
READ; READ takes MARK; RELEASE and MARK take READ, and a credit queue's credits return (R261). -/
def Obligations.QueueHostOperations : Prop :=
  ∀ (tr : Transport) (s : State) (q : Nat), hostReady tr s = true → s.get Key.RPL_STATE ≠ 1 →
    s.get (trKey tr Key.PQ_SELECT) = q → pqKind (s.pqDesc q) ≠ 0 → pqConsumer (s.pqDesc q) = 0 →
    (∃ t, exec (.pqMark tr) s = .next t ∧ accepted tr t = true ∧ t.queue q = { s.queue q with mark := (s.queue q).read } ∧
      (∀ r, r ≠ q → t.queue r = s.queue r) ∧ keepsRegs canKeys s t ∧ t.qstore = s.qstore ∧ t.env = s.env ∧ t.dom = s.dom) ∧
    (∃ t, exec (.pqRewind tr) s = .next t ∧ accepted tr t = true ∧ t.queue q = { s.queue q with read := (s.queue q).mark } ∧
      (∀ r, r ≠ q → t.queue r = s.queue r) ∧ keepsRegs canKeys s t ∧ t.qstore = s.qstore ∧ t.env = s.env ∧ t.dom = s.dom) ∧
    ((s.queue q).offers = [] →
      ∃ t, exec (.pqRelease tr) s = .next t ∧ accepted tr t = true ∧
        (t.queue q).release = (s.queue q).read ∧ (t.queue q).mark = (s.queue q).read ∧ (t.queue q).read = (s.queue q).read ∧
        (t.queue q).credits = (if pqKind (s.pqDesc q) = 2 then
          (s.queue q).credits + ptrSub (s.queue q).read (s.queue q).release else (s.queue q).credits) ∧
        (∀ r, r ≠ q → t.queue r = s.queue r) ∧ t.qstore = s.qstore ∧ t.env = s.env)

/-! ### The host's commands (chapter 15, and the entries of the units' chapters) -/

/-- The ..._COUNT_CLEAR commands (R69, R100, R135, R167, R209, R266, R285, R304, R331, R356, R367) with the indices of the first and
the last counter that each clears. -/
def countClears : List ((Transport → U64 → Instr) × Nat × Nat) :=
  [(.selCountClear, 0x6004, 0x6007), (.crdCountClear, 0x6008, 0x600B), (.excCountClear, 0x600C, 0x600F),
   (.bwdCountClear, 0x6010, 0x6013), (.ttCountClear, 0x6014, 0x6016), (.poolPqCountClear, 0x6017, 0x601A),
   (.pressCountClear, 0x601B, 0x601D), (.sfuCountClear, 0x601E, 0x6020), (.cleCountClear, 0x6021, 0x6024),
   (.fepCountClear, 0x6025, 0x6028), (.cvuCountClear, 0x6029, 0x602B)]

/-- The counters of a unit, at indices `i` to `j`, that the value `v` of its ..._COUNT_CLEAR clears: context v's, or every
context's for 0xFF. -/
def cleared (i j v k : Nat) : Prop :=
  ∃ n c, i + n ≤ j ∧ c < 8 ∧ (v = 0xFF ∨ v = c) ∧ k = entryKey (i + n) (c + 1)

/-- Each ..._COUNT_CLEAR zeroes exactly the counters that its value names, for any value of the entry's type; every other scalar
and everything else stands. -/
def Obligations.CountClears : Prop :=
  ∀ (mk : Transport → U64 → Instr) (i j : Nat), (mk, i, j) ∈ countClears →
  ∀ (tr : Transport) (v : U64) (s : State), hostReady tr s = true → s.get Key.RPL_STATE ≠ 1 → v.toNat < 256 →
    ∃ t, exec (mk tr v) s = .next t ∧ accepted tr t = true ∧
      (∀ k, cleared i j v.toNat k → t.get k = 0) ∧
      (∀ k, ¬ cleared i j v.toNat k → k ∉ canKeys → t.get k = s.get k) ∧ t.dom = s.dom ∧ onlyDict s t

/-- NUM_NONFINITE_CLEAR, OBS_COUNT_CLEAR and FLT_LOG_CLEAR (R47, R430, R429): the entries they name read zero, the others as
before. -/
def Obligations.LogAndCountClears : Prop :=
  ∀ (tr : Transport) (s : State), hostReady tr s = true → s.get Key.RPL_STATE ≠ 1 →
    (∃ t, exec (.numNonfiniteClear tr) s = .next t ∧ accepted tr t = true ∧ t.get Key.NUM_NONFINITE_COUNT = 0 ∧
      t.get Key.NUM_NONFINITE_FIRST = 0 ∧ keepsRegs (Key.NUM_NONFINITE_COUNT :: Key.NUM_NONFINITE_FIRST :: canKeys) s t ∧
      t.dom = s.dom ∧ onlyDict s t) ∧
    (∃ t, exec (.obsCountClear tr) s = .next t ∧ accepted tr t = true ∧
      (∀ k, 0x603000 ≤ k → k ≤ 0x603AFF → t.get k = 0) ∧
      (∀ k, k < 0x603000 ∨ 0x603AFF < k → k ∉ canKeys → t.get k = s.get k) ∧ t.dom = s.dom ∧ onlyDict s t) ∧
    (∃ t, exec (.fltLogClear tr) s = .next t ∧ accepted tr t = true ∧ t.get Key.FLT_LOG_HEAD = 0 ∧ t.get Key.FLT_LOG_LOST = 0 ∧
      t.domBytes Dom.FLT_LOG 0 8192 = zeros 8192 ∧ t.domBytes Dom.FLT_FIRST 0 32 = zeros 32 ∧
      t.domBytes Dom.FLT_CLASS_COUNT 0 1024 = zeros 1024 ∧
      keepsRegs (Key.FLT_LOG_HEAD :: Key.FLT_LOG_LOST :: canKeys) s t ∧
      (∀ a, a / domSpan ≠ Dom.FLT_LOG → a / domSpan ≠ Dom.FLT_FIRST → a / domSpan ≠ Dom.FLT_CLASS_COUNT →
        Sparse.get? t.dom a = Sparse.get? s.dom a) ∧ onlyDict s t)

/-- RPL_START and RPL_STOP, TRACE_START, TRACE_STOP, TRACE_ARM_START and TRACE_ARM_STOP (R232, R436): the state of the log or of the
trace becomes what the control value asks; a start without a ring has no effect. An armed start or stop changes nothing but TRC_STATE
before its latch edge (log entry 41). -/
def Obligations.LogAndTraceControl : Prop :=
  ∀ (tr : Transport) (s : State), hostReady tr s = true → s.get Key.RPL_STATE ≠ 1 →
    (s.get Key.RPL_LEN ≠ 0 → ∃ t, exec (.rplStart tr) s = .next t ∧ accepted tr t = true ∧ t.get Key.RPL_STATE = 1 ∧
      t.dom = s.dom ∧ t.stg = s.stg ∧ t.queues = s.queues ∧ t.ctxs = s.ctxs ∧ t.pools = s.pools) ∧
    (s.get Key.RPL_LEN = 0 → ∃ t, exec (.rplStart tr) s = .next t ∧ accepted tr t = true ∧ keepsRegs canKeys s t ∧
      t.dom = s.dom ∧ onlyDict s t) ∧
    (∃ t, exec (.rplStop tr) s = .next t ∧ accepted tr t = true ∧ t.get Key.RPL_STATE = 0 ∧
      keepsRegs (Key.RPL_STATE :: canKeys) s t ∧ t.dom = s.dom ∧ onlyDict s t) ∧
    (∃ t, exec (.traceStart tr) s = .next t ∧ accepted tr t = true ∧
      t.get Key.TRC_STATE = (if s.get Key.TRC_LEN = 0 then s.get Key.TRC_STATE else 2) ∧
      t.obs = { s.obs with tracing := s.obs.tracing || s.get Key.TRC_LEN != 0 } ∧
      keepsRegs (Key.TRC_STATE :: canKeys) s t ∧ t.dom = s.dom ∧ onlyDict { s with obs := t.obs } t) ∧
    (∃ t, exec (.traceStop tr) s = .next t ∧ accepted tr t = true ∧ t.get Key.TRC_STATE = 0 ∧
      t.obs = { s.obs with tracing := false } ∧
      keepsRegs (Key.TRC_STATE :: canKeys) s t ∧ t.dom = s.dom ∧ onlyDict { s with obs := t.obs } t) ∧
    (∃ t, exec (.traceArmStart tr) s = .next t ∧ accepted tr t = true ∧ t.get Key.TRC_STATE = 1 ∧
      keepsRegs (Key.TRC_STATE :: canKeys) s t ∧ t.dom = s.dom ∧ onlyDict s t) ∧
    (∃ t, exec (.traceArmStop tr) s = .next t ∧ accepted tr t = true ∧ t.get Key.TRC_STATE = 3 ∧
      keepsRegs (Key.TRC_STATE :: canKeys) s t ∧ t.dom = s.dom ∧ onlyDict s t)

/-- POOL_INITIALISE, POOL_SET_LOW and POOL_ALLOC_REQ (R237, R238, R246): with every context STOPPED and every
class's settings in order, initialisation begins; POOL_LOW takes the free counts; a host request is granted at once from the
class for its size. -/
def Obligations.PoolHostCommands : Prop :=
  ∀ (tr : Transport) (s : State), hostReady tr s = true → s.get Key.RPL_STATE ≠ 1 → shaped s →
    ((∀ c, c < 8 → s.tt c = 0) → (∀ c, c < 5 → s.poolCheck c = 0) →
      ∃ t, exec (.poolInitialise tr) s = .next t ∧ accepted tr t = true ∧ t.get Key.POOL_STATE = 1 ∧
        t.get Key.POOL_INIT_RESULT = 0 ∧ (∀ c x, c < 5 → x < 8 → t.get (Key.POOL_HELD c x) = 0) ∧ t.pools = List.replicate 5 {} ∧
        t.stg = s.stg ∧ t.env = s.env ∧ t.dom = s.dom ∧ t.queues = s.queues ∧ t.ctxs = s.ctxs) ∧
    (∃ t, exec (.poolSetLow tr) s = .next t ∧ accepted tr t = true ∧
      (∀ c, c < 5 → t.get (Key.POOL_LOW c) = s.get (Key.POOL_FREE c)) ∧
      keepsRegs ((List.range 5).map Key.POOL_LOW ++ canKeys) s t ∧ t.dom = s.dom ∧ onlyDict s t) ∧
    (∀ (v : U64) (c a : Nat) (rest : List Nat), bits v.toNat 32 29 = 0 → 0 < bits v.toNat 0 32 → bits v.toNat 0 32 ≤ 16777216 →
      c = (if bits v.toNat 0 32 ≤ 1048576 then 3 else 4) → s.get Key.POOL_STATE = 2 → (s.pool c).cache = a :: rest →
      (s.holdsPart (bits v.toNat 61 3) = true → s.underQuota c (bits v.toNat 61 3) = true) → a < 2 ^ 58 →
      ∃ t, exec (.poolAllocReq tr v) s = .next t ∧ accepted tr t = true ∧
        t.get (trKey tr Key.POOL_ALLOC_RESULT) = c * 2 ^ 58 + a ∧ (t.pool c).cache = rest ∧
        t.owner c ((a - s.get (Key.POOL_BASE c)) / poolSize c) = some (bits v.toNat 61 3) ∧
        t.get (Key.POOL_HELD c (bits v.toNat 61 3)) = (s.get (Key.POOL_HELD c (bits v.toNat 61 3)) + 1) % 2 ^ 64 ∧
        (∀ d, d ≠ c → t.pool d = s.pool d) ∧ t.stg = s.stg ∧ t.env = s.env ∧ t.dom = s.dom ∧ t.queues = s.queues ∧ t.ctxs = s.ctxs)

/-- PT_CHECK_START and SFU_CHECK_START (R94, R298): the check of the shadow bank runs; a flag left by an earlier check stands
(R95). -/
def Obligations.BankCheckStarts : Prop :=
  ∀ (tr : Transport) (s : State), hostReady tr s = true → s.get Key.RPL_STATE ≠ 1 →
    (∃ t, exec (.ptCheckStart tr) s = .next t ∧ accepted tr t = true ∧ t.ptCheck = true ∧ keepsRegs canKeys s t ∧ t.dom = s.dom ∧
      t.sfuCheck = s.sfuCheck ∧ t.env = s.env ∧ t.stg = s.stg ∧ t.ctxs = s.ctxs) ∧
    (∃ t, exec (.sfuCheckStart tr) s = .next t ∧ accepted tr t = true ∧ t.sfuCheck = true ∧ keepsRegs canKeys s t ∧ t.dom = s.dom ∧
      t.ptCheck = s.ptCheck ∧ t.env = s.env ∧ t.stg = s.stg ∧ t.ctxs = s.ctxs)

/-- PRESS_COPY_START, SFU_JOB_START and FEP_START (R282, R301, R351): a valid copy, a valid job whose program is not empty, or a
valid entry whose context holds a partition, is accepted while fewer than 16 starts wait, and the result register of the
transport holds its index; a copy or a job joins the end of its queue. -/
def Obligations.UnitStarts : Prop :=
  ∀ (tr : Transport) (s : State) (v : U64), hostReady tr s = true → s.get Key.RPL_STATE ≠ 1 →
    (v.toNat ≤ 255 → ldValid (s.copy v.toNat) = true → s.press.queue.length < 16 →
      ∃ t, exec (.pressCopyStart tr v) s = .next t ∧ accepted tr t = true ∧
        t.press = { s.press with queue := s.press.queue ++ [v.toNat] } ∧
        t.get (trKey tr Key.PRESS_RESULT) = v.toNat * 2 ^ 20 + 2 ^ 19 ∧
        keepsRegs (trKey tr Key.PRESS_RESULT :: canKeys) s t ∧ t.dom = s.dom ∧ t.env = s.env ∧ t.stg = s.stg ∧ t.sfu = s.sfu) ∧
    (v.toNat ≤ 63 → ldValid (s.job v.toNat) = true → s.sfu.queue.length < 16 →
      progEmpty (bankProg (s.sfuBank (s.get Key.SFU_PROG_ACTIVE)) (jbProg (s.job v.toNat))) = false →
      ∃ t, exec (.sfuJobStart tr v) s = .next t ∧ accepted tr t = true ∧
        t.sfu = { s.sfu with queue := s.sfu.queue ++ [v.toNat] } ∧
        t.get (trKey tr Key.SFU_RESULT) = v.toNat * 2 ^ 20 ∧
        keepsRegs (trKey tr Key.SFU_RESULT :: canKeys) s t ∧ t.dom = s.dom ∧ t.env = s.env ∧ t.stg = s.stg ∧ t.press = s.press) ∧
    (v.toNat ≤ 255 → ldValid (s.reqEntry v.toNat) = true → s.fep.starts.length < 16 →
      s.holdsPart (rqCtx (s.reqEntry v.toNat)) = true →
      ∃ t, exec (.fepStart tr v) s = .next t ∧ accepted tr t = true ∧ t.get (trKey tr Key.FEP_RESULT) = v.toNat * 2 ^ 16 ∧
        t.press = s.press ∧ t.sfu = s.sfu ∧ t.ctxs = s.ctxs ∧ t.pools = s.pools)

/-- FEP_INVAL drops the read cache's lines of a context, or every line (R354); CVU_INJECT marks a port (R366); CVU_SCAN_REQ queues a
request that passes the checks of R361. -/
def Obligations.InvalInjectScan : Prop :=
  ∀ (tr : Transport) (s : State), hostReady tr s = true → s.get Key.RPL_STATE ≠ 1 →
    (∀ v : U64, v.toNat < 256 → ∃ t, exec (.fepInval tr v) s = .next t ∧ accepted tr t = true ∧
      (v.toNat < 8 → t.fep.cache = s.fep.cache.filter (fun x => !(x.ctx == v.toNat))) ∧
      (v.toNat = 0xFF → t.fep.cache = []) ∧ (8 ≤ v.toNat → v.toNat ≠ 0xFF → t.fep = s.fep) ∧
      t.fep = { s.fep with cache := t.fep.cache } ∧ keepsRegs canKeys s t ∧ t.dom = s.dom ∧ t.env = s.env ∧ t.stg = s.stg) ∧
    (∀ v : U64, v.toNat < 2 ^ 16 → ∃ t, exec (.cvuInject tr v) s = .next t ∧ accepted tr t = true ∧
      (bit v.toNat 15 = true → bits v.toNat 6 9 = 0 → v.toNat % 64 ∈ t.cvu.inject) ∧
      (∀ p, p ≠ v.toNat % 64 → (p ∈ t.cvu.inject ↔ p ∈ s.cvu.inject)) ∧
      (bit v.toNat 15 = false ∨ bits v.toNat 6 9 ≠ 0 → t.cvu = s.cvu) ∧
      t.cvu = { s.cvu with inject := t.cvu.inject } ∧ keepsRegs canKeys s t ∧ t.dom = s.dom ∧ t.env = s.env ∧ t.stg = s.stg) ∧
    (∀ d : Bytes, d.length = 32 → buffered s → (heardBytes tr 0 d s).scanCheck (u d 0 32) = none →
      ∃ t, exec (.cvuScanReq tr d) s = .next t ∧ accepted tr t = true ∧
        t.cvu = { s.cvu with queue := s.cvu.queue ++ [d] } ∧ t.get (trKey tr Key.CVU_RESULT) = 0 ∧
        keepsRegs (trKey tr Key.CVU_RESULT :: canKeys) s t ∧ t.dom = s.dom ∧ t.env = s.env ∧ t.stg = s.stg)

/-- FAB_SHAPE_WRITE with axis sizes from 1 to 16,384 sets the shape and clears VALID in every group entry (R306); TT_IMAGE_ADDR_WRITE
sets the address of the context's image, its context not in LOADED. -/
def Obligations.ShapeAndImageAddress : Prop :=
  ∀ (tr : Transport) (s : State) (v : U64), hostReady tr s = true → s.get Key.RPL_STATE ≠ 1 →
    ((∀ a, a < 4 → 1 ≤ bits v.toNat (16 * a) 16 ∧ bits v.toNat (16 * a) 16 ≤ 16384) → (∀ c, c < 8 → s.tt c = 0 ∨ s.tt c = 2) →
      Memory.wf s = true →
      ∃ t, exec (.fabShapeWrite tr v) s = .next t ∧ accepted tr t = true ∧ t.get Key.FAB_SHAPE = v.toNat ∧
        (∀ g, g < 4095 → gpValid (u (t.domBytes Dom.CLE_GROUPS (32 * g) 32) 0 32) = false) ∧
        keepsRegs (Key.FAB_SHAPE :: canKeys) s t ∧
        (∀ a, a / domSpan ≠ Dom.CLE_GROUPS → Sparse.get? t.dom a = Sparse.get? s.dom a) ∧ onlyDict s t) ∧
    (∀ c, c < 8 → s.tt c = 0 →
      ∃ t, exec (.ttImageAddrWrite tr c v) s = .next t ∧ accepted tr t = true ∧ t.get (Key.TT_IMAGE_ADDR c) = v.toNat ∧
        keepsRegs (Key.TT_IMAGE_ADDR c :: canKeys) s t ∧ t.dom = s.dom ∧ onlyDict s t)

/-- RST_IDLE_SWAP_PLACEMENT and RST_IDLE_SWAP_PROGRAM, every context STOPPED and the shadow bank ready: the shadow bank is active, its
CRC is the active CRC, and the ready flag is FALSE (R409). RST_CONTROL_WARM marks the transaction that a warm reset follows
(R403). -/
def Obligations.IdleSwapAndWarmRequest : Prop :=
  ∀ (tr : Transport) (s : State), hostReady tr s = true → s.get Key.RPL_STATE ≠ 1 →
    ((∀ c, c < 8 → s.tt c = 0) → s.get Key.PT_SHADOW_READY = 1 → s.get Key.PT_ACTIVE ≤ 1 →
      ∃ t, exec (.rstIdleSwapPlacement tr) s = .next t ∧ accepted tr t = true ∧
        t.get Key.PT_ACTIVE = 1 - s.get Key.PT_ACTIVE ∧ t.get Key.PT_SHADOW_READY = 0 ∧
        t.get Key.PT_ACTIVE_CRC = s.get Key.PT_SHADOW_CRC ∧
        keepsRegs (Key.PT_ACTIVE :: Key.PT_SHADOW_READY :: Key.PT_ACTIVE_CRC :: canKeys) s t ∧ t.dom = s.dom ∧ onlyDict s t) ∧
    ((∀ c, c < 8 → s.tt c = 0) → s.get Key.SFU_SHADOW_READY = 1 → s.get Key.SFU_PROG_ACTIVE ≤ 1 →
      ∃ t, exec (.rstIdleSwapProgram tr) s = .next t ∧ accepted tr t = true ∧
        t.get Key.SFU_PROG_ACTIVE = 1 - s.get Key.SFU_PROG_ACTIVE ∧ t.get Key.SFU_SHADOW_READY = 0 ∧
        t.get Key.SFU_ACTIVE_CRC = s.get Key.SFU_SHADOW_CRC ∧
        keepsRegs (Key.SFU_PROG_ACTIVE :: Key.SFU_SHADOW_READY :: Key.SFU_ACTIVE_CRC :: canKeys) s t ∧ t.dom = s.dom ∧
        onlyDict s t) ∧
    (∃ t, exec (.rstControlWarm tr) s = .next t ∧ accepted tr t = true ∧
      (∀ x, (t.tport tr).busy = some x → x.warm = true) ∧ keepsRegs canKeys s t ∧ t.dom = s.dom ∧ onlyDict s t)

/-- TT_LOAD, TT_START, TT_STOP and TT_UNLOAD (R190): a context in STOPPED or LOADED enters LOADING; one in LOADED whose start checks
pass enters ARMED with its seed in force (R214), and of what a former run left outstanding nothing stands beside the new run (the
model's reading, log entry 82); a running one enters STOPPING; one in LOADED takes the unload path. -/
def Obligations.ContextControl : Prop :=
  ∀ (tr : Transport) (s : State) (c : Nat), hostReady tr s = true → s.get Key.RPL_STATE ≠ 1 → shaped s → c < 8 →
    ((s.tt c = 0 ∨ s.tt c = 2) → (s.ctx c).unload = none →
      ∃ t, exec (.ttLoad tr c) s = .next t ∧ accepted tr t = true ∧ t.tt c = 1 ∧
        t.loads = s.loads ++ [{ ctx := c, held := s.tt c == 2 }] ∧ keepsRegs (Key.TT_STATE c :: canKeys) s t ∧ t.dom = s.dom ∧
        t.ctxs = s.ctxs ∧ t.stg = s.stg ∧ t.env = s.env) ∧
    (s.tt c = 2 → (s.ctx c).unload = none → s.startCode c = 0 →
      ∃ t, exec (.ttStart tr c) s = .next t ∧ accepted tr t = true ∧ t.tt c = 3 ∧
        (t.ctx c).image = (s.ctx c).image ∧ (t.ctx c).seed = BitVec.ofNat 64 (s.get (Key.DRU_SEED c)) ∧
        (∀ d, d ≠ c → t.ctx d = s.ctx d) ∧ t.stg = s.stg ∧ t.env = s.env ∧
        (∀ w, w ∈ t.wins ↔ w ∈ s.wins ∧ w.ctx ≠ c) ∧ (∀ k, k ∈ t.combs ↔ k ∈ s.combs ∧ k.ctx ≠ c) ∧
        (∀ x, x ∈ t.stats ↔ x ∈ s.stats ∧ x.ctx ≠ c) ∧ (∀ x, x ∈ t.selins ↔ x ∈ s.selins ∧ x.ctx ≠ c) ∧
        ((∀ p, p ∈ s.pieces → p.key.ctx ≠ c) → keepsRegs (Key.TT_STATE c :: canKeys) s t ∧ t.dom = s.dom)) ∧
    (s.tt c = 4 →
      ∃ t, exec (.ttStop tr c) s = .next t ∧ accepted tr t = true ∧ t.tt c = 5 ∧ keepsRegs (Key.TT_STATE c :: canKeys) s t ∧
        t.dom = s.dom ∧ t.ctxs = s.ctxs ∧ t.stg = s.stg ∧ t.env = s.env) ∧
    (s.tt c = 2 → (s.ctx c).unload = none →
      ∃ t, exec (.ttUnload tr c) s = .next t ∧ accepted tr t = true ∧ t.tt c = 2 ∧
        (t.ctx c).unload = some { next := none, code := 0, offset := 0 } ∧ (∀ d, d ≠ c → t.ctx d = s.ctx d) ∧
        (∀ w, w ∈ t.wins ↔ w ∈ s.wins ∧ w.ctx ≠ c))

/-- TB_START on an engine whose timebase is off (R408): a root on its own clock is locked with TB at TB_INIT and no slips; a root on
the tick input and every other engine acquire. In any other state it has no effect. -/
def Obligations.TimebaseStart : Prop :=
  ∀ (tr : Transport) (s : State), hostReady tr s = true → s.get Key.RPL_STATE ≠ 1 →
    (s.get Key.TB_STATE = 0 → s.get Key.TB_PARENT = 0x3E →
      ∃ t, exec (.tbStart tr) s = .next t ∧ accepted tr t = true ∧ t.time.tb.toNat = s.get Key.TB_INIT ∧
        t.get Key.TB_STATE = 2 ∧ t.get Key.TB_SLIPS = 0 ∧ t.dom = s.dom ∧ t.stg = s.stg ∧ t.env = s.env ∧ t.ctxs = s.ctxs) ∧
    (s.get Key.TB_STATE = 0 → s.get Key.TB_PARENT = 0x3F →
      ∃ t, exec (.tbStart tr) s = .next t ∧ accepted tr t = true ∧ t.time.tb.toNat = s.get Key.TB_INIT ∧
        t.get Key.TB_STATE = 1 ∧ t.get Key.TB_SLIPS = 0 ∧ t.dom = s.dom ∧ t.stg = s.stg ∧ t.env = s.env ∧ t.ctxs = s.ctxs) ∧
    (s.get Key.TB_STATE = 0 → s.get Key.TB_PARENT < 48 →
      ∃ t, exec (.tbStart tr) s = .next t ∧ accepted tr t = true ∧ t.get Key.TB_STATE = 1 ∧ t.time.tb = s.time.tb ∧
        t.dom = s.dom ∧ t.stg = s.stg ∧ t.env = s.env ∧ t.ctxs = s.ctxs) ∧
    (s.get Key.TB_STATE ≠ 0 →
      ∃ t, exec (.tbStart tr) s = .next t ∧ accepted tr t = true ∧ keepsRegs canKeys s t ∧ t.dom = s.dom ∧ onlyDict s t)

/-- PT_BANK_WRITE and SFU_BANK_WRITE of whole words of the bank that is not active: the bytes stand in the bank, the ready flag is
FALSE, and a check that runs is stopped with its code (R93, R95, R297, R298). -/
def Obligations.BankWrites : Prop :=
  ∀ (tr : Transport) (s : State) (b o : Nat) (d : Bytes), hostReady tr s = true → s.get Key.RPL_STATE ≠ 1 → buffered s →
    Memory.wf s = true → b ≤ 1 → d ≠ [] → d.length ≤ 4096 → d.length % 8 = 0 → o % 8 = 0 →
    (s.get Key.PT_ACTIVE = 1 - b → o + d.length ≤ 524288 →
      ∃ t, exec (.ptBankWrite tr b o d) s = .next t ∧ accepted tr t = true ∧ t.domBytes (ptDom b) o d.length = d ∧
        t.get Key.PT_SHADOW_READY = 0 ∧ t.ptCheck = false ∧ (s.ptCheck = true → t.get Key.PT_CHECK_RESULT = 8) ∧
        keepsRegs (Key.PT_SHADOW_READY :: Key.PT_CHECK_RESULT :: canKeys) s t ∧
        keepsBytes (ptDom b * domSpan + o) d.length s.dom t.dom ∧ t.stg = s.stg ∧ t.env = s.env ∧ t.ctxs = s.ctxs) ∧
    (s.get Key.SFU_PROG_ACTIVE = 1 - b → o + d.length ≤ 16384 →
      ∃ t, exec (.sfuBankWrite tr b o d) s = .next t ∧ accepted tr t = true ∧
        t.domBytes (if b = 0 then Dom.SFU_BANK0 else Dom.SFU_BANK1) o d.length = d ∧
        t.get Key.SFU_SHADOW_READY = 0 ∧ t.sfuCheck = false ∧ (s.sfuCheck = true → t.get Key.SFU_CHECK_RESULT = 5) ∧
        keepsRegs (Key.SFU_SHADOW_READY :: Key.SFU_CHECK_RESULT :: canKeys) s t ∧
        keepsBytes ((if b = 0 then Dom.SFU_BANK0 else Dom.SFU_BANK1) * domSpan + o) d.length s.dom t.dom ∧ t.stg = s.stg ∧
        t.env = s.env ∧ t.ctxs = s.ctxs)

/-- PQ_DESC_WRITE, PRESS_DESC_WRITE, PRESS_COPY_TABLE_WRITE, SFU_JOB_TABLE_WRITE, CLE_GROUPS_WRITE, FEP_WINDOWS_WRITE, FEP_ROUTE_WRITE
and FEP_REQ_TABLE_WRITE of entries that the table's own checks pass (R252, R271, R279, R300, R309, R334, R340, R350): the table
holds the bytes; a queue's descriptor resets its queue (R252). -/
def Obligations.TableWrites : Prop :=
  ∀ (tr : Transport) (s : State) (o : Nat) (d : Bytes), hostReady tr s = true → s.get Key.RPL_STATE ≠ 1 → buffered s →
    Memory.wf s = true → d ≠ [] → d.length ≤ 4096 →
    (o + d.length ≤ 8192 → (heardBytes tr o d s).pqDescRefused o d = false →
      ∃ t, exec (.pqDescWrite tr o d) s = .next t ∧ accepted tr t = true ∧ t.domBytes Dom.PQ_DESC o d.length = d ∧
        (∀ i, i < d.length / 16 → t.queue (o / 16 + i) = queueFresh (u d (16 * i) 16)) ∧
        (∀ q, q < o / 16 ∨ o / 16 + d.length / 16 ≤ q → t.queue q = s.queue q) ∧ keepsRegs canKeys s t ∧
        keepsBytes (Dom.PQ_DESC * domSpan + o) d.length s.dom t.dom ∧ t.stg = s.stg ∧ t.env = s.env ∧ t.ctxs = s.ctxs) ∧
    (o + d.length ≤ 262144 → (∀ c i, c < 8 → (s.ctx c).image = some i → i.latched = []) →
      ((heardBytes tr o d s).pressDescWrite o d).2 = none →
      ∃ t, exec (.pressDescWrite tr o d) s = .next t ∧ accepted tr t = true ∧ t.domBytes Dom.PRESS_DESC o d.length = d ∧
        t.get (trKey tr Key.PRESS_RESULT) = (o / 64) * 2 ^ 20 ∧ t.stg = s.stg ∧ t.ctxs = s.ctxs ∧ t.pools = s.pools) ∧
    (o + d.length ≤ 4096 → ((heardBytes tr o d s).copyTableWrite o d).2 = none →
      ∃ t, exec (.pressCopyTableWrite tr o d) s = .next t ∧ accepted tr t = true ∧
        t.domBytes Dom.PRESS_COPY_TABLE o d.length = d ∧ t.get (trKey tr Key.PRESS_RESULT) = (o / 16) * 2 ^ 20 + 2 ^ 19 ∧
        t.stg = s.stg ∧ t.ctxs = s.ctxs ∧ t.pools = s.pools) ∧
    (o + d.length ≤ 1024 → ((heardBytes tr o d s).jobTableWrite o d).2 = none →
      ∃ t, exec (.sfuJobTableWrite tr o d) s = .next t ∧ accepted tr t = true ∧
        t.domBytes Dom.SFU_JOB_TABLE o d.length = d ∧ t.get (trKey tr Key.SFU_RESULT) = (o / 16) * 2 ^ 20 ∧
        t.stg = s.stg ∧ t.ctxs = s.ctxs ∧ t.pools = s.pools) ∧
    (o + d.length ≤ 131040 → ((heardBytes tr o d s).groupsWrite o d).2 = none →
      ∃ t, exec (.cleGroupsWrite tr o d) s = .next t ∧ accepted tr t = true ∧
        t.domBytes Dom.CLE_GROUPS o d.length = d ∧ t.get (trKey tr Key.CLE_RESULT) = (o / 32) * 2 ^ 20 ∧
        keepsRegs (trKey tr Key.CLE_RESULT :: canKeys) s t ∧
        keepsBytes (Dom.CLE_GROUPS * domSpan + o) d.length s.dom t.dom ∧ onlyDict s t) ∧
    (o + d.length ≤ 4096 → ((heardBytes tr o d s).fepWindowsWrite o d).2 = none →
      ∃ t, exec (.fepWindowsWrite tr o d) s = .next t ∧ accepted tr t = true ∧
        t.domBytes Dom.FEP_WINDOWS o d.length = d ∧ t.get (trKey tr Key.FEP_RESULT) = (o / 32) * 2 ^ 16 ∧
        keepsRegs (trKey tr Key.FEP_RESULT :: canKeys) s t ∧
        keepsBytes (Dom.FEP_WINDOWS * domSpan + o) d.length s.dom t.dom ∧ onlyDict s t) ∧
    (o + d.length ≤ 32768 → o % 2 = 0 → d.length % 2 = 0 → (∀ i, i < d.length / 2 → routeOk (u d (2 * i) 2) = true) →
      ∃ t, exec (.fepRouteWrite tr o d) s = .next t ∧ accepted tr t = true ∧
        t.domBytes Dom.FEP_ROUTE o d.length = d ∧ t.get (trKey tr Key.FEP_RESULT) = (o / 2) * 2 ^ 16 ∧
        keepsRegs (trKey tr Key.FEP_RESULT :: canKeys) s t ∧
        keepsBytes (Dom.FEP_ROUTE * domSpan + o) d.length s.dom t.dom ∧ onlyDict s t) ∧
    (o + d.length ≤ 16384 → ((heardBytes tr o d s).fepTableWrite o d).2 = none →
      ∃ t, exec (.fepReqTableWrite tr o d) s = .next t ∧ accepted tr t = true ∧
        t.domBytes Dom.FEP_REQ_TABLE o d.length = d ∧ t.get (trKey tr Key.FEP_RESULT) = (o / 64) * 2 ^ 16 ∧
        keepsRegs (trKey tr Key.FEP_RESULT :: canKeys) s t ∧
        keepsBytes (Dom.FEP_REQ_TABLE * domSpan + o) d.length s.dom t.dom ∧ onlyDict s t)

/-- READ_SCALAR, LIST_READ and DESCRIBE of entries that may be read (R374): the transaction will answer the value, the values of the
list's entries stand in the read buffer, or the entry's type, access and length are answered; nothing else changes. -/
def Obligations.DictionaryReads : Prop :=
  ∀ (tr : Transport) (s : State) (tid idx sub : Nat) (e : Entry), hostReady tr s = true → buffered s → tid < 256 → idx < 65536 →
    sub < 256 → s.entry idx sub = some e →
    (e.isDomain = false → e.acc ≠ 3 →
      exec (.readScalar tr 0 tid idx sub) s = .next (taken tr
        { op := 1, tid := tid, idx := idx, sub := sub,
          value := some (BitVec.ofNat 64 ((heard tr s).readScalar tr idx sub e)),
          tail := zeros 8 ++ le 8 ((heard tr s).readScalar tr idx sub e) } (heard tr s))) ∧
    (exec (.describe tr 0 tid idx sub) s = .next (taken tr
        { op := 6, tid := tid, idx := idx, sub := sub,
          value := some (BitVec.ofNat 64
            ((heard tr s).entryLen tr (entryKey idx sub) e <<< 32 ||| e.acc <<< 8 ||| e.ty)),
          tail := le 1 e.ty ++ le 1 e.acc ++ zeros 2 ++ le 4 ((heard tr s).entryLen tr (entryKey idx sub) e) } (heard tr s))) ∧
    (e.isDomain = false → e.acc ≠ 3 →
      ∃ t, exec (.listRead tr 0 tid 1 [{ idx := idx, sub := sub }]) s = .next t ∧ accepted tr t = true ∧
        bufBytes (t.tport tr).rbuf 0 8 = le 8 ((heard tr s).readScalar tr idx sub e) ∧ keepsRegs canKeys s t ∧ t.dom = s.dom ∧
        onlyDict s t)

/-- WRITE_SCALAR of an entry that passes the checks of Table 15.4 and has no check of its own, while the replay log does not record:
the transaction is accepted and the entry's write stands (R374, R375); REGISTER_WRITE through a transport is the same write
(R370). INT_EVENT_ROUTE and COM_HEARTBEAT, for example, hold the value. -/
def Obligations.DictionaryWrites : Prop :=
  ∀ (tr : Transport) (s : State) (tid idx sub : Nat) (v : U64) (e : Entry), hostReady tr s = true → tid < 256 → idx < 65536 →
    sub < 256 → s.entry idx sub = some e → accessFault 2 e = none →
    (s.opened tr v.toNat).oneCheck { tr := tr, op := 2, tid := tid, idx := idx, sub := sub, value := v.toNat } e = none →
    entryKey idx sub ≠ Key.RST_CONTROL → entryKey idx sub ≠ Key.COM_CAN_DATA_RATE →
    ((s.opened tr v.toNat).writeScalar tr idx sub v.toNat).2 = none → s.get Key.RPL_STATE ≠ 1 →
    ((s.opened tr v.toNat).writeScalar tr idx sub v.toNat).1.get Key.RPL_STATE ≠ 1 →
    exec (.writeScalar tr 0 tid idx sub v) s = .next (taken tr { op := 2, tid := tid, idx := idx, sub := sub }
      ((s.opened tr v.toNat).writeScalar tr idx sub v.toNat).1) ∧
    exec (.registerWrite (.entry tr tid idx sub) v) s = .next (taken tr { op := 2, tid := tid, idx := idx, sub := sub }
      ((s.opened tr v.toNat).writeScalar tr idx sub v.toNat).1) ∧
    (entryKey idx sub = Key.INT_EVENT_ROUTE ∨ entryKey idx sub = Key.COM_HEARTBEAT →
      ((s.opened tr v.toNat).writeScalar tr idx sub v.toNat).1.get (entryKey idx sub) = v.toNat)

/-- A write of an entry that is read-only is refused with EC_DESC_RANGE detail 0xC1 (Table 15.4): no scalar changes but the log's and
the transport's refusal counter, which rises by one; memory, tables and units stand. -/
def Obligations.ReadOnlyWriteRefused : Prop :=
  ∀ (tr : Transport) (s : State) (tid idx sub : Nat) (v : U64) (e : Entry), hostReady tr s = true → quiet s = true → tid < 256 →
    idx < 65536 → sub < 256 → s.entry idx sub = some e → e.acc = 1 →
    ∃ t, exec (.writeScalar tr 0 tid idx sub v) s = .next t ∧
      (∀ x, (t.tport tr).busy = some x → x.code = 0x41 ∧ x.detail = 0xC1) ∧ (t.tport tr).busy ≠ none ∧
      t.get (match tr with | .cp => Key.DICT_REFUSED_CP | .can => Key.DICT_REFUSED_CAN) =
        satAdd max32 (s.get (match tr with | .cp => Key.DICT_REFUSED_CP | .can => Key.DICT_REFUSED_CAN)) 1 ∧
      t.get Key.FLT_LOG_HEAD = (s.get Key.FLT_LOG_HEAD + 1) % 2 ^ 32 ∧
      keepsRegs ((match tr with | .cp => Key.DICT_REFUSED_CP | .can => Key.DICT_REFUSED_CAN) :: Key.FLT_LOG_HEAD ::
        (List.range 4).map Key.INT_CAUSE ++ canKeys) s t ∧
      t.env = s.env ∧ t.stg = s.stg ∧ t.queues = s.queues ∧ t.ctxs = s.ctxs ∧ t.pools = s.pools

/-- CAPTURE and COMMIT of a DOMAIN entry (R374): the read buffer holds the bytes captured; the bytes of the write buffer stand in an
entry that has no check of its own (the expected step digest of a context, DRU_EXPECT). -/
def Obligations.DictionaryTransfers : Prop :=
  ∀ (tr : Transport) (s : State) (tid idx sub o n : Nat) (e : Entry), hostReady tr s = true → buffered s → Memory.wf s = true →
    tid < 256 → idx < 65536 → sub < 256 → s.entry idx sub = some e → e.isDomain = true → 0 < n → n ≤ 4096 → o + n ≤ e.len →
    e.len < 2 ^ 20 →
    (e.acc ≠ 3 → entryKey idx sub ≠ Dom.PQ_READ →
      ∃ t, exec (.capture tr 0 tid idx sub o n) s = .next t ∧ accepted tr t = true ∧
        (((heard tr s).readDomain tr (entryKey idx sub) o n).length = n →
          bufBytes (t.tport tr).rbuf 0 n = (heard tr s).readDomain tr (entryKey idx sub) o n) ∧
        keepsRegs canKeys s t ∧ t.dom = s.dom ∧ onlyDict s t) ∧
    (∀ c, c < 8 → entryKey idx sub = Dom.DRU_EXPECT c → s.get Key.RPL_STATE ≠ 1 →
      ∃ t, exec (.commit tr 0 tid idx sub o n) s = .next t ∧ accepted tr t = true ∧
        t.domBytes (Dom.DRU_EXPECT c) o n = bufBytes (s.tport tr).wbuf 0 n ∧ keepsRegs canKeys s t ∧
        keepsBytes (Dom.DRU_EXPECT c * domSpan + o) n s.dom t.dom ∧ onlyDict s t)

/-- The transports' own commands (R383, R384, R387, R388): WBUF_WRITE puts bytes into the field network's write buffer and RBUF_READ
answers bytes of its read buffer; a window read answers the location it names, and one of CP_RESP clears OVERLAP; a window write sets
CP_ARG or the write buffer; a request frame shorter than 16 bytes is refused with 0xC6 if it holds two bytes and ignored if not;
TRANSACTION_COMPLETE ends the transaction, with its result in the window or its response on the bus. -/
def Obligations.TransportCommands : Prop :=
  ∀ (s : State),
    (∀ (tid o : Nat) (d : Bytes), hostReady .can s = true → buffered s → tid < 256 → 0 < d.length → d.length ≤ 48 →
      o + d.length ≤ 4096 →
      (∃ t, exec (.wbufWrite 0 tid o d.length d) s = .next t ∧ accepted .can t = true ∧
        bufBytes t.can.wbuf o d.length = d ∧ keepsBytes o d.length s.can.wbuf t.can.wbuf ∧ t.can.rbuf = s.can.rbuf ∧ t.cp = s.cp ∧
        keepsRegs canKeys s t ∧ t.dom = s.dom ∧ onlyDict s t) ∧
      (∃ t, exec (.rbufRead 0 tid o d.length) s = .next t ∧ accepted .can t = true ∧
        (∀ x, t.can.busy = some x → x.tail = zeros 8 ++ bufBytes s.can.rbuf o d.length) ∧ t.can.rbuf = s.can.rbuf ∧
        t.can.wbuf = s.can.wbuf ∧ t.cp = s.cp ∧ keepsRegs canKeys s t ∧ t.dom = s.dom ∧ onlyDict s t)) ∧
    (s.clocked = true →
      (bits s.env.cpAddr 3 17 = 2 → ∃ t, exec .cpRespRead s = .next t ∧ t.outbox = s.outbox ++ [.cpData (BitVec.ofNat 64 s.cpResp)] ∧
        t.win = { s.win with overlap := false } ∧ t = { s with outbox := t.outbox, win := t.win }) ∧
      (∀ (o v : Nat), o = s.env.cpAddr → bits o 3 17 ≠ 2 →
        (bits o 3 17 = 0 → v = s.win.arg.toNat) → (bits o 3 17 = 3 → v = s.win.value.toNat) →
        (0x20 ≤ bits o 3 17 → bits o 3 17 < 0x40 → v = ((Sparse.get? s.win.list (bits o 3 17 - 0x20)).getD 0).toNat) →
        (0x200 ≤ bits o 3 17 → bits o 3 17 < 0x400 → v = unle (bufBytes s.cp.rbuf (8 * (bits o 3 17 - 0x200)) 8)) →
        (0x400 ≤ bits o 3 17 → bits o 3 17 < 0x600 → v = unle (bufBytes s.cp.wbuf (8 * (bits o 3 17 - 0x400)) 8)) →
        (4 ≤ bits o 3 17 → bits o 3 17 < 0x20 ∨ (0x40 ≤ bits o 3 17 ∧ bits o 3 17 < 0x200) ∨ 0x600 ≤ bits o 3 17 → v = 0) →
        ∃ t, exec .cpRespRead s = .next t ∧ t = { s with outbox := t.outbox, free := t.free } ∧
          (bits o 3 17 ≠ 1 → t.outbox = s.outbox ++ [.cpData (BitVec.ofNat 64 v)])) ∧
      (∀ v : U64, ∃ t, exec (.registerWrite .cpArg v) s = .next t ∧ t.win = { s.win with arg := v } ∧
        t = { s with win := t.win, free := t.free }) ∧
      (∀ (j : Nat) (v : U64), j < 32 → ∃ t, exec (.registerWrite (.cpList j) v) s = .next t ∧
        Sparse.get? t.win.list j = some v ∧ t = { s with win := t.win, free := t.free }) ∧
      (∀ (o : Nat) (v : U64), buffered s → o % 8 = 0 → o < 4096 → ∃ t, exec (.registerWrite (.cpWbuf o) v) s = .next t ∧
        bufBytes t.cp.wbuf o 8 = le 8 v.toNat ∧ t = { s with cp := t.cp, free := t.free })) ∧
    (∀ (bs : Bytes) (v : U64), hostReady .can s = true → quiet s = true → bs.length < 16 →
      (bs.length < 2 → ∃ t, exec (.registerWrite (.canFrame bs) v) s = .next t ∧ t.can = s.can ∧ keepsRegs canKeys s t ∧
        t = { s with regs := t.regs, free := t.free }) ∧
      (2 ≤ bs.length → u bs 0 1 ≠ 0x10 → u bs 0 1 ≠ 0x11 →
        ∃ t, exec (.registerWrite (.canFrame bs) v) s = .next t ∧
          (∃ x, t.can.busy = some x ∧ x.op = u bs 0 1 ∧ x.tid = u bs 1 1 ∧ x.code = 0x41 ∧ x.detail = 0xC6) ∧
          t.get Key.DICT_REFUSED_CAN = satAdd max32 (s.get Key.DICT_REFUSED_CAN) 1 ∧
          t.env = s.env ∧ t.stg = s.stg ∧ t.queues = s.queues ∧ t.ctxs = s.ctxs ∧ t.pools = s.pools)) ∧
    (∀ x : Txn, s.live = true → s.cp.busy = some x → x.warm = false → x.rate = none →
      ∃ t, exec (.transactionComplete .cp) s = .next t ∧ t.cp = { s.cp with busy := none } ∧
        t.win = { s.win with value := x.value.getD s.win.value, seq := (s.win.seq + 1) % 256, pos := x.pos, code := x.code,
                             detail := x.detail } ∧
        t = { s with cp := t.cp, win := t.win, free := t.free }) ∧
    (∀ x : Txn, s.live = true → s.can.busy = some x → x.warm = false → x.rate = none → s.field.waiting = [] →
      ∃ t, exec (.transactionComplete .can) s = .next t ∧ t.can = { s.can with busy := none } ∧
        t.outbox = s.outbox ++ [.canFrame (5 * 128 + s.get Key.COM_CAN_NODE) (canPad x.response)] ∧
        keepsRegs [Key.COM_CAN_TEC, Key.COM_CAN_STATE] s t ∧
        t = { s with regs := t.regs, can := t.can, field := t.field, outbox := t.outbox, free := t.free })

/-- PQ_READ by the host of a queue it consumes (R258): the words of the packet at READ stand in the read buffer, and READ stands
past the packet; every other queue and pointer stands. -/
def Obligations.QueuePacketRead : Prop :=
  ∀ (tr : Transport) (s : State) (q n : Nat), hostReady tr s = true → buffered s → s.get (trKey tr Key.PQ_SELECT) = q →
    pqKind (s.pqDesc q) ≠ 0 → pqConsumer (s.pqDesc q) = 0 → (heard tr s).pqHeadLen q = some n → 0 < n → n ≤ 32 →
    ∃ t, exec (.pqRead tr) s = .next t ∧ accepted tr t = true ∧
      t.queue q = { s.queue q with read := ptrAdd (s.queue q).read n } ∧ (∀ r, r ≠ q → t.queue r = s.queue r) ∧
      bufBytes (t.tport tr).rbuf 0 (128 * n) = (heard tr s).pqHead q ∧ keepsRegs canKeys s t ∧ t.qstore = s.qstore ∧
      t.env = s.env ∧ t.dom = s.dom

/-! ### Checks, copies, jobs and scans (chapters 4, 10, 11, 14) -/

/-- PT_CHECK_DONE and SFU_CHECK_DONE (R94, R298): the running check ends with its result; a pass sets the ready flag and forms the
shadow bank's CRC, a failure clears the flag. -/
def Obligations.BankChecksEnd : Prop :=
  ∀ (s : State), s.live = true →
    (s.ptCheck = true → s.bankResult (1 - s.get Key.PT_ACTIVE) < 2 ^ 64 →
      ∃ t, exec .ptCheckDone s = .next t ∧ t.ptCheck = false ∧
        t.get Key.PT_CHECK_RESULT = s.bankResult (1 - s.get Key.PT_ACTIVE) ∧
        (s.bankResult (1 - s.get Key.PT_ACTIVE) = 0 → t.get Key.PT_SHADOW_READY = 1 ∧
          t.get Key.PT_SHADOW_CRC = crc32c (s.domBytes (ptDom (1 - s.get Key.PT_ACTIVE)) 0 524288) % 2 ^ 64) ∧
        (s.bankResult (1 - s.get Key.PT_ACTIVE) ≠ 0 → t.get Key.PT_SHADOW_READY = 0 ∧
          t.get Key.PT_SHADOW_CRC = s.get Key.PT_SHADOW_CRC) ∧
        keepsRegs [Key.PT_CHECK_RESULT, Key.PT_SHADOW_READY, Key.PT_SHADOW_CRC] s t ∧
        t = { s with regs := t.regs, ptCheck := false, free := t.free }) ∧
    (s.sfuCheck = true →
      ∃ t, exec .sfuCheckDone s = .next t ∧ t.sfuCheck = false ∧
        t.get Key.SFU_CHECK_RESULT = bankCheck (s.sfuBank (1 - s.get Key.SFU_PROG_ACTIVE)) % 2 ^ 64 ∧
        (bankCheck (s.sfuBank (1 - s.get Key.SFU_PROG_ACTIVE)) = 0 → t.get Key.SFU_SHADOW_READY = 1 ∧
          t.get Key.SFU_SHADOW_CRC = crc32c (s.sfuBank (1 - s.get Key.SFU_PROG_ACTIVE)) % 2 ^ 64) ∧
        (bankCheck (s.sfuBank (1 - s.get Key.SFU_PROG_ACTIVE)) ≠ 0 → t.get Key.SFU_SHADOW_READY = 0 ∧
          t.get Key.SFU_SHADOW_CRC = s.get Key.SFU_SHADOW_CRC) ∧
        keepsRegs [Key.SFU_CHECK_RESULT, Key.SFU_SHADOW_READY, Key.SFU_SHADOW_CRC] s t ∧
        t = { s with regs := t.regs, sfuCheck := false })

/-- COPY_BEGIN, JOB_BEGIN and SCAN_BEGIN (R282, R301, R362): with the unit idle, its oldest start runs, with its descriptors and program
as they stand; nothing else changes. -/
def Obligations.UnitWorkBegins : Prop :=
  ∀ (s : State), s.live = true →
    (∀ m r, s.press.running = none → s.press.queue = m :: r →
      ∃ t x, exec .copyBegin s = .next t ∧ t.press = { queue := r, running := some x } ∧ t = { s with press := t.press } ∧
        x = { idx := m, desc := le 16 (s.copy m), src0 := le 64 (s.ld (cpSrc (s.copy m))),
              dst := le 64 (s.ld (cpDst (s.copy m))) }) ∧
    (∀ q r, s.sfu.running = none → s.sfu.queue = q :: r →
      ∃ t x, exec .jobBegin s = .next t ∧ t.sfu = { queue := r, running := some x } ∧ t = { s with sfu := t.sfu } ∧
        x = { idx := q, desc := le 16 (s.job q), src0 := le 64 (s.ld (jbSrc0 (s.job q))),
              src1 := le 64 (s.ld (jbSrc1 (s.job q))), dst := le 64 (s.ld (jbDst (s.job q))),
              prog := bankProg (s.sfuBank (s.get Key.SFU_PROG_ACTIVE)) (jbProg (s.job q)) }) ∧
    (∀ d r, s.cvu.running = none → s.cvu.queue = d :: r →
      ∃ t, exec .scanBegin s = .next t ∧ t.cvu = { s.cvu with queue := r, running := some (d, false) } ∧
        t = { s with cvu := t.cvu })

/-- COPY_COMPLETE and JOB_COMPLETE of a running copy or job that was not aborted and posts no notice (R281, R283, R301, R302): every
row of a copy that is no no-op, and of a job whose destination is not empty, has been moved or computed in order, and the lines
and the work done are counted for its owner; only the destination's memory and counters change. -/
def Obligations.CopyAndJobComplete : Prop :=
  ∀ (s : State) (r : Run), s.live = true → r.aborted = false →
    (s.press.running = some r → cpNotify (unle r.desc) = false →
      ∃ t u, exec .copyComplete s = .next t ∧ u = { s with free := s.free + 1, press := { s.press with running := none } } ∧
        (ldEmpty (unle r.dst) = true ∨ cpNoop (unle r.src0) (unle r.dst) (unle r.desc) = true →
          t = u.count (Key.PRESS_COPY_DONE (cpOwner (unle r.desc))) 1) ∧
        (ldEmpty (unle r.dst) = false → cpNoop (unle r.src0) (unle r.dst) (unle r.desc) = false →
          t = ((u.copyMove (unle r.src0) (unle r.dst) (unle r.desc)).count
            (Key.PRESS_COPY_LINES (cpOwner (unle r.desc))) (ldLines (unle r.src0) + ldLines (unle r.dst))).count
              (Key.PRESS_COPY_DONE (cpOwner (unle r.desc))) 1) ∧
        t.queues = s.queues ∧ t.ctxs = s.ctxs ∧ t.pools = s.pools ∧ t.dom = s.dom ∧ t.sfu = s.sfu) ∧
    (s.sfu.running = some r → jbNotify (unle r.desc) = false →
      ∃ t u, exec .jobComplete s = .next t ∧ u = { s with free := s.free + 1, sfu := { s.sfu with running := none } } ∧
        (ldEmpty (unle r.dst) = true → t = u.count (Key.SFU_JOB_DONE (jbOwner (unle r.desc))) 1) ∧
        (ldEmpty (unle r.dst) = false →
          t = (u.jobMove r (ldRows (unle r.dst)).length).1.count (Key.SFU_JOB_DONE (jbOwner (unle r.desc))) 1) ∧
        t.queues = s.queues ∧ t.ctxs = s.ctxs ∧ t.pools = s.pools ∧ t.dom = s.dom ∧ t.press = s.press)

/-- SCAN_COMPLETE of a running scan that was not aborted (R363, R364): the result over the bytes of its range stands in
CVU_LAST_RESULT, and the context's count of scans done rises by one; where the result agrees with the expected value or is not
compared, no mismatch is pending that was not. -/
def Obligations.ScanCompletes : Prop :=
  ∀ (s : State) (bs : Bytes), s.live = true → Memory.wf s = true → s.cvu.running = some (bs, false) → scNotify (unle bs) = false →
    scPort (unle bs) < 4 →
    (scCompare (unle bs) = false ∨ s.fresh.scanResult (unle bs) = scExpect (unle bs)) →
    ∃ t, exec .scanComplete s = .next t ∧ t.cvu = { s.cvu with running := none } ∧
      t.domBytes Dom.CVU_LAST_RESULT 0 16 =
        le 8 (s.fresh.scanResult (unle bs)) ++ le 1 (scTag (unle bs)) ++ le 1 (scCtx (unle bs)) ++ zeros 6 ∧
      t.get (Key.CVU_SCAN_DONE (scCtx (unle bs))) = satAdd max32 (s.get (Key.CVU_SCAN_DONE (scCtx (unle bs)))) 1 ∧
      keepsRegs (Key.CVU_SCAN_DONE (scCtx (unle bs)) :: Key.CVU_SCAN_LINES (scCtx (unle bs)) :: memKeys ++ bankKeys) s t ∧
      t.stg = s.stg ∧ t.env = s.env ∧ t.queues = s.queues ∧ t.ctxs = s.ctxs

/-! ### Tile windows and tile ports (chapters 2, 6, 7, 19) -/

/-- A command of a context's frame program has been marked as issued, and no other (R14, R183). -/
def marked (c : Nat) (s t : State) : Prop := ∃ m, t.issuedCmds = s.issuedCmds ++ [(c, m)]

/-- A GRADIENT command of a context has been taken up: marked now, or no longer waiting (R14, R16). -/
def tookGrad (c : Nat) (s t : State) : Prop :=
  (∀ d, ({ t.ctx d with gradsDue := [] } : Ctx) = { s.ctx d with gradsDue := [] }) ∧ (∀ d, d ≠ c → t.ctx d = s.ctx d) ∧
  (t.issuedCmds = s.issuedCmds ∨ marked c s t)

/-- The class fields of a TILE_WINDOW (Table 7.8). -/
def windowFields (work layer tile index port : Nat) : Nat :=
  layer <<< 224 ||| tile <<< 208 ||| index <<< 192 ||| port <<< 188 ||| work <<< 184

/-- The window that a TILE_WINDOW command opens now. -/
def opensWindow (c layer tile index port work : Nat) (s : State) : Win :=
  { ctx := c, step := s.step c, attempt := s.attemptOf c (s.step c), layer := layer, tile := tile, index := index, port := port,
    work := work, stamp := s.stamp, opened := s.time.ticks, bank := s.get Key.PT_ACTIVE, ptCrc := s.get Key.PT_ACTIVE_CRC }

/-- A control flit of one entry leaves on a tile port that is up, where fewer than 8 have left in the slot; else the entry waits (R458,
R459). -/
def announced (port : Nat) (e : Bytes) (s t : State) : Prop :=
  t.outbox = s.outbox ++ (if s.tileUp port = true ∧ (s.tileTxNow port).flits < 8 then [.control port (ctlFlit [e])] else []) ∧
  t.ctlWait = s.ctlWait ++ (if s.tileUp port = true ∧ ¬ (s.tileTxNow port).flits < 8 then [(port, e)] else [])

/-- TILE_WINDOW_FORWARD, _REINGEST and _REFETCH that the frame program names for this tick, its turn come (R14, R16, R97, R141, R148,
R208): the window stands behind the others with the active placement bank latched, and the command is marked; a forward window has its
layer's bias and mask read; a forward or re-ingest window announces itself on its tile port, if that is up. -/
def Obligations.TileWindowsOpen : Prop :=
  ∀ (c layer tile index port : Nat) (s : State), s.live = true → quiet s = true →
    (s.mayIssue c 0x01 (windowFields 0 layer tile index port) = true →
      ∃ t, exec (.tileWindowForward c layer tile index port) s = .next t ∧
      t.wins = s.wins ++ [opensWindow c layer tile index port 0 s] ∧ marked c s t ∧
      (∃ x, x ∈ t.selins ∧ x.ctx = c ∧ x.step = s.step c ∧ x.layer = layer) ∧ (∀ x, x ∈ s.selins → x ∈ t.selins) ∧
      announced port (ctlEntry 2 c 0 layer tile (s.step c)) s t ∧ keepsRegs (Key.TP_TX_BYTES port :: memKeys) s t ∧
      t = { s with wins := t.wins, selins := t.selins, outbox := t.outbox, ctlWait := t.ctlWait, tileTx := t.tileTx, regs := t.regs,
                   issuedCmds := t.issuedCmds, free := t.free }) ∧
    (s.mayIssue c 0x01 (windowFields 1 layer tile index port) = true →
      ∃ t, exec (.tileWindowReingest c layer tile index port) s = .next t ∧
      t.wins = s.wins ++ [opensWindow c layer tile index port 1 s] ∧ marked c s t ∧
      announced port (ctlEntry 2 c 1 layer tile (s.step c)) s t ∧ keepsRegs [Key.TP_TX_BYTES port] s t ∧
      t = { s with wins := t.wins, outbox := t.outbox, ctlWait := t.ctlWait, tileTx := t.tileTx, regs := t.regs,
                   issuedCmds := t.issuedCmds }) ∧
    (s.mayIssue c 0x01 (windowFields 2 layer tile index port) = true →
      ∃ t, exec (.tileWindowRefetch c layer tile index port) s = .next t ∧ marked c s t ∧
      t = { s with wins := s.wins ++ [opensWindow c layer tile index port 2 s], issuedCmds := t.issuedCmds })

/-- TILE_WINDOW_BEGIN (R208): a unit that is busy with no tile begins the window that is first in the order of TT_PRIORITY, context and
open tick among those open to it, if it is the first unit to begin it (a forward window only while the Scorer is free); TIN takes the
payloads that came before (log entry 79), and has the tile if they are all there; the time it was held is added to its context's
ACC_WAIT_TT. -/
def Obligations.WindowBegins : Prop :=
  ∀ (unit : Nat) (s : State) (w : Win), s.live = true → quiet s = true → (∀ x, x ∈ s.wins → x.ctx < 8) →
    s.nextWin unit = some w → s.occupied unit = false → w.begun = false → firstUnit w.work = unit →
    ∃ t, exec (.tileWindowBegin unit) s = .next t ∧ w ∈ s.wins ∧ w.openTo unit = true ∧
      (unit = 13 → w.work = 0 → s.occupied 1 = false) ∧
      (∀ x, x ∈ s.wins → x.openTo unit = true → (unit = 13 → x.work = 0 → s.occupied 1 = false) →
        lexLt (s.winKey x) (s.winKey w) = false) ∧
      (∀ b : Win, b = { w with begun := true, held := s.time.ticks - w.opened, input := w.input ++ w.early, early := [] } →
        t.wins = s.wins.map (fun (x : Win) =>
          if x.same w then { b with stage := if s.inputWhole b then (if w.work = 1 then 5 else 2) else w.stage } else x) ∧
        (s.inputWhole b = false → t.audits = s.audits)) ∧
      t.get (Key.ACC_WAIT_TT w.ctx) =
        satAdd (2 ^ 64 - 1) (s.get (Key.ACC_WAIT_TT w.ctx)) (s.time.ticks - w.opened) ∧
      keepsRegs (Key.ACC_WAIT_TT w.ctx :: s.wins.map (fun (x : Win) => Key.ACC_PREEMPT_COUNT x.ctx)) s t ∧
      t = { s with wins := t.wins, regs := t.regs, audits := t.audits }

/-- Tile-port events (R33, R122, R455 to R459): TP_UP follows its pin; a control flit that fails its CRC, or names no copy held,
only counts its bytes; a segment that continues an open window is taken into it (its payload kept for TIN where TIN has not begun the
window, log entry 79) and released with status 0, the series moving on; a tile-origin chunk of one returned record puts the record at
its place of the return stream it answers, into the piece's buffer where it has one. -/
def Obligations.TilePortEvents : Prop :=
  ∀ (p : Nat) (s : State),
    (∀ up : Bool, p < s.tpUp.length → ∃ t, exec (.tpUpChange p up) s = .next t ∧ t.tileUp p = up ∧
      (∀ q, q ≠ p → t.tileUp q = s.tileUp q) ∧ t = { s with tpUp := t.tpUp }) ∧
    (s.live = true → s.tileUp p = true →
      (∀ flit : Bytes, (u flit 252 4 ≠ crc32c (sub flit 0 252) ∨ s.helds = []) →
        ∃ t, exec (.controlFlitReceived p flit) s = .next t ∧ t.get (Key.TP_RX_BYTES p) = (s.get (Key.TP_RX_BYTES p) + 256) % 2 ^ 64 ∧
          keepsRegs [Key.TP_RX_BYTES p] s t ∧ t = { s with regs := t.regs, free := t.free }) ∧
      (quiet s = true → ∀ (h : BitVec 512) (bs : Bytes) (w : Win), bs.length = chLen h.toNat →
        chSeq h.toNat = s.nextSeq (chCtx h.toNat) (chStep h.toNat) p false →
        chCrc h.toNat = chunkCrc (chSeq h.toNat) s.node 0 h.toNat bs →
        s.wins.find? (s.segmentFits p h.toNat) = some w →
        ∃ t, exec (.ingressSegment p h bs) s = .next t ∧
          t.nextSeq (chCtx h.toNat) (chStep h.toNat) p false = chSeq h.toNat + 1 ∧
          t.rels = s.rels ++ [{ port := 48 + p, due := s.fslot + 2, status := 0, slot := s.fslot, ctx := chCtx h.toNat, seq := chSeq h.toNat,
                                step := chStep h.toNat, order := p }] ∧
          (∃ w', w' ∈ t.wins ∧ w'.same w = true ∧
            (segKind h.toNat = 1 → 1 ≤ w'.stage ∧ w'.present = u bs 0 32 ∧ w'.input = w.input ∧ w'.early = w.early ∧
              w'.ids = (List.range 256).map (fun i => u bs (32 + 4 * i) 4)) ∧
            (segKind h.toNat ≠ 1 → w'.input = (if w.begun then w.input ++ bs else w.input) ∧
              w'.early = (if w.begun then w.early else w.early ++ bs) ∧ w'.ids = w.ids)) ∧
          (∀ x, x.same w = false → (x ∈ t.wins ↔ x ∈ s.wins)) ∧
          keepsRegs [Key.TP_RX_BYTES p, Key.UNIT_BUSY 12] s t ∧
          t = { s with wins := t.wins, rels := t.rels, series := t.series, audits := t.audits, meter := t.meter, regs := t.regs,
                       free := t.free }) ∧
      (quiet s = true → ∀ (h : BitVec 512) (bs : Bytes) (r : Ret), bs.length = chLen h.toNat → s.retLen r = chLen h.toNat →
        0 < bs.length → s.partials = [] → chFirst h.toNat = 0 → Sparse.rising s.stg = true →
        chSeq h.toNat = s.nextSeq (chCtx h.toNat) (chStep h.toNat) p false →
        chCrc h.toNat = chunkCrc (chSeq h.toNat) s.node 0 h.toNat bs → s.rets = [r] → r.awaits p = true →
        r.ctx = chCtx h.toNat → r.step = chStep h.toNat → r.layer = chLayer h.toNat → r.tile = chTile h.toNat →
        s.answerSig r = chSig h.toNat → chPlan h.toNat = s.planId r.ctx → chDst h.toNat = s.node → chSrc h.toNat = s.node →
        (hdrOf bs).layer = r.layer → (hdrOf bs).tile = r.tile → (hdrOf bs).src = r.src → (hdrOf bs).fmt = s.retFmt r →
        (hdrOf bs).place < r.count → r.at_ (hdrOf bs).place = none →
        ∃ t r', exec (.tileOriginChunk p h bs) s = .next t ∧ t.nextSeq r.ctx r.step p false = chSeq h.toNat + 1 ∧
          t.rets = [r'] ∧ r'.same r = true ∧ r'.sent = r.sent ∧
          r'.filled = r.filled ++ [{ place := (hdrOf bs).place, at_ := s.time.ticks, port := 48 + p, cont := false }] ∧
          (∀ q a o, o = (hdrOf bs).place * bs.length % 4096 → o + bs.length ≤ 4096 →
            s.piece (s.retKey r ((hdrOf bs).place * bs.length / 4096)) = some q → q.buf = some a →
            Mem.read (fun _ => 0) t.stg (a + o) bs.length = bs ∧ keepsBytes (a + o) bs.length s.stg t.stg) ∧
          t.rels = s.rels ++ [{ port := 48 + p, due := s.fslot + 2, status := 0, slot := s.fslot, ctx := r.ctx, seq := chSeq h.toNat,
                                step := r.step, order := p }] ∧
          t.wins = s.wins ∧ t.dom = s.dom ∧ t.env = s.env ∧ t.ctxs = s.ctxs ∧ t.queues = s.queues))

/-! ### The forward path of a tile (chapters 2 to 4) -/

/-- Scalars of non-finite results (R47) and of the cycles units work (R430). -/
def workKeys : List Nat := Key.NUM_NONFINITE_COUNT :: Key.NUM_NONFINITE_FIRST :: (List.range 25).map Key.UNIT_BUSY

/-- SCORE_TILE_DONE, SELECT_TILE and CARD_TILE of the window that is the unit's next (R49, R53, R61, R77, R89, R148, R208): each present
position gets its logits, with those of the padding columns, then its selection, an absent one none and the status 512; the Carder's
route log stands in host memory at the tile's place and its drops are counted; a refetch dispatch writes no log. The window moves on to its next stage. -/
def Obligations.TileWorked : Prop :=
  ∀ (c layer tile : Nat) (s : State) (w : Win), s.live = true → quiet s = true → c < 8 →
    (s.win? c layer tile 0 = some w → s.nextWin 1 = some w →
      ∃ t w', exec (.scoreTileDone c layer tile) s = .next t ∧ w' ∈ t.wins ∧ w' = { w with stage := 3, logits := w'.logits } ∧
        (∀ p, p < 256 → nth w'.logits p [] = if bit w.present p then
          (runNf (do
            let ws ← weightOpnds (s.layer c layer) (weightRows (s.layer c layer) (s.fresh.weightRegion (s.layer c layer)))
            padLogits <$> logitsOf (s.layer c layer) ws (w.payload (s.layer c layer) p))).1 else []) ∧
        (s.get (Key.DRU_SCAN_BASE c) = 0 → t.env = s.env) ∧ keepsRegs (workKeys ++ memKeys ++ bankKeys) s t ∧
        t = { s with wins := t.wins, regs := t.regs, audits := t.audits, env := t.env, obs := t.obs, meter := t.meter, free := t.free }) ∧
    (s.win? c layer tile 0 = some w → s.nextWin 5 = some w →
      ∃ t w', exec (.selectTile c layer tile) s = .next t ∧ w' ∈ t.wins ∧ w' = { w with stage := 4, sels := w'.sels } ∧
        (∀ p, p < 256 → nth w'.sels p {} = if bit w.present p then
          (runNf ((s.router c w.step layer w.bank).pick (nth w.ids p 0) (nth w.logits p []))).1.sel
          else { status := 512, entries := choiceEntries (selK (s.layer c layer)) [] }) ∧
        (selStats (s.layer c layer) = false → t.stg = s.stg) ∧ (lyBackward (s.layer c layer) = false → t.env = s.env) ∧
        keepsRegs (Key.SEL_NAN_COUNT c :: Key.SEL_ROWMASK_COUNT c :: Key.SEL_SHORT_COUNT c :: Key.SEL_ZERODEN_COUNT c ::
          workKeys ++ memKeys ++ bankKeys) s t ∧
        t = { s with wins := t.wins, regs := t.regs, stats := t.stats, stg := t.stg, audits := t.audits, env := t.env, obs := t.obs,
                     meter := t.meter, free := t.free }) ∧
    (s.win? c layer tile 0 = some w → s.nextWin 7 = some w → s.occupied 7 = false → Sparse.rising s.env.mem = true →
      ∃ t pads ds log, exec (.cardTile c layer tile 0) s = .next t ∧ { w with stage := 5 } ∈ t.wins ∧
        ds = (runNf (gatedDecs (s.layer c layer) (cardTile (s.layer c layer) (s.chains w.bank (s.layer c layer)) w.sels))).1 ∧
        log = (routeLog (s.layer c layer) w ds pads).1 ∧
        Mem.read (fun _ => 0) t.env.mem (lyLog (s.layer c layer) + w.index * logStride (s.layer c layer)) log.length = log ∧
        keepsBytes (lyLog (s.layer c layer) + w.index * logStride (s.layer c layer)) log.length s.env.mem t.env.mem ∧
        t.get (Key.CRD_DROP_COUNT c) =
          satAdd max32 (s.get (Key.CRD_DROP_COUNT c)) (ds.filter (fun (d : Dec) => d.outcome == 2)).length ∧
        t.dom = s.dom ∧ t.ctxs = s.ctxs ∧ t.queues = s.queues ∧ t.rets = s.rets ∧ t.combs = s.combs) ∧
    (∀ x, s.win? c layer tile 2 = some w → w.begun = true → s.reingested c w.step layer tile = some x →
      ∃ t, exec (.cardTile c layer tile 2) s = .next t ∧ { w with stage := 5 } ∈ t.wins ∧ t.env = s.env ∧ t.dom = s.dom ∧
        t.ctxs = s.ctxs ∧ t.queues = s.queues ∧ t.rets = s.rets ∧ t.combs = s.combs)

/-! ### The token exchange (chapter 5) -/

/-- The records that a TILE_SEND's places hold, in place order, without pads and lost records (R119). -/
def egressRecords (k : PieceKey) (reclen first count : Nat) (s : State) : Bytes :=
  (List.range count).flatMap (fun i =>
    let a := (first + i) * reclen
    let lost := match s.spanPieces k a reclen with | some ps => ps.any Piece.void | none => true
    if lost || (hdrOf (s.spanBytes k a reclen)).pad then [] else s.spanBytes k a reclen)

/-- The stream that a TILE_SEND reads. -/
def egressKey (c layer tile src dir : Nat) (s : State) : PieceKey :=
  { ctx := c, step := s.step c, layer := layer, tile := tile, kind := s.tileKind c (s.step c) layer tile src dir, src := src, dst := s.node,
    idx := 0 }

/-- A copy on its port: the port is up and no inversion waits there (R110, R366). -/
def sendsClean (p : Nat) (s : State) : Prop :=
  p ∉ s.cvu.inject ∧ (if p < 48 then (s.port p).up = true else s.tileUp (p - 48) = true)

/-- The state in which a SEND looks for its chunk: the command issued, void returns in the places of a refused answer (R117). -/
def atSend (c : Nat) (x : Xfer) (s : State) : State := (s.fresh.issue c 0x02 (xferFields x) (some x.port)).voidFill c (s.step c) x

/-- SEND that the frame program names for this tick, its turn come (R14, R110, R116, R188, Table 5.3). Of a chunk that is complete the
image that leaves begins with the chunk's header and its payload, or its header alone for a pad-only chunk, and the copy is held until
its release. A chunk that is incomplete is late: nothing of it leaves, it waits, and the overrun is counted. -/
def Obligations.ChunkSent : Prop :=
  ∀ (c : Nat) (x : Xfer) (s : State), s.live = true → quiet s = true → s.mayIssue c 0x02 (xferFields x) = true →
    (∀ l, l ∈ s.lates → ¬ (l.ctx = c ∧ l.step = s.step c ∧ l.x = x)) → (atSend c x s).sendNothing c (s.step c) x = false →
    (∀ r, sendsClean x.port s → r.short = false → (atSend c x s).sendReady c (s.step c) x = some r →
      ∃ t tail h, exec (.send c x) s = .next t ∧
        t.outbox = s.outbox ++ [if x.port < 48 then
          .image x.port 1 (le 64 r.hdr ++ (if chPad r.hdr then [] else r.bytes) ++ tail)
          else .tileChunk (x.port - 48) (le 64 r.hdr ++ (if chPad r.hdr then [] else r.bytes))] ∧
        (x.port < 48 → 64 ≤ tail.length) ∧ marked c s t ∧
        t.helds = s.helds ++ [h] ∧ h.ctx = c ∧ h.step = s.step c ∧ h.x = r.x ∧ h.x.port = x.port ∧ h.slot = s.fslot ∧
        h.stamp = s.stamp ∧ h.again = false ∧ h.bytes = le 64 r.hdr ++ (if chPad r.hdr then [] else r.bytes) ∧
        t.ctxs = s.ctxs ∧ t.dom = s.dom ∧ t.env = s.env ∧ t.queues = s.queues ∧ t.wins = s.wins ∧ t.expects = s.expects) ∧
    (c < 8 → (atSend c x s).sendReady c (s.step c) x = none →
      ∃ t, exec (.send c x) s = .next t ∧ marked c s t ∧ t.helds = s.helds ∧
        t.lates = s.lates ++ [{ ctx := c, step := s.step c, x := x }] ∧
        t.get (Key.TT_OVERRUN_COUNT c) = satAdd max32 (s.get (Key.TT_OVERRUN_COUNT c)) 1 ∧
        t.ctxs = s.ctxs ∧ t.env = s.env ∧ t.queues = s.queues ∧ t.wins = s.wins ∧ t.expects = s.expects)

/-- TILE_SEND of places that have all committed (R119, R120, R455): their records, pads and lost ones left out, leave in chunks of
at most 4,096 bytes on the tile port, in place order, and the series toward the tile counts them. -/
def Obligations.PlacesSent : Prop :=
  ∀ (c port layer tile src first count dir seq : Nat) (s : State), s.live = true → quiet s = true →
    s.mayIssue c 0x03 (tileFields port layer tile src first count dir seq) = true →
    sendsClean (48 + port) s → c < 8 → layer < 256 → src < 2 ^ 14 → s.node < 2 ^ 14 → count < 2 ^ 16 →
    (∀ x, x ∈ s.series → x.next < 2 ^ 31) →
    s.fresh.tileSendReady { ctx := c, step := s.step c, port := port, layer := layer, tile := tile, src := src, first := first,
                            count := count, dir := dir, seq := seq } = true →
    ∃ (t : State) (chunks : List Bytes), exec (.tileSend c port layer tile src first count dir seq) s = .next t ∧
      t.outbox = s.outbox ++ chunks.map (fun b => .tileChunk port b) ∧
      (∀ b, b ∈ chunks → 64 < b.length ∧ b.length ≤ 64 + 4096) ∧
      (chunks.map (fun b => b.drop 64)).flatten =
        egressRecords (egressKey c layer tile src dir s) (s.tileLen c layer dir) first count s.fresh ∧
      t.nextSeq c (s.step c) port true = s.nextSeq c (s.step c) port true + chunks.length ∧ t.lateTiles = s.lateTiles ∧ marked c s t ∧
      t.env = s.env ∧ t.wins = s.wins ∧ t.combs = s.combs

/-- RESEND_QUEUE_SEND, RELEASE_DEADLINE and TRAILER_ARRIVAL (R111, R116): the first waiting copy leaves again, on the port of its route,
with its bytes unchanged and its sending counted; a copy without a release past slot s + 2F + 3 waits to be re-sent; a release word with STATUS 1
makes its copy wait, one with STATUS 0 ends its holding; a trailer that fails its CRC is counted and releases nothing. -/
def Obligations.CopiesReleased : Prop :=
  ∀ (p : Nat) (s : State), s.live = true → quiet s = true →
    (∀ h : Held, sendsClean p s → h.ctx < 8 → s.fresh.nextAgain p = some (.again h) →
      (∀ w, s.fresh.nextLateTile p = some w → lexLt w.1 [h.step, h.x.seq, h.x.dst] = false) →
      ∃ t tail, exec (.resendQueueSend p) s = .next t ∧
        t.outbox = s.outbox ++ [if p < 48 then .image p (if h.bytes = [] then 2 else 1) (h.bytes ++ tail)
          else .tileChunk (p - 48) h.bytes] ∧
        t.helds = s.helds.map (fun (x : Held) =>
          if x = h then { x with again := false, slot := s.fslot, x := { x.x with port := p } } else x) ∧
        t.get (Key.EXC_RESEND_COUNT h.ctx) = satAdd max32 (s.get (Key.EXC_RESEND_COUNT h.ctx)) 1 ∧
        keepsRegs (Key.EXC_RESEND_COUNT h.ctx :: Key.LNK_TX_FLITS p :: Key.TP_TX_BYTES (p - 48) :: bankKeys) s t ∧
        t = { s with outbox := t.outbox, helds := t.helds, rels := t.rels, regs := t.regs, ports := t.ports, tileTx := t.tileTx,
                     obs := t.obs, free := t.free }) ∧
    (∀ seq src dst, (∃ h, h ∈ s.helds ∧ h.x.port = p ∧ h.x.seq = seq ∧ h.x.src = src ∧ h.x.dst = dst ∧ h.again = false ∧
        h.slot + 2 * s.flight h.ctx p + 3 < s.fslot) →
      ∃ t h, exec (.releaseDeadline p seq src dst) s = .next t ∧ h ∈ s.helds ∧ h.x.port = p ∧ h.x.seq = seq ∧ h.again = false ∧
        h.slot + 2 * s.flight h.ctx p + 3 < s.fslot ∧
        t = { s with helds := s.helds.map (fun (x : Held) => if x = h then { x with again := true } else x) }) ∧
    (∀ tr : BitVec 512, p < 48 → (s.port p).up = true → (s.port p).heard = some s.fslot →
      (u (le 64 tr.toNat) 56 8 ≠ crc32c ((le 64 tr.toNat).take 56) →
        ∃ t, exec (.trailerArrival p tr) s = .next t ∧ t.get (Key.LNK_CHECK_FAIL p) = (s.get (Key.LNK_CHECK_FAIL p) + 1) % 2 ^ 64 ∧
          keepsRegs [Key.LNK_CHECK_FAIL p] s t ∧ t = { s with regs := t.regs }) ∧
      (∀ h : Held, u (le 64 tr.toNat) 56 8 = crc32c ((le 64 tr.toNat).take 56) → bit tr.toNat 18 = true →
        (∀ i, 0 < i → i < 7 → bit tr.toNat (64 * i + 18) = false) → s.heldFor p (u (le 64 tr.toNat) 0 8) = some h →
        ∃ t, exec (.trailerArrival p tr) s = .next t ∧
          (bits tr.toNat 16 2 = 1 →
            t = { s with helds := s.helds.map (fun (x : Held) => if x = h then { x with again := true } else x) }) ∧
          (bits tr.toNat 16 2 = 0 → t.helds = s.helds.erase h ∧ t.wins = s.wins ∧ t.env = s.env)))

/-- RECEIVE, CHUNK_ARRIVAL and OUTPUT_LATE (R114, R115, R184, R186, R188, R202): a planned receive becomes an expectation of its planned
slot, with a buffer asked for: at its tick, or before it outside slip frames; a chunk that passes every check of Table 5.7 is committed to
the buffer of its piece and released with status 0; while its buffer is not granted it waits uncommitted, and the grant commits it
(POOL_ALLOC_GRANT); an output that is incomplete at its readiness point is counted, logged and requests a slip. No combine has ended
whose return buffers an arrival could give back. -/
def Obligations.ChunkReceived : Prop :=
  ∀ (s : State), s.live = true → quiet s = true →
    (∀ (c : Nat) (x : Xfer) (st stamp : Nat),
      ((s.mayIssue c 0x04 (xferFields x) = true ∧ st = s.step c ∧ stamp = s.stamp) ∨
        (s.mayIssue c 0x04 (xferFields x) = false ∧ (s.tt c = 3 ∨ s.runs c = true) ∧ s.time.slipping = false ∧ s.time.slipDue = false ∧
          s.receiveAt c x = some (st, stamp))) →
      (∀ e, e ∈ s.expects → ¬ (e.ctx = c ∧ e.step = st ∧ e.x = x)) →
      ∃ t e, exec (.receive c x) s = .next t ∧ t.expects = s.expects ++ [e] ∧ e.ctx = c ∧ e.x = x ∧ e.step = st ∧ e.stamp = stamp ∧
        e.relay = (x.dst != s.node) ∧ e.committed = false ∧ e.void = false ∧ e.inHand = none ∧
        (s.mayIssue c 0x04 (xferFields x) = true → marked c s t) ∧
        (e.inSlot = false → (t.piece e.key).isSome = true) ∧ (e.inSlot = true → t.pieces = s.pieces) ∧
        t.outbox = s.outbox ∧ t.helds = s.helds ∧ t.wins = s.wins ∧ t.ctxs = s.ctxs ∧ t.env = s.env ∧ t.dom = s.dom ∧ t.queues = s.queues) ∧
    (∀ (p : Nat) (h : BitVec 512) (bs : Bytes) (e : Expect), p < 48 → (s.port p).up = true → Sparse.rising s.stg = true →
      s.expectFor p h.toNat = some e → e.inSlot = false → e.committed = false → chPad h.toNat = false → bs.length = chLen h.toNat →
      chCrc h.toNat = chunkCrc e.x.seq e.x.dst e.x.queue h.toNat bs → chSig h.toNat = e.x.sig → s.fieldsAgree e h.toNat = true →
      (∀ k, k ∈ s.combs → k.closed = false) →
      (∀ q a, s.piece e.key = some q → q.buf = some a →
        ∃ t q', exec (.chunkArrival p h bs) s = .next t ∧
          t.expects = s.expects.map (fun (y : Expect) =>
            if y = e then { e with committed := true, hdr := h.toNat, inHand := none } else y) ∧
          t.rels = s.rels ++ [{ port := p, due := s.fslot + 2, status := 0, slot := s.fslot, ctx := e.ctx, seq := e.x.seq, step := e.step,
                                order := p }] ∧
          Mem.read (fun _ => 0) t.stg a bs.length = bs ∧ keepsBytes a bs.length s.stg t.stg ∧
          t.piece e.key = some q' ∧ q'.ready = true ∧ q'.port = p ∧ q'.crc = chCrc h.toNat ∧ q'.buf = some a ∧
          t.helds = s.helds ∧ t.wins = s.wins ∧ t.ctxs = s.ctxs ∧ t.env = s.env ∧ t.cle = s.cle) ∧
      (∀ q, s.piece e.key = some q → q.buf = none → bs ≠ [] →
        ∃ t, exec (.chunkArrival p h bs) s = .next t ∧
          t.expects = s.expects.map (fun (y : Expect) =>
            if y = e then { e with inHand := some { port := p, slot := s.fslot, hdr := h.toNat, bytes := bs } } else y) ∧
          keepsRegs [Key.LNK_RX_FLITS p] s t ∧
          t = { s with expects := t.expects, ports := t.ports, regs := t.regs, free := t.free })) ∧
    (∀ (k a : Nat) (rest : List Nat) (r : PoolReq) (e : Expect) (y : InHand) (q : Piece), shaped s → k < 5 → r.ctx < 8 →
      Sparse.rising s.stg = true → s.get Key.POOL_STATE = 2 → s.nextGrant k = some r → (s.pool k).cache = a :: rest →
      (∀ x, x ∈ s.combs → x.closed = false) → e ∈ s.expects → (∀ x, x ∈ s.expects → x ≠ e → x.inHand = none) →
      e.inHand = some y → r.key = e.key → s.piece e.key = some q → q.buf = none → e.x.len ≠ 0 → chPad y.hdr = false → y.port < 48 →
      ∃ t q', exec (.poolAllocGrant k) s = .next t ∧
        t.expects = s.expects.map (fun (x : Expect) => if x = e then { e with committed := true, hdr := y.hdr, inHand := none } else x) ∧
        t.rels = s.rels ++ [{ port := y.port, due := y.slot + 2, status := 0, slot := y.slot, ctx := e.ctx, seq := e.x.seq,
                              step := e.step, order := y.port }] ∧
        Mem.read (fun _ => 0) t.stg a y.bytes.length = y.bytes ∧ t.piece e.key = some q' ∧ q'.ready = true ∧ q'.buf = some a ∧
        t.helds = s.helds ∧ t.wins = s.wins ∧ t.ctxs = s.ctxs ∧ t.env = s.env) ∧
    (∀ (c kind layer tile at_ : Nat), c < 8 → kind ≠ 7 → s.runs c = true → s.fresh.readyAt c kind layer tile = some at_ →
      at_ ≤ s.planTick + 1 → s.outDone c (s.step c) kind layer tile = false →
      (∀ l, l ∈ s.lateOuts → ¬ (l.ctx = c ∧ l.step = s.step c ∧ l.kind = kind ∧ l.layer = layer ∧
        l.tile = (if kind = 6 then 0 else tile))) →
      ∃ t, exec (.outputLate c kind layer tile) s = .next t ∧
        t.lateOuts = s.lateOuts ++ [{ ctx := c, step := s.step c, kind := kind, layer := layer, tile := if kind = 6 then 0 else tile }] ∧
        t.get (Key.TT_OVERRUN_COUNT c) = satAdd max32 (s.get (Key.TT_OVERRUN_COUNT c)) 1 ∧
        t.get Key.FLT_LOG_HEAD = (s.get Key.FLT_LOG_HEAD + 1) % 2 ^ 32 ∧
        t.get Key.SLIP_REQ_COUNT = satAdd max32 (s.get Key.SLIP_REQ_COUNT) 1 ∧
        t.wins = s.wins ∧ t.ctxs = s.ctxs ∧ t.env = s.env ∧ t.stg = s.stg ∧ t.pools = s.pools)

/-! ### Combines and the backward pass (chapters 5 and 6) -/

/-- The combine that a COMBINE command opens now: its close point (R131) is the slot named, and three more, a frame later in Block
mode. -/
def opensComb (c layer tile index nFrame nSlot work : Nat) (s : State) : Comb :=
  { ctx := c, step := s.step c, attempt := s.attemptOf c (s.step c), layer := layer, tile := tile, index := index, work := work,
    closeAt := (((s.ctx c).first + nFrame) * 256 + nSlot + 3) * 9 + (if work = 2 || s.steam c then 0 else 2304),
    done := if work = 2 then 0 else s.ledgerDone c (s.step c) layer index work }

/-- The class fields of a COMBINE (Table 7.8). -/
def combFields (work layer tile index nFrame nSlot : Nat) : Nat :=
  layer <<< 224 ||| tile <<< 208 ||| index <<< 192 ||| work <<< 188 ||| nFrame <<< 172 ||| nSlot <<< 164

/-- COMBINE_FORWARD, COMBINE_INPUT_GRADIENT, COMBINE_REFETCH_RETURN, ROUTE_LOG_LOAD, COMBINE_RECORD and COMBINE_CLOSE_POINT (R123
to R131, R149, R150, R423): the phase opens; its log comes in whole, read twice at most; a returned record that agrees with its
route entry is combined in turn (R41, R42) or, in B1, kept in its buffer (R149); at the close point the phase ends, with its ledger entry written, or is
late. No record lost with a refused chunk is assumed. -/
def Obligations.CombinePhases : Prop :=
  ∀ (c layer tile index work : Nat) (s : State), s.live = true → quiet s = true →
    (∀ nFrame nSlot,
      (s.mayIssue c 0x05 (combFields 0 layer tile index nFrame nSlot) = true →
        ∃ t, exec (.combineForward c layer tile index nFrame nSlot) s = .next t ∧ marked c s t ∧
        t.combs = s.combs ++ [opensComb c layer tile index nFrame nSlot 0 s.fresh] ∧ keepsRegs memKeys s t ∧
        t = { s with combs := t.combs, regs := t.regs, issuedCmds := t.issuedCmds, free := t.free }) ∧
      (s.mayIssue c 0x05 (combFields 1 layer tile index nFrame nSlot) = true →
        ∃ t, exec (.combineInputGradient c layer tile index nFrame nSlot) s = .next t ∧ marked c s t ∧
        t.combs = s.combs ++ [opensComb c layer tile index nFrame nSlot 1 s.fresh] ∧ keepsRegs memKeys s t ∧
        t = { s with combs := t.combs, regs := t.regs, issuedCmds := t.issuedCmds, free := t.free }) ∧
      (s.mayIssue c 0x05 (combFields 2 layer tile index nFrame nSlot) = true →
        ∃ t, exec (.combineRefetchReturn c layer tile index nFrame nSlot) s = .next t ∧ marked c s t ∧
        t = { s with combs := s.combs ++ [opensComb c layer tile index nFrame nSlot 2 s], issuedCmds := t.issuedCmds })) ∧
    (∀ (k : Comb), s.losts = [] → s.combOf c k.step layer tile work = some k →
      (∀ (corrupt : Nat) (log : Bytes), s.comb? c layer tile work (fun k => k.log.isNone && !k.closed) = some k → corrupt ≤ 1 →
        log = s.fresh.readLog (s.layer c layer) k.index → logOk log = true →
        (work = 0 → ∃ w, w ∈ s.wins ∧ w.ctx = c ∧ w.step = k.step ∧ w.layer = layer ∧ w.tile = tile ∧ w.work = 0 ∧ w.stage = 5) →
        ∃ t k', exec (.routeLogLoad c layer tile work corrupt) s = .next t ∧ t.combOf c k.step layer tile work = some k' ∧
          k'.log = some log ∧ k'.ents.length = (logEntries log).length ∧ t.wins = s.wins ∧ t.expects = s.expects ∧ t.rets = s.rets) ∧
      (∀ (j : Nat) (e : CEnt) (r : Bytes × List Nat), s.comb? c layer tile work (fun k => k.log.isSome && !k.closed) = some k →
        k.ents[j]? = some e → e.state = 0 → s.fresh.returned k e = some r → s.fresh.mayCombine k e r.2 = true →
        (hdrOf r.1).gap = false → s.headerAgrees k e e.entry (hdrOf r.1) = true →
        (k.sums.any (fun (x : Nat × List F32) => x.1 == e.pos) = true ∨ s.openLines + lyD (s.layer c layer) / 128 ≤ 4096) →
        ∃ t k' e', exec (.combineRecord c layer tile work j) s = .next t ∧ t.combOf c k.step layer tile work = some k' ∧
          k'.ents[j]? = some e' ∧ e'.state = 1 ∧ (∀ i, i ≠ j → k'.ents[i]? = k.ents[i]?) ∧ k'.log = k.log ∧
          (work = 2 → e' = { e with state := 1 } ∧ k'.sums = k.sums) ∧
          (work ≠ 2 → (∃ x, x ∈ k.ents ∧ x.pos = e.pos ∧ x.state = 0 ∧ x.rank ≠ e.rank) →
            (e.pos, (runNf (do
              let o ← decodePayload (combFmt (s.layer c layer) work) (lyD (s.layer c layer)) (r.1.drop 32)
              combineInto ((k.sums.find? (fun (x : Nat × List F32) => x.1 == e.pos)).map (·.2))
                (if work = 1 then F32.one else leFinal e.entry) o)).1) ∈ k'.sums) ∧
          t.wins = s.wins ∧ t.expects = s.expects ∧ t.rets = s.rets) ∧
      (s.comb? c layer tile work (fun k => !k.closed && !k.late && decide (k.closeAt ≤ s.planTick + 1)) = some k →
        s.fresh.ownRet k = none → Sparse.rising s.env.mem = true →
        (k.complete = true → ∃ t k', exec (.combineClosePoint c layer tile work) s = .next t ∧
          t.combOf c k.step layer tile work = some k' ∧ k' = { k with closed := true, crcs := k'.crcs } ∧
          (work ≠ 2 → (work = 0 → lyBackward (s.layer c layer) = false) →
            Mem.read (fun _ => 0) t.env.mem (s.ledgerAddr c layer k.index work) 64 =
              le 8 (k.step % 2 ^ 48) ++ le 4 (s.get (Key.TT_FRAME_BASE c)) ++ le 1 work ++ le 1 c ++ zeros 18 ++
                le 32 (k.done ||| k.written) ∧
            keepsBytes (s.ledgerAddr c layer k.index work) 64 s.env.mem t.env.mem) ∧ t.wins = s.wins ∧ t.expects = s.expects) ∧
        (k.complete = false → ∃ t k', exec (.combineClosePoint c layer tile work) s = .next t ∧
          t.combOf c k.step layer tile work = some k' ∧ k' = { k with late := true, crcs := k'.crcs } ∧ t.env = s.env ∧
          (∃ l, l ∈ t.lateOuts ∧ l.ctx = c ∧ l.step = k.step ∧ l.kind = work ∧ l.layer = layer ∧ l.tile = tile))))

/-- GRADIENT_B2, _B4, _B5 and _B6 (R14, R16, R142, R145, R153, R155, R157, R158), each due in its step `st`: B2 of a tile whose log
and saves pass keeps them, gives each route entry its gate gradient, +0 for a dropped or closed one, and adds the tile's visits to the
layer's; B4 gives each position that chose an expert its logit gradients; B5 adds the tile to the accumulator; B6, after the last tile,
hands the layer to the Sum-Alls. -/
def Obligations.GradientPhases : Prop :=
  ∀ (c layer tile index st : Nat) (s : State), s.live = true → quiet s = true →
    (∀ (corrupt : Nat), s.gradStep c (gradFields 0 layer tile index) = st → s.gradDue c st (gradFields 0 layer tile index) = true →
      s.grad c st layer tile = none →
      (∀ k, s.combOf c st layer tile 0 = some k → k.closed = true) →
      (bwRefetch (s.layer c layer) = true → ∃ k, s.combOf c st layer tile 2 = some k ∧ k.closed = true) →
      b2Check (s.fresh.b2Tiles (s.layer c layer) index) (s.layer c layer) c st layer tile corrupt = none →
      ∃ t g, exec (.gradientB2 c layer tile index corrupt) s = .next t ∧ t.grads = s.grads ++ [g] ∧ g.ctx = c ∧ g.step = st ∧
        g.layer = layer ∧ g.tile = tile ∧ g.index = index ∧ g.b4 = false ∧ g.b5 = false ∧
        g.log = (s.fresh.b2Tiles (s.layer c layer) index).log ∧ g.lsave = (s.fresh.b2Tiles (s.layer c layer) index).lsave ∧
        g.dg.length = (logEntries g.log).length ∧
        (∀ j x, (logEntries g.log)[j]? = some x →
          leOutcome x.2 = 2 ∨ closedBit (s.fresh.b2Tiles (s.layer c layer) index).osave j = true → g.dg[j]? = some 0) ∧
        (t.layerGrad c st layer).map LayerGrad.visits = some (addCounts (s.layerGradOr c st layer).visits
          (visitsOf (selE (s.layer c layer)) ((logEntries g.log).map (·.2)))) ∧
        t.env = s.env ∧ t.wins = s.wins ∧ t.combs.length = s.combs.length) ∧
    (∀ g, s.gradStep c (gradFields 1 layer tile index) = st → s.gradDue c st (gradFields 1 layer tile index) = true →
      s.grad c st layer tile = some g → g.b4 = false →
      (F32.isZero (bwAlpha (s.layer c layer)) = true ∨ (s.layerGradOr c st layer).aux.isSome = true ∨
        s.statsDone c st layer = true) →
      ∃ t g', exec (.gradientB4 c layer tile index) s = .next t ∧ t.grad c st layer tile = some g' ∧
        g' = { g with dx := g'.dx, b4 := true } ∧
        g'.dx.map (·.1) = (List.range 256).filter (fun p => nChosen (logStatus g.log p) != 0) ∧
        (∃ lg, t.layerGrad c st layer = some lg ∧ lg.aux.isSome = true ∧
          lg.visits = (s.layerGradOr c st layer).visits) ∧
        keepsRegs (workKeys ++ bankKeys) s t ∧ tookGrad c s t ∧
        t = { s with grads := t.grads, layerGrads := t.layerGrads, regs := t.regs, obs := t.obs, meter := t.meter, ctxs := t.ctxs,
                     issuedCmds := t.issuedCmds, free := t.free }) ∧
    (∀ g w, s.gradStep c (gradFields 2 layer tile index) = st → s.gradDue c st (gradFields 2 layer tile index) = true →
      s.grad c st layer tile = some g → s.reingested c st layer tile = some w → g.b4 = true → g.b5 = false →
      (∀ i, i ∈ s.forwardTiles c st layer → i < tile → ∃ x, s.grad c st layer i = some x ∧ x.b5 = true) →
      (bwRouter (s.layer c layer) = true → ∃ k, s.combOf c st layer tile 1 = some k ∧ k.closed = true) →
      ∃ t, exec (.gradientB5 c layer tile index) s = .next t ∧
        t.grad c st layer tile = some { g with b5 := true, routerDone := true } ∧
        (∃ lg, t.layerGrad c st layer = some lg ∧ lg.tiles = (s.layerGradOr c st layer).tiles + 1 ∧
          lg.visits = (s.layerGradOr c st layer).visits) ∧
        (bwRouter (s.layer c layer) = false → bwHost (s.layer c layer) = false → t.env = s.env) ∧ t.wins = s.wins ∧ t.combs = s.combs ∧
        tookGrad c s t ∧ t.dom = s.dom) ∧
    (s.gradStep c (gradFields 3 layer tile index) = st → s.gradDue c st (gradFields 3 layer tile index) = true →
      (∀ i, i ∈ s.forwardTiles c st layer → ∃ x, s.grad c st layer i = some x ∧ x.b5 = true) →
      (s.layerGradOr c st layer).reduced = false →
      ∃ t, exec (.gradientB6 c layer tile index) s = .next t ∧
        (∀ x, x = s.layerGradOr c st layer → t.layerGrad c st layer = some { x with reduced := true }) ∧
        keepsRegs [Key.UNIT_BUSY 8] s t ∧ tookGrad c s t ∧
        t = { s with layerGrads := t.layerGrads, regs := t.regs, meter := t.meter, ctxs := t.ctxs, issuedCmds := t.issuedCmds,
                     free := t.free })

/-- GRADIENT_B7_RESIDENCY, RESIDENCY_RETRY, RESIDENCY_DEADLINE and DELIVERY_FORM (R159 to R163): the check asks the state holder for
its residency word and asks again; at its deadline the layer delivers nothing and the step is replayed; once both Sum-Alls of the layer
have ended the delivery records stand in piece slots of the gradient's channel. -/
def Obligations.DeliveryPhases : Prop :=
  ∀ (c layer : Nat) (s : State), s.live = true → quiet s = true → s.fep.run = [] → s.fep.starts = [] →
    (∀ tile index, s.mayIssue c 0x06 (gradFields 4 layer tile index) = true → (s.layerGradOr c (s.step c) layer).check = none →
      ∃ t lg, exec (.gradientB7Residency c layer tile index) s = .next t ∧ marked c s t ∧ t.layerGrad c (s.step c) layer = some lg ∧
        lg.check = some (s.stamp, bwDeadline (s.layer c layer)) ∧ lg.readAt = s.frame ∧
        (∃ r, (r ∈ t.fep.wait ∨ r ∈ t.fep.reqs) ∧ r.asker = .residency (s.step c) layer ∧ r.credit = some c ∧
          r.msg.kind = 1 ∧ r.msg.dst = bwState (s.layer c layer) ∧ r.msg.offset = bwRes (s.layer c layer) ∧ r.msg.len = 8) ∧
        t.wins = s.wins ∧ t.ctxs = s.ctxs ∧ t.env = s.env ∧ t.cle = s.cle) ∧
    (∀ g k, g ∈ s.layerGrads → (∀ x, x ∈ s.layerGrads → x.ctx = c → x.layer = layer → x = g) → g.ctx = c → g.layer = layer →
      g.waiting = true → g.check = some k →
      (s.resOver g = false → g.readAt < s.frame → k.1 % 2304 / 9 = s.slot →
        ∃ t, exec (.residencyRetry c layer) s = .next t ∧ t.layerGrad c g.step layer = some { g with readAt := s.frame } ∧
          (∃ r, (r ∈ t.fep.wait ∨ r ∈ t.fep.reqs) ∧ r.asker = .residency g.step layer ∧ r.credit = some c ∧ r.msg.kind = 1 ∧
            r.msg.dst = bwState (s.layer c layer)) ∧ t.wins = s.wins ∧ t.ctxs = s.ctxs ∧ t.env = s.env ∧ t.cle = s.cle) ∧
      (s.expired k.1 k.2 = true →
        ∃ t, exec (.residencyDeadline c layer) s = .next t ∧ t.layerGrad c g.step layer = some { g with absent := true } ∧
          t.get Key.FLT_LOG_HEAD = (s.get Key.FLT_LOG_HEAD + 1) % 2 ^ 32 ∧
          (∀ p, s.runs c = true → (s.ctx c).noticed ≠ some s.planFrame →
            p = ({ kind := 3, target := s.noticeTarget, arg := c } : Notice) → p ∈ t.seen) ∧
          t.wins = s.wins ∧ t.fep = s.fep ∧ t.env = s.env ∧ t.cle = s.cle)) ∧
    (∀ g o, g ∈ s.layerGrads → (∀ x, x ∈ s.layerGrads → x.ctx = c → x.layer = layer → x = g) → g.ctx = c → g.layer = layer →
      (∀ p, p ∈ s.cle.slots → p.deliv = true → ¬ (p.ctx = c ∧ p.step = g.step ∧ p.seq = layer)) → g.reduced = true → g.formed = false →
      s.cle.ops.find? (fun (o : Coll) => o.ctx == c && o.step == g.step && o.layer == layer && o.kind == 1) = some o → o.done = true →
      (∃ o', o' ∈ s.cle.ops ∧ o'.ctx = c ∧ o'.step = g.step ∧ o'.layer = layer ∧ o'.kind = 2 ∧ o'.done = true) →
      s.cle.slots.length + ceilDiv (s.delivStream g).length 4096 ≤ 256 → Memory.wf s = true →
      ∃ t, exec (.deliveryForm c layer) s = .next t ∧ t.layerGrad c g.step layer = some { g with formed := true } ∧
        (∀ i, i < ceilDiv (s.delivStream g).length 4096 → ∃ p, p ∈ t.cle.slots ∧ p.deliv = true ∧ p.ctx = c ∧ p.step = g.step ∧
          p.seq = layer ∧ p.group = o.group ∧ p.piece = i ∧ t.slotPart p 3 0 = some (((s.delivStream g).drop (4096 * i)).take 4096)) ∧
        t.cle.ops = s.cle.ops ∧ t.wins = s.wins ∧ t.ctxs = s.ctxs ∧ t.env = s.env ∧ t.fep = s.fep)

/-! ### Collectives (chapter 12) -/

/-- The operation that a COLLECTIVE command makes known now. -/
def opensColl (c group seq src dst fmt cap queue : Nat) (signal : Bool) (kind layer : Nat) (s : State) : Coll :=
  { ctx := c, step := s.step c, group := group, seq := seq, srcDesc := src, dstDesc := dst, fmt := fmt, cap := cap, queue := queue,
    signal := signal, kind := kind, layer := layer, stamp := s.stamp }

/-- COLLECTIVE, COLLECTIVE_BEGIN, COLLECTIVE_UP_VALUE, COLLECTIVE_RESULT_WRITE and COLLECTIVE_TIMEOUT (R310, R312, R315, R316, R321,
R324, R326): the operation is known with its command's fields; it begins in its group's turn, padded or cut to CAPACITY; the up value
of a piece without children is the member's own; the root's result of the last piece ends the operation; one past COLL_TIMEOUT
is aborted with class 0x32. -/
def Obligations.CollectivePhases : Prop :=
  ∀ (c group seq : Nat) (s : State), s.live = true → quiet s = true → c < 8 →
    (∀ src dst fmt cap queue signal kind layer,
      s.mayIssue c 0x07 (collFields group seq src dst fmt cap queue signal kind layer) = true → s.coll c (s.step c) group seq = none →
      ∃ t, exec (.collective c group seq src dst fmt cap queue signal kind layer) s = .next t ∧ marked c s t ∧
        t.coll c (s.step c) group seq = some (opensColl c group seq src dst fmt cap queue signal kind layer s) ∧
        (∀ o, o ∈ s.cle.ops → o ∈ t.cle.ops) ∧ t = { s with cle := t.cle, issuedCmds := t.issuedCmds }) ∧
    (∀ o, s.collFor c group seq (fun o => !o.begun) = some o → s.collTurn o = true →
      ∃ t, exec (.collectiveBegin c group seq) s = .next t ∧
        t.coll c o.step group seq = some { o with begun := true, padded := o.cap - s.collLen o, dropped := s.collLen o - o.cap } ∧
        t.get (Key.CLE_OVERFLOW c) = satAdd max32 (s.get (Key.CLE_OVERFLOW c)) (s.collLen o - o.cap) ∧
        keepsRegs [Key.CLE_OVERFLOW c] s t ∧ t = { s with cle := t.cle, regs := t.regs }) ∧
    (∀ o j, s.collFor c group seq (fun o => o.begun && !(o.upped.contains j)) = some o → j < o.pieces → s.collSource o = true →
      s.collLeft o j = none → s.collRight o j = none → s.cle.slots.length < 256 → Memory.wf s = true →
      ∃ t p, exec (.collectiveUpValue c group seq j) s = .next t ∧
        t.coll c o.step group seq = some { o with upped := o.upped ++ [j] } ∧ t.pieceSlot c o.step group seq j false = some p ∧
        t.slotPart p 1 s.node = some (elemBytes o.fmt (runNf (s.fresh.collOwn o j)).1) ∧ t.wins = s.wins ∧ t.ctxs = s.ctxs ∧ t.env = s.env ∧
        t.queues = s.queues) ∧
    (∀ o j p bs, s.collFor c group seq (fun o => o.begun && !o.done && !(o.written.contains j)) = some o → o.signal = false →
      o.kind = 0 → s.pieceSlot c o.step group seq j false = some p → s.collParent o j = none → s.slotPart p 1 s.node = some bs →
      o.written.length + 1 = o.pieces →
      ∃ t, exec (.collectiveResultWrite c group seq j) s = .next t ∧
        t.coll c o.step group seq = some { o with written := o.written ++ [j], done := true } ∧
        t.get (Key.CLE_OPS_DONE c) = satAdd max32 (s.get (Key.CLE_OPS_DONE c)) 1 ∧ t.wins = s.wins ∧ t.ctxs = s.ctxs ∧
        t.queues = s.queues ∧ t.dom = s.dom) ∧
    (∀ o, s.collFor c group seq (fun o => !o.done && s.expired o.stamp (s.collTimeout c)) = some o → o.signal = false →
      ∃ t, exec (.collectiveTimeout c group seq) s = .next t ∧
        (∃ o', t.coll c o.step group seq = some o' ∧ o' = { o with aborted := 0x32 }) ∧
        (∀ p, p ∈ t.cle.slots → ¬ (p.ctx = c ∧ p.step = o.step ∧ p.group = group ∧ p.seq = seq ∧ p.deliv = false)) ∧
        t.get (Key.CLE_ABORTS c) = satAdd max32 (s.get (Key.CLE_ABORTS c)) 1 ∧
        t.get Key.FLT_LOG_HEAD = (s.get Key.FLT_LOG_HEAD + 1) % 2 ^ 32 ∧ t.wins = s.wins ∧ t.env = s.env)

/-! ### Digests and the checker (chapter 8) -/

/-- TILE_DIGEST_CLOSE and STEP_DIGEST_CLOSE (R218 to R223): a tile whose items are all ready gets the SHA-256 of its message, a step
whose tiles, weight folds and deliveries are all ready that of its own, which DRU_STEP_DIGEST then holds with the step. -/
def Obligations.DigestsClose : Prop :=
  ∀ (c : Nat) (s : State) (a : Audit), s.live = true → quiet s = true → c < 8 → s.notes c a.step = some a → a.ctx = c →
    (∀ layer kind tile crcs,
      s.audits.find? (fun (x : Audit) => x.ctx == c && x.closable.contains (layer, kind, tile) &&
        !(x.tiles.any (fun (y : Nat × Nat × Nat × Bytes) => y.1 == layer && y.2.1 == kind && y.2.2.1 == tile)) &&
        x.folds.any (fun (f : Nat × Nat) => f.1 == layer)) = some a →
      (s.combOf c a.step layer tile kind).bind s.combCrcs = some crcs →
      ∃ t d, exec (.tileDigestClose c layer kind tile) s = .next t ∧
        d = sha256 (s.tileMessage a layer kind tile (crc64 (crcs.flatMap (le 4)))) ∧
        t.notes c a.step = some { a with tiles := a.tiles ++ [(layer, kind, tile, d)] } ∧
        (s.audit c = 0 → t.env = s.env ∧ keepsRegs [Key.UNIT_BUSY 20] s t) ∧
        (s.audit c = 1 → s.get (Key.DRU_RING_LEN c) ≠ 0 →
          (s.get (Key.DRU_RING_HEAD c) + 64) % s.get (Key.DRU_RING_LEN c) ≠ s.get (Key.DRU_RING_TAIL c) →
          t.get (Key.DRU_RING_HEAD c) = (s.get (Key.DRU_RING_HEAD c) + 64) % s.get (Key.DRU_RING_LEN c) ∧
          keepsBytes (s.get (Key.DRU_RING_BASE c) + s.get (Key.DRU_RING_HEAD c)) 64 s.env.mem t.env.mem) ∧
        t = { s with audits := t.audits, env := t.env, regs := t.regs, meter := t.meter, free := t.free }) ∧
    (∀ folds, Memory.wf s = true → s.fresh.delivFolds a (s.fresh.planNow c) = some folds → a.closed = false →
      (∀ x, x ∈ digestTiles (s.fresh.planNow c) → ∃ y, y ∈ a.tiles ∧ y.1 = x.1 ∧ y.2.1 = x.2.1 ∧ y.2.2.1 = x.2.2) →
      s.layers c ≤ a.folds.length → s.holdsPart c = true →
      ∃ t d, exec (.stepDigestClose c a.step) s = .next t ∧ d = sha256 (s.stepMessage a folds) ∧
        t.closedNotes c a.step = some { a with digest := d, closed := true } ∧
        t.domBytes (Dom.DRU_STEP_DIGEST c) 0 40 = le 8 a.step ++ d ∧ t.wins = s.wins ∧ t.ctxs = s.ctxs ∧
        (s.dru.waiting = [] → t.stg = s.stg))

/-- DIGEST_POST, POST_SET_CHECK and POST_SET_TIMEOUT (R224 to R226): the closed digest of the step before goes to the checker as a
flagged store of its record, and none in the first step after a start; a whole set is compared once, each replica whose digest
alone differs logged; an incomplete one is given up after 64 plan frames. -/
def Obligations.PostsChecked : Prop :=
  ∀ (c : Nat) (s : State), s.live = true → quiet s = true →
    (∀ checker check replica last, s.mayIssue c 0x08 (postFields checker check replica last) = true →
      s.fep.run = [] → s.fep.starts = [] →
      (s.step c = s.get (Key.TT_FIRST_STEP c) → ∃ t, exec (.digestPost c checker check replica last) s = .next t ∧ marked c s t ∧
        t = { s with issuedCmds := t.issuedCmds }) ∧
      (∀ a, s.step c ≠ s.get (Key.TT_FIRST_STEP c) → s.closedNotes c ((s.step c + 2 ^ 48 - 1) % 2 ^ 48) = some a →
        ∃ t r, exec (.digestPost c checker check replica last) s = .next t ∧ marked c s t ∧ (r ∈ t.fep.wait ∨ r ∈ t.fep.reqs) ∧ r.asker = .post ∧
          r.credit = some a.ctx ∧ r.msg.kind = 2 ∧ r.msg.flag = true ∧ r.msg.dst = checker ∧ r.msg.len = 64 ∧
          r.msg.offset = 0xFFFF000000000000 + 64 * (16 * check + replica) ∧ r.msg.data = s.postRecord a check replica last ∧
          t.dru = s.dru ∧ t.wins = s.wins ∧ t.ctxs = s.ctxs ∧ t.env = s.env)) ∧
    (∀ check st x, s.dru.sets.find? (fun (x : PostSet) => x.ctx == c && x.check == check && x.step == st && !x.done) = some x →
      (s.postsWhole x = true → (∀ d, d ∈ s.differing x → d.2 = false) →
        ∃ t, exec (.postSetCheck c check st) s = .next t ∧
          t.dru.sets = s.dru.sets.map (fun (y : PostSet) => if y == x then { y with done := true } else y) ∧ t.dru.posts = s.dru.posts ∧
          (s.differing x = [] → t.dom = s.dom ∧ keepsRegs [Key.UNIT_BUSY 20] s t) ∧
          (s.differing x ≠ [] → t.get Key.FLT_LOG_HEAD = (s.get Key.FLT_LOG_HEAD + (s.differing x).length) % 2 ^ 32) ∧
          t.fep = s.fep ∧ t.ctxs = s.ctxs ∧ t.env = s.env) ∧
      (s.postsWhole x = false → s.expired x.first 64 = true →
        ∃ t, exec (.postSetTimeout c check st) s = .next t ∧ t.dru.sets = s.dru.sets.filter (fun (y : PostSet) => y != x) ∧
          (∀ r, r ∈ t.dru.posts ↔ r ∈ s.dru.posts ∧ postKey r.2 ≠ (c, check, st)) ∧
          t.get Key.FLT_LOG_HEAD = (s.get Key.FLT_LOG_HEAD + 1) % 2 ^ 32 ∧ t.fep = s.fep ∧ t.ctxs = s.ctxs ∧ t.env = s.env))

/-! ### Swaps, slips and plan switches (chapters 4, 7, 11) -/

/-- BANK_SWAP_PLACEMENT, BANK_SWAP_PROGRAM, SLIP and PLAN_SWITCH (R96, R183, R202, R206, R299): with a ready shadow bank the banks
change over, once for the commands of one tick; a swap that is not ready stops its context; a slip frame counts a slip and leaves
the plan frame; a plan switch puts a running context's plan in force. -/
def Obligations.SwapsSlipsAndPlans : Prop :=
  ∀ (c : Nat) (s : State), s.live = true → quiet s = true → shaped s → c < 8 →
    (∀ m, s.swapMark c 0 = some m → s.swaps.find? (fun (w : Nat × Nat × Bool) => w.1 == 0 && w.2.1 == s.frame) = none →
      s.get Key.PT_ACTIVE ≤ 1 →
      (s.get Key.PT_SHADOW_READY = 1 → ∃ t, exec (.bankSwapPlacement c) s = .next t ∧ t.issuedCmds = s.issuedCmds ++ [(c, m.1)] ∧
        t.get Key.PT_ACTIVE = 1 - s.get Key.PT_ACTIVE ∧
        t.get Key.PT_SHADOW_READY = 0 ∧ t.get Key.PT_ACTIVE_CRC = s.get Key.PT_SHADOW_CRC ∧ (0, s.frame, true) ∈ t.swaps ∧
        keepsRegs [Key.PT_ACTIVE, Key.PT_SHADOW_READY, Key.PT_ACTIVE_CRC] s t ∧
        t = { s with regs := t.regs, swaps := t.swaps, issuedCmds := t.issuedCmds }) ∧
      (s.get Key.PT_SHADOW_READY ≠ 1 → ∃ t, exec (.bankSwapPlacement c) s = .next t ∧ t.get Key.PT_ACTIVE = s.get Key.PT_ACTIVE ∧
        t.tt c = 2 ∧ (∀ w, w ∈ t.wins → ¬ (w.ctx = c ∧ w.step = s.step c)))) ∧
    (∀ m, s.swapMark c 0 = some m →
      s.swaps.find? (fun (w : Nat × Nat × Bool) => w.1 == 0 && w.2.1 == s.frame) = some (0, s.frame, true) →
      exec (.bankSwapPlacement c) s = .next { s with issuedCmds := s.issuedCmds ++ [(c, m.1)] }) ∧
    (∀ m, s.swapMark c 1 = some m → s.swaps.find? (fun (w : Nat × Nat × Bool) => w.1 == 1 && w.2.1 == s.frame) = none →
      s.get Key.SFU_PROG_ACTIVE ≤ 1 →
      (s.get Key.SFU_SHADOW_READY = 1 → ∃ t, exec (.bankSwapProgram c) s = .next t ∧
        t.issuedCmds = s.issuedCmds ++ [(c, m.1)] ∧ t.get Key.SFU_PROG_ACTIVE = 1 - s.get Key.SFU_PROG_ACTIVE ∧ t.get Key.SFU_SHADOW_READY = 0 ∧
        t.get Key.SFU_ACTIVE_CRC = s.get Key.SFU_SHADOW_CRC ∧ (1, s.frame, true) ∈ t.swaps ∧
        keepsRegs [Key.SFU_PROG_ACTIVE, Key.SFU_SHADOW_READY, Key.SFU_ACTIVE_CRC] s t ∧
        t = { s with regs := t.regs, swaps := t.swaps, issuedCmds := t.issuedCmds }) ∧
      (s.get Key.SFU_SHADOW_READY ≠ 1 → ∃ t, exec (.bankSwapProgram c) s = .next t ∧
        t.get Key.SFU_PROG_ACTIVE = s.get Key.SFU_PROG_ACTIVE ∧ t.tt c = 2)) ∧
    (∀ n, s.time.slipDue = true → s.dueSlip s.time.frame = some n →
      ∃ t, exec .slip s = .next t ∧ t.get Key.TB_SLIPS = (s.get Key.TB_SLIPS + 1) % 2 ^ 32 ∧ t.time.slipping = true ∧ t.time.slipDue = false ∧
        t.time.tb = s.time.tb ∧ t.planFrame = s.planFrame ∧ t.targets = s.targets.erase n ∧ keepsRegs [Key.TB_SLIPS] s t ∧
        t = { s with regs := t.regs, targets := t.targets, time := t.time }) ∧
    (∀ flid n i p, s.time.slipping = false → s.time.slipDue = false →
      s.targets.find? (fun t => t.2.kind == 2 && t.2.arg == flid && decide (t.1 ≤ s.time.frame)) = some n → s.runs c = true →
      (s.ctx c).image = some i → i.plan flid = some p → (s.ctx c).plans = [] →
      ∃ t, exec (.planSwitch flid) s = .next t ∧ (t.ctx c).plans = [flid] ∧ (t.ctx c).image = some i ∧
        t.get Key.PLAN_SWITCH_COUNT = satAdd max32 (s.get Key.PLAN_SWITCH_COUNT) 1 ∧ t.targets = s.targets.erase n ∧
        (∀ d, s.runs d = false → t.ctx d = s.ctx d) ∧ t.wins = s.wins ∧ t.env = s.env ∧ t.stg = s.stg)

/-! ### Steps and loads (chapters 7 and 17) -/

/-- FIRST_STEP_BEGIN, STEP_END, ABORT_BOUNDARY and REPLAY_BEGIN (R171, R190, R419 to R421, R425): a step begins at its plan frame; its
end begins the next one, or takes a stopping context to LOADED; an abort drops the work of the open steps and sets the replay of
the oldest; the replay begins at its plan frame and is counted. -/
def Obligations.StepBoundaries : Prop :=
  ∀ (c : Nat) (s : State), s.live = true → quiet s = true → shaped s → c < 8 → s.time.slipping = false → s.time.slipDue = false →
    (s.tt c = 3 → s.get (Key.TT_FRAME_BASE c) ≤ s.planFrame →
      ∃ t o, exec (.firstStepBegin c) s = .next t ∧ t.tt c = 4 ∧ t.step c = s.get (Key.TT_FIRST_STEP c) ∧
        (t.ctx c).first = s.get (Key.TT_FRAME_BASE c) ∧ (t.ctx c).opens = (s.ctx c).opens ++ [o] ∧ o.step = t.step c ∧
        o.first = s.get (Key.TT_FRAME_BASE c) ∧ o.last = o.first + s.stepFrames c - 1 ∧ (∀ d, d ≠ c → t.ctx d = s.ctx d) ∧
        t.wins = s.wins ∧ t.stg = s.stg ∧ t.dom = s.dom) ∧
    (s.runs c = true → (s.ctx c).replay = none → (s.ctx c).replayTo = none → ((s.ctx c).first + s.stepFrames c) * 2304 ≤ s.planTick + 1 →
      ∃ t, exec (.stepEnd c) s = .next t ∧ t.step c = stepNext (s.step c) ∧
        (s.tt c = 4 → t.tt c = 4 ∧ (t.ctx c).first = (s.ctx c).first + s.stepFrames c ∧ t.wins = s.wins ∧
          (∀ d, d ≠ c → t.ctx d = s.ctx d)) ∧
        (s.tt c = 5 → t.tt c = 2 ∧ (t.ctx c).progs = [] ∧ (t.ctx c).faultStops = [])) ∧
    (∀ o r, s.runs c = true → (s.ctx c).replay = none → (∃ n, n ∈ s.targets ∧ n.2.kind = 3 ∧ n.2.arg = c ∧ n.1 ≤ s.time.frame) →
      s.openNow c = o :: r → (s.ctx c).faultStops = [] → o.attempt + 1 ≤ s.get (Key.FLT_REPLAY_MAX c) →
      ∃ t, exec (.abortBoundary c) s = .next t ∧ (t.ctx c).replay = some (o.step, o.attempt + 1, s.replayFrame c) ∧
        (t.ctx c).replayTo = some ((s.ctx c).replayEnd o.step (((o :: r).getLast?.map OpenStep.step).getD o.step)) ∧
        (∀ m, m ∈ t.issuedCmds ↔ m ∈ s.issuedCmds ∧ m.1 ≠ c) ∧
        t.wins = s.wins.filter (fun (w : Win) => !(w.ctx == c && (o :: r).any (fun (y : OpenStep) => y.step == w.step))) ∧
        (∀ h, h ∈ t.helds ↔ h ∈ s.helds ∧ ¬ (h.ctx = c ∧ (o :: r).any (fun (y : OpenStep) => y.step == h.step) = true)) ∧
        (t.ctx c).opens = (s.ctx c).opens.filter (fun (x : OpenStep) => !((o :: r).any (fun (y : OpenStep) => y.step == x.step)))) ∧
    (∀ st at_ f, (s.ctx c).replay = some (st, at_, f) → s.runs c = true → f ≤ s.planFrame →
      ∃ t, exec (.replayBegin c) s = .next t ∧ (t.ctx c).replay = none ∧ t.step c = st % 2 ^ 64 ∧ (t.ctx c).first = f ∧
        t.get (Key.FLT_REPLAY_COUNT c) = satAdd max32 (s.get (Key.FLT_REPLAY_COUNT c)) 1 ∧ t.tt c = s.tt c ∧
        (∀ d, d ≠ c → t.ctx d = s.ctx d) ∧ t.wins = s.wins ∧ t.stg = s.stg ∧ t.dom = s.dom)

/-- TT_LOAD_DONE and UNLOAD_PATH_DONE (R190, R250): a load whose checks pass enters LOADED with its image, one that fails leaves the
context STOPPED with its result code and a log record; a context that held an image gives it up first; at the path's end no buffer
of classes 0 to 2 is the context's. -/
def Obligations.LoadsAndUnloads : Prop :=
  ∀ (c : Nat) (s : State), s.live = true → quiet s = true → shaped s → c < 8 →
    (∀ l, s.loads.find? (fun (l : Load) => l.ctx == c) = some l →
      (∀ i, l.held = false → s.fresh.loadVerdict c = .ok i →
        ∃ t, exec (.ttLoadDone c) s = .next t ∧ t.tt c = 2 ∧ t.get (Key.TT_LOAD_RESULT c) = 0 ∧
          t.get (Key.TT_PLAN_HASH c) = u i.hdr 128 8 % 2 ^ 64 ∧ t.get Key.PT_SHADOW_READY = 0 ∧ t.ptCheck = false ∧
          (t.ctx c).image.map Image.hdr = some i.hdr ∧ (∀ x, x ∈ t.loads ↔ x ∈ s.loads ∧ x.ctx ≠ c) ∧
          (∀ d, d ≠ c → t.ctx d = s.ctx d) ∧ t.dom = s.dom ∧ t.stg = s.stg ∧ t.env = s.env) ∧
      (∀ e, l.held = false → s.fresh.loadVerdict c = .error e →
        ∃ t, exec (.ttLoadDone c) s = .next t ∧ t.tt c = 0 ∧ t.get (Key.TT_LOAD_RESULT c) = (e.2 <<< 24 ||| e.1) % 2 ^ 64 ∧
          t.get Key.FLT_LOG_HEAD = (s.get Key.FLT_LOG_HEAD + 1) % 2 ^ 32 ∧ t.ctxs = s.ctxs ∧ t.stg = s.stg ∧ t.env = s.env) ∧
      (l.held = true → ∃ t, exec (.ttLoadDone c) s = .next t ∧ (t.ctx c).unload.isSome = true ∧ t.tt c = s.tt c ∧
        (∀ w, w ∈ t.wins ↔ w ∈ s.wins ∧ w.ctx ≠ c))) ∧
    (∀ x, (s.ctx c).unload = some x → s.worksFor c = false → x.next = none → x.code = 0 →
      ∃ t, exec (.unloadPathDone c) s = .next t ∧ t.tt c = 0 ∧ t.ctx c = {} ∧
        (∀ k, k < 3 → ∀ e, e ∈ (t.pool k).owner → e.2 ≠ c) ∧ (∀ d, d ≠ c → t.ctx d = s.ctx d) ∧ t.stg = s.stg ∧ t.wins = s.wins)

/-! ### Frames, slots and links (chapters 5, 7, 16) -/

/-- FRAME_BOUNDARY, FRAME_PROGRAM_FETCH, FRAME_PROGRAM_FETCHED, LINK_SLOT_START, TICK_IN_EDGE and THROTTLE_CHANGE (R169, R170, R185,
R191, R196, R396, R399): a boundary begins the next frame, reports the one that ended, shows the frame view and the pulse; programs
come in; every connected port sends its timing word and an idle slot its trailer; the tick input steers; a level that two TIME edges
have seen is accepted, and the rate follows it from the next window on. The boundary is stated where nothing waits for a TIME edge. -/
def Obligations.FramesAndSlots : Prop :=
  (∀ s : State, s.clocked = true → s.phase ≠ .initialising → quiet s = true → still s → s.time.slew = 0 → s.time.slipDue = false →
    (s.time.frame + 1) * 36864 < 2 ^ 64 →
    ∃ t n, exec .frameBoundary s = .next t ∧ n = s.time.edges + (2304 * (s.time.frame + 1) - s.tick) ∧ t.time.frame = s.time.frame + 1 ∧
      t.time.edges = 0 ∧ t.time.slipping = false ∧ t.tick = max s.tick (2304 * (s.time.frame + 1)) ∧ t.outbox = s.outbox ++ [.tick] ∧
      t.get Key.OBS_FRAMES = (s.get Key.OBS_FRAMES + 1) % 2 ^ 64 ∧ t.obs.loads = [] ∧
      t.get Key.CLK_EDGES_LAST = (frameWindows s.rates (n + 1) 0 n).1 % 2 ^ 64 ∧
      t.time.deficit = (s.reachTick (2304 * (s.time.frame + 1))).deficitAfter (t.get Key.CLK_EDGES_LAST) ∧
      (∀ k, frameView k = true → k ≠ Key.TB_PLAN_FRAME → k ≠ Key.SLIP_REQ_COUNT →
        Sparse.read regDefault t.view k = Sparse.read regDefault t.regs k) ∧
      (t.time.slipDue = false → t.planFrame = (t.time.frame - s.get Key.TB_SLIPS) % 2 ^ 64) ∧
      (∀ x, x ∈ s.targets → x.2.kind = 1 → x.1 ≤ s.time.frame + 1 → t.time.slipDue = true ∧ t.planFrame = s.planFrame) ∧
      t.stg = s.stg ∧ t.env = s.env ∧ t.fep = s.fep ∧ t.pools = s.pools ∧ t.wins = s.wins) ∧
  (∀ s n, s.live = true → s.time.slipDue = true → s.dueSlip s.time.frame = some n →
    ∃ u, exec .slip s = .next u ∧ exec .frameBoundary s = exec .frameBoundary u) ∧
  (∀ c s i f k, s.live = true → shaped s → c < 8 → (s.ctx c).image = some i → s.fetchNext c = some (f, k) →
    ∃ t g, exec (.frameProgramFetch c) s = .next t ∧ g = { frame := f, k := k, src := i.source (s.ctx c).plans k, bytes := none, dropped := false } ∧
      (t.ctx c).progs = (s.ctx c).progs.filter (fun (g : Prog) => decide (s.planFrame ≤ g.frame)) ++ [g] ∧
      (t.ctx c).image = some i ∧ (t.ctx c).opens = (s.ctx c).opens ∧ (∀ d, d ≠ c → t.ctx d = s.ctx d) ∧ t = { s with ctxs := t.ctxs }) ∧
  (∀ c corrupt s i g bs, s.live = true → quiet s = true → shaped s → c < 8 → (s.ctx c).image = some i →
    (s.ctx c).progs.find? (fun (g : Prog) => g.bytes.isNone && !g.dropped) = some g → bs = s.fresh.progBytes i.addr g.src →
    (crc32c bs = g.src.crc → corrupt < 2 → ∃ t, exec (.frameProgramFetched c corrupt) s = .next t ∧
      (t.ctx c).progs = (s.ctx c).progs.map (fun (y : Prog) => if y = g then { g with bytes := some bs } else y) ∧
      keepsRegs [Key.MEM_RD_BYTES (s.fetchPort c)] s t ∧ t = { s with ctxs := t.ctxs, regs := t.regs, free := t.free }) ∧
    (crc32c bs ≠ g.src.crc ∨ 2 ≤ corrupt → ∃ t, exec (.frameProgramFetched c corrupt) s = .next t ∧
      (t.ctx c).progs = (s.ctx c).progs.map (fun (y : Prog) => if y = g then { g with dropped := true } else y) ∧
      (t.ctx c).badFrames = (s.ctx c).badFrames ++ [(s.stepOfFrame c g.frame, g.k)] ∧
      t.get Key.FLT_LOG_HEAD = (s.get Key.FLT_LOG_HEAD + 1) % 2 ^ 32 ∧ t.stg = s.stg ∧ t.env = s.env ∧ t.wins = s.wins)) ∧
  (∀ s : State, s.clocked = true → pinned s → (∀ m, s.time.slot = some m → m < s.fslot) →
    (∀ p e a, (s.port p).last = some (e, a) → e < 2 ^ 32) →
    ∃ t outs, exec .linkSlotStart s = .next t ∧ t.outbox = s.outbox ++ outs ∧ t.time = { s.time with slot := some s.fslot } ∧
      (∀ p, p < 48 → (t.port p).silent = (s.port p).silent + 1 ∧
        ((s.port p).up = true → (t.port p).sent.head? = some (s.time.tb.toNat % 2 ^ 32) ∧
          (∃ hi, Out.timing p (timingBits hi) ∈ outs ∧ bits hi 48 32 = s.time.tb.toNat % 2 ^ 32 ∧ bits hi 80 44 = s.frame % 2 ^ 44) ∧
          (s.live = true → s.sendPlanned p = false → s.nextAgain p = none → ∃ bs, Out.image p 2 bs ∈ outs)) ∧
        ((s.port p).up = false → ∀ w, Out.timing p w ∉ outs)) ∧
      t.ctxs = s.ctxs ∧ t.helds = s.helds ∧ t.dom = s.dom ∧ t.stg = s.stg ∧ t.env = s.env ∧ t.fep = s.fep ∧ t.targets = s.targets) ∧
  (∀ s d θ, s.clocked = true → quiet s = true → s.get Key.TB_PARENT = 0x3F →
    d = (s.time.tb + BitVec.ofNat 64 (s.env.tickPhase % 16)).toNat % 36864 →
    θ = (if d < 18432 then (d : Int) else (d : Int) - 36864) →
    (s.get Key.TB_STATE = 0 → exec .tickInEdge s = .next s) ∧
    (s.get Key.TB_STATE ≠ 0 → ∃ t, exec .tickInEdge s = .next t ∧ t.time.slew = θ ∧
      t.time.tickRun = (if θ.natAbs ≤ 8 then s.time.tickRun + 1 else 0) ∧
      t.get Key.TB_STATE = (if s.get Key.TB_STATE = 1 ∧ 16 ≤ t.time.tickRun then 2 else s.get Key.TB_STATE) ∧
      t = { s with time := t.time, regs := t.regs, field := t.field })) ∧
  (∀ level s, ∃ t, exec (.throttleChange level) s = .next t ∧ t.time.throttle = level % 8 ∧
    (level % 8 ≠ s.time.throttle → t.time.sampled = 0) ∧ (level % 8 = s.time.throttle → t.time.sampled = s.time.sampled) ∧
    t = { s with time := { s.time with throttle := t.time.throttle, sampled := t.time.sampled } }) ∧
  (∀ s e, s.pending = [] → s.live = true → quiet s = true → s.dru.rplBuf = {} → s.obs.traceBuf = {} → s.obs.latchDue = [] →
    1 ≤ s.time.sampled → s.time.throttle < 8 → s.get Key.CLK_LEVEL_IN ≠ s.time.throttle → s.rates ≠ [] →
    e = ((s.time.edges + 1) / 5 + 1) * 5 → (∀ r, r ∈ s.rates → r.start ≤ e) →
    ∃ t, Machine.step s = .next t ∧ t.get Key.CLK_LEVEL_IN = s.time.throttle ∧ keepsRegs [Key.CLK_LEVEL_IN] s t ∧
      (rateAt t.rates e).n = s.rateFor s.time.throttle s.floorN ∧ (rateAt t.rates e).floor = s.floorN ∧
      (∀ x, x < e → (rateAt t.rates x) = rateAt s.rates x) ∧ t = { s with regs := t.regs, rates := t.rates, time := t.time })

/-- TIMING_WORD_RECEIVED, TIMING_WORD_SILENCE, LK_UP_FALL and LK_UP_RISE (R191, R204, R346, R407, R430, R452, R453): a word that fails its
CRC ends the run of good ones and is counted; one that passes is stamped with its arrival and echoed; the sixteenth in a row makes a
port ready; sixteen silent slots or the pin's fall lose it, but in the first 16 slots only a port that is ready; its waiting requests go by
the other route. -/
def Obligations.TimingLinks : Prop :=
  (∀ p (word : BitVec 258) s hi, s.clocked = true → p < 48 → pinned s → (s.port p).up = true → hi = bits word.toNat 32 224 →
    (crc32c (le 28 hi) ≠ bits word.toNat 0 32 → ∃ t, exec (.timingWordReceived p word) s = .next t ∧ (t.port p).good = 0 ∧
      (t.port p).silent = (s.port p).silent ∧ (t.port p).ready = (s.port p).ready ∧ (∀ q, q ≠ p → t.port q = s.port q) ∧
      t.get (Key.LNK_CHECK_FAIL p) = (s.get (Key.LNK_CHECK_FAIL p) + 1) % 2 ^ 64 ∧ keepsRegs [Key.LNK_CHECK_FAIL p] s t ∧
      t = { s with ports := t.ports, regs := t.regs }) ∧
    (crc32c (le 28 hi) = bits word.toNat 0 32 → ∃ t, exec (.timingWordReceived p word) s = .next t ∧
      (t.port p).good = min 16 ((s.port p).good + 1) ∧ (t.port p).silent = 0 ∧
      (t.port p).ready = ((s.port p).ready || decide (15 ≤ (s.port p).good)) ∧
      (s.get Key.TB_PARENT ≠ p → s.get Key.TB_BACKUP ≠ p →
        (t.port p).last = some (bits hi 48 32, (s.time.tb - BitVec.ofNat 64 (bits word.toNat 256 2)).toNat)) ∧
      (15 ≤ (s.port p).good → (s.port p).ready = false → quiet s = true → bit (t.get Key.LINK_LOST) p = false) ∧
      t.stg = s.stg ∧ t.pools = s.pools ∧ t.wins = s.wins ∧ t.tpUp = s.tpUp ∧ (∀ q, (t.port q).up = (s.port q).up))) ∧
  (∀ p s, s.clocked = true → s.phase ≠ .initialising → quiet s = true → pinned s → shaped s → Memory.wf s = true → p < 48 →
    16 ≤ (s.port p).silent → s.lost p = false →
    ∃ t, exec (.timingWordSilence p) s = .next t ∧ t.get Key.LINK_LOST = setBit (s.get Key.LINK_LOST) p ∧ (t.port p).ready = false ∧
      (t.port p).good = 0 ∧ (t.port p).up = (s.port p).up ∧ t.fep.port p = {} ∧ t.fep.queue = s.fep.queue ∧
      (∀ m q, m ∈ (s.fep.port p).reqOwn → m.isReply = false → t.fepRoute m.dst = some q → m ∈ (t.fep.port q).reqOwn) ∧
      (s.flid p = none → t.get Key.FLT_LOG_HEAD = (s.get Key.FLT_LOG_HEAD + 1) % 2 ^ 32) ∧
      (∀ f, s.flid p = some f → ({ kind := 2, target := t.noticeTarget, arg := f } : Notice) ∈ t.seen) ∧
      t.stg = s.stg ∧ t.pools = s.pools ∧ t.wins = s.wins ∧ t.env = s.env) ∧
  (∀ p s, pinned s → p < 48 →
    (∃ t, exec (.lkUpFall p) s = .next t ∧ (t.port p).up = false ∧ (t.port p).ready = false ∧ (t.port p).good = 0 ∧ (t.port p).last = none ∧
      (s.watches p = true → quiet s = true → s.lost p = false → t.get Key.LINK_LOST = setBit (s.get Key.LINK_LOST) p) ∧
      (s.watches p = false ∨ s.lost p = true → t = { s with ports := t.ports }) ∧
      (∀ q, q ≠ p → t.port q = s.port q) ∧ t.stg = s.stg ∧ t.pools = s.pools) ∧
    (∃ t, exec (.lkUpRise p) s = .next t ∧ (t.port p).up = true ∧ (t.port p).good = 0 ∧ (t.port p).silent = 0 ∧
      (t.port p).ready = (s.port p).ready ∧ (∀ q, q ≠ p → t.port q = s.port q) ∧ t = { s with ports := t.ports }))

/-- CHUNK_RELEASE_TIMEOUT, EXPECTATION_TIMEOUT, SLOT_GUARD_EXPIRY, TILE_WATCHDOG_EXPIRY and STEP_SLACK_EXPIRY (R416, R417): what has
outlasted its limit is given up or marked, and one event of the class Table 17.3 names is logged. -/
def Obligations.TimeoutsExpire : Prop :=
  ∀ (c : Nat) (s : State), s.live = true → quiet s = true → shaped s → c < 8 →
    (∀ seq src dst h, s.helds.find? (fun (h : Held) => h.ctx == c && h.x.seq == seq && h.x.src == src && h.x.dst == dst && s.expired h.stamp 4) =
        some h →
      ∃ t, exec (.chunkReleaseTimeout c seq src dst) s = .next t ∧ t.helds = s.helds.erase h ∧
        t.get Key.FLT_LOG_HEAD = (s.get Key.FLT_LOG_HEAD + 1) % 2 ^ 32 ∧
        (s.runs c = true → (s.ctx c).noticed ≠ some s.planFrame → (t.ctx c).noticed = some s.planFrame ∧
          ({ kind := 3, target := s.noticeTarget, arg := c } : Notice) ∈ t.seen) ∧
        t.expects = s.expects ∧ t.pieces = s.pieces ∧ t.pools = s.pools ∧ t.stg = s.stg ∧ t.env = s.env ∧ t.outbox = s.outbox) ∧
    (∀ seq src dst e, s.expects.find? (fun (e : Expect) => e.ctx == c && e.x.seq == seq && e.x.src == src && e.x.dst == dst && s.expired e.stamp 4) =
        some e →
      (e.committed = true → ∃ t, exec (.expectationTimeout c seq src dst) s = .next t ∧
        t = { s with expects := s.expects.filter (fun (x : Expect) => x != e) }) ∧
      (e.committed = false → ∃ t, exec (.expectationTimeout c seq src dst) s = .next t ∧
        t.expects = s.expects.filter (fun (x : Expect) => x != e) ∧
        ((s.piece e.key).bind Piece.buf = none → t.get Key.FLT_LOG_HEAD = (s.get Key.FLT_LOG_HEAD + 1) % 2 ^ 32) ∧
        (e.inSlot = false → t.piece e.key = none) ∧ (e.inSlot = true → t.pieces = s.pieces) ∧
        (s.runs c = true → (t.ctx c).noticed = some s.planFrame) ∧ t.helds = s.helds ∧ t.stg = s.stg)) ∧
    (∀ p, p < 48 → (s.port p).up = true → ∃ t, exec (.slotGuardExpiry p) s = .next t ∧
      t.get Key.FLT_LOG_HEAD = (s.get Key.FLT_LOG_HEAD + 1) % 2 ^ 32 ∧ t = { s with regs := t.regs, dom := t.dom, field := t.field }) ∧
    (∀ layer tile work w, s.wins.find? (fun (w : Win) => w.ctx == c && w.layer == layer && w.tile == tile && w.work == work &&
        decide (w.stage < 5) && !w.watched && s.expired w.stamp (u (s.hdr c) 30 2)) = some w →
      ∃ t, exec (.tileWatchdogExpiry c layer tile work) s = .next t ∧ t.get Key.FLT_LOG_HEAD = (s.get Key.FLT_LOG_HEAD + 1) % 2 ^ 32 ∧
        (t.ctx c).outlasted = (s.ctx c).outlasted ++ [(w.step, layer, tile, work)] ∧
        (0 < w.attempt → (w.step, layer, tile, work) ∈ (s.ctx c).outlasted → s.tt c = 4 →
          t.tt c = 5 ∧ (t.ctx c).faultStops = (s.ctx c).faultStops ∧ t.seen = s.seen) ∧
        (w.attempt = 0 ∨ (w.step, layer, tile, work) ∉ (s.ctx c).outlasted →
          t.tt c = s.tt c ∧ (s.runs c = true → (t.ctx c).noticed = some s.planFrame)) ∧
        t.helds = s.helds ∧ t.stg = s.stg ∧ t.env = s.env) ∧
    (∀ st o, (s.ctx c).opens.find? (fun (o : OpenStep) => o.step == st && !o.slack) = some o →
      s.expired ((o.last + 1) * 2304) (s.stepSlack c) = true → s.outstanding c st = true →
      ∃ t, exec (.stepSlackExpiry c st) s = .next t ∧ t.get Key.FLT_LOG_HEAD = (s.get Key.FLT_LOG_HEAD + 1) % 2 ^ 32 ∧
        (t.ctx c).opens = (s.ctx c).opens.map (fun (y : OpenStep) => if y = o then { y with slack := true } else y) ∧
        (s.runs c = true → (t.ctx c).noticed = some s.planFrame) ∧ t.wins = s.wins ∧ t.helds = s.helds ∧ t.stg = s.stg ∧ t.env = s.env)

/-! ### The Fabric Endpoint (chapter 13) -/

/-- A reply that reaches its requester (R340): at the own node it is taken there, for another it waits on the port of its route. -/
def replyOut (s t : State) (r : Msg) : Prop :=
  (r.dst = s.node → r ∈ t.fep.replies) ∧ (∀ q, r.dst ≠ s.node → s.fepRoute r.dst = some q → r ∈ (t.fep.port q).rspOwn)

/-- The bytes of a local place of the Fabric Endpoint (Table 13.1): host memory or the Staging Store. -/
def fepPlace (host : Bool) (s : State) : List (Nat × Byte) := if host then s.env.mem else s.stg

/-- The messages that the endpoint holds for its sources name one of the eight contexts (Table 13.3: CTX has three bits). -/
def fepNamed (s : State) : Prop :=
  (∀ m, m ∈ s.fep.queue → m.ctx < 8) ∧ (∀ e r, e ∈ s.fep.table → e.reply = some r → r.ctx < 8)

/-- FEP_MESSAGE_RECEIVED, FEP_MESSAGE_SEND, FEP_APPLY and FEP_WRITE_COMPLETE (R112, R335 to R347): a message that fails its CRC is
dropped and counted, one that passes brings its credits and goes to the queue, the requester or its next port; a port sends as its
credits and the slot's lent grants allow, and the flits of a forwarded message leave its arrival port's buffer as they go; the target
applies loads, stores and atomics and answers them, and completes in order the writes of a stream to the same local bytes. -/
def Obligations.FabricMessages : Prop :=
  ∀ s : State, s.live = true → quiet s = true → shaped s → Memory.wf s = true →
    (∀ p hdr payload m, p < 48 → (s.port p).up = true → s.lost p = false → m = msgOf hdr.toNat payload →
      (msgCrcOk hdr.toNat payload = false → ∃ t, exec (.fepMessageReceived p hdr payload) s = .next t ∧
        t.get (Key.FEP_CRC_DROP m.ctx) = satAdd max32 (s.get (Key.FEP_CRC_DROP m.ctx)) 1 ∧
        t.get (Key.LNK_CHECK_FAIL p) = (s.get (Key.LNK_CHECK_FAIL p) + 1) % 2 ^ 64 ∧
        t.get Key.FLT_LOG_HEAD = (s.get Key.FLT_LOG_HEAD + 1) % 2 ^ 32 ∧ t.fep.queue = s.fep.queue ∧ t.fep.replies = s.fep.replies ∧
        (t.fep.port p).credReq = (s.fep.port p).credReq ∧ (t.fep.port p).credRsp = (s.fep.port p).credRsp ∧
        (m.kind ≠ 15 → (t.fep.port p).oweReq = (s.fep.port p).oweReq + (if m.isReply then 0 else m.flits) ∧
          (t.fep.port p).oweRsp = (s.fep.port p).oweRsp + (if m.isReply then m.flits else 0)) ∧
        u (t.domBytes Dom.FLT_LOG (32 * (s.get Key.FLT_LOG_HEAD % 256)) 32) 6 2 = Ec.crc <<< 8 ||| 0x20 ∧
        t.outbox = s.outbox ∧ t.stg = s.stg ∧ t.env = s.env) ∧
      (msgCrcOk hdr.toNat payload = true → fepNamed s → ∃ t, exec (.fepMessageReceived p hdr payload) s = .next t ∧
        t.get (Key.LNK_RX_FLITS p) = (s.get (Key.LNK_RX_FLITS p) + m.flits) % 2 ^ 64 ∧
        (t.fep.port p).credReq = (s.fep.port p).credReq + mhCreditReq hdr.toNat ∧
        (t.fep.port p).credRsp = (s.fep.port p).credRsp + mhCreditRsp hdr.toNat ∧
        (m.kind = 15 → t.fep.queue = s.fep.queue ∧ t.fep.replies = s.fep.replies) ∧
        (m.dst = s.node → m.kind = 1 → s.fep.queue.length < 1024 → s.fep.stalled = [] → t.fep.queue = s.fep.queue ++ [m] ∧
          (t.fep.port p).oweReq = (s.fep.port p).oweReq + m.flits) ∧
        (m.dst = s.node → m.sequenced = true → m.sync = false → s.fep.queue.length < 1024 → s.fep.stalled = [] → m.base = m.seq →
          m.seq = s.fepNext m.src → t.fep.queue = s.fep.queue ++ [m]) ∧
        (m.dst = s.node → m.isReply = true → t.fep.replies = s.fep.replies ++ [m] ∧
          (t.fep.port p).oweRsp = (s.fep.port p).oweRsp + m.flits) ∧
        (∀ q, m.dst ≠ s.node → m.kind = 1 → m.hops ≠ 31 → s.fepRoute m.dst = some q →
          (t.fep.port q).reqFwd = (s.fep.port q).reqFwd ++ [(some p, { m with hops := m.hops + 1 })]) ∧
        t.stg = s.stg ∧ t.env = s.env)) ∧
    (∀ p tr y n, p < 48 → pinned s → (s.port p).up = true → s.lost p = false →
      (((s.fep.port p).tx = some tr ∧ y = s.fep.port p) ∨
        ((s.fep.port p).tx = none ∧ (s.fep.port p).nextTx = some (y, tr) ∧ s.lent p ≠ 0)) →
      n = min (min tr.left (s.lent p)) (if tr.msg.isReply then y.credRsp else y.credReq) →
      ∃ t, exec (.fepMessageSend p) s = .next t ∧ t.get (Key.LNK_TX_FLITS p) = (s.get (Key.LNK_TX_FLITS p) + n) % 2 ^ 64 ∧
        t.lent p = s.lent p - n ∧ (t.fep.port p).credRsp = y.credRsp - (if tr.msg.isReply then n else 0) ∧
        (t.fep.port p).credReq = y.credReq - (if tr.msg.isReply then 0 else n) ∧
        (∀ f, tr.from_ = some f → f < 48 → f ≠ p →
          (t.fep.port f).oweReq = (s.fep.port f).oweReq + (if tr.msg.isReply then 0 else n) ∧
          (t.fep.port f).oweRsp = (s.fep.port f).oweRsp + (if tr.msg.isReply then n else 0)) ∧
        t.get (Key.LNK_LENT_FLITS p) = (s.get (Key.LNK_LENT_FLITS p) + n) % 2 ^ 64 ∧
        (n = tr.left → t.outbox = s.outbox ++ [.message p tr.bytes] ∧ (t.fep.port p).tx = none) ∧
        (n < tr.left → t.outbox = s.outbox ∧ (t.fep.port p).tx = some { tr with left := tr.left - n }) ∧
        t.fep.queue = s.fep.queue ∧ t.stg = s.stg ∧ t.env = s.env ∧ t.dom = s.dom) ∧
    (∀ p, p < 48 → (s.port p).up = true → s.lost p = false → (s.fep.port p).tx = none → (s.fep.port p).nextTx = none →
      0 < s.lent p → 8 ≤ (s.fep.port p).oweReq + (s.fep.port p).oweRsp → ∃ t m, exec (.fepMessageSend p) s = .next t ∧
        m = ({ kind := 15, src := s.node, dst := s.peerNode p } : Msg) ∧
        t.outbox = s.outbox ++ [.message p (m.wire (min 32 (s.fep.port p).oweReq) (min 32 (s.fep.port p).oweRsp))] ∧
        (t.fep.port p).oweReq = (s.fep.port p).oweReq - 32 ∧ (t.fep.port p).oweRsp = (s.fep.port p).oweRsp - 32) ∧
    (∀ m, s.fep.queue.find? s.fepReady = some m → s.fep.stalled = [] → m.ctx < 8 → m.counter < 64 →
      (∀ d, s.fepTranslate m = .error d → ∃ t, exec .fepApply s = .next t ∧ replyOut s t (s.replyTo m 1 0 []) ∧
        (m.kind = 1 ∨ s.fep.queue = [m] → t.get Key.FLT_LOG_HEAD = (s.get Key.FLT_LOG_HEAD + 1) % 2 ^ 32) ∧ t.stg = s.stg ∧ t.env = s.env) ∧
      (∀ host port a, s.fepTranslate m = .ok (.mem host port a) → port < 4 →
        (m.kind = 1 → ∃ t, exec .fepApply s = .next t ∧ t.fep.queue = s.fep.queue.erase m ∧
          replyOut s t (s.replyTo m 0 0 (s.fresh.fepBytes host a m.len)) ∧ t.stg = s.stg ∧ t.env = s.env ∧ t.fep.writes = s.fep.writes) ∧
        (m.kind = 2 → ∃ t, exec .fepApply s = .next t ∧ Mem.read (fun _ => 0) (fepPlace host t) a m.data.length = m.data ∧
          keepsBytes a m.data.length (fepPlace host s) (fepPlace host t) ∧ t.fepNext m.src = (m.seq + 1) % 65536 ∧
          t.fep.writes = s.fep.writes ++ [{ msg := m, reply := s.replyTo m 0 0 [], host := host, addr := a }] ∧
          t.fep.table = s.fep.table ++ [{ src := m.src, seq := m.seq, reply := none, at_ := s.time.ticks }] ∧
          m ∉ t.fep.queue ∧ (∀ x, x ∈ t.fep.queue → x ∈ s.fep.queue)) ∧
        (m.kind = 3 → ∃ t old, exec .fepApply s = .next t ∧ old = unle (s.fresh.fepBytes host a 8) ∧
          Mem.read (fun _ => 0) (fepPlace host t) a 8 = le 8 (aopValue m.aop old m.op0 m.op1) ∧
          keepsBytes a 8 (fepPlace host s) (fepPlace host t) ∧ t.fepNext m.src = (m.seq + 1) % 65536 ∧
          t.fep.writes = s.fep.writes ++ [{ msg := m, reply := s.replyTo m 0 old [], host := host, addr := a }]))) ∧
    (∀ src seq w, s.fep.writes.find? (fun (w : WriteBack) => w.msg.src == src && w.msg.seq == seq) = some w → w.msg.ctx < 8 →
      w.msg.counter < 64 → (s.fep.writes.takeWhile (fun (x : WriteBack) => x != w)).any (fun (x : WriteBack) =>
        x.msg.src == src && x.host == w.host && overlaps x.addr x.msg.span w.addr w.msg.span) = false →
      ∃ t, exec (.fepWriteComplete src seq) s = .next t ∧ t.fep.writes = s.fep.writes.erase w ∧ replyOut s t w.reply ∧
        t.fep.table = s.fep.table.map (fun (e : ReplayEnt) => if e.src == src && e.seq == seq then { e with reply := some w.reply } else e) ∧
        (w.msg.count = true → t.domBytes Dom.FEP_COUNTERS (512 * w.msg.ctx + 8 * w.msg.counter) 8 =
          le 8 (unle (s.domBytes Dom.FEP_COUNTERS (512 * w.msg.ctx + 8 * w.msg.counter) 8) + 1)) ∧
        (w.msg.count = false → t.dom = s.dom) ∧ t.stg = s.stg ∧ t.env = s.env)

/-- FEP_REPLY_RECEIVED, FEP_RETRY, FEP_TIMEOUT and REPLAY_TABLE_EXPIRY (R345, R346, R352): a reply ends its request, a GET's data goes to
its local range and a reply without a request is dropped; a request is sent again 16 and 32 µs after its first sending and given up
after 50; a replay-table entry goes after 64. -/
def Obligations.FabricRequests : Prop :=
  ∀ (tag : Nat) (s : State), s.live = true → quiet s = true → shaped s → Memory.wf s = true →
    (∀ m, s.fep.replies.find? (fun (m : Msg) => m.tag == tag) = some m → s.fep.wait = [] → s.fep.starts = [] →
      (s.fep.reqs.find? (fun (r : Req) => r.msg.tag == tag && r.msg.dst == m.src && r.msg.seq == m.seq) = none →
        ∃ t, exec (.fepReplyReceived tag) s = .next t ∧ t.fep.replies = s.fep.replies.erase m ∧ t.fep.reqs = s.fep.reqs ∧
          t = { s with fep := t.fep }) ∧
      (∀ r, s.fep.reqs.find? (fun (r : Req) => r.msg.tag == tag && r.msg.dst == m.src && r.msg.seq == m.seq) = some r →
        (s.fep.run = [] → ∃ t, exec (.fepReplyReceived tag) s = .next t ∧
          t.fep = { s.fep with replies := s.fep.replies.erase m, reqs := s.fep.reqs.filter (fun (x : Req) => x.msg.tag != r.msg.tag) } ∧
          t.stg = s.stg ∧ t.env = s.env) ∧
        (∀ x n d o, r.asker = .entry n → s.fep.run = [x] → x.run = n → x.todo = [] → x.out = 1 → d = unle x.desc → rqOp d = 1 →
          rqCache d = false → m.status = 0 → o = rqLocal d + (r.msg.offset - rqRemote d) →
          ∃ t, exec (.fepReplyReceived tag) s = .next t ∧ t.fep.run = [] ∧
            Mem.read (fun _ => 0) (fepPlace (rqHost d) t) o m.data.length = m.data ∧
            keepsBytes o m.data.length (fepPlace (rqHost d) s) (fepPlace (rqHost d) t) ∧
            t.fep.reqs = s.fep.reqs.filter (fun (x : Req) => x.msg.tag != r.msg.tag)))) ∧
    (∀ r t0, s.fep.reqs.find? (fun (r : Req) => r.msg.tag == tag) = some r → r.first = some t0 → r.msg.ctx < 8 →
      (∀ q m, r.sends = 1 ∨ r.sends = 2 → s.usPassed t0 (16 * r.sends) = true → s.usPassed t0 50 = false → r.msg.dst ≠ s.node →
        r.msg.isReply = false → s.fepRoute r.msg.dst = some q →
        m = { r.msg with base := s.fepBase r.msg.dst ((Sparse.get? s.fep.streams r.msg.dst).getD 0) } →
        ∃ t, exec (.fepRetry tag) s = .next t ∧ t.get (Key.FEP_RETRY_COUNT r.msg.ctx) = satAdd max32 (s.get (Key.FEP_RETRY_COUNT r.msg.ctx)) 1 ∧
          (t.fep.port q).reqOwn = (s.fep.port q).reqOwn ++ [m] ∧
          t.fep.reqs = s.fep.reqs.map (fun (x : Req) => if x.msg.tag == tag then { x with msg := m, sends := x.sends + 1 } else x) ∧
          t.stg = s.stg ∧ t.env = s.env ∧ t.dom = s.dom) ∧
      (s.usPassed t0 50 = true → s.fep.wait = [] → s.fep.run = [] → s.fep.starts = [] → ∃ t, exec (.fepTimeout tag) s = .next t ∧
        t.get (Key.FEP_TIMEOUT_COUNT r.msg.ctx) = satAdd max32 (s.get (Key.FEP_TIMEOUT_COUNT r.msg.ctx)) 1 ∧
        t.get Key.FLT_LOG_HEAD = (s.get Key.FLT_LOG_HEAD + 1) % 2 ^ 32 ∧
        t.fep = { s.fep with reqs := s.fep.reqs.filter (fun (x : Req) => x.msg.tag != tag) } ∧ t.stg = s.stg ∧ t.env = s.env)) ∧
    (∀ src seq, ∃ t, exec (.replayTableExpiry src seq) s = .next t ∧
      (∀ e, e ∈ t.fep.table ↔ e ∈ s.fep.table ∧ ¬ (e.src = src ∧ e.seq = seq ∧ s.usPassed e.at_ 64 = true)) ∧
      t = { s with fep := { s.fep with table := t.fep.table } })

/-! ### Resets, clock and power (chapter 16) -/

/-- COLD_RESET_ASSERT, COLD_RESET_RELEASE, INTERNAL_INIT_DONE, WARM_RESET_INPUT, WARM_RESET_DONE, ROOT_CLOCK_STOP and POWER_REMOVED (R395,
R400 to R405, R410): a cold reset leaves every entry at its default, its release latches the strap and reads the key; a warm reset
keeps time, memories and what Table 16.1 keeps; a stopped root clock leaves only a cold reset; removed power leaves nothing. -/
def Obligations.ResetsAndPower : Prop :=
  ∀ s : State,
    (∃ t, exec .coldResetAssert s = .next t ∧ t.phase = .coldHeld ∧
      (∀ k, t.get k = (regDefault k).toNat) ∧ (∀ k o n, t.domBytes k o n = Mem.read domDefault [] (k * domSpan + o) n) ∧
      t.regs = [] ∧ t.dom = [] ∧ t.view = [] ∧ t.viewDom = [] ∧ t.stg = [] ∧
      t.qstore = [] ∧ t.time = { throttle := s.time.throttle, sampled := 0 } ∧ t.ctxs = List.replicate 8 {} ∧ t.pools = List.replicate 5 {} ∧
      t.queues = [] ∧ t.fep = {} ∧ t.meter = {} ∧
      t.cp = {} ∧ t.can = {} ∧ t.wins = [] ∧ t.helds = [] ∧ t.targets = [] ∧ t.clockStopped = false ∧ t.build = s.build ∧ t.env = s.env ∧
      (∀ p, (t.port p).up = (s.port p).up ∧ (t.port p).ready = false ∧ (t.port p).good = 0)) ∧
    (s.phase = .coldHeld → s.clockStopped = false → ∃ t, exec .coldResetRelease s = .next t ∧ t.phase = .initialising ∧
      t.get Key.COM_CAN_NODE = s.env.strap % 128 ∧ (s.env.strap % 128 = 0 → t.get Key.COM_CAN_STATE = 3) ∧
      keepsRegs [Key.COM_CAN_NODE, Key.COM_CAN_STATE] s t ∧ t.time = s.time ∧
      (s.build.partition = true → t.meter.key = le 32 s.env.key.toNat ∧ t.outbox = s.outbox ++ [.keyReq]) ∧
      (s.build.partition = false → t.meter = s.meter ∧ t.outbox = s.outbox) ∧
      t.dom = s.dom ∧ t.stg = s.stg) ∧
    (s.phase = .initialising → s.clockStopped = false → ∃ t, exec .internalInitDone s = .next t ∧ t.phase = .running ∧ t.regs = s.regs ∧
      t.dom = s.dom ∧ t.cp = {} ∧ t.can = {} ∧ t.time = { s.time with initAt := s.time.ticks } ∧ t.stg = s.stg ∧
      (∀ p, (t.port p).silent = 0)) ∧
    (s.env.strap % 128 = 1 → ∃ a b c, exec .coldResetAssert s = .next a ∧ exec .coldResetRelease a = .next b ∧
      exec .internalInitDone b = .next c ∧ c.regs = State.reset.regs ∧ c.dom = State.reset.dom ∧
      c.time = { State.reset.time with throttle := s.time.throttle, sampled := 0 } ∧
      c.ctxs = State.reset.ctxs ∧ c.pools = State.reset.pools ∧ c.phase = State.reset.phase) ∧
    (s.live = true → ∃ t, exec .warmResetInput s = .next t ∧ t.phase = .warm 2 ∧ t.time = s.time ∧ t.ports = s.ports ∧ t.stg = s.stg ∧
      t.qstore = s.qstore ∧ t.env = s.env ∧ t.meter = s.meter ∧ t.targets = s.targets ∧ t.ctxs = List.replicate 8 {} ∧
      t.pools = List.replicate 5 {} ∧ t.wins = [] ∧ t.helds = [] ∧ t.pieces = [] ∧ t.fep = s.fep.emptied ∧ (∀ c, c < 8 → t.tt c = 0) ∧
      (∀ k, warmKeeps k = true → t.get k = s.get k) ∧ (∀ k, warmKeeps k = false → t.get k = (regDefault k).toNat) ∧
      (∀ a, warmZeroes (a / domSpan) = false → Sparse.get? t.dom a = Sparse.get? s.dom a)) ∧
    (s.phase = .initialising → exec .warmResetInput s = .next s) ∧
    (∀ cause, s.phase = .warm cause → s.clockStopped = false → ∃ t, exec .warmResetDone s = .next t ∧ t.phase = .running ∧
      t.get Key.RST_CAUSE = cause % 2 ^ 64 ∧ t.get Key.RST_WARM_COUNT = satAdd max32 (s.get Key.RST_WARM_COUNT) 1 ∧
      keepsRegs [Key.RST_CAUSE, Key.RST_WARM_COUNT] s t ∧ t = { s with phase := .running, regs := t.regs, field := t.field }) ∧
    (s.phase ≠ .off → ∃ t u, exec .rootClockStop s = .next t ∧ t.clockStopped = true ∧ t.build = s.build ∧ t.env = s.env ∧
      t.outbox = s.outbox ∧ t.tpUp = s.tpUp ∧ (∀ p, (t.port p).up = (s.port p).up) ∧ exec .warmResetInput t = .next t ∧
      exec .coldResetAssert t = .next u ∧ u.clockStopped = false ∧ u.regs = []) ∧
    (∃ t, exec .powerRemoved s = .next t ∧ t.phase = .off ∧ t.regs = [] ∧ t.dom = [] ∧ t.stg = [] ∧ t.qstore = [] ∧ t.env = s.env ∧
      t.build = s.build)

/-! ### The field network and observation (chapters 15 and 18) -/

/-- A latch taken (R431 to R434): its SNAPSHOT_ID, ORIGIN and SEQ, its image still to come, and the trigger output's pulse. -/
def takenLatch (s t : State) (l : Latch) (id origin : Nat) : Prop :=
  t.obs.latch = some l ∧ l.id = id ∧ l.origin = origin ∧ l.seq = (s.obs.accepted + 1) % 2 ^ 32 ∧ t.obs.pending = true ∧
  t.outbox = s.outbox ++ [.snap]

/-- HEARTBEAT, INTERRUPT_EVENT_FRAME, CAN_BUS_ERROR, CAN_BUS_OFF_RECOVERY, SNAPSHOT, SNAP_IN_EDGE, SNAP_CONTROL and SNAPSHOT_IMAGE_DONE
(R389, R390, R431 to R434): the frames that go out, the error counters and the bus-off state; a command's latch edge, accepted or missed;
the edges that the trigger input and the dictionary make a few TIME edges later (how many is the model's choice, log entry 63); and
the image. -/
def Obligations.FieldAndSnapshots : Prop :=
  ∀ s : State, s.live = true → quiet s = true →
    (s.get Key.COM_HEARTBEAT ≠ 0 → s.canSends = true → s.field.beat + s.get Key.COM_HEARTBEAT ≤ s.ms →
      ∃ t bs, exec .heartbeat s = .next t ∧ t.outbox = s.outbox ++ [.canFrame (0xE * 128 + s.get Key.COM_CAN_NODE) bs] ∧ bs.length = 8 ∧
        u bs 0 1 = s.get Key.TB_STATE % 256 ∧ (∀ c, c < 8 → (bit (u bs 1 1) c = true ↔ s.tt c = 4)) ∧
        u bs 3 1 = s.get Key.COM_CAN_STATE % 256 ∧ u bs 4 4 = s.frame % 2 ^ 32 ∧ t.field.beat = s.ms ∧
        t.get Key.COM_CAN_TEC = s.get Key.COM_CAN_TEC - 1 ∧ keepsRegs [Key.COM_CAN_TEC, Key.COM_CAN_STATE] s t ∧
        t = { s with regs := t.regs, field := t.field, outbox := t.outbox }) ∧
    (∀ l cause r, s.field.events = (l, cause) :: r → s.canSends = true → ∃ t, exec .interruptEventFrame s = .next t ∧
      t.outbox = s.outbox ++ [.canFrame (0x1 * 128 + s.get Key.COM_CAN_NODE) (le 1 l ++ zeros 3 ++ le 4 cause)] ∧ t.field.events = r ∧
      keepsRegs [Key.COM_CAN_TEC, Key.COM_CAN_STATE] s t ∧ t = { s with regs := t.regs, field := t.field, outbox := t.outbox }) ∧
    (∀ n, s.canSends = true → s.get Key.COM_CAN_TEC ≤ 255 → s.get Key.COM_CAN_REC ≤ 255 →
      (s.get Key.COM_CAN_TEC + n ≤ 255 → ∃ t, exec (.canBusError true n) s = .next t ∧ t.get Key.COM_CAN_TEC = s.get Key.COM_CAN_TEC + n ∧
        t.get Key.COM_CAN_STATE = (if 128 ≤ s.get Key.COM_CAN_TEC + n ∨ 128 ≤ s.get Key.COM_CAN_REC then 1 else 0) ∧
        keepsRegs [Key.COM_CAN_TEC, Key.COM_CAN_STATE] s t ∧ t = { s with regs := t.regs }) ∧
      (255 < s.get Key.COM_CAN_TEC + n → s.can.busy = none → ∃ t, exec (.canBusError true n) s = .next t ∧ t.get Key.COM_CAN_STATE = 2 ∧
        t.canSends = false ∧ t.field.waiting = [] ∧ keepsRegs [Key.COM_CAN_TEC, Key.COM_CAN_STATE] s t) ∧
      (∃ t, exec (.canBusError false n) s = .next t ∧ t.get Key.COM_CAN_REC = min 255 (s.get Key.COM_CAN_REC + n) ∧
        t.get Key.COM_CAN_TEC = s.get Key.COM_CAN_TEC ∧ t = { s with regs := t.regs })) ∧
    (s.get Key.COM_CAN_STATE = 2 → ∃ t, exec .canBusOffRecovery s = .next t ∧ t.get Key.COM_CAN_TEC = 0 ∧ t.get Key.COM_CAN_REC = 0 ∧
      t.get Key.COM_CAN_STATE = 0 ∧ t.canSends = true ∧ keepsRegs [Key.COM_CAN_TEC, Key.COM_CAN_REC, Key.COM_CAN_STATE] s t ∧
      t = { s with regs := t.regs }) ∧
    (∀ c id, s.mayIssue c 0x09 (id <<< 216) = true → s.obs.lastTick ≠ some s.time.ticks → s.obs.dropTick ≠ some s.time.ticks →
      ((∀ x, s.obs.lastTick = some x → x + 1024 ≤ s.time.ticks) → s.get Key.SNAP_LOCK ≠ s.snapTarget → s.get Key.TRC_STATE % 2 = 0 →
        ∃ t l, exec (.snapshot c id) s = .next t ∧ marked c s t ∧ takenLatch s t l id 1 ∧ l.mask = 1 <<< c ∧ l.tick = s.tick ∧
          t.obs.lastTick = some s.time.ticks ∧ keepsRegs ((List.range 25).map Key.UNIT_BUSY) s t ∧
          t = { s with regs := t.regs, obs := t.obs, meter := t.meter, free := t.free, outbox := t.outbox, issuedCmds := t.issuedCmds }) ∧
      ((∃ x, s.obs.lastTick = some x ∧ s.time.ticks < x + 1024) ∨ s.get Key.SNAP_LOCK = s.snapTarget →
        ∃ t, exec (.snapshot c id) s = .next t ∧ marked c s t ∧
          t.get Key.SNAP_MISSED = satAdd max32 (s.get Key.SNAP_MISSED) 1 ∧ t.obs.latch = s.obs.latch ∧
          t.outbox = s.outbox ∧ keepsRegs [Key.SNAP_MISSED] s t)) ∧
    (∃ t, exec .snapInEdge s = .next t ∧ t.obs.latchDue = s.obs.latchDue ++ [(2, 3)] ∧
      t = { s with obs := { s.obs with latchDue := t.obs.latchDue } }) ∧
    (∀ tr, hostReady tr s = true → ∃ t, exec (.snapControl tr) s = .next t ∧ accepted tr t = true ∧
      t.obs.latchDue = s.obs.latchDue ++ [(4, 3)] ∧ t.obs.latch = s.obs.latch ∧ t.outbox = s.outbox ∧ t.dom = s.dom ∧ t.stg = s.stg ∧
      t.env = s.env) ∧
    (∀ o n, s.pending = [] → s.obs.latchDue = [(o, n)] → s.dru.rplBuf = {} → s.obs.traceBuf = {} →
      s.get Key.CLK_LEVEL_IN = s.time.throttle →
      (1 < n → ∃ t, Machine.step s = .next t ∧ t.obs.latchDue = [(o, n - 1)] ∧ t.obs.latch = s.obs.latch ∧ t.outbox = s.outbox) ∧
      (n = 1 → o = 2 → s.get Key.SNAP_TRIG_ENABLE ≠ 1 → ∃ t, Machine.step s = .next t ∧ t.obs.latchDue = [] ∧
        t.obs.latch = s.obs.latch ∧ t.outbox = s.outbox) ∧
      (n = 1 → o = 4 ∨ o = 2 ∧ s.get Key.SNAP_TRIG_ENABLE = 1 → (∀ x, s.obs.lastTick = some x → x + 1024 ≤ s.time.ticks + 1) →
        s.obs.dropTick ≠ some (s.time.ticks + 1) → s.get Key.SNAP_LOCK ≠ s.snapTarget → s.get Key.TRC_STATE % 2 = 0 →
        ∃ t l, Machine.step s = .next t ∧ t.obs.latchDue = [] ∧ takenLatch s t l 0xFFFF o ∧ l.mask = 0 ∧ l.tick = t.tick ∧
          t.obs.lastTick = some (s.time.ticks + 1))) ∧
    (∀ l, s.obs.pending = true → s.obs.latch = some l → Memory.wf s = true → ∃ t, exec .snapshotImageDone s = .next t ∧
      t.get Key.SNAP_SEQ = l.seq % 2 ^ 64 ∧ t.get Key.SNAP_LATEST = s.snapTarget ∧ t.obs.pending = false ∧
      t.domBytes (if s.snapTarget = 0 then Dom.SNAP_SET0 else Dom.SNAP_SET1) 0 (snapImage l).length = snapImage l ∧
      keepsRegs [Key.SNAP_SEQ, Key.SNAP_LATEST] s t ∧ t = { s with regs := t.regs, dom := t.dom, obs := t.obs })

/-! ### Metering (chapter 18) -/

/-- METER_RESTORE, TAP_WORD, POWER_WORD, POWER_TIMEOUT, METER_PERSIST, NV_DONE and PERSIST_ACK_TIMEOUT (R437, R440 to R445): the restore's
outcomes, the counters a tap word raises, the energy shared by busy cycles, the records persisted and what is logged. -/
def Obligations.MeteringPartition : Prop :=
  ∀ s : State, s.live = true → quiet s = true → Memory.wf s = true →
    (s.build.partition = true → s.get Key.METER_STATE = 0 →
      (allZero s.meter.key = true → ∃ t, exec .meterRestore s = .next t ∧ t.get Key.METER_STATE = 3 ∧ t.meter.held = [] ∧
        keepsRegs [Key.METER_STATE] s t ∧ t = { s with regs := t.regs, meter := t.meter, free := t.free }) ∧
      (∀ cfg, allZero s.meter.key = false → cfg = s.fresh.nvBytes 0 256 →
        (s.configOk cfg = false → ∃ t, exec .meterRestore s = .next t ∧ t.get Key.METER_STATE = 2 ∧
          t.get Key.FLT_LOG_HEAD = (s.get Key.FLT_LOG_HEAD + 1) % 2 ^ 32 ∧
          t.get Key.METER_LOG_HEAD = (s.get Key.METER_LOG_HEAD + 1) % 2 ^ 32 ∧ t.outbox = s.outbox ++ [.nvRead 0 256]) ∧
        (s.configOk cfg = true → s.slotOk (s.fresh.nvBytes 4096 33376) = false → s.slotOk (s.fresh.nvBytes 40960 33376) = false →
          ∃ t, exec .meterRestore s = .next t ∧ t.get Key.METER_STATE = 1 ∧ t.get Key.METER_SEAL_COUNT = u cfg 4 4 ∧
            t.domBytes Dom.METER_PARAMS 0 64 = sub cfg 8 64 ∧
            t.outbox = s.outbox ++ [.nvRead 0 256, .nvRead 4096 33376, .nvRead 40960 33376]))) ∧
    (∀ w r, s.meter.tap = w :: r →
      (s.get Key.METER_STATE = 1 → 1 ≤ bits w.toNat 60 4 → bits w.toNat 60 4 ≤ 5 → ∃ t, exec .tapWord s = .next t ∧ t.meter.tap = r ∧
        t.get (meterKey (bits w.toNat 60 4 - 1) (bits w.toNat 57 3)) =
          (s.get (meterKey (bits w.toNat 60 4 - 1) (bits w.toNat 57 3)) + bits w.toNat 0 57) % 2 ^ 64 ∧
        keepsRegs [meterKey (bits w.toNat 60 4 - 1) (bits w.toNat 57 3)] s t ∧ t = { s with regs := t.regs, meter := t.meter }) ∧
      (s.get Key.METER_STATE = 1 → bits w.toNat 60 4 = 9 → ∃ t, exec .tapWord s = .next t ∧ t.meter.tap = r ∧
        t.meter.refCount = s.meter.refCount + 1 ∧ t.meter.refLast = bits w.toNat 0 57 ∧
        t.get Key.METER_WRITE_REFUSED = satAdd max32 (s.get Key.METER_WRITE_REFUSED) 1 ∧ keepsRegs [Key.METER_WRITE_REFUSED] s t ∧
        t = { s with regs := t.regs, meter := t.meter }) ∧
      (s.get Key.METER_STATE = 0 → bits w.toNat 60 4 ≠ 8 → ∃ t, exec .tapWord s = .next t ∧ t.meter.tap = r ∧
        t.meter.held = s.meter.held ++ [w] ∧ t = { s with meter := t.meter }) ∧
      (s.get Key.METER_STATE = 1 → bits w.toNat 60 4 = 8 → ∃ t, exec .tapWord s = .next t ∧ t.meter.tap = r ∧
        t.meter.reportSeq = s.meter.reportSeq + 1 ∧ u (t.domBytes Dom.METER_REPORT 0 14) 0 8 = (s.meter.reportSeq + 1) % 2 ^ 64 ∧
        u (t.domBytes Dom.METER_REPORT 0 14) 8 4 = bits w.toNat 0 32 ∧ u (t.domBytes Dom.METER_REPORT 0 14) 12 2 = bits w.toNat 32 16 ∧
        t = { s with dom := t.dom, meter := t.meter }) ∧
      (2 ≤ s.get Key.METER_STATE → bits w.toNat 60 4 ≠ 8 → ∃ t, exec .tapWord s = .next t ∧ t = { s with meter := { s.meter with tap := r } })) ∧
    (∀ e : U32, s.get Key.METER_STATE = 1 →
      (s.meter.power = none → ∃ t, exec (.powerWord e) s = .next t ∧ t.meter.power = some (e.toNat, s.meterMs) ∧ t.meter.busy = [] ∧
        t.meter.powerEdges = 0 ∧ t = { s with meter := t.meter }) ∧
      (∀ p a dE b, s.meter.power = some (p, a) → dE = (e.toNat + 2 ^ 32 - p) % 2 ^ 32 → b = 13 * s.meter.powerEdges →
        (dE ≤ u s.meterParams 8 4 * (s.meterMs - a) → ∃ t share, exec (.powerWord e) s = .next t ∧
          share = (fun (c : Nat) => if b = 0 then 0 else dE * ((Sparse.get? s.meter.busy c).getD 0) / b) ∧
          (∀ c, c < 8 → t.get (meterKey 6 c) = (s.get (meterKey 6 c) + share c) % 2 ^ 64) ∧
          t.get Key.METER_ENERGY_IDLE = (s.get Key.METER_ENERGY_IDLE + (dE - ((List.range 8).map share).foldl (· + ·) 0)) % 2 ^ 64 ∧
          t.meter.power = some (e.toNat, s.meterMs) ∧ t.meter.busy = [] ∧ t = { s with regs := t.regs, meter := t.meter }) ∧
        (u s.meterParams 8 4 * (s.meterMs - a) < dE → ∃ t, exec (.powerWord e) s = .next t ∧ t.meter.power = some (e.toNat, s.meterMs) ∧
          (∀ c, c < 8 → t.get (meterKey 6 c) = s.get (meterKey 6 c)) ∧ t.get Key.METER_ENERGY_IDLE = s.get Key.METER_ENERGY_IDLE ∧
          t.get Key.METER_LOG_HEAD = (s.get Key.METER_LOG_HEAD + 1) % 2 ^ 32))) ∧
    (s.get Key.METER_STATE = 1 → s.meter.missing = false → s.meter.power = none → s.meter.msBase + u s.meterParams 12 2 ≤ s.meterMs →
      ∃ t, exec .powerTimeout s = .next t ∧ t.meter.missing = true ∧ t.get Key.METER_LOG_HEAD = (s.get Key.METER_LOG_HEAD + 1) % 2 ^ 32) ∧
    (s.get Key.METER_STATE = 1 → s.meter.mark < s.meterMs / 1000 * 1000 →
      (s.meter.refCount ≠ 0 → ∃ t e, exec .meterPersist s = .next t ∧ t.meter.refCount = 0 ∧
        e = t.domBytes Dom.METER_LOG (32 * (s.get Key.METER_LOG_HEAD % 1024)) 32 ∧ u e 4 1 = 5 ∧ u e 16 8 = s.meter.refCount % 2 ^ 64 ∧
        u e 24 8 = s.meter.refLast % 2 ^ 64 ∧ t.get Key.METER_LOG_HEAD = (s.get Key.METER_LOG_HEAD + 1) % 2 ^ 32) ∧
      (s.meter.refCount = 0 → s.meter.inFlight = none → ∃ t w, exec .meterPersist s = .next t ∧ t.meter.inFlight = some w ∧
        w.seq = s.get Key.METER_PERSIST_SEQ + 1 ∧
        w.slot = (if w.seq % 2 = 0 then 4096 else 40960) ∧ t.outbox = s.outbox ++ [.nvRecord w.slot w.bytes] ∧
        t.meter.mark = s.meterMs / 1000 * 1000 ∧ t = { s with meter := t.meter, outbox := t.outbox }) ∧
      (∀ w, s.meter.refCount = 0 → s.meter.inFlight = some w → ∃ t, exec .meterPersist s = .next t ∧ t.meter.owed = true ∧
        t.meter.inFlight = some w ∧
        t = { s with meter := t.meter })) ∧
    (∀ w, s.meter.inFlight = some w →
      (s.meter.owed = false → ∃ t, exec .nvDone s = .next t ∧ t.meter.inFlight = none ∧ t.get Key.METER_PERSIST_SEQ = w.seq % 2 ^ 64 ∧
        t.get Key.METER_PERSIST_FLAGS = (if w.quiet then 1 else 0) ∧ t.env = { s.env with nv := Mem.write s.env.nv w.slot w.bytes } ∧
        keepsRegs [Key.METER_PERSIST_SEQ, Key.METER_PERSIST_FLAGS] s t ∧ t.dom = s.dom) ∧
      (w.late = false → w.mark + 1000 ≤ s.meterMs → ∃ t, exec .persistAckTimeout s = .next t ∧
        t.meter.inFlight = some { w with late := true } ∧ t.get Key.FLT_LOG_HEAD = (s.get Key.FLT_LOG_HEAD + 1) % 2 ^ 32 ∧
        t.get Key.METER_LOG_HEAD = (s.get Key.METER_LOG_HEAD + 1) % 2 ^ 32))
end

