-- ==== Sys2Proof/Laws/Stores.lean ====
section
/-! SUPPORT. The laws of the sparse stores that hold the dictionary and the memories: their canonical form, which every write
keeps, and what a read gives after a write. -/

namespace Sys2Proof.Machine

open Sys2Proof

/-! ### Rising keys -/

/-- Keys above a bound are above a lower one. -/
theorem risingFrom_weaken {α : Type} {lo lo' : Option Nat} {m : List (Nat × α)} (h : Sparse.risingFrom lo m = true)
    (hl : ∀ l', lo' = some l' → ∃ l, lo = some l ∧ l' ≤ l) : Sparse.risingFrom lo' m = true := by
  cases m with
  | nil => rfl
  | cons e r =>
    obtain ⟨k, v⟩ := e
    simp only [Sparse.risingFrom, Bool.and_eq_true] at h ⊢
    refine ⟨?_, h.2⟩
    cases lo' with
    | none => rfl
    | some l' =>
      obtain ⟨l, rfl, hl⟩ := hl l' rfl
      simp only [decide_eq_true_eq] at h ⊢
      omega

/-- What stands after an entry rises from its key. -/
theorem risingFrom_tail {α : Type} {lo : Option Nat} {e : Nat × α} {m : List (Nat × α)} (h : Sparse.risingFrom lo (e :: m) = true) :
    Sparse.risingFrom (some e.1) m = true := by
  obtain ⟨k, v⟩ := e
  simp only [Sparse.risingFrom, Bool.and_eq_true] at h
  exact h.2

/-- Every key of a store that rises from a bound lies above it. -/
theorem risingFrom_above {α : Type} {l : Nat} {m : List (Nat × α)} (h : Sparse.risingFrom (some l) m = true) :
    ∀ e ∈ m, l < e.1 := by
  induction m generalizing l with
  | nil => intro e he; cases he
  | cons x r ih =>
    obtain ⟨k, v⟩ := x
    intro e he
    simp only [Sparse.risingFrom, Bool.and_eq_true, decide_eq_true_eq] at h
    rcases List.mem_cons.1 he with rfl | he
    · exact h.1
    · exact Nat.lt_trans h.1 (ih h.2 e he)

/-- A part of a rising store rises. -/
theorem risingFrom_filter {α : Type} (p : Nat × α → Bool) {m : List (Nat × α)} {lo : Option Nat}
    (h : Sparse.risingFrom lo m = true) : Sparse.risingFrom lo (m.filter p) = true := by
  induction m generalizing lo with
  | nil => exact h
  | cons e r ih =>
    have hr := ih (risingFrom_tail h)
    by_cases hp : p e = true
    · rw [List.filter_cons_of_pos hp]
      obtain ⟨k, v⟩ := e
      simp only [Sparse.risingFrom, Bool.and_eq_true] at h ⊢
      exact ⟨h.1, hr⟩
    · rw [List.filter_cons_of_neg hp]
      refine risingFrom_weaken hr ?_
      intro l' hl'
      subst hl'
      obtain ⟨k, v⟩ := e
      simp only [Sparse.risingFrom, Bool.and_eq_true, decide_eq_true_eq] at h
      exact ⟨k, rfl, Nat.le_of_lt h.1⟩

/-- Two stores in a row rise where the second lies above a bound and the first at or below it. -/
theorem risingFrom_append {α : Type} {a b : List (Nat × α)} {lo : Option Nat} {c : Nat} (ha : Sparse.risingFrom lo a = true)
    (hc : ∀ e ∈ a, e.1 < c) (hb : ∀ e ∈ b, c ≤ e.1) (hl : ∀ l, lo = some l → l < c) (hr : Sparse.risingFrom none b = true) :
    Sparse.risingFrom lo (a ++ b) = true := by
  induction a generalizing lo with
  | nil =>
    cases b with
    | nil => rfl
    | cons e r =>
      obtain ⟨k, v⟩ := e
      simp only [List.nil_append, Sparse.risingFrom, Bool.and_eq_true] at hr ⊢
      refine ⟨?_, hr.2⟩
      cases lo with
      | none => rfl
      | some l =>
        have h1 := hb (k, v) (List.mem_cons_self ..)
        have h2 := hl l rfl
        simp only [decide_eq_true_eq]
        exact Nat.lt_of_lt_of_le h2 h1
  | cons e r ih =>
    obtain ⟨k, v⟩ := e
    simp only [List.cons_append, Sparse.risingFrom, Bool.and_eq_true] at ha ⊢
    refine ⟨ha.1, ih ha.2 (fun e he => hc e (List.mem_cons_of_mem _ he)) ?_⟩
    intro l h
    cases h
    exact hc (k, v) (List.mem_cons_self ..)

/-- Cells at consecutive keys rise. -/
theorem risingFrom_listed {α : Type} (vs : List α) (a : Nat) {lo : Option Nat} (hl : ∀ l, lo = some l → l < a) :
    Sparse.risingFrom lo (Sparse.listed a vs) = true := by
  induction vs generalizing a lo with
  | nil => rfl
  | cons v r ih =>
    simp only [Sparse.listed, Sparse.risingFrom, Bool.and_eq_true]
    refine ⟨?_, ih (a + 1) ?_⟩
    · cases lo with
      | none => rfl
      | some l => simpa using hl l rfl
    · intro l h
      cases h
      exact Nat.lt_succ_self a

/-- The keys of cells at consecutive keys. -/
theorem listed_keys {α : Type} (vs : List α) (a : Nat) : ∀ e ∈ Sparse.listed a vs, a ≤ e.1 ∧ e.1 < a + vs.length := by
  induction vs generalizing a with
  | nil => intro e he; cases he
  | cons v r ih =>
    intro e he
    simp only [Sparse.listed, List.mem_cons] at he
    rcases he with rfl | he
    · simp
    · have := ih (a + 1) e he
      simp only [List.length_cons]
      omega

/-- A splice of cells within its range keeps a store rising. -/
theorem splice_rising {α : Type} {m cells : List (Nat × α)} {a n : Nat} (hm : Sparse.rising m = true)
    (hc : Sparse.rising cells = true) (hk : ∀ e ∈ cells, a ≤ e.1 ∧ e.1 < a + n) : Sparse.rising (Sparse.splice m a n cells) = true := by
  unfold Sparse.splice Sparse.rising
  rw [List.append_assoc]
  refine risingFrom_append (c := a) (risingFrom_filter _ hm) ?_ ?_ (fun l h => by cases h) ?_
  · intro e he
    have := (List.mem_filter.1 he).2
    simpa using this
  · intro e he
    rcases List.mem_append.1 he with h | h
    · exact (hk e h).1
    · have := (List.mem_filter.1 h).2
      simp only [decide_eq_true_eq] at this
      omega
  · refine risingFrom_append (c := a + n) hc (fun e he => (hk e he).2) ?_ (fun l h => by cases h) (risingFrom_filter _ hm)
    intro e he
    have := (List.mem_filter.1 he).2
    simpa using this

/-- A write keeps a memory's canonical form. -/
theorem write_rising (m : List (Nat × Byte)) (a : Nat) (bs : Bytes) (h : Sparse.rising m = true) :
    Sparse.rising (Mem.write m a bs) = true :=
  splice_rising h (risingFrom_listed bs a (fun l h => by cases h)) (listed_keys bs a)

/-! ### Stores with defaults -/

/-- A part of a canonical store is canonical. -/
theorem filter_canonical {α : Type} [DecidableEq α] (d : Nat → α) (p : Nat × α → Bool) {m : List (Nat × α)}
    (h : Sparse.canonical d m = true) : Sparse.canonical d (m.filter p) = true := by
  simp only [Sparse.canonical, Bool.and_eq_true, List.all_eq_true] at h ⊢
  exact ⟨risingFrom_filter p h.1, fun e he => h.2 e (List.mem_filter.1 he).1⟩

/-- A write of bytes keeps the canonical form of a store with defaults. -/
theorem writeDflt_canonical (d : Nat → Byte) (m : List (Nat × Byte)) (a : Nat) (bs : Bytes)
    (h : Sparse.canonical d m = true) : Sparse.canonical d (Mem.writeDflt d m a bs) = true := by
  have h' := h
  simp only [Sparse.canonical, Bool.and_eq_true, List.all_eq_true] at h' ⊢
  refine ⟨splice_rising h'.1 (risingFrom_filter _ (risingFrom_listed bs a (fun l h => by cases h)))
    (fun e he => listed_keys bs a e (List.mem_filter.1 he).1), ?_⟩
  intro e he
  unfold Mem.writeDflt Sparse.splice at he
  rcases List.mem_append.1 he with he | he
  · rcases List.mem_append.1 he with he | he
    · exact h'.2 e (List.mem_filter.1 he).1
    · exact (List.mem_filter.1 he).2
  · exact h'.2 e (List.mem_filter.1 he).1

/-- An entry removed is a filter of a rising store. -/
theorem del_eq_filter {α : Type} (m : List (Nat × α)) (i : Nat) : Sparse.del m i = m.filter (fun e => decide (e.1 ≠ i)) := by
  induction m with
  | nil => rfl
  | cons e r ih =>
    obtain ⟨k, v⟩ := e
    by_cases h : k = i
    · subst h
      simp [Sparse.del, ih]
    · simp [Sparse.del, h, ih]

/-- An entry put into a rising store leaves it rising. -/
theorem put_risingFrom {α : Type} {m : List (Nat × α)} {i : Nat} {v : α} {lo : Option Nat} (h : Sparse.risingFrom lo m = true)
    (hl : ∀ l, lo = some l → l < i) : Sparse.risingFrom lo (Sparse.put m i v) = true := by
  induction m generalizing lo with
  | nil =>
    simp only [Sparse.put, Sparse.risingFrom, Bool.and_true]
    cases lo with
    | none => rfl
    | some l => simpa using hl l rfl
  | cons e r ih =>
    obtain ⟨k, w⟩ := e
    simp only [Sparse.put]
    have h1 := h
    simp only [Sparse.risingFrom, Bool.and_eq_true] at h1
    by_cases hlt : i < k
    · rw [if_pos hlt]
      simp only [Sparse.risingFrom, Bool.and_eq_true, decide_eq_true_eq]
      refine ⟨?_, hlt, h1.2⟩
      cases lo with
      | none => rfl
      | some l => simpa using hl l rfl
    · rw [if_neg hlt]
      by_cases heq : i = k
      · rw [if_pos heq]
        simp only [Sparse.risingFrom, Bool.and_eq_true]
        subst heq
        exact h1
      · rw [if_neg heq]
        simp only [Sparse.risingFrom, Bool.and_eq_true]
        refine ⟨h1.1, ih h1.2 ?_⟩
        intro l h
        cases h
        omega

/-- What a put leaves in a store was there or is the new entry. -/
theorem mem_put {α : Type} {m : List (Nat × α)} {i : Nat} {v : α} {e : Nat × α} (h : e ∈ Sparse.put m i v) : e = (i, v) ∨ e ∈ m := by
  induction m with
  | nil => simp [Sparse.put] at h; exact .inl h
  | cons x r ih =>
    obtain ⟨k, w⟩ := x
    simp only [Sparse.put] at h
    split at h
    · simp only [List.mem_cons] at h ⊢
      tauto
    · split at h
      · simp only [List.mem_cons] at h ⊢
        tauto
      · simp only [List.mem_cons] at h ⊢
        rcases h with h | h
        · tauto
        · rcases ih h with h | h <;> tauto

/-- A write of one entry keeps the canonical form. -/
theorem set_canonical {α : Type} [DecidableEq α] (d : Nat → α) (m : List (Nat × α)) (i : Nat) (v : α)
    (h : Sparse.canonical d m = true) : Sparse.canonical d (Sparse.set d m i v) = true := by
  unfold Sparse.set
  split
  · rw [del_eq_filter]
    exact filter_canonical d _ h
  · rename_i hv
    simp only [Sparse.canonical, Bool.and_eq_true, List.all_eq_true] at h ⊢
    refine ⟨put_risingFrom h.1 (fun l h => by cases h), ?_⟩
    intro e he
    rcases mem_put he with rfl | he
    · simpa using hv
    · exact h.2 e he

/-! ### Reads after writes -/

/-- An entry removed reads as unlisted; others read as before. -/
theorem get?_del {α : Type} (m : List (Nat × α)) (i j : Nat) :
    Sparse.get? (Sparse.del m i) j = if i = j then none else Sparse.get? m j := by
  induction m with
  | nil => simp [Sparse.del, Sparse.get?]
  | cons e r ih =>
    obtain ⟨k, v⟩ := e
    by_cases h : k = i
    · subst h
      rw [Sparse.del, if_pos rfl, ih, Sparse.get?]
      by_cases hj : k = j <;> simp [hj]
    · rw [Sparse.del, if_neg h, Sparse.get?, ih, Sparse.get?]
      by_cases hj : k = j
      · subst hj
        rw [if_pos rfl, if_neg (fun e => h e.symm), if_pos rfl]
      · simp [hj]

/-- An entry put reads as the value put; others read as before. -/
theorem get?_put {α : Type} (m : List (Nat × α)) (i j : Nat) (v : α) :
    Sparse.get? (Sparse.put m i v) j = if i = j then some v else Sparse.get? m j := by
  induction m with
  | nil => simp [Sparse.put, Sparse.get?]
  | cons e r ih =>
    obtain ⟨k, w⟩ := e
    simp only [Sparse.put]
    by_cases hlt : i < k
    · rw [if_pos hlt]
      simp only [Sparse.get?]
    · rw [if_neg hlt]
      by_cases heq : i = k
      · rw [if_pos heq]
        subst heq
        simp only [Sparse.get?]
        by_cases hj : i = j <;> simp [hj]
      · rw [if_neg heq]
        simp only [Sparse.get?, ih]
        by_cases hj : k = j
        · subst hj
          simp [heq]
        · simp [hj]

/-- A store read after a write of one entry. -/
theorem read_set {α : Type} [DecidableEq α] (d : Nat → α) (m : List (Nat × α)) (i j : Nat) (v : α) :
    Sparse.read d (Sparse.set d m i v) j = if i = j then v else Sparse.read d m j := by
  unfold Sparse.read Sparse.set
  by_cases hv : v = d i
  · rw [if_pos hv, get?_del]
    by_cases hj : i = j
    · subst hj
      simp [hv]
    · simp [hj]
  · rw [if_neg hv, get?_put]
    by_cases hj : i = j <;> simp [hj]

/-- A register read after a write: the value written, modulo 2^64, at its own key, and what it read before elsewhere. -/
theorem get_put (s : State) (k j v : Nat) : (s.put k v).get j = if k = j then v % 2 ^ 64 else s.get j := by
  unfold State.get State.put
  rw [read_set]
  by_cases h : k = j <;> simp [h]

/-- A register reads as written. -/
theorem get_put_self (s : State) (k v : Nat) : (s.put k v).get k = v % 2 ^ 64 := by simp [get_put]

/-- A write leaves the other registers. -/
theorem get_put_ne (s : State) {k j : Nat} (v : Nat) (h : k ≠ j) : (s.put k v).get j = s.get j := by simp [get_put, h]

/-- A register holds 64 bits. -/
theorem get_lt (s : State) (k : Nat) : s.get k < 2 ^ 64 := (Sparse.read regDefault s.regs k).isLt

/-- A key above the first of a rising store is looked for after it. -/
theorem get?_append {α : Type} (a b : List (Nat × α)) (j : Nat) :
    Sparse.get? (a ++ b) j = (Sparse.get? a j).or (Sparse.get? b j) := by
  induction a with
  | nil => simp [Sparse.get?]
  | cons e r ih =>
    obtain ⟨k, v⟩ := e
    simp only [List.cons_append, Sparse.get?]
    by_cases h : k = j <;> simp [h, ih]

/-- A part of a store reads as it does at the keys it keeps. -/
theorem get?_filter {α : Type} (m : List (Nat × α)) (p : Nat → Bool) (j : Nat) :
    Sparse.get? (m.filter (fun e => p e.1)) j = if p j then Sparse.get? m j else none := by
  induction m with
  | nil => simp [Sparse.get?]
  | cons e r ih =>
    obtain ⟨k, v⟩ := e
    by_cases hp : p k = true
    · rw [List.filter_cons_of_pos (by simpa using hp)]
      simp only [Sparse.get?, ih]
      by_cases h : k = j
      · subst h
        simp [hp]
      · simp [h]
    · rw [List.filter_cons_of_neg (by simpa using hp), ih]
      simp only [Sparse.get?]
      by_cases h : k = j
      · subst h
        simp [hp]
      · simp [h]

/-- Cells at consecutive keys read as their values. -/
theorem get?_listed {α : Type} (vs : List α) (a j : Nat) :
    Sparse.get? (Sparse.listed a vs) j = if a ≤ j then vs[j - a]? else none := by
  induction vs generalizing a with
  | nil => simp [Sparse.listed, Sparse.get?]
  | cons v r ih =>
    simp only [Sparse.listed, Sparse.get?, ih]
    by_cases h : a = j
    · subst h
      simp
    · by_cases h2 : a ≤ j
      · have e : j - a = (j - (a + 1)) + 1 := by omega
        have h3 : a + 1 ≤ j := by omega
        simp [h, h2, h3, e]
      · have h3 : ¬ a + 1 ≤ j := by omega
        simp [h, h2, h3]

/-- A memory read after a write: the byte written inside the write, the byte it held outside. -/
theorem get?_write (m : List (Nat × Byte)) (a j : Nat) (bs : Bytes) :
    Sparse.get? (Mem.write m a bs) j = if a ≤ j ∧ j < a + bs.length then bs[j - a]? else Sparse.get? m j := by
  unfold Mem.write Sparse.splice
  rw [get?_append, get?_append, get?_listed, get?_filter m (fun k => decide (k < a)), get?_filter m (fun k => decide (a + bs.length ≤ k))]
  by_cases h1 : j < a
  · have h2 : ¬ a ≤ j := by omega
    have h3 : ¬ a + bs.length ≤ j := by omega
    simp [h1, h2, h3]
  · have h2 : a ≤ j := by omega
    by_cases h3 : j < a + bs.length
    · have h4 : ¬ a + bs.length ≤ j := by omega
      simp [h1, h2, h3, h4]
    · have h4 : a + bs.length ≤ j := by omega
      have h5 : bs[j - a]? = none := by
        rw [List.getElem?_eq_none]
        omega
      simp [h1, h2, h3, h4, h5]

/-- Entries below a key do not bear on a read at it. -/
theorem get?_dropWhile {α : Type} (m : List (Nat × α)) {a j : Nat} (h : a ≤ j) :
    Sparse.get? (m.dropWhile (fun e => decide (e.1 < a))) j = Sparse.get? m j := by
  induction m with
  | nil => rfl
  | cons e r ih =>
    obtain ⟨k, v⟩ := e
    by_cases hk : k < a
    · rw [List.dropWhile_cons_of_pos (by simpa using hk), ih]
      have : k ≠ j := by omega
      simp [Sparse.get?, this]
    · rw [List.dropWhile_cons_of_neg (by simpa using hk)]

/-- A store that rises from a bound lists no key at or below it. -/
theorem get?_below {α : Type} {m : List (Nat × α)} {l j : Nat} (h : Sparse.risingFrom (some l) m = true) (hj : j ≤ l) :
    Sparse.get? m j = none := by
  induction m generalizing l with
  | nil => rfl
  | cons e r ih =>
    obtain ⟨k, v⟩ := e
    simp only [Sparse.risingFrom, Bool.and_eq_true, decide_eq_true_eq] at h
    have : k ≠ j := by omega
    simp only [Sparse.get?, this, if_false]
    exact ih h.2 (by omega)

/-- What is left of a rising store after its first keys rises. -/
theorem risingFrom_dropWhile {α : Type} {m : List (Nat × α)} (p : Nat × α → Bool) (h : Sparse.rising m = true) :
    Sparse.rising (m.dropWhile p) = true := by
  induction m with
  | nil => rfl
  | cons e r ih =>
    by_cases hp : p e = true
    · rw [List.dropWhile_cons_of_pos hp]
      exact ih (risingFrom_weaken (risingFrom_tail h) (fun l h => by cases h))
    · rw [List.dropWhile_cons_of_neg hp]
      exact h

/-- A read of a memory in its canonical form gives the byte listed at each address, and `f`'s where none is. -/
theorem read_eq (f : Nat → Byte) (n : Nat) {m : List (Nat × Byte)} (a : Nat) (h : Sparse.rising m = true) :
    Mem.read f m a n = (List.range n).map (fun i => (Sparse.get? m (a + i)).getD (f (a + i))) := by
  induction n generalizing m a with
  | zero => cases m <;> rfl
  | succ n ih =>
    have hd := risingFrom_dropWhile (fun e => decide (e.1 < a)) h
    have hg : ∀ j, a ≤ j → Sparse.get? (m.dropWhile (fun e => decide (e.1 < a))) j = Sparse.get? m j :=
      fun j hj => get?_dropWhile m hj
    rw [List.range_succ_eq_map, List.map_cons, List.map_map]
    unfold Mem.read
    generalize hq : m.dropWhile (fun e => decide (e.1 < a)) = q at hd hg
    cases q with
    | nil =>
      have h0 := hg a (Nat.le_refl a)
      simp only [Sparse.get?] at h0
      rw [ih (m := []) (a + 1) rfl]
      simp only [Nat.add_zero, ← h0, Option.getD_none]
      congr 1
      refine List.map_congr_left ?_
      intro i _
      have h1 := hg (a + (i + 1)) (by omega)
      simp only [Sparse.get?] at h1
      have e : a + 1 + i = a + (i + 1) := by omega
      simp [Function.comp, Sparse.get?, ← h1, e]
    | cons x r =>
      obtain ⟨k, b⟩ := x
      have hka : a ≤ k := by
        have := List.head?_dropWhile_not (fun e : Nat × Byte => decide (e.1 < a)) m
        rw [hq] at this
        simpa using this
      by_cases hk : k = a
      · subst hk
        simp only [if_true]
        have h0 := hg k (Nat.le_refl k)
        simp only [Sparse.get?, if_true] at h0
        have hr : Sparse.rising r = true := risingFrom_weaken (risingFrom_tail hd) (fun l h => by cases h)
        rw [ih (k + 1) hr]
        simp only [Nat.add_zero, ← h0, Option.getD_some]
        congr 1
        refine List.map_congr_left ?_
        intro i _
        have h1 := hg (k + (i + 1)) (by omega)
        have hne : ¬ k = k + (i + 1) := by omega
        simp only [Sparse.get?, hne, if_false] at h1
        have e : k + 1 + i = k + (i + 1) := by omega
        simp [Function.comp, ← h1, e]
      · simp only [hk, if_false]
        have h0 := hg a (Nat.le_refl a)
        have hn : Sparse.get? ((k, b) :: r) a = none := by
          simp only [Sparse.get?, hk, if_false]
          exact get?_below (risingFrom_tail hd) hka
        rw [hn] at h0
        rw [ih (a + 1) hd]
        simp only [Nat.add_zero, ← h0, Option.getD_none]
        congr 1
        refine List.map_congr_left ?_
        intro i _
        have h1 := hg (a + (i + 1)) (by omega)
        have e : a + 1 + i = a + (i + 1) := by omega
        simp [Function.comp, ← h1, e]

end Sys2Proof.Machine
end

