-- ==== Sys2Proof/Laws/State.lean ====
section
/-! SUPPORT. What each plain update of the state changes: one lemma per field, and per way of reading it, so that no later proof
unfolds a record update. -/

namespace Sys2Proof.Machine

open Sys2Proof

variable (s : State)

@[simp] theorem put_pending (k v : Nat) : (s.put k v).pending = s.pending := rfl
@[simp] theorem put_phase (k v : Nat) : (s.put k v).phase = s.phase := rfl
@[simp] theorem put_clockStopped (k v : Nat) : (s.put k v).clockStopped = s.clockStopped := rfl
@[simp] theorem put_build (k v : Nat) : (s.put k v).build = s.build := rfl
@[simp] theorem put_env (k v : Nat) : (s.put k v).env = s.env := rfl
@[simp] theorem put_regs (k v : Nat) : (s.put k v).regs = Sparse.set regDefault s.regs k (BitVec.ofNat 64 v) := rfl
@[simp] theorem put_dom (k v : Nat) : (s.put k v).dom = s.dom := rfl
@[simp] theorem put_view (k v : Nat) : (s.put k v).view = s.view := rfl
@[simp] theorem put_viewDom (k v : Nat) : (s.put k v).viewDom = s.viewDom := rfl
@[simp] theorem put_stg (k v : Nat) : (s.put k v).stg = s.stg := rfl
@[simp] theorem put_qstore (k v : Nat) : (s.put k v).qstore = s.qstore := rfl
@[simp] theorem put_free (k v : Nat) : (s.put k v).free = s.free := rfl
@[simp] theorem put_outbox (k v : Nat) : (s.put k v).outbox = s.outbox := rfl
@[simp] theorem put_time (k v : Nat) : (s.put k v).time = s.time := rfl
@[simp] theorem put_rates (k v : Nat) : (s.put k v).rates = s.rates := rfl
@[simp] theorem put_ports (k v : Nat) : (s.put k v).ports = s.ports := rfl
@[simp] theorem put_tpUp (k v : Nat) : (s.put k v).tpUp = s.tpUp := rfl
@[simp] theorem put_tileTx (k v : Nat) : (s.put k v).tileTx = s.tileTx := rfl
@[simp] theorem put_ctlWait (k v : Nat) : (s.put k v).ctlWait = s.ctlWait := rfl
@[simp] theorem put_seen (k v : Nat) : (s.put k v).seen = s.seen := rfl
@[simp] theorem put_noticeTx (k v : Nat) : (s.put k v).noticeTx = s.noticeTx := rfl
@[simp] theorem put_targets (k v : Nat) : (s.put k v).targets = s.targets := rfl
@[simp] theorem put_ctxs (k v : Nat) : (s.put k v).ctxs = s.ctxs := rfl
@[simp] theorem put_issuedCmds (k v : Nat) : (s.put k v).issuedCmds = s.issuedCmds := rfl
@[simp] theorem put_loads (k v : Nat) : (s.put k v).loads = s.loads := rfl
@[simp] theorem put_cp (k v : Nat) : (s.put k v).cp = s.cp := rfl
@[simp] theorem put_can (k v : Nat) : (s.put k v).can = s.can := rfl
@[simp] theorem put_win (k v : Nat) : (s.put k v).win = s.win := rfl
@[simp] theorem put_field (k v : Nat) : (s.put k v).field = s.field := rfl
@[simp] theorem put_obs (k v : Nat) : (s.put k v).obs = s.obs := rfl
@[simp] theorem put_meter (k v : Nat) : (s.put k v).meter = s.meter := rfl
@[simp] theorem put_dru (k v : Nat) : (s.put k v).dru = s.dru := rfl
@[simp] theorem put_audits (k v : Nat) : (s.put k v).audits = s.audits := rfl
@[simp] theorem put_pools (k v : Nat) : (s.put k v).pools = s.pools := rfl
@[simp] theorem put_queues (k v : Nat) : (s.put k v).queues = s.queues := rfl
@[simp] theorem put_press (k v : Nat) : (s.put k v).press = s.press := rfl
@[simp] theorem put_sfu (k v : Nat) : (s.put k v).sfu = s.sfu := rfl
@[simp] theorem put_ptCheck (k v : Nat) : (s.put k v).ptCheck = s.ptCheck := rfl
@[simp] theorem put_swaps (k v : Nat) : (s.put k v).swaps = s.swaps := rfl
@[simp] theorem put_sfuCheck (k v : Nat) : (s.put k v).sfuCheck = s.sfuCheck := rfl
@[simp] theorem put_cle (k v : Nat) : (s.put k v).cle = s.cle := rfl
@[simp] theorem put_fep (k v : Nat) : (s.put k v).fep = s.fep := rfl
@[simp] theorem put_cvu (k v : Nat) : (s.put k v).cvu = s.cvu := rfl
@[simp] theorem put_wins (k v : Nat) : (s.put k v).wins = s.wins := rfl
@[simp] theorem put_selins (k v : Nat) : (s.put k v).selins = s.selins := rfl
@[simp] theorem put_stats (k v : Nat) : (s.put k v).stats = s.stats := rfl
@[simp] theorem put_streams (k v : Nat) : (s.put k v).streams = s.streams := rfl
@[simp] theorem put_pieces (k v : Nat) : (s.put k v).pieces = s.pieces := rfl
@[simp] theorem put_rets (k v : Nat) : (s.put k v).rets = s.rets := rfl
@[simp] theorem put_helds (k v : Nat) : (s.put k v).helds = s.helds := rfl
@[simp] theorem put_lates (k v : Nat) : (s.put k v).lates = s.lates := rfl
@[simp] theorem put_lateOuts (k v : Nat) : (s.put k v).lateOuts = s.lateOuts := rfl
@[simp] theorem put_lateTiles (k v : Nat) : (s.put k v).lateTiles = s.lateTiles := rfl
@[simp] theorem put_losts (k v : Nat) : (s.put k v).losts = s.losts := rfl
@[simp] theorem put_refusedTiles (k v : Nat) : (s.put k v).refusedTiles = s.refusedTiles := rfl
@[simp] theorem put_fwdRets (k v : Nat) : (s.put k v).fwdRets = s.fwdRets := rfl
@[simp] theorem put_expects (k v : Nat) : (s.put k v).expects = s.expects := rfl
@[simp] theorem put_rels (k v : Nat) : (s.put k v).rels = s.rels := rfl
@[simp] theorem put_series (k v : Nat) : (s.put k v).series = s.series := rfl
@[simp] theorem put_partials (k v : Nat) : (s.put k v).partials = s.partials := rfl
@[simp] theorem put_combs (k v : Nat) : (s.put k v).combs = s.combs := rfl
@[simp] theorem put_grads (k v : Nat) : (s.put k v).grads = s.grads := rfl
@[simp] theorem put_layerGrads (k v : Nat) : (s.put k v).layerGrads = s.layerGrads := rfl
@[simp] theorem domBytes_put (k v : Nat) (n o m : Nat) : (s.put k v).domBytes n o m = s.domBytes n o m := rfl
@[simp] theorem ctx_put (k v : Nat) (n : Nat) : (s.put k v).ctx n = s.ctx n := rfl
@[simp] theorem pool_put (k v : Nat) (n : Nat) : (s.put k v).pool n = s.pool n := rfl
@[simp] theorem queue_put (k v : Nat) (n : Nat) : (s.put k v).queue n = s.queue n := rfl
@[simp] theorem port_put (k v : Nat) (n : Nat) : (s.put k v).port n = s.port n := rfl
@[simp] theorem tport_put (k v : Nat) (tr : Transport) : (s.put k v).tport tr = s.tport tr := by cases tr <;> rfl
@[simp] theorem piece_put (k v : Nat) (n : PieceKey) : (s.put k v).piece n = s.piece n := rfl

@[simp] theorem domPut_pending (k o : Nat) (bs : Bytes) : (s.domPut k o bs).pending = s.pending := rfl
@[simp] theorem domPut_phase (k o : Nat) (bs : Bytes) : (s.domPut k o bs).phase = s.phase := rfl
@[simp] theorem domPut_clockStopped (k o : Nat) (bs : Bytes) : (s.domPut k o bs).clockStopped = s.clockStopped := rfl
@[simp] theorem domPut_build (k o : Nat) (bs : Bytes) : (s.domPut k o bs).build = s.build := rfl
@[simp] theorem domPut_env (k o : Nat) (bs : Bytes) : (s.domPut k o bs).env = s.env := rfl
@[simp] theorem domPut_regs (k o : Nat) (bs : Bytes) : (s.domPut k o bs).regs = s.regs := rfl
@[simp] theorem domPut_dom (k o : Nat) (bs : Bytes) : (s.domPut k o bs).dom = Mem.writeDflt domDefault s.dom (k * domSpan + o) bs := rfl
@[simp] theorem domPut_view (k o : Nat) (bs : Bytes) : (s.domPut k o bs).view = s.view := rfl
@[simp] theorem domPut_viewDom (k o : Nat) (bs : Bytes) : (s.domPut k o bs).viewDom = s.viewDom := rfl
@[simp] theorem domPut_stg (k o : Nat) (bs : Bytes) : (s.domPut k o bs).stg = s.stg := rfl
@[simp] theorem domPut_qstore (k o : Nat) (bs : Bytes) : (s.domPut k o bs).qstore = s.qstore := rfl
@[simp] theorem domPut_free (k o : Nat) (bs : Bytes) : (s.domPut k o bs).free = s.free := rfl
@[simp] theorem domPut_outbox (k o : Nat) (bs : Bytes) : (s.domPut k o bs).outbox = s.outbox := rfl
@[simp] theorem domPut_time (k o : Nat) (bs : Bytes) : (s.domPut k o bs).time = s.time := rfl
@[simp] theorem domPut_rates (k o : Nat) (bs : Bytes) : (s.domPut k o bs).rates = s.rates := rfl
@[simp] theorem domPut_ports (k o : Nat) (bs : Bytes) : (s.domPut k o bs).ports = s.ports := rfl
@[simp] theorem domPut_tpUp (k o : Nat) (bs : Bytes) : (s.domPut k o bs).tpUp = s.tpUp := rfl
@[simp] theorem domPut_tileTx (k o : Nat) (bs : Bytes) : (s.domPut k o bs).tileTx = s.tileTx := rfl
@[simp] theorem domPut_ctlWait (k o : Nat) (bs : Bytes) : (s.domPut k o bs).ctlWait = s.ctlWait := rfl
@[simp] theorem domPut_seen (k o : Nat) (bs : Bytes) : (s.domPut k o bs).seen = s.seen := rfl
@[simp] theorem domPut_noticeTx (k o : Nat) (bs : Bytes) : (s.domPut k o bs).noticeTx = s.noticeTx := rfl
@[simp] theorem domPut_targets (k o : Nat) (bs : Bytes) : (s.domPut k o bs).targets = s.targets := rfl
@[simp] theorem domPut_ctxs (k o : Nat) (bs : Bytes) : (s.domPut k o bs).ctxs = s.ctxs := rfl
@[simp] theorem domPut_issuedCmds (k o : Nat) (bs : Bytes) : (s.domPut k o bs).issuedCmds = s.issuedCmds := rfl
@[simp] theorem domPut_loads (k o : Nat) (bs : Bytes) : (s.domPut k o bs).loads = s.loads := rfl
@[simp] theorem domPut_cp (k o : Nat) (bs : Bytes) : (s.domPut k o bs).cp = s.cp := rfl
@[simp] theorem domPut_can (k o : Nat) (bs : Bytes) : (s.domPut k o bs).can = s.can := rfl
@[simp] theorem domPut_win (k o : Nat) (bs : Bytes) : (s.domPut k o bs).win = s.win := rfl
@[simp] theorem domPut_field (k o : Nat) (bs : Bytes) : (s.domPut k o bs).field = s.field := rfl
@[simp] theorem domPut_obs (k o : Nat) (bs : Bytes) : (s.domPut k o bs).obs = s.obs := rfl
@[simp] theorem domPut_meter (k o : Nat) (bs : Bytes) : (s.domPut k o bs).meter = s.meter := rfl
@[simp] theorem domPut_dru (k o : Nat) (bs : Bytes) : (s.domPut k o bs).dru = s.dru := rfl
@[simp] theorem domPut_audits (k o : Nat) (bs : Bytes) : (s.domPut k o bs).audits = s.audits := rfl
@[simp] theorem domPut_pools (k o : Nat) (bs : Bytes) : (s.domPut k o bs).pools = s.pools := rfl
@[simp] theorem domPut_queues (k o : Nat) (bs : Bytes) : (s.domPut k o bs).queues = s.queues := rfl
@[simp] theorem domPut_press (k o : Nat) (bs : Bytes) : (s.domPut k o bs).press = s.press := rfl
@[simp] theorem domPut_sfu (k o : Nat) (bs : Bytes) : (s.domPut k o bs).sfu = s.sfu := rfl
@[simp] theorem domPut_ptCheck (k o : Nat) (bs : Bytes) : (s.domPut k o bs).ptCheck = s.ptCheck := rfl
@[simp] theorem domPut_swaps (k o : Nat) (bs : Bytes) : (s.domPut k o bs).swaps = s.swaps := rfl
@[simp] theorem domPut_sfuCheck (k o : Nat) (bs : Bytes) : (s.domPut k o bs).sfuCheck = s.sfuCheck := rfl
@[simp] theorem domPut_cle (k o : Nat) (bs : Bytes) : (s.domPut k o bs).cle = s.cle := rfl
@[simp] theorem domPut_fep (k o : Nat) (bs : Bytes) : (s.domPut k o bs).fep = s.fep := rfl
@[simp] theorem domPut_cvu (k o : Nat) (bs : Bytes) : (s.domPut k o bs).cvu = s.cvu := rfl
@[simp] theorem domPut_wins (k o : Nat) (bs : Bytes) : (s.domPut k o bs).wins = s.wins := rfl
@[simp] theorem domPut_selins (k o : Nat) (bs : Bytes) : (s.domPut k o bs).selins = s.selins := rfl
@[simp] theorem domPut_stats (k o : Nat) (bs : Bytes) : (s.domPut k o bs).stats = s.stats := rfl
@[simp] theorem domPut_streams (k o : Nat) (bs : Bytes) : (s.domPut k o bs).streams = s.streams := rfl
@[simp] theorem domPut_pieces (k o : Nat) (bs : Bytes) : (s.domPut k o bs).pieces = s.pieces := rfl
@[simp] theorem domPut_rets (k o : Nat) (bs : Bytes) : (s.domPut k o bs).rets = s.rets := rfl
@[simp] theorem domPut_helds (k o : Nat) (bs : Bytes) : (s.domPut k o bs).helds = s.helds := rfl
@[simp] theorem domPut_lates (k o : Nat) (bs : Bytes) : (s.domPut k o bs).lates = s.lates := rfl
@[simp] theorem domPut_lateOuts (k o : Nat) (bs : Bytes) : (s.domPut k o bs).lateOuts = s.lateOuts := rfl
@[simp] theorem domPut_lateTiles (k o : Nat) (bs : Bytes) : (s.domPut k o bs).lateTiles = s.lateTiles := rfl
@[simp] theorem domPut_losts (k o : Nat) (bs : Bytes) : (s.domPut k o bs).losts = s.losts := rfl
@[simp] theorem domPut_refusedTiles (k o : Nat) (bs : Bytes) : (s.domPut k o bs).refusedTiles = s.refusedTiles := rfl
@[simp] theorem domPut_fwdRets (k o : Nat) (bs : Bytes) : (s.domPut k o bs).fwdRets = s.fwdRets := rfl
@[simp] theorem domPut_expects (k o : Nat) (bs : Bytes) : (s.domPut k o bs).expects = s.expects := rfl
@[simp] theorem domPut_rels (k o : Nat) (bs : Bytes) : (s.domPut k o bs).rels = s.rels := rfl
@[simp] theorem domPut_series (k o : Nat) (bs : Bytes) : (s.domPut k o bs).series = s.series := rfl
@[simp] theorem domPut_partials (k o : Nat) (bs : Bytes) : (s.domPut k o bs).partials = s.partials := rfl
@[simp] theorem domPut_combs (k o : Nat) (bs : Bytes) : (s.domPut k o bs).combs = s.combs := rfl
@[simp] theorem domPut_grads (k o : Nat) (bs : Bytes) : (s.domPut k o bs).grads = s.grads := rfl
@[simp] theorem domPut_layerGrads (k o : Nat) (bs : Bytes) : (s.domPut k o bs).layerGrads = s.layerGrads := rfl
@[simp] theorem get_domPut (k o : Nat) (bs : Bytes) (n : Nat) : (s.domPut k o bs).get n = s.get n := rfl
@[simp] theorem ctx_domPut (k o : Nat) (bs : Bytes) (n : Nat) : (s.domPut k o bs).ctx n = s.ctx n := rfl
@[simp] theorem pool_domPut (k o : Nat) (bs : Bytes) (n : Nat) : (s.domPut k o bs).pool n = s.pool n := rfl
@[simp] theorem queue_domPut (k o : Nat) (bs : Bytes) (n : Nat) : (s.domPut k o bs).queue n = s.queue n := rfl
@[simp] theorem port_domPut (k o : Nat) (bs : Bytes) (n : Nat) : (s.domPut k o bs).port n = s.port n := rfl
@[simp] theorem tport_domPut (k o : Nat) (bs : Bytes) (tr : Transport) : (s.domPut k o bs).tport tr = s.tport tr := by cases tr <;> rfl
@[simp] theorem piece_domPut (k o : Nat) (bs : Bytes) (n : PieceKey) : (s.domPut k o bs).piece n = s.piece n := rfl

@[simp] theorem fresh_pending : (s.fresh).pending = s.pending := rfl
@[simp] theorem fresh_phase : (s.fresh).phase = s.phase := rfl
@[simp] theorem fresh_clockStopped : (s.fresh).clockStopped = s.clockStopped := rfl
@[simp] theorem fresh_build : (s.fresh).build = s.build := rfl
@[simp] theorem fresh_env : (s.fresh).env = s.env := rfl
@[simp] theorem fresh_regs : (s.fresh).regs = s.regs := rfl
@[simp] theorem fresh_dom : (s.fresh).dom = s.dom := rfl
@[simp] theorem fresh_view : (s.fresh).view = s.view := rfl
@[simp] theorem fresh_viewDom : (s.fresh).viewDom = s.viewDom := rfl
@[simp] theorem fresh_stg : (s.fresh).stg = s.stg := rfl
@[simp] theorem fresh_qstore : (s.fresh).qstore = s.qstore := rfl
@[simp] theorem fresh_free : (s.fresh).free = s.free + 1 := rfl
@[simp] theorem fresh_outbox : (s.fresh).outbox = s.outbox := rfl
@[simp] theorem fresh_time : (s.fresh).time = s.time := rfl
@[simp] theorem fresh_rates : (s.fresh).rates = s.rates := rfl
@[simp] theorem fresh_ports : (s.fresh).ports = s.ports := rfl
@[simp] theorem fresh_tpUp : (s.fresh).tpUp = s.tpUp := rfl
@[simp] theorem fresh_tileTx : (s.fresh).tileTx = s.tileTx := rfl
@[simp] theorem fresh_ctlWait : (s.fresh).ctlWait = s.ctlWait := rfl
@[simp] theorem fresh_seen : (s.fresh).seen = s.seen := rfl
@[simp] theorem fresh_noticeTx : (s.fresh).noticeTx = s.noticeTx := rfl
@[simp] theorem fresh_targets : (s.fresh).targets = s.targets := rfl
@[simp] theorem fresh_ctxs : (s.fresh).ctxs = s.ctxs := rfl
@[simp] theorem fresh_issuedCmds : (s.fresh).issuedCmds = s.issuedCmds := rfl
@[simp] theorem fresh_loads : (s.fresh).loads = s.loads := rfl
@[simp] theorem fresh_cp : (s.fresh).cp = s.cp := rfl
@[simp] theorem fresh_can : (s.fresh).can = s.can := rfl
@[simp] theorem fresh_win : (s.fresh).win = s.win := rfl
@[simp] theorem fresh_field : (s.fresh).field = s.field := rfl
@[simp] theorem fresh_obs : (s.fresh).obs = s.obs := rfl
@[simp] theorem fresh_meter : (s.fresh).meter = s.meter := rfl
@[simp] theorem fresh_dru : (s.fresh).dru = s.dru := rfl
@[simp] theorem fresh_audits : (s.fresh).audits = s.audits := rfl
@[simp] theorem fresh_pools : (s.fresh).pools = s.pools := rfl
@[simp] theorem fresh_queues : (s.fresh).queues = s.queues := rfl
@[simp] theorem fresh_press : (s.fresh).press = s.press := rfl
@[simp] theorem fresh_sfu : (s.fresh).sfu = s.sfu := rfl
@[simp] theorem fresh_ptCheck : (s.fresh).ptCheck = s.ptCheck := rfl
@[simp] theorem fresh_swaps : (s.fresh).swaps = s.swaps := rfl
@[simp] theorem fresh_sfuCheck : (s.fresh).sfuCheck = s.sfuCheck := rfl
@[simp] theorem fresh_cle : (s.fresh).cle = s.cle := rfl
@[simp] theorem fresh_fep : (s.fresh).fep = s.fep := rfl
@[simp] theorem fresh_cvu : (s.fresh).cvu = s.cvu := rfl
@[simp] theorem fresh_wins : (s.fresh).wins = s.wins := rfl
@[simp] theorem fresh_selins : (s.fresh).selins = s.selins := rfl
@[simp] theorem fresh_stats : (s.fresh).stats = s.stats := rfl
@[simp] theorem fresh_streams : (s.fresh).streams = s.streams := rfl
@[simp] theorem fresh_pieces : (s.fresh).pieces = s.pieces := rfl
@[simp] theorem fresh_rets : (s.fresh).rets = s.rets := rfl
@[simp] theorem fresh_helds : (s.fresh).helds = s.helds := rfl
@[simp] theorem fresh_lates : (s.fresh).lates = s.lates := rfl
@[simp] theorem fresh_lateOuts : (s.fresh).lateOuts = s.lateOuts := rfl
@[simp] theorem fresh_lateTiles : (s.fresh).lateTiles = s.lateTiles := rfl
@[simp] theorem fresh_losts : (s.fresh).losts = s.losts := rfl
@[simp] theorem fresh_refusedTiles : (s.fresh).refusedTiles = s.refusedTiles := rfl
@[simp] theorem fresh_fwdRets : (s.fresh).fwdRets = s.fwdRets := rfl
@[simp] theorem fresh_expects : (s.fresh).expects = s.expects := rfl
@[simp] theorem fresh_rels : (s.fresh).rels = s.rels := rfl
@[simp] theorem fresh_series : (s.fresh).series = s.series := rfl
@[simp] theorem fresh_partials : (s.fresh).partials = s.partials := rfl
@[simp] theorem fresh_combs : (s.fresh).combs = s.combs := rfl
@[simp] theorem fresh_grads : (s.fresh).grads = s.grads := rfl
@[simp] theorem fresh_layerGrads : (s.fresh).layerGrads = s.layerGrads := rfl
@[simp] theorem get_fresh (n : Nat) : (s.fresh).get n = s.get n := rfl
@[simp] theorem domBytes_fresh (n o m : Nat) : (s.fresh).domBytes n o m = s.domBytes n o m := rfl
@[simp] theorem ctx_fresh (n : Nat) : (s.fresh).ctx n = s.ctx n := rfl
@[simp] theorem pool_fresh (n : Nat) : (s.fresh).pool n = s.pool n := rfl
@[simp] theorem queue_fresh (n : Nat) : (s.fresh).queue n = s.queue n := rfl
@[simp] theorem port_fresh (n : Nat) : (s.fresh).port n = s.port n := rfl
@[simp] theorem tport_fresh (tr : Transport) : (s.fresh).tport tr = s.tport tr := by cases tr <;> rfl
@[simp] theorem piece_fresh (n : PieceKey) : (s.fresh).piece n = s.piece n := rfl

@[simp] theorem emit_pending (o : Out) : (s.emit o).pending = s.pending := rfl
@[simp] theorem emit_phase (o : Out) : (s.emit o).phase = s.phase := rfl
@[simp] theorem emit_clockStopped (o : Out) : (s.emit o).clockStopped = s.clockStopped := rfl
@[simp] theorem emit_build (o : Out) : (s.emit o).build = s.build := rfl
@[simp] theorem emit_env (o : Out) : (s.emit o).env = s.env := rfl
@[simp] theorem emit_regs (o : Out) : (s.emit o).regs = s.regs := rfl
@[simp] theorem emit_dom (o : Out) : (s.emit o).dom = s.dom := rfl
@[simp] theorem emit_view (o : Out) : (s.emit o).view = s.view := rfl
@[simp] theorem emit_viewDom (o : Out) : (s.emit o).viewDom = s.viewDom := rfl
@[simp] theorem emit_stg (o : Out) : (s.emit o).stg = s.stg := rfl
@[simp] theorem emit_qstore (o : Out) : (s.emit o).qstore = s.qstore := rfl
@[simp] theorem emit_free (o : Out) : (s.emit o).free = s.free := rfl
@[simp] theorem emit_outbox (o : Out) : (s.emit o).outbox = s.outbox ++ [o] := rfl
@[simp] theorem emit_time (o : Out) : (s.emit o).time = s.time := rfl
@[simp] theorem emit_rates (o : Out) : (s.emit o).rates = s.rates := rfl
@[simp] theorem emit_ports (o : Out) : (s.emit o).ports = s.ports := rfl
@[simp] theorem emit_tpUp (o : Out) : (s.emit o).tpUp = s.tpUp := rfl
@[simp] theorem emit_tileTx (o : Out) : (s.emit o).tileTx = s.tileTx := rfl
@[simp] theorem emit_ctlWait (o : Out) : (s.emit o).ctlWait = s.ctlWait := rfl
@[simp] theorem emit_seen (o : Out) : (s.emit o).seen = s.seen := rfl
@[simp] theorem emit_noticeTx (o : Out) : (s.emit o).noticeTx = s.noticeTx := rfl
@[simp] theorem emit_targets (o : Out) : (s.emit o).targets = s.targets := rfl
@[simp] theorem emit_ctxs (o : Out) : (s.emit o).ctxs = s.ctxs := rfl
@[simp] theorem emit_issuedCmds (o : Out) : (s.emit o).issuedCmds = s.issuedCmds := rfl
@[simp] theorem emit_loads (o : Out) : (s.emit o).loads = s.loads := rfl
@[simp] theorem emit_cp (o : Out) : (s.emit o).cp = s.cp := rfl
@[simp] theorem emit_can (o : Out) : (s.emit o).can = s.can := rfl
@[simp] theorem emit_win (o : Out) : (s.emit o).win = s.win := rfl
@[simp] theorem emit_field (o : Out) : (s.emit o).field = s.field := rfl
@[simp] theorem emit_obs (o : Out) : (s.emit o).obs = s.obs := rfl
@[simp] theorem emit_meter (o : Out) : (s.emit o).meter = s.meter := rfl
@[simp] theorem emit_dru (o : Out) : (s.emit o).dru = s.dru := rfl
@[simp] theorem emit_audits (o : Out) : (s.emit o).audits = s.audits := rfl
@[simp] theorem emit_pools (o : Out) : (s.emit o).pools = s.pools := rfl
@[simp] theorem emit_queues (o : Out) : (s.emit o).queues = s.queues := rfl
@[simp] theorem emit_press (o : Out) : (s.emit o).press = s.press := rfl
@[simp] theorem emit_sfu (o : Out) : (s.emit o).sfu = s.sfu := rfl
@[simp] theorem emit_ptCheck (o : Out) : (s.emit o).ptCheck = s.ptCheck := rfl
@[simp] theorem emit_swaps (o : Out) : (s.emit o).swaps = s.swaps := rfl
@[simp] theorem emit_sfuCheck (o : Out) : (s.emit o).sfuCheck = s.sfuCheck := rfl
@[simp] theorem emit_cle (o : Out) : (s.emit o).cle = s.cle := rfl
@[simp] theorem emit_fep (o : Out) : (s.emit o).fep = s.fep := rfl
@[simp] theorem emit_cvu (o : Out) : (s.emit o).cvu = s.cvu := rfl
@[simp] theorem emit_wins (o : Out) : (s.emit o).wins = s.wins := rfl
@[simp] theorem emit_selins (o : Out) : (s.emit o).selins = s.selins := rfl
@[simp] theorem emit_stats (o : Out) : (s.emit o).stats = s.stats := rfl
@[simp] theorem emit_streams (o : Out) : (s.emit o).streams = s.streams := rfl
@[simp] theorem emit_pieces (o : Out) : (s.emit o).pieces = s.pieces := rfl
@[simp] theorem emit_rets (o : Out) : (s.emit o).rets = s.rets := rfl
@[simp] theorem emit_helds (o : Out) : (s.emit o).helds = s.helds := rfl
@[simp] theorem emit_lates (o : Out) : (s.emit o).lates = s.lates := rfl
@[simp] theorem emit_lateOuts (o : Out) : (s.emit o).lateOuts = s.lateOuts := rfl
@[simp] theorem emit_lateTiles (o : Out) : (s.emit o).lateTiles = s.lateTiles := rfl
@[simp] theorem emit_losts (o : Out) : (s.emit o).losts = s.losts := rfl
@[simp] theorem emit_refusedTiles (o : Out) : (s.emit o).refusedTiles = s.refusedTiles := rfl
@[simp] theorem emit_fwdRets (o : Out) : (s.emit o).fwdRets = s.fwdRets := rfl
@[simp] theorem emit_expects (o : Out) : (s.emit o).expects = s.expects := rfl
@[simp] theorem emit_rels (o : Out) : (s.emit o).rels = s.rels := rfl
@[simp] theorem emit_series (o : Out) : (s.emit o).series = s.series := rfl
@[simp] theorem emit_partials (o : Out) : (s.emit o).partials = s.partials := rfl
@[simp] theorem emit_combs (o : Out) : (s.emit o).combs = s.combs := rfl
@[simp] theorem emit_grads (o : Out) : (s.emit o).grads = s.grads := rfl
@[simp] theorem emit_layerGrads (o : Out) : (s.emit o).layerGrads = s.layerGrads := rfl
@[simp] theorem get_emit (o : Out) (n : Nat) : (s.emit o).get n = s.get n := rfl
@[simp] theorem domBytes_emit (o : Out) (n u m : Nat) : (s.emit o).domBytes n u m = s.domBytes n u m := rfl
@[simp] theorem ctx_emit (o : Out) (n : Nat) : (s.emit o).ctx n = s.ctx n := rfl
@[simp] theorem pool_emit (o : Out) (n : Nat) : (s.emit o).pool n = s.pool n := rfl
@[simp] theorem queue_emit (o : Out) (n : Nat) : (s.emit o).queue n = s.queue n := rfl
@[simp] theorem port_emit (o : Out) (n : Nat) : (s.emit o).port n = s.port n := rfl
@[simp] theorem tport_emit (o : Out) (tr : Transport) : (s.emit o).tport tr = s.tport tr := by cases tr <;> rfl
@[simp] theorem piece_emit (o : Out) (n : PieceKey) : (s.emit o).piece n = s.piece n := rfl

@[simp] theorem setCtx_pending (c : Nat) (x : Ctx) : (s.setCtx c x).pending = s.pending := rfl
@[simp] theorem setCtx_phase (c : Nat) (x : Ctx) : (s.setCtx c x).phase = s.phase := rfl
@[simp] theorem setCtx_clockStopped (c : Nat) (x : Ctx) : (s.setCtx c x).clockStopped = s.clockStopped := rfl
@[simp] theorem setCtx_build (c : Nat) (x : Ctx) : (s.setCtx c x).build = s.build := rfl
@[simp] theorem setCtx_env (c : Nat) (x : Ctx) : (s.setCtx c x).env = s.env := rfl
@[simp] theorem setCtx_regs (c : Nat) (x : Ctx) : (s.setCtx c x).regs = s.regs := rfl
@[simp] theorem setCtx_dom (c : Nat) (x : Ctx) : (s.setCtx c x).dom = s.dom := rfl
@[simp] theorem setCtx_view (c : Nat) (x : Ctx) : (s.setCtx c x).view = s.view := rfl
@[simp] theorem setCtx_viewDom (c : Nat) (x : Ctx) : (s.setCtx c x).viewDom = s.viewDom := rfl
@[simp] theorem setCtx_stg (c : Nat) (x : Ctx) : (s.setCtx c x).stg = s.stg := rfl
@[simp] theorem setCtx_qstore (c : Nat) (x : Ctx) : (s.setCtx c x).qstore = s.qstore := rfl
@[simp] theorem setCtx_free (c : Nat) (x : Ctx) : (s.setCtx c x).free = s.free := rfl
@[simp] theorem setCtx_outbox (c : Nat) (x : Ctx) : (s.setCtx c x).outbox = s.outbox := rfl
@[simp] theorem setCtx_time (c : Nat) (x : Ctx) : (s.setCtx c x).time = s.time := rfl
@[simp] theorem setCtx_rates (c : Nat) (x : Ctx) : (s.setCtx c x).rates = s.rates := rfl
@[simp] theorem setCtx_ports (c : Nat) (x : Ctx) : (s.setCtx c x).ports = s.ports := rfl
@[simp] theorem setCtx_tpUp (c : Nat) (x : Ctx) : (s.setCtx c x).tpUp = s.tpUp := rfl
@[simp] theorem setCtx_tileTx (c : Nat) (x : Ctx) : (s.setCtx c x).tileTx = s.tileTx := rfl
@[simp] theorem setCtx_ctlWait (c : Nat) (x : Ctx) : (s.setCtx c x).ctlWait = s.ctlWait := rfl
@[simp] theorem setCtx_seen (c : Nat) (x : Ctx) : (s.setCtx c x).seen = s.seen := rfl
@[simp] theorem setCtx_noticeTx (c : Nat) (x : Ctx) : (s.setCtx c x).noticeTx = s.noticeTx := rfl
@[simp] theorem setCtx_targets (c : Nat) (x : Ctx) : (s.setCtx c x).targets = s.targets := rfl
@[simp] theorem setCtx_ctxs (c : Nat) (x : Ctx) : (s.setCtx c x).ctxs = setAt s.ctxs c x := rfl
@[simp] theorem setCtx_issuedCmds (c : Nat) (x : Ctx) : (s.setCtx c x).issuedCmds = s.issuedCmds := rfl
@[simp] theorem setCtx_loads (c : Nat) (x : Ctx) : (s.setCtx c x).loads = s.loads := rfl
@[simp] theorem setCtx_cp (c : Nat) (x : Ctx) : (s.setCtx c x).cp = s.cp := rfl
@[simp] theorem setCtx_can (c : Nat) (x : Ctx) : (s.setCtx c x).can = s.can := rfl
@[simp] theorem setCtx_win (c : Nat) (x : Ctx) : (s.setCtx c x).win = s.win := rfl
@[simp] theorem setCtx_field (c : Nat) (x : Ctx) : (s.setCtx c x).field = s.field := rfl
@[simp] theorem setCtx_obs (c : Nat) (x : Ctx) : (s.setCtx c x).obs = s.obs := rfl
@[simp] theorem setCtx_meter (c : Nat) (x : Ctx) : (s.setCtx c x).meter = s.meter := rfl
@[simp] theorem setCtx_dru (c : Nat) (x : Ctx) : (s.setCtx c x).dru = s.dru := rfl
@[simp] theorem setCtx_audits (c : Nat) (x : Ctx) : (s.setCtx c x).audits = s.audits := rfl
@[simp] theorem setCtx_pools (c : Nat) (x : Ctx) : (s.setCtx c x).pools = s.pools := rfl
@[simp] theorem setCtx_queues (c : Nat) (x : Ctx) : (s.setCtx c x).queues = s.queues := rfl
@[simp] theorem setCtx_press (c : Nat) (x : Ctx) : (s.setCtx c x).press = s.press := rfl
@[simp] theorem setCtx_sfu (c : Nat) (x : Ctx) : (s.setCtx c x).sfu = s.sfu := rfl
@[simp] theorem setCtx_ptCheck (c : Nat) (x : Ctx) : (s.setCtx c x).ptCheck = s.ptCheck := rfl
@[simp] theorem setCtx_swaps (c : Nat) (x : Ctx) : (s.setCtx c x).swaps = s.swaps := rfl
@[simp] theorem setCtx_sfuCheck (c : Nat) (x : Ctx) : (s.setCtx c x).sfuCheck = s.sfuCheck := rfl
@[simp] theorem setCtx_cle (c : Nat) (x : Ctx) : (s.setCtx c x).cle = s.cle := rfl
@[simp] theorem setCtx_fep (c : Nat) (x : Ctx) : (s.setCtx c x).fep = s.fep := rfl
@[simp] theorem setCtx_cvu (c : Nat) (x : Ctx) : (s.setCtx c x).cvu = s.cvu := rfl
@[simp] theorem setCtx_wins (c : Nat) (x : Ctx) : (s.setCtx c x).wins = s.wins := rfl
@[simp] theorem setCtx_selins (c : Nat) (x : Ctx) : (s.setCtx c x).selins = s.selins := rfl
@[simp] theorem setCtx_stats (c : Nat) (x : Ctx) : (s.setCtx c x).stats = s.stats := rfl
@[simp] theorem setCtx_streams (c : Nat) (x : Ctx) : (s.setCtx c x).streams = s.streams := rfl
@[simp] theorem setCtx_pieces (c : Nat) (x : Ctx) : (s.setCtx c x).pieces = s.pieces := rfl
@[simp] theorem setCtx_rets (c : Nat) (x : Ctx) : (s.setCtx c x).rets = s.rets := rfl
@[simp] theorem setCtx_helds (c : Nat) (x : Ctx) : (s.setCtx c x).helds = s.helds := rfl
@[simp] theorem setCtx_lates (c : Nat) (x : Ctx) : (s.setCtx c x).lates = s.lates := rfl
@[simp] theorem setCtx_lateOuts (c : Nat) (x : Ctx) : (s.setCtx c x).lateOuts = s.lateOuts := rfl
@[simp] theorem setCtx_lateTiles (c : Nat) (x : Ctx) : (s.setCtx c x).lateTiles = s.lateTiles := rfl
@[simp] theorem setCtx_losts (c : Nat) (x : Ctx) : (s.setCtx c x).losts = s.losts := rfl
@[simp] theorem setCtx_refusedTiles (c : Nat) (x : Ctx) : (s.setCtx c x).refusedTiles = s.refusedTiles := rfl
@[simp] theorem setCtx_fwdRets (c : Nat) (x : Ctx) : (s.setCtx c x).fwdRets = s.fwdRets := rfl
@[simp] theorem setCtx_expects (c : Nat) (x : Ctx) : (s.setCtx c x).expects = s.expects := rfl
@[simp] theorem setCtx_rels (c : Nat) (x : Ctx) : (s.setCtx c x).rels = s.rels := rfl
@[simp] theorem setCtx_series (c : Nat) (x : Ctx) : (s.setCtx c x).series = s.series := rfl
@[simp] theorem setCtx_partials (c : Nat) (x : Ctx) : (s.setCtx c x).partials = s.partials := rfl
@[simp] theorem setCtx_combs (c : Nat) (x : Ctx) : (s.setCtx c x).combs = s.combs := rfl
@[simp] theorem setCtx_grads (c : Nat) (x : Ctx) : (s.setCtx c x).grads = s.grads := rfl
@[simp] theorem setCtx_layerGrads (c : Nat) (x : Ctx) : (s.setCtx c x).layerGrads = s.layerGrads := rfl
@[simp] theorem get_setCtx (c : Nat) (x : Ctx) (n : Nat) : (s.setCtx c x).get n = s.get n := rfl
@[simp] theorem domBytes_setCtx (c : Nat) (x : Ctx) (n o m : Nat) : (s.setCtx c x).domBytes n o m = s.domBytes n o m := rfl
@[simp] theorem pool_setCtx (c : Nat) (x : Ctx) (n : Nat) : (s.setCtx c x).pool n = s.pool n := rfl
@[simp] theorem queue_setCtx (c : Nat) (x : Ctx) (n : Nat) : (s.setCtx c x).queue n = s.queue n := rfl
@[simp] theorem port_setCtx (c : Nat) (x : Ctx) (n : Nat) : (s.setCtx c x).port n = s.port n := rfl
@[simp] theorem tport_setCtx (c : Nat) (x : Ctx) (tr : Transport) : (s.setCtx c x).tport tr = s.tport tr := by cases tr <;> rfl
@[simp] theorem piece_setCtx (c : Nat) (x : Ctx) (n : PieceKey) : (s.setCtx c x).piece n = s.piece n := rfl

@[simp] theorem setPool_pending (c : Nat) (p : PoolClass) : (s.setPool c p).pending = s.pending := rfl
@[simp] theorem setPool_phase (c : Nat) (p : PoolClass) : (s.setPool c p).phase = s.phase := rfl
@[simp] theorem setPool_clockStopped (c : Nat) (p : PoolClass) : (s.setPool c p).clockStopped = s.clockStopped := rfl
@[simp] theorem setPool_build (c : Nat) (p : PoolClass) : (s.setPool c p).build = s.build := rfl
@[simp] theorem setPool_env (c : Nat) (p : PoolClass) : (s.setPool c p).env = s.env := rfl
@[simp] theorem setPool_regs (c : Nat) (p : PoolClass) : (s.setPool c p).regs = s.regs := rfl
@[simp] theorem setPool_dom (c : Nat) (p : PoolClass) : (s.setPool c p).dom = s.dom := rfl
@[simp] theorem setPool_view (c : Nat) (p : PoolClass) : (s.setPool c p).view = s.view := rfl
@[simp] theorem setPool_viewDom (c : Nat) (p : PoolClass) : (s.setPool c p).viewDom = s.viewDom := rfl
@[simp] theorem setPool_stg (c : Nat) (p : PoolClass) : (s.setPool c p).stg = s.stg := rfl
@[simp] theorem setPool_qstore (c : Nat) (p : PoolClass) : (s.setPool c p).qstore = s.qstore := rfl
@[simp] theorem setPool_free (c : Nat) (p : PoolClass) : (s.setPool c p).free = s.free := rfl
@[simp] theorem setPool_outbox (c : Nat) (p : PoolClass) : (s.setPool c p).outbox = s.outbox := rfl
@[simp] theorem setPool_time (c : Nat) (p : PoolClass) : (s.setPool c p).time = s.time := rfl
@[simp] theorem setPool_rates (c : Nat) (p : PoolClass) : (s.setPool c p).rates = s.rates := rfl
@[simp] theorem setPool_ports (c : Nat) (p : PoolClass) : (s.setPool c p).ports = s.ports := rfl
@[simp] theorem setPool_tpUp (c : Nat) (p : PoolClass) : (s.setPool c p).tpUp = s.tpUp := rfl
@[simp] theorem setPool_tileTx (c : Nat) (p : PoolClass) : (s.setPool c p).tileTx = s.tileTx := rfl
@[simp] theorem setPool_ctlWait (c : Nat) (p : PoolClass) : (s.setPool c p).ctlWait = s.ctlWait := rfl
@[simp] theorem setPool_seen (c : Nat) (p : PoolClass) : (s.setPool c p).seen = s.seen := rfl
@[simp] theorem setPool_noticeTx (c : Nat) (p : PoolClass) : (s.setPool c p).noticeTx = s.noticeTx := rfl
@[simp] theorem setPool_targets (c : Nat) (p : PoolClass) : (s.setPool c p).targets = s.targets := rfl
@[simp] theorem setPool_ctxs (c : Nat) (p : PoolClass) : (s.setPool c p).ctxs = s.ctxs := rfl
@[simp] theorem setPool_issuedCmds (c : Nat) (p : PoolClass) : (s.setPool c p).issuedCmds = s.issuedCmds := rfl
@[simp] theorem setPool_loads (c : Nat) (p : PoolClass) : (s.setPool c p).loads = s.loads := rfl
@[simp] theorem setPool_cp (c : Nat) (p : PoolClass) : (s.setPool c p).cp = s.cp := rfl
@[simp] theorem setPool_can (c : Nat) (p : PoolClass) : (s.setPool c p).can = s.can := rfl
@[simp] theorem setPool_win (c : Nat) (p : PoolClass) : (s.setPool c p).win = s.win := rfl
@[simp] theorem setPool_field (c : Nat) (p : PoolClass) : (s.setPool c p).field = s.field := rfl
@[simp] theorem setPool_obs (c : Nat) (p : PoolClass) : (s.setPool c p).obs = s.obs := rfl
@[simp] theorem setPool_meter (c : Nat) (p : PoolClass) : (s.setPool c p).meter = s.meter := rfl
@[simp] theorem setPool_dru (c : Nat) (p : PoolClass) : (s.setPool c p).dru = s.dru := rfl
@[simp] theorem setPool_audits (c : Nat) (p : PoolClass) : (s.setPool c p).audits = s.audits := rfl
@[simp] theorem setPool_pools (c : Nat) (p : PoolClass) : (s.setPool c p).pools = setAt s.pools c p := rfl
@[simp] theorem setPool_queues (c : Nat) (p : PoolClass) : (s.setPool c p).queues = s.queues := rfl
@[simp] theorem setPool_press (c : Nat) (p : PoolClass) : (s.setPool c p).press = s.press := rfl
@[simp] theorem setPool_sfu (c : Nat) (p : PoolClass) : (s.setPool c p).sfu = s.sfu := rfl
@[simp] theorem setPool_ptCheck (c : Nat) (p : PoolClass) : (s.setPool c p).ptCheck = s.ptCheck := rfl
@[simp] theorem setPool_swaps (c : Nat) (p : PoolClass) : (s.setPool c p).swaps = s.swaps := rfl
@[simp] theorem setPool_sfuCheck (c : Nat) (p : PoolClass) : (s.setPool c p).sfuCheck = s.sfuCheck := rfl
@[simp] theorem setPool_cle (c : Nat) (p : PoolClass) : (s.setPool c p).cle = s.cle := rfl
@[simp] theorem setPool_fep (c : Nat) (p : PoolClass) : (s.setPool c p).fep = s.fep := rfl
@[simp] theorem setPool_cvu (c : Nat) (p : PoolClass) : (s.setPool c p).cvu = s.cvu := rfl
@[simp] theorem setPool_wins (c : Nat) (p : PoolClass) : (s.setPool c p).wins = s.wins := rfl
@[simp] theorem setPool_selins (c : Nat) (p : PoolClass) : (s.setPool c p).selins = s.selins := rfl
@[simp] theorem setPool_stats (c : Nat) (p : PoolClass) : (s.setPool c p).stats = s.stats := rfl
@[simp] theorem setPool_streams (c : Nat) (p : PoolClass) : (s.setPool c p).streams = s.streams := rfl
@[simp] theorem setPool_pieces (c : Nat) (p : PoolClass) : (s.setPool c p).pieces = s.pieces := rfl
@[simp] theorem setPool_rets (c : Nat) (p : PoolClass) : (s.setPool c p).rets = s.rets := rfl
@[simp] theorem setPool_helds (c : Nat) (p : PoolClass) : (s.setPool c p).helds = s.helds := rfl
@[simp] theorem setPool_lates (c : Nat) (p : PoolClass) : (s.setPool c p).lates = s.lates := rfl
@[simp] theorem setPool_lateOuts (c : Nat) (p : PoolClass) : (s.setPool c p).lateOuts = s.lateOuts := rfl
@[simp] theorem setPool_lateTiles (c : Nat) (p : PoolClass) : (s.setPool c p).lateTiles = s.lateTiles := rfl
@[simp] theorem setPool_losts (c : Nat) (p : PoolClass) : (s.setPool c p).losts = s.losts := rfl
@[simp] theorem setPool_refusedTiles (c : Nat) (p : PoolClass) : (s.setPool c p).refusedTiles = s.refusedTiles := rfl
@[simp] theorem setPool_fwdRets (c : Nat) (p : PoolClass) : (s.setPool c p).fwdRets = s.fwdRets := rfl
@[simp] theorem setPool_expects (c : Nat) (p : PoolClass) : (s.setPool c p).expects = s.expects := rfl
@[simp] theorem setPool_rels (c : Nat) (p : PoolClass) : (s.setPool c p).rels = s.rels := rfl
@[simp] theorem setPool_series (c : Nat) (p : PoolClass) : (s.setPool c p).series = s.series := rfl
@[simp] theorem setPool_partials (c : Nat) (p : PoolClass) : (s.setPool c p).partials = s.partials := rfl
@[simp] theorem setPool_combs (c : Nat) (p : PoolClass) : (s.setPool c p).combs = s.combs := rfl
@[simp] theorem setPool_grads (c : Nat) (p : PoolClass) : (s.setPool c p).grads = s.grads := rfl
@[simp] theorem setPool_layerGrads (c : Nat) (p : PoolClass) : (s.setPool c p).layerGrads = s.layerGrads := rfl
@[simp] theorem get_setPool (c : Nat) (p : PoolClass) (n : Nat) : (s.setPool c p).get n = s.get n := rfl
@[simp] theorem domBytes_setPool (c : Nat) (p : PoolClass) (n o m : Nat) : (s.setPool c p).domBytes n o m = s.domBytes n o m := rfl
@[simp] theorem ctx_setPool (c : Nat) (p : PoolClass) (n : Nat) : (s.setPool c p).ctx n = s.ctx n := rfl
@[simp] theorem queue_setPool (c : Nat) (p : PoolClass) (n : Nat) : (s.setPool c p).queue n = s.queue n := rfl
@[simp] theorem port_setPool (c : Nat) (p : PoolClass) (n : Nat) : (s.setPool c p).port n = s.port n := rfl
@[simp] theorem tport_setPool (c : Nat) (p : PoolClass) (tr : Transport) : (s.setPool c p).tport tr = s.tport tr := by cases tr <;> rfl
@[simp] theorem piece_setPool (c : Nat) (p : PoolClass) (n : PieceKey) : (s.setPool c p).piece n = s.piece n := rfl

@[simp] theorem setQueue_pending (q : Nat) (x : Queue) : (s.setQueue q x).pending = s.pending := rfl
@[simp] theorem setQueue_phase (q : Nat) (x : Queue) : (s.setQueue q x).phase = s.phase := rfl
@[simp] theorem setQueue_clockStopped (q : Nat) (x : Queue) : (s.setQueue q x).clockStopped = s.clockStopped := rfl
@[simp] theorem setQueue_build (q : Nat) (x : Queue) : (s.setQueue q x).build = s.build := rfl
@[simp] theorem setQueue_env (q : Nat) (x : Queue) : (s.setQueue q x).env = s.env := rfl
@[simp] theorem setQueue_regs (q : Nat) (x : Queue) : (s.setQueue q x).regs = s.regs := rfl
@[simp] theorem setQueue_dom (q : Nat) (x : Queue) : (s.setQueue q x).dom = s.dom := rfl
@[simp] theorem setQueue_view (q : Nat) (x : Queue) : (s.setQueue q x).view = s.view := rfl
@[simp] theorem setQueue_viewDom (q : Nat) (x : Queue) : (s.setQueue q x).viewDom = s.viewDom := rfl
@[simp] theorem setQueue_stg (q : Nat) (x : Queue) : (s.setQueue q x).stg = s.stg := rfl
@[simp] theorem setQueue_qstore (q : Nat) (x : Queue) : (s.setQueue q x).qstore = s.qstore := rfl
@[simp] theorem setQueue_free (q : Nat) (x : Queue) : (s.setQueue q x).free = s.free := rfl
@[simp] theorem setQueue_outbox (q : Nat) (x : Queue) : (s.setQueue q x).outbox = s.outbox := rfl
@[simp] theorem setQueue_time (q : Nat) (x : Queue) : (s.setQueue q x).time = s.time := rfl
@[simp] theorem setQueue_rates (q : Nat) (x : Queue) : (s.setQueue q x).rates = s.rates := rfl
@[simp] theorem setQueue_ports (q : Nat) (x : Queue) : (s.setQueue q x).ports = s.ports := rfl
@[simp] theorem setQueue_tpUp (q : Nat) (x : Queue) : (s.setQueue q x).tpUp = s.tpUp := rfl
@[simp] theorem setQueue_tileTx (q : Nat) (x : Queue) : (s.setQueue q x).tileTx = s.tileTx := rfl
@[simp] theorem setQueue_ctlWait (q : Nat) (x : Queue) : (s.setQueue q x).ctlWait = s.ctlWait := rfl
@[simp] theorem setQueue_seen (q : Nat) (x : Queue) : (s.setQueue q x).seen = s.seen := rfl
@[simp] theorem setQueue_noticeTx (q : Nat) (x : Queue) : (s.setQueue q x).noticeTx = s.noticeTx := rfl
@[simp] theorem setQueue_targets (q : Nat) (x : Queue) : (s.setQueue q x).targets = s.targets := rfl
@[simp] theorem setQueue_ctxs (q : Nat) (x : Queue) : (s.setQueue q x).ctxs = s.ctxs := rfl
@[simp] theorem setQueue_issuedCmds (q : Nat) (x : Queue) : (s.setQueue q x).issuedCmds = s.issuedCmds := rfl
@[simp] theorem setQueue_loads (q : Nat) (x : Queue) : (s.setQueue q x).loads = s.loads := rfl
@[simp] theorem setQueue_cp (q : Nat) (x : Queue) : (s.setQueue q x).cp = s.cp := rfl
@[simp] theorem setQueue_can (q : Nat) (x : Queue) : (s.setQueue q x).can = s.can := rfl
@[simp] theorem setQueue_win (q : Nat) (x : Queue) : (s.setQueue q x).win = s.win := rfl
@[simp] theorem setQueue_field (q : Nat) (x : Queue) : (s.setQueue q x).field = s.field := rfl
@[simp] theorem setQueue_obs (q : Nat) (x : Queue) : (s.setQueue q x).obs = s.obs := rfl
@[simp] theorem setQueue_meter (q : Nat) (x : Queue) : (s.setQueue q x).meter = s.meter := rfl
@[simp] theorem setQueue_dru (q : Nat) (x : Queue) : (s.setQueue q x).dru = s.dru := rfl
@[simp] theorem setQueue_audits (q : Nat) (x : Queue) : (s.setQueue q x).audits = s.audits := rfl
@[simp] theorem setQueue_pools (q : Nat) (x : Queue) : (s.setQueue q x).pools = s.pools := rfl
@[simp] theorem setQueue_queues (q : Nat) (x : Queue) : (s.setQueue q x).queues = Sparse.put s.queues q x := rfl
@[simp] theorem setQueue_press (q : Nat) (x : Queue) : (s.setQueue q x).press = s.press := rfl
@[simp] theorem setQueue_sfu (q : Nat) (x : Queue) : (s.setQueue q x).sfu = s.sfu := rfl
@[simp] theorem setQueue_ptCheck (q : Nat) (x : Queue) : (s.setQueue q x).ptCheck = s.ptCheck := rfl
@[simp] theorem setQueue_swaps (q : Nat) (x : Queue) : (s.setQueue q x).swaps = s.swaps := rfl
@[simp] theorem setQueue_sfuCheck (q : Nat) (x : Queue) : (s.setQueue q x).sfuCheck = s.sfuCheck := rfl
@[simp] theorem setQueue_cle (q : Nat) (x : Queue) : (s.setQueue q x).cle = s.cle := rfl
@[simp] theorem setQueue_fep (q : Nat) (x : Queue) : (s.setQueue q x).fep = s.fep := rfl
@[simp] theorem setQueue_cvu (q : Nat) (x : Queue) : (s.setQueue q x).cvu = s.cvu := rfl
@[simp] theorem setQueue_wins (q : Nat) (x : Queue) : (s.setQueue q x).wins = s.wins := rfl
@[simp] theorem setQueue_selins (q : Nat) (x : Queue) : (s.setQueue q x).selins = s.selins := rfl
@[simp] theorem setQueue_stats (q : Nat) (x : Queue) : (s.setQueue q x).stats = s.stats := rfl
@[simp] theorem setQueue_streams (q : Nat) (x : Queue) : (s.setQueue q x).streams = s.streams := rfl
@[simp] theorem setQueue_pieces (q : Nat) (x : Queue) : (s.setQueue q x).pieces = s.pieces := rfl
@[simp] theorem setQueue_rets (q : Nat) (x : Queue) : (s.setQueue q x).rets = s.rets := rfl
@[simp] theorem setQueue_helds (q : Nat) (x : Queue) : (s.setQueue q x).helds = s.helds := rfl
@[simp] theorem setQueue_lates (q : Nat) (x : Queue) : (s.setQueue q x).lates = s.lates := rfl
@[simp] theorem setQueue_lateOuts (q : Nat) (x : Queue) : (s.setQueue q x).lateOuts = s.lateOuts := rfl
@[simp] theorem setQueue_lateTiles (q : Nat) (x : Queue) : (s.setQueue q x).lateTiles = s.lateTiles := rfl
@[simp] theorem setQueue_losts (q : Nat) (x : Queue) : (s.setQueue q x).losts = s.losts := rfl
@[simp] theorem setQueue_refusedTiles (q : Nat) (x : Queue) : (s.setQueue q x).refusedTiles = s.refusedTiles := rfl
@[simp] theorem setQueue_fwdRets (q : Nat) (x : Queue) : (s.setQueue q x).fwdRets = s.fwdRets := rfl
@[simp] theorem setQueue_expects (q : Nat) (x : Queue) : (s.setQueue q x).expects = s.expects := rfl
@[simp] theorem setQueue_rels (q : Nat) (x : Queue) : (s.setQueue q x).rels = s.rels := rfl
@[simp] theorem setQueue_series (q : Nat) (x : Queue) : (s.setQueue q x).series = s.series := rfl
@[simp] theorem setQueue_partials (q : Nat) (x : Queue) : (s.setQueue q x).partials = s.partials := rfl
@[simp] theorem setQueue_combs (q : Nat) (x : Queue) : (s.setQueue q x).combs = s.combs := rfl
@[simp] theorem setQueue_grads (q : Nat) (x : Queue) : (s.setQueue q x).grads = s.grads := rfl
@[simp] theorem setQueue_layerGrads (q : Nat) (x : Queue) : (s.setQueue q x).layerGrads = s.layerGrads := rfl
@[simp] theorem get_setQueue (q : Nat) (x : Queue) (n : Nat) : (s.setQueue q x).get n = s.get n := rfl
@[simp] theorem domBytes_setQueue (q : Nat) (x : Queue) (n o m : Nat) : (s.setQueue q x).domBytes n o m = s.domBytes n o m := rfl
@[simp] theorem ctx_setQueue (q : Nat) (x : Queue) (n : Nat) : (s.setQueue q x).ctx n = s.ctx n := rfl
@[simp] theorem pool_setQueue (q : Nat) (x : Queue) (n : Nat) : (s.setQueue q x).pool n = s.pool n := rfl
@[simp] theorem port_setQueue (q : Nat) (x : Queue) (n : Nat) : (s.setQueue q x).port n = s.port n := rfl
@[simp] theorem tport_setQueue (q : Nat) (x : Queue) (tr : Transport) : (s.setQueue q x).tport tr = s.tport tr := by cases tr <;> rfl
@[simp] theorem piece_setQueue (q : Nat) (x : Queue) (n : PieceKey) : (s.setQueue q x).piece n = s.piece n := rfl

@[simp] theorem setPort_pending (p : Nat) (x : LinkPort) : (s.setPort p x).pending = s.pending := rfl
@[simp] theorem setPort_phase (p : Nat) (x : LinkPort) : (s.setPort p x).phase = s.phase := rfl
@[simp] theorem setPort_clockStopped (p : Nat) (x : LinkPort) : (s.setPort p x).clockStopped = s.clockStopped := rfl
@[simp] theorem setPort_build (p : Nat) (x : LinkPort) : (s.setPort p x).build = s.build := rfl
@[simp] theorem setPort_env (p : Nat) (x : LinkPort) : (s.setPort p x).env = s.env := rfl
@[simp] theorem setPort_regs (p : Nat) (x : LinkPort) : (s.setPort p x).regs = s.regs := rfl
@[simp] theorem setPort_dom (p : Nat) (x : LinkPort) : (s.setPort p x).dom = s.dom := rfl
@[simp] theorem setPort_view (p : Nat) (x : LinkPort) : (s.setPort p x).view = s.view := rfl
@[simp] theorem setPort_viewDom (p : Nat) (x : LinkPort) : (s.setPort p x).viewDom = s.viewDom := rfl
@[simp] theorem setPort_stg (p : Nat) (x : LinkPort) : (s.setPort p x).stg = s.stg := rfl
@[simp] theorem setPort_qstore (p : Nat) (x : LinkPort) : (s.setPort p x).qstore = s.qstore := rfl
@[simp] theorem setPort_free (p : Nat) (x : LinkPort) : (s.setPort p x).free = s.free := rfl
@[simp] theorem setPort_outbox (p : Nat) (x : LinkPort) : (s.setPort p x).outbox = s.outbox := rfl
@[simp] theorem setPort_time (p : Nat) (x : LinkPort) : (s.setPort p x).time = s.time := rfl
@[simp] theorem setPort_rates (p : Nat) (x : LinkPort) : (s.setPort p x).rates = s.rates := rfl
@[simp] theorem setPort_ports (p : Nat) (x : LinkPort) : (s.setPort p x).ports = setAt s.ports p x := rfl
@[simp] theorem setPort_tpUp (p : Nat) (x : LinkPort) : (s.setPort p x).tpUp = s.tpUp := rfl
@[simp] theorem setPort_tileTx (p : Nat) (x : LinkPort) : (s.setPort p x).tileTx = s.tileTx := rfl
@[simp] theorem setPort_ctlWait (p : Nat) (x : LinkPort) : (s.setPort p x).ctlWait = s.ctlWait := rfl
@[simp] theorem setPort_seen (p : Nat) (x : LinkPort) : (s.setPort p x).seen = s.seen := rfl
@[simp] theorem setPort_noticeTx (p : Nat) (x : LinkPort) : (s.setPort p x).noticeTx = s.noticeTx := rfl
@[simp] theorem setPort_targets (p : Nat) (x : LinkPort) : (s.setPort p x).targets = s.targets := rfl
@[simp] theorem setPort_ctxs (p : Nat) (x : LinkPort) : (s.setPort p x).ctxs = s.ctxs := rfl
@[simp] theorem setPort_issuedCmds (p : Nat) (x : LinkPort) : (s.setPort p x).issuedCmds = s.issuedCmds := rfl
@[simp] theorem setPort_loads (p : Nat) (x : LinkPort) : (s.setPort p x).loads = s.loads := rfl
@[simp] theorem setPort_cp (p : Nat) (x : LinkPort) : (s.setPort p x).cp = s.cp := rfl
@[simp] theorem setPort_can (p : Nat) (x : LinkPort) : (s.setPort p x).can = s.can := rfl
@[simp] theorem setPort_win (p : Nat) (x : LinkPort) : (s.setPort p x).win = s.win := rfl
@[simp] theorem setPort_field (p : Nat) (x : LinkPort) : (s.setPort p x).field = s.field := rfl
@[simp] theorem setPort_obs (p : Nat) (x : LinkPort) : (s.setPort p x).obs = s.obs := rfl
@[simp] theorem setPort_meter (p : Nat) (x : LinkPort) : (s.setPort p x).meter = s.meter := rfl
@[simp] theorem setPort_dru (p : Nat) (x : LinkPort) : (s.setPort p x).dru = s.dru := rfl
@[simp] theorem setPort_audits (p : Nat) (x : LinkPort) : (s.setPort p x).audits = s.audits := rfl
@[simp] theorem setPort_pools (p : Nat) (x : LinkPort) : (s.setPort p x).pools = s.pools := rfl
@[simp] theorem setPort_queues (p : Nat) (x : LinkPort) : (s.setPort p x).queues = s.queues := rfl
@[simp] theorem setPort_press (p : Nat) (x : LinkPort) : (s.setPort p x).press = s.press := rfl
@[simp] theorem setPort_sfu (p : Nat) (x : LinkPort) : (s.setPort p x).sfu = s.sfu := rfl
@[simp] theorem setPort_ptCheck (p : Nat) (x : LinkPort) : (s.setPort p x).ptCheck = s.ptCheck := rfl
@[simp] theorem setPort_swaps (p : Nat) (x : LinkPort) : (s.setPort p x).swaps = s.swaps := rfl
@[simp] theorem setPort_sfuCheck (p : Nat) (x : LinkPort) : (s.setPort p x).sfuCheck = s.sfuCheck := rfl
@[simp] theorem setPort_cle (p : Nat) (x : LinkPort) : (s.setPort p x).cle = s.cle := rfl
@[simp] theorem setPort_fep (p : Nat) (x : LinkPort) : (s.setPort p x).fep = s.fep := rfl
@[simp] theorem setPort_cvu (p : Nat) (x : LinkPort) : (s.setPort p x).cvu = s.cvu := rfl
@[simp] theorem setPort_wins (p : Nat) (x : LinkPort) : (s.setPort p x).wins = s.wins := rfl
@[simp] theorem setPort_selins (p : Nat) (x : LinkPort) : (s.setPort p x).selins = s.selins := rfl
@[simp] theorem setPort_stats (p : Nat) (x : LinkPort) : (s.setPort p x).stats = s.stats := rfl
@[simp] theorem setPort_streams (p : Nat) (x : LinkPort) : (s.setPort p x).streams = s.streams := rfl
@[simp] theorem setPort_pieces (p : Nat) (x : LinkPort) : (s.setPort p x).pieces = s.pieces := rfl
@[simp] theorem setPort_rets (p : Nat) (x : LinkPort) : (s.setPort p x).rets = s.rets := rfl
@[simp] theorem setPort_helds (p : Nat) (x : LinkPort) : (s.setPort p x).helds = s.helds := rfl
@[simp] theorem setPort_lates (p : Nat) (x : LinkPort) : (s.setPort p x).lates = s.lates := rfl
@[simp] theorem setPort_lateOuts (p : Nat) (x : LinkPort) : (s.setPort p x).lateOuts = s.lateOuts := rfl
@[simp] theorem setPort_lateTiles (p : Nat) (x : LinkPort) : (s.setPort p x).lateTiles = s.lateTiles := rfl
@[simp] theorem setPort_losts (p : Nat) (x : LinkPort) : (s.setPort p x).losts = s.losts := rfl
@[simp] theorem setPort_refusedTiles (p : Nat) (x : LinkPort) : (s.setPort p x).refusedTiles = s.refusedTiles := rfl
@[simp] theorem setPort_fwdRets (p : Nat) (x : LinkPort) : (s.setPort p x).fwdRets = s.fwdRets := rfl
@[simp] theorem setPort_expects (p : Nat) (x : LinkPort) : (s.setPort p x).expects = s.expects := rfl
@[simp] theorem setPort_rels (p : Nat) (x : LinkPort) : (s.setPort p x).rels = s.rels := rfl
@[simp] theorem setPort_series (p : Nat) (x : LinkPort) : (s.setPort p x).series = s.series := rfl
@[simp] theorem setPort_partials (p : Nat) (x : LinkPort) : (s.setPort p x).partials = s.partials := rfl
@[simp] theorem setPort_combs (p : Nat) (x : LinkPort) : (s.setPort p x).combs = s.combs := rfl
@[simp] theorem setPort_grads (p : Nat) (x : LinkPort) : (s.setPort p x).grads = s.grads := rfl
@[simp] theorem setPort_layerGrads (p : Nat) (x : LinkPort) : (s.setPort p x).layerGrads = s.layerGrads := rfl
@[simp] theorem get_setPort (p : Nat) (x : LinkPort) (n : Nat) : (s.setPort p x).get n = s.get n := rfl
@[simp] theorem domBytes_setPort (p : Nat) (x : LinkPort) (n o m : Nat) : (s.setPort p x).domBytes n o m = s.domBytes n o m := rfl
@[simp] theorem ctx_setPort (p : Nat) (x : LinkPort) (n : Nat) : (s.setPort p x).ctx n = s.ctx n := rfl
@[simp] theorem pool_setPort (p : Nat) (x : LinkPort) (n : Nat) : (s.setPort p x).pool n = s.pool n := rfl
@[simp] theorem queue_setPort (p : Nat) (x : LinkPort) (n : Nat) : (s.setPort p x).queue n = s.queue n := rfl
@[simp] theorem tport_setPort (p : Nat) (x : LinkPort) (tr : Transport) : (s.setPort p x).tport tr = s.tport tr := by cases tr <;> rfl
@[simp] theorem piece_setPort (p : Nat) (x : LinkPort) (n : PieceKey) : (s.setPort p x).piece n = s.piece n := rfl

@[simp] theorem setFepPort_pending (p : Nat) (x : FepPort) : (s.setFepPort p x).pending = s.pending := rfl
@[simp] theorem setFepPort_phase (p : Nat) (x : FepPort) : (s.setFepPort p x).phase = s.phase := rfl
@[simp] theorem setFepPort_clockStopped (p : Nat) (x : FepPort) : (s.setFepPort p x).clockStopped = s.clockStopped := rfl
@[simp] theorem setFepPort_build (p : Nat) (x : FepPort) : (s.setFepPort p x).build = s.build := rfl
@[simp] theorem setFepPort_env (p : Nat) (x : FepPort) : (s.setFepPort p x).env = s.env := rfl
@[simp] theorem setFepPort_regs (p : Nat) (x : FepPort) : (s.setFepPort p x).regs = s.regs := rfl
@[simp] theorem setFepPort_dom (p : Nat) (x : FepPort) : (s.setFepPort p x).dom = s.dom := rfl
@[simp] theorem setFepPort_view (p : Nat) (x : FepPort) : (s.setFepPort p x).view = s.view := rfl
@[simp] theorem setFepPort_viewDom (p : Nat) (x : FepPort) : (s.setFepPort p x).viewDom = s.viewDom := rfl
@[simp] theorem setFepPort_stg (p : Nat) (x : FepPort) : (s.setFepPort p x).stg = s.stg := rfl
@[simp] theorem setFepPort_qstore (p : Nat) (x : FepPort) : (s.setFepPort p x).qstore = s.qstore := rfl
@[simp] theorem setFepPort_free (p : Nat) (x : FepPort) : (s.setFepPort p x).free = s.free := rfl
@[simp] theorem setFepPort_outbox (p : Nat) (x : FepPort) : (s.setFepPort p x).outbox = s.outbox := rfl
@[simp] theorem setFepPort_time (p : Nat) (x : FepPort) : (s.setFepPort p x).time = s.time := rfl
@[simp] theorem setFepPort_rates (p : Nat) (x : FepPort) : (s.setFepPort p x).rates = s.rates := rfl
@[simp] theorem setFepPort_ports (p : Nat) (x : FepPort) : (s.setFepPort p x).ports = s.ports := rfl
@[simp] theorem setFepPort_tpUp (p : Nat) (x : FepPort) : (s.setFepPort p x).tpUp = s.tpUp := rfl
@[simp] theorem setFepPort_tileTx (p : Nat) (x : FepPort) : (s.setFepPort p x).tileTx = s.tileTx := rfl
@[simp] theorem setFepPort_ctlWait (p : Nat) (x : FepPort) : (s.setFepPort p x).ctlWait = s.ctlWait := rfl
@[simp] theorem setFepPort_seen (p : Nat) (x : FepPort) : (s.setFepPort p x).seen = s.seen := rfl
@[simp] theorem setFepPort_noticeTx (p : Nat) (x : FepPort) : (s.setFepPort p x).noticeTx = s.noticeTx := rfl
@[simp] theorem setFepPort_targets (p : Nat) (x : FepPort) : (s.setFepPort p x).targets = s.targets := rfl
@[simp] theorem setFepPort_ctxs (p : Nat) (x : FepPort) : (s.setFepPort p x).ctxs = s.ctxs := rfl
@[simp] theorem setFepPort_issuedCmds (p : Nat) (x : FepPort) : (s.setFepPort p x).issuedCmds = s.issuedCmds := rfl
@[simp] theorem setFepPort_loads (p : Nat) (x : FepPort) : (s.setFepPort p x).loads = s.loads := rfl
@[simp] theorem setFepPort_cp (p : Nat) (x : FepPort) : (s.setFepPort p x).cp = s.cp := rfl
@[simp] theorem setFepPort_can (p : Nat) (x : FepPort) : (s.setFepPort p x).can = s.can := rfl
@[simp] theorem setFepPort_win (p : Nat) (x : FepPort) : (s.setFepPort p x).win = s.win := rfl
@[simp] theorem setFepPort_field (p : Nat) (x : FepPort) : (s.setFepPort p x).field = s.field := rfl
@[simp] theorem setFepPort_obs (p : Nat) (x : FepPort) : (s.setFepPort p x).obs = s.obs := rfl
@[simp] theorem setFepPort_meter (p : Nat) (x : FepPort) : (s.setFepPort p x).meter = s.meter := rfl
@[simp] theorem setFepPort_dru (p : Nat) (x : FepPort) : (s.setFepPort p x).dru = s.dru := rfl
@[simp] theorem setFepPort_audits (p : Nat) (x : FepPort) : (s.setFepPort p x).audits = s.audits := rfl
@[simp] theorem setFepPort_pools (p : Nat) (x : FepPort) : (s.setFepPort p x).pools = s.pools := rfl
@[simp] theorem setFepPort_queues (p : Nat) (x : FepPort) : (s.setFepPort p x).queues = s.queues := rfl
@[simp] theorem setFepPort_press (p : Nat) (x : FepPort) : (s.setFepPort p x).press = s.press := rfl
@[simp] theorem setFepPort_sfu (p : Nat) (x : FepPort) : (s.setFepPort p x).sfu = s.sfu := rfl
@[simp] theorem setFepPort_ptCheck (p : Nat) (x : FepPort) : (s.setFepPort p x).ptCheck = s.ptCheck := rfl
@[simp] theorem setFepPort_swaps (p : Nat) (x : FepPort) : (s.setFepPort p x).swaps = s.swaps := rfl
@[simp] theorem setFepPort_sfuCheck (p : Nat) (x : FepPort) : (s.setFepPort p x).sfuCheck = s.sfuCheck := rfl
@[simp] theorem setFepPort_cle (p : Nat) (x : FepPort) : (s.setFepPort p x).cle = s.cle := rfl
@[simp] theorem setFepPort_fep (p : Nat) (x : FepPort) : (s.setFepPort p x).fep = { s.fep with ports := setAt s.fep.ports p x } := rfl
@[simp] theorem setFepPort_cvu (p : Nat) (x : FepPort) : (s.setFepPort p x).cvu = s.cvu := rfl
@[simp] theorem setFepPort_wins (p : Nat) (x : FepPort) : (s.setFepPort p x).wins = s.wins := rfl
@[simp] theorem setFepPort_selins (p : Nat) (x : FepPort) : (s.setFepPort p x).selins = s.selins := rfl
@[simp] theorem setFepPort_stats (p : Nat) (x : FepPort) : (s.setFepPort p x).stats = s.stats := rfl
@[simp] theorem setFepPort_streams (p : Nat) (x : FepPort) : (s.setFepPort p x).streams = s.streams := rfl
@[simp] theorem setFepPort_pieces (p : Nat) (x : FepPort) : (s.setFepPort p x).pieces = s.pieces := rfl
@[simp] theorem setFepPort_rets (p : Nat) (x : FepPort) : (s.setFepPort p x).rets = s.rets := rfl
@[simp] theorem setFepPort_helds (p : Nat) (x : FepPort) : (s.setFepPort p x).helds = s.helds := rfl
@[simp] theorem setFepPort_lates (p : Nat) (x : FepPort) : (s.setFepPort p x).lates = s.lates := rfl
@[simp] theorem setFepPort_lateOuts (p : Nat) (x : FepPort) : (s.setFepPort p x).lateOuts = s.lateOuts := rfl
@[simp] theorem setFepPort_lateTiles (p : Nat) (x : FepPort) : (s.setFepPort p x).lateTiles = s.lateTiles := rfl
@[simp] theorem setFepPort_losts (p : Nat) (x : FepPort) : (s.setFepPort p x).losts = s.losts := rfl
@[simp] theorem setFepPort_refusedTiles (p : Nat) (x : FepPort) : (s.setFepPort p x).refusedTiles = s.refusedTiles := rfl
@[simp] theorem setFepPort_fwdRets (p : Nat) (x : FepPort) : (s.setFepPort p x).fwdRets = s.fwdRets := rfl
@[simp] theorem setFepPort_expects (p : Nat) (x : FepPort) : (s.setFepPort p x).expects = s.expects := rfl
@[simp] theorem setFepPort_rels (p : Nat) (x : FepPort) : (s.setFepPort p x).rels = s.rels := rfl
@[simp] theorem setFepPort_series (p : Nat) (x : FepPort) : (s.setFepPort p x).series = s.series := rfl
@[simp] theorem setFepPort_partials (p : Nat) (x : FepPort) : (s.setFepPort p x).partials = s.partials := rfl
@[simp] theorem setFepPort_combs (p : Nat) (x : FepPort) : (s.setFepPort p x).combs = s.combs := rfl
@[simp] theorem setFepPort_grads (p : Nat) (x : FepPort) : (s.setFepPort p x).grads = s.grads := rfl
@[simp] theorem setFepPort_layerGrads (p : Nat) (x : FepPort) : (s.setFepPort p x).layerGrads = s.layerGrads := rfl
@[simp] theorem get_setFepPort (p : Nat) (x : FepPort) (n : Nat) : (s.setFepPort p x).get n = s.get n := rfl
@[simp] theorem domBytes_setFepPort (p : Nat) (x : FepPort) (n o m : Nat) : (s.setFepPort p x).domBytes n o m = s.domBytes n o m := rfl
@[simp] theorem ctx_setFepPort (p : Nat) (x : FepPort) (n : Nat) : (s.setFepPort p x).ctx n = s.ctx n := rfl
@[simp] theorem pool_setFepPort (p : Nat) (x : FepPort) (n : Nat) : (s.setFepPort p x).pool n = s.pool n := rfl
@[simp] theorem queue_setFepPort (p : Nat) (x : FepPort) (n : Nat) : (s.setFepPort p x).queue n = s.queue n := rfl
@[simp] theorem port_setFepPort (p : Nat) (x : FepPort) (n : Nat) : (s.setFepPort p x).port n = s.port n := rfl
@[simp] theorem tport_setFepPort (p : Nat) (x : FepPort) (tr : Transport) : (s.setFepPort p x).tport tr = s.tport tr := by cases tr <;> rfl
@[simp] theorem piece_setFepPort (p : Nat) (x : FepPort) (n : PieceKey) : (s.setFepPort p x).piece n = s.piece n := rfl

@[simp] theorem setPiece_pending (p : Piece) : (s.setPiece p).pending = s.pending := rfl
@[simp] theorem setPiece_phase (p : Piece) : (s.setPiece p).phase = s.phase := rfl
@[simp] theorem setPiece_clockStopped (p : Piece) : (s.setPiece p).clockStopped = s.clockStopped := rfl
@[simp] theorem setPiece_build (p : Piece) : (s.setPiece p).build = s.build := rfl
@[simp] theorem setPiece_env (p : Piece) : (s.setPiece p).env = s.env := rfl
@[simp] theorem setPiece_regs (p : Piece) : (s.setPiece p).regs = s.regs := rfl
@[simp] theorem setPiece_dom (p : Piece) : (s.setPiece p).dom = s.dom := rfl
@[simp] theorem setPiece_view (p : Piece) : (s.setPiece p).view = s.view := rfl
@[simp] theorem setPiece_viewDom (p : Piece) : (s.setPiece p).viewDom = s.viewDom := rfl
@[simp] theorem setPiece_stg (p : Piece) : (s.setPiece p).stg = s.stg := rfl
@[simp] theorem setPiece_qstore (p : Piece) : (s.setPiece p).qstore = s.qstore := rfl
@[simp] theorem setPiece_free (p : Piece) : (s.setPiece p).free = s.free := rfl
@[simp] theorem setPiece_outbox (p : Piece) : (s.setPiece p).outbox = s.outbox := rfl
@[simp] theorem setPiece_time (p : Piece) : (s.setPiece p).time = s.time := rfl
@[simp] theorem setPiece_rates (p : Piece) : (s.setPiece p).rates = s.rates := rfl
@[simp] theorem setPiece_ports (p : Piece) : (s.setPiece p).ports = s.ports := rfl
@[simp] theorem setPiece_tpUp (p : Piece) : (s.setPiece p).tpUp = s.tpUp := rfl
@[simp] theorem setPiece_tileTx (p : Piece) : (s.setPiece p).tileTx = s.tileTx := rfl
@[simp] theorem setPiece_ctlWait (p : Piece) : (s.setPiece p).ctlWait = s.ctlWait := rfl
@[simp] theorem setPiece_seen (p : Piece) : (s.setPiece p).seen = s.seen := rfl
@[simp] theorem setPiece_noticeTx (p : Piece) : (s.setPiece p).noticeTx = s.noticeTx := rfl
@[simp] theorem setPiece_targets (p : Piece) : (s.setPiece p).targets = s.targets := rfl
@[simp] theorem setPiece_ctxs (p : Piece) : (s.setPiece p).ctxs = s.ctxs := rfl
@[simp] theorem setPiece_issuedCmds (p : Piece) : (s.setPiece p).issuedCmds = s.issuedCmds := rfl
@[simp] theorem setPiece_loads (p : Piece) : (s.setPiece p).loads = s.loads := rfl
@[simp] theorem setPiece_cp (p : Piece) : (s.setPiece p).cp = s.cp := rfl
@[simp] theorem setPiece_can (p : Piece) : (s.setPiece p).can = s.can := rfl
@[simp] theorem setPiece_win (p : Piece) : (s.setPiece p).win = s.win := rfl
@[simp] theorem setPiece_field (p : Piece) : (s.setPiece p).field = s.field := rfl
@[simp] theorem setPiece_obs (p : Piece) : (s.setPiece p).obs = s.obs := rfl
@[simp] theorem setPiece_meter (p : Piece) : (s.setPiece p).meter = s.meter := rfl
@[simp] theorem setPiece_dru (p : Piece) : (s.setPiece p).dru = s.dru := rfl
@[simp] theorem setPiece_audits (p : Piece) : (s.setPiece p).audits = s.audits := rfl
@[simp] theorem setPiece_pools (p : Piece) : (s.setPiece p).pools = s.pools := rfl
@[simp] theorem setPiece_queues (p : Piece) : (s.setPiece p).queues = s.queues := rfl
@[simp] theorem setPiece_press (p : Piece) : (s.setPiece p).press = s.press := rfl
@[simp] theorem setPiece_sfu (p : Piece) : (s.setPiece p).sfu = s.sfu := rfl
@[simp] theorem setPiece_ptCheck (p : Piece) : (s.setPiece p).ptCheck = s.ptCheck := rfl
@[simp] theorem setPiece_swaps (p : Piece) : (s.setPiece p).swaps = s.swaps := rfl
@[simp] theorem setPiece_sfuCheck (p : Piece) : (s.setPiece p).sfuCheck = s.sfuCheck := rfl
@[simp] theorem setPiece_cle (p : Piece) : (s.setPiece p).cle = s.cle := rfl
@[simp] theorem setPiece_fep (p : Piece) : (s.setPiece p).fep = s.fep := rfl
@[simp] theorem setPiece_cvu (p : Piece) : (s.setPiece p).cvu = s.cvu := rfl
@[simp] theorem setPiece_wins (p : Piece) : (s.setPiece p).wins = s.wins := rfl
@[simp] theorem setPiece_selins (p : Piece) : (s.setPiece p).selins = s.selins := rfl
@[simp] theorem setPiece_stats (p : Piece) : (s.setPiece p).stats = s.stats := rfl
@[simp] theorem setPiece_streams (p : Piece) : (s.setPiece p).streams = s.streams := rfl
@[simp] theorem setPiece_rets (p : Piece) : (s.setPiece p).rets = s.rets := rfl
@[simp] theorem setPiece_helds (p : Piece) : (s.setPiece p).helds = s.helds := rfl
@[simp] theorem setPiece_lates (p : Piece) : (s.setPiece p).lates = s.lates := rfl
@[simp] theorem setPiece_lateOuts (p : Piece) : (s.setPiece p).lateOuts = s.lateOuts := rfl
@[simp] theorem setPiece_lateTiles (p : Piece) : (s.setPiece p).lateTiles = s.lateTiles := rfl
@[simp] theorem setPiece_losts (p : Piece) : (s.setPiece p).losts = s.losts := rfl
@[simp] theorem setPiece_refusedTiles (p : Piece) : (s.setPiece p).refusedTiles = s.refusedTiles := rfl
@[simp] theorem setPiece_fwdRets (p : Piece) : (s.setPiece p).fwdRets = s.fwdRets := rfl
@[simp] theorem setPiece_expects (p : Piece) : (s.setPiece p).expects = s.expects := rfl
@[simp] theorem setPiece_rels (p : Piece) : (s.setPiece p).rels = s.rels := rfl
@[simp] theorem setPiece_series (p : Piece) : (s.setPiece p).series = s.series := rfl
@[simp] theorem setPiece_partials (p : Piece) : (s.setPiece p).partials = s.partials := rfl
@[simp] theorem setPiece_combs (p : Piece) : (s.setPiece p).combs = s.combs := rfl
@[simp] theorem setPiece_grads (p : Piece) : (s.setPiece p).grads = s.grads := rfl
@[simp] theorem setPiece_layerGrads (p : Piece) : (s.setPiece p).layerGrads = s.layerGrads := rfl
@[simp] theorem get_setPiece (p : Piece) (n : Nat) : (s.setPiece p).get n = s.get n := rfl
@[simp] theorem domBytes_setPiece (p : Piece) (n o m : Nat) : (s.setPiece p).domBytes n o m = s.domBytes n o m := rfl
@[simp] theorem ctx_setPiece (p : Piece) (n : Nat) : (s.setPiece p).ctx n = s.ctx n := rfl
@[simp] theorem pool_setPiece (p : Piece) (n : Nat) : (s.setPiece p).pool n = s.pool n := rfl
@[simp] theorem queue_setPiece (p : Piece) (n : Nat) : (s.setPiece p).queue n = s.queue n := rfl
@[simp] theorem port_setPiece (p : Piece) (n : Nat) : (s.setPiece p).port n = s.port n := rfl
@[simp] theorem tport_setPiece (p : Piece) (tr : Transport) : (s.setPiece p).tport tr = s.tport tr := by cases tr <;> rfl

@[simp] theorem setWin_pending (w : Win) : (s.setWin w).pending = s.pending := rfl
@[simp] theorem setWin_phase (w : Win) : (s.setWin w).phase = s.phase := rfl
@[simp] theorem setWin_clockStopped (w : Win) : (s.setWin w).clockStopped = s.clockStopped := rfl
@[simp] theorem setWin_build (w : Win) : (s.setWin w).build = s.build := rfl
@[simp] theorem setWin_env (w : Win) : (s.setWin w).env = s.env := rfl
@[simp] theorem setWin_regs (w : Win) : (s.setWin w).regs = s.regs := rfl
@[simp] theorem setWin_dom (w : Win) : (s.setWin w).dom = s.dom := rfl
@[simp] theorem setWin_view (w : Win) : (s.setWin w).view = s.view := rfl
@[simp] theorem setWin_viewDom (w : Win) : (s.setWin w).viewDom = s.viewDom := rfl
@[simp] theorem setWin_stg (w : Win) : (s.setWin w).stg = s.stg := rfl
@[simp] theorem setWin_qstore (w : Win) : (s.setWin w).qstore = s.qstore := rfl
@[simp] theorem setWin_free (w : Win) : (s.setWin w).free = s.free := rfl
@[simp] theorem setWin_outbox (w : Win) : (s.setWin w).outbox = s.outbox := rfl
@[simp] theorem setWin_time (w : Win) : (s.setWin w).time = s.time := rfl
@[simp] theorem setWin_rates (w : Win) : (s.setWin w).rates = s.rates := rfl
@[simp] theorem setWin_ports (w : Win) : (s.setWin w).ports = s.ports := rfl
@[simp] theorem setWin_tpUp (w : Win) : (s.setWin w).tpUp = s.tpUp := rfl
@[simp] theorem setWin_tileTx (w : Win) : (s.setWin w).tileTx = s.tileTx := rfl
@[simp] theorem setWin_ctlWait (w : Win) : (s.setWin w).ctlWait = s.ctlWait := rfl
@[simp] theorem setWin_seen (w : Win) : (s.setWin w).seen = s.seen := rfl
@[simp] theorem setWin_noticeTx (w : Win) : (s.setWin w).noticeTx = s.noticeTx := rfl
@[simp] theorem setWin_targets (w : Win) : (s.setWin w).targets = s.targets := rfl
@[simp] theorem setWin_ctxs (w : Win) : (s.setWin w).ctxs = s.ctxs := rfl
@[simp] theorem setWin_issuedCmds (w : Win) : (s.setWin w).issuedCmds = s.issuedCmds := rfl
@[simp] theorem setWin_loads (w : Win) : (s.setWin w).loads = s.loads := rfl
@[simp] theorem setWin_cp (w : Win) : (s.setWin w).cp = s.cp := rfl
@[simp] theorem setWin_can (w : Win) : (s.setWin w).can = s.can := rfl
@[simp] theorem setWin_win (w : Win) : (s.setWin w).win = s.win := rfl
@[simp] theorem setWin_field (w : Win) : (s.setWin w).field = s.field := rfl
@[simp] theorem setWin_obs (w : Win) : (s.setWin w).obs = s.obs := rfl
@[simp] theorem setWin_meter (w : Win) : (s.setWin w).meter = s.meter := rfl
@[simp] theorem setWin_dru (w : Win) : (s.setWin w).dru = s.dru := rfl
@[simp] theorem setWin_audits (w : Win) : (s.setWin w).audits = s.audits := rfl
@[simp] theorem setWin_pools (w : Win) : (s.setWin w).pools = s.pools := rfl
@[simp] theorem setWin_queues (w : Win) : (s.setWin w).queues = s.queues := rfl
@[simp] theorem setWin_press (w : Win) : (s.setWin w).press = s.press := rfl
@[simp] theorem setWin_sfu (w : Win) : (s.setWin w).sfu = s.sfu := rfl
@[simp] theorem setWin_ptCheck (w : Win) : (s.setWin w).ptCheck = s.ptCheck := rfl
@[simp] theorem setWin_swaps (w : Win) : (s.setWin w).swaps = s.swaps := rfl
@[simp] theorem setWin_sfuCheck (w : Win) : (s.setWin w).sfuCheck = s.sfuCheck := rfl
@[simp] theorem setWin_cle (w : Win) : (s.setWin w).cle = s.cle := rfl
@[simp] theorem setWin_fep (w : Win) : (s.setWin w).fep = s.fep := rfl
@[simp] theorem setWin_cvu (w : Win) : (s.setWin w).cvu = s.cvu := rfl
@[simp] theorem setWin_selins (w : Win) : (s.setWin w).selins = s.selins := rfl
@[simp] theorem setWin_stats (w : Win) : (s.setWin w).stats = s.stats := rfl
@[simp] theorem setWin_streams (w : Win) : (s.setWin w).streams = s.streams := rfl
@[simp] theorem setWin_pieces (w : Win) : (s.setWin w).pieces = s.pieces := rfl
@[simp] theorem setWin_rets (w : Win) : (s.setWin w).rets = s.rets := rfl
@[simp] theorem setWin_helds (w : Win) : (s.setWin w).helds = s.helds := rfl
@[simp] theorem setWin_lates (w : Win) : (s.setWin w).lates = s.lates := rfl
@[simp] theorem setWin_lateOuts (w : Win) : (s.setWin w).lateOuts = s.lateOuts := rfl
@[simp] theorem setWin_lateTiles (w : Win) : (s.setWin w).lateTiles = s.lateTiles := rfl
@[simp] theorem setWin_losts (w : Win) : (s.setWin w).losts = s.losts := rfl
@[simp] theorem setWin_refusedTiles (w : Win) : (s.setWin w).refusedTiles = s.refusedTiles := rfl
@[simp] theorem setWin_fwdRets (w : Win) : (s.setWin w).fwdRets = s.fwdRets := rfl
@[simp] theorem setWin_expects (w : Win) : (s.setWin w).expects = s.expects := rfl
@[simp] theorem setWin_rels (w : Win) : (s.setWin w).rels = s.rels := rfl
@[simp] theorem setWin_series (w : Win) : (s.setWin w).series = s.series := rfl
@[simp] theorem setWin_partials (w : Win) : (s.setWin w).partials = s.partials := rfl
@[simp] theorem setWin_combs (w : Win) : (s.setWin w).combs = s.combs := rfl
@[simp] theorem setWin_grads (w : Win) : (s.setWin w).grads = s.grads := rfl
@[simp] theorem setWin_layerGrads (w : Win) : (s.setWin w).layerGrads = s.layerGrads := rfl
@[simp] theorem get_setWin (w : Win) (n : Nat) : (s.setWin w).get n = s.get n := rfl
@[simp] theorem domBytes_setWin (w : Win) (n o m : Nat) : (s.setWin w).domBytes n o m = s.domBytes n o m := rfl
@[simp] theorem ctx_setWin (w : Win) (n : Nat) : (s.setWin w).ctx n = s.ctx n := rfl
@[simp] theorem pool_setWin (w : Win) (n : Nat) : (s.setWin w).pool n = s.pool n := rfl
@[simp] theorem queue_setWin (w : Win) (n : Nat) : (s.setWin w).queue n = s.queue n := rfl
@[simp] theorem port_setWin (w : Win) (n : Nat) : (s.setWin w).port n = s.port n := rfl
@[simp] theorem tport_setWin (w : Win) (tr : Transport) : (s.setWin w).tport tr = s.tport tr := by cases tr <;> rfl
@[simp] theorem piece_setWin (w : Win) (n : PieceKey) : (s.setWin w).piece n = s.piece n := rfl

@[simp] theorem setComb_pending (x : Comb) : (s.setComb x).pending = s.pending := rfl
@[simp] theorem setComb_phase (x : Comb) : (s.setComb x).phase = s.phase := rfl
@[simp] theorem setComb_clockStopped (x : Comb) : (s.setComb x).clockStopped = s.clockStopped := rfl
@[simp] theorem setComb_build (x : Comb) : (s.setComb x).build = s.build := rfl
@[simp] theorem setComb_env (x : Comb) : (s.setComb x).env = s.env := rfl
@[simp] theorem setComb_regs (x : Comb) : (s.setComb x).regs = s.regs := rfl
@[simp] theorem setComb_dom (x : Comb) : (s.setComb x).dom = s.dom := rfl
@[simp] theorem setComb_view (x : Comb) : (s.setComb x).view = s.view := rfl
@[simp] theorem setComb_viewDom (x : Comb) : (s.setComb x).viewDom = s.viewDom := rfl
@[simp] theorem setComb_stg (x : Comb) : (s.setComb x).stg = s.stg := rfl
@[simp] theorem setComb_qstore (x : Comb) : (s.setComb x).qstore = s.qstore := rfl
@[simp] theorem setComb_free (x : Comb) : (s.setComb x).free = s.free := rfl
@[simp] theorem setComb_outbox (x : Comb) : (s.setComb x).outbox = s.outbox := rfl
@[simp] theorem setComb_time (x : Comb) : (s.setComb x).time = s.time := rfl
@[simp] theorem setComb_rates (x : Comb) : (s.setComb x).rates = s.rates := rfl
@[simp] theorem setComb_ports (x : Comb) : (s.setComb x).ports = s.ports := rfl
@[simp] theorem setComb_tpUp (x : Comb) : (s.setComb x).tpUp = s.tpUp := rfl
@[simp] theorem setComb_tileTx (x : Comb) : (s.setComb x).tileTx = s.tileTx := rfl
@[simp] theorem setComb_ctlWait (x : Comb) : (s.setComb x).ctlWait = s.ctlWait := rfl
@[simp] theorem setComb_seen (x : Comb) : (s.setComb x).seen = s.seen := rfl
@[simp] theorem setComb_noticeTx (x : Comb) : (s.setComb x).noticeTx = s.noticeTx := rfl
@[simp] theorem setComb_targets (x : Comb) : (s.setComb x).targets = s.targets := rfl
@[simp] theorem setComb_ctxs (x : Comb) : (s.setComb x).ctxs = s.ctxs := rfl
@[simp] theorem setComb_issuedCmds (x : Comb) : (s.setComb x).issuedCmds = s.issuedCmds := rfl
@[simp] theorem setComb_loads (x : Comb) : (s.setComb x).loads = s.loads := rfl
@[simp] theorem setComb_cp (x : Comb) : (s.setComb x).cp = s.cp := rfl
@[simp] theorem setComb_can (x : Comb) : (s.setComb x).can = s.can := rfl
@[simp] theorem setComb_win (x : Comb) : (s.setComb x).win = s.win := rfl
@[simp] theorem setComb_field (x : Comb) : (s.setComb x).field = s.field := rfl
@[simp] theorem setComb_obs (x : Comb) : (s.setComb x).obs = s.obs := rfl
@[simp] theorem setComb_meter (x : Comb) : (s.setComb x).meter = s.meter := rfl
@[simp] theorem setComb_dru (x : Comb) : (s.setComb x).dru = s.dru := rfl
@[simp] theorem setComb_audits (x : Comb) : (s.setComb x).audits = s.audits := rfl
@[simp] theorem setComb_pools (x : Comb) : (s.setComb x).pools = s.pools := rfl
@[simp] theorem setComb_queues (x : Comb) : (s.setComb x).queues = s.queues := rfl
@[simp] theorem setComb_press (x : Comb) : (s.setComb x).press = s.press := rfl
@[simp] theorem setComb_sfu (x : Comb) : (s.setComb x).sfu = s.sfu := rfl
@[simp] theorem setComb_ptCheck (x : Comb) : (s.setComb x).ptCheck = s.ptCheck := rfl
@[simp] theorem setComb_swaps (x : Comb) : (s.setComb x).swaps = s.swaps := rfl
@[simp] theorem setComb_sfuCheck (x : Comb) : (s.setComb x).sfuCheck = s.sfuCheck := rfl
@[simp] theorem setComb_cle (x : Comb) : (s.setComb x).cle = s.cle := rfl
@[simp] theorem setComb_fep (x : Comb) : (s.setComb x).fep = s.fep := rfl
@[simp] theorem setComb_cvu (x : Comb) : (s.setComb x).cvu = s.cvu := rfl
@[simp] theorem setComb_wins (x : Comb) : (s.setComb x).wins = s.wins := rfl
@[simp] theorem setComb_selins (x : Comb) : (s.setComb x).selins = s.selins := rfl
@[simp] theorem setComb_stats (x : Comb) : (s.setComb x).stats = s.stats := rfl
@[simp] theorem setComb_streams (x : Comb) : (s.setComb x).streams = s.streams := rfl
@[simp] theorem setComb_pieces (x : Comb) : (s.setComb x).pieces = s.pieces := rfl
@[simp] theorem setComb_rets (x : Comb) : (s.setComb x).rets = s.rets := rfl
@[simp] theorem setComb_helds (x : Comb) : (s.setComb x).helds = s.helds := rfl
@[simp] theorem setComb_lates (x : Comb) : (s.setComb x).lates = s.lates := rfl
@[simp] theorem setComb_lateOuts (x : Comb) : (s.setComb x).lateOuts = s.lateOuts := rfl
@[simp] theorem setComb_lateTiles (x : Comb) : (s.setComb x).lateTiles = s.lateTiles := rfl
@[simp] theorem setComb_losts (x : Comb) : (s.setComb x).losts = s.losts := rfl
@[simp] theorem setComb_refusedTiles (x : Comb) : (s.setComb x).refusedTiles = s.refusedTiles := rfl
@[simp] theorem setComb_fwdRets (x : Comb) : (s.setComb x).fwdRets = s.fwdRets := rfl
@[simp] theorem setComb_expects (x : Comb) : (s.setComb x).expects = s.expects := rfl
@[simp] theorem setComb_rels (x : Comb) : (s.setComb x).rels = s.rels := rfl
@[simp] theorem setComb_series (x : Comb) : (s.setComb x).series = s.series := rfl
@[simp] theorem setComb_partials (x : Comb) : (s.setComb x).partials = s.partials := rfl
@[simp] theorem setComb_grads (x : Comb) : (s.setComb x).grads = s.grads := rfl
@[simp] theorem setComb_layerGrads (x : Comb) : (s.setComb x).layerGrads = s.layerGrads := rfl
@[simp] theorem get_setComb (x : Comb) (n : Nat) : (s.setComb x).get n = s.get n := rfl
@[simp] theorem domBytes_setComb (x : Comb) (n o m : Nat) : (s.setComb x).domBytes n o m = s.domBytes n o m := rfl
@[simp] theorem ctx_setComb (x : Comb) (n : Nat) : (s.setComb x).ctx n = s.ctx n := rfl
@[simp] theorem pool_setComb (x : Comb) (n : Nat) : (s.setComb x).pool n = s.pool n := rfl
@[simp] theorem queue_setComb (x : Comb) (n : Nat) : (s.setComb x).queue n = s.queue n := rfl
@[simp] theorem port_setComb (x : Comb) (n : Nat) : (s.setComb x).port n = s.port n := rfl
@[simp] theorem tport_setComb (x : Comb) (tr : Transport) : (s.setComb x).tport tr = s.tport tr := by cases tr <;> rfl
@[simp] theorem piece_setComb (x : Comb) (n : PieceKey) : (s.setComb x).piece n = s.piece n := rfl

@[simp] theorem setGrad_pending (g : Grad) : (s.setGrad g).pending = s.pending := rfl
@[simp] theorem setGrad_phase (g : Grad) : (s.setGrad g).phase = s.phase := rfl
@[simp] theorem setGrad_clockStopped (g : Grad) : (s.setGrad g).clockStopped = s.clockStopped := rfl
@[simp] theorem setGrad_build (g : Grad) : (s.setGrad g).build = s.build := rfl
@[simp] theorem setGrad_env (g : Grad) : (s.setGrad g).env = s.env := rfl
@[simp] theorem setGrad_regs (g : Grad) : (s.setGrad g).regs = s.regs := rfl
@[simp] theorem setGrad_dom (g : Grad) : (s.setGrad g).dom = s.dom := rfl
@[simp] theorem setGrad_view (g : Grad) : (s.setGrad g).view = s.view := rfl
@[simp] theorem setGrad_viewDom (g : Grad) : (s.setGrad g).viewDom = s.viewDom := rfl
@[simp] theorem setGrad_stg (g : Grad) : (s.setGrad g).stg = s.stg := rfl
@[simp] theorem setGrad_qstore (g : Grad) : (s.setGrad g).qstore = s.qstore := rfl
@[simp] theorem setGrad_free (g : Grad) : (s.setGrad g).free = s.free := rfl
@[simp] theorem setGrad_outbox (g : Grad) : (s.setGrad g).outbox = s.outbox := rfl
@[simp] theorem setGrad_time (g : Grad) : (s.setGrad g).time = s.time := rfl
@[simp] theorem setGrad_rates (g : Grad) : (s.setGrad g).rates = s.rates := rfl
@[simp] theorem setGrad_ports (g : Grad) : (s.setGrad g).ports = s.ports := rfl
@[simp] theorem setGrad_tpUp (g : Grad) : (s.setGrad g).tpUp = s.tpUp := rfl
@[simp] theorem setGrad_tileTx (g : Grad) : (s.setGrad g).tileTx = s.tileTx := rfl
@[simp] theorem setGrad_ctlWait (g : Grad) : (s.setGrad g).ctlWait = s.ctlWait := rfl
@[simp] theorem setGrad_seen (g : Grad) : (s.setGrad g).seen = s.seen := rfl
@[simp] theorem setGrad_noticeTx (g : Grad) : (s.setGrad g).noticeTx = s.noticeTx := rfl
@[simp] theorem setGrad_targets (g : Grad) : (s.setGrad g).targets = s.targets := rfl
@[simp] theorem setGrad_ctxs (g : Grad) : (s.setGrad g).ctxs = s.ctxs := rfl
@[simp] theorem setGrad_issuedCmds (g : Grad) : (s.setGrad g).issuedCmds = s.issuedCmds := rfl
@[simp] theorem setGrad_loads (g : Grad) : (s.setGrad g).loads = s.loads := rfl
@[simp] theorem setGrad_cp (g : Grad) : (s.setGrad g).cp = s.cp := rfl
@[simp] theorem setGrad_can (g : Grad) : (s.setGrad g).can = s.can := rfl
@[simp] theorem setGrad_win (g : Grad) : (s.setGrad g).win = s.win := rfl
@[simp] theorem setGrad_field (g : Grad) : (s.setGrad g).field = s.field := rfl
@[simp] theorem setGrad_obs (g : Grad) : (s.setGrad g).obs = s.obs := rfl
@[simp] theorem setGrad_meter (g : Grad) : (s.setGrad g).meter = s.meter := rfl
@[simp] theorem setGrad_dru (g : Grad) : (s.setGrad g).dru = s.dru := rfl
@[simp] theorem setGrad_audits (g : Grad) : (s.setGrad g).audits = s.audits := rfl
@[simp] theorem setGrad_pools (g : Grad) : (s.setGrad g).pools = s.pools := rfl
@[simp] theorem setGrad_queues (g : Grad) : (s.setGrad g).queues = s.queues := rfl
@[simp] theorem setGrad_press (g : Grad) : (s.setGrad g).press = s.press := rfl
@[simp] theorem setGrad_sfu (g : Grad) : (s.setGrad g).sfu = s.sfu := rfl
@[simp] theorem setGrad_ptCheck (g : Grad) : (s.setGrad g).ptCheck = s.ptCheck := rfl
@[simp] theorem setGrad_swaps (g : Grad) : (s.setGrad g).swaps = s.swaps := rfl
@[simp] theorem setGrad_sfuCheck (g : Grad) : (s.setGrad g).sfuCheck = s.sfuCheck := rfl
@[simp] theorem setGrad_cle (g : Grad) : (s.setGrad g).cle = s.cle := rfl
@[simp] theorem setGrad_fep (g : Grad) : (s.setGrad g).fep = s.fep := rfl
@[simp] theorem setGrad_cvu (g : Grad) : (s.setGrad g).cvu = s.cvu := rfl
@[simp] theorem setGrad_wins (g : Grad) : (s.setGrad g).wins = s.wins := rfl
@[simp] theorem setGrad_selins (g : Grad) : (s.setGrad g).selins = s.selins := rfl
@[simp] theorem setGrad_stats (g : Grad) : (s.setGrad g).stats = s.stats := rfl
@[simp] theorem setGrad_streams (g : Grad) : (s.setGrad g).streams = s.streams := rfl
@[simp] theorem setGrad_pieces (g : Grad) : (s.setGrad g).pieces = s.pieces := rfl
@[simp] theorem setGrad_rets (g : Grad) : (s.setGrad g).rets = s.rets := rfl
@[simp] theorem setGrad_helds (g : Grad) : (s.setGrad g).helds = s.helds := rfl
@[simp] theorem setGrad_lates (g : Grad) : (s.setGrad g).lates = s.lates := rfl
@[simp] theorem setGrad_lateOuts (g : Grad) : (s.setGrad g).lateOuts = s.lateOuts := rfl
@[simp] theorem setGrad_lateTiles (g : Grad) : (s.setGrad g).lateTiles = s.lateTiles := rfl
@[simp] theorem setGrad_losts (g : Grad) : (s.setGrad g).losts = s.losts := rfl
@[simp] theorem setGrad_refusedTiles (g : Grad) : (s.setGrad g).refusedTiles = s.refusedTiles := rfl
@[simp] theorem setGrad_fwdRets (g : Grad) : (s.setGrad g).fwdRets = s.fwdRets := rfl
@[simp] theorem setGrad_expects (g : Grad) : (s.setGrad g).expects = s.expects := rfl
@[simp] theorem setGrad_rels (g : Grad) : (s.setGrad g).rels = s.rels := rfl
@[simp] theorem setGrad_series (g : Grad) : (s.setGrad g).series = s.series := rfl
@[simp] theorem setGrad_partials (g : Grad) : (s.setGrad g).partials = s.partials := rfl
@[simp] theorem setGrad_combs (g : Grad) : (s.setGrad g).combs = s.combs := rfl
@[simp] theorem setGrad_layerGrads (g : Grad) : (s.setGrad g).layerGrads = s.layerGrads := rfl
@[simp] theorem get_setGrad (g : Grad) (n : Nat) : (s.setGrad g).get n = s.get n := rfl
@[simp] theorem domBytes_setGrad (g : Grad) (n o m : Nat) : (s.setGrad g).domBytes n o m = s.domBytes n o m := rfl
@[simp] theorem ctx_setGrad (g : Grad) (n : Nat) : (s.setGrad g).ctx n = s.ctx n := rfl
@[simp] theorem pool_setGrad (g : Grad) (n : Nat) : (s.setGrad g).pool n = s.pool n := rfl
@[simp] theorem queue_setGrad (g : Grad) (n : Nat) : (s.setGrad g).queue n = s.queue n := rfl
@[simp] theorem port_setGrad (g : Grad) (n : Nat) : (s.setGrad g).port n = s.port n := rfl
@[simp] theorem tport_setGrad (g : Grad) (tr : Transport) : (s.setGrad g).tport tr = s.tport tr := by cases tr <;> rfl
@[simp] theorem piece_setGrad (g : Grad) (n : PieceKey) : (s.setGrad g).piece n = s.piece n := rfl

@[simp] theorem setRet_pending (r : Ret) : (s.setRet r).pending = s.pending := rfl
@[simp] theorem setRet_phase (r : Ret) : (s.setRet r).phase = s.phase := rfl
@[simp] theorem setRet_clockStopped (r : Ret) : (s.setRet r).clockStopped = s.clockStopped := rfl
@[simp] theorem setRet_build (r : Ret) : (s.setRet r).build = s.build := rfl
@[simp] theorem setRet_env (r : Ret) : (s.setRet r).env = s.env := rfl
@[simp] theorem setRet_regs (r : Ret) : (s.setRet r).regs = s.regs := rfl
@[simp] theorem setRet_dom (r : Ret) : (s.setRet r).dom = s.dom := rfl
@[simp] theorem setRet_view (r : Ret) : (s.setRet r).view = s.view := rfl
@[simp] theorem setRet_viewDom (r : Ret) : (s.setRet r).viewDom = s.viewDom := rfl
@[simp] theorem setRet_stg (r : Ret) : (s.setRet r).stg = s.stg := rfl
@[simp] theorem setRet_qstore (r : Ret) : (s.setRet r).qstore = s.qstore := rfl
@[simp] theorem setRet_free (r : Ret) : (s.setRet r).free = s.free := rfl
@[simp] theorem setRet_outbox (r : Ret) : (s.setRet r).outbox = s.outbox := rfl
@[simp] theorem setRet_time (r : Ret) : (s.setRet r).time = s.time := rfl
@[simp] theorem setRet_rates (r : Ret) : (s.setRet r).rates = s.rates := rfl
@[simp] theorem setRet_ports (r : Ret) : (s.setRet r).ports = s.ports := rfl
@[simp] theorem setRet_tpUp (r : Ret) : (s.setRet r).tpUp = s.tpUp := rfl
@[simp] theorem setRet_tileTx (r : Ret) : (s.setRet r).tileTx = s.tileTx := rfl
@[simp] theorem setRet_ctlWait (r : Ret) : (s.setRet r).ctlWait = s.ctlWait := rfl
@[simp] theorem setRet_seen (r : Ret) : (s.setRet r).seen = s.seen := rfl
@[simp] theorem setRet_noticeTx (r : Ret) : (s.setRet r).noticeTx = s.noticeTx := rfl
@[simp] theorem setRet_targets (r : Ret) : (s.setRet r).targets = s.targets := rfl
@[simp] theorem setRet_ctxs (r : Ret) : (s.setRet r).ctxs = s.ctxs := rfl
@[simp] theorem setRet_issuedCmds (r : Ret) : (s.setRet r).issuedCmds = s.issuedCmds := rfl
@[simp] theorem setRet_loads (r : Ret) : (s.setRet r).loads = s.loads := rfl
@[simp] theorem setRet_cp (r : Ret) : (s.setRet r).cp = s.cp := rfl
@[simp] theorem setRet_can (r : Ret) : (s.setRet r).can = s.can := rfl
@[simp] theorem setRet_win (r : Ret) : (s.setRet r).win = s.win := rfl
@[simp] theorem setRet_field (r : Ret) : (s.setRet r).field = s.field := rfl
@[simp] theorem setRet_obs (r : Ret) : (s.setRet r).obs = s.obs := rfl
@[simp] theorem setRet_meter (r : Ret) : (s.setRet r).meter = s.meter := rfl
@[simp] theorem setRet_dru (r : Ret) : (s.setRet r).dru = s.dru := rfl
@[simp] theorem setRet_audits (r : Ret) : (s.setRet r).audits = s.audits := rfl
@[simp] theorem setRet_pools (r : Ret) : (s.setRet r).pools = s.pools := rfl
@[simp] theorem setRet_queues (r : Ret) : (s.setRet r).queues = s.queues := rfl
@[simp] theorem setRet_press (r : Ret) : (s.setRet r).press = s.press := rfl
@[simp] theorem setRet_sfu (r : Ret) : (s.setRet r).sfu = s.sfu := rfl
@[simp] theorem setRet_ptCheck (r : Ret) : (s.setRet r).ptCheck = s.ptCheck := rfl
@[simp] theorem setRet_swaps (r : Ret) : (s.setRet r).swaps = s.swaps := rfl
@[simp] theorem setRet_sfuCheck (r : Ret) : (s.setRet r).sfuCheck = s.sfuCheck := rfl
@[simp] theorem setRet_cle (r : Ret) : (s.setRet r).cle = s.cle := rfl
@[simp] theorem setRet_fep (r : Ret) : (s.setRet r).fep = s.fep := rfl
@[simp] theorem setRet_cvu (r : Ret) : (s.setRet r).cvu = s.cvu := rfl
@[simp] theorem setRet_wins (r : Ret) : (s.setRet r).wins = s.wins := rfl
@[simp] theorem setRet_selins (r : Ret) : (s.setRet r).selins = s.selins := rfl
@[simp] theorem setRet_stats (r : Ret) : (s.setRet r).stats = s.stats := rfl
@[simp] theorem setRet_streams (r : Ret) : (s.setRet r).streams = s.streams := rfl
@[simp] theorem setRet_pieces (r : Ret) : (s.setRet r).pieces = s.pieces := rfl
@[simp] theorem setRet_helds (r : Ret) : (s.setRet r).helds = s.helds := rfl
@[simp] theorem setRet_lates (r : Ret) : (s.setRet r).lates = s.lates := rfl
@[simp] theorem setRet_lateOuts (r : Ret) : (s.setRet r).lateOuts = s.lateOuts := rfl
@[simp] theorem setRet_lateTiles (r : Ret) : (s.setRet r).lateTiles = s.lateTiles := rfl
@[simp] theorem setRet_losts (r : Ret) : (s.setRet r).losts = s.losts := rfl
@[simp] theorem setRet_refusedTiles (r : Ret) : (s.setRet r).refusedTiles = s.refusedTiles := rfl
@[simp] theorem setRet_fwdRets (r : Ret) : (s.setRet r).fwdRets = s.fwdRets := rfl
@[simp] theorem setRet_expects (r : Ret) : (s.setRet r).expects = s.expects := rfl
@[simp] theorem setRet_rels (r : Ret) : (s.setRet r).rels = s.rels := rfl
@[simp] theorem setRet_series (r : Ret) : (s.setRet r).series = s.series := rfl
@[simp] theorem setRet_partials (r : Ret) : (s.setRet r).partials = s.partials := rfl
@[simp] theorem setRet_combs (r : Ret) : (s.setRet r).combs = s.combs := rfl
@[simp] theorem setRet_grads (r : Ret) : (s.setRet r).grads = s.grads := rfl
@[simp] theorem setRet_layerGrads (r : Ret) : (s.setRet r).layerGrads = s.layerGrads := rfl
@[simp] theorem get_setRet (r : Ret) (n : Nat) : (s.setRet r).get n = s.get n := rfl
@[simp] theorem domBytes_setRet (r : Ret) (n o m : Nat) : (s.setRet r).domBytes n o m = s.domBytes n o m := rfl
@[simp] theorem ctx_setRet (r : Ret) (n : Nat) : (s.setRet r).ctx n = s.ctx n := rfl
@[simp] theorem pool_setRet (r : Ret) (n : Nat) : (s.setRet r).pool n = s.pool n := rfl
@[simp] theorem queue_setRet (r : Ret) (n : Nat) : (s.setRet r).queue n = s.queue n := rfl
@[simp] theorem port_setRet (r : Ret) (n : Nat) : (s.setRet r).port n = s.port n := rfl
@[simp] theorem tport_setRet (r : Ret) (tr : Transport) : (s.setRet r).tport tr = s.tport tr := by cases tr <;> rfl
@[simp] theorem piece_setRet (r : Ret) (n : PieceKey) : (s.setRet r).piece n = s.piece n := rfl

@[simp] theorem setColl_pending (o : Coll) : (s.setColl o).pending = s.pending := rfl
@[simp] theorem setColl_phase (o : Coll) : (s.setColl o).phase = s.phase := rfl
@[simp] theorem setColl_clockStopped (o : Coll) : (s.setColl o).clockStopped = s.clockStopped := rfl
@[simp] theorem setColl_build (o : Coll) : (s.setColl o).build = s.build := rfl
@[simp] theorem setColl_env (o : Coll) : (s.setColl o).env = s.env := rfl
@[simp] theorem setColl_regs (o : Coll) : (s.setColl o).regs = s.regs := rfl
@[simp] theorem setColl_dom (o : Coll) : (s.setColl o).dom = s.dom := rfl
@[simp] theorem setColl_view (o : Coll) : (s.setColl o).view = s.view := rfl
@[simp] theorem setColl_viewDom (o : Coll) : (s.setColl o).viewDom = s.viewDom := rfl
@[simp] theorem setColl_stg (o : Coll) : (s.setColl o).stg = s.stg := rfl
@[simp] theorem setColl_qstore (o : Coll) : (s.setColl o).qstore = s.qstore := rfl
@[simp] theorem setColl_free (o : Coll) : (s.setColl o).free = s.free := rfl
@[simp] theorem setColl_outbox (o : Coll) : (s.setColl o).outbox = s.outbox := rfl
@[simp] theorem setColl_time (o : Coll) : (s.setColl o).time = s.time := rfl
@[simp] theorem setColl_rates (o : Coll) : (s.setColl o).rates = s.rates := rfl
@[simp] theorem setColl_ports (o : Coll) : (s.setColl o).ports = s.ports := rfl
@[simp] theorem setColl_tpUp (o : Coll) : (s.setColl o).tpUp = s.tpUp := rfl
@[simp] theorem setColl_tileTx (o : Coll) : (s.setColl o).tileTx = s.tileTx := rfl
@[simp] theorem setColl_ctlWait (o : Coll) : (s.setColl o).ctlWait = s.ctlWait := rfl
@[simp] theorem setColl_seen (o : Coll) : (s.setColl o).seen = s.seen := rfl
@[simp] theorem setColl_noticeTx (o : Coll) : (s.setColl o).noticeTx = s.noticeTx := rfl
@[simp] theorem setColl_targets (o : Coll) : (s.setColl o).targets = s.targets := rfl
@[simp] theorem setColl_ctxs (o : Coll) : (s.setColl o).ctxs = s.ctxs := rfl
@[simp] theorem setColl_issuedCmds (o : Coll) : (s.setColl o).issuedCmds = s.issuedCmds := rfl
@[simp] theorem setColl_loads (o : Coll) : (s.setColl o).loads = s.loads := rfl
@[simp] theorem setColl_cp (o : Coll) : (s.setColl o).cp = s.cp := rfl
@[simp] theorem setColl_can (o : Coll) : (s.setColl o).can = s.can := rfl
@[simp] theorem setColl_win (o : Coll) : (s.setColl o).win = s.win := rfl
@[simp] theorem setColl_field (o : Coll) : (s.setColl o).field = s.field := rfl
@[simp] theorem setColl_obs (o : Coll) : (s.setColl o).obs = s.obs := rfl
@[simp] theorem setColl_meter (o : Coll) : (s.setColl o).meter = s.meter := rfl
@[simp] theorem setColl_dru (o : Coll) : (s.setColl o).dru = s.dru := rfl
@[simp] theorem setColl_audits (o : Coll) : (s.setColl o).audits = s.audits := rfl
@[simp] theorem setColl_pools (o : Coll) : (s.setColl o).pools = s.pools := rfl
@[simp] theorem setColl_queues (o : Coll) : (s.setColl o).queues = s.queues := rfl
@[simp] theorem setColl_press (o : Coll) : (s.setColl o).press = s.press := rfl
@[simp] theorem setColl_sfu (o : Coll) : (s.setColl o).sfu = s.sfu := rfl
@[simp] theorem setColl_ptCheck (o : Coll) : (s.setColl o).ptCheck = s.ptCheck := rfl
@[simp] theorem setColl_swaps (o : Coll) : (s.setColl o).swaps = s.swaps := rfl
@[simp] theorem setColl_sfuCheck (o : Coll) : (s.setColl o).sfuCheck = s.sfuCheck := rfl
@[simp] theorem setColl_fep (o : Coll) : (s.setColl o).fep = s.fep := rfl
@[simp] theorem setColl_cvu (o : Coll) : (s.setColl o).cvu = s.cvu := rfl
@[simp] theorem setColl_wins (o : Coll) : (s.setColl o).wins = s.wins := rfl
@[simp] theorem setColl_selins (o : Coll) : (s.setColl o).selins = s.selins := rfl
@[simp] theorem setColl_stats (o : Coll) : (s.setColl o).stats = s.stats := rfl
@[simp] theorem setColl_streams (o : Coll) : (s.setColl o).streams = s.streams := rfl
@[simp] theorem setColl_pieces (o : Coll) : (s.setColl o).pieces = s.pieces := rfl
@[simp] theorem setColl_rets (o : Coll) : (s.setColl o).rets = s.rets := rfl
@[simp] theorem setColl_helds (o : Coll) : (s.setColl o).helds = s.helds := rfl
@[simp] theorem setColl_lates (o : Coll) : (s.setColl o).lates = s.lates := rfl
@[simp] theorem setColl_lateOuts (o : Coll) : (s.setColl o).lateOuts = s.lateOuts := rfl
@[simp] theorem setColl_lateTiles (o : Coll) : (s.setColl o).lateTiles = s.lateTiles := rfl
@[simp] theorem setColl_losts (o : Coll) : (s.setColl o).losts = s.losts := rfl
@[simp] theorem setColl_refusedTiles (o : Coll) : (s.setColl o).refusedTiles = s.refusedTiles := rfl
@[simp] theorem setColl_fwdRets (o : Coll) : (s.setColl o).fwdRets = s.fwdRets := rfl
@[simp] theorem setColl_expects (o : Coll) : (s.setColl o).expects = s.expects := rfl
@[simp] theorem setColl_rels (o : Coll) : (s.setColl o).rels = s.rels := rfl
@[simp] theorem setColl_series (o : Coll) : (s.setColl o).series = s.series := rfl
@[simp] theorem setColl_partials (o : Coll) : (s.setColl o).partials = s.partials := rfl
@[simp] theorem setColl_combs (o : Coll) : (s.setColl o).combs = s.combs := rfl
@[simp] theorem setColl_grads (o : Coll) : (s.setColl o).grads = s.grads := rfl
@[simp] theorem setColl_layerGrads (o : Coll) : (s.setColl o).layerGrads = s.layerGrads := rfl
@[simp] theorem get_setColl (o : Coll) (n : Nat) : (s.setColl o).get n = s.get n := rfl
@[simp] theorem domBytes_setColl (o : Coll) (n u m : Nat) : (s.setColl o).domBytes n u m = s.domBytes n u m := rfl
@[simp] theorem ctx_setColl (o : Coll) (n : Nat) : (s.setColl o).ctx n = s.ctx n := rfl
@[simp] theorem pool_setColl (o : Coll) (n : Nat) : (s.setColl o).pool n = s.pool n := rfl
@[simp] theorem queue_setColl (o : Coll) (n : Nat) : (s.setColl o).queue n = s.queue n := rfl
@[simp] theorem port_setColl (o : Coll) (n : Nat) : (s.setColl o).port n = s.port n := rfl
@[simp] theorem tport_setColl (o : Coll) (tr : Transport) : (s.setColl o).tport tr = s.tport tr := by cases tr <;> rfl
@[simp] theorem piece_setColl (o : Coll) (n : PieceKey) : (s.setColl o).piece n = s.piece n := rfl

@[simp] theorem setLayerGrad_pending (g : LayerGrad) : (s.setLayerGrad g).pending = s.pending := rfl
@[simp] theorem setLayerGrad_phase (g : LayerGrad) : (s.setLayerGrad g).phase = s.phase := rfl
@[simp] theorem setLayerGrad_clockStopped (g : LayerGrad) : (s.setLayerGrad g).clockStopped = s.clockStopped := rfl
@[simp] theorem setLayerGrad_build (g : LayerGrad) : (s.setLayerGrad g).build = s.build := rfl
@[simp] theorem setLayerGrad_env (g : LayerGrad) : (s.setLayerGrad g).env = s.env := rfl
@[simp] theorem setLayerGrad_regs (g : LayerGrad) : (s.setLayerGrad g).regs = s.regs := rfl
@[simp] theorem setLayerGrad_dom (g : LayerGrad) : (s.setLayerGrad g).dom = s.dom := rfl
@[simp] theorem setLayerGrad_view (g : LayerGrad) : (s.setLayerGrad g).view = s.view := rfl
@[simp] theorem setLayerGrad_viewDom (g : LayerGrad) : (s.setLayerGrad g).viewDom = s.viewDom := rfl
@[simp] theorem setLayerGrad_stg (g : LayerGrad) : (s.setLayerGrad g).stg = s.stg := rfl
@[simp] theorem setLayerGrad_qstore (g : LayerGrad) : (s.setLayerGrad g).qstore = s.qstore := rfl
@[simp] theorem setLayerGrad_free (g : LayerGrad) : (s.setLayerGrad g).free = s.free := rfl
@[simp] theorem setLayerGrad_outbox (g : LayerGrad) : (s.setLayerGrad g).outbox = s.outbox := rfl
@[simp] theorem setLayerGrad_time (g : LayerGrad) : (s.setLayerGrad g).time = s.time := rfl
@[simp] theorem setLayerGrad_rates (g : LayerGrad) : (s.setLayerGrad g).rates = s.rates := rfl
@[simp] theorem setLayerGrad_ports (g : LayerGrad) : (s.setLayerGrad g).ports = s.ports := rfl
@[simp] theorem setLayerGrad_tpUp (g : LayerGrad) : (s.setLayerGrad g).tpUp = s.tpUp := rfl
@[simp] theorem setLayerGrad_tileTx (g : LayerGrad) : (s.setLayerGrad g).tileTx = s.tileTx := rfl
@[simp] theorem setLayerGrad_ctlWait (g : LayerGrad) : (s.setLayerGrad g).ctlWait = s.ctlWait := rfl
@[simp] theorem setLayerGrad_seen (g : LayerGrad) : (s.setLayerGrad g).seen = s.seen := rfl
@[simp] theorem setLayerGrad_noticeTx (g : LayerGrad) : (s.setLayerGrad g).noticeTx = s.noticeTx := rfl
@[simp] theorem setLayerGrad_targets (g : LayerGrad) : (s.setLayerGrad g).targets = s.targets := rfl
@[simp] theorem setLayerGrad_ctxs (g : LayerGrad) : (s.setLayerGrad g).ctxs = s.ctxs := rfl
@[simp] theorem setLayerGrad_issuedCmds (g : LayerGrad) : (s.setLayerGrad g).issuedCmds = s.issuedCmds := rfl
@[simp] theorem setLayerGrad_loads (g : LayerGrad) : (s.setLayerGrad g).loads = s.loads := rfl
@[simp] theorem setLayerGrad_cp (g : LayerGrad) : (s.setLayerGrad g).cp = s.cp := rfl
@[simp] theorem setLayerGrad_can (g : LayerGrad) : (s.setLayerGrad g).can = s.can := rfl
@[simp] theorem setLayerGrad_win (g : LayerGrad) : (s.setLayerGrad g).win = s.win := rfl
@[simp] theorem setLayerGrad_field (g : LayerGrad) : (s.setLayerGrad g).field = s.field := rfl
@[simp] theorem setLayerGrad_obs (g : LayerGrad) : (s.setLayerGrad g).obs = s.obs := rfl
@[simp] theorem setLayerGrad_meter (g : LayerGrad) : (s.setLayerGrad g).meter = s.meter := rfl
@[simp] theorem setLayerGrad_dru (g : LayerGrad) : (s.setLayerGrad g).dru = s.dru := rfl
@[simp] theorem setLayerGrad_audits (g : LayerGrad) : (s.setLayerGrad g).audits = s.audits := rfl
@[simp] theorem setLayerGrad_pools (g : LayerGrad) : (s.setLayerGrad g).pools = s.pools := rfl
@[simp] theorem setLayerGrad_queues (g : LayerGrad) : (s.setLayerGrad g).queues = s.queues := rfl
@[simp] theorem setLayerGrad_press (g : LayerGrad) : (s.setLayerGrad g).press = s.press := rfl
@[simp] theorem setLayerGrad_sfu (g : LayerGrad) : (s.setLayerGrad g).sfu = s.sfu := rfl
@[simp] theorem setLayerGrad_ptCheck (g : LayerGrad) : (s.setLayerGrad g).ptCheck = s.ptCheck := rfl
@[simp] theorem setLayerGrad_swaps (g : LayerGrad) : (s.setLayerGrad g).swaps = s.swaps := rfl
@[simp] theorem setLayerGrad_sfuCheck (g : LayerGrad) : (s.setLayerGrad g).sfuCheck = s.sfuCheck := rfl
@[simp] theorem setLayerGrad_cle (g : LayerGrad) : (s.setLayerGrad g).cle = s.cle := rfl
@[simp] theorem setLayerGrad_fep (g : LayerGrad) : (s.setLayerGrad g).fep = s.fep := rfl
@[simp] theorem setLayerGrad_cvu (g : LayerGrad) : (s.setLayerGrad g).cvu = s.cvu := rfl
@[simp] theorem setLayerGrad_wins (g : LayerGrad) : (s.setLayerGrad g).wins = s.wins := rfl
@[simp] theorem setLayerGrad_selins (g : LayerGrad) : (s.setLayerGrad g).selins = s.selins := rfl
@[simp] theorem setLayerGrad_stats (g : LayerGrad) : (s.setLayerGrad g).stats = s.stats := rfl
@[simp] theorem setLayerGrad_streams (g : LayerGrad) : (s.setLayerGrad g).streams = s.streams := rfl
@[simp] theorem setLayerGrad_pieces (g : LayerGrad) : (s.setLayerGrad g).pieces = s.pieces := rfl
@[simp] theorem setLayerGrad_rets (g : LayerGrad) : (s.setLayerGrad g).rets = s.rets := rfl
@[simp] theorem setLayerGrad_helds (g : LayerGrad) : (s.setLayerGrad g).helds = s.helds := rfl
@[simp] theorem setLayerGrad_lates (g : LayerGrad) : (s.setLayerGrad g).lates = s.lates := rfl
@[simp] theorem setLayerGrad_lateOuts (g : LayerGrad) : (s.setLayerGrad g).lateOuts = s.lateOuts := rfl
@[simp] theorem setLayerGrad_lateTiles (g : LayerGrad) : (s.setLayerGrad g).lateTiles = s.lateTiles := rfl
@[simp] theorem setLayerGrad_losts (g : LayerGrad) : (s.setLayerGrad g).losts = s.losts := rfl
@[simp] theorem setLayerGrad_refusedTiles (g : LayerGrad) : (s.setLayerGrad g).refusedTiles = s.refusedTiles := rfl
@[simp] theorem setLayerGrad_fwdRets (g : LayerGrad) : (s.setLayerGrad g).fwdRets = s.fwdRets := rfl
@[simp] theorem setLayerGrad_expects (g : LayerGrad) : (s.setLayerGrad g).expects = s.expects := rfl
@[simp] theorem setLayerGrad_rels (g : LayerGrad) : (s.setLayerGrad g).rels = s.rels := rfl
@[simp] theorem setLayerGrad_series (g : LayerGrad) : (s.setLayerGrad g).series = s.series := rfl
@[simp] theorem setLayerGrad_partials (g : LayerGrad) : (s.setLayerGrad g).partials = s.partials := rfl
@[simp] theorem setLayerGrad_combs (g : LayerGrad) : (s.setLayerGrad g).combs = s.combs := rfl
@[simp] theorem setLayerGrad_grads (g : LayerGrad) : (s.setLayerGrad g).grads = s.grads := rfl
@[simp] theorem get_setLayerGrad (g : LayerGrad) (n : Nat) : (s.setLayerGrad g).get n = s.get n := rfl
@[simp] theorem domBytes_setLayerGrad (g : LayerGrad) (n o m : Nat) : (s.setLayerGrad g).domBytes n o m = s.domBytes n o m := rfl
@[simp] theorem ctx_setLayerGrad (g : LayerGrad) (n : Nat) : (s.setLayerGrad g).ctx n = s.ctx n := rfl
@[simp] theorem pool_setLayerGrad (g : LayerGrad) (n : Nat) : (s.setLayerGrad g).pool n = s.pool n := rfl
@[simp] theorem queue_setLayerGrad (g : LayerGrad) (n : Nat) : (s.setLayerGrad g).queue n = s.queue n := rfl
@[simp] theorem port_setLayerGrad (g : LayerGrad) (n : Nat) : (s.setLayerGrad g).port n = s.port n := rfl
@[simp] theorem tport_setLayerGrad (g : LayerGrad) (tr : Transport) : (s.setLayerGrad g).tport tr = s.tport tr := by cases tr <;> rfl
@[simp] theorem piece_setLayerGrad (g : LayerGrad) (n : PieceKey) : (s.setLayerGrad g).piece n = s.piece n := rfl

@[simp] theorem setTport_pending (tr : Transport) (p : Port) : (s.setTport tr p).pending = s.pending := by cases tr <;> rfl
@[simp] theorem setTport_phase (tr : Transport) (p : Port) : (s.setTport tr p).phase = s.phase := by cases tr <;> rfl
@[simp] theorem setTport_clockStopped (tr : Transport) (p : Port) : (s.setTport tr p).clockStopped = s.clockStopped := by cases tr <;> rfl
@[simp] theorem setTport_build (tr : Transport) (p : Port) : (s.setTport tr p).build = s.build := by cases tr <;> rfl
@[simp] theorem setTport_env (tr : Transport) (p : Port) : (s.setTport tr p).env = s.env := by cases tr <;> rfl
@[simp] theorem setTport_regs (tr : Transport) (p : Port) : (s.setTport tr p).regs = s.regs := by cases tr <;> rfl
@[simp] theorem setTport_dom (tr : Transport) (p : Port) : (s.setTport tr p).dom = s.dom := by cases tr <;> rfl
@[simp] theorem setTport_view (tr : Transport) (p : Port) : (s.setTport tr p).view = s.view := by cases tr <;> rfl
@[simp] theorem setTport_viewDom (tr : Transport) (p : Port) : (s.setTport tr p).viewDom = s.viewDom := by cases tr <;> rfl
@[simp] theorem setTport_stg (tr : Transport) (p : Port) : (s.setTport tr p).stg = s.stg := by cases tr <;> rfl
@[simp] theorem setTport_qstore (tr : Transport) (p : Port) : (s.setTport tr p).qstore = s.qstore := by cases tr <;> rfl
@[simp] theorem setTport_free (tr : Transport) (p : Port) : (s.setTport tr p).free = s.free := by cases tr <;> rfl
@[simp] theorem setTport_outbox (tr : Transport) (p : Port) : (s.setTport tr p).outbox = s.outbox := by cases tr <;> rfl
@[simp] theorem setTport_time (tr : Transport) (p : Port) : (s.setTport tr p).time = s.time := by cases tr <;> rfl
@[simp] theorem setTport_rates (tr : Transport) (p : Port) : (s.setTport tr p).rates = s.rates := by cases tr <;> rfl
@[simp] theorem setTport_ports (tr : Transport) (p : Port) : (s.setTport tr p).ports = s.ports := by cases tr <;> rfl
@[simp] theorem setTport_tpUp (tr : Transport) (p : Port) : (s.setTport tr p).tpUp = s.tpUp := by cases tr <;> rfl
@[simp] theorem setTport_tileTx (tr : Transport) (p : Port) : (s.setTport tr p).tileTx = s.tileTx := by cases tr <;> rfl
@[simp] theorem setTport_ctlWait (tr : Transport) (p : Port) : (s.setTport tr p).ctlWait = s.ctlWait := by cases tr <;> rfl
@[simp] theorem setTport_seen (tr : Transport) (p : Port) : (s.setTport tr p).seen = s.seen := by cases tr <;> rfl
@[simp] theorem setTport_noticeTx (tr : Transport) (p : Port) : (s.setTport tr p).noticeTx = s.noticeTx := by cases tr <;> rfl
@[simp] theorem setTport_targets (tr : Transport) (p : Port) : (s.setTport tr p).targets = s.targets := by cases tr <;> rfl
@[simp] theorem setTport_ctxs (tr : Transport) (p : Port) : (s.setTport tr p).ctxs = s.ctxs := by cases tr <;> rfl
@[simp] theorem setTport_issuedCmds (tr : Transport) (p : Port) : (s.setTport tr p).issuedCmds = s.issuedCmds := by cases tr <;> rfl
@[simp] theorem setTport_loads (tr : Transport) (p : Port) : (s.setTport tr p).loads = s.loads := by cases tr <;> rfl
@[simp] theorem setTport_win (tr : Transport) (p : Port) : (s.setTport tr p).win = s.win := by cases tr <;> rfl
@[simp] theorem setTport_field (tr : Transport) (p : Port) : (s.setTport tr p).field = s.field := by cases tr <;> rfl
@[simp] theorem setTport_obs (tr : Transport) (p : Port) : (s.setTport tr p).obs = s.obs := by cases tr <;> rfl
@[simp] theorem setTport_meter (tr : Transport) (p : Port) : (s.setTport tr p).meter = s.meter := by cases tr <;> rfl
@[simp] theorem setTport_dru (tr : Transport) (p : Port) : (s.setTport tr p).dru = s.dru := by cases tr <;> rfl
@[simp] theorem setTport_audits (tr : Transport) (p : Port) : (s.setTport tr p).audits = s.audits := by cases tr <;> rfl
@[simp] theorem setTport_pools (tr : Transport) (p : Port) : (s.setTport tr p).pools = s.pools := by cases tr <;> rfl
@[simp] theorem setTport_queues (tr : Transport) (p : Port) : (s.setTport tr p).queues = s.queues := by cases tr <;> rfl
@[simp] theorem setTport_press (tr : Transport) (p : Port) : (s.setTport tr p).press = s.press := by cases tr <;> rfl
@[simp] theorem setTport_sfu (tr : Transport) (p : Port) : (s.setTport tr p).sfu = s.sfu := by cases tr <;> rfl
@[simp] theorem setTport_ptCheck (tr : Transport) (p : Port) : (s.setTport tr p).ptCheck = s.ptCheck := by cases tr <;> rfl
@[simp] theorem setTport_swaps (tr : Transport) (p : Port) : (s.setTport tr p).swaps = s.swaps := by cases tr <;> rfl
@[simp] theorem setTport_sfuCheck (tr : Transport) (p : Port) : (s.setTport tr p).sfuCheck = s.sfuCheck := by cases tr <;> rfl
@[simp] theorem setTport_cle (tr : Transport) (p : Port) : (s.setTport tr p).cle = s.cle := by cases tr <;> rfl
@[simp] theorem setTport_fep (tr : Transport) (p : Port) : (s.setTport tr p).fep = s.fep := by cases tr <;> rfl
@[simp] theorem setTport_cvu (tr : Transport) (p : Port) : (s.setTport tr p).cvu = s.cvu := by cases tr <;> rfl
@[simp] theorem setTport_wins (tr : Transport) (p : Port) : (s.setTport tr p).wins = s.wins := by cases tr <;> rfl
@[simp] theorem setTport_selins (tr : Transport) (p : Port) : (s.setTport tr p).selins = s.selins := by cases tr <;> rfl
@[simp] theorem setTport_stats (tr : Transport) (p : Port) : (s.setTport tr p).stats = s.stats := by cases tr <;> rfl
@[simp] theorem setTport_streams (tr : Transport) (p : Port) : (s.setTport tr p).streams = s.streams := by cases tr <;> rfl
@[simp] theorem setTport_pieces (tr : Transport) (p : Port) : (s.setTport tr p).pieces = s.pieces := by cases tr <;> rfl
@[simp] theorem setTport_rets (tr : Transport) (p : Port) : (s.setTport tr p).rets = s.rets := by cases tr <;> rfl
@[simp] theorem setTport_helds (tr : Transport) (p : Port) : (s.setTport tr p).helds = s.helds := by cases tr <;> rfl
@[simp] theorem setTport_lates (tr : Transport) (p : Port) : (s.setTport tr p).lates = s.lates := by cases tr <;> rfl
@[simp] theorem setTport_lateOuts (tr : Transport) (p : Port) : (s.setTport tr p).lateOuts = s.lateOuts := by cases tr <;> rfl
@[simp] theorem setTport_lateTiles (tr : Transport) (p : Port) : (s.setTport tr p).lateTiles = s.lateTiles := by cases tr <;> rfl
@[simp] theorem setTport_losts (tr : Transport) (p : Port) : (s.setTport tr p).losts = s.losts := by cases tr <;> rfl
@[simp] theorem setTport_refusedTiles (tr : Transport) (p : Port) : (s.setTport tr p).refusedTiles = s.refusedTiles := by cases tr <;> rfl
@[simp] theorem setTport_fwdRets (tr : Transport) (p : Port) : (s.setTport tr p).fwdRets = s.fwdRets := by cases tr <;> rfl
@[simp] theorem setTport_expects (tr : Transport) (p : Port) : (s.setTport tr p).expects = s.expects := by cases tr <;> rfl
@[simp] theorem setTport_rels (tr : Transport) (p : Port) : (s.setTport tr p).rels = s.rels := by cases tr <;> rfl
@[simp] theorem setTport_series (tr : Transport) (p : Port) : (s.setTport tr p).series = s.series := by cases tr <;> rfl
@[simp] theorem setTport_partials (tr : Transport) (p : Port) : (s.setTport tr p).partials = s.partials := by cases tr <;> rfl
@[simp] theorem setTport_combs (tr : Transport) (p : Port) : (s.setTport tr p).combs = s.combs := by cases tr <;> rfl
@[simp] theorem setTport_grads (tr : Transport) (p : Port) : (s.setTport tr p).grads = s.grads := by cases tr <;> rfl
@[simp] theorem setTport_layerGrads (tr : Transport) (p : Port) : (s.setTport tr p).layerGrads = s.layerGrads := by cases tr <;> rfl
@[simp] theorem get_setTport (tr : Transport) (p : Port) (n : Nat) : (s.setTport tr p).get n = s.get n := by cases tr <;> rfl
@[simp] theorem domBytes_setTport (tr : Transport) (p : Port) (n u m : Nat) : (s.setTport tr p).domBytes n u m = s.domBytes n u m := by cases tr <;> rfl
@[simp] theorem ctx_setTport (tr : Transport) (p : Port) (n : Nat) : (s.setTport tr p).ctx n = s.ctx n := by cases tr <;> rfl
@[simp] theorem pool_setTport (tr : Transport) (p : Port) (n : Nat) : (s.setTport tr p).pool n = s.pool n := by cases tr <;> rfl
@[simp] theorem queue_setTport (tr : Transport) (p : Port) (n : Nat) : (s.setTport tr p).queue n = s.queue n := by cases tr <;> rfl
@[simp] theorem port_setTport (tr : Transport) (p : Port) (n : Nat) : (s.setTport tr p).port n = s.port n := by cases tr <;> rfl
@[simp] theorem piece_setTport (tr : Transport) (p : Port) (n : PieceKey) : (s.setTport tr p).piece n = s.piece n := by cases tr <;> rfl
@[simp] theorem tport_setTport (tr : Transport) (p : Port) : (s.setTport tr p).tport tr = p := by cases tr <;> rfl

/-- A member of a list after one of it is replaced. -/
theorem nth_setAt {α : Type} (l : List α) (i j : Nat) (v d : α) :
    nth (setAt l i v) j d = if i = j ∧ i < l.length then v else nth l j d := by
  unfold nth setAt
  rw [List.getElem?_set]
  by_cases h : i = j
  · by_cases h2 : i < l.length
    · simp [h, h2, h ▸ h2]
    · have : ¬ j < l.length := h ▸ h2
      simp [h, this]
  · simp [h]

/-- A replaced member read back. -/
theorem nth_setAt_self {α : Type} {l : List α} {i : Nat} (v d : α) (h : i < l.length) : nth (setAt l i v) i d = v := by
  rw [nth_setAt, if_pos ⟨rfl, h⟩]

/-- Another member is as it was. -/
theorem nth_setAt_ne {α : Type} (l : List α) {i j : Nat} (v d : α) (h : i ≠ j) : nth (setAt l i v) j d = nth l j d := by
  rw [nth_setAt, if_neg (fun c => h c.1)]

theorem pool_setPool_self {s : State} {c : Nat} (p : PoolClass) (h : c < s.pools.length) : (s.setPool c p).pool c = p :=
  nth_setAt_self p {} h
theorem pool_setPool_ne (s : State) {c d : Nat} (p : PoolClass) (h : c ≠ d) : (s.setPool c p).pool d = s.pool d :=
  nth_setAt_ne s.pools p {} h
theorem ctx_setCtx_self {s : State} {c : Nat} (x : Ctx) (h : c < s.ctxs.length) : (s.setCtx c x).ctx c = x :=
  nth_setAt_self x {} h
theorem ctx_setCtx_ne (s : State) {c d : Nat} (x : Ctx) (h : c ≠ d) : (s.setCtx c x).ctx d = s.ctx d :=
  nth_setAt_ne s.ctxs x {} h
theorem port_setPort_self {s : State} {p : Nat} (x : LinkPort) (h : p < s.ports.length) : (s.setPort p x).port p = x :=
  nth_setAt_self x {} h
theorem port_setPort_ne (s : State) {p q : Nat} (x : LinkPort) (h : p ≠ q) : (s.setPort p x).port q = s.port q :=
  nth_setAt_ne s.ports x {} h
@[simp] theorem queue_setQueue_self (s : State) (q : Nat) (x : Queue) : (s.setQueue q x).queue q = x := by
  unfold State.queue State.setQueue
  rw [get?_put, if_pos rfl]
  rfl
theorem queue_setQueue_ne (s : State) {q r : Nat} (x : Queue) (h : q ≠ r) : (s.setQueue q x).queue r = s.queue r := by
  unfold State.queue State.setQueue
  rw [get?_put, if_neg h]
@[simp] theorem get_count (s : State) (k n j : Nat) : (s.count k n).get j = (s.put k (satAdd max32 (s.get k) n)).get j := rfl
@[simp] theorem get_count64 (s : State) (k n j : Nat) : (s.count64 k n).get j = (s.put k (s.get k + n)).get j := rfl

end Sys2Proof.Machine
end

