-- ==== Sys2Proof/Laws/Frames.lean ====
section
/-! SUPPORT. What the shared operations leave as it is: counters, interrupts, the logs and the packet queues touch nothing of the
units, and a command that finds no event to log leaves memory. -/

namespace Sys2Proof.Machine

open Sys2Proof

/-- A state without the parts that counting, logging, interrupts and packet queues touch. -/
def State.still (s : State) : State :=
  { s with regs := [], dom := [], env := {}, qstore := [], queues := [], field := {}, obs := {}, dru := {} }

theorem foldl_still {α : Type} {f : State → α → State} (l : List α) {s : State} (hf : ∀ s a, (f s a).still = s.still) :
    (l.foldl f s).still = s.still := by
  induction l generalizing s with
  | nil => rfl
  | cons a t ih =>
    rw [List.foldl_cons, ih, hf]

theorem ite_still {c : Prop} [Decidable c] {a b s : State} (ha : a.still = s.still) (hb : b.still = s.still) :
    (if c then a else b).still = s.still := by
  by_cases h : c
  · rwa [if_pos h]
  · rwa [if_neg h]

theorem put_still (s : State) (k v : Nat) : (s.put k v).still = s.still := rfl
theorem count_still (s : State) (k n : Nat) : (s.count k n).still = s.still := rfl
theorem count64_still (s : State) (k n : Nat) : (s.count64 k n).still = s.still := rfl
theorem domPut_still (s : State) (k o : Nat) (bs : Bytes) : (s.domPut k o bs).still = s.still := rfl
theorem hostWrite_still (s : State) (p a : Nat) (bs : Bytes) : (s.hostWrite p a bs).still = s.still := rfl
theorem setQueue_still (s : State) (q : Nat) (x : Queue) : (s.setQueue q x).still = s.still := rfl

theorem bankTouch_still (w c : Bool) (n : Nat) : ∀ (l : Nat) (s : State), (bankTouch w c n l s).still = s.still := by
  induction n with
  | zero => intro l s; rfl
  | succ n ih =>
    intro l s
    unfold bankTouch
    rw [ih]
    cases c <;> rfl

theorem field_still (s : State) (f : Can) : ({ s with field := f } : State).still = s.still := rfl

theorem syncInts_still (s : State) : s.syncInts.still = s.still := by
  unfold State.syncInts
  with_reducible apply foldl_still
  intro s a
  dsimp only
  with_reducible apply ite_still
  · with_reducible apply ite_still
    · with_reducible rfl
    · with_reducible exact field_still s _
  · with_reducible exact field_still s _

theorem setCause_still (s : State) (l b : Nat) : (s.setCause l b).still = s.still := by
  unfold State.setCause
  rw [syncInts_still, put_still]

theorem ringPut_still {s t : State} {p b l hd tl : Nat} {bs : Bytes} (e : ringPut s p b l hd tl bs = some t) : t.still = s.still := by
  unfold ringPut at e
  dsimp only at e
  split at e
  · cases e
  · cases e
    rfl

theorem logRing_still (s : State) (p b l hd tl k : Nat) (x : Loss) (e : Bytes) :
    (logRing s p b l hd tl k x e).1.still = s.still := by
  unfold logRing
  dsimp only
  split
  · split
    · rename_i h
      exact ringPut_still h
    · exact count_still ..
  · split
    · exact count_still ..
    · rename_i h
      split
      · rename_i h2
        exact (ringPut_still h2).trans (ringPut_still h)
      · exact (count_still _ _ _).trans (ringPut_still h)

theorem dru_still (s : State) (d : Dru) : ({ s with dru := d } : State).still = s.still := rfl
theorem obs_still (s : State) (o : Obs) : ({ s with obs := o } : State).still = s.still := rfl

theorem rpl_still (s : State) (k : Nat) (c : Option Nat) (a : Nat) (b : Bool) (x y : Nat) : (s.rpl k c a b x y).still = s.still := by
  unfold State.rpl
  with_reducible apply ite_still
  · exact (dru_still _ _).trans (ite_still rfl (count_still ..))
  · with_reducible rfl

theorem trace_still (s : State) (k : Nat) (c : Option Nat) (a : Nat) (p : Option Nat) (x y : Nat) :
    (s.trace k c a p x y).still = s.still := by
  unfold State.trace
  dsimp only
  with_reducible apply ite_still
  · exact (obs_still _ _).trans (ite_still rfl (count_still ..))
  · with_reducible rfl

theorem evCount_still (s : State) (e : Ev) : (s.evCount e).still = s.still := by
  unfold State.evCount
  dsimp only
  with_reducible apply ite_still
  · with_reducible exact (setCause_still ..).trans (domPut_still ..)
  · with_reducible exact domPut_still ..

theorem logOne_still (s : State) (e : Ev) : (s.logOne e).still = s.still := by
  unfold State.logOne
  dsimp only
  rw [trace_still, rpl_still, evCount_still, put_still, domPut_still]
  with_reducible apply ite_still
  · with_reducible exact domPut_still ..
  · with_reducible rfl

theorem loseOne_still (s : State) (e : Ev) : (s.loseOne e).still = s.still := by
  unfold State.loseOne
  rw [evCount_still, count_still]

theorem logEvs_still (s : State) (es : List Ev) : (s.logEvs es).still = s.still := by
  unfold State.logEvs
  dsimp only
  rw [foldl_still _ loseOne_still, foldl_still _ logOne_still]

theorem log_still (s : State) (e : Ev) : (s.log e).still = s.still := logEvs_still s [e]

theorem pqWrite_still (s : State) (q p : Nat) (ws : List Bytes) : (s.pqWrite q p ws).still = s.still := by
  unfold State.pqWrite
  with_reducible apply foldl_still
  intro s a
  rfl

theorem pqCompare_still (s : State) (q : Nat) : (s.pqCompare q).still = s.still := by
  unfold State.pqCompare
  dsimp only
  with_reducible apply ite_still
  · with_reducible apply ite_still
    · with_reducible rfl
    · rw [syncInts_still, domPut_still, setQueue_still]
  · with_reducible apply ite_still
    · with_reducible exact setQueue_still ..
    · with_reducible rfl

theorem pqDrop_still (s : State) (q c : Nat) : (s.pqDrop q c).still = s.still := rfl

theorem fst_ite_still {α : Type} {c : Prop} [Decidable c] {a b : State × α} {s : State} (ha : a.1.still = s.still)
    (hb : b.1.still = s.still) : (if c then a else b).1.still = s.still := by
  by_cases h : c
  · rwa [if_pos h]
  · rwa [if_neg h]

theorem pqOffer_still (s : State) (q c : Nat) (ws : List Bytes) : (s.pqOffer q c ws).1.still = s.still := by
  unfold State.pqOffer
  dsimp only
  have hr : ∀ e, ((s.log e).pqDrop q c).still = s.still := fun e => by rw [pqDrop_still, log_still]
  have ha : ∀ y, ((s.pqWrite q (s.queue q).write ws).setQueue q y).still = s.still := fun y => by rw [setQueue_still, pqWrite_still]
  with_reducible apply fst_ite_still (hr _)
  with_reducible apply fst_ite_still (hr _)
  with_reducible apply fst_ite_still rfl
  with_reducible apply fst_ite_still
  · with_reducible apply fst_ite_still rfl
    exact ha _
  · with_reducible apply fst_ite_still (ha _)
    rfl

theorem pqCommit_still (s : State) (q : Nat) : (s.pqCommit q).still = s.still := by
  unfold State.pqCommit
  dsimp only
  split
  · rw [pqCompare_still, setQueue_still]
  · with_reducible rfl

theorem post_still (s : State) (q u c : Nat) (ws : List Bytes) : (s.post q u c ws).still = s.still := by
  unfold State.post
  dsimp only
  with_reducible apply ite_still
  · split
    · rename_i h
      rw [pqCommit_still, ← pqOffer_still s q c ws, h]
    · rename_i h
      refine Eq.trans (setQueue_still ..) ?_
      rw [← pqOffer_still s q c ws, h]
  · exact setQueue_still ..

theorem postWord_still (s : State) (q k x c a : Nat) (b : Bytes) (u : Nat) : (s.postWord q k x c a b u).still = s.still := post_still ..

theorem scanNotice_still (s : State) (d a r : Nat) : (s.scanNotice d a r).still = s.still := by
  unfold State.scanNotice
  with_reducible apply ite_still
  · exact postWord_still ..
  · with_reducible rfl

/-- With neither the log nor the trace running, a record changes nothing. -/
theorem rpl_quiet {s : State} (h : quiet s = true) (k : Nat) (c : Option Nat) (a : Nat) (b : Bool) (x y : Nat) :
    s.rpl k c a b x y = s := by
  simp only [quiet, Bool.and_eq_true, bne_iff_ne] at h
  unfold State.rpl
  rw [if_neg h.1]

theorem trace_quiet {s : State} (h : quiet s = true) (k : Nat) (c : Option Nat) (a : Nat) (p : Option Nat) (x y : Nat) :
    s.trace k c a p x y = s := by
  simp only [quiet, Bool.and_eq_true, bne_iff_ne] at h
  unfold State.trace
  have h2 : s.obs.tracing = false := by simpa using h.2
  simp [h2]

/-- A command of the Sequencer's own issues without a record while the trace does not run. -/
theorem issued_quiet {s : State} (h : quiet s = true) (k : Nat) (c : Option Nat) : s.issued k c = s := trace_quiet h ..

/-- A command of a frame program that issues is marked in it, and leaves nothing else while the trace does not run. -/
theorem issueAt_quiet {s : State} (h : quiet s = true) (c : Nat) (p : Option Nat) (m : Nat × Nat) :
    s.issueAt c p m = { s with issuedCmds := s.issuedCmds ++ [(c, m.1)] } := by
  unfold State.issueAt
  exact trace_quiet (s := { s with issuedCmds := s.issuedCmds ++ [(c, m.1)] }) h ..

/-- A command that may issue: its mark. -/
theorem issue_quiet {s : State} (h : quiet s = true) {c k f : Nat} (p : Option Nat) (hm : s.mayIssue c k f = true) :
    ∃ m, s.issue c k f p = { s with issuedCmds := s.issuedCmds ++ [(c, m)] } := by
  obtain ⟨m, e⟩ := Option.isSome_iff_exists.1 hm
  refine ⟨m.1, ?_⟩
  unfold State.issue
  rw [e]
  exact issueAt_quiet h c p m

end Sys2Proof.Machine
end

