-- ==== Sys2Proof/Laws/Good.lean ====
section
/-! SUPPORT. What every operation of the engine keeps: the build, the queue of commands, and the canonical form of the stores.
This file has the leaves, Laws/GoodOps.lean one lemma per operation. -/

namespace Sys2Proof.Machine

open Sys2Proof

/-- What a command leaves as it is: the build and the queue (R2, R393). -/
abbrev Fixed := Build × List Instr

/-- A transfer buffer in canonical form. -/
def bufOk (b : List (Nat × Byte)) : Bool := Sparse.canonical (fun _ => 0) b

/-- `Good` over the fields it reads. -/
def Core (r : Fixed) (b : Build) (q : List Instr) (c : Bool) (regs : List (Nat × U64)) (dom : List (Nat × Byte))
    (stg qs mem : List (Nat × Byte)) (np nt nc nk nf : Nat)
    (b1 b2 b3 b4 : List (Nat × Byte)) : Prop :=
  b = r.1 ∧ q = r.2 ∧ Sparse.rising mem = true ∧
    (c = true ∨ (Sparse.canonical regDefault regs = true ∧ Sparse.canonical domDefault dom = true ∧
      Sparse.rising stg = true ∧ Sparse.rising qs = true)) ∧
    (np = 48 ∧ nt = 16) ∧ (c = true ∨ (nc = 8 ∧ nk = 5 ∧ nf = 48)) ∧
    (c = true ∨ (bufOk b1 = true ∧ bufOk b2 = true ∧ bufOk b3 = true ∧ bufOk b4 = true))

/-- A state whose build and queue are `r`'s and whose stores are in canonical form. -/
def Good (r : Fixed) (s : State) : Prop :=
  Core r s.build s.pending s.clockStopped s.regs s.dom s.stg s.qstore s.env.mem s.ports.length s.tpUp.length s.ctxs.length s.pools.length s.fep.ports.length s.cp.rbuf s.cp.wbuf s.can.rbuf s.can.wbuf

theorem good_mk {r : Fixed} {pe ph cs bu en re do_ vi vd st qs fr ou ti ra po tp tt cw se no ta ct ic lo cp ca wi fi ob me dr au pl qu pr sf pc sw sc cl fe cv ws si sa sm pi rt he la lt ll ls rf fw ex rl sr pa cb gr lg} :
    Good r (State.mk pe ph cs bu en re do_ vi vd st qs fr ou ti ra po tp tt cw se no ta ct ic lo cp ca wi fi ob me dr au pl qu pr sf pc sw sc cl fe cv ws si sa sm pi rt he la lt ll ls rf fw ex rl sr pa cb gr lg) =
    Core r bu pe cs re do_ st qs en.mem po.length tp.length ct.length pl.length fe.ports.length cp.rbuf cp.wbuf ca.rbuf ca.wbuf := rfl
theorem good_core {r : Fixed} {s : State} : Core r s.build s.pending s.clockStopped s.regs s.dom s.stg s.qstore s.env.mem s.ports.length s.tpUp.length s.ctxs.length s.pools.length s.fep.ports.length s.cp.rbuf s.cp.wbuf s.can.rbuf s.can.wbuf = Good r s := rfl

theorem setAt_length {α : Type} (l : List α) (i : Nat) (v : α) : (setAt l i v).length = l.length := List.length_set
theorem portLost_ports (f : Fep) (p : Nat) : (f.portLost p).ports.length = f.ports.length := by
  unfold Fep.portLost
  simp only [List.length_map, setAt_length]
theorem emptied_ports (f : Fep) : f.emptied.ports.length = f.ports.length := by
  unfold Fep.emptied
  simp only [List.length_map, List.length_range]
theorem core_buf1 {r : Fixed} {b q c regs dom stg qs mem np nt nc nk nf b1 b2 b3 b4 o x} (h : Core r b q c regs dom stg qs mem np nt nc nk nf b1 b2 b3 b4) :
    Core r b q c regs dom stg qs mem np nt nc nk nf (bufPut b1 o x) b2 b3 b4 :=
  ⟨h.1, h.2.1, h.2.2.1, h.2.2.2.1, h.2.2.2.2.1, h.2.2.2.2.2.1, h.2.2.2.2.2.2.imp id (fun y => ⟨writeDflt_canonical _ _ _ _ y.1, y.2.1, y.2.2.1, y.2.2.2⟩)⟩
theorem core_buf2 {r : Fixed} {b q c regs dom stg qs mem np nt nc nk nf b1 b2 b3 b4 o x} (h : Core r b q c regs dom stg qs mem np nt nc nk nf b1 b2 b3 b4) :
    Core r b q c regs dom stg qs mem np nt nc nk nf b1 (bufPut b2 o x) b3 b4 :=
  ⟨h.1, h.2.1, h.2.2.1, h.2.2.2.1, h.2.2.2.2.1, h.2.2.2.2.2.1, h.2.2.2.2.2.2.imp id (fun y => ⟨y.1, writeDflt_canonical _ _ _ _ y.2.1, y.2.2.1, y.2.2.2⟩)⟩
theorem core_buf3 {r : Fixed} {b q c regs dom stg qs mem np nt nc nk nf b1 b2 b3 b4 o x} (h : Core r b q c regs dom stg qs mem np nt nc nk nf b1 b2 b3 b4) :
    Core r b q c regs dom stg qs mem np nt nc nk nf b1 b2 (bufPut b3 o x) b4 :=
  ⟨h.1, h.2.1, h.2.2.1, h.2.2.2.1, h.2.2.2.2.1, h.2.2.2.2.2.1, h.2.2.2.2.2.2.imp id (fun y => ⟨y.1, y.2.1, writeDflt_canonical _ _ _ _ y.2.2.1, y.2.2.2⟩)⟩
theorem core_buf4 {r : Fixed} {b q c regs dom stg qs mem np nt nc nk nf b1 b2 b3 b4 o x} (h : Core r b q c regs dom stg qs mem np nt nc nk nf b1 b2 b3 b4) :
    Core r b q c regs dom stg qs mem np nt nc nk nf b1 b2 b3 (bufPut b4 o x) :=
  ⟨h.1, h.2.1, h.2.2.1, h.2.2.2.1, h.2.2.2.2.1, h.2.2.2.2.2.1, h.2.2.2.2.2.2.imp id (fun y => ⟨y.1, y.2.1, y.2.2.1, writeDflt_canonical _ _ _ _ y.2.2.2⟩)⟩
theorem core_nobuf {r : Fixed} {b q c regs dom stg qs mem np nt nc nk nf b1 b2 b3 b4} (h : Core r b q c regs dom stg qs mem np nt nc nk nf b1 b2 b3 b4) :
    Core r b q c regs dom stg qs mem np nt nc nk nf [] [] [] [] :=
  ⟨h.1, h.2.1, h.2.2.1, h.2.2.2.1, h.2.2.2.2.1, h.2.2.2.2.2.1, .inr ⟨rfl, rfl, rfl, rfl⟩⟩
theorem core_pools {r : Fixed} {b q c regs dom stg qs mem np nt nc nk nf b1 b2 b3 b4} (h : Core r b q c regs dom stg qs mem np nt nc nk nf b1 b2 b3 b4) :
    Core r b q c regs dom stg qs mem np nt nc 5 nf b1 b2 b3 b4 :=
  ⟨h.1, h.2.1, h.2.2.1, h.2.2.2.1, h.2.2.2.2.1, h.2.2.2.2.2.1.imp id (fun x => ⟨x.1, rfl, x.2.2⟩), h.2.2.2.2.2.2⟩
theorem core_ctxs {r : Fixed} {b q c regs dom stg qs mem np nt nc nk nf b1 b2 b3 b4} (h : Core r b q c regs dom stg qs mem np nt nc nk nf b1 b2 b3 b4) :
    Core r b q c regs dom stg qs mem np nt 8 nk nf b1 b2 b3 b4 :=
  ⟨h.1, h.2.1, h.2.2.1, h.2.2.2.1, h.2.2.2.2.1, h.2.2.2.2.2.1.imp id (fun x => ⟨rfl, x.2⟩), h.2.2.2.2.2.2⟩

theorem ite_good {r : Fixed} {c : Prop} [Decidable c] {a b : State} (ha : c → Good r a) (hb : ¬ c → Good r b) :
    Good r (if c then a else b) := by
  by_cases h : c
  · rw [if_pos h]
    exact ha h
  · rw [if_neg h]
    exact hb h

theorem foldl_good {α : Type} {r : Fixed} {f : State → α → State} (l : List α) {s : State}
    (hs : Good r s) (hf : ∀ s a, Good r s → Good r (f s a)) : Good r (l.foldl f s) := by
  induction l generalizing s with
  | nil => exact hs
  | cons a t ih => exact ih (hf s a hs)

theorem put_good {r : Fixed} {s : State} {k v : Nat} (h : Good r s) : Good r (s.put k v) :=
  ⟨h.1, h.2.1, h.2.2.1, h.2.2.2.1.imp id (fun x => ⟨set_canonical _ _ _ _ x.1, x.2⟩), h.2.2.2.2⟩
theorem domPut_good {r : Fixed} {s : State} {k o : Nat} {bs : Bytes} (h : Good r s) : Good r (s.domPut k o bs) :=
  ⟨h.1, h.2.1, h.2.2.1, h.2.2.2.1.imp id (fun x => ⟨x.1, writeDflt_canonical _ _ _ _ x.2.1, x.2.2⟩), h.2.2.2.2⟩

theorem core_mem {r : Fixed} {b q c regs dom stg qs mem np nt nc nk nf b1 b2 b3 b4 a bs} (h : Core r b q c regs dom stg qs mem np nt nc nk nf b1 b2 b3 b4) :
    Core r b q c regs dom stg qs (Mem.write mem a bs) np nt nc nk nf b1 b2 b3 b4 := ⟨h.1, h.2.1, write_rising _ _ _ h.2.2.1, h.2.2.2⟩
theorem core_stg {r : Fixed} {b q c regs dom stg qs mem np nt nc nk nf b1 b2 b3 b4 a bs} (h : Core r b q c regs dom stg qs mem np nt nc nk nf b1 b2 b3 b4) :
    Core r b q c regs dom (Mem.write stg a bs) qs mem np nt nc nk nf b1 b2 b3 b4 :=
  ⟨h.1, h.2.1, h.2.2.1, h.2.2.2.1.imp id (fun x => ⟨x.1, x.2.1, write_rising _ _ _ x.2.2.1, x.2.2.2⟩), h.2.2.2.2⟩
theorem core_qs {r : Fixed} {b q c regs dom stg qs mem np nt nc nk nf b1 b2 b3 b4 a bs} (h : Core r b q c regs dom stg qs mem np nt nc nk nf b1 b2 b3 b4) :
    Core r b q c regs dom stg (Mem.write qs a bs) mem np nt nc nk nf b1 b2 b3 b4 :=
  ⟨h.1, h.2.1, h.2.2.1, h.2.2.2.1.imp id (fun x => ⟨x.1, x.2.1, x.2.2.1, write_rising _ _ _ x.2.2.2⟩), h.2.2.2.2⟩
theorem core_regs {r : Fixed} {b q c regs dom stg qs mem np nt nc nk nf b1 b2 b3 b4 p} (h : Core r b q c regs dom stg qs mem np nt nc nk nf b1 b2 b3 b4) :
    Core r b q c (regs.filter p) dom stg qs mem np nt nc nk nf b1 b2 b3 b4 :=
  ⟨h.1, h.2.1, h.2.2.1, h.2.2.2.1.imp id (fun x => ⟨filter_canonical _ _ x.1, x.2⟩), h.2.2.2.2⟩
theorem core_dom {r : Fixed} {b q c regs dom stg qs mem np nt nc nk nf b1 b2 b3 b4 p} (h : Core r b q c regs dom stg qs mem np nt nc nk nf b1 b2 b3 b4) :
    Core r b q c regs (dom.filter p) stg qs mem np nt nc nk nf b1 b2 b3 b4 :=
  ⟨h.1, h.2.1, h.2.2.1, h.2.2.2.1.imp id (fun x => ⟨x.1, filter_canonical _ _ x.2.1, x.2.2⟩), h.2.2.2.2⟩
theorem count64_good {r : Fixed} {s : State} {k n : Nat} (h : Good r s) : Good r (s.count64 k n) := by
  unfold State.count64
  with_reducible exact put_good h
theorem bankTouch_good {r : Fixed} {w c : Bool} {n : Nat} : ∀ {l : Nat} {s : State}, Good r s → Good r (bankTouch w c n l s) := by
  induction n with
  | zero => intro l s h; exact h
  | succ n ih =>
    intro l s h
    unfold bankTouch
    with_reducible apply ih
    with_reducible apply ite_good
    · intro _
      simp only [good_mk, good_core]
      with_reducible exact count64_good h
    · intro _
      with_reducible exact count64_good h
theorem ringPut_good {r : Fixed} {s t : State} {p b l hd tl : Nat} {bs : Bytes} (h : Good r s) (e : ringPut s p b l hd tl bs = some t) :
    Good r t := by
  unfold ringPut State.hostWrite at e
  simp only [] at e
  split at e
  · cases e
  · cases e
    with_reducible apply put_good
    simp only [good_mk]
    with_reducible apply core_mem
    simp only [good_core]
    with_reducible exact count64_good h
theorem foldl_fst_good {α β : Type} {r : Fixed} {f : State × β → α → State × β} (l : List α) {x : State × β}
    (hs : Good r x.1) (hf : ∀ x a, Good r x.1 → Good r (f x a).1) : Good r (l.foldl f x).1 := by
  induction l generalizing x with
  | nil => exact hs
  | cons a t ih => exact ih (hf x a hs)
theorem foldl_fst_fst_good {α β γ : Type} {r : Fixed} {f : (State × β) × γ → α → (State × β) × γ} (l : List α) {x : (State × β) × γ}
    (hs : Good r x.1.1) (hf : ∀ x a, Good r x.1.1 → Good r (f x a).1.1) : Good r (l.foldl f x).1.1 := by
  induction l generalizing x with
  | nil => exact hs
  | cons a t ih => exact ih (hf x a hs)
theorem ite_fst_good {β : Type} {r : Fixed} {c : Prop} [Decidable c] {a b : State × β} (ha : c → Good r a.1) (hb : ¬ c → Good r b.1) :
    Good r (if c then a else b).1 := by
  by_cases h : c
  · rw [if_pos h]
    exact ha h
  · rw [if_neg h]
    exact hb h
theorem good_fst {α : Type} {r : Fixed} {p : State × α} {a : State} {b : α} (e : p = (a, b)) (h : Good r p.1) : Good r a := by
  subst e; exact h

/-- `Good` is `Sound` with the queue named. -/
theorem good_iff {r : Fixed} {s : State} : Good r s ↔ s.pending = r.2 ∧ Sound r.1 s := by
  unfold Good Core Sound Memory.wf pinned shaped buffered bufOk
  simp only [Bool.and_eq_true]
  tauto

end Sys2Proof.Machine
end

