-- ==== Sys2Proof/Laws/GoodOps.lean ====
section
/-! SUPPORT. One lemma per operation: it keeps the build, the queue of commands and the canonical form of the stores. -/

set_option linter.all false

namespace Sys2Proof.Machine

open Sys2Proof

theorem count_good {gr : Fixed} {k : Nat} {n : Nat} {s : State} (hg : Good gr s) : Good gr (State.count s k n) := by
  unfold State.count
  repeat' first | with_reducible assumption | simp only [good_mk, setAt_length, portLost_ports, emptied_ports, List.length_map, List.length_mapIdx, List.length_range, List.length_replicate, good_core] | with_reducible apply ite_good | with_reducible apply foldl_good | with_reducible apply foldl_fst_good | with_reducible apply put_good | intro _ | split

theorem stgRead_good {gr : Fixed} {a : Nat} {n : Nat} {counted : optParam Bool true} {s : State} (hg : Good gr s) : Good gr (State.stgRead s a n counted) := by
  unfold State.stgRead
  repeat' first | with_reducible assumption | simp only [good_mk, setAt_length, portLost_ports, emptied_ports, List.length_map, List.length_mapIdx, List.length_range, List.length_replicate, good_core] | with_reducible apply ite_good | with_reducible apply foldl_good | with_reducible apply foldl_fst_good | with_reducible apply bankTouch_good | intro _ | split

theorem stgWrite_good {gr : Fixed} {a : Nat} {bs : Sys2Proof.Bytes} {counted : optParam Bool true} {s : State} (hg : Good gr s) : Good gr (State.stgWrite s a bs counted) := by
  unfold State.stgWrite
  repeat' first | with_reducible assumption | simp only [good_mk, setAt_length, portLost_ports, emptied_ports, List.length_map, List.length_mapIdx, List.length_range, List.length_replicate, good_core] | with_reducible apply ite_good | with_reducible apply foldl_good | with_reducible apply foldl_fst_good | with_reducible apply bankTouch_good | with_reducible apply core_mem | with_reducible apply core_stg | with_reducible apply core_qs | intro _ | split

theorem hostRead_good {gr : Fixed} {port : Nat} {a : Nat} {n : Nat} {s : State} (hg : Good gr s) : Good gr (State.hostRead s port a n) := by
  unfold State.hostRead
  repeat' first | with_reducible assumption | simp only [good_mk, setAt_length, portLost_ports, emptied_ports, List.length_map, List.length_mapIdx, List.length_range, List.length_replicate, good_core] | with_reducible apply ite_good | with_reducible apply foldl_good | with_reducible apply foldl_fst_good | with_reducible apply count64_good | intro _ | split

theorem hostWrite_good {gr : Fixed} {port : Nat} {a : Nat} {bs : Sys2Proof.Bytes} {s : State} (hg : Good gr s) : Good gr (State.hostWrite s port a bs) := by
  unfold State.hostWrite
  repeat' first | with_reducible assumption | simp only [good_mk, setAt_length, portLost_ports, emptied_ports, List.length_map, List.length_mapIdx, List.length_range, List.length_replicate, good_core] | with_reducible apply ite_good | with_reducible apply foldl_good | with_reducible apply foldl_fst_good | with_reducible apply count64_good | with_reducible apply core_mem | with_reducible apply core_stg | with_reducible apply core_qs | intro _ | split

theorem fresh_good {gr : Fixed} {s : State} (hg : Good gr s) : Good gr (State.fresh s) := by
  unfold State.fresh
  repeat' first | with_reducible assumption | simp only [good_mk, setAt_length, portLost_ports, emptied_ports, List.length_map, List.length_mapIdx, List.length_range, List.length_replicate, good_core] | with_reducible apply ite_good | with_reducible apply foldl_good | with_reducible apply foldl_fst_good | intro _ | split

theorem emit_good {gr : Fixed} {o : Out} {s : State} (hg : Good gr s) : Good gr (State.emit s o) := by
  unfold State.emit
  repeat' first | with_reducible assumption | simp only [good_mk, setAt_length, portLost_ports, emptied_ports, List.length_map, List.length_mapIdx, List.length_range, List.length_replicate, good_core] | with_reducible apply ite_good | with_reducible apply foldl_good | with_reducible apply foldl_fst_good | intro _ | split

theorem act_good {gr : Fixed} {f : State → State} {s : State} (hg : Good gr s) (hf : ∀ z0, Good gr z0 → Good gr (f z0)) : Good gr (act f s) := by
  unfold act
  repeat' first | with_reducible assumption | simp only [good_mk, setAt_length, portLost_ports, emptied_ports, List.length_map, List.length_mapIdx, List.length_range, List.length_replicate, good_core] | with_reducible apply ite_good | with_reducible apply foldl_good | with_reducible apply foldl_fst_good | with_reducible apply hf | intro _ | split

theorem actFresh_good {gr : Fixed} {f : State → State} {s : State} (hg : Good gr s) (hf : ∀ z0, Good gr z0 → Good gr (f z0)) : Good gr (actFresh f s) := by
  unfold actFresh
  repeat' first | with_reducible assumption | simp only [good_mk, setAt_length, portLost_ports, emptied_ports, List.length_map, List.length_mapIdx, List.length_range, List.length_replicate, good_core] | with_reducible apply ite_good | with_reducible apply foldl_good | with_reducible apply foldl_fst_good | with_reducible apply hf | with_reducible apply fresh_good | intro _ | split

theorem actTime_good {gr : Fixed} {f : State → State} {s : State} (hg : Good gr s) (hf : ∀ z0, Good gr z0 → Good gr (f z0)) : Good gr (actTime f s) := by
  unfold actTime
  repeat' first | with_reducible assumption | simp only [good_mk, setAt_length, portLost_ports, emptied_ports, List.length_map, List.length_mapIdx, List.length_range, List.length_replicate, good_core] | with_reducible apply ite_good | with_reducible apply foldl_good | with_reducible apply foldl_fst_good | with_reducible apply hf | intro _ | split

theorem setCtx_good {gr : Fixed} {c : Nat} {x : Ctx} {s : State} (hg : Good gr s) : Good gr (State.setCtx s c x) := by
  unfold State.setCtx
  repeat' first | with_reducible assumption | simp only [good_mk, setAt_length, portLost_ports, emptied_ports, List.length_map, List.length_mapIdx, List.length_range, List.length_replicate, good_core] | with_reducible apply ite_good | with_reducible apply foldl_good | with_reducible apply foldl_fst_good | intro _ | split

theorem syncInts_good {gr : Fixed} {s : State} (hg : Good gr s) : Good gr (State.syncInts s) := by
  unfold State.syncInts
  repeat' first | with_reducible assumption | simp only [good_mk, setAt_length, portLost_ports, emptied_ports, List.length_map, List.length_mapIdx, List.length_range, List.length_replicate, good_core] | with_reducible apply ite_good | with_reducible apply foldl_good | with_reducible apply foldl_fst_good | intro _ | split

theorem setCause_good {gr : Fixed} {l : Nat} {b : Nat} {s : State} (hg : Good gr s) : Good gr (State.setCause s l b) := by
  unfold State.setCause
  repeat' first | with_reducible assumption | simp only [good_mk, setAt_length, portLost_ports, emptied_ports, List.length_map, List.length_mapIdx, List.length_range, List.length_replicate, good_core] | with_reducible apply ite_good | with_reducible apply foldl_good | with_reducible apply foldl_fst_good | with_reducible apply syncInts_good | with_reducible apply put_good | intro _ | split

theorem routeEvent_good {gr : Fixed} {k : Nat} {s : State} (hg : Good gr s) : Good gr (State.routeEvent s k) := by
  unfold State.routeEvent
  repeat' first | with_reducible assumption | simp only [good_mk, setAt_length, portLost_ports, emptied_ports, List.length_map, List.length_mapIdx, List.length_range, List.length_replicate, good_core] | with_reducible apply ite_good | with_reducible apply foldl_good | with_reducible apply foldl_fst_good | with_reducible apply setCause_good | intro _ | split

theorem logRing_good {gr : Fixed} {port : Nat} {base : Nat} {len : Nat} {head : Nat} {tail : Nat} {lost : Nat} {loss : Loss} {entry : Sys2Proof.Bytes} {s : State} (hg : Good gr s) : Good gr (logRing s port base len head tail lost loss entry).1 := by
  unfold logRing
  repeat' first | with_reducible assumption | simp only [good_mk, setAt_length, portLost_ports, emptied_ports, List.length_map, List.length_mapIdx, List.length_range, List.length_replicate, good_core] | with_reducible apply ite_good | with_reducible apply foldl_good | with_reducible apply foldl_fst_good | with_reducible apply count_good | (with_reducible refine ringPut_good ?_ (by with_reducible assumption)) | intro _ | split

theorem logFlush_good {gr : Fixed} {port base len head tail lost : Nat} {es : List LogEnt} : ∀ {x : State × Loss}, Good gr x.1 → Good gr (logFlush port base len head tail lost es x).1 := by
  induction es with
  | nil => intro x hg; exact hg
  | cons e r ih =>
    intro x hg
    unfold logFlush
    with_reducible apply ih
    with_reducible exact logRing_good hg

theorem flushRpl_good {gr : Fixed} {s : State} (hg : Good gr s) : Good gr (State.flushRpl s) := by
  unfold State.flushRpl
  repeat' first | with_reducible apply logFlush_good | with_reducible assumption | simp only [good_mk, setAt_length, portLost_ports, emptied_ports, List.length_map, List.length_mapIdx, List.length_range, List.length_replicate, good_core] | with_reducible apply ite_good | with_reducible apply foldl_good | with_reducible apply foldl_fst_good | intro _ | split

theorem flushTrace_good {gr : Fixed} {s : State} (hg : Good gr s) : Good gr (State.flushTrace s) := by
  unfold State.flushTrace
  repeat' first | with_reducible apply logFlush_good | with_reducible assumption | simp only [good_mk, setAt_length, portLost_ports, emptied_ports, List.length_map, List.length_mapIdx, List.length_range, List.length_replicate, good_core] | with_reducible apply ite_good | with_reducible apply foldl_good | with_reducible apply foldl_fst_good | intro _ | split

theorem rpl_good {gr : Fixed} {kind : Nat} {c : Option Nat} {attempt : Nat} {comparable : Bool} {a0 : Nat} {a1 : Nat} {s : State} (hg : Good gr s) : Good gr (State.rpl s kind c attempt comparable a0 a1) := by
  unfold State.rpl
  repeat' first | with_reducible assumption | simp only [good_mk, setAt_length, portLost_ports, emptied_ports, List.length_map, List.length_mapIdx, List.length_range, List.length_replicate, good_core] | with_reducible apply ite_good | with_reducible apply foldl_good | with_reducible apply foldl_fst_good | with_reducible apply count_good | intro _ | split

theorem trace_good {gr : Fixed} {kind : Nat} {c : Option Nat} {attempt : Nat} {port : Option Nat} {a0 : Nat} {a1 : Nat} {s : State} (hg : Good gr s) : Good gr (State.trace s kind c attempt port a0 a1) := by
  unfold State.trace
  repeat' first | with_reducible assumption | simp only [good_mk, setAt_length, portLost_ports, emptied_ports, List.length_map, List.length_mapIdx, List.length_range, List.length_replicate, good_core] | with_reducible apply ite_good | with_reducible apply foldl_good | with_reducible apply foldl_fst_good | with_reducible apply count_good | intro _ | split

theorem evCount_good {gr : Fixed} {e : Ev} {s : State} (hg : Good gr s) : Good gr (State.evCount s e) := by
  unfold State.evCount
  repeat' first | with_reducible assumption | simp only [good_mk, setAt_length, portLost_ports, emptied_ports, List.length_map, List.length_mapIdx, List.length_range, List.length_replicate, good_core] | with_reducible apply ite_good | with_reducible apply foldl_good | with_reducible apply foldl_fst_good | with_reducible apply domPut_good | with_reducible apply setCause_good | intro _ | split

theorem logOne_good {gr : Fixed} {e : Ev} {s : State} (hg : Good gr s) : Good gr (State.logOne s e) := by
  unfold State.logOne
  repeat' first | with_reducible assumption | simp only [good_mk, setAt_length, portLost_ports, emptied_ports, List.length_map, List.length_mapIdx, List.length_range, List.length_replicate, good_core] | with_reducible apply ite_good | with_reducible apply foldl_good | with_reducible apply foldl_fst_good | with_reducible apply domPut_good | with_reducible apply put_good | with_reducible apply evCount_good | with_reducible apply rpl_good | with_reducible apply trace_good | intro _ | split

theorem loseOne_good {gr : Fixed} {e : Ev} {s : State} (hg : Good gr s) : Good gr (State.loseOne s e) := by
  unfold State.loseOne
  repeat' first | with_reducible assumption | simp only [good_mk, setAt_length, portLost_ports, emptied_ports, List.length_map, List.length_mapIdx, List.length_range, List.length_replicate, good_core] | with_reducible apply ite_good | with_reducible apply foldl_good | with_reducible apply foldl_fst_good | with_reducible apply evCount_good | with_reducible apply count_good | intro _ | split

theorem logEvs_good {gr : Fixed} {evs : List Ev} {s : State} (hg : Good gr s) : Good gr (State.logEvs s evs) := by
  unfold State.logEvs
  repeat' first | with_reducible assumption | simp only [good_mk, setAt_length, portLost_ports, emptied_ports, List.length_map, List.length_mapIdx, List.length_range, List.length_replicate, good_core] | with_reducible apply ite_good | with_reducible apply foldl_good | with_reducible apply foldl_fst_good | with_reducible apply loseOne_good | with_reducible apply logOne_good | intro _ | split

theorem log_good {gr : Fixed} {e : Ev} {s : State} (hg : Good gr s) : Good gr (State.log s e) := by
  unfold State.log
  repeat' first | with_reducible assumption | simp only [good_mk, setAt_length, portLost_ports, emptied_ports, List.length_map, List.length_mapIdx, List.length_range, List.length_replicate, good_core] | with_reducible apply ite_good | with_reducible apply foldl_good | with_reducible apply foldl_fst_good | with_reducible apply logEvs_good | intro _ | split

theorem actNotice_good {gr : Fixed} {n : Notice} {from_ : Nat} {at_ : Nat} {s : State} (hg : Good gr s) : Good gr (State.actNotice s n from_ at_) := by
  unfold State.actNotice
  repeat' first | with_reducible assumption | simp only [good_mk, setAt_length, portLost_ports, emptied_ports, List.length_map, List.length_mapIdx, List.length_range, List.length_replicate, good_core] | with_reducible apply ite_good | with_reducible apply foldl_good | with_reducible apply foldl_fst_good | with_reducible apply rpl_good | with_reducible apply trace_good | intro _ | split

theorem spreadNotice_good {gr : Fixed} {n : Notice} {s : State} (hg : Good gr s) : Good gr (State.spreadNotice s n) := by
  unfold State.spreadNotice
  repeat' first | with_reducible assumption | simp only [good_mk, setAt_length, portLost_ports, emptied_ports, List.length_map, List.length_mapIdx, List.length_range, List.length_replicate, good_core] | with_reducible apply ite_good | with_reducible apply foldl_good | with_reducible apply foldl_fst_good | intro _ | split

theorem raiseNotice_good {gr : Fixed} {n : Notice} {s : State} (hg : Good gr s) : Good gr (State.raiseNotice s n) := by
  unfold State.raiseNotice
  repeat' first | with_reducible assumption | simp only [good_mk, setAt_length, portLost_ports, emptied_ports, List.length_map, List.length_mapIdx, List.length_range, List.length_replicate, good_core] | with_reducible apply ite_good | with_reducible apply foldl_good | with_reducible apply foldl_fst_good | with_reducible apply actNotice_good | with_reducible apply spreadNotice_good | intro _ | split

theorem requestSlip_good {gr : Fixed} {f : Nat} {s : State} (hg : Good gr s) : Good gr (State.requestSlip s f) := by
  unfold State.requestSlip
  repeat' first | with_reducible assumption | simp only [good_mk, setAt_length, portLost_ports, emptied_ports, List.length_map, List.length_mapIdx, List.length_range, List.length_replicate, good_core] | with_reducible apply ite_good | with_reducible apply foldl_good | with_reducible apply foldl_fst_good | with_reducible apply raiseNotice_good | with_reducible apply count_good | intro _ | split

theorem replayStep_good {gr : Fixed} {c : Nat} {s : State} (hg : Good gr s) : Good gr (State.replayStep s c) := by
  unfold State.replayStep
  repeat' first | with_reducible assumption | simp only [good_mk, setAt_length, portLost_ports, emptied_ports, List.length_map, List.length_mapIdx, List.length_range, List.length_replicate, good_core] | with_reducible apply ite_good | with_reducible apply foldl_good | with_reducible apply foldl_fst_good | with_reducible apply setCtx_good | with_reducible apply raiseNotice_good | intro _ | split

theorem replayRunning_good {gr : Fixed} {s : State} (hg : Good gr s) : Good gr (State.replayRunning s) := by
  unfold State.replayRunning
  repeat' first | with_reducible assumption | simp only [good_mk, setAt_length, portLost_ports, emptied_ports, List.length_map, List.length_mapIdx, List.length_range, List.length_replicate, good_core] | with_reducible apply ite_good | with_reducible apply foldl_good | with_reducible apply foldl_fst_good | with_reducible apply replayStep_good | intro _ | split

theorem setTt_good {gr : Fixed} {c : Nat} {v : Nat} {s : State} (hg : Good gr s) : Good gr (State.setTt s c v) := by
  unfold State.setTt
  repeat' first | with_reducible assumption | simp only [good_mk, setAt_length, portLost_ports, emptied_ports, List.length_map, List.length_mapIdx, List.length_range, List.length_replicate, good_core] | with_reducible apply ite_good | with_reducible apply foldl_good | with_reducible apply foldl_fst_good | with_reducible apply put_good | with_reducible apply routeEvent_good | intro _ | split

theorem setTb_good {gr : Fixed} {v : Nat} {s : State} (hg : Good gr s) : Good gr (State.setTb s v) := by
  unfold State.setTb
  repeat' first | with_reducible assumption | simp only [good_mk, setAt_length, portLost_ports, emptied_ports, List.length_map, List.length_mapIdx, List.length_range, List.length_replicate, good_core] | with_reducible apply ite_good | with_reducible apply foldl_good | with_reducible apply foldl_fst_good | with_reducible apply routeEvent_good | with_reducible apply put_good | intro _ | split

theorem issued_good {gr : Fixed} {cls : Nat} {c : Option Nat} {s : State} (hg : Good gr s) : Good gr (State.issued s cls c) := by
  unfold State.issued
  repeat' first | with_reducible assumption | simp only [good_mk, setAt_length, portLost_ports, emptied_ports, List.length_map, List.length_mapIdx, List.length_range, List.length_replicate, good_core] | with_reducible apply ite_good | with_reducible apply foldl_good | with_reducible apply foldl_fst_good | with_reducible apply trace_good | intro _ | split

theorem issueAt_good {gr : Fixed} {c : Nat} {port : Option Nat} {m : Nat × Nat} {s : State} (hg : Good gr s) : Good gr (State.issueAt s c port m) := by
  unfold State.issueAt
  repeat' first | with_reducible assumption | simp only [good_mk, setAt_length, portLost_ports, emptied_ports, List.length_map, List.length_mapIdx, List.length_range, List.length_replicate, good_core] | with_reducible apply ite_good | with_reducible apply foldl_good | with_reducible apply foldl_fst_good | with_reducible apply trace_good | intro _ | split

theorem issue_good {gr : Fixed} {c : Nat} {cls : Nat} {fields : Nat} {port : optParam (Option Nat) none} {s : State} (hg : Good gr s) : Good gr (State.issue s c cls fields port) := by
  unfold State.issue
  repeat' first | with_reducible assumption | simp only [good_mk, setAt_length, portLost_ports, emptied_ports, List.length_map, List.length_mapIdx, List.length_range, List.length_replicate, good_core] | with_reducible apply ite_good | with_reducible apply foldl_good | with_reducible apply foldl_fst_good | with_reducible apply issueAt_good | intro _ | split

theorem takeGrad_good {gr : Fixed} {c : Nat} {st : Nat} {fields : Nat} {s : State} (hg : Good gr s) : Good gr (State.takeGrad s c st fields) := by
  unfold State.takeGrad
  repeat' first | with_reducible assumption | simp only [good_mk, setAt_length, portLost_ports, emptied_ports, List.length_map, List.length_mapIdx, List.length_range, List.length_replicate, good_core] | with_reducible apply ite_good | with_reducible apply foldl_good | with_reducible apply foldl_fst_good | with_reducible apply setCtx_good | with_reducible apply issueAt_good | intro _ | split

theorem keepGrads_good {gr : Fixed} {c : Nat} {s : State} (hg : Good gr s) : Good gr (State.keepGrads s c) := by
  unfold State.keepGrads
  repeat' first | with_reducible assumption | simp only [good_mk, setAt_length, portLost_ports, emptied_ports, List.length_map, List.length_mapIdx, List.length_range, List.length_replicate, good_core] | with_reducible apply ite_good | with_reducible apply foldl_good | with_reducible apply foldl_fst_good | with_reducible apply issueAt_good | with_reducible apply setCtx_good | intro _ | split

theorem setRate_good {gr : Fixed} {s : State} (hg : Good gr s) : Good gr (State.setRate s) := by
  unfold State.setRate
  repeat' first | with_reducible assumption | simp only [good_mk, setAt_length, portLost_ports, emptied_ports, List.length_map, List.length_mapIdx, List.length_range, List.length_replicate, good_core] | with_reducible apply ite_good | with_reducible apply foldl_good | with_reducible apply foldl_fst_good | intro _ | split

theorem toLoaded_good {gr : Fixed} {c : Nat} {fault : Bool} {s : State} (hg : Good gr s) : Good gr (State.toLoaded s c fault) := by
  unfold State.toLoaded
  repeat' first | with_reducible assumption | simp only [good_mk, setAt_length, portLost_ports, emptied_ports, List.length_map, List.length_mapIdx, List.length_range, List.length_replicate, good_core] | with_reducible apply ite_good | with_reducible apply foldl_good | with_reducible apply foldl_fst_good | with_reducible apply setTt_good | with_reducible apply routeEvent_good | with_reducible apply setRate_good | with_reducible apply setCtx_good | intro _ | split

theorem imposeStop_good {gr : Fixed} {c : Nat} {s : State} (hg : Good gr s) : Good gr (State.imposeStop s c) := by
  unfold State.imposeStop
  repeat' first | with_reducible assumption | simp only [good_mk, setAt_length, portLost_ports, emptied_ports, List.length_map, List.length_mapIdx, List.length_range, List.length_replicate, good_core] | with_reducible apply ite_good | with_reducible apply foldl_good | with_reducible apply foldl_fst_good | with_reducible apply setTt_good | with_reducible apply toLoaded_good | intro _ | split

theorem faultStop_good {gr : Fixed} {c : Nat} {st : Nat} {s : State} (hg : Good gr s) : Good gr (State.faultStop s c st) := by
  unfold State.faultStop
  repeat' first | with_reducible assumption | simp only [good_mk, setAt_length, portLost_ports, emptied_ports, List.length_map, List.length_mapIdx, List.length_range, List.length_replicate, good_core] | with_reducible apply ite_good | with_reducible apply foldl_good | with_reducible apply foldl_fst_good | with_reducible apply imposeStop_good | with_reducible apply setCtx_good | intro _ | split

theorem idleSwap_good {gr : Fixed} {kind : Nat} {ready : Nat} {active : Nat} {shadowCrc : Nat} {activeCrc : Nat} {s : State} (hg : Good gr s) : Good gr (State.idleSwap s kind ready active shadowCrc activeCrc) := by
  unfold State.idleSwap
  repeat' first | with_reducible assumption | simp only [good_mk, setAt_length, portLost_ports, emptied_ports, List.length_map, List.length_mapIdx, List.length_range, List.length_replicate, good_core] | with_reducible apply ite_good | with_reducible apply foldl_good | with_reducible apply foldl_fst_good | with_reducible apply put_good | with_reducible apply rpl_good | intro _ | split

theorem zero_good {gr : Fixed} {ks : List Nat} {s : State} (hg : Good gr s) : Good gr (State.zero s ks) := by
  unfold State.zero
  repeat' first | with_reducible assumption | simp only [good_mk, setAt_length, portLost_ports, emptied_ports, List.length_map, List.length_mapIdx, List.length_range, List.length_replicate, good_core] | with_reducible apply ite_good | with_reducible apply foldl_good | with_reducible apply foldl_fst_good | with_reducible apply put_good | intro _ | split

theorem clearCounts_good {gr : Fixed} {ks : List (Nat → Nat)} {v : Nat} {s : State} (hg : Good gr s) : Good gr (State.clearCounts s ks v) := by
  unfold State.clearCounts
  repeat' first | with_reducible assumption | simp only [good_mk, setAt_length, portLost_ports, emptied_ports, List.length_map, List.length_mapIdx, List.length_range, List.length_replicate, good_core] | with_reducible apply ite_good | with_reducible apply foldl_good | with_reducible apply foldl_fst_good | with_reducible apply zero_good | intro _ | split

theorem nonFinite_good {gr : Fixed} {dom : Nat} {ctx : Nat} {layer : Nat} {st : Nat} {n : Nf} {s : State} (hg : Good gr s) : Good gr (State.nonFinite s dom ctx layer st n) := by
  unfold State.nonFinite
  repeat' first | with_reducible assumption | simp only [good_mk, setAt_length, portLost_ports, emptied_ports, List.length_map, List.length_mapIdx, List.length_range, List.length_replicate, good_core] | with_reducible apply ite_good | with_reducible apply foldl_good | with_reducible apply foldl_fst_good | with_reducible apply put_good | with_reducible apply count_good | intro _ | split

theorem tap_good {gr : Fixed} {field : Nat} {ctx : Nat} {n : Nat} {s : State} (hg : Good gr s) : Good gr (State.tap s field ctx n) := by
  unfold State.tap
  repeat' first | with_reducible assumption | simp only [good_mk, setAt_length, portLost_ports, emptied_ports, List.length_map, List.length_mapIdx, List.length_range, List.length_replicate, good_core] | with_reducible apply ite_good | with_reducible apply foldl_good | with_reducible apply foldl_fst_good | intro _ | split

theorem busy_good {gr : Fixed} {dom : Nat} {ctx : Option Nat} {s : State} (hg : Good gr s) : Good gr (State.busy s dom ctx) := by
  unfold State.busy
  repeat' first | with_reducible assumption | simp only [good_mk, setAt_length, portLost_ports, emptied_ports, List.length_map, List.length_mapIdx, List.length_range, List.length_replicate, good_core] | with_reducible apply ite_good | with_reducible apply foldl_good | with_reducible apply foldl_fst_good | with_reducible apply fresh_good | with_reducible apply count64_good | with_reducible apply tap_good | intro _ | split

theorem busyAll_good {gr : Fixed} {s : State} (hg : Good gr s) : Good gr (State.busyAll s) := by
  unfold State.busyAll
  repeat' first | with_reducible assumption | simp only [good_mk, setAt_length, portLost_ports, emptied_ports, List.length_map, List.length_mapIdx, List.length_range, List.length_replicate, good_core] | with_reducible apply ite_good | with_reducible apply foldl_good | with_reducible apply foldl_fst_good | with_reducible apply count64_good | with_reducible apply fresh_good | intro _ | split

theorem setPool_good {gr : Fixed} {c : Nat} {p : PoolClass} {s : State} (hg : Good gr s) : Good gr (State.setPool s c p) := by
  unfold State.setPool
  repeat' first | with_reducible assumption | simp only [good_mk, setAt_length, portLost_ports, emptied_ports, List.length_map, List.length_mapIdx, List.length_range, List.length_replicate, good_core] | with_reducible apply ite_good | with_reducible apply foldl_good | with_reducible apply foldl_fst_good | intro _ | split

theorem refillDone_good {gr : Fixed} {c : Nat} {s : State} (hg : Good gr s) : Good gr (State.refillDone s c) := by
  unfold State.refillDone
  repeat' first | with_reducible assumption | simp only [good_mk, setAt_length, portLost_ports, emptied_ports, List.length_map, List.length_mapIdx, List.length_range, List.length_replicate, good_core] | with_reducible apply ite_good | with_reducible apply foldl_good | with_reducible apply foldl_fst_good | with_reducible apply hostRead_good | with_reducible apply setPool_good | intro _ | split

theorem startRefill_good {gr : Fixed} {c : Nat} {s : State} (hg : Good gr s) : Good gr (State.startRefill s c) := by
  unfold State.startRefill
  repeat' first | with_reducible assumption | simp only [good_mk, setAt_length, portLost_ports, emptied_ports, List.length_map, List.length_mapIdx, List.length_range, List.length_replicate, good_core] | with_reducible apply ite_good | with_reducible apply foldl_good | with_reducible apply foldl_fst_good | with_reducible apply setPool_good | intro _ | split

theorem spillDone_good {gr : Fixed} {c : Nat} {s : State} (hg : Good gr s) : Good gr (State.spillDone s c) := by
  unfold State.spillDone
  repeat' first | with_reducible assumption | simp only [good_mk, setAt_length, portLost_ports, emptied_ports, List.length_map, List.length_mapIdx, List.length_range, List.length_replicate, good_core] | with_reducible apply ite_good | with_reducible apply foldl_good | with_reducible apply foldl_fst_good | with_reducible apply hostWrite_good | with_reducible apply startRefill_good | with_reducible apply setPool_good | intro _ | split

theorem startSpill_good {gr : Fixed} {c : Nat} {s : State} (hg : Good gr s) : Good gr (State.startSpill s c) := by
  unfold State.startSpill
  repeat' first | with_reducible assumption | simp only [good_mk, setAt_length, portLost_ports, emptied_ports, List.length_map, List.length_mapIdx, List.length_range, List.length_replicate, good_core] | with_reducible apply ite_good | with_reducible apply foldl_good | with_reducible apply foldl_fst_good | with_reducible apply setPool_good | intro _ | split

theorem fillCache_good {gr : Fixed} {c : Nat} {s : State} (hg : Good gr s) : Good gr (State.fillCache s c) := by
  unfold State.fillCache
  repeat' first | with_reducible assumption | simp only [good_mk, setAt_length, portLost_ports, emptied_ports, List.length_map, List.length_mapIdx, List.length_range, List.length_replicate, good_core] | with_reducible apply ite_good | with_reducible apply foldl_good | with_reducible apply foldl_fst_good | with_reducible apply spillDone_good | with_reducible apply startRefill_good | with_reducible apply refillDone_good | intro _ | split

theorem grant_good {gr : Fixed} {s t : State} {c k n : Nat} (e : s.grant c k = some (t, n)) (hg : Good gr s) : Good gr t := by
  unfold State.grant at e
  dsimp only at e
  split at e
  · cases e
  · cases e
    with_reducible exact startRefill_good (put_good (put_good (put_good (setPool_good hg))))

theorem setPiece_good {gr : Fixed} {p : Piece} {s : State} (hg : Good gr s) : Good gr (State.setPiece s p) := by
  unfold State.setPiece
  repeat' first | with_reducible assumption | simp only [good_mk, setAt_length, portLost_ports, emptied_ports, List.length_map, List.length_mapIdx, List.length_range, List.length_replicate, good_core] | with_reducible apply ite_good | with_reducible apply foldl_good | with_reducible apply foldl_fst_good | intro _ | split

theorem stgWriteRuns_good {gr : Fixed} {a : Nat} {bs : Sys2Proof.Bytes} {holes : List (Nat × Nat)} {s : State} (hg : Good gr s) : Good gr (State.stgWriteRuns s a bs holes) := by
  unfold State.stgWriteRuns
  repeat' first | with_reducible assumption | simp only [good_mk, setAt_length, portLost_ports, emptied_ports, List.length_map, List.length_mapIdx, List.length_range, List.length_replicate, good_core] | with_reducible apply ite_good | with_reducible apply foldl_good | with_reducible apply foldl_fst_good | with_reducible apply stgWrite_good | intro _ | split

theorem noteMap_good {gr : Fixed} {k : PieceKey} {a : Nat} {s : State} (hg : Good gr s) : Good gr (State.noteMap s k a) := by
  unfold State.noteMap
  repeat' first | with_reducible assumption | simp only [good_mk, setAt_length, portLost_ports, emptied_ports, List.length_map, List.length_mapIdx, List.length_range, List.length_replicate, good_core] | with_reducible apply ite_good | with_reducible apply foldl_good | with_reducible apply foldl_fst_good | with_reducible apply stgWrite_good | with_reducible apply setPiece_good | intro _ | split

theorem givePiece_good {gr : Fixed} {k : PieceKey} {a : Nat} {s : State} (hg : Good gr s) : Good gr (State.givePiece s k a) := by
  unfold State.givePiece
  repeat' first | with_reducible assumption | simp only [good_mk, setAt_length, portLost_ports, emptied_ports, List.length_map, List.length_mapIdx, List.length_range, List.length_replicate, good_core] | with_reducible apply ite_good | with_reducible apply foldl_good | with_reducible apply foldl_fst_good | with_reducible apply noteMap_good | with_reducible apply setPiece_good | with_reducible apply stgWriteRuns_good | intro _ | split

theorem poolAllocGrantOp_good {gr : Fixed} {c : Nat} {s : State} (hg : Good gr s) : Good gr (poolAllocGrantOp c s) := by
  unfold poolAllocGrantOp
  repeat' first | with_reducible assumption | simp only [good_mk, setAt_length, portLost_ports, emptied_ports, List.length_map, List.length_mapIdx, List.length_range, List.length_replicate, good_core] | with_reducible apply ite_good | with_reducible apply foldl_good | with_reducible apply foldl_fst_good | with_reducible apply setPool_good | with_reducible apply givePiece_good | (with_reducible refine grant_good (by with_reducible assumption) ?_) | intro _ | split

theorem askBuffer_good {gr : Fixed} {p : Piece} {s : State} (hg : Good gr s) : Good gr (s.askBuffer p) := by
  unfold State.askBuffer
  with_reducible apply ite_good
  · intro _
    with_reducible assumption
  · intro _
    split
    · with_reducible assumption
    · dsimp only
      split
      · rename_i e
        with_reducible apply givePiece_good
        split at e
        · with_reducible exact grant_good e (setPiece_good hg)
        · cases e
      · repeat' first | with_reducible assumption | with_reducible apply setPool_good | with_reducible apply count_good | with_reducible apply setPiece_good

theorem good_pools {gr : Fixed} {s : State} (hg : Good gr s) : Good gr { s with pools := List.replicate 5 {} } := by
  simp only [good_mk, List.length_replicate]
  with_reducible apply core_pools (nk := s.pools.length)
  simp only [good_core]
  with_reducible exact hg

theorem poolInitialiseOp_good {gr : Fixed} {s : State} (hg : Good gr s) : Good gr (poolInitialiseOp s) := by
  unfold poolInitialiseOp
  repeat' first | with_reducible assumption | with_reducible apply good_pools | simp only [good_mk, setAt_length, portLost_ports, emptied_ports, List.length_map, List.length_mapIdx, List.length_range, List.length_replicate, good_core] | with_reducible apply ite_good | with_reducible apply foldl_good | with_reducible apply foldl_fst_good | with_reducible apply put_good | with_reducible apply log_good | intro _ | split

theorem poolFill_good {gr : Fixed} {c : Nat} {s : State} (hg : Good gr s) : Good gr (State.poolFill s c) := by
  unfold State.poolFill
  repeat' first | with_reducible assumption | simp only [good_mk, setAt_length, portLost_ports, emptied_ports, List.length_map, List.length_mapIdx, List.length_range, List.length_replicate, good_core] | with_reducible apply ite_good | with_reducible apply foldl_good | with_reducible apply foldl_fst_good | with_reducible apply hostWrite_good | with_reducible apply setPool_good | with_reducible apply put_good | intro _ | split

theorem poolInitDoneOp_good {gr : Fixed} {s : State} (hg : Good gr s) : Good gr (poolInitDoneOp s) := by
  unfold poolInitDoneOp
  repeat' first | with_reducible assumption | simp only [good_mk, setAt_length, portLost_ports, emptied_ports, List.length_map, List.length_mapIdx, List.length_range, List.length_replicate, good_core] | with_reducible apply ite_good | with_reducible apply foldl_good | with_reducible apply foldl_fst_good | with_reducible apply put_good | with_reducible apply poolFill_good | intro _ | split

theorem poolRingRefillDoneOp_good {gr : Fixed} {c : Nat} {s : State} (hg : Good gr s) : Good gr (poolRingRefillDoneOp c s) := by
  unfold poolRingRefillDoneOp
  repeat' first | with_reducible assumption | simp only [good_mk, setAt_length, portLost_ports, emptied_ports, List.length_map, List.length_mapIdx, List.length_range, List.length_replicate, good_core] | with_reducible apply ite_good | with_reducible apply foldl_good | with_reducible apply foldl_fst_good | with_reducible apply refillDone_good | with_reducible apply spillDone_good | intro _ | split

theorem poolSetLowOp_good {gr : Fixed} {s : State} (hg : Good gr s) : Good gr (poolSetLowOp s) := by
  unfold poolSetLowOp
  repeat' first | with_reducible assumption | simp only [good_mk, setAt_length, portLost_ports, emptied_ports, List.length_map, List.length_mapIdx, List.length_range, List.length_replicate, good_core] | with_reducible apply ite_good | with_reducible apply foldl_good | with_reducible apply foldl_fst_good | with_reducible apply put_good | intro _ | split

theorem poolAllocReqOp_good {gr : Fixed} {tr : Sys2Proof.Transport} {v : Nat} {s : State} (hg : Good gr s) : Good gr (poolAllocReqOp tr v s) := by
  unfold poolAllocReqOp
  repeat' first | with_reducible assumption | simp only [good_mk, setAt_length, portLost_ports, emptied_ports, List.length_map, List.length_mapIdx, List.length_range, List.length_replicate, good_core] | with_reducible apply ite_good | with_reducible apply foldl_good | with_reducible apply foldl_fst_good | with_reducible apply put_good | with_reducible apply log_good | with_reducible apply fillCache_good | (with_reducible refine grant_good (by with_reducible assumption) ?_) | intro _ | split

theorem addPiece_good {gr : Fixed} {p : Piece} {s : State} (hg : Good gr s) : Good gr (State.addPiece s p) := by
  unfold State.addPiece
  repeat' first | with_reducible assumption | simp only [good_mk, setAt_length, portLost_ports, emptied_ports, List.length_map, List.length_mapIdx, List.length_range, List.length_replicate, good_core] | with_reducible apply ite_good | with_reducible apply foldl_good | with_reducible apply foldl_fst_good | with_reducible apply askBuffer_good | intro _ | split

theorem setQueue_good {gr : Fixed} {q : Nat} {x : Queue} {s : State} (hg : Good gr s) : Good gr (State.setQueue s q x) := by
  unfold State.setQueue
  repeat' first | with_reducible assumption | simp only [good_mk, setAt_length, portLost_ports, emptied_ports, List.length_map, List.length_mapIdx, List.length_range, List.length_replicate, good_core] | with_reducible apply ite_good | with_reducible apply foldl_good | with_reducible apply foldl_fst_good | intro _ | split

theorem pqWrite_good {gr : Fixed} {q : Nat} {p : Nat} {words : List Sys2Proof.Bytes} {s : State} (hg : Good gr s) : Good gr (State.pqWrite s q p words) := by
  unfold State.pqWrite
  repeat' first | with_reducible assumption | simp only [good_mk, setAt_length, portLost_ports, emptied_ports, List.length_map, List.length_mapIdx, List.length_range, List.length_replicate, good_core] | with_reducible apply ite_good | with_reducible apply foldl_good | with_reducible apply foldl_fst_good | with_reducible apply core_mem | with_reducible apply core_stg | with_reducible apply core_qs | intro _ | split

theorem pqCompare_good {gr : Fixed} {q : Nat} {s : State} (hg : Good gr s) : Good gr (State.pqCompare s q) := by
  unfold State.pqCompare
  repeat' first | with_reducible assumption | simp only [good_mk, setAt_length, portLost_ports, emptied_ports, List.length_map, List.length_mapIdx, List.length_range, List.length_replicate, good_core] | with_reducible apply ite_good | with_reducible apply foldl_good | with_reducible apply foldl_fst_good | with_reducible apply setQueue_good | with_reducible apply syncInts_good | with_reducible apply domPut_good | intro _ | split

theorem pqDrop_good {gr : Fixed} {q : Nat} {ctx : Nat} {s : State} (hg : Good gr s) : Good gr (State.pqDrop s q ctx) := by
  unfold State.pqDrop
  repeat' first | with_reducible assumption | simp only [good_mk, setAt_length, portLost_ports, emptied_ports, List.length_map, List.length_mapIdx, List.length_range, List.length_replicate, good_core] | with_reducible apply ite_good | with_reducible apply foldl_good | with_reducible apply foldl_fst_good | with_reducible apply count_good | intro _ | split

theorem pqOffer_good {gr : Fixed} {q : Nat} {ctx : Nat} {words : List Sys2Proof.Bytes} {s : State} (hg : Good gr s) : Good gr (State.pqOffer s q ctx words).1 := by
  unfold State.pqOffer
  repeat' first | with_reducible assumption | simp only [good_mk, setAt_length, portLost_ports, emptied_ports, List.length_map, List.length_mapIdx, List.length_range, List.length_replicate, good_core] | with_reducible apply ite_good | with_reducible apply foldl_good | with_reducible apply foldl_fst_good | with_reducible apply setQueue_good | with_reducible apply pqWrite_good | with_reducible apply pqDrop_good | with_reducible apply log_good | intro _ | split

theorem pqCommit_good {gr : Fixed} {q : Nat} {s : State} (hg : Good gr s) : Good gr (State.pqCommit s q) := by
  unfold State.pqCommit
  repeat' first | with_reducible assumption | simp only [good_mk, setAt_length, portLost_ports, emptied_ports, List.length_map, List.length_mapIdx, List.length_range, List.length_replicate, good_core] | with_reducible apply ite_good | with_reducible apply foldl_good | with_reducible apply foldl_fst_good | with_reducible apply pqCompare_good | with_reducible apply setQueue_good | intro _ | split

theorem pqAbort_good {gr : Fixed} {q : Nat} {s : State} (hg : Good gr s) : Good gr (State.pqAbort s q) := by
  unfold State.pqAbort
  repeat' first | with_reducible assumption | simp only [good_mk, setAt_length, portLost_ports, emptied_ports, List.length_map, List.length_mapIdx, List.length_range, List.length_replicate, good_core] | with_reducible apply ite_good | with_reducible apply foldl_good | with_reducible apply foldl_fst_good | with_reducible apply count_good | with_reducible apply setQueue_good | intro _ | split

theorem holdOffer_good {gr : Fixed} {q : Nat} {o : Offer} {s : State} (hg : Good gr s) : Good gr (State.holdOffer s q o) := by
  unfold State.holdOffer
  repeat' first | with_reducible assumption | simp only [good_mk, setAt_length, portLost_ports, emptied_ports, List.length_map, List.length_mapIdx, List.length_range, List.length_replicate, good_core] | with_reducible apply ite_good | with_reducible apply foldl_good | with_reducible apply foldl_fst_good | with_reducible apply setQueue_good | intro _ | split

theorem pqServe_good {gr : Fixed} {q : Nat} {a1 : Nat} {a2 : State} (hg : Good gr a2) : Good gr (State.pqServe q a1 a2) := by
  induction a1 generalizing a2 with
  | zero =>
    unfold State.pqServe
    exact hg
  | succ n ih =>
    unfold State.pqServe
    repeat' first | with_reducible apply ih | with_reducible assumption | simp only [good_mk, setAt_length, portLost_ports, emptied_ports, List.length_map, List.length_mapIdx, List.length_range, List.length_replicate, good_core] | with_reducible apply ite_good | with_reducible apply foldl_good | with_reducible apply foldl_fst_good | with_reducible apply setQueue_good | with_reducible apply pqOffer_good | with_reducible apply pqCommit_good | (with_reducible refine good_fst (by with_reducible assumption) ?_) | intro _ | split

theorem pqSettle_good {gr : Fixed} {q : Nat} {s : State} (hg : Good gr s) : Good gr (State.pqSettle s q) := by
  unfold State.pqSettle
  repeat' first | with_reducible assumption | simp only [good_mk, setAt_length, portLost_ports, emptied_ports, List.length_map, List.length_mapIdx, List.length_range, List.length_replicate, good_core] | with_reducible apply ite_good | with_reducible apply foldl_good | with_reducible apply foldl_fst_good | with_reducible apply pqServe_good | intro _ | split

theorem pqAfter_good {gr : Fixed} {q : Nat} {s : State} (hg : Good gr s) : Good gr (State.pqAfter s q) := by
  unfold State.pqAfter
  repeat' first | with_reducible assumption | simp only [good_mk, setAt_length, portLost_ports, emptied_ports, List.length_map, List.length_mapIdx, List.length_range, List.length_replicate, good_core] | with_reducible apply ite_good | with_reducible apply foldl_good | with_reducible apply foldl_fst_good | with_reducible apply pqSettle_good | with_reducible apply pqCompare_good | intro _ | split

theorem post_good {gr : Fixed} {q : Nat} {producer : Nat} {ctx : Nat} {words : List Sys2Proof.Bytes} {s : State} (hg : Good gr s) : Good gr (State.post s q producer ctx words) := by
  unfold State.post
  repeat' first | with_reducible assumption | simp only [good_mk, setAt_length, portLost_ports, emptied_ports, List.length_map, List.length_mapIdx, List.length_range, List.length_replicate, good_core] | with_reducible apply ite_good | with_reducible apply foldl_good | with_reducible apply foldl_fst_good | with_reducible apply pqOffer_good | with_reducible apply pqCommit_good | with_reducible apply holdOffer_good | (with_reducible refine good_fst (by with_reducible assumption) ?_) | intro _ | split

theorem postWord_good {gr : Fixed} {q : Nat} {kind : Nat} {source : Nat} {ctx : Nat} {arg : Nat} {body : Sys2Proof.Bytes} {port : optParam Nat 0} {s : State} (hg : Good gr s) : Good gr (State.postWord s q kind source ctx arg body port) := by
  unfold State.postWord
  repeat' first | with_reducible assumption | simp only [good_mk, setAt_length, portLost_ports, emptied_ports, List.length_map, List.length_mapIdx, List.length_range, List.length_replicate, good_core] | with_reducible apply ite_good | with_reducible apply foldl_good | with_reducible apply foldl_fst_good | with_reducible apply post_good | intro _ | split

theorem gapMarkerCommitOp_good {gr : Fixed} {q : Nat} {s : State} (hg : Good gr s) : Good gr (gapMarkerCommitOp q s) := by
  unfold gapMarkerCommitOp
  repeat' first | with_reducible assumption | simp only [good_mk, setAt_length, portLost_ports, emptied_ports, List.length_map, List.length_mapIdx, List.length_range, List.length_replicate, good_core] | with_reducible apply ite_good | with_reducible apply foldl_good | with_reducible apply foldl_fst_good | with_reducible apply pqWrite_good | with_reducible apply pqSettle_good | with_reducible apply pqCompare_good | with_reducible apply setQueue_good | intro _ | split

theorem packetOfferOp_good {gr : Fixed} {q : Nat} {producer : Nat} {ctx : Nat} {words : List Sys2Proof.Bytes} {s : State} (hg : Good gr s) : Good gr (packetOfferOp q producer ctx words s) := by
  unfold packetOfferOp
  repeat' first | with_reducible assumption | simp only [good_mk, setAt_length, portLost_ports, emptied_ports, List.length_map, List.length_mapIdx, List.length_range, List.length_replicate, good_core] | with_reducible apply ite_good | with_reducible apply foldl_good | with_reducible apply foldl_fst_good | with_reducible apply pqOffer_good | with_reducible apply holdOffer_good | (with_reducible refine good_fst (by with_reducible assumption) ?_) | intro _ | split

theorem pqAdvance_good {gr : Fixed} {q : Nat} {s : State} (hg : Good gr s) : Good gr (State.pqAdvance s q) := by
  unfold State.pqAdvance
  repeat' first | with_reducible assumption | simp only [good_mk, setAt_length, portLost_ports, emptied_ports, List.length_map, List.length_mapIdx, List.length_range, List.length_replicate, good_core] | with_reducible apply ite_good | with_reducible apply foldl_good | with_reducible apply foldl_fst_good | with_reducible apply setQueue_good | intro _ | split

theorem pqMark_good {gr : Fixed} {q : Nat} {s : State} (hg : Good gr s) : Good gr (State.pqMark s q) := by
  unfold State.pqMark
  repeat' first | with_reducible assumption | simp only [good_mk, setAt_length, portLost_ports, emptied_ports, List.length_map, List.length_mapIdx, List.length_range, List.length_replicate, good_core] | with_reducible apply ite_good | with_reducible apply foldl_good | with_reducible apply foldl_fst_good | with_reducible apply setQueue_good | intro _ | split

theorem pqRewind_good {gr : Fixed} {q : Nat} {s : State} (hg : Good gr s) : Good gr (State.pqRewind s q) := by
  unfold State.pqRewind
  repeat' first | with_reducible assumption | simp only [good_mk, setAt_length, portLost_ports, emptied_ports, List.length_map, List.length_mapIdx, List.length_range, List.length_replicate, good_core] | with_reducible apply ite_good | with_reducible apply foldl_good | with_reducible apply foldl_fst_good | with_reducible apply setQueue_good | intro _ | split

theorem pqRelease_good {gr : Fixed} {q : Nat} {s : State} (hg : Good gr s) : Good gr (State.pqRelease s q) := by
  unfold State.pqRelease
  repeat' first | with_reducible assumption | simp only [good_mk, setAt_length, portLost_ports, emptied_ports, List.length_map, List.length_mapIdx, List.length_range, List.length_replicate, good_core] | with_reducible apply ite_good | with_reducible apply foldl_good | with_reducible apply foldl_fst_good | with_reducible apply pqAfter_good | with_reducible apply setQueue_good | intro _ | split

theorem pqDescWrite_good {gr : Fixed} {o : Nat} {bs : Sys2Proof.Bytes} {s : State} (hg : Good gr s) : Good gr (State.pqDescWrite s o bs) := by
  unfold State.pqDescWrite
  repeat' first | with_reducible assumption | simp only [good_mk, setAt_length, portLost_ports, emptied_ports, List.length_map, List.length_mapIdx, List.length_range, List.length_replicate, good_core] | with_reducible apply ite_good | with_reducible apply foldl_good | with_reducible apply foldl_fst_good | with_reducible apply domPut_good | with_reducible apply setQueue_good | intro _ | split

theorem packetCommitOp_good {gr : Fixed} {q : Nat} {s : State} (hg : Good gr s) : Good gr (packetCommitOp q s) := by
  unfold packetCommitOp
  repeat' first | with_reducible assumption | simp only [good_mk, setAt_length, portLost_ports, emptied_ports, List.length_map, List.length_mapIdx, List.length_range, List.length_replicate, good_core] | with_reducible apply ite_good | with_reducible apply foldl_good | with_reducible apply foldl_fst_good | with_reducible apply pqCommit_good | with_reducible apply pqSettle_good | intro _ | split

theorem packetAbortOp_good {gr : Fixed} {q : Nat} {s : State} (hg : Good gr s) : Good gr (packetAbortOp q s) := by
  unfold packetAbortOp
  repeat' first | with_reducible assumption | simp only [good_mk, setAt_length, portLost_ports, emptied_ports, List.length_map, List.length_mapIdx, List.length_range, List.length_replicate, good_core] | with_reducible apply ite_good | with_reducible apply foldl_good | with_reducible apply foldl_fst_good | with_reducible apply pqAbort_good | with_reducible apply pqSettle_good | intro _ | split

theorem tableWrite_good {gr : Fixed} {dom : Nat} {size : Nat} {d1 : Nat} {d2 : Nat} {owner : Nat → Nat} {valid : Nat → Bool} {check : State → Nat → Option (Nat × Nat)} {after : State → Nat → Nat → State} {o : Nat} {bs : Sys2Proof.Bytes} {s : State} (hg : Good gr s) (hafter : ∀ z0 z1 z2, Good gr z0 → Good gr (after z0 z1 z2)) : Good gr (tableWrite dom size d1 d2 owner valid check after o bs s).1 := by
  unfold tableWrite
  repeat' first | with_reducible assumption | simp only [good_mk, setAt_length, portLost_ports, emptied_ports, List.length_map, List.length_mapIdx, List.length_range, List.length_replicate, good_core] | with_reducible apply ite_good | with_reducible apply foldl_good | with_reducible apply foldl_fst_good | with_reducible apply hafter | with_reducible apply domPut_good | intro _ | split

theorem copyNotice_good {gr : Fixed} {m : Nat} {d : Nat} {aborted : Bool} {s : State} (hg : Good gr s) : Good gr (State.copyNotice s m d aborted) := by
  unfold State.copyNotice
  repeat' first | with_reducible assumption | simp only [good_mk, setAt_length, portLost_ports, emptied_ports, List.length_map, List.length_mapIdx, List.length_range, List.length_replicate, good_core] | with_reducible apply ite_good | with_reducible apply foldl_good | with_reducible apply foldl_fst_good | with_reducible apply postWord_good | intro _ | split

theorem jobNotice_good {gr : Fixed} {q : Nat} {d : Nat} {aborted : Bool} {masked : Bool} {s : State} (hg : Good gr s) : Good gr (State.jobNotice s q d aborted masked) := by
  unfold State.jobNotice
  repeat' first | with_reducible assumption | simp only [good_mk, setAt_length, portLost_ports, emptied_ports, List.length_map, List.length_mapIdx, List.length_range, List.length_replicate, good_core] | with_reducible apply ite_good | with_reducible apply foldl_good | with_reducible apply foldl_fst_good | with_reducible apply postWord_good | intro _ | split

theorem endCopy_good {gr : Fixed} {m : Nat} {d : Nat} {s : State} (hg : Good gr s) : Good gr (State.endCopy s m d) := by
  unfold State.endCopy
  repeat' first | with_reducible assumption | simp only [good_mk, setAt_length, portLost_ports, emptied_ports, List.length_map, List.length_mapIdx, List.length_range, List.length_replicate, good_core] | with_reducible apply ite_good | with_reducible apply foldl_good | with_reducible apply foldl_fst_good | with_reducible apply copyNotice_good | intro _ | split

theorem endJob_good {gr : Fixed} {q : Nat} {d : Nat} {s : State} (hg : Good gr s) : Good gr (State.endJob s q d) := by
  unfold State.endJob
  repeat' first | with_reducible assumption | simp only [good_mk, setAt_length, portLost_ports, emptied_ports, List.length_map, List.length_mapIdx, List.length_range, List.length_replicate, good_core] | with_reducible apply ite_good | with_reducible apply foldl_good | with_reducible apply foldl_fst_good | with_reducible apply jobNotice_good | intro _ | split

theorem clearValid_good {gr : Fixed} {dom : Nat} {size : Nat} {n : Nat} {bitAt : Nat} {s : State} (hg : Good gr s) : Good gr (State.clearValid s dom size n bitAt) := by
  unfold State.clearValid
  repeat' first | with_reducible assumption | simp only [good_mk, setAt_length, portLost_ports, emptied_ports, List.length_map, List.length_mapIdx, List.length_range, List.length_replicate, good_core] | with_reducible apply ite_good | with_reducible apply foldl_good | with_reducible apply foldl_fst_good | with_reducible apply domPut_good | intro _ | split

theorem dropUsers_good {gr : Fixed} {n : Nat} {s : State} (hg : Good gr s) : Good gr (State.dropUsers s n) := by
  unfold State.dropUsers
  repeat' first | with_reducible assumption | simp only [good_mk, setAt_length, portLost_ports, emptied_ports, List.length_map, List.length_mapIdx, List.length_range, List.length_replicate, good_core] | with_reducible apply ite_good | with_reducible apply foldl_good | with_reducible apply foldl_fst_good | with_reducible apply endCopy_good | with_reducible apply clearValid_good | with_reducible apply endJob_good | intro _ | split

theorem invalidate_good {gr : Fixed} {p : Nat → Bool} {s : State} (hg : Good gr s) : Good gr (State.invalidate s p) := by
  unfold State.invalidate
  repeat' first | with_reducible assumption | simp only [good_mk, setAt_length, portLost_ports, emptied_ports, List.length_map, List.length_mapIdx, List.length_range, List.length_replicate, good_core] | with_reducible apply ite_good | with_reducible apply foldl_good | with_reducible apply foldl_fst_good | with_reducible apply dropUsers_good | with_reducible apply clearValid_good | intro _ | split

theorem pressDescWrite_good {gr : Fixed} {o : Nat} {bs : Sys2Proof.Bytes} {s : State} (hg : Good gr s) : Good gr (State.pressDescWrite s o bs).1 := by
  unfold State.pressDescWrite
  repeat' first | with_reducible assumption | simp only [good_mk, setAt_length, portLost_ports, emptied_ports, List.length_map, List.length_mapIdx, List.length_range, List.length_replicate, good_core] | with_reducible apply ite_good | with_reducible apply foldl_good | with_reducible apply foldl_fst_good | with_reducible apply tableWrite_good | with_reducible apply dropUsers_good | (with_reducible refine good_fst (by with_reducible assumption) ?_) | intro _ | split

theorem copyTableWrite_good {gr : Fixed} {o : Nat} {bs : Sys2Proof.Bytes} {s : State} (hg : Good gr s) : Good gr (State.copyTableWrite s o bs).1 := by
  unfold State.copyTableWrite
  repeat' first | with_reducible assumption | simp only [good_mk, setAt_length, portLost_ports, emptied_ports, List.length_map, List.length_mapIdx, List.length_range, List.length_replicate, good_core] | with_reducible apply ite_good | with_reducible apply foldl_good | with_reducible apply foldl_fst_good | with_reducible apply tableWrite_good | with_reducible apply endCopy_good | (with_reducible refine good_fst (by with_reducible assumption) ?_) | intro _ | split

theorem ldPut_good {gr : Fixed} {d : Nat} {a : Nat} {bs : Sys2Proof.Bytes} {s : State} (hg : Good gr s) : Good gr (State.ldPut s d a bs) := by
  unfold State.ldPut
  repeat' first | with_reducible assumption | simp only [good_mk, setAt_length, portLost_ports, emptied_ports, List.length_map, List.length_mapIdx, List.length_range, List.length_replicate, good_core] | with_reducible apply ite_good | with_reducible apply foldl_good | with_reducible apply foldl_fst_good | with_reducible apply core_mem | with_reducible apply core_stg | with_reducible apply core_qs | intro _ | split

theorem ldTouch_good {gr : Fixed} {d : Nat} {write : Bool} {ls : List Nat} {s : State} (hg : Good gr s) : Good gr (State.ldTouch s d write ls) := by
  unfold State.ldTouch
  repeat' first | with_reducible assumption | simp only [good_mk, setAt_length, portLost_ports, emptied_ports, List.length_map, List.length_mapIdx, List.length_range, List.length_replicate, good_core] | with_reducible apply ite_good | with_reducible apply foldl_good | with_reducible apply foldl_fst_good | with_reducible apply count64_good | with_reducible apply bankTouch_good | intro _ | split

theorem rowPut_good {gr : Fixed} {d : Nat} {row : List Nat} {els : List Nat} {scales : List Nat} {s : State} (hg : Good gr s) : Good gr (State.rowPut s d row els scales) := by
  unfold State.rowPut
  repeat' first | with_reducible assumption | simp only [good_mk, setAt_length, portLost_ports, emptied_ports, List.length_map, List.length_mapIdx, List.length_range, List.length_replicate, good_core] | with_reducible apply ite_good | with_reducible apply foldl_good | with_reducible apply foldl_fst_good | with_reducible apply ldPut_good | intro _ | split

theorem ldReadAll_good {gr : Fixed} {d : Nat} {counted : Bool} {s : State} (hg : Good gr s) : Good gr (State.ldReadAll s d counted) := by
  unfold State.ldReadAll
  repeat' first | with_reducible assumption | simp only [good_mk, setAt_length, portLost_ports, emptied_ports, List.length_map, List.length_mapIdx, List.length_range, List.length_replicate, good_core] | with_reducible apply ite_good | with_reducible apply foldl_good | with_reducible apply foldl_fst_good | with_reducible apply hostRead_good | with_reducible apply stgRead_good | intro _ | split

theorem ldWriteAll_good {gr : Fixed} {d : Nat} {counted : Bool} {s : State} (hg : Good gr s) : Good gr (State.ldWriteAll s d counted) := by
  unfold State.ldWriteAll
  repeat' first | with_reducible assumption | simp only [good_mk, setAt_length, portLost_ports, emptied_ports, List.length_map, List.length_mapIdx, List.length_range, List.length_replicate, good_core] | with_reducible apply ite_good | with_reducible apply foldl_good | with_reducible apply foldl_fst_good | with_reducible apply count64_good | with_reducible apply bankTouch_good | intro _ | split

theorem copyMove_good {gr : Fixed} {a : Nat} {b : Nat} {c : Nat} {s : State} (hg : Good gr s) : Good gr (State.copyMove s a b c) := by
  unfold State.copyMove
  repeat' first | with_reducible assumption | simp only [good_mk, setAt_length, portLost_ports, emptied_ports, List.length_map, List.length_mapIdx, List.length_range, List.length_replicate, good_core] | with_reducible apply ite_good | with_reducible apply foldl_good | with_reducible apply foldl_fst_good | with_reducible apply rowPut_good | with_reducible apply ldWriteAll_good | with_reducible apply ldReadAll_good | with_reducible apply nonFinite_good | intro _ | split

theorem copyPart_good {gr : Fixed} {a : Nat} {b : Nat} {c : Nat} {n : Nat} {s : State} (hg : Good gr s) : Good gr (State.copyPart s a b c n).1 := by
  unfold State.copyPart
  repeat' first | with_reducible assumption | simp only [good_mk, setAt_length, portLost_ports, emptied_ports, List.length_map, List.length_mapIdx, List.length_range, List.length_replicate, good_core] | with_reducible apply ite_good | with_reducible apply foldl_good | with_reducible apply foldl_fst_good | with_reducible apply rowPut_good | with_reducible apply ldTouch_good | with_reducible apply ldPut_good | with_reducible apply nonFinite_good | intro _ | split

theorem copyBeginOp_good {gr : Fixed} {s : State} (hg : Good gr s) : Good gr (copyBeginOp s) := by
  unfold copyBeginOp
  repeat' first | with_reducible assumption | simp only [good_mk, setAt_length, portLost_ports, emptied_ports, List.length_map, List.length_mapIdx, List.length_range, List.length_replicate, good_core] | with_reducible apply ite_good | with_reducible apply foldl_good | with_reducible apply foldl_fst_good | intro _ | split

theorem copyCompleteOp_good {gr : Fixed} {s : State} (hg : Good gr s) : Good gr (copyCompleteOp s) := by
  unfold copyCompleteOp
  repeat' first | with_reducible assumption | simp only [good_mk, setAt_length, portLost_ports, emptied_ports, List.length_map, List.length_mapIdx, List.length_range, List.length_replicate, good_core] | with_reducible apply ite_good | with_reducible apply foldl_good | with_reducible apply foldl_fst_good | with_reducible apply copyPart_good | with_reducible apply count_good | with_reducible apply copyNotice_good | with_reducible apply copyMove_good | (with_reducible refine good_fst (by with_reducible assumption) ?_) | intro _ | split

theorem copyStart_good {gr : Fixed} {m : Nat} {s : State} (hg : Good gr s) : Good gr (State.copyStart s m).1 := by
  unfold State.copyStart
  repeat' first | with_reducible assumption | simp only [good_mk, setAt_length, portLost_ports, emptied_ports, List.length_map, List.length_mapIdx, List.length_range, List.length_replicate, good_core] | with_reducible apply ite_good | with_reducible apply foldl_good | with_reducible apply foldl_fst_good | intro _ | split

theorem scanNotice_good {gr : Fixed} {d : Nat} {status : Nat} {result : Nat} {s : State} (hg : Good gr s) : Good gr (State.scanNotice s d status result) := by
  unfold State.scanNotice
  repeat' first | with_reducible assumption | simp only [good_mk, setAt_length, portLost_ports, emptied_ports, List.length_map, List.length_mapIdx, List.length_range, List.length_replicate, good_core] | with_reducible apply ite_good | with_reducible apply foldl_good | with_reducible apply foldl_fst_good | with_reducible apply postWord_good | intro _ | split

theorem endScans_good {gr : Fixed} {p : Nat → Bool} {s : State} (hg : Good gr s) : Good gr (State.endScans s p) := by
  unfold State.endScans
  repeat' first | with_reducible assumption | simp only [good_mk, setAt_length, portLost_ports, emptied_ports, List.length_map, List.length_mapIdx, List.length_range, List.length_replicate, good_core] | with_reducible apply ite_good | with_reducible apply foldl_good | with_reducible apply foldl_fst_good | with_reducible apply scanNotice_good | intro _ | split

theorem bufferGone_good {gr : Fixed} {host : Bool} {a : Nat} {n : Nat} {s : State} (hg : Good gr s) : Good gr (State.bufferGone s host a n) := by
  unfold State.bufferGone
  repeat' first | with_reducible assumption | simp only [good_mk, setAt_length, portLost_ports, emptied_ports, List.length_map, List.length_mapIdx, List.length_range, List.length_replicate, good_core] | with_reducible apply ite_good | with_reducible apply foldl_good | with_reducible apply foldl_fst_good | with_reducible apply invalidate_good | with_reducible apply clearValid_good | with_reducible apply endScans_good | intro _ | split

theorem freeBuffer_good {gr : Fixed} {c : Nat} {i : Nat} {s : State} (hg : Good gr s) : Good gr (State.freeBuffer s c i) := by
  unfold State.freeBuffer
  repeat' first | with_reducible assumption | simp only [good_mk, setAt_length, portLost_ports, emptied_ports, List.length_map, List.length_mapIdx, List.length_range, List.length_replicate, good_core] | with_reducible apply ite_good | with_reducible apply foldl_good | with_reducible apply foldl_fst_good | with_reducible apply setPool_good | with_reducible apply put_good | with_reducible apply bufferGone_good | with_reducible apply startSpill_good | intro _ | split

theorem freeOp_good {gr : Fixed} {host : Bool} {ctx : Nat} {a : Nat} {s : State} (hg : Good gr s) : Good gr (freeOp host ctx a s) := by
  unfold freeOp
  repeat' first | with_reducible assumption | simp only [good_mk, setAt_length, portLost_ports, emptied_ports, List.length_map, List.length_mapIdx, List.length_range, List.length_replicate, good_core] | with_reducible apply ite_good | with_reducible apply foldl_good | with_reducible apply foldl_fst_good | with_reducible apply freeBuffer_good | with_reducible apply count_good | with_reducible apply log_good | with_reducible apply replayStep_good | intro _ | split

theorem dropPiece_good {gr : Fixed} {k : PieceKey} {s : State} (hg : Good gr s) : Good gr (State.dropPiece s k) := by
  unfold State.dropPiece
  repeat' first | with_reducible assumption | simp only [good_mk, setAt_length, portLost_ports, emptied_ports, List.length_map, List.length_mapIdx, List.length_range, List.length_replicate, good_core] | with_reducible apply ite_good | with_reducible apply foldl_good | with_reducible apply foldl_fst_good | with_reducible apply freeOp_good | intro _ | split

theorem freeAll_good {gr : Fixed} {ctx : Nat} {s : State} (hg : Good gr s) : Good gr (State.freeAll s ctx) := by
  unfold State.freeAll
  repeat' first | with_reducible assumption | simp only [good_mk, setAt_length, portLost_ports, emptied_ports, List.length_map, List.length_mapIdx, List.length_range, List.length_replicate, good_core] | with_reducible apply ite_good | with_reducible apply foldl_good | with_reducible apply foldl_fst_good | with_reducible apply freeBuffer_good | intro _ | split

theorem touch_good {gr : Fixed} {d : Nat} {write : Bool} {as : List (Nat × Nat)} {s : State} (hg : Good gr s) : Good gr (State.touch s d write as) := by
  unfold State.touch
  repeat' first | with_reducible assumption | simp only [good_mk, setAt_length, portLost_ports, emptied_ports, List.length_map, List.length_mapIdx, List.length_range, List.length_replicate, good_core] | with_reducible apply ite_good | with_reducible apply foldl_good | with_reducible apply foldl_fst_good | with_reducible apply count64_good | with_reducible apply bankTouch_good | intro _ | split

theorem elemsPut_good {gr : Fixed} {d : Nat} {a : Nat} {xs : List Nat} {s : State} (hg : Good gr s) : Good gr (State.elemsPut s d a xs) := by
  unfold State.elemsPut
  repeat' first | with_reducible assumption | simp only [good_mk, setAt_length, portLost_ports, emptied_ports, List.length_map, List.length_mapIdx, List.length_range, List.length_replicate, good_core] | with_reducible apply ite_good | with_reducible apply foldl_good | with_reducible apply foldl_fst_good | with_reducible apply touch_good | with_reducible apply ldPut_good | intro _ | split

theorem setLayerGrad_good {gr : Fixed} {g : LayerGrad} {s : State} (hg : Good gr s) : Good gr (State.setLayerGrad s g) := by
  unfold State.setLayerGrad
  repeat' first | with_reducible assumption | simp only [good_mk, setAt_length, portLost_ports, emptied_ports, List.length_map, List.length_mapIdx, List.length_range, List.length_replicate, good_core] | with_reducible apply ite_good | with_reducible apply foldl_good | with_reducible apply foldl_fst_good | intro _ | split

theorem accRead_good {gr : Fixed} {c : Nat} {l : Sys2Proof.Bytes} {a : Nat} {b : Nat} {s : State} (hg : Good gr s) : Good gr (State.accRead s c l a b) := by
  unfold State.accRead
  repeat' first | with_reducible assumption | simp only [good_mk, setAt_length, portLost_ports, emptied_ports, List.length_map, List.length_mapIdx, List.length_range, List.length_replicate, good_core] | with_reducible apply ite_good | with_reducible apply foldl_good | with_reducible apply foldl_fst_good | with_reducible apply hostRead_good | with_reducible apply stgRead_good | intro _ | split

theorem accPut_good {gr : Fixed} {c : Nat} {l : Sys2Proof.Bytes} {a : Nat} {xs : List Sys2Proof.F32} {s : State} (hg : Good gr s) : Good gr (State.accPut s c l a xs) := by
  unfold State.accPut
  repeat' first | with_reducible assumption | simp only [good_mk, setAt_length, portLost_ports, emptied_ports, List.length_map, List.length_mapIdx, List.length_range, List.length_replicate, good_core] | with_reducible apply ite_good | with_reducible apply foldl_good | with_reducible apply foldl_fst_good | with_reducible apply hostWrite_good | with_reducible apply stgWrite_good | intro _ | split

theorem updAudit_good {gr : Fixed} {c : Nat} {st : Nat} {f : Audit → Audit} {s : State} (hg : Good gr s) : Good gr (State.updAudit s c st f) := by
  unfold State.updAudit
  repeat' first | with_reducible assumption | simp only [good_mk, setAt_length, portLost_ports, emptied_ports, List.length_map, List.length_mapIdx, List.length_range, List.length_replicate, good_core] | with_reducible apply ite_good | with_reducible apply foldl_good | with_reducible apply foldl_fst_good | intro _ | split

theorem noteVal_good {gr : Fixed} {c : Nat} {st : Nat} {layer : Nat} {tile : Nat} {it : Nat} {v : Nat} {s : State} (hg : Good gr s) : Good gr (State.noteVal s c st layer tile it v) := by
  unfold State.noteVal
  repeat' first | with_reducible assumption | simp only [good_mk, setAt_length, portLost_ports, emptied_ports, List.length_map, List.length_mapIdx, List.length_range, List.length_replicate, good_core] | with_reducible apply ite_good | with_reducible apply foldl_good | with_reducible apply foldl_fst_good | with_reducible apply updAudit_good | intro _ | split

theorem noteClosable_good {gr : Fixed} {c : Nat} {st : Nat} {layer : Nat} {kind : Nat} {tile : Nat} {s : State} (hg : Good gr s) : Good gr (State.noteClosable s c st layer kind tile) := by
  unfold State.noteClosable
  repeat' first | with_reducible assumption | simp only [good_mk, setAt_length, portLost_ports, emptied_ports, List.length_map, List.length_mapIdx, List.length_range, List.length_replicate, good_core] | with_reducible apply ite_good | with_reducible apply foldl_good | with_reducible apply foldl_fst_good | with_reducible apply updAudit_good | intro _ | split

theorem notePhase_good {gr : Fixed} {c : Nat} {st : Nat} {seq : Nat} {key : List Nat} {crc : Nat} {s : State} (hg : Good gr s) : Good gr (State.notePhase s c st seq key crc) := by
  unfold State.notePhase
  repeat' first | with_reducible assumption | simp only [good_mk, setAt_length, portLost_ports, emptied_ports, List.length_map, List.length_mapIdx, List.length_range, List.length_replicate, good_core] | with_reducible apply ite_good | with_reducible apply foldl_good | with_reducible apply foldl_fst_good | with_reducible apply updAudit_good | intro _ | split

theorem inputFold_good {gr : Fixed} {c : Nat} {st : Nat} {kind : Nat} {layer : Nat} {tile : Nat} {crc : Nat} {s : State} (hg : Good gr s) : Good gr (State.inputFold s c st kind layer tile crc) := by
  unfold State.inputFold
  repeat' first | with_reducible assumption | simp only [good_mk, setAt_length, portLost_ports, emptied_ports, List.length_map, List.length_mapIdx, List.length_range, List.length_replicate, good_core] | with_reducible apply ite_good | with_reducible apply foldl_good | with_reducible apply foldl_fst_good | with_reducible apply rpl_good | intro _ | split

theorem setSeq_good {gr : Fixed} {c : Nat} {st : Nat} {port : Nat} {toTile : Bool} {n : Nat} {s : State} (hg : Good gr s) : Good gr (State.setSeq s c st port toTile n) := by
  unfold State.setSeq
  repeat' first | with_reducible assumption | simp only [good_mk, setAt_length, portLost_ports, emptied_ports, List.length_map, List.length_mapIdx, List.length_range, List.length_replicate, good_core] | with_reducible apply ite_good | with_reducible apply foldl_good | with_reducible apply foldl_fst_good | intro _ | split

theorem tileSpend_good {gr : Fixed} {p : Nat} {chunks : Nat} {flits : Nat} {s : State} (hg : Good gr s) : Good gr (State.tileSpend s p chunks flits) := by
  unfold State.tileSpend
  repeat' first | with_reducible assumption | simp only [good_mk, setAt_length, portLost_ports, emptied_ports, List.length_map, List.length_mapIdx, List.length_range, List.length_replicate, good_core] | with_reducible apply ite_good | with_reducible apply foldl_good | with_reducible apply foldl_fst_good | intro _ | split

theorem emitControl_good {gr : Fixed} {p : Nat} {es : List Sys2Proof.Bytes} {s : State} (hg : Good gr s) : Good gr (State.emitControl s p es) := by
  unfold State.emitControl
  repeat' first | with_reducible assumption | simp only [good_mk, setAt_length, portLost_ports, emptied_ports, List.length_map, List.length_mapIdx, List.length_range, List.length_replicate, good_core] | with_reducible apply ite_good | with_reducible apply foldl_good | with_reducible apply foldl_fst_good | with_reducible apply count64_good | with_reducible apply emit_good | with_reducible apply tileSpend_good | intro _ | split

theorem queueRel_good {gr : Fixed} {port : Nat} {status : Nat} {slot : Nat} {c : Nat} {seq : Nat} {st : Nat} {order : Nat} {s : State} (hg : Good gr s) : Good gr (State.queueRel s port status slot c seq st order) := by
  unfold State.queueRel
  repeat' first | with_reducible assumption | simp only [good_mk, setAt_length, portLost_ports, emptied_ports, List.length_map, List.length_mapIdx, List.length_range, List.length_replicate, good_core] | with_reducible apply ite_good | with_reducible apply foldl_good | with_reducible apply foldl_fst_good | intro _ | split

theorem setWin_good {gr : Fixed} {w : Win} {s : State} (hg : Good gr s) : Good gr (State.setWin s w) := by
  unfold State.setWin
  repeat' first | with_reducible assumption | simp only [good_mk, setAt_length, portLost_ports, emptied_ports, List.length_map, List.length_mapIdx, List.length_range, List.length_replicate, good_core] | with_reducible apply ite_good | with_reducible apply foldl_good | with_reducible apply foldl_fst_good | intro _ | split

theorem dropWin_good {gr : Fixed} {w : Win} {s : State} (hg : Good gr s) : Good gr (State.dropWin s w) := by
  unfold State.dropWin
  repeat' first | with_reducible assumption | simp only [good_mk, setAt_length, portLost_ports, emptied_ports, List.length_map, List.length_mapIdx, List.length_range, List.length_replicate, good_core] | with_reducible apply ite_good | with_reducible apply foldl_good | with_reducible apply foldl_fst_good | intro _ | split

theorem setColl_good {gr : Fixed} {o : Coll} {s : State} (hg : Good gr s) : Good gr (State.setColl s o) := by
  unfold State.setColl
  repeat' first | with_reducible assumption | simp only [good_mk, setAt_length, portLost_ports, emptied_ports, List.length_map, List.length_mapIdx, List.length_range, List.length_replicate, good_core] | with_reducible apply ite_good | with_reducible apply foldl_good | with_reducible apply foldl_fst_good | intro _ | split

theorem setSlot_good {gr : Fixed} {p : PieceSlot} {s : State} (hg : Good gr s) : Good gr (State.setSlot s p) := by
  unfold State.setSlot
  repeat' first | with_reducible assumption | simp only [good_mk, setAt_length, portLost_ports, emptied_ports, List.length_map, List.length_mapIdx, List.length_range, List.length_replicate, good_core] | with_reducible apply ite_good | with_reducible apply foldl_good | with_reducible apply foldl_fst_good | intro _ | split

theorem putPart_good {gr : Fixed} {p : PieceSlot} {kind : Nat} {node : Nat} {bs : Sys2Proof.Bytes} {s : State} (hg : Good gr s) : Good gr (State.putPart s p kind node bs) := by
  unfold State.putPart
  repeat' first | with_reducible assumption | simp only [good_mk, setAt_length, portLost_ports, emptied_ports, List.length_map, List.length_mapIdx, List.length_range, List.length_replicate, good_core] | with_reducible apply ite_good | with_reducible apply foldl_good | with_reducible apply foldl_fst_good | with_reducible apply stgWrite_good | with_reducible apply setSlot_good | intro _ | split

theorem dropSlot_good {gr : Fixed} {p : PieceSlot} {s : State} (hg : Good gr s) : Good gr (State.dropSlot s p) := by
  unfold State.dropSlot
  repeat' first | with_reducible assumption | simp only [good_mk, setAt_length, portLost_ports, emptied_ports, List.length_map, List.length_mapIdx, List.length_range, List.length_replicate, good_core] | with_reducible apply ite_good | with_reducible apply foldl_good | with_reducible apply foldl_fst_good | intro _ | split

theorem settleSlot_good {gr : Fixed} {c : Nat} {st : Nat} {group : Nat} {seq : Nat} {piece : Nat} {s : State} (hg : Good gr s) : Good gr (State.settleSlot s c st group seq piece) := by
  unfold State.settleSlot
  repeat' first | with_reducible assumption | simp only [good_mk, setAt_length, portLost_ports, emptied_ports, List.length_map, List.length_mapIdx, List.length_range, List.length_replicate, good_core] | with_reducible apply ite_good | with_reducible apply foldl_good | with_reducible apply foldl_fst_good | with_reducible apply dropSlot_good | intro _ | split

theorem collSignal_good {gr : Fixed} {o : Coll} {kind : Nat} {piece : Nat} {status : Nat} {past : Nat} {pad : Nat} {s : State} (hg : Good gr s) : Good gr (State.collSignal s o kind piece status past pad) := by
  unfold State.collSignal
  repeat' first | with_reducible assumption | simp only [good_mk, setAt_length, portLost_ports, emptied_ports, List.length_map, List.length_mapIdx, List.length_range, List.length_replicate, good_core] | with_reducible apply ite_good | with_reducible apply foldl_good | with_reducible apply foldl_fst_good | with_reducible apply postWord_good | intro _ | split

theorem collEnd_good {gr : Fixed} {o : Coll} {status : Nat} {s : State} (hg : Good gr s) : Good gr (State.collEnd s o status) := by
  unfold State.collEnd
  repeat' first | with_reducible assumption | simp only [good_mk, setAt_length, portLost_ports, emptied_ports, List.length_map, List.length_mapIdx, List.length_range, List.length_replicate, good_core] | with_reducible apply ite_good | with_reducible apply foldl_good | with_reducible apply foldl_fst_good | with_reducible apply collSignal_good | intro _ | split

theorem collAbort_good {gr : Fixed} {o : Coll} {cls : Nat} {det : Nat} {node : Option Nat} {s : State} (hg : Good gr s) : Good gr (State.collAbort s o cls det node) := by
  unfold State.collAbort
  repeat' first | with_reducible assumption | simp only [good_mk, setAt_length, portLost_ports, emptied_ports, List.length_map, List.length_mapIdx, List.length_range, List.length_replicate, good_core] | with_reducible apply ite_good | with_reducible apply foldl_good | with_reducible apply foldl_fst_good | with_reducible apply setColl_good | with_reducible apply count_good | with_reducible apply collEnd_good | with_reducible apply log_good | with_reducible apply faultStop_good | with_reducible apply imposeStop_good | with_reducible apply replayStep_good | with_reducible apply setCtx_good | intro _ | split

theorem collectiveOp_good {gr : Fixed} {c : Nat} {group : Nat} {seq : Nat} {src : Nat} {dst : Nat} {fmt : Nat} {cap : Nat} {queue : Nat} {signal : Bool} {kind : Nat} {layer : Nat} {s : State} (hg : Good gr s) : Good gr (collectiveOp c group seq src dst fmt cap queue signal kind layer s) := by
  unfold collectiveOp
  repeat' first | with_reducible assumption | simp only [good_mk, setAt_length, portLost_ports, emptied_ports, List.length_map, List.length_mapIdx, List.length_range, List.length_replicate, good_core] | with_reducible apply ite_good | with_reducible apply foldl_good | with_reducible apply foldl_fst_good | with_reducible apply issue_good | with_reducible apply setColl_good | with_reducible apply collEnd_good | intro _ | split

theorem collectiveBeginOp_good {gr : Fixed} {c : Nat} {group : Nat} {seq : Nat} {s : State} (hg : Good gr s) : Good gr (collectiveBeginOp c group seq s) := by
  unfold collectiveBeginOp
  repeat' first | with_reducible assumption | simp only [good_mk, setAt_length, portLost_ports, emptied_ports, List.length_map, List.length_mapIdx, List.length_range, List.length_replicate, good_core] | with_reducible apply ite_good | with_reducible apply foldl_good | with_reducible apply foldl_fst_good | with_reducible apply setColl_good | with_reducible apply count_good | intro _ | split

theorem collOwnRead_good {gr : Fixed} {o : Coll} {j : Nat} {s : State} (hg : Good gr s) : Good gr (State.collOwnRead s o j) := by
  unfold State.collOwnRead
  repeat' first | with_reducible assumption | simp only [good_mk, setAt_length, portLost_ports, emptied_ports, List.length_map, List.length_mapIdx, List.length_range, List.length_replicate, good_core] | with_reducible apply ite_good | with_reducible apply foldl_good | with_reducible apply foldl_fst_good | with_reducible apply touch_good | with_reducible apply accRead_good | intro _ | split

theorem takeSlot_good {gr : Fixed} {s t : State} {c st g q j : Nat} {d : Bool} {p : PieceSlot} (e : s.takeSlot c st g q j d = some (t, p)) (hg : Good gr s) : Good gr t := by
  unfold State.takeSlot at e
  split at e
  · cases e
    with_reducible exact hg
  · dsimp only at e
    split at e
    · cases e
    · cases e
      simp only [good_mk, setAt_length, portLost_ports, emptied_ports, List.length_map, List.length_mapIdx, List.length_range, List.length_replicate, good_core]
      with_reducible exact hg

theorem collectiveUpValueOp_good {gr : Fixed} {c : Nat} {group : Nat} {seq : Nat} {j : Nat} {s : State} (hg : Good gr s) : Good gr (collectiveUpValueOp c group seq j s) := by
  unfold collectiveUpValueOp
  repeat' first | with_reducible assumption | simp only [good_mk, setAt_length, portLost_ports, emptied_ports, List.length_map, List.length_mapIdx, List.length_range, List.length_replicate, good_core] | with_reducible apply ite_good | with_reducible apply foldl_good | with_reducible apply foldl_fst_good | with_reducible apply collOwnRead_good | with_reducible apply putPart_good | with_reducible apply setColl_good | with_reducible apply busy_good | with_reducible apply nonFinite_good | (with_reducible refine takeSlot_good (by with_reducible assumption) ?_) | intro _ | split

theorem collRead_good {gr : Fixed} {o : Coll} {j : Nat} {s : State} (hg : Good gr s) : Good gr (State.collRead s o j) := by
  unfold State.collRead
  repeat' first | with_reducible assumption | simp only [good_mk, setAt_length, portLost_ports, emptied_ports, List.length_map, List.length_mapIdx, List.length_range, List.length_replicate, good_core] | with_reducible apply ite_good | with_reducible apply foldl_good | with_reducible apply foldl_fst_good | with_reducible apply stgRead_good | intro _ | split

theorem collPut_good {gr : Fixed} {o : Coll} {j : Nat} {bs : Sys2Proof.Bytes} {s : State} (hg : Good gr s) : Good gr (State.collPut s o j bs) := by
  unfold State.collPut
  repeat' first | with_reducible assumption | simp only [good_mk, setAt_length, portLost_ports, emptied_ports, List.length_map, List.length_mapIdx, List.length_range, List.length_replicate, good_core] | with_reducible apply ite_good | with_reducible apply foldl_good | with_reducible apply foldl_fst_good | with_reducible apply elemsPut_good | with_reducible apply setLayerGrad_good | intro _ | split

theorem collectiveResultWriteOp_good {gr : Fixed} {c : Nat} {group : Nat} {seq : Nat} {j : Nat} {s : State} (hg : Good gr s) : Good gr (collectiveResultWriteOp c group seq j s) := by
  unfold collectiveResultWriteOp
  repeat' first | with_reducible assumption | simp only [good_mk, setAt_length, portLost_ports, emptied_ports, List.length_map, List.length_mapIdx, List.length_range, List.length_replicate, good_core] | with_reducible apply ite_good | with_reducible apply foldl_good | with_reducible apply foldl_fst_good | with_reducible apply collPut_good | with_reducible apply collRead_good | with_reducible apply collSignal_good | with_reducible apply setColl_good | with_reducible apply collEnd_good | with_reducible apply count_good | with_reducible apply busy_good | with_reducible apply settleSlot_good | intro _ | split

theorem collectiveTimeoutOp_good {gr : Fixed} {c : Nat} {group : Nat} {seq : Nat} {s : State} (hg : Good gr s) : Good gr (collectiveTimeoutOp c group seq s) := by
  unfold collectiveTimeoutOp
  repeat' first | with_reducible assumption | simp only [good_mk, setAt_length, portLost_ports, emptied_ports, List.length_map, List.length_mapIdx, List.length_range, List.length_replicate, good_core] | with_reducible apply ite_good | with_reducible apply foldl_good | with_reducible apply foldl_fst_good | with_reducible apply collAbort_good | intro _ | split

theorem collReleased_good {gr : Fixed} {c : Nat} {st : Nat} {group : Nat} {seq : Nat} {j : Nat} {dst : Nat} {s : State} (hg : Good gr s) : Good gr (State.collReleased s c st group seq j dst) := by
  unfold State.collReleased
  repeat' first | with_reducible assumption | simp only [good_mk, setAt_length, portLost_ports, emptied_ports, List.length_map, List.length_mapIdx, List.length_range, List.length_replicate, good_core] | with_reducible apply ite_good | with_reducible apply foldl_good | with_reducible apply foldl_fst_good | with_reducible apply settleSlot_good | with_reducible apply setColl_good | intro _ | split

theorem copyView_good {gr : Fixed} {s : State} (hg : Good gr s) : Good gr (State.copyView s) := by
  unfold State.copyView
  repeat' first | with_reducible assumption | simp only [good_mk, setAt_length, portLost_ports, emptied_ports, List.length_map, List.length_mapIdx, List.length_range, List.length_replicate, good_core] | with_reducible apply ite_good | with_reducible apply foldl_good | with_reducible apply foldl_fst_good | intro _ | split

theorem flushTap_good {gr : Fixed} {edges : Nat} {last : Nat} {s : State} (hg : Good gr s) : Good gr (State.flushTap s edges last) := by
  unfold State.flushTap
  repeat' first | with_reducible assumption | simp only [good_mk, setAt_length, portLost_ports, emptied_ports, List.length_map, List.length_mapIdx, List.length_range, List.length_replicate, good_core] | with_reducible apply ite_good | with_reducible apply foldl_good | with_reducible apply foldl_fst_good | intro _ | split

theorem joinLatch_good {gr : Fixed} {l : Latch} {origin : Nat} {cmd : Option (Nat × Nat)} {s : State} (hg : Good gr s) : Good gr (State.joinLatch s l origin cmd) := by
  unfold State.joinLatch
  repeat' first | with_reducible assumption | simp only [good_mk, setAt_length, portLost_ports, emptied_ports, List.length_map, List.length_mapIdx, List.length_range, List.length_replicate, good_core] | with_reducible apply ite_good | with_reducible apply foldl_good | with_reducible apply foldl_fst_good | intro _ | split

theorem traceLatch_good {gr : Fixed} {id : Nat} {n : Nat} {origin : Nat} {s : State} (hg : Good gr s) : Good gr (State.traceLatch s id n origin) := by
  unfold State.traceLatch
  repeat' first | with_reducible assumption | simp only [good_mk, setAt_length, portLost_ports, emptied_ports, List.length_map, List.length_mapIdx, List.length_range, List.length_replicate, good_core] | with_reducible apply ite_good | with_reducible apply foldl_good | with_reducible apply foldl_fst_good | with_reducible apply put_good | with_reducible apply trace_good | intro _ | split

theorem takeLatch_good {gr : Fixed} {origin : Nat} {cmd : Option (Nat × Nat)} {s : State} (hg : Good gr s) : Good gr (State.takeLatch s origin cmd) := by
  unfold State.takeLatch
  repeat' first | with_reducible assumption | simp only [good_mk, setAt_length, portLost_ports, emptied_ports, List.length_map, List.length_mapIdx, List.length_range, List.length_replicate, good_core] | with_reducible apply ite_good | with_reducible apply foldl_good | with_reducible apply foldl_fst_good | with_reducible apply busyAll_good | with_reducible apply traceLatch_good | with_reducible apply emit_good | with_reducible apply flushTap_good | intro _ | split

theorem latchEdge_good {gr : Fixed} {origin : Nat} {cmd : Option (Nat × Nat)} {s : State} (hg : Good gr s) : Good gr (State.latchEdge s origin cmd) := by
  unfold State.latchEdge
  repeat' first | with_reducible assumption | simp only [good_mk, setAt_length, portLost_ports, emptied_ports, List.length_map, List.length_mapIdx, List.length_range, List.length_replicate, good_core] | with_reducible apply ite_good | with_reducible apply foldl_good | with_reducible apply foldl_fst_good | with_reducible apply joinLatch_good | with_reducible apply count_good | with_reducible apply takeLatch_good | intro _ | split

theorem dueLatches_good {gr : Fixed} {s : State} (hg : Good gr s) : Good gr (State.dueLatches s) := by
  unfold State.dueLatches
  repeat' first | with_reducible assumption | simp only [good_mk, setAt_length, portLost_ports, emptied_ports, List.length_map, List.length_mapIdx, List.length_range, List.length_replicate, good_core] | with_reducible apply ite_good | with_reducible apply foldl_good | with_reducible apply foldl_fst_good | with_reducible apply latchEdge_good | intro _ | split

theorem latchIn_good {gr : Fixed} {origin : Nat} {n : Nat} {s : State} (hg : Good gr s) : Good gr (State.latchIn s origin n) := by
  unfold State.latchIn
  repeat' first | with_reducible assumption | simp only [good_mk, setAt_length, portLost_ports, emptied_ports, List.length_map, List.length_mapIdx, List.length_range, List.length_replicate, good_core] | with_reducible apply ite_good | with_reducible apply foldl_good | with_reducible apply foldl_fst_good | intro _ | split

theorem snapshotImageDoneOp_good {gr : Fixed} {s : State} (hg : Good gr s) : Good gr (snapshotImageDoneOp s) := by
  unfold snapshotImageDoneOp
  repeat' first | with_reducible assumption | simp only [good_mk, setAt_length, portLost_ports, emptied_ports, List.length_map, List.length_mapIdx, List.length_range, List.length_replicate, good_core] | with_reducible apply ite_good | with_reducible apply foldl_good | with_reducible apply foldl_fst_good | with_reducible apply domPut_good | with_reducible apply put_good | intro _ | split

theorem snapshotOp_good {gr : Fixed} {c : Nat} {id : Nat} {s : State} (hg : Good gr s) : Good gr (snapshotOp c id s) := by
  unfold snapshotOp
  repeat' first | with_reducible assumption | simp only [good_mk, setAt_length, portLost_ports, emptied_ports, List.length_map, List.length_mapIdx, List.length_range, List.length_replicate, good_core] | with_reducible apply ite_good | with_reducible apply foldl_good | with_reducible apply foldl_fst_good | with_reducible apply latchEdge_good | with_reducible apply issue_good | intro _ | split

theorem snapInEdgeOp_good {gr : Fixed} {s : State} (hg : Good gr s) : Good gr (snapInEdgeOp s) := by
  unfold snapInEdgeOp
  repeat' first | with_reducible assumption | simp only [good_mk, setAt_length, portLost_ports, emptied_ports, List.length_map, List.length_mapIdx, List.length_range, List.length_replicate, good_core] | with_reducible apply ite_good | with_reducible apply foldl_good | with_reducible apply foldl_fst_good | with_reducible apply latchIn_good | intro _ | split

theorem snapControlOp_good {gr : Fixed} {v : Nat} {s : State} (hg : Good gr s) : Good gr (snapControlOp v s) := by
  unfold snapControlOp
  repeat' first | with_reducible assumption | simp only [good_mk, setAt_length, portLost_ports, emptied_ports, List.length_map, List.length_mapIdx, List.length_range, List.length_replicate, good_core] | with_reducible apply ite_good | with_reducible apply foldl_good | with_reducible apply foldl_fst_good | with_reducible apply latchIn_good | intro _ | split

theorem trcControlOp_good {gr : Fixed} {v : Nat} {s : State} (hg : Good gr s) : Good gr (trcControlOp v s) := by
  unfold trcControlOp
  repeat' first | with_reducible assumption | simp only [good_mk, setAt_length, portLost_ports, emptied_ports, List.length_map, List.length_mapIdx, List.length_range, List.length_replicate, good_core] | with_reducible apply ite_good | with_reducible apply foldl_good | with_reducible apply foldl_fst_good | with_reducible apply put_good | intro _ | split

theorem rplControlOp_good {gr : Fixed} {v : Nat} {s : State} (hg : Good gr s) : Good gr (rplControlOp v s) := by
  unfold rplControlOp
  repeat' first | with_reducible assumption | simp only [good_mk, setAt_length, portLost_ports, emptied_ports, List.length_map, List.length_mapIdx, List.length_range, List.length_replicate, good_core] | with_reducible apply ite_good | with_reducible apply foldl_good | with_reducible apply foldl_fst_good | with_reducible apply put_good | intro _ | split

theorem obsCountClearOp_good {gr : Fixed} {s : State} (hg : Good gr s) : Good gr (obsCountClearOp s) := by
  unfold obsCountClearOp
  repeat' first | with_reducible apply core_regs | with_reducible apply core_dom | with_reducible assumption | simp only [good_mk, setAt_length, portLost_ports, emptied_ports, List.length_map, List.length_mapIdx, List.length_range, List.length_replicate, good_core] | with_reducible apply ite_good | with_reducible apply foldl_good | with_reducible apply foldl_fst_good | intro _ | split

theorem fltLogClearOp_good {gr : Fixed} {s : State} (hg : Good gr s) : Good gr (fltLogClearOp s) := by
  unfold fltLogClearOp
  repeat' first | with_reducible apply core_regs | with_reducible apply core_dom | with_reducible assumption | simp only [good_mk, setAt_length, portLost_ports, emptied_ports, List.length_map, List.length_mapIdx, List.length_range, List.length_replicate, good_core] | with_reducible apply ite_good | with_reducible apply foldl_good | with_reducible apply foldl_fst_good | with_reducible apply put_good | intro _ | split

theorem numNonfiniteClearOp_good {gr : Fixed} {s : State} (hg : Good gr s) : Good gr (numNonfiniteClearOp s) := by
  unfold numNonfiniteClearOp
  repeat' first | with_reducible assumption | simp only [good_mk, setAt_length, portLost_ports, emptied_ports, List.length_map, List.length_mapIdx, List.length_range, List.length_replicate, good_core] | with_reducible apply ite_good | with_reducible apply foldl_good | with_reducible apply foldl_fst_good | with_reducible apply zero_good | intro _ | split

theorem takeLevel_good {gr : Fixed} {s : State} (hg : Good gr s) : Good gr (State.takeLevel s) := by
  unfold State.takeLevel
  repeat' first | with_reducible assumption | simp only [good_mk, setAt_length, portLost_ports, emptied_ports, List.length_map, List.length_mapIdx, List.length_range, List.length_replicate, good_core] | with_reducible apply ite_good | with_reducible apply foldl_good | with_reducible apply foldl_fst_good | with_reducible apply setRate_good | with_reducible apply put_good | intro _ | split

theorem timeEdge_good {gr : Fixed} {s : State} (hg : Good gr s) : Good gr (State.timeEdge s) := by
  unfold State.timeEdge
  repeat' first | with_reducible assumption | simp only [good_mk, setAt_length, portLost_ports, emptied_ports, List.length_map, List.length_mapIdx, List.length_range, List.length_replicate, good_core] | with_reducible apply ite_good | with_reducible apply foldl_good | with_reducible apply foldl_fst_good | with_reducible apply dueLatches_good | with_reducible apply takeLevel_good | with_reducible apply flushTrace_good | with_reducible apply flushRpl_good | intro _ | split

theorem edgesTo_good {gr : Fixed} {t : Nat} {n : Nat} : ∀ {s : State}, Good gr s → Good gr (State.edgesTo t n s) := by
  induction n with
  | zero => intro s hg; exact hg
  | succ n ih =>
    intro s hg
    unfold State.edgesTo
    with_reducible apply ite_good
    · intro _
      with_reducible exact ih (timeEdge_good hg)
    · intro _
      with_reducible exact hg

theorem reachTick_good {gr : Fixed} {t : Nat} {s : State} (hg : Good gr s) : Good gr (State.reachTick s t) := by
  unfold State.reachTick
  repeat' first | with_reducible assumption | simp only [good_mk, setAt_length, portLost_ports, emptied_ports, List.length_map, List.length_mapIdx, List.length_range, List.length_replicate, good_core] | with_reducible apply ite_good | with_reducible apply foldl_good | with_reducible apply foldl_fst_good | with_reducible apply edgesTo_good | intro _ | split

theorem stepTime_good {gr : Fixed} {tb : Nat} {slips : Nat} {s : State} (hg : Good gr s) : Good gr (State.stepTime s tb slips) := by
  unfold State.stepTime
  repeat' first | with_reducible assumption | simp only [good_mk, setAt_length, portLost_ports, emptied_ports, List.length_map, List.length_mapIdx, List.length_range, List.length_replicate, good_core] | with_reducible apply ite_good | with_reducible apply foldl_good | with_reducible apply foldl_fst_good | with_reducible apply put_good | intro _ | split

theorem tbStartOp_good {gr : Fixed} {s : State} (hg : Good gr s) : Good gr (tbStartOp s) := by
  unfold tbStartOp
  repeat' first | with_reducible assumption | simp only [good_mk, setAt_length, portLost_ports, emptied_ports, List.length_map, List.length_mapIdx, List.length_range, List.length_replicate, good_core] | with_reducible apply ite_good | with_reducible apply foldl_good | with_reducible apply foldl_fst_good | with_reducible apply setTb_good | with_reducible apply stepTime_good | intro _ | split

theorem setPort_good {gr : Fixed} {p : Nat} {x : LinkPort} {s : State} (hg : Good gr s) : Good gr (State.setPort s p x) := by
  unfold State.setPort
  repeat' first | with_reducible assumption | simp only [good_mk, setAt_length, portLost_ports, emptied_ports, List.length_map, List.length_mapIdx, List.length_range, List.length_replicate, good_core] | with_reducible apply ite_good | with_reducible apply foldl_good | with_reducible apply foldl_fst_good | intro _ | split

theorem setFepPort_good {gr : Fixed} {p : Nat} {x : FepPort} {s : State} (hg : Good gr s) : Good gr (State.setFepPort s p x) := by
  unfold State.setFepPort
  repeat' first | with_reducible assumption | simp only [good_mk, setAt_length, portLost_ports, emptied_ports, List.length_map, List.length_mapIdx, List.length_range, List.length_replicate, good_core] | with_reducible apply ite_good | with_reducible apply foldl_good | with_reducible apply foldl_fst_good | intro _ | split

theorem fepOwe_good {gr : Fixed} {from_ : Option Nat} {reply : Bool} {n : Nat} {s : State} (hg : Good gr s) : Good gr (State.fepOwe s from_ reply n) := by
  unfold State.fepOwe
  repeat' first | with_reducible assumption | simp only [good_mk, setAt_length, portLost_ports, emptied_ports, List.length_map, List.length_mapIdx, List.length_range, List.length_replicate, good_core] | with_reducible apply ite_good | with_reducible apply foldl_good | with_reducible apply foldl_fst_good | with_reducible apply setFepPort_good | intro _ | split

theorem fepLeft_good {gr : Fixed} {tag : Nat} {s : State} (hg : Good gr s) : Good gr (State.fepLeft s tag) := by
  unfold State.fepLeft
  repeat' first | with_reducible assumption | simp only [good_mk, setAt_length, portLost_ports, emptied_ports, List.length_map, List.length_mapIdx, List.length_range, List.length_replicate, good_core] | with_reducible apply ite_good | with_reducible apply foldl_good | with_reducible apply foldl_fst_good | intro _ | split

theorem fepPut_good {gr : Fixed} {m : Msg} {s : State} (hg : Good gr s) : Good gr (State.fepPut s m) := by
  unfold State.fepPut
  repeat' first | with_reducible assumption | simp only [good_mk, setAt_length, portLost_ports, emptied_ports, List.length_map, List.length_mapIdx, List.length_range, List.length_replicate, good_core] | with_reducible apply ite_good | with_reducible apply foldl_good | with_reducible apply foldl_fst_good | with_reducible apply setFepPort_good | with_reducible apply count_good | with_reducible apply fepLeft_good | intro _ | split

theorem fepPass_good {gr : Fixed} {from_ : Option Nat} {m : Msg} {s : State} (hg : Good gr s) : Good gr (State.fepPass s from_ m) := by
  unfold State.fepPass
  repeat' first | with_reducible assumption | simp only [good_mk, setAt_length, portLost_ports, emptied_ports, List.length_map, List.length_mapIdx, List.length_range, List.length_replicate, good_core] | with_reducible apply ite_good | with_reducible apply foldl_good | with_reducible apply foldl_fst_good | with_reducible apply setFepPort_good | with_reducible apply fepOwe_good | with_reducible apply count_good | intro _ | split

theorem parentLost_good {gr : Fixed} {s : State} (hg : Good gr s) : Good gr (State.parentLost s) := by
  unfold State.parentLost
  repeat' first | with_reducible assumption | simp only [good_mk, setAt_length, portLost_ports, emptied_ports, List.length_map, List.length_mapIdx, List.length_range, List.length_replicate, good_core] | with_reducible apply ite_good | with_reducible apply foldl_good | with_reducible apply foldl_fst_good | with_reducible apply setTb_good | intro _ | split

theorem portDown_good {gr : Fixed} {p : Nat} {s : State} (hg : Good gr s) : Good gr (s.portDown p) := by
  unfold State.portDown
  simp only [good_mk, portLost_ports]
  exact setPort_good hg

theorem portGone_good {gr : Fixed} {p : Nat} {s : State} (hg : Good gr s) : Good gr (State.portGone s p) := by
  unfold State.portGone
  repeat' first | with_reducible assumption | simp only [good_mk, setAt_length, portLost_ports, emptied_ports, List.length_map, List.length_mapIdx, List.length_range, List.length_replicate, good_core] | with_reducible apply ite_good | with_reducible apply foldl_good | with_reducible apply foldl_fst_good | with_reducible apply portDown_good | with_reducible apply fepLeft_good | with_reducible apply fepOwe_good | with_reducible apply fepPass_good | with_reducible apply fepPut_good | intro _ | split

theorem linkLost_good {gr : Fixed} {p : Nat} {s : State} (hg : Good gr s) : Good gr (State.linkLost s p) := by
  unfold State.linkLost
  repeat' first | with_reducible assumption | simp only [good_mk, setAt_length, portLost_ports, emptied_ports, List.length_map, List.length_mapIdx, List.length_range, List.length_replicate, good_core] | with_reducible apply ite_good | with_reducible apply foldl_good | with_reducible apply foldl_fst_good | with_reducible apply put_good | with_reducible apply portGone_good | with_reducible apply logEvs_good | with_reducible apply faultStop_good | with_reducible apply raiseNotice_good | with_reducible apply parentLost_good | intro _ | split

theorem lkUpFallOp_good {gr : Fixed} {p : Nat} {s : State} (hg : Good gr s) : Good gr (lkUpFallOp p s) := by
  unfold lkUpFallOp
  repeat' first | with_reducible assumption | simp only [good_mk, setAt_length, portLost_ports, emptied_ports, List.length_map, List.length_mapIdx, List.length_range, List.length_replicate, good_core] | with_reducible apply ite_good | with_reducible apply foldl_good | with_reducible apply foldl_fst_good | with_reducible apply linkLost_good | with_reducible apply setPort_good | intro _ | split

theorem lkUpRiseOp_good {gr : Fixed} {p : Nat} {s : State} (hg : Good gr s) : Good gr (lkUpRiseOp p s) := by
  unfold lkUpRiseOp
  repeat' first | with_reducible assumption | simp only [good_mk, setAt_length, portLost_ports, emptied_ports, List.length_map, List.length_mapIdx, List.length_range, List.length_replicate, good_core] | with_reducible apply ite_good | with_reducible apply foldl_good | with_reducible apply foldl_fst_good | with_reducible apply setPort_good | intro _ | split

theorem timingWordSilenceOp_good {gr : Fixed} {p : Nat} {s : State} (hg : Good gr s) : Good gr (timingWordSilenceOp p s) := by
  unfold timingWordSilenceOp
  repeat' first | with_reducible assumption | simp only [good_mk, setAt_length, portLost_ports, emptied_ports, List.length_map, List.length_mapIdx, List.length_range, List.length_replicate, good_core] | with_reducible apply ite_good | with_reducible apply foldl_good | with_reducible apply foldl_fst_good | with_reducible apply linkLost_good | intro _ | split

theorem sendTiming_good {gr : Fixed} {p : Nat} {s : State} (hg : Good gr s) : Good gr (State.sendTiming s p) := by
  unfold State.sendTiming
  repeat' first | with_reducible assumption | simp only [good_mk, setAt_length, portLost_ports, emptied_ports, List.length_map, List.length_mapIdx, List.length_range, List.length_replicate, good_core] | with_reducible apply ite_good | with_reducible apply foldl_good | with_reducible apply foldl_fst_good | with_reducible apply setPort_good | with_reducible apply emit_good | intro _ | split

theorem takeNotice_good {gr : Fixed} {n : Notice} {p : Nat} {s : State} (hg : Good gr s) : Good gr (State.takeNotice s n p) := by
  unfold State.takeNotice
  repeat' first | with_reducible assumption | simp only [good_mk, setAt_length, portLost_ports, emptied_ports, List.length_map, List.length_mapIdx, List.length_range, List.length_replicate, good_core] | with_reducible apply ite_good | with_reducible apply foldl_good | with_reducible apply foldl_fst_good | with_reducible apply spreadNotice_good | with_reducible apply log_good | with_reducible apply replayRunning_good | with_reducible apply actNotice_good | intro _ | split

theorem follow_good {gr : Fixed} {p : Nat} {theta : Int} {s : State} (hg : Good gr s) : Good gr (State.follow s p theta) := by
  unfold State.follow
  repeat' first | with_reducible assumption | simp only [good_mk, setAt_length, portLost_ports, emptied_ports, List.length_map, List.length_mapIdx, List.length_range, List.length_replicate, good_core] | with_reducible apply ite_good | with_reducible apply foldl_good | with_reducible apply foldl_fst_good | with_reducible apply put_good | with_reducible apply log_good | with_reducible apply setTb_good | with_reducible apply replayRunning_good | intro _ | split

theorem measure_good {gr : Fixed} {p : Nat} {rtt : Nat} {theta : Int} {s : State} (hg : Good gr s) : Good gr (State.measure s p rtt theta) := by
  unfold State.measure
  repeat' first | with_reducible assumption | simp only [good_mk, setAt_length, portLost_ports, emptied_ports, List.length_map, List.length_mapIdx, List.length_range, List.length_replicate, good_core] | with_reducible apply ite_good | with_reducible apply foldl_good | with_reducible apply foldl_fst_good | with_reducible apply put_good | with_reducible apply setPort_good | intro _ | split

theorem heardWord_good {gr : Fixed} {p : Nat} {s : State} (hg : Good gr s) : Good gr (State.heardWord s p) := by
  unfold State.heardWord
  repeat' first | with_reducible assumption | simp only [good_mk, setAt_length, portLost_ports, emptied_ports, List.length_map, List.length_mapIdx, List.length_range, List.length_replicate, good_core] | with_reducible apply ite_good | with_reducible apply foldl_good | with_reducible apply foldl_fst_good | with_reducible apply setPort_good | with_reducible apply put_good | intro _ | split

theorem measuredBy_good {gr : Fixed} {p : Nat} {tx : Nat} {now : Nat} {rtt : Nat} {theta : Int} {own : Bool} {s : State} (hg : Good gr s) : Good gr (State.measuredBy s p tx now rtt theta own) := by
  unfold State.measuredBy
  repeat' first | with_reducible assumption | simp only [good_mk, setAt_length, portLost_ports, emptied_ports, List.length_map, List.length_mapIdx, List.length_range, List.length_replicate, good_core] | with_reducible apply ite_good | with_reducible apply foldl_good | with_reducible apply foldl_fst_good | with_reducible apply measure_good | with_reducible apply setPort_good | intro _ | split

theorem good_time {gr : Fixed} {s : State} {t : Time} (hg : Good gr s) : Good gr { s with time := t } := hg

theorem steeredBy_good {gr : Fixed} {p hi : Nat} {theta : Int} {own : Bool} {s : State} (hg : Good gr s) :
    Good gr (State.steeredBy s p hi theta own) := by
  unfold State.steeredBy
  with_reducible apply ite_good
  · intro _
    with_reducible apply ite_good
    · intro _
      with_reducible apply ite_good
      · intro _
        with_reducible assumption
      · intro _
        with_reducible exact good_time (stepTime_good hg)
    · intro _
      with_reducible apply ite_good
      · intro _
        with_reducible apply follow_good
        with_reducible assumption
      · intro _
        with_reducible assumption
  · intro _
    with_reducible assumption

theorem timedBy_good {gr : Fixed} {p : Nat} {hi : Nat} {ph : Nat} {s : State} (hg : Good gr s) : Good gr (State.timedBy s p hi ph) := by
  unfold State.timedBy
  repeat' first | with_reducible assumption | simp only [good_mk, setAt_length, portLost_ports, emptied_ports, List.length_map, List.length_mapIdx, List.length_range, List.length_replicate, good_core] | with_reducible apply ite_good | with_reducible apply foldl_good | with_reducible apply foldl_fst_good | with_reducible apply steeredBy_good | with_reducible apply measuredBy_good | intro _ | split

theorem noticedBy_good {gr : Fixed} {p : Nat} {hi : Nat} {s : State} (hg : Good gr s) : Good gr (State.noticedBy s p hi) := by
  unfold State.noticedBy
  repeat' first | with_reducible assumption | simp only [good_mk, setAt_length, portLost_ports, emptied_ports, List.length_map, List.length_mapIdx, List.length_range, List.length_replicate, good_core] | with_reducible apply ite_good | with_reducible apply foldl_good | with_reducible apply foldl_fst_good | with_reducible apply takeNotice_good | intro _ | split

theorem timingWordReceivedOp_good {gr : Fixed} {p : Nat} {word : BitVec 256} {ph : Nat} {s : State} (hg : Good gr s) : Good gr (timingWordReceivedOp p word ph s) := by
  unfold timingWordReceivedOp
  repeat' first | with_reducible assumption | simp only [good_mk, setAt_length, portLost_ports, emptied_ports, List.length_map, List.length_mapIdx, List.length_range, List.length_replicate, good_core] | with_reducible apply ite_good | with_reducible apply foldl_good | with_reducible apply foldl_fst_good | with_reducible apply setPort_good | with_reducible apply count64_good | with_reducible apply noticedBy_good | with_reducible apply timedBy_good | with_reducible apply heardWord_good | intro _ | split

theorem tickInEdgeOp_good {gr : Fixed} {ph : Nat} {s : State} (hg : Good gr s) : Good gr (tickInEdgeOp ph s) := by
  unfold tickInEdgeOp
  repeat' first | with_reducible assumption | simp only [good_mk, setAt_length, portLost_ports, emptied_ports, List.length_map, List.length_mapIdx, List.length_range, List.length_replicate, good_core] | with_reducible apply ite_good | with_reducible apply foldl_good | with_reducible apply foldl_fst_good | with_reducible apply rpl_good | with_reducible apply setTb_good | intro _ | split

theorem slipOp_good {gr : Fixed} {s : State} (hg : Good gr s) : Good gr (slipOp s) := by
  unfold slipOp
  repeat' first | with_reducible assumption | simp only [good_mk, setAt_length, portLost_ports, emptied_ports, List.length_map, List.length_mapIdx, List.length_range, List.length_replicate, good_core] | with_reducible apply ite_good | with_reducible apply foldl_good | with_reducible apply foldl_fst_good | with_reducible apply put_good | with_reducible apply trace_good | with_reducible apply issued_good | intro _ | split

theorem switchPlan_good {gr : Fixed} {c : Nat} {flid : Nat} {s : State} (hg : Good gr s) : Good gr (State.switchPlan s c flid).1 := by
  unfold State.switchPlan
  repeat' first | with_reducible assumption | simp only [good_mk, setAt_length, portLost_ports, emptied_ports, List.length_map, List.length_mapIdx, List.length_range, List.length_replicate, good_core] | with_reducible apply ite_good | with_reducible apply foldl_good | with_reducible apply foldl_fst_good | with_reducible apply setCtx_good | intro _ | split

theorem planSwitchOp_good {gr : Fixed} {flid : Nat} {s : State} (hg : Good gr s) : Good gr (planSwitchOp flid s) := by
  unfold planSwitchOp
  repeat' first | with_reducible assumption | simp only [good_mk, setAt_length, portLost_ports, emptied_ports, List.length_map, List.length_mapIdx, List.length_range, List.length_replicate, good_core] | with_reducible apply ite_good | with_reducible apply foldl_good | with_reducible apply foldl_fst_good | with_reducible apply issued_good | with_reducible apply logEvs_good | with_reducible apply faultStop_good | with_reducible apply switchPlan_good | with_reducible apply rpl_good | with_reducible apply count_good | (with_reducible refine good_fst (by with_reducible assumption) ?_) | intro _ | split

theorem throttleChangeOp_good {gr : Fixed} {level : Nat} {s : State} (hg : Good gr s) : Good gr (throttleChangeOp level s) := by
  unfold throttleChangeOp
  repeat' first | with_reducible assumption | simp only [good_mk, setAt_length, portLost_ports, emptied_ports, List.length_map, List.length_mapIdx, List.length_range, List.length_replicate, good_core] | with_reducible apply ite_good | with_reducible apply foldl_good | with_reducible apply foldl_fst_good | intro _ | split

theorem readSelIn_good {gr : Fixed} {c : Nat} {st : Nat} {layer : Nat} {s : State} (hg : Good gr s) : Good gr (State.readSelIn s c st layer) := by
  unfold State.readSelIn
  repeat' first | with_reducible assumption | simp only [good_mk, setAt_length, portLost_ports, emptied_ports, List.length_map, List.length_mapIdx, List.length_range, List.length_replicate, good_core] | with_reducible apply ite_good | with_reducible apply foldl_good | with_reducible apply foldl_fst_good | with_reducible apply hostRead_good | with_reducible apply inputFold_good | intro _ | split

theorem tileWindowOp_good {gr : Fixed} {work : Nat} {c : Nat} {layer : Nat} {tile : Nat} {index : Nat} {port : Nat} {s : State} (hg : Good gr s) : Good gr (tileWindowOp work c layer tile index port s) := by
  unfold tileWindowOp
  repeat' first | with_reducible assumption | simp only [good_mk, setAt_length, portLost_ports, emptied_ports, List.length_map, List.length_mapIdx, List.length_range, List.length_replicate, good_core] | with_reducible apply ite_good | with_reducible apply foldl_good | with_reducible apply foldl_fst_good | with_reducible apply issue_good | with_reducible apply readSelIn_good | with_reducible apply emitControl_good | intro _ | split

theorem tileWindowForwardOp_good {gr : Fixed} {c : Nat} {layer : Nat} {tile : Nat} {index : Nat} {port : Nat} {s : State} (hg : Good gr s) : Good gr (tileWindowForwardOp c layer tile index port s) := by
  unfold tileWindowForwardOp
  repeat' first | with_reducible assumption | simp only [good_mk, setAt_length, portLost_ports, emptied_ports, List.length_map, List.length_mapIdx, List.length_range, List.length_replicate, good_core] | with_reducible apply ite_good | with_reducible apply foldl_good | with_reducible apply foldl_fst_good | with_reducible apply tileWindowOp_good | intro _ | split

theorem tileWindowReingestOp_good {gr : Fixed} {c : Nat} {layer : Nat} {tile : Nat} {index : Nat} {port : Nat} {s : State} (hg : Good gr s) : Good gr (tileWindowReingestOp c layer tile index port s) := by
  unfold tileWindowReingestOp
  repeat' first | with_reducible assumption | simp only [good_mk, setAt_length, portLost_ports, emptied_ports, List.length_map, List.length_mapIdx, List.length_range, List.length_replicate, good_core] | with_reducible apply ite_good | with_reducible apply foldl_good | with_reducible apply foldl_fst_good | with_reducible apply tileWindowOp_good | intro _ | split

theorem tileWindowRefetchOp_good {gr : Fixed} {c : Nat} {layer : Nat} {tile : Nat} {index : Nat} {port : Nat} {s : State} (hg : Good gr s) : Good gr (tileWindowRefetchOp c layer tile index port s) := by
  unfold tileWindowRefetchOp
  repeat' first | with_reducible assumption | simp only [good_mk, setAt_length, portLost_ports, emptied_ports, List.length_map, List.length_mapIdx, List.length_range, List.length_replicate, good_core] | with_reducible apply ite_good | with_reducible apply foldl_good | with_reducible apply foldl_fst_good | with_reducible apply tileWindowOp_good | intro _ | split

theorem ingressDone_good {gr : Fixed} {w : Win} {s : State} (hg : Good gr s) : Good gr (State.ingressDone s w) := by
  unfold State.ingressDone
  repeat' first | with_reducible assumption | simp only [good_mk, setAt_length, portLost_ports, emptied_ports, List.length_map, List.length_mapIdx, List.length_range, List.length_replicate, good_core] | with_reducible apply ite_good | with_reducible apply foldl_good | with_reducible apply foldl_fst_good | with_reducible apply setWin_good | with_reducible apply inputFold_good | with_reducible apply noteVal_good | intro _ | split

theorem fillWin_good {gr : Fixed} {w : Win} {s : State} (hg : Good gr s) : Good gr (State.fillWin s w) := by
  unfold State.fillWin
  repeat' first | with_reducible assumption | simp only [good_mk, setAt_length, portLost_ports, emptied_ports, List.length_map, List.length_mapIdx, List.length_range, List.length_replicate, good_core] | with_reducible apply ite_good | with_reducible apply foldl_good | with_reducible apply foldl_fst_good | with_reducible apply setWin_good | with_reducible apply ingressDone_good | intro _ | split

theorem tileWindowBeginOp_good {gr : Fixed} {unit : Nat} {s : State} (hg : Good gr s) : Good gr (tileWindowBeginOp unit s) := by
  unfold tileWindowBeginOp
  repeat' first | with_reducible assumption | simp only [good_mk, setAt_length, portLost_ports, emptied_ports, List.length_map, List.length_mapIdx, List.length_range, List.length_replicate, good_core] | with_reducible apply ite_good | with_reducible apply foldl_good | with_reducible apply foldl_fst_good | with_reducible apply fillWin_good | with_reducible apply put_good | with_reducible apply count_good | with_reducible apply trace_good | intro _ | split

theorem takeSegment_good {gr : Fixed} {w : Win} {h : Nat} {payload : Sys2Proof.Bytes} {s : State} (hg : Good gr s) : Good gr (State.takeSegment s w h payload) := by
  unfold State.takeSegment
  repeat' first | with_reducible assumption | simp only [good_mk, setAt_length, portLost_ports, emptied_ports, List.length_map, List.length_mapIdx, List.length_range, List.length_replicate, good_core] | with_reducible apply ite_good | with_reducible apply foldl_good | with_reducible apply foldl_fst_good | with_reducible apply fillWin_good | intro _ | split

theorem ingressSegmentOp_good {gr : Fixed} {port : Nat} {hdr : BitVec 512} {payload : Sys2Proof.Bytes} {s : State} (hg : Good gr s) : Good gr (ingressSegmentOp port hdr payload s) := by
  unfold ingressSegmentOp
  repeat' first | with_reducible assumption | simp only [good_mk, setAt_length, portLost_ports, emptied_ports, List.length_map, List.length_mapIdx, List.length_range, List.length_replicate, good_core] | with_reducible apply ite_good | with_reducible apply foldl_good | with_reducible apply foldl_fst_good | with_reducible apply count64_good | with_reducible apply queueRel_good | with_reducible apply count_good | with_reducible apply log_good | with_reducible apply setSeq_good | with_reducible apply busy_good | with_reducible apply takeSegment_good | intro _ | split

theorem tpUpChangeOp_good {gr : Fixed} {port : Nat} {up : Bool} {s : State} (hg : Good gr s) : Good gr (tpUpChangeOp port up s) := by
  unfold tpUpChangeOp
  repeat' first | with_reducible assumption | simp only [good_mk, setAt_length, portLost_ports, emptied_ports, List.length_map, List.length_mapIdx, List.length_range, List.length_replicate, good_core] | with_reducible apply ite_good | with_reducible apply foldl_good | with_reducible apply foldl_fst_good | intro _ | split

theorem trailer_good {gr : Fixed} {p : Nat} {s : State} (hg : Good gr s) : Good gr (State.trailer s p).1 := by
  unfold State.trailer
  repeat' first | with_reducible assumption | simp only [good_mk, setAt_length, portLost_ports, emptied_ports, List.length_map, List.length_mapIdx, List.length_range, List.length_replicate, good_core] | with_reducible apply ite_good | with_reducible apply foldl_good | with_reducible apply foldl_fst_good | intro _ | split

theorem sendImage_good {gr : Fixed} {p : Nat} {chunk : Sys2Proof.Bytes} {s : State} (hg : Good gr s) : Good gr (State.sendImage s p chunk) := by
  unfold State.sendImage
  repeat' first | with_reducible assumption | simp only [good_mk, setAt_length, portLost_ports, emptied_ports, List.length_map, List.length_mapIdx, List.length_range, List.length_replicate, good_core] | with_reducible apply ite_good | with_reducible apply foldl_good | with_reducible apply foldl_fst_good | with_reducible apply trailer_good | with_reducible apply setPort_good | with_reducible apply count64_good | with_reducible apply emit_good | (with_reducible refine good_fst (by with_reducible assumption) ?_) | intro _ | split

theorem sendCopy_good {gr : Fixed} {p : Nat} {bytes : Sys2Proof.Bytes} {s : State} (hg : Good gr s) : Good gr (State.sendCopy s p bytes) := by
  unfold State.sendCopy
  repeat' first | with_reducible assumption | simp only [good_mk, setAt_length, portLost_ports, emptied_ports, List.length_map, List.length_mapIdx, List.length_range, List.length_replicate, good_core] | with_reducible apply ite_good | with_reducible apply foldl_good | with_reducible apply foldl_fst_good | with_reducible apply sendImage_good | with_reducible apply count64_good | with_reducible apply emit_good | with_reducible apply tileSpend_good | intro _ | split

theorem readRuns_good {gr : Fixed} {rs : List (Nat × Nat)} {s : State} (hg : Good gr s) : Good gr (State.readRuns s rs) := by
  unfold State.readRuns
  repeat' first | with_reducible assumption | simp only [good_mk, setAt_length, portLost_ports, emptied_ports, List.length_map, List.length_mapIdx, List.length_range, List.length_replicate, good_core] | with_reducible apply ite_good | with_reducible apply foldl_good | with_reducible apply foldl_fst_good | with_reducible apply stgRead_good | intro _ | split

theorem sendFirst_good {gr : Fixed} {c : Nat} {st : Nat} {x : Sys2Proof.Xfer} {hdr : Nat} {payload : Sys2Proof.Bytes} {reads : optParam (List (Nat × Nat)) []} {s : State} (hg : Good gr s) : Good gr (State.sendFirst s c st x hdr payload reads) := by
  unfold State.sendFirst
  repeat' first | with_reducible assumption | simp only [good_mk, setAt_length, portLost_ports, emptied_ports, List.length_map, List.length_mapIdx, List.length_range, List.length_replicate, good_core] | with_reducible apply ite_good | with_reducible apply foldl_good | with_reducible apply foldl_fst_good | with_reducible apply tap_good | with_reducible apply sendCopy_good | with_reducible apply readRuns_good | with_reducible apply setSeq_good | intro _ | split

theorem phaseFold_good {gr : Fixed} {c : Nat} {st : Nat} {seq : Nat} {s : State} (hg : Good gr s) : Good gr (State.phaseFold s c st seq) := by
  unfold State.phaseFold
  repeat' first | with_reducible assumption | simp only [good_mk, setAt_length, portLost_ports, emptied_ports, List.length_map, List.length_mapIdx, List.length_range, List.length_replicate, good_core] | with_reducible apply ite_good | with_reducible apply foldl_good | with_reducible apply foldl_fst_good | with_reducible apply updAudit_good | with_reducible apply rpl_good | intro _ | split

theorem sendChunk_good {gr : Fixed} {c : Nat} {st : Nat} {x : Sys2Proof.Xfer} {r : Ready} {s : State} (hg : Good gr s) : Good gr (State.sendChunk s c st x r) := by
  unfold State.sendChunk
  repeat' first | with_reducible assumption | simp only [good_mk, setAt_length, portLost_ports, emptied_ports, List.length_map, List.length_mapIdx, List.length_range, List.length_replicate, good_core] | with_reducible apply ite_good | with_reducible apply foldl_good | with_reducible apply foldl_fst_good | with_reducible apply log_good | with_reducible apply setPiece_good | with_reducible apply phaseFold_good | with_reducible apply notePhase_good | with_reducible apply count_good | with_reducible apply updAudit_good | with_reducible apply sendFirst_good | intro _ | split

theorem tileReleased_good {gr : Fixed} {h : Held} {s : State} (hg : Good gr s) : Good gr (State.tileReleased s h) := by
  unfold State.tileReleased
  repeat' first | with_reducible assumption | simp only [good_mk, setAt_length, portLost_ports, emptied_ports, List.length_map, List.length_mapIdx, List.length_range, List.length_replicate, good_core] | with_reducible apply ite_good | with_reducible apply foldl_good | with_reducible apply foldl_fst_good | with_reducible apply dropPiece_good | intro _ | split

theorem releasedChunk_good {gr : Fixed} {h : Held} {s : State} (hg : Good gr s) : Good gr (State.releasedChunk s h) := by
  unfold State.releasedChunk
  repeat' first | with_reducible assumption | simp only [good_mk, setAt_length, portLost_ports, emptied_ports, List.length_map, List.length_mapIdx, List.length_range, List.length_replicate, good_core] | with_reducible apply ite_good | with_reducible apply foldl_good | with_reducible apply foldl_fst_good | with_reducible apply collReleased_good | with_reducible apply count_good | with_reducible apply dropSlot_good | with_reducible apply tileReleased_good | with_reducible apply dropPiece_good | intro _ | split

theorem signatureStop_good {gr : Fixed} {c : Nat} {st : Nat} {layer : Nat} {node : Option Nat} {seq : Nat} {dom : Nat} {s : State} (hg : Good gr s) : Good gr (State.signatureStop s c st layer node seq dom) := by
  unfold State.signatureStop
  repeat' first | with_reducible assumption | simp only [good_mk, setAt_length, portLost_ports, emptied_ports, List.length_map, List.length_mapIdx, List.length_range, List.length_replicate, good_core] | with_reducible apply ite_good | with_reducible apply foldl_good | with_reducible apply foldl_fst_good | with_reducible apply faultStop_good | with_reducible apply log_good | intro _ | split

theorem loseRecords_good {gr : Fixed} {c : Nat} {st : Nat} {layer : Nat} {tile : Nat} {kind : Nat} {node : Nat} {piece : Nat} {s : State} (hg : Good gr s) : Good gr (State.loseRecords s c st layer tile kind node piece) := by
  unfold State.loseRecords
  repeat' first | with_reducible assumption | simp only [good_mk, setAt_length, portLost_ports, emptied_ports, List.length_map, List.length_mapIdx, List.length_range, List.length_replicate, good_core] | with_reducible apply ite_good | with_reducible apply foldl_good | with_reducible apply foldl_fst_good | intro _ | split

theorem setRet_good {gr : Fixed} {r : Ret} {s : State} (hg : Good gr s) : Good gr (State.setRet s r) := by
  unfold State.setRet
  repeat' first | with_reducible assumption | simp only [good_mk, setAt_length, portLost_ports, emptied_ports, List.length_map, List.length_mapIdx, List.length_range, List.length_replicate, good_core] | with_reducible apply ite_good | with_reducible apply foldl_good | with_reducible apply foldl_fst_good | intro _ | split

theorem pieceWrite_good {gr : Fixed} {k : PieceKey} {len : Nat} {o : Nat} {bs : Sys2Proof.Bytes} {s : State} (hg : Good gr s) : Good gr (State.pieceWrite s k len o bs) := by
  unfold State.pieceWrite
  repeat' first | with_reducible assumption | simp only [good_mk, setAt_length, portLost_ports, emptied_ports, List.length_map, List.length_mapIdx, List.length_range, List.length_replicate, good_core] | with_reducible apply ite_good | with_reducible apply foldl_good | with_reducible apply foldl_fst_good | with_reducible apply addPiece_good | with_reducible apply setPiece_good | with_reducible apply stgWrite_good | intro _ | split

theorem retPut_good {gr : Fixed} {r : Ret} {f : RetRec} {bs : Sys2Proof.Bytes} {s : State} (hg : Good gr s) : Good gr (State.retPut s r f bs).1 := by
  unfold State.retPut
  repeat' first | with_reducible assumption | simp only [good_mk, setAt_length, portLost_ports, emptied_ports, List.length_map, List.length_mapIdx, List.length_range, List.length_replicate, good_core] | with_reducible apply ite_good | with_reducible apply foldl_good | with_reducible apply foldl_fst_good | with_reducible apply pieceWrite_good | intro _ | split

theorem formReturn_good {gr : Fixed} {r : Ret} {j : Nat} {s : State} (hg : Good gr s) : Good gr (State.formReturn s r j) := by
  unfold State.formReturn
  repeat' first | with_reducible assumption | simp only [good_mk, setAt_length, portLost_ports, emptied_ports, List.length_map, List.length_mapIdx, List.length_range, List.length_replicate, good_core] | with_reducible apply ite_good | with_reducible apply foldl_good | with_reducible apply foldl_fst_good | with_reducible apply setPiece_good | with_reducible apply addPiece_good | with_reducible apply phaseFold_good | with_reducible apply notePhase_good | intro _ | split

theorem formReturns_good {gr : Fixed} {r : Ret} {s : State} (hg : Good gr s) : Good gr (State.formReturns s r) := by
  unfold State.formReturns
  repeat' first | with_reducible assumption | simp only [good_mk, setAt_length, portLost_ports, emptied_ports, List.length_map, List.length_mapIdx, List.length_range, List.length_replicate, good_core] | with_reducible apply ite_good | with_reducible apply foldl_good | with_reducible apply foldl_fst_good | with_reducible apply formReturn_good | with_reducible apply setRet_good | intro _ | split

theorem voidAt_good {gr : Fixed} {x : State × Ret} {i : Nat} (hg : Good gr x.1) : Good gr (State.voidAt x i).1 := by
  unfold State.voidAt
  with_reducible apply ite_fst_good
  · intro _
    with_reducible exact hg
  · intro _
    with_reducible exact retPut_good hg

theorem fillVoids_good {gr : Fixed} {r : Ret} {j : Nat} {s : State} (hg : Good gr s) : Good gr (State.fillVoids s r j) := by
  unfold State.fillVoids
  repeat' first | with_reducible apply voidAt_good | with_reducible assumption | simp only [good_mk, setAt_length, portLost_ports, emptied_ports, List.length_map, List.length_mapIdx, List.length_range, List.length_replicate, good_core] | with_reducible apply ite_good | with_reducible apply foldl_good | with_reducible apply foldl_fst_good | with_reducible apply formReturns_good | with_reducible apply setRet_good | intro _ | split

theorem voidFill_good {gr : Fixed} {c : Nat} {st : Nat} {x : Sys2Proof.Xfer} {s : State} (hg : Good gr s) : Good gr (State.voidFill s c st x) := by
  unfold State.voidFill
  repeat' first | with_reducible apply voidAt_good | with_reducible assumption | simp only [good_mk, setAt_length, portLost_ports, emptied_ports, List.length_map, List.length_mapIdx, List.length_range, List.length_replicate, good_core] | with_reducible apply ite_good | with_reducible apply foldl_good | with_reducible apply foldl_fst_good | with_reducible apply fillVoids_good | intro _ | split

theorem refusedChunk_good {gr : Fixed} {h : Held} {s : State} (hg : Good gr s) : Good gr (State.refusedChunk s h) := by
  unfold State.refusedChunk
  repeat' first | with_reducible apply voidAt_good | with_reducible assumption | simp only [good_mk, setAt_length, portLost_ports, emptied_ports, List.length_map, List.length_mapIdx, List.length_range, List.length_replicate, good_core] | with_reducible apply ite_good | with_reducible apply foldl_good | with_reducible apply foldl_fst_good | with_reducible apply collAbort_good | with_reducible apply collReleased_good | with_reducible apply releasedChunk_good | with_reducible apply signatureStop_good | with_reducible apply loseRecords_good | with_reducible apply formReturns_good | with_reducible apply setRet_good | with_reducible apply dropSlot_good | intro _ | split

theorem dropHeld_good {gr : Fixed} {h : Held} {s : State} (hg : Good gr s) : Good gr (State.dropHeld s h) := by
  unfold State.dropHeld
  repeat' first | with_reducible assumption | simp only [good_mk, setAt_length, portLost_ports, emptied_ports, List.length_map, List.length_mapIdx, List.length_range, List.length_replicate, good_core] | with_reducible apply ite_good | with_reducible apply foldl_good | with_reducible apply foldl_fst_good | intro _ | split

theorem takeRelease_good {gr : Fixed} {h : Held} {status : Nat} {s : State} (hg : Good gr s) : Good gr (State.takeRelease s h status) := by
  unfold State.takeRelease
  repeat' first | with_reducible assumption | simp only [good_mk, setAt_length, portLost_ports, emptied_ports, List.length_map, List.length_mapIdx, List.length_range, List.length_replicate, good_core] | with_reducible apply ite_good | with_reducible apply foldl_good | with_reducible apply foldl_fst_good | with_reducible apply releasedChunk_good | with_reducible apply dropHeld_good | with_reducible apply refusedChunk_good | intro _ | split

theorem trailerArrivalOp_good {gr : Fixed} {p : Nat} {trailer : BitVec 512} {s : State} (hg : Good gr s) : Good gr (trailerArrivalOp p trailer s) := by
  unfold trailerArrivalOp
  repeat' first | with_reducible assumption | simp only [good_mk, setAt_length, portLost_ports, emptied_ports, List.length_map, List.length_mapIdx, List.length_range, List.length_replicate, good_core] | with_reducible apply ite_good | with_reducible apply foldl_good | with_reducible apply foldl_fst_good | with_reducible apply count64_good | with_reducible apply takeRelease_good | intro _ | split

theorem releaseDeadlineOp_good {gr : Fixed} {p : Nat} {seq : Nat} {src : Nat} {dst : Nat} {s : State} (hg : Good gr s) : Good gr (releaseDeadlineOp p seq src dst s) := by
  unfold releaseDeadlineOp
  repeat' first | with_reducible assumption | simp only [good_mk, setAt_length, portLost_ports, emptied_ports, List.length_map, List.length_mapIdx, List.length_range, List.length_replicate, good_core] | with_reducible apply ite_good | with_reducible apply foldl_good | with_reducible apply foldl_fst_good | intro _ | split

theorem sendWaiting_good {gr : Fixed} {p : Nat} {a2 : Waiting} {s : State} (hg : Good gr s) : Good gr (State.sendWaiting s p a2) := by
  unfold State.sendWaiting
  repeat' first | with_reducible assumption | simp only [good_mk, setAt_length, portLost_ports, emptied_ports, List.length_map, List.length_mapIdx, List.length_range, List.length_replicate, good_core] | with_reducible apply ite_good | with_reducible apply foldl_good | with_reducible apply foldl_fst_good | with_reducible apply sendChunk_good | with_reducible apply count_good | with_reducible apply sendCopy_good | with_reducible apply readRuns_good | with_reducible apply trace_good | intro _ | split

theorem countSilence_good {gr : Fixed} {s : State} (hg : Good gr s) : Good gr (State.countSilence s) := by
  unfold State.countSilence
  repeat' first | with_reducible assumption | simp only [good_mk, setAt_length, portLost_ports, emptied_ports, List.length_map, List.length_mapIdx, List.length_range, List.length_replicate, good_core] | with_reducible apply ite_good | with_reducible apply foldl_good | with_reducible apply foldl_fst_good | intro _ | split

theorem sendTileRels_good {gr : Fixed} {t : Nat} {s : State} (hg : Good gr s) : Good gr (State.sendTileRels s t) := by
  unfold State.sendTileRels
  repeat' first | with_reducible assumption | simp only [good_mk, setAt_length, portLost_ports, emptied_ports, List.length_map, List.length_mapIdx, List.length_range, List.length_replicate, good_core] | with_reducible apply ite_good | with_reducible apply foldl_good | with_reducible apply foldl_fst_good | with_reducible apply emitControl_good | intro _ | split

theorem linkSlotStartOp_good {gr : Fixed} {s : State} (hg : Good gr s) : Good gr (linkSlotStartOp s) := by
  unfold linkSlotStartOp
  repeat' first | with_reducible assumption | simp only [good_mk, setAt_length, portLost_ports, emptied_ports, List.length_map, List.length_mapIdx, List.length_range, List.length_replicate, good_core] | with_reducible apply ite_good | with_reducible apply foldl_good | with_reducible apply foldl_fst_good | with_reducible apply reachTick_good | with_reducible apply sendTiming_good | with_reducible apply countSilence_good | with_reducible apply sendImage_good | with_reducible apply sendTileRels_good | with_reducible apply emit_good | intro _ | split

theorem overrun_good {gr : Fixed} {c : Nat} {st : Nat} {ready : Nat} {layer : Option Nat} {s : State} (hg : Good gr s) : Good gr (State.overrun s c st ready layer) := by
  unfold State.overrun
  repeat' first | with_reducible assumption | simp only [good_mk, setAt_length, portLost_ports, emptied_ports, List.length_map, List.length_mapIdx, List.length_range, List.length_replicate, good_core] | with_reducible apply ite_good | with_reducible apply foldl_good | with_reducible apply foldl_fst_good | with_reducible apply count_good | with_reducible apply log_good | with_reducible apply requestSlip_good | intro _ | split

theorem noteLateOut_good {gr : Fixed} {c : Nat} {st : Nat} {kind : Nat} {layer : Nat} {tile : Nat} {ready : Nat} {s : State} (hg : Good gr s) : Good gr (State.noteLateOut s c st kind layer tile ready) := by
  unfold State.noteLateOut
  repeat' first | with_reducible assumption | simp only [good_mk, setAt_length, portLost_ports, emptied_ports, List.length_map, List.length_mapIdx, List.length_range, List.length_replicate, good_core] | with_reducible apply ite_good | with_reducible apply foldl_good | with_reducible apply foldl_fst_good | with_reducible apply overrun_good | intro _ | split

theorem lateSend_good {gr : Fixed} {l : Late} {ready : Nat} {s : State} (hg : Good gr s) : Good gr (State.lateSend s l ready) := by
  unfold State.lateSend
  repeat' first | with_reducible assumption | simp only [good_mk, setAt_length, portLost_ports, emptied_ports, List.length_map, List.length_mapIdx, List.length_range, List.length_replicate, good_core] | with_reducible apply ite_good | with_reducible apply foldl_good | with_reducible apply foldl_fst_good | with_reducible apply overrun_good | intro _ | split

theorem sendOp_good {gr : Fixed} {c : Nat} {x : Sys2Proof.Xfer} {s : State} (hg : Good gr s) : Good gr (sendOp c x s) := by
  unfold sendOp
  repeat' first | with_reducible assumption | simp only [good_mk, setAt_length, portLost_ports, emptied_ports, List.length_map, List.length_mapIdx, List.length_range, List.length_replicate, good_core] | with_reducible apply ite_good | with_reducible apply foldl_good | with_reducible apply foldl_fst_good | with_reducible apply voidFill_good | with_reducible apply issue_good | with_reducible apply sendImage_good | with_reducible apply sendChunk_good | with_reducible apply lateSend_good | intro _ | split

theorem chunkLate_good {gr : Fixed} {c : Nat} {p : Nat} {s : State} (hg : Good gr s) : Good gr (State.chunkLate s c p) := by
  unfold State.chunkLate
  repeat' first | with_reducible assumption | simp only [good_mk, setAt_length, portLost_ports, emptied_ports, List.length_map, List.length_mapIdx, List.length_range, List.length_replicate, good_core] | with_reducible apply ite_good | with_reducible apply foldl_good | with_reducible apply foldl_fst_good | with_reducible apply voidFill_good | with_reducible apply lateSend_good | intro _ | split

theorem outputLateOp_good {gr : Fixed} {c : Nat} {kind : Nat} {layer : Nat} {tile : Nat} {s : State} (hg : Good gr s) : Good gr (outputLateOp c kind layer tile s) := by
  unfold outputLateOp
  repeat' first | with_reducible assumption | simp only [good_mk, setAt_length, portLost_ports, emptied_ports, List.length_map, List.length_mapIdx, List.length_range, List.length_replicate, good_core] | with_reducible apply ite_good | with_reducible apply foldl_good | with_reducible apply foldl_fst_good | with_reducible apply chunkLate_good | with_reducible apply noteLateOut_good | intro _ | split

theorem openExpect_good {gr : Fixed} {c : Nat} {st : Nat} {stamp : Nat} {x : Sys2Proof.Xfer} {s : State} (hg : Good gr s) : Good gr (State.openExpect s c st stamp x) := by
  unfold State.openExpect
  repeat' first | with_reducible assumption | simp only [good_mk, setAt_length, portLost_ports, emptied_ports, List.length_map, List.length_mapIdx, List.length_range, List.length_replicate, good_core] | with_reducible apply ite_good | with_reducible apply foldl_good | with_reducible apply foldl_fst_good | with_reducible apply addPiece_good | intro _ | split

theorem receiveOp_good {gr : Fixed} {c : Nat} {x : Sys2Proof.Xfer} {s : State} (hg : Good gr s) : Good gr (receiveOp c x s) := by
  unfold receiveOp
  repeat' first | with_reducible assumption | simp only [good_mk, setAt_length, portLost_ports, emptied_ports, List.length_map, List.length_mapIdx, List.length_range, List.length_replicate, good_core] | with_reducible apply ite_good | with_reducible apply foldl_good | with_reducible apply foldl_fst_good | with_reducible apply openExpect_good | with_reducible apply issue_good | intro _ | split

theorem setExpect_good {gr : Fixed} {old : Expect} {new : Expect} {s : State} (hg : Good gr s) : Good gr (State.setExpect s old new) := by
  unfold State.setExpect
  repeat' first | with_reducible assumption | simp only [good_mk, setAt_length, portLost_ports, emptied_ports, List.length_map, List.length_mapIdx, List.length_range, List.length_replicate, good_core] | with_reducible apply ite_good | with_reducible apply foldl_good | with_reducible apply foldl_fst_good | intro _ | split

theorem releaseIn_good {gr : Fixed} {p : Nat} {slot : Nat} {e : Expect} {status : Nat} {s : State} (hg : Good gr s) : Good gr (State.releaseIn s p slot e status) := by
  unfold State.releaseIn
  repeat' first | with_reducible assumption | simp only [good_mk, setAt_length, portLost_ports, emptied_ports, List.length_map, List.length_mapIdx, List.length_range, List.length_replicate, good_core] | with_reducible apply ite_good | with_reducible apply foldl_good | with_reducible apply foldl_fst_good | with_reducible apply setSeq_good | with_reducible apply queueRel_good | intro _ | split

theorem releaseNow_good {gr : Fixed} {p : Nat} {e : Expect} {status : Nat} {s : State} (hg : Good gr s) : Good gr (State.releaseNow s p e status) := by
  unfold State.releaseNow
  repeat' first | with_reducible assumption | simp only [good_mk, setAt_length, portLost_ports, emptied_ports, List.length_map, List.length_mapIdx, List.length_range, List.length_replicate, good_core] | with_reducible apply ite_good | with_reducible apply foldl_good | with_reducible apply foldl_fst_good | with_reducible apply releaseIn_good | intro _ | split

theorem chunkNotice_good {gr : Fixed} {p : Nat} {e : Expect} {pad : Bool} {buffer : Nat} {s : State} (hg : Good gr s) : Good gr (State.chunkNotice s p e pad buffer) := by
  unfold State.chunkNotice
  repeat' first | with_reducible assumption | simp only [good_mk, setAt_length, portLost_ports, emptied_ports, List.length_map, List.length_mapIdx, List.length_range, List.length_replicate, good_core] | with_reducible apply ite_good | with_reducible apply foldl_good | with_reducible apply foldl_fst_good | with_reducible apply postWord_good | intro _ | split

theorem committedChunk_good {gr : Fixed} {p : Nat} {slot : Nat} {e : Expect} {h : Nat} {pad : Bool} {buffer : Nat} {s : State} (hg : Good gr s) : Good gr (State.committedChunk s p slot e h pad buffer) := by
  unfold State.committedChunk
  repeat' first | with_reducible assumption | simp only [good_mk, setAt_length, portLost_ports, emptied_ports, List.length_map, List.length_mapIdx, List.length_range, List.length_replicate, good_core] | with_reducible apply ite_good | with_reducible apply foldl_good | with_reducible apply foldl_fst_good | with_reducible apply setExpect_good | with_reducible apply tap_good | with_reducible apply trace_good | with_reducible apply releaseIn_good | with_reducible apply chunkNotice_good | intro _ | split

theorem putPayload_good {gr : Fixed} {s t : State} {c : Nat} {q : Piece} {pad : Bool} {bs : Bytes} (e : s.putPayload c q pad bs = some t)
    (hg : Good gr s) : Good gr t := by
  unfold State.putPayload at e
  split at e
  · cases e
    split
    · with_reducible exact freeOp_good hg
    · simp only [good_mk, List.length_map, good_core]
      with_reducible exact hg
  · split at e
    · cases e
      with_reducible exact hg
    · rw [Option.map_eq_some_iff] at e
      obtain ⟨a, _, rfl⟩ := e
      with_reducible exact stgWrite_good hg

theorem commitPiece_good {gr : Fixed} {e : Expect} {y : InHand} {s : State} (hg : Good gr s) : Good gr (State.commitPiece s e y) := by
  unfold State.commitPiece
  repeat' first | (with_reducible refine putPayload_good (by with_reducible assumption) ?_) | with_reducible assumption | simp only [good_mk, setAt_length, portLost_ports, emptied_ports, List.length_map, List.length_mapIdx, List.length_range, List.length_replicate, good_core] | with_reducible apply ite_good | with_reducible apply foldl_good | with_reducible apply foldl_fst_good | with_reducible apply addPiece_good | with_reducible apply setExpect_good | with_reducible apply setPiece_good | with_reducible apply notePhase_good | with_reducible apply phaseFold_good | with_reducible apply committedChunk_good | intro _ | split

theorem commitInHand_good {gr : Fixed} {s : State} (hg : Good gr s) : Good gr (State.commitInHand s) := by
  unfold State.commitInHand
  repeat' first | with_reducible assumption | simp only [good_mk, setAt_length, portLost_ports, emptied_ports, List.length_map, List.length_mapIdx, List.length_range, List.length_replicate, good_core] | with_reducible apply ite_good | with_reducible apply foldl_good | with_reducible apply foldl_fst_good | with_reducible apply commitPiece_good | intro _ | split

theorem commitColl_good {gr : Fixed} {p : Nat} {e : Expect} {h : Nat} {bs : Sys2Proof.Bytes} {s : State} (hg : Good gr s) : Good gr (State.commitColl s p e h bs) := by
  unfold State.commitColl
  repeat' first | with_reducible assumption | simp only [good_mk, setAt_length, portLost_ports, emptied_ports, List.length_map, List.length_mapIdx, List.length_range, List.length_replicate, good_core] | with_reducible apply ite_good | with_reducible apply foldl_good | with_reducible apply foldl_fst_good | with_reducible apply releaseNow_good | with_reducible apply setExpect_good | with_reducible apply collAbort_good | with_reducible apply count_good | with_reducible apply putPart_good | with_reducible apply committedChunk_good | (with_reducible refine takeSlot_good (by with_reducible assumption) ?_) | intro _ | split

theorem refuseArrival_good {gr : Fixed} {p : Nat} {e : Expect} {s : State} (hg : Good gr s) : Good gr (State.refuseArrival s p e) := by
  unfold State.refuseArrival
  repeat' first | with_reducible assumption | simp only [good_mk, setAt_length, portLost_ports, emptied_ports, List.length_map, List.length_mapIdx, List.length_range, List.length_replicate, good_core] | with_reducible apply ite_good | with_reducible apply foldl_good | with_reducible apply foldl_fst_good | with_reducible apply releaseNow_good | with_reducible apply setExpect_good | with_reducible apply collAbort_good | with_reducible apply signatureStop_good | with_reducible apply loseRecords_good | with_reducible apply setPiece_good | intro _ | split

theorem arrive_good {gr : Fixed} {p : Nat} {h : Nat} {payload : Sys2Proof.Bytes} {s : State} (hg : Good gr s) : Good gr (State.arrive s p h payload) := by
  unfold State.arrive
  repeat' first | with_reducible assumption | simp only [good_mk, setAt_length, portLost_ports, emptied_ports, List.length_map, List.length_mapIdx, List.length_range, List.length_replicate, good_core] | with_reducible apply ite_good | with_reducible apply foldl_good | with_reducible apply foldl_fst_good | with_reducible apply log_good | with_reducible apply releaseNow_good | with_reducible apply count64_good | with_reducible apply refuseArrival_good | with_reducible apply count_good | with_reducible apply commitColl_good | with_reducible apply commitPiece_good | intro _ | split

theorem chunkArrivalOp_good {gr : Fixed} {p : Nat} {hdr : BitVec 512} {payload : Sys2Proof.Bytes} {s : State} (hg : Good gr s) : Good gr (chunkArrivalOp p hdr payload s) := by
  unfold chunkArrivalOp
  repeat' first | with_reducible assumption | simp only [good_mk, setAt_length, portLost_ports, emptied_ports, List.length_map, List.length_mapIdx, List.length_range, List.length_replicate, good_core] | with_reducible apply ite_good | with_reducible apply foldl_good | with_reducible apply foldl_fst_good | with_reducible apply count64_good | with_reducible apply arrive_good | with_reducible apply setPort_good | with_reducible apply queueRel_good | with_reducible apply count_good | intro _ | split

theorem chunkReleaseTimeoutOp_good {gr : Fixed} {c : Nat} {seq : Nat} {src : Nat} {dst : Nat} {s : State} (hg : Good gr s) : Good gr (chunkReleaseTimeoutOp c seq src dst s) := by
  unfold chunkReleaseTimeoutOp
  repeat' first | with_reducible assumption | simp only [good_mk, setAt_length, portLost_ports, emptied_ports, List.length_map, List.length_mapIdx, List.length_range, List.length_replicate, good_core] | with_reducible apply ite_good | with_reducible apply foldl_good | with_reducible apply foldl_fst_good | with_reducible apply dropHeld_good | with_reducible apply log_good | with_reducible apply replayStep_good | intro _ | split

theorem expectationTimeoutOp_good {gr : Fixed} {c : Nat} {seq : Nat} {src : Nat} {dst : Nat} {s : State} (hg : Good gr s) : Good gr (expectationTimeoutOp c seq src dst s) := by
  unfold expectationTimeoutOp
  repeat' first | with_reducible assumption | simp only [good_mk, setAt_length, portLost_ports, emptied_ports, List.length_map, List.length_mapIdx, List.length_range, List.length_replicate, good_core] | with_reducible apply ite_good | with_reducible apply foldl_good | with_reducible apply foldl_fst_good | with_reducible apply log_good | with_reducible apply replayStep_good | with_reducible apply dropPiece_good | intro _ | split

theorem slotGuardExpiryOp_good {gr : Fixed} {p : Nat} {s : State} (hg : Good gr s) : Good gr (slotGuardExpiryOp p s) := by
  unfold slotGuardExpiryOp
  repeat' first | with_reducible assumption | simp only [good_mk, setAt_length, portLost_ports, emptied_ports, List.length_map, List.length_mapIdx, List.length_range, List.length_replicate, good_core] | with_reducible apply ite_good | with_reducible apply foldl_good | with_reducible apply foldl_fst_good | with_reducible apply log_good | intro _ | split

theorem tileWatchdogExpiryOp_good {gr : Fixed} {c : Nat} {layer : Nat} {tile : Nat} {work : Nat} {s : State} (hg : Good gr s) : Good gr (tileWatchdogExpiryOp c layer tile work s) := by
  unfold tileWatchdogExpiryOp
  repeat' first | with_reducible assumption | simp only [good_mk, setAt_length, portLost_ports, emptied_ports, List.length_map, List.length_mapIdx, List.length_range, List.length_replicate, good_core] | with_reducible apply ite_good | with_reducible apply foldl_good | with_reducible apply foldl_fst_good | with_reducible apply setCtx_good | with_reducible apply setWin_good | with_reducible apply log_good | with_reducible apply imposeStop_good | with_reducible apply replayStep_good | intro _ | split

theorem openRet_good {gr : Fixed} {c : Nat} {st : Nat} {layer : Nat} {tile : Nat} {src : Nat} {kind : Nat} {seq : Nat} {reclen : Nat} {s : State} (hg : Good gr s) : Good gr (State.openRet s c st layer tile src kind seq reclen).1 := by
  unfold State.openRet
  repeat' first | with_reducible assumption | simp only [good_mk, setAt_length, portLost_ports, emptied_ports, List.length_map, List.length_mapIdx, List.length_range, List.length_replicate, good_core] | with_reducible apply ite_good | with_reducible apply foldl_good | with_reducible apply foldl_fst_good | intro _ | split

theorem readPlace_good {gr : Fixed} {o : State} {k : PieceKey} {reclen port : Nat} {x : State × Ret × List (Nat × Bytes)} {i : Nat} (hg : Good gr x.1) :
    Good gr (readPlace o k reclen port x i).1 := by
  unfold readPlace
  dsimp only
  with_reducible apply ite_fst_good
  · intro _
    with_reducible exact voidAt_good hg
  · intro _
    with_reducible apply ite_fst_good
    · intro _
      with_reducible apply ite_fst_good
      · intro _
        with_reducible exact hg
      · intro _
        with_reducible exact retPut_good hg
    · intro _
      with_reducible exact hg

theorem tileSendNow_good {gr : Fixed} {t : LateTile} {s : State} (hg : Good gr s) : Good gr (State.tileSendNow s t) := by
  unfold State.tileSendNow
  repeat' first | with_reducible apply readPlace_good | with_reducible assumption | simp only [good_mk, setAt_length, portLost_ports, emptied_ports, List.length_map, List.length_mapIdx, List.length_range, List.length_replicate, good_core] | with_reducible apply ite_good | with_reducible apply foldl_good | with_reducible apply foldl_fst_good | with_reducible apply openRet_good | with_reducible apply readPlace_good | with_reducible apply readRuns_good | with_reducible apply formReturns_good | with_reducible apply setRet_good | with_reducible apply sendFirst_good | with_reducible apply tileReleased_good | with_reducible apply busy_good | (with_reducible refine good_fst (by with_reducible assumption) ?_) | intro _ | split

theorem tileSendOp_good {gr : Fixed} {c : Nat} {port : Nat} {layer : Nat} {tile : Nat} {src : Nat} {first : Nat} {count : Nat} {dir : Nat} {seq : Nat} {s : State} (hg : Good gr s) : Good gr (tileSendOp c port layer tile src first count dir seq s) := by
  unfold tileSendOp
  repeat' first | with_reducible assumption | simp only [good_mk, setAt_length, portLost_ports, emptied_ports, List.length_map, List.length_mapIdx, List.length_range, List.length_replicate, good_core] | with_reducible apply ite_good | with_reducible apply foldl_good | with_reducible apply foldl_fst_good | with_reducible apply issue_good | with_reducible apply tileSendNow_good | with_reducible apply overrun_good | intro _ | split

theorem takeReturn_good {gr : Fixed} {c : Nat} {st : Nat} {layer : Nat} {port : Nat} {kind : Nat} {seq : Nat} {arg : Nat} {bs : Sys2Proof.Bytes} {cont : Bool} {s : State} (hg : Good gr s) : Good gr (State.takeReturn s c st layer port kind seq arg bs cont) := by
  unfold State.takeReturn
  repeat' first | with_reducible assumption | simp only [good_mk, setAt_length, portLost_ports, emptied_ports, List.length_map, List.length_mapIdx, List.length_range, List.length_replicate, good_core] | with_reducible apply ite_good | with_reducible apply foldl_good | with_reducible apply foldl_fst_good | with_reducible apply log_good | with_reducible apply retPut_good | with_reducible apply formReturns_good | with_reducible apply setRet_good | (with_reducible refine good_fst (by with_reducible assumption) ?_) | intro _ | split

theorem takeReturns_good {gr : Fixed} {c : Nat} {st : Nat} {layer : Nat} {port : Nat} {kind : Nat} {seq : Nat} {reclen : Nat} {first : Nat} {arg : Nat} {bs : Sys2Proof.Bytes} {s : State} (hg : Good gr s) : Good gr (State.takeReturns s c st layer port kind seq reclen first arg bs) := by
  unfold State.takeReturns
  repeat' first | with_reducible assumption | simp only [good_mk, setAt_length, portLost_ports, emptied_ports, List.length_map, List.length_mapIdx, List.length_range, List.length_replicate, good_core] | with_reducible apply ite_good | with_reducible apply foldl_good | with_reducible apply foldl_fst_good | with_reducible apply takeReturn_good | intro _ | split

theorem originChunk_good {gr : Fixed} {port : Nat} {h : Nat} {next : Nat} {bs : Sys2Proof.Bytes} {s : State} (hg : Good gr s) : Good gr (State.originChunk s port h next bs) := by
  unfold State.originChunk
  repeat' first | with_reducible assumption | simp only [good_mk, setAt_length, portLost_ports, emptied_ports, List.length_map, List.length_mapIdx, List.length_range, List.length_replicate, good_core] | with_reducible apply ite_good | with_reducible apply foldl_good | with_reducible apply foldl_fst_good | with_reducible apply queueRel_good | with_reducible apply log_good | with_reducible apply setSeq_good | with_reducible apply signatureStop_good | with_reducible apply tap_good | with_reducible apply trace_good | with_reducible apply busy_good | with_reducible apply takeReturns_good | intro _ | split

theorem tileOriginChunkOp_good {gr : Fixed} {port : Nat} {hdr : BitVec 512} {payload : Sys2Proof.Bytes} {s : State} (hg : Good gr s) : Good gr (tileOriginChunkOp port hdr payload s) := by
  unfold tileOriginChunkOp
  repeat' first | with_reducible assumption | simp only [good_mk, setAt_length, portLost_ports, emptied_ports, List.length_map, List.length_mapIdx, List.length_range, List.length_replicate, good_core] | with_reducible apply ite_good | with_reducible apply foldl_good | with_reducible apply foldl_fst_good | with_reducible apply count64_good | with_reducible apply queueRel_good | with_reducible apply count_good | with_reducible apply originChunk_good | intro _ | split

theorem tileEntry_good {gr : Fixed} {port : Nat} {e : Sys2Proof.Bytes} {s : State} (hg : Good gr s) : Good gr (State.tileEntry s port e) := by
  unfold State.tileEntry
  repeat' first | with_reducible assumption | simp only [good_mk, setAt_length, portLost_ports, emptied_ports, List.length_map, List.length_mapIdx, List.length_range, List.length_replicate, good_core] | with_reducible apply ite_good | with_reducible apply foldl_good | with_reducible apply foldl_fst_good | with_reducible apply takeRelease_good | intro _ | split

theorem controlFlitReceivedOp_good {gr : Fixed} {port : Nat} {flit : Sys2Proof.Bytes} {s : State} (hg : Good gr s) : Good gr (controlFlitReceivedOp port flit s) := by
  unfold controlFlitReceivedOp
  repeat' first | with_reducible assumption | simp only [good_mk, setAt_length, portLost_ports, emptied_ports, List.length_map, List.length_mapIdx, List.length_range, List.length_replicate, good_core] | with_reducible apply ite_good | with_reducible apply foldl_good | with_reducible apply foldl_fst_good | with_reducible apply count64_good | with_reducible apply tileEntry_good | intro _ | split

theorem resendQueueSendOp_good {gr : Fixed} {p : Nat} {s : State} (hg : Good gr s) : Good gr (resendQueueSendOp p s) := by
  unfold resendQueueSendOp
  repeat' first | with_reducible assumption | simp only [good_mk, setAt_length, portLost_ports, emptied_ports, List.length_map, List.length_mapIdx, List.length_range, List.length_replicate, good_core] | with_reducible apply ite_good | with_reducible apply foldl_good | with_reducible apply foldl_fst_good | with_reducible apply tileSendNow_good | with_reducible apply sendWaiting_good | intro _ | split

theorem weightRead_good {gr : Fixed} {l : Sys2Proof.Bytes} {s : State} (hg : Good gr s) : Good gr (State.weightRead s l) := by
  unfold State.weightRead
  repeat' first | with_reducible assumption | simp only [good_mk, setAt_length, portLost_ports, emptied_ports, List.length_map, List.length_mapIdx, List.length_range, List.length_replicate, good_core] | with_reducible apply ite_good | with_reducible apply foldl_good | with_reducible apply foldl_fst_good | with_reducible apply hostRead_good | with_reducible apply stgRead_good | intro _ | split

theorem scanPut_good {gr : Fixed} {c : Nat} {st : Nat} {o : Nat} {bs : Sys2Proof.Bytes} {s : State} (hg : Good gr s) : Good gr (State.scanPut s c st o bs) := by
  unfold State.scanPut
  repeat' first | with_reducible assumption | simp only [good_mk, setAt_length, portLost_ports, emptied_ports, List.length_map, List.length_mapIdx, List.length_range, List.length_replicate, good_core] | with_reducible apply ite_good | with_reducible apply foldl_good | with_reducible apply foldl_fst_good | with_reducible apply hostWrite_good | intro _ | split

theorem weightScan_good {gr : Fixed} {c : Nat} {st : Nat} {layer : Nat} {l : Sys2Proof.Bytes} {rows : List Sys2Proof.Bytes} {s : State} (hg : Good gr s) : Good gr (State.weightScan s c st layer l rows) := by
  unfold State.weightScan
  repeat' first | with_reducible assumption | simp only [good_mk, setAt_length, portLost_ports, emptied_ports, List.length_map, List.length_mapIdx, List.length_range, List.length_replicate, good_core] | with_reducible apply ite_good | with_reducible apply foldl_good | with_reducible apply foldl_fst_good | with_reducible apply scanPut_good | with_reducible apply rpl_good | with_reducible apply updAudit_good | intro _ | split

theorem scorerBusy_good {gr : Fixed} {c : Nat} {s : State} (hg : Good gr s) : Good gr (State.scorerBusy s c) := by
  unfold State.scorerBusy
  repeat' first | with_reducible assumption | simp only [good_mk, setAt_length, portLost_ports, emptied_ports, List.length_map, List.length_mapIdx, List.length_range, List.length_replicate, good_core] | with_reducible apply ite_good | with_reducible apply foldl_good | with_reducible apply foldl_fst_good | with_reducible apply busy_good | intro _ | split

theorem scoreTileDoneOp_good {gr : Fixed} {c : Nat} {layer : Nat} {tile : Nat} {s : State} (hg : Good gr s) : Good gr (scoreTileDoneOp c layer tile s) := by
  unfold scoreTileDoneOp
  repeat' first | with_reducible assumption | simp only [good_mk, setAt_length, portLost_ports, emptied_ports, List.length_map, List.length_mapIdx, List.length_range, List.length_replicate, good_core] | with_reducible apply ite_good | with_reducible apply foldl_good | with_reducible apply foldl_fst_good | with_reducible apply setWin_good | with_reducible apply weightScan_good | with_reducible apply weightRead_good | with_reducible apply scorerBusy_good | with_reducible apply nonFinite_good | intro _ | split

theorem sfuCheckDoneOp_good {gr : Fixed} {s : State} (hg : Good gr s) : Good gr (sfuCheckDoneOp s) := by
  unfold sfuCheckDoneOp
  repeat' first | with_reducible assumption | simp only [good_mk, setAt_length, portLost_ports, emptied_ports, List.length_map, List.length_mapIdx, List.length_range, List.length_replicate, good_core] | with_reducible apply ite_good | with_reducible apply foldl_good | with_reducible apply foldl_fst_good | with_reducible apply put_good | intro _ | split

theorem sfuBankWrite_good {gr : Fixed} {b : Nat} {o : Nat} {bs : Sys2Proof.Bytes} {s : State} (hg : Good gr s) : Good gr (State.sfuBankWrite s b o bs).1 := by
  unfold State.sfuBankWrite
  repeat' first | with_reducible assumption | simp only [good_mk, setAt_length, portLost_ports, emptied_ports, List.length_map, List.length_mapIdx, List.length_range, List.length_replicate, good_core] | with_reducible apply ite_good | with_reducible apply foldl_good | with_reducible apply foldl_fst_good | with_reducible apply put_good | with_reducible apply domPut_good | intro _ | split

theorem ldRowsTouch_good {gr : Fixed} {d : Nat} {rows : Nat} {write : Bool} {s : State} (hg : Good gr s) : Good gr (State.ldRowsTouch s d rows write) := by
  unfold State.ldRowsTouch
  repeat' first | with_reducible assumption | simp only [good_mk, setAt_length, portLost_ports, emptied_ports, List.length_map, List.length_mapIdx, List.length_range, List.length_replicate, good_core] | with_reducible apply ite_good | with_reducible apply foldl_good | with_reducible apply foldl_fst_good | with_reducible apply ldTouch_good | with_reducible apply ldWriteAll_good | with_reducible apply ldReadAll_good | intro _ | split

theorem jobMove_good {gr : Fixed} {r : Run} {rows : Nat} {s : State} (hg : Good gr s) : Good gr (State.jobMove s r rows).1 := by
  unfold State.jobMove
  repeat' first | with_reducible assumption | simp only [good_mk, setAt_length, portLost_ports, emptied_ports, List.length_map, List.length_mapIdx, List.length_range, List.length_replicate, good_core] | with_reducible apply ite_good | with_reducible apply foldl_good | with_reducible apply foldl_fst_good | with_reducible apply ldRowsTouch_good | with_reducible apply count_good | with_reducible apply rowPut_good | with_reducible apply nonFinite_good | intro _ | split

theorem jobTableWrite_good {gr : Fixed} {o : Nat} {bs : Sys2Proof.Bytes} {s : State} (hg : Good gr s) : Good gr (State.jobTableWrite s o bs).1 := by
  unfold State.jobTableWrite
  repeat' first | with_reducible assumption | simp only [good_mk, setAt_length, portLost_ports, emptied_ports, List.length_map, List.length_mapIdx, List.length_range, List.length_replicate, good_core] | with_reducible apply ite_good | with_reducible apply foldl_good | with_reducible apply foldl_fst_good | with_reducible apply tableWrite_good | with_reducible apply endJob_good | (with_reducible refine good_fst (by with_reducible assumption) ?_) | intro _ | split

theorem jobStart_good {gr : Fixed} {q : Nat} {s : State} (hg : Good gr s) : Good gr (State.jobStart s q).1 := by
  unfold State.jobStart
  repeat' first | with_reducible assumption | simp only [good_mk, setAt_length, portLost_ports, emptied_ports, List.length_map, List.length_mapIdx, List.length_range, List.length_replicate, good_core] | with_reducible apply ite_good | with_reducible apply foldl_good | with_reducible apply foldl_fst_good | intro _ | split

theorem jobBeginOp_good {gr : Fixed} {s : State} (hg : Good gr s) : Good gr (jobBeginOp s) := by
  unfold jobBeginOp
  repeat' first | with_reducible assumption | simp only [good_mk, setAt_length, portLost_ports, emptied_ports, List.length_map, List.length_mapIdx, List.length_range, List.length_replicate, good_core] | with_reducible apply ite_good | with_reducible apply foldl_good | with_reducible apply foldl_fst_good | intro _ | split

theorem jobCompleteOp_good {gr : Fixed} {s : State} (hg : Good gr s) : Good gr (jobCompleteOp s) := by
  unfold jobCompleteOp
  repeat' first | with_reducible assumption | simp only [good_mk, setAt_length, portLost_ports, emptied_ports, List.length_map, List.length_mapIdx, List.length_range, List.length_replicate, good_core] | with_reducible apply ite_good | with_reducible apply foldl_good | with_reducible apply foldl_fst_good | with_reducible apply jobMove_good | with_reducible apply jobNotice_good | with_reducible apply count_good | (with_reducible refine good_fst (by with_reducible assumption) ?_) | intro _ | split

theorem addStats_good {gr : Fixed} {w : Win} {ps : List Picked} {s : State} (hg : Good gr s) : Good gr (State.addStats s w ps) := by
  unfold State.addStats
  repeat' first | with_reducible assumption | simp only [good_mk, setAt_length, portLost_ports, emptied_ports, List.length_map, List.length_mapIdx, List.length_range, List.length_replicate, good_core] | with_reducible apply ite_good | with_reducible apply foldl_good | with_reducible apply foldl_fst_good | with_reducible apply stgWrite_good | with_reducible apply nonFinite_good | intro _ | split

theorem saveLogits_good {gr : Fixed} {w : Win} {ps : List Picked} {s : State} (hg : Good gr s) : Good gr (State.saveLogits s w ps) := by
  unfold State.saveLogits
  repeat' first | with_reducible assumption | simp only [good_mk, setAt_length, portLost_ports, emptied_ports, List.length_map, List.length_mapIdx, List.length_range, List.length_replicate, good_core] | with_reducible apply ite_good | with_reducible apply foldl_good | with_reducible apply foldl_fst_good | with_reducible apply noteVal_good | with_reducible apply hostWrite_good | intro _ | split

theorem selCounts_good {gr : Fixed} {c : Nat} {ps : List Picked} {s : State} (hg : Good gr s) : Good gr (State.selCounts s c ps) := by
  unfold State.selCounts
  repeat' first | with_reducible assumption | simp only [good_mk, setAt_length, portLost_ports, emptied_ports, List.length_map, List.length_mapIdx, List.length_range, List.length_replicate, good_core] | with_reducible apply ite_good | with_reducible apply foldl_good | with_reducible apply foldl_fst_good | with_reducible apply count_good | intro _ | split

theorem selectTileOp_good {gr : Fixed} {c : Nat} {layer : Nat} {tile : Nat} {s : State} (hg : Good gr s) : Good gr (selectTileOp c layer tile s) := by
  unfold selectTileOp
  repeat' first | with_reducible assumption | simp only [good_mk, setAt_length, portLost_ports, emptied_ports, List.length_map, List.length_mapIdx, List.length_range, List.length_replicate, good_core] | with_reducible apply ite_good | with_reducible apply foldl_good | with_reducible apply foldl_fst_good | with_reducible apply setWin_good | with_reducible apply selCounts_good | with_reducible apply nonFinite_good | with_reducible apply saveLogits_good | with_reducible apply addStats_good | with_reducible apply busy_good | intro _ | split

theorem addStream_good {gr : Fixed} {k : PieceKey} {reclen : Nat} {pad : Nat → Bool} {bs : Sys2Proof.Bytes} {s : State} (hg : Good gr s) : Good gr (State.addStream s k reclen pad bs) := by
  unfold State.addStream
  repeat' first | with_reducible assumption | simp only [good_mk, setAt_length, portLost_ports, emptied_ports, List.length_map, List.length_mapIdx, List.length_range, List.length_replicate, good_core] | with_reducible apply ite_good | with_reducible apply foldl_good | with_reducible apply foldl_fst_good | with_reducible apply addPiece_good | intro _ | split

theorem formStream_good {gr : Fixed} {h : TileHead} {k : PieceKey} {places : List Place} {ds : List Dec} {ids : List Nat} {payload : Nat → Sys2Proof.Bytes} {s : State} (hg : Good gr s) : Good gr (State.formStream s h k places ds ids payload) := by
  unfold State.formStream
  repeat' first | with_reducible assumption | simp only [good_mk, setAt_length, portLost_ports, emptied_ports, List.length_map, List.length_mapIdx, List.length_range, List.length_replicate, good_core] | with_reducible apply ite_good | with_reducible apply foldl_good | with_reducible apply foldl_fst_good | with_reducible apply addStream_good | intro _ | split

theorem writeDispatch_good {gr : Fixed} {h : TileHead} {c : Nat} {kind : Nat} {streams : List (Nat × List Place)} {ds : List Dec} {ids : List Nat} {payload : Nat → Sys2Proof.Bytes} {gaps : Sys2Proof.Bytes} {s : State} (hg : Good gr s) : Good gr (State.writeDispatch s h c kind streams ds ids payload gaps) := by
  unfold State.writeDispatch
  repeat' first | with_reducible assumption | simp only [good_mk, setAt_length, portLost_ports, emptied_ports, List.length_map, List.length_mapIdx, List.length_range, List.length_replicate, good_core] | with_reducible apply ite_good | with_reducible apply foldl_good | with_reducible apply foldl_fst_good | with_reducible apply addPiece_good | with_reducible apply formStream_good | with_reducible apply addStream_good | intro _ | split

theorem meterTile_good {gr : Fixed} {w : Win} {ds : List Dec} {s : State} (hg : Good gr s) : Good gr (State.meterTile s w ds) := by
  unfold State.meterTile
  repeat' first | with_reducible assumption | simp only [good_mk, setAt_length, portLost_ports, emptied_ports, List.length_map, List.length_mapIdx, List.length_range, List.length_replicate, good_core] | with_reducible apply ite_good | with_reducible apply foldl_good | with_reducible apply foldl_fst_good | with_reducible apply tap_good | intro _ | split

theorem noteTile_good {gr : Fixed} {w : Win} {logCrc : Nat} {s : State} (hg : Good gr s) : Good gr (State.noteTile s w logCrc) := by
  unfold State.noteTile
  repeat' first | with_reducible assumption | simp only [good_mk, setAt_length, portLost_ports, emptied_ports, List.length_map, List.length_mapIdx, List.length_range, List.length_replicate, good_core] | with_reducible apply ite_good | with_reducible apply foldl_good | with_reducible apply foldl_fst_good | with_reducible apply noteVal_good | intro _ | split

theorem cardForward_good {gr : Fixed} {w : Win} {s : State} (hg : Good gr s) : Good gr (State.cardForward s w) := by
  unfold State.cardForward
  repeat' first | with_reducible assumption | simp only [good_mk, setAt_length, portLost_ports, emptied_ports, List.length_map, List.length_mapIdx, List.length_range, List.length_replicate, good_core] | with_reducible apply ite_good | with_reducible apply foldl_good | with_reducible apply foldl_fst_good | with_reducible apply writeDispatch_good | with_reducible apply hostWrite_good | with_reducible apply count_good | with_reducible apply nonFinite_good | with_reducible apply setWin_good | with_reducible apply meterTile_good | with_reducible apply noteTile_good | with_reducible apply busy_good | intro _ | split

theorem cardRefetch_good {gr : Fixed} {w : Win} {src : Win} {s : State} (hg : Good gr s) : Good gr (State.cardRefetch s w src) := by
  unfold State.cardRefetch
  repeat' first | with_reducible assumption | simp only [good_mk, setAt_length, portLost_ports, emptied_ports, List.length_map, List.length_mapIdx, List.length_range, List.length_replicate, good_core] | with_reducible apply ite_good | with_reducible apply foldl_good | with_reducible apply foldl_fst_good | with_reducible apply hostRead_good | with_reducible apply count_good | with_reducible apply writeDispatch_good | with_reducible apply setWin_good | with_reducible apply nonFinite_good | with_reducible apply busy_good | intro _ | split

theorem cardTileOp_good {gr : Fixed} {c : Nat} {layer : Nat} {tile : Nat} {work : Nat} {s : State} (hg : Good gr s) : Good gr (cardTileOp c layer tile work s) := by
  unfold cardTileOp
  repeat' first | with_reducible assumption | simp only [good_mk, setAt_length, portLost_ports, emptied_ports, List.length_map, List.length_mapIdx, List.length_range, List.length_replicate, good_core] | with_reducible apply ite_good | with_reducible apply foldl_good | with_reducible apply foldl_fst_good | with_reducible apply cardForward_good | with_reducible apply cardRefetch_good | intro _ | split

theorem ledgerRead_good {gr : Fixed} {c : Nat} {st : Nat} {layer : Nat} {index : Nat} {k : Nat} {s : State} (hg : Good gr s) : Good gr (State.ledgerRead s c st layer index k) := by
  unfold State.ledgerRead
  repeat' first | with_reducible assumption | simp only [good_mk, setAt_length, portLost_ports, emptied_ports, List.length_map, List.length_mapIdx, List.length_range, List.length_replicate, good_core] | with_reducible apply ite_good | with_reducible apply foldl_good | with_reducible apply foldl_fst_good | with_reducible apply hostRead_good | intro _ | split

theorem ledgerWrite_good {gr : Fixed} {c : Nat} {st : Nat} {layer : Nat} {index : Nat} {k : Nat} {mask : Nat} {s : State} (hg : Good gr s) : Good gr (State.ledgerWrite s c st layer index k mask) := by
  unfold State.ledgerWrite
  repeat' first | with_reducible assumption | simp only [good_mk, setAt_length, portLost_ports, emptied_ports, List.length_map, List.length_mapIdx, List.length_range, List.length_replicate, good_core] | with_reducible apply ite_good | with_reducible apply foldl_good | with_reducible apply foldl_fst_good | with_reducible apply hostWrite_good | intro _ | split

theorem touchTile_good {gr : Fixed} {d : Nat} {tile : Nat} {write : Bool} {s : State} (hg : Good gr s) : Good gr (State.touchTile s d tile write) := by
  unfold State.touchTile
  repeat' first | with_reducible assumption | simp only [good_mk, setAt_length, portLost_ports, emptied_ports, List.length_map, List.length_mapIdx, List.length_range, List.length_replicate, good_core] | with_reducible apply ite_good | with_reducible apply foldl_good | with_reducible apply foldl_fst_good | with_reducible apply touch_good | intro _ | split

theorem writeBack_good {gr : Fixed} {d : Nat} {tile : Nat} {t : Nat} {acc : List Sys2Proof.F32} {s : State} (hg : Good gr s) : Good gr (State.writeBack s d tile t acc).1 := by
  unfold State.writeBack
  repeat' first | with_reducible assumption | simp only [good_mk, setAt_length, portLost_ports, emptied_ports, List.length_map, List.length_mapIdx, List.length_range, List.length_replicate, good_core] | with_reducible apply ite_good | with_reducible apply foldl_good | with_reducible apply foldl_fst_good | with_reducible apply ldPut_good | intro _ | split

theorem setComb_good {gr : Fixed} {k : Comb} {s : State} (hg : Good gr s) : Good gr (State.setComb s k) := by
  unfold State.setComb
  repeat' first | with_reducible assumption | simp only [good_mk, setAt_length, portLost_ports, emptied_ports, List.length_map, List.length_mapIdx, List.length_range, List.length_replicate, good_core] | with_reducible apply ite_good | with_reducible apply foldl_good | with_reducible apply foldl_fst_good | intro _ | split

theorem combineOp_good {gr : Fixed} {work : Nat} {c : Nat} {layer : Nat} {tile : Nat} {index : Nat} {nFrame : Nat} {nSlot : Nat} {s : State} (hg : Good gr s) : Good gr (combineOp work c layer tile index nFrame nSlot s) := by
  unfold combineOp
  repeat' first | with_reducible assumption | simp only [good_mk, setAt_length, portLost_ports, emptied_ports, List.length_map, List.length_mapIdx, List.length_range, List.length_replicate, good_core] | with_reducible apply ite_good | with_reducible apply foldl_good | with_reducible apply foldl_fst_good | with_reducible apply issue_good | with_reducible apply ledgerRead_good | intro _ | split

theorem combineForwardOp_good {gr : Fixed} {c : Nat} {layer : Nat} {tile : Nat} {index : Nat} {nFrame : Nat} {nSlot : Nat} {s : State} (hg : Good gr s) : Good gr (combineForwardOp c layer tile index nFrame nSlot s) := by
  unfold combineForwardOp
  repeat' first | with_reducible assumption | simp only [good_mk, setAt_length, portLost_ports, emptied_ports, List.length_map, List.length_mapIdx, List.length_range, List.length_replicate, good_core] | with_reducible apply ite_good | with_reducible apply foldl_good | with_reducible apply foldl_fst_good | with_reducible apply combineOp_good | intro _ | split

theorem combineInputGradientOp_good {gr : Fixed} {c : Nat} {layer : Nat} {tile : Nat} {index : Nat} {nFrame : Nat} {nSlot : Nat} {s : State} (hg : Good gr s) : Good gr (combineInputGradientOp c layer tile index nFrame nSlot s) := by
  unfold combineInputGradientOp
  repeat' first | with_reducible assumption | simp only [good_mk, setAt_length, portLost_ports, emptied_ports, List.length_map, List.length_mapIdx, List.length_range, List.length_replicate, good_core] | with_reducible apply ite_good | with_reducible apply foldl_good | with_reducible apply foldl_fst_good | with_reducible apply combineOp_good | intro _ | split

theorem combineRefetchReturnOp_good {gr : Fixed} {c : Nat} {layer : Nat} {tile : Nat} {index : Nat} {nFrame : Nat} {nSlot : Nat} {s : State} (hg : Good gr s) : Good gr (combineRefetchReturnOp c layer tile index nFrame nSlot s) := by
  unfold combineRefetchReturnOp
  repeat' first | with_reducible assumption | simp only [good_mk, setAt_length, portLost_ports, emptied_ports, List.length_map, List.length_mapIdx, List.length_range, List.length_replicate, good_core] | with_reducible apply ite_good | with_reducible apply foldl_good | with_reducible apply foldl_fst_good | with_reducible apply combineOp_good | intro _ | split

theorem readReturned_good {gr : Fixed} {k : Comb} {e : CEnt} {s : State} (hg : Good gr s) : Good gr (State.readReturned s k e) := by
  unfold State.readReturned
  repeat' first | with_reducible assumption | simp only [good_mk, setAt_length, portLost_ports, emptied_ports, List.length_map, List.length_mapIdx, List.length_range, List.length_replicate, good_core] | with_reducible apply ite_good | with_reducible apply foldl_good | with_reducible apply foldl_fst_good | with_reducible apply readRuns_good | intro _ | split

theorem freeReturns_good {gr : Fixed} {k : Comb} {all : Bool} {s : State} (hg : Good gr s) : Good gr (State.freeReturns s k all) := by
  unfold State.freeReturns
  repeat' first | with_reducible assumption | simp only [good_mk, setAt_length, portLost_ports, emptied_ports, List.length_map, List.length_mapIdx, List.length_range, List.length_replicate, good_core] | with_reducible apply ite_good | with_reducible apply foldl_good | with_reducible apply foldl_fst_good | with_reducible apply setComb_good | with_reducible apply dropPiece_good | intro _ | split

theorem settleToken_good {gr : Fixed} {k : Comb} {t : Nat} {s : State} (hg : Good gr s) : Good gr (State.settleToken s k t).1 := by
  unfold State.settleToken
  repeat' first | with_reducible assumption | simp only [good_mk, setAt_length, portLost_ports, emptied_ports, List.length_map, List.length_mapIdx, List.length_range, List.length_replicate, good_core] | with_reducible apply ite_good | with_reducible apply foldl_good | with_reducible apply foldl_fst_good | with_reducible apply touchTile_good | with_reducible apply writeBack_good | with_reducible apply nonFinite_good | (with_reducible refine good_fst (by with_reducible assumption) ?_) | intro _ | split

theorem closeEnt_good {gr : Fixed} {k : Comb} {j : Nat} {e : CEnt} {det : Nat} {s : State} (hg : Good gr s) : Good gr (State.closeEnt s k j e det) := by
  unfold State.closeEnt
  repeat' first | with_reducible assumption | simp only [good_mk, setAt_length, portLost_ports, emptied_ports, List.length_map, List.length_mapIdx, List.length_range, List.length_replicate, good_core] | with_reducible apply ite_good | with_reducible apply foldl_good | with_reducible apply foldl_fst_good | with_reducible apply log_good | with_reducible apply count_good | with_reducible apply settleToken_good | with_reducible apply setComb_good | (with_reducible refine good_fst (by with_reducible assumption) ?_) | intro _ | split

theorem closeLost_good {gr : Fixed} {k : Comb} {s : State} (hg : Good gr s) : Good gr (State.closeLost s k) := by
  unfold State.closeLost
  repeat' first | with_reducible assumption | simp only [good_mk, setAt_length, portLost_ports, emptied_ports, List.length_map, List.length_mapIdx, List.length_range, List.length_replicate, good_core] | with_reducible apply ite_good | with_reducible apply foldl_good | with_reducible apply foldl_fst_good | with_reducible apply closeEnt_good | intro _ | split

theorem combineEnt_good {gr : Fixed} {k : Comb} {j : Nat} {e : CEnt} {bs : Sys2Proof.Bytes} {s : State} (hg : Good gr s) : Good gr (State.combineEnt s k j e bs) := by
  unfold State.combineEnt
  repeat' first | with_reducible assumption | simp only [good_mk, setAt_length, portLost_ports, emptied_ports, List.length_map, List.length_mapIdx, List.length_range, List.length_replicate, good_core] | with_reducible apply ite_good | with_reducible apply foldl_good | with_reducible apply foldl_fst_good | with_reducible apply setComb_good | with_reducible apply readReturned_good | with_reducible apply hostWrite_good | with_reducible apply nonFinite_good | with_reducible apply settleToken_good | with_reducible apply busy_good | (with_reducible refine good_fst (by with_reducible assumption) ?_) | intro _ | split

theorem examine_good {gr : Fixed} {k : Comb} {j : Nat} {e : CEnt} {bs : Sys2Proof.Bytes} {s : State} (hg : Good gr s) : Good gr (State.examine s k j e bs) := by
  unfold State.examine
  repeat' first | with_reducible assumption | simp only [good_mk, setAt_length, portLost_ports, emptied_ports, List.length_map, List.length_mapIdx, List.length_range, List.length_replicate, good_core] | with_reducible apply ite_good | with_reducible apply foldl_good | with_reducible apply foldl_fst_good | with_reducible apply closeEnt_good | with_reducible apply combineEnt_good | intro _ | split

theorem writeClosed_good {gr : Fixed} {k : Comb} {s : State} (hg : Good gr s) : Good gr (State.writeClosed s k).1 := by
  unfold State.writeClosed
  repeat' first | with_reducible assumption | simp only [good_mk, setAt_length, portLost_ports, emptied_ports, List.length_map, List.length_mapIdx, List.length_range, List.length_replicate, good_core] | with_reducible apply ite_good | with_reducible apply foldl_good | with_reducible apply foldl_fst_good | with_reducible apply hostWrite_good | intro _ | split

theorem gradClosable_good {gr : Fixed} {c : Nat} {st : Nat} {layer : Nat} {tile : Nat} {s : State} (hg : Good gr s) : Good gr (State.gradClosable s c st layer tile) := by
  unfold State.gradClosable
  repeat' first | with_reducible assumption | simp only [good_mk, setAt_length, portLost_ports, emptied_ports, List.length_map, List.length_mapIdx, List.length_range, List.length_replicate, good_core] | with_reducible apply ite_good | with_reducible apply foldl_good | with_reducible apply foldl_fst_good | with_reducible apply noteClosable_good | intro _ | split

theorem dropStreams_good {gr : Fixed} {k : Comb} {s : State} (hg : Good gr s) : Good gr (State.dropStreams s k) := by
  unfold State.dropStreams
  repeat' first | with_reducible assumption | simp only [good_mk, setAt_length, portLost_ports, emptied_ports, List.length_map, List.length_mapIdx, List.length_range, List.length_replicate, good_core] | with_reducible apply ite_good | with_reducible apply foldl_good | with_reducible apply foldl_fst_good | with_reducible apply dropPiece_good | intro _ | split

theorem endComb_good {gr : Fixed} {k : Comb} {s : State} (hg : Good gr s) : Good gr (State.endComb s k) := by
  unfold State.endComb
  repeat' first | with_reducible assumption | simp only [good_mk, setAt_length, portLost_ports, emptied_ports, List.length_map, List.length_mapIdx, List.length_range, List.length_replicate, good_core] | with_reducible apply ite_good | with_reducible apply foldl_good | with_reducible apply foldl_fst_good | with_reducible apply setComb_good | with_reducible apply freeReturns_good | with_reducible apply dropStreams_good | with_reducible apply ledgerWrite_good | with_reducible apply writeClosed_good | with_reducible apply noteVal_good | with_reducible apply noteClosable_good | with_reducible apply gradClosable_good | (with_reducible refine good_fst (by with_reducible assumption) ?_) | intro _ | split

theorem endLate_good {gr : Fixed} {c : Nat} {st : Nat} {layer : Nat} {tile : Nat} {work : Nat} {s : State} (hg : Good gr s) : Good gr (State.endLate s c st layer tile work) := by
  unfold State.endLate
  repeat' first | with_reducible assumption | simp only [good_mk, setAt_length, portLost_ports, emptied_ports, List.length_map, List.length_mapIdx, List.length_range, List.length_replicate, good_core] | with_reducible apply ite_good | with_reducible apply foldl_good | with_reducible apply foldl_fst_good | with_reducible apply endComb_good | intro _ | split

theorem combineRecordOp_good {gr : Fixed} {c : Nat} {layer : Nat} {tile : Nat} {work : Nat} {j : Nat} {s : State} (hg : Good gr s) : Good gr (combineRecordOp c layer tile work j s) := by
  unfold combineRecordOp
  repeat' first | with_reducible assumption | simp only [good_mk, setAt_length, portLost_ports, emptied_ports, List.length_map, List.length_mapIdx, List.length_range, List.length_replicate, good_core] | with_reducible apply ite_good | with_reducible apply foldl_good | with_reducible apply foldl_fst_good | with_reducible apply closeLost_good | with_reducible apply examine_good | with_reducible apply endLate_good | with_reducible apply freeReturns_good | intro _ | split

theorem routeLogLoadOp_good {gr : Fixed} {c : Nat} {layer : Nat} {tile : Nat} {work : Nat} {corrupt : Nat} {s : State} (hg : Good gr s) : Good gr (routeLogLoadOp c layer tile work corrupt s) := by
  unfold routeLogLoadOp
  repeat' first | with_reducible assumption | simp only [good_mk, setAt_length, portLost_ports, emptied_ports, List.length_map, List.length_mapIdx, List.length_range, List.length_replicate, good_core] | with_reducible apply ite_good | with_reducible apply foldl_good | with_reducible apply foldl_fst_good | with_reducible apply hostRead_good | with_reducible apply replayStep_good | with_reducible apply log_good | with_reducible apply setComb_good | with_reducible apply endLate_good | with_reducible apply freeReturns_good | with_reducible apply closeLost_good | intro _ | split

theorem combineClosePointOp_good {gr : Fixed} {c : Nat} {layer : Nat} {tile : Nat} {work : Nat} {s : State} (hg : Good gr s) : Good gr (combineClosePointOp c layer tile work s) := by
  unfold combineClosePointOp
  repeat' first | with_reducible assumption | simp only [good_mk, setAt_length, portLost_ports, emptied_ports, List.length_map, List.length_mapIdx, List.length_range, List.length_replicate, good_core] | with_reducible apply ite_good | with_reducible apply foldl_good | with_reducible apply foldl_fst_good | with_reducible apply fillVoids_good | with_reducible apply freeReturns_good | with_reducible apply closeLost_good | with_reducible apply endComb_good | with_reducible apply noteLateOut_good | with_reducible apply setComb_good | intro _ | split

theorem afterArrival_good {gr : Fixed} {old s : State} (hg : Good gr s) : Good gr (State.afterArrival old s) := by
  unfold State.afterArrival
  repeat' first | with_reducible apply endLate_good | with_reducible apply freeReturns_good | with_reducible apply closeLost_good | with_reducible assumption | simp only [good_mk, setAt_length, portLost_ports, emptied_ports, List.length_map, List.length_mapIdx, List.length_range, List.length_replicate, good_core] | with_reducible apply ite_good | with_reducible apply foldl_good | with_reducible apply foldl_fst_good | with_reducible apply hf | intro _ | split

theorem arriving_good {gr : Fixed} {f : State → State} {s : State} (hg : Good gr s) (hf : ∀ z0, Good gr z0 → Good gr (f z0)) : Good gr (arriving f s) := by
  unfold arriving
  repeat' first | with_reducible apply afterArrival_good | with_reducible assumption | simp only [good_mk, setAt_length, portLost_ports, emptied_ports, List.length_map, List.length_mapIdx, List.length_range, List.length_replicate, good_core] | with_reducible apply ite_good | with_reducible apply foldl_good | with_reducible apply foldl_fst_good | with_reducible apply hf | intro _ | split

theorem setGrad_good {gr : Fixed} {g : Grad} {s : State} (hg : Good gr s) : Good gr (State.setGrad s g) := by
  unfold State.setGrad
  repeat' first | with_reducible assumption | simp only [good_mk, setAt_length, portLost_ports, emptied_ports, List.length_map, List.length_mapIdx, List.length_range, List.length_replicate, good_core] | with_reducible apply ite_good | with_reducible apply foldl_good | with_reducible apply foldl_fst_good | intro _ | split

theorem b2Reads_good {gr : Fixed} {c : Nat} {l : Sys2Proof.Bytes} {index : Nat} {t : B2Tiles} {corrupt : Nat} {s : State} (hg : Good gr s) : Good gr (State.b2Reads s c l index t corrupt) := by
  unfold State.b2Reads
  repeat' first | with_reducible assumption | simp only [good_mk, setAt_length, portLost_ports, emptied_ports, List.length_map, List.length_mapIdx, List.length_range, List.length_replicate, good_core] | with_reducible apply ite_good | with_reducible apply foldl_good | with_reducible apply foldl_fst_good | with_reducible apply hostRead_good | intro _ | split

theorem writeGrads_good {gr : Fixed} {h : TileHead} {c : Nat} {streams : List (Nat × List Place)} {rs : List GradRec} {ids : List Nat} {s : State} (hg : Good gr s) : Good gr (State.writeGrads s h c streams rs ids) := by
  unfold State.writeGrads
  repeat' first | with_reducible assumption | simp only [good_mk, setAt_length, portLost_ports, emptied_ports, List.length_map, List.length_mapIdx, List.length_range, List.length_replicate, good_core] | with_reducible apply ite_good | with_reducible apply foldl_good | with_reducible apply foldl_fst_good | with_reducible apply addStream_good | intro _ | split

theorem b2Work_good {gr : Fixed} {c : Nat} {st : Nat} {layer : Nat} {tile : Nat} {index : Nat} {t : B2Tiles} {s : State} (hg : Good gr s) : Good gr (State.b2Work s c st layer tile index t) := by
  unfold State.b2Work
  repeat' first | with_reducible assumption | simp only [good_mk, setAt_length, portLost_ports, emptied_ports, List.length_map, List.length_mapIdx, List.length_range, List.length_replicate, good_core] | with_reducible apply ite_good | with_reducible apply foldl_good | with_reducible apply foldl_fst_good | with_reducible apply touchTile_good | with_reducible apply readReturned_good | with_reducible apply writeGrads_good | with_reducible apply setLayerGrad_good | with_reducible apply noteVal_good | with_reducible apply inputFold_good | with_reducible apply freeReturns_good | with_reducible apply nonFinite_good | with_reducible apply busy_good | intro _ | split

theorem gradientB2Op_good {gr : Fixed} {c : Nat} {layer : Nat} {tile : Nat} {index : Nat} {corrupt : Nat} {s : State} (hg : Good gr s) : Good gr (gradientB2Op c layer tile index corrupt s) := by
  unfold gradientB2Op
  repeat' first | with_reducible assumption | simp only [good_mk, setAt_length, portLost_ports, emptied_ports, List.length_map, List.length_mapIdx, List.length_range, List.length_replicate, good_core] | with_reducible apply ite_good | with_reducible apply foldl_good | with_reducible apply foldl_fst_good | with_reducible apply takeGrad_good | with_reducible apply b2Reads_good | with_reducible apply replayStep_good | with_reducible apply log_good | with_reducible apply b2Work_good | intro _ | split

theorem gradientB4Op_good {gr : Fixed} {c : Nat} {layer : Nat} {tile : Nat} {index : Nat} {s : State} (hg : Good gr s) : Good gr (gradientB4Op c layer tile index s) := by
  unfold gradientB4Op
  repeat' first | with_reducible assumption | simp only [good_mk, setAt_length, portLost_ports, emptied_ports, List.length_map, List.length_mapIdx, List.length_range, List.length_replicate, good_core] | with_reducible apply ite_good | with_reducible apply foldl_good | with_reducible apply foldl_fst_good | with_reducible apply noteLateOut_good | with_reducible apply takeGrad_good | with_reducible apply stgRead_good | with_reducible apply setLayerGrad_good | with_reducible apply setGrad_good | with_reducible apply nonFinite_good | with_reducible apply busy_good | intro _ | split

theorem writeRouter_good {gr : Fixed} {c : Nat} {st : Nat} {layer : Nat} {tile : Nat} {index : Nat} {terms : List (Nat × List Sys2Proof.F32)} {s : State} (hg : Good gr s) : Good gr (State.writeRouter s c st layer tile index terms) := by
  unfold State.writeRouter
  repeat' first | with_reducible assumption | simp only [good_mk, setAt_length, portLost_ports, emptied_ports, List.length_map, List.length_mapIdx, List.length_range, List.length_replicate, good_core] | with_reducible apply ite_good | with_reducible apply foldl_good | with_reducible apply foldl_fst_good | with_reducible apply foldl_fst_fst_good | with_reducible apply ledgerRead_good | with_reducible apply touchTile_good | with_reducible apply writeBack_good | with_reducible apply ledgerWrite_good | with_reducible apply nonFinite_good | (with_reducible refine good_fst (by with_reducible assumption) ?_) | intro _ | split

theorem gradientB5Op_good {gr : Fixed} {c : Nat} {layer : Nat} {tile : Nat} {index : Nat} {s : State} (hg : Good gr s) : Good gr (gradientB5Op c layer tile index s) := by
  unfold gradientB5Op
  repeat' first | with_reducible assumption | simp only [good_mk, setAt_length, portLost_ports, emptied_ports, List.length_map, List.length_mapIdx, List.length_range, List.length_replicate, good_core] | with_reducible apply ite_good | with_reducible apply foldl_good | with_reducible apply foldl_fst_good | with_reducible apply takeGrad_good | with_reducible apply accRead_good | with_reducible apply accPut_good | with_reducible apply setLayerGrad_good | with_reducible apply setGrad_good | with_reducible apply nonFinite_good | with_reducible apply weightRead_good | with_reducible apply writeRouter_good | with_reducible apply busy_good | with_reducible apply scorerBusy_good | with_reducible apply gradClosable_good | intro _ | split

theorem gradientB6Op_good {gr : Fixed} {c : Nat} {layer : Nat} {tile : Nat} {index : Nat} {s : State} (hg : Good gr s) : Good gr (gradientB6Op c layer tile index s) := by
  unfold gradientB6Op
  repeat' first | with_reducible assumption | simp only [good_mk, setAt_length, portLost_ports, emptied_ports, List.length_map, List.length_mapIdx, List.length_range, List.length_replicate, good_core] | with_reducible apply ite_good | with_reducible apply foldl_good | with_reducible apply foldl_fst_good | with_reducible apply takeGrad_good | with_reducible apply busy_good | with_reducible apply setLayerGrad_good | intro _ | split

theorem cleared_good {gr : Fixed} {p : Phase} {s : State} (hg : Good gr s) : Good gr (s.cleared p) := by
  unfold State.cleared
  simp only [good_mk, List.length_map, List.length_replicate]
  exact ⟨hg.1, hg.2.1, hg.2.2.1, .inr ⟨rfl, rfl, rfl, rfl⟩, hg.2.2.2.2.1, .inr ⟨rfl, rfl, rfl⟩, .inr ⟨rfl, rfl, rfl, rfl⟩⟩

theorem coldResetAssertOp_good {gr : Fixed} {s : State} (hg : Good gr s) : Good gr (coldResetAssertOp s) := by
  unfold coldResetAssertOp
  repeat' first | with_reducible assumption | simp only [good_mk, setAt_length, portLost_ports, emptied_ports, List.length_map, List.length_mapIdx, List.length_range, List.length_replicate, good_core] | with_reducible apply ite_good | with_reducible apply foldl_good | with_reducible apply foldl_fst_good | with_reducible apply cleared_good | intro _ | split

theorem coldResetReleaseOp_good {gr : Fixed} {s : State} (hg : Good gr s) : Good gr (coldResetReleaseOp s) := by
  unfold coldResetReleaseOp
  repeat' first | with_reducible assumption | simp only [good_mk, setAt_length, portLost_ports, emptied_ports, List.length_map, List.length_mapIdx, List.length_range, List.length_replicate, good_core] | with_reducible apply ite_good | with_reducible apply foldl_good | with_reducible apply foldl_fst_good | with_reducible apply emit_good | with_reducible apply put_good | intro _ | split

theorem internalInitDoneOp_good {gr : Fixed} {s : State} (hg : Good gr s) : Good gr (internalInitDoneOp s) := by
  unfold internalInitDoneOp
  with_reducible apply ite_good
  · intro _
    simp only [good_mk, List.length_map]
    with_reducible apply core_nobuf (b1 := s.cp.rbuf) (b2 := s.cp.wbuf) (b3 := s.can.rbuf) (b4 := s.can.wbuf)
    simp only [good_core]
    with_reducible exact hg
  · intro _
    with_reducible exact hg

theorem warmed_good {gr : Fixed} {s : State} (hg : Good gr s) : Good gr s.warmed := by
  unfold State.warmed
  with_reducible apply setRate_good
  simp only [good_mk, emptied_ports, List.length_replicate]
  with_reducible apply core_regs
  with_reducible apply core_dom
  with_reducible apply core_pools (nk := s.pools.length)
  with_reducible apply core_ctxs (nc := s.ctxs.length)
  with_reducible apply core_nobuf (b1 := s.cp.rbuf) (b2 := s.cp.wbuf) (b3 := s.can.rbuf) (b4 := s.can.wbuf)
  simp only [good_core]
  with_reducible exact hg

theorem startWarm_good {gr : Fixed} {cause : Nat} {s : State} (hg : Good gr s) : Good gr (State.startWarm s cause) := by
  unfold State.startWarm
  repeat' first | with_reducible assumption | simp only [good_mk, setAt_length, portLost_ports, emptied_ports, List.length_map, List.length_mapIdx, List.length_range, List.length_replicate, good_core] | with_reducible apply ite_good | with_reducible apply foldl_good | with_reducible apply foldl_fst_good | with_reducible apply warmed_good | intro _ | split

theorem warmResetInputOp_good {gr : Fixed} {s : State} (hg : Good gr s) : Good gr (warmResetInputOp s) := by
  unfold warmResetInputOp
  repeat' first | with_reducible assumption | simp only [good_mk, setAt_length, portLost_ports, emptied_ports, List.length_map, List.length_mapIdx, List.length_range, List.length_replicate, good_core] | with_reducible apply ite_good | with_reducible apply foldl_good | with_reducible apply foldl_fst_good | with_reducible apply startWarm_good | intro _ | split

theorem warmResetDoneOp_good {gr : Fixed} {s : State} (hg : Good gr s) : Good gr (warmResetDoneOp s) := by
  unfold warmResetDoneOp
  repeat' first | with_reducible assumption | simp only [good_mk, setAt_length, portLost_ports, emptied_ports, List.length_map, List.length_mapIdx, List.length_range, List.length_replicate, good_core] | with_reducible apply ite_good | with_reducible apply foldl_good | with_reducible apply foldl_fst_good | with_reducible apply syncInts_good | with_reducible apply count_good | with_reducible apply put_good | intro _ | split

theorem rootClockStopOp_good {gr : Fixed} {s : State} (hg : Good gr s) : Good gr (rootClockStopOp s) := by
  unfold rootClockStopOp
  with_reducible apply ite_good
  · intro _
    with_reducible exact hg
  · intro _
    simp only [good_mk, List.length_mapIdx]
    exact ⟨hg.1, hg.2.1, hg.2.2.1, .inl rfl, hg.2.2.2.2.1, .inl rfl, .inl rfl⟩

theorem powerRemovedOp_good {gr : Fixed} {s : State} (hg : Good gr s) : Good gr (powerRemovedOp s) := by
  unfold powerRemovedOp
  repeat' first | with_reducible assumption | simp only [good_mk, setAt_length, portLost_ports, emptied_ports, List.length_map, List.length_mapIdx, List.length_range, List.length_replicate, good_core] | with_reducible apply ite_good | with_reducible apply foldl_good | with_reducible apply foldl_fst_good | with_reducible apply cleared_good | intro _ | split

theorem canSent_good {gr : Fixed} {id : Nat} {bs : Sys2Proof.Bytes} {s : State} (hg : Good gr s) : Good gr (State.canSent s id bs) := by
  unfold State.canSent
  repeat' first | with_reducible assumption | simp only [good_mk, setAt_length, portLost_ports, emptied_ports, List.length_map, List.length_mapIdx, List.length_range, List.length_replicate, good_core] | with_reducible apply ite_good | with_reducible apply foldl_good | with_reducible apply foldl_fst_good | with_reducible apply emit_good | with_reducible apply put_good | intro _ | split

theorem canHeard_good {gr : Fixed} {s : State} (hg : Good gr s) : Good gr (State.canHeard s) := by
  unfold State.canHeard
  repeat' first | with_reducible assumption | simp only [good_mk, setAt_length, portLost_ports, emptied_ports, List.length_map, List.length_mapIdx, List.length_range, List.length_replicate, good_core] | with_reducible apply ite_good | with_reducible apply foldl_good | with_reducible apply foldl_fst_good | with_reducible apply put_good | intro _ | split

theorem heartbeatOp_good {gr : Fixed} {s : State} (hg : Good gr s) : Good gr (heartbeatOp s) := by
  unfold heartbeatOp
  repeat' first | with_reducible assumption | simp only [good_mk, setAt_length, portLost_ports, emptied_ports, List.length_map, List.length_mapIdx, List.length_range, List.length_replicate, good_core] | with_reducible apply ite_good | with_reducible apply foldl_good | with_reducible apply foldl_fst_good | with_reducible apply canSent_good | intro _ | split

theorem interruptEventFrameOp_good {gr : Fixed} {s : State} (hg : Good gr s) : Good gr (interruptEventFrameOp s) := by
  unfold interruptEventFrameOp
  repeat' first | with_reducible assumption | simp only [good_mk, setAt_length, portLost_ports, emptied_ports, List.length_map, List.length_mapIdx, List.length_range, List.length_replicate, good_core] | with_reducible apply ite_good | with_reducible apply foldl_good | with_reducible apply foldl_fst_good | with_reducible apply canSent_good | intro _ | split

theorem afterTxn_good {gr : Fixed} {x : Txn} {s : State} (hg : Good gr s) : Good gr (State.afterTxn s x) := by
  unfold State.afterTxn
  repeat' first | with_reducible assumption | simp only [good_mk, setAt_length, portLost_ports, emptied_ports, List.length_map, List.length_mapIdx, List.length_range, List.length_replicate, good_core] | with_reducible apply ite_good | with_reducible apply foldl_good | with_reducible apply foldl_fst_good | with_reducible apply startWarm_good | intro _ | split

theorem canBusErrorOp_good {gr : Fixed} {transmit : Bool} {count : Nat} {s : State} (hg : Good gr s) : Good gr (canBusErrorOp transmit count s) := by
  unfold canBusErrorOp
  repeat' first | with_reducible assumption | simp only [good_mk, setAt_length, portLost_ports, emptied_ports, List.length_map, List.length_mapIdx, List.length_range, List.length_replicate, good_core] | with_reducible apply ite_good | with_reducible apply foldl_good | with_reducible apply foldl_fst_good | with_reducible apply put_good | with_reducible apply afterTxn_good | intro _ | split

theorem canBusOffRecoveryOp_good {gr : Fixed} {s : State} (hg : Good gr s) : Good gr (canBusOffRecoveryOp s) := by
  unfold canBusOffRecoveryOp
  repeat' first | with_reducible assumption | simp only [good_mk, setAt_length, portLost_ports, emptied_ports, List.length_map, List.length_mapIdx, List.length_range, List.length_replicate, good_core] | with_reducible apply ite_good | with_reducible apply foldl_good | with_reducible apply foldl_fst_good | with_reducible apply put_good | intro _ | split

theorem ptCheckStartOp_good {gr : Fixed} {s : State} (hg : Good gr s) : Good gr (ptCheckStartOp s) := by
  unfold ptCheckStartOp
  repeat' first | with_reducible assumption | simp only [good_mk, setAt_length, portLost_ports, emptied_ports, List.length_map, List.length_mapIdx, List.length_range, List.length_replicate, good_core] | with_reducible apply ite_good | with_reducible apply foldl_good | with_reducible apply foldl_fst_good | intro _ | split

theorem stopPtCheck_good {gr : Fixed} {s : State} (hg : Good gr s) : Good gr (State.stopPtCheck s) := by
  unfold State.stopPtCheck
  repeat' first | with_reducible assumption | simp only [good_mk, setAt_length, portLost_ports, emptied_ports, List.length_map, List.length_mapIdx, List.length_range, List.length_replicate, good_core] | with_reducible apply ite_good | with_reducible apply foldl_good | with_reducible apply foldl_fst_good | with_reducible apply put_good | intro _ | split

theorem ptBankWrite_good {gr : Fixed} {b : Nat} {o : Nat} {bs : Sys2Proof.Bytes} {s : State} (hg : Good gr s) : Good gr (State.ptBankWrite s b o bs).1 := by
  unfold State.ptBankWrite
  repeat' first | with_reducible assumption | simp only [good_mk, setAt_length, portLost_ports, emptied_ports, List.length_map, List.length_mapIdx, List.length_range, List.length_replicate, good_core] | with_reducible apply ite_good | with_reducible apply foldl_good | with_reducible apply foldl_fst_good | with_reducible apply stopPtCheck_good | with_reducible apply put_good | with_reducible apply domPut_good | intro _ | split

theorem ptCheckDoneOp_good {gr : Fixed} {s : State} (hg : Good gr s) : Good gr (ptCheckDoneOp s) := by
  unfold ptCheckDoneOp
  repeat' first | with_reducible assumption | simp only [good_mk, setAt_length, portLost_ports, emptied_ports, List.length_map, List.length_mapIdx, List.length_range, List.length_replicate, good_core] | with_reducible apply ite_good | with_reducible apply foldl_good | with_reducible apply foldl_fst_good | with_reducible apply put_good | intro _ | split

theorem scanRequest_good {gr : Fixed} {bs : Sys2Proof.Bytes} {s : State} (hg : Good gr s) : Good gr (State.scanRequest s bs).1 := by
  unfold State.scanRequest
  repeat' first | with_reducible assumption | simp only [good_mk, setAt_length, portLost_ports, emptied_ports, List.length_map, List.length_mapIdx, List.length_range, List.length_replicate, good_core] | with_reducible apply ite_good | with_reducible apply foldl_good | with_reducible apply foldl_fst_good | intro _ | split

theorem scanBeginOp_good {gr : Fixed} {s : State} (hg : Good gr s) : Good gr (scanBeginOp s) := by
  unfold scanBeginOp
  repeat' first | with_reducible assumption | simp only [good_mk, setAt_length, portLost_ports, emptied_ports, List.length_map, List.length_mapIdx, List.length_range, List.length_replicate, good_core] | with_reducible apply ite_good | with_reducible apply foldl_good | with_reducible apply foldl_fst_good | intro _ | split

theorem scanReads_good {gr : Fixed} {d : Nat} {n : Nat} {s : State} (hg : Good gr s) : Good gr (State.scanReads s d n) := by
  unfold State.scanReads
  repeat' first | with_reducible assumption | simp only [good_mk, setAt_length, portLost_ports, emptied_ports, List.length_map, List.length_mapIdx, List.length_range, List.length_replicate, good_core] | with_reducible apply ite_good | with_reducible apply foldl_good | with_reducible apply foldl_fst_good | with_reducible apply count_good | with_reducible apply hostRead_good | with_reducible apply stgRead_good | intro _ | split

theorem scanMismatch_good {gr : Fixed} {d : Nat} {result : Nat} {s : State} (hg : Good gr s) : Good gr (State.scanMismatch s d result) := by
  unfold State.scanMismatch
  repeat' first | with_reducible assumption | simp only [good_mk, setAt_length, portLost_ports, emptied_ports, List.length_map, List.length_mapIdx, List.length_range, List.length_replicate, good_core] | with_reducible apply ite_good | with_reducible apply foldl_good | with_reducible apply foldl_fst_good | with_reducible apply count_good | with_reducible apply log_good | with_reducible apply domPut_good | with_reducible apply syncInts_good | with_reducible apply put_good | intro _ | split

theorem scanCompleteOp_good {gr : Fixed} {s : State} (hg : Good gr s) : Good gr (scanCompleteOp s) := by
  unfold scanCompleteOp
  repeat' first | with_reducible assumption | simp only [good_mk, setAt_length, portLost_ports, emptied_ports, List.length_map, List.length_mapIdx, List.length_range, List.length_replicate, good_core] | with_reducible apply ite_good | with_reducible apply foldl_good | with_reducible apply foldl_fst_good | with_reducible apply scanNotice_good | with_reducible apply scanReads_good | with_reducible apply domPut_good | with_reducible apply scanMismatch_good | with_reducible apply count_good | intro _ | split

theorem cvuInjectOp_good {gr : Fixed} {v : Nat} {s : State} (hg : Good gr s) : Good gr (cvuInjectOp v s) := by
  unfold cvuInjectOp
  repeat' first | with_reducible assumption | simp only [good_mk, setAt_length, portLost_ports, emptied_ports, List.length_map, List.length_mapIdx, List.length_range, List.length_replicate, good_core] | with_reducible apply ite_good | with_reducible apply foldl_good | with_reducible apply foldl_fst_good | intro _ | split

theorem fepRead_good {gr : Fixed} {host : Bool} {port : Nat} {a : Nat} {n : Nat} {s : State} (hg : Good gr s) : Good gr (State.fepRead s host port a n) := by
  unfold State.fepRead
  repeat' first | with_reducible assumption | simp only [good_mk, setAt_length, portLost_ports, emptied_ports, List.length_map, List.length_mapIdx, List.length_range, List.length_replicate, good_core] | with_reducible apply ite_good | with_reducible apply foldl_good | with_reducible apply foldl_fst_good | with_reducible apply hostRead_good | with_reducible apply stgRead_good | intro _ | split

theorem fepWrite_good {gr : Fixed} {host : Bool} {port : Nat} {a : Nat} {bs : Sys2Proof.Bytes} {s : State} (hg : Good gr s) : Good gr (State.fepWrite s host port a bs) := by
  unfold State.fepWrite
  repeat' first | with_reducible assumption | simp only [good_mk, setAt_length, portLost_ports, emptied_ports, List.length_map, List.length_mapIdx, List.length_range, List.length_replicate, good_core] | with_reducible apply ite_good | with_reducible apply foldl_good | with_reducible apply foldl_fst_good | with_reducible apply hostWrite_good | with_reducible apply stgWrite_good | intro _ | split

theorem fepForward_good {gr : Fixed} {p : Nat} {m : Msg} {s : State} (hg : Good gr s) : Good gr (State.fepForward s p m) := by
  unfold State.fepForward
  repeat' first | with_reducible assumption | simp only [good_mk, setAt_length, portLost_ports, emptied_ports, List.length_map, List.length_mapIdx, List.length_range, List.length_replicate, good_core] | with_reducible apply ite_good | with_reducible apply foldl_good | with_reducible apply foldl_fst_good | with_reducible apply fepOwe_good | with_reducible apply count_good | with_reducible apply fepPass_good | intro _ | split

theorem fepReply_good {gr : Fixed} {r : Msg} {s : State} (hg : Good gr s) : Good gr (State.fepReply s r) := by
  unfold State.fepReply
  repeat' first | with_reducible assumption | simp only [good_mk, setAt_length, portLost_ports, emptied_ports, List.length_map, List.length_mapIdx, List.length_range, List.length_replicate, good_core] | with_reducible apply ite_good | with_reducible apply foldl_good | with_reducible apply foldl_fst_good | with_reducible apply fepPut_good | intro _ | split

theorem fepRepeat_good {gr : Fixed} {m : Msg} {s : State} (hg : Good gr s) : Good gr (State.fepRepeat s m) := by
  unfold State.fepRepeat
  repeat' first | with_reducible assumption | simp only [good_mk, setAt_length, portLost_ports, emptied_ports, List.length_map, List.length_mapIdx, List.length_range, List.length_replicate, good_core] | with_reducible apply ite_good | with_reducible apply foldl_good | with_reducible apply foldl_fst_good | with_reducible apply fepReply_good | intro _ | split

theorem setFepNext_good {gr : Fixed} {src : Nat} {n : Nat} {s : State} (hg : Good gr s) : Good gr (State.setFepNext s src n) := by
  unfold State.setFepNext
  repeat' first | with_reducible assumption | simp only [good_mk, setAt_length, portLost_ports, emptied_ports, List.length_map, List.length_mapIdx, List.length_range, List.length_replicate, good_core] | with_reducible apply ite_good | with_reducible apply foldl_good | with_reducible apply foldl_fst_good | with_reducible apply fepRepeat_good | intro _ | split

theorem fepEnter_good {gr : Fixed} {m : Msg} {s : State} (hg : Good gr s) : Good gr (State.fepEnter s m) := by
  unfold State.fepEnter
  repeat' first | with_reducible assumption | simp only [good_mk, setAt_length, portLost_ports, emptied_ports, List.length_map, List.length_mapIdx, List.length_range, List.length_replicate, good_core] | with_reducible apply ite_good | with_reducible apply foldl_good | with_reducible apply foldl_fst_good | with_reducible apply setFepNext_good | with_reducible apply log_good | with_reducible apply fepRepeat_good | intro _ | split

theorem fepTake_good {gr : Fixed} {from_ : Option Nat} {m : Msg} {s : State} (hg : Good gr s) : Good gr (State.fepTake s from_ m) := by
  unfold State.fepTake
  repeat' first | with_reducible assumption | simp only [good_mk, setAt_length, portLost_ports, emptied_ports, List.length_map, List.length_mapIdx, List.length_range, List.length_replicate, good_core] | with_reducible apply ite_good | with_reducible apply foldl_good | with_reducible apply foldl_fst_good | with_reducible apply fepEnter_good | with_reducible apply fepOwe_good | intro _ | split

theorem fepDrain_good {gr : Fixed} {a0 : Nat} {a1 : State} (hg : Good gr a1) : Good gr (State.fepDrain a0 a1) := by
  induction a0 generalizing a1 with
  | zero =>
    unfold State.fepDrain
    exact hg
  | succ n ih =>
    unfold State.fepDrain
    repeat' first | with_reducible apply ih | with_reducible assumption | simp only [good_mk, setAt_length, portLost_ports, emptied_ports, List.length_map, List.length_mapIdx, List.length_range, List.length_replicate, good_core] | with_reducible apply ite_good | with_reducible apply foldl_good | with_reducible apply foldl_fst_good | with_reducible apply fepOwe_good | with_reducible apply fepEnter_good | intro _ | split

theorem fepCounter_good {gr : Fixed} {c : Nat} {k : Nat} {s : State} (hg : Good gr s) : Good gr (State.fepCounter s c k) := by
  unfold State.fepCounter
  repeat' first | with_reducible assumption | simp only [good_mk, setAt_length, portLost_ports, emptied_ports, List.length_map, List.length_mapIdx, List.length_range, List.length_replicate, good_core] | with_reducible apply ite_good | with_reducible apply foldl_good | with_reducible apply foldl_fst_good | with_reducible apply domPut_good | intro _ | split

theorem postArrived_good {gr : Fixed} {i : Nat} {bs : Sys2Proof.Bytes} {s : State} (hg : Good gr s) : Good gr (State.postArrived s i bs) := by
  unfold State.postArrived
  repeat' first | with_reducible assumption | simp only [good_mk, setAt_length, portLost_ports, emptied_ports, List.length_map, List.length_mapIdx, List.length_range, List.length_replicate, good_core] | with_reducible apply ite_good | with_reducible apply foldl_good | with_reducible apply foldl_fst_good | intro _ | split

theorem fepIssued_good {gr : Fixed} {m : Msg} {r : Msg} {host : Bool} {a : Nat} {s : State} (hg : Good gr s) : Good gr (State.fepIssued s m r host a) := by
  unfold State.fepIssued
  repeat' first | with_reducible assumption | simp only [good_mk, setAt_length, portLost_ports, emptied_ports, List.length_map, List.length_mapIdx, List.length_range, List.length_replicate, good_core] | with_reducible apply ite_good | with_reducible apply foldl_good | with_reducible apply foldl_fst_good | intro _ | split

theorem fepDo_good {gr : Fixed} {m : Msg} {s : State} (hg : Good gr s) : Good gr (State.fepDo s m) := by
  unfold State.fepDo
  repeat' first | with_reducible assumption | simp only [good_mk, setAt_length, portLost_ports, emptied_ports, List.length_map, List.length_mapIdx, List.length_range, List.length_replicate, good_core] | with_reducible apply ite_good | with_reducible apply foldl_good | with_reducible apply foldl_fst_good | with_reducible apply log_good | with_reducible apply fepReply_good | with_reducible apply fepIssued_good | with_reducible apply postArrived_good | with_reducible apply fepRead_good | with_reducible apply fepCounter_good | with_reducible apply fepWrite_good | intro _ | split

theorem fepApplyOp_good {gr : Fixed} {s : State} (hg : Good gr s) : Good gr (fepApplyOp s) := by
  unfold fepApplyOp
  repeat' first | with_reducible assumption | simp only [good_mk, setAt_length, portLost_ports, emptied_ports, List.length_map, List.length_mapIdx, List.length_range, List.length_replicate, good_core] | with_reducible apply ite_good | with_reducible apply foldl_good | with_reducible apply foldl_fst_good | with_reducible apply fepDo_good | with_reducible apply setFepNext_good | with_reducible apply busy_good | with_reducible apply fepDrain_good | intro _ | split

theorem fepWriteCompleteOp_good {gr : Fixed} {src : Nat} {seq : Nat} {s : State} (hg : Good gr s) : Good gr (fepWriteCompleteOp src seq s) := by
  unfold fepWriteCompleteOp
  repeat' first | with_reducible assumption | simp only [good_mk, setAt_length, portLost_ports, emptied_ports, List.length_map, List.length_mapIdx, List.length_range, List.length_replicate, good_core] | with_reducible apply ite_good | with_reducible apply foldl_good | with_reducible apply foldl_fst_good | with_reducible apply fepReply_good | with_reducible apply fepCounter_good | intro _ | split

theorem replayTableExpiryOp_good {gr : Fixed} {src : Nat} {seq : Nat} {s : State} (hg : Good gr s) : Good gr (replayTableExpiryOp src seq s) := by
  unfold replayTableExpiryOp
  repeat' first | with_reducible assumption | simp only [good_mk, setAt_length, portLost_ports, emptied_ports, List.length_map, List.length_mapIdx, List.length_range, List.length_replicate, good_core] | with_reducible apply ite_good | with_reducible apply foldl_good | with_reducible apply foldl_fst_good | intro _ | split

theorem fepOut_good {gr : Fixed} {m : Msg} {s : State} (hg : Good gr s) : Good gr (State.fepOut s m) := by
  unfold State.fepOut
  repeat' first | with_reducible assumption | simp only [good_mk, setAt_length, portLost_ports, emptied_ports, List.length_map, List.length_mapIdx, List.length_range, List.length_replicate, good_core] | with_reducible apply ite_good | with_reducible apply foldl_good | with_reducible apply foldl_fst_good | with_reducible apply fepLeft_good | with_reducible apply fepTake_good | with_reducible apply fepPut_good | intro _ | split

theorem fepSend_good {gr : Fixed} {r : Req} {s : State} (hg : Good gr s) : Good gr (State.fepSend s r) := by
  unfold State.fepSend
  repeat' first | with_reducible assumption | simp only [good_mk, setAt_length, portLost_ports, emptied_ports, List.length_map, List.length_mapIdx, List.length_range, List.length_replicate, good_core] | with_reducible apply ite_good | with_reducible apply foldl_good | with_reducible apply foldl_fst_good | with_reducible apply fepOut_good | intro _ | split

theorem fepNotice_good {gr : Fixed} {x : Started} {s : State} (hg : Good gr s) : Good gr (State.fepNotice s x) := by
  unfold State.fepNotice
  repeat' first | with_reducible assumption | simp only [good_mk, setAt_length, portLost_ports, emptied_ports, List.length_map, List.length_mapIdx, List.length_range, List.length_replicate, good_core] | with_reducible apply ite_good | with_reducible apply foldl_good | with_reducible apply foldl_fst_good | with_reducible apply postWord_good | intro _ | split

theorem setStarted_good {gr : Fixed} {x : Started} {s : State} (hg : Good gr s) : Good gr (State.setStarted s x) := by
  unfold State.setStarted
  repeat' first | with_reducible assumption | simp only [good_mk, setAt_length, portLost_ports, emptied_ports, List.length_map, List.length_mapIdx, List.length_range, List.length_replicate, good_core] | with_reducible apply ite_good | with_reducible apply foldl_good | with_reducible apply foldl_fst_good | with_reducible apply fepNotice_good | intro _ | split

theorem fepBegin_good {gr : Fixed} {q : Nat} {rest : List Nat} {s : State} (hg : Good gr s) : Good gr (State.fepBegin s q rest) := by
  unfold State.fepBegin
  repeat' first | with_reducible assumption | simp only [good_mk, setAt_length, portLost_ports, emptied_ports, List.length_map, List.length_mapIdx, List.length_range, List.length_replicate, good_core] | with_reducible apply ite_good | with_reducible apply foldl_good | with_reducible apply foldl_fst_good | with_reducible apply setStarted_good | intro _ | split

theorem fepStep_good {gr : Fixed} {s t : State} (e : s.fepStep = some t) (hg : Good gr s) : Good gr t := by
  unfold State.fepStep at e
  dsimp only at e
  repeat' first | with_reducible assumption | (cases e; done) | (dsimp only at e) | split at e | (cases e) | simp only [good_mk, setAt_length, portLost_ports, emptied_ports, List.length_map, List.length_mapIdx, List.length_range, List.length_replicate, good_core] | with_reducible apply fepSend_good | with_reducible apply setStarted_good | with_reducible apply fepWrite_good | with_reducible apply fepRead_good | with_reducible apply fresh_good | with_reducible apply fepBegin_good | with_reducible apply ite_good | intro _

theorem fepIssue_good {gr : Fixed} {a0 : Nat} {a1 : State} (hg : Good gr a1) : Good gr (State.fepIssue a0 a1) := by
  induction a0 generalizing a1 with
  | zero =>
    unfold State.fepIssue
    exact hg
  | succ n ih =>
    unfold State.fepIssue
    repeat' first | (with_reducible refine fepStep_good (by with_reducible assumption) ?_) | with_reducible apply ih | with_reducible assumption | simp only [good_mk, setAt_length, portLost_ports, emptied_ports, List.length_map, List.length_mapIdx, List.length_range, List.length_replicate, good_core] | with_reducible apply ite_good | with_reducible apply foldl_good | with_reducible apply foldl_fst_good | intro _ | split

theorem fepAsk_good {gr : Fixed} {r : Req} {s : State} (hg : Good gr s) : Good gr (State.fepAsk s r) := by
  unfold State.fepAsk
  repeat' first | with_reducible assumption | simp only [good_mk, setAt_length, portLost_ports, emptied_ports, List.length_map, List.length_mapIdx, List.length_range, List.length_replicate, good_core] | with_reducible apply ite_good | with_reducible apply foldl_good | with_reducible apply foldl_fst_good | with_reducible apply fepIssue_good | intro _ | split

theorem fepFill_good {gr : Fixed} {l : CacheLine} {s : State} (hg : Good gr s) : Good gr (State.fepFill s l) := by
  unfold State.fepFill
  repeat' first | with_reducible assumption | simp only [good_mk, setAt_length, portLost_ports, emptied_ports, List.length_map, List.length_mapIdx, List.length_range, List.length_replicate, good_core] | with_reducible apply ite_good | with_reducible apply foldl_good | with_reducible apply foldl_fst_good | intro _ | split

theorem fepEntryEnd_good {gr : Fixed} {x : Started} {m : Msg} {status : Nat} {old : Nat} {data : Sys2Proof.Bytes} {s : State} (hg : Good gr s) : Good gr (State.fepEntryEnd s x m status old data) := by
  unfold State.fepEntryEnd
  repeat' first | with_reducible assumption | simp only [good_mk, setAt_length, portLost_ports, emptied_ports, List.length_map, List.length_mapIdx, List.length_range, List.length_replicate, good_core] | with_reducible apply ite_good | with_reducible apply foldl_good | with_reducible apply foldl_fst_good | with_reducible apply setStarted_good | with_reducible apply fepFill_good | with_reducible apply fepWrite_good | with_reducible apply fepCounter_good | intro _ | split

theorem residencyAnswer_good {gr : Fixed} {c : Nat} {st : Nat} {layer : Nat} {word : Option Nat} {s : State} (hg : Good gr s) : Good gr (State.residencyAnswer s c st layer word) := by
  unfold State.residencyAnswer
  repeat' first | with_reducible assumption | simp only [good_mk, setAt_length, portLost_ports, emptied_ports, List.length_map, List.length_mapIdx, List.length_range, List.length_replicate, good_core] | with_reducible apply ite_good | with_reducible apply foldl_good | with_reducible apply foldl_fst_good | with_reducible apply count_good | with_reducible apply setLayerGrad_good | intro _ | split

theorem fepEnd_good {gr : Fixed} {r : Req} {status : Nat} {old : Nat} {data : Sys2Proof.Bytes} {s : State} (hg : Good gr s) : Good gr (State.fepEnd s r status old data) := by
  unfold State.fepEnd
  repeat' first | with_reducible assumption | simp only [good_mk, setAt_length, portLost_ports, emptied_ports, List.length_map, List.length_mapIdx, List.length_range, List.length_replicate, good_core] | with_reducible apply ite_good | with_reducible apply foldl_good | with_reducible apply foldl_fst_good | with_reducible apply fepEntryEnd_good | with_reducible apply residencyAnswer_good | with_reducible apply fepIssue_good | intro _ | split

theorem fepReplyReceivedOp_good {gr : Fixed} {tag : Nat} {s : State} (hg : Good gr s) : Good gr (fepReplyReceivedOp tag s) := by
  unfold fepReplyReceivedOp
  repeat' first | with_reducible assumption | simp only [good_mk, setAt_length, portLost_ports, emptied_ports, List.length_map, List.length_mapIdx, List.length_range, List.length_replicate, good_core] | with_reducible apply ite_good | with_reducible apply foldl_good | with_reducible apply foldl_fst_good | with_reducible apply fepEnd_good | intro _ | split

theorem fepRetryOp_good {gr : Fixed} {tag : Nat} {s : State} (hg : Good gr s) : Good gr (fepRetryOp tag s) := by
  unfold fepRetryOp
  repeat' first | with_reducible assumption | simp only [good_mk, setAt_length, portLost_ports, emptied_ports, List.length_map, List.length_mapIdx, List.length_range, List.length_replicate, good_core] | with_reducible apply ite_good | with_reducible apply foldl_good | with_reducible apply foldl_fst_good | with_reducible apply fepOut_good | with_reducible apply count_good | intro _ | split

theorem fepTimeoutOp_good {gr : Fixed} {tag : Nat} {s : State} (hg : Good gr s) : Good gr (fepTimeoutOp tag s) := by
  unfold fepTimeoutOp
  repeat' first | with_reducible assumption | simp only [good_mk, setAt_length, portLost_ports, emptied_ports, List.length_map, List.length_mapIdx, List.length_range, List.length_replicate, good_core] | with_reducible apply ite_good | with_reducible apply foldl_good | with_reducible apply foldl_fst_good | with_reducible apply count_good | with_reducible apply log_good | with_reducible apply fepEnd_good | intro _ | split

theorem fepMessageReceivedOp_good {gr : Fixed} {p : Nat} {hdr : BitVec 512} {payload : Sys2Proof.Bytes} {s : State} (hg : Good gr s) : Good gr (fepMessageReceivedOp p hdr payload s) := by
  unfold fepMessageReceivedOp
  repeat' first | with_reducible assumption | simp only [good_mk, setAt_length, portLost_ports, emptied_ports, List.length_map, List.length_mapIdx, List.length_range, List.length_replicate, good_core] | with_reducible apply ite_good | with_reducible apply foldl_good | with_reducible apply foldl_fst_good | with_reducible apply count64_good | with_reducible apply count_good | with_reducible apply log_good | with_reducible apply fepOwe_good | with_reducible apply setFepPort_good | with_reducible apply fepForward_good | with_reducible apply fepTake_good | intro _ | split

theorem lentFlits_good {gr : Fixed} {p : Nat} {n : Nat} {s : State} (hg : Good gr s) : Good gr (State.lentFlits s p n) := by
  unfold State.lentFlits
  repeat' first | with_reducible assumption | simp only [good_mk, setAt_length, portLost_ports, emptied_ports, List.length_map, List.length_mapIdx, List.length_range, List.length_replicate, good_core] | with_reducible apply ite_good | with_reducible apply foldl_good | with_reducible apply foldl_fst_good | with_reducible apply setPort_good | with_reducible apply count64_good | with_reducible apply count_good | intro _ | split

theorem fepFlits_good {gr : Fixed} {p : Nat} {t : FepTx} {s : State} (hg : Good gr s) : Good gr (State.fepFlits s p t) := by
  unfold State.fepFlits
  repeat' first | with_reducible assumption | simp only [good_mk, setAt_length, portLost_ports, emptied_ports, List.length_map, List.length_mapIdx, List.length_range, List.length_replicate, good_core] | with_reducible apply ite_good | with_reducible apply foldl_good | with_reducible apply foldl_fst_good | with_reducible apply lentFlits_good | with_reducible apply fepOwe_good | with_reducible apply setFepPort_good | with_reducible apply emit_good | with_reducible apply fepLeft_good | intro _ | split

theorem fepMessageSendOp_good {gr : Fixed} {p : Nat} {s : State} (hg : Good gr s) : Good gr (fepMessageSendOp p s) := by
  unfold fepMessageSendOp
  repeat' first | with_reducible assumption | simp only [good_mk, setAt_length, portLost_ports, emptied_ports, List.length_map, List.length_mapIdx, List.length_range, List.length_replicate, good_core] | with_reducible apply ite_good | with_reducible apply foldl_good | with_reducible apply foldl_fst_good | with_reducible apply fepFlits_good | with_reducible apply setFepPort_good | with_reducible apply lentFlits_good | with_reducible apply emit_good | intro _ | split

theorem fepWindowsWrite_good {gr : Fixed} {o : Nat} {bs : Sys2Proof.Bytes} {s : State} (hg : Good gr s) : Good gr (State.fepWindowsWrite s o bs).1 := by
  unfold State.fepWindowsWrite
  repeat' first | with_reducible assumption | simp only [good_mk, setAt_length, portLost_ports, emptied_ports, List.length_map, List.length_mapIdx, List.length_range, List.length_replicate, good_core] | with_reducible apply ite_good | with_reducible apply foldl_good | with_reducible apply foldl_fst_good | with_reducible apply domPut_good | intro _ | split

theorem fepRouteWrite_good {gr : Fixed} {o : Nat} {bs : Sys2Proof.Bytes} {s : State} (hg : Good gr s) : Good gr (State.fepRouteWrite s o bs).1 := by
  unfold State.fepRouteWrite
  repeat' first | with_reducible assumption | simp only [good_mk, setAt_length, portLost_ports, emptied_ports, List.length_map, List.length_mapIdx, List.length_range, List.length_replicate, good_core] | with_reducible apply ite_good | with_reducible apply foldl_good | with_reducible apply foldl_fst_good | with_reducible apply domPut_good | intro _ | split

theorem fepTableWrite_good {gr : Fixed} {o : Nat} {bs : Sys2Proof.Bytes} {s : State} (hg : Good gr s) : Good gr (State.fepTableWrite s o bs).1 := by
  unfold State.fepTableWrite
  repeat' first | with_reducible assumption | simp only [good_mk, setAt_length, portLost_ports, emptied_ports, List.length_map, List.length_mapIdx, List.length_range, List.length_replicate, good_core] | with_reducible apply ite_good | with_reducible apply foldl_good | with_reducible apply foldl_fst_good | with_reducible apply tableWrite_good | (with_reducible refine good_fst (by with_reducible assumption) ?_) | intro _ | split

theorem fepStart_good {gr : Fixed} {q : Nat} {s : State} (hg : Good gr s) : Good gr (State.fepStart s q).1 := by
  unfold State.fepStart
  repeat' first | with_reducible assumption | simp only [good_mk, setAt_length, portLost_ports, emptied_ports, List.length_map, List.length_mapIdx, List.length_range, List.length_replicate, good_core] | with_reducible apply ite_good | with_reducible apply foldl_good | with_reducible apply foldl_fst_good | with_reducible apply fepIssue_good | intro _ | split

theorem fepDrop_good {gr : Fixed} {p : CacheLine → Bool} {s : State} (hg : Good gr s) : Good gr (State.fepDrop s p) := by
  unfold State.fepDrop
  repeat' first | with_reducible assumption | simp only [good_mk, setAt_length, portLost_ports, emptied_ports, List.length_map, List.length_mapIdx, List.length_range, List.length_replicate, good_core] | with_reducible apply ite_good | with_reducible apply foldl_good | with_reducible apply foldl_fst_good | intro _ | split

theorem fepInvalOp_good {gr : Fixed} {v : Nat} {s : State} (hg : Good gr s) : Good gr (fepInvalOp v s) := by
  unfold fepInvalOp
  repeat' first | with_reducible assumption | simp only [good_mk, setAt_length, portLost_ports, emptied_ports, List.length_map, List.length_mapIdx, List.length_range, List.length_replicate, good_core] | with_reducible apply ite_good | with_reducible apply foldl_good | with_reducible apply foldl_fst_good | with_reducible apply fepDrop_good | intro _ | split

theorem ringWrite_good {gr : Fixed} {c : Nat} {bs : Sys2Proof.Bytes} {s : State} (hg : Good gr s) : Good gr (State.ringWrite s c bs) := by
  unfold State.ringWrite
  repeat' first | with_reducible assumption | simp only [good_mk, setAt_length, portLost_ports, emptied_ports, List.length_map, List.length_mapIdx, List.length_range, List.length_replicate, good_core] | with_reducible apply ite_good | with_reducible apply foldl_good | with_reducible apply foldl_fst_good | with_reducible apply count_good | (with_reducible refine ringPut_good ?_ (by with_reducible assumption)) | intro _ | split

theorem tileDigestCloseOp_good {gr : Fixed} {c : Nat} {layer : Nat} {kind : Nat} {tile : Nat} {s : State} (hg : Good gr s) : Good gr (tileDigestCloseOp c layer kind tile s) := by
  unfold tileDigestCloseOp
  repeat' first | with_reducible assumption | simp only [good_mk, setAt_length, portLost_ports, emptied_ports, List.length_map, List.length_mapIdx, List.length_range, List.length_replicate, good_core] | with_reducible apply ite_good | with_reducible apply foldl_good | with_reducible apply foldl_fst_good | with_reducible apply updAudit_good | with_reducible apply ringWrite_good | with_reducible apply busy_good | intro _ | split

theorem sendPost_good {gr : Fixed} {a : Audit} {checker : Nat} {check : Nat} {replica : Nat} {last : Nat} {s : State} (hg : Good gr s) : Good gr (State.sendPost s a checker check replica last) := by
  unfold State.sendPost
  repeat' first | with_reducible assumption | simp only [good_mk, setAt_length, portLost_ports, emptied_ports, List.length_map, List.length_mapIdx, List.length_range, List.length_replicate, good_core] | with_reducible apply ite_good | with_reducible apply foldl_good | with_reducible apply foldl_fst_good | with_reducible apply fepAsk_good | intro _ | split

theorem stepDigestCloseOp_good {gr : Fixed} {c : Nat} {st : Nat} {s : State} (hg : Good gr s) : Good gr (stepDigestCloseOp c st s) := by
  unfold stepDigestCloseOp
  repeat' first | with_reducible assumption | simp only [good_mk, setAt_length, portLost_ports, emptied_ports, List.length_map, List.length_mapIdx, List.length_range, List.length_replicate, good_core] | with_reducible apply ite_good | with_reducible apply foldl_good | with_reducible apply foldl_fst_good | with_reducible apply updAudit_good | with_reducible apply domPut_good | with_reducible apply rpl_good | with_reducible apply ringWrite_good | with_reducible apply log_good | with_reducible apply busy_good | with_reducible apply sendPost_good | intro _ | split

theorem digestPostOp_good {gr : Fixed} {c : Nat} {checker : Nat} {check : Nat} {replica : Nat} {last : Nat} {s : State} (hg : Good gr s) : Good gr (digestPostOp c checker check replica last s) := by
  unfold digestPostOp
  repeat' first | with_reducible assumption | simp only [good_mk, setAt_length, portLost_ports, emptied_ports, List.length_map, List.length_mapIdx, List.length_range, List.length_replicate, good_core] | with_reducible apply ite_good | with_reducible apply foldl_good | with_reducible apply foldl_fst_good | with_reducible apply issue_good | with_reducible apply sendPost_good | with_reducible apply overrun_good | intro _ | split

theorem checkAsk_good {gr : Fixed} {x : PostSet} {i : Nat} {p : CheckPart} {s : State} (hg : Good gr s) : Good gr (State.checkAsk s x i p) := by
  unfold State.checkAsk
  repeat' first | with_reducible assumption | simp only [good_mk, setAt_length, portLost_ports, emptied_ports, List.length_map, List.length_mapIdx, List.length_range, List.length_replicate, good_core] | with_reducible apply ite_good | with_reducible apply foldl_good | with_reducible apply foldl_fst_good | with_reducible apply fepAsk_good | intro _ | split

theorem divergence_good {gr : Fixed} {x : PostSet} {node : Nat} {det : Nat} {layer : Option Nat} {arg : Nat} {s : State} (hg : Good gr s) : Good gr (State.divergence s x node det layer arg) := by
  unfold State.divergence
  repeat' first | with_reducible assumption | simp only [good_mk, setAt_length, portLost_ports, emptied_ports, List.length_map, List.length_mapIdx, List.length_range, List.length_replicate, good_core] | with_reducible apply ite_good | with_reducible apply foldl_good | with_reducible apply foldl_fst_good | with_reducible apply log_good | intro _ | split

theorem postSetCheckOp_good {gr : Fixed} {c : Nat} {check : Nat} {st : Nat} {s : State} (hg : Good gr s) : Good gr (postSetCheckOp c check st s) := by
  unfold postSetCheckOp
  repeat' first | with_reducible assumption | simp only [good_mk, setAt_length, portLost_ports, emptied_ports, List.length_map, List.length_mapIdx, List.length_range, List.length_replicate, good_core] | with_reducible apply ite_good | with_reducible apply foldl_good | with_reducible apply foldl_fst_good | with_reducible apply checkAsk_good | with_reducible apply divergence_good | with_reducible apply busy_good | intro _ | split

theorem postSetTimeoutOp_good {gr : Fixed} {c : Nat} {check : Nat} {st : Nat} {s : State} (hg : Good gr s) : Good gr (postSetTimeoutOp c check st s) := by
  unfold postSetTimeoutOp
  repeat' first | with_reducible assumption | simp only [good_mk, setAt_length, portLost_ports, emptied_ports, List.length_map, List.length_mapIdx, List.length_range, List.length_replicate, good_core] | with_reducible apply ite_good | with_reducible apply foldl_good | with_reducible apply foldl_fst_good | with_reducible apply log_good | intro _ | split

theorem residencyRead_good {gr : Fixed} {g : LayerGrad} {s : State} (hg : Good gr s) : Good gr (State.residencyRead s g) := by
  unfold State.residencyRead
  repeat' first | with_reducible assumption | simp only [good_mk, setAt_length, portLost_ports, emptied_ports, List.length_map, List.length_mapIdx, List.length_range, List.length_replicate, good_core] | with_reducible apply ite_good | with_reducible apply foldl_good | with_reducible apply foldl_fst_good | with_reducible apply fepAsk_good | with_reducible apply setLayerGrad_good | intro _ | split

theorem gradientB7ResidencyOp_good {gr : Fixed} {c : Nat} {layer : Nat} {tile : Nat} {index : Nat} {s : State} (hg : Good gr s) : Good gr (gradientB7ResidencyOp c layer tile index s) := by
  unfold gradientB7ResidencyOp
  repeat' first | with_reducible assumption | simp only [good_mk, setAt_length, portLost_ports, emptied_ports, List.length_map, List.length_mapIdx, List.length_range, List.length_replicate, good_core] | with_reducible apply ite_good | with_reducible apply foldl_good | with_reducible apply foldl_fst_good | with_reducible apply residencyRead_good | with_reducible apply issue_good | intro _ | split

theorem residencyRetryOp_good {gr : Fixed} {c : Nat} {layer : Nat} {s : State} (hg : Good gr s) : Good gr (residencyRetryOp c layer s) := by
  unfold residencyRetryOp
  repeat' first | with_reducible assumption | simp only [good_mk, setAt_length, portLost_ports, emptied_ports, List.length_map, List.length_mapIdx, List.length_range, List.length_replicate, good_core] | with_reducible apply ite_good | with_reducible apply foldl_good | with_reducible apply foldl_fst_good | with_reducible apply residencyRead_good | intro _ | split

theorem residencyDeadlineOp_good {gr : Fixed} {c : Nat} {layer : Nat} {s : State} (hg : Good gr s) : Good gr (residencyDeadlineOp c layer s) := by
  unfold residencyDeadlineOp
  repeat' first | with_reducible assumption | simp only [good_mk, setAt_length, portLost_ports, emptied_ports, List.length_map, List.length_mapIdx, List.length_range, List.length_replicate, good_core] | with_reducible apply ite_good | with_reducible apply foldl_good | with_reducible apply foldl_fst_good | with_reducible apply setLayerGrad_good | with_reducible apply replayStep_good | with_reducible apply log_good | intro _ | split

theorem delivPut_good {gr : Fixed} {c st l g : Nat} {bs : List (Nat × Bytes)} : ∀ {s t : State}, State.delivPut c st l g bs s = some t → Good gr s → Good gr t := by
  induction bs with
  | nil =>
    intro s t e hg
    cases e
    with_reducible exact hg
  | cons x r ih =>
    intro s t e hg
    unfold State.delivPut at e
    split at e
    · rename_i h1
      with_reducible exact ih e (putPart_good (takeSlot_good h1 hg))
    · cases e

theorem deliveryFormOp_good {gr : Fixed} {c : Nat} {layer : Nat} {s : State} (hg : Good gr s) : Good gr (deliveryFormOp c layer s) := by
  unfold deliveryFormOp
  repeat' first | (with_reducible refine delivPut_good (by with_reducible assumption) ?_) | with_reducible assumption | simp only [good_mk, setAt_length, portLost_ports, emptied_ports, List.length_map, List.length_mapIdx, List.length_range, List.length_replicate, good_core] | with_reducible apply ite_good | with_reducible apply foldl_good | with_reducible apply foldl_fst_good | with_reducible apply busy_good | with_reducible apply setLayerGrad_good | intro _ | split

theorem closeLedger_good {gr : Fixed} {c : Nat} {p : Nat → Bool} {s : State} (hg : Good gr s) : Good gr (State.closeLedger s c p) := by
  unfold State.closeLedger
  repeat' first | with_reducible assumption | simp only [good_mk, setAt_length, portLost_ports, emptied_ports, List.length_map, List.length_mapIdx, List.length_range, List.length_replicate, good_core] | with_reducible apply ite_good | with_reducible apply foldl_good | with_reducible apply foldl_fst_good | with_reducible apply ledgerWrite_good | intro _ | split

theorem abandon_good {gr : Fixed} {c : Nat} {p : Nat → Bool} {s : State} (hg : Good gr s) : Good gr (State.abandon s c p) := by
  unfold State.abandon
  repeat' first | with_reducible assumption | simp only [good_mk, setAt_length, portLost_ports, emptied_ports, List.length_map, List.length_mapIdx, List.length_range, List.length_replicate, good_core] | with_reducible apply ite_good | with_reducible apply foldl_good | with_reducible apply foldl_fst_good | with_reducible apply dropPiece_good | with_reducible apply setCtx_good | intro _ | split

theorem bare_good {gr : Fixed} {c : Nat} {s : State} (hg : Good gr s) : Good gr (State.bare s c) := by
  unfold State.bare
  repeat' first | with_reducible assumption | simp only [good_mk, setAt_length, portLost_ports, emptied_ports, List.length_map, List.length_mapIdx, List.length_range, List.length_replicate, good_core] | with_reducible apply ite_good | with_reducible apply foldl_good | with_reducible apply foldl_fst_good | with_reducible apply invalidate_good | with_reducible apply freeAll_good | with_reducible apply setCtx_good | intro _ | split

theorem startUnload_good {gr : Fixed} {c : Nat} {u : Unload} {s : State} (hg : Good gr s) : Good gr (State.startUnload s c u) := by
  unfold State.startUnload
  repeat' first | with_reducible assumption | simp only [good_mk, setAt_length, portLost_ports, emptied_ports, List.length_map, List.length_mapIdx, List.length_range, List.length_replicate, good_core] | with_reducible apply ite_good | with_reducible apply foldl_good | with_reducible apply foldl_fst_good | with_reducible apply abandon_good | with_reducible apply endCopy_good | with_reducible apply endJob_good | with_reducible apply endScans_good | with_reducible apply fepDrop_good | with_reducible apply invalidate_good | with_reducible apply setCtx_good | intro _ | split

theorem enterLoaded_good {gr : Fixed} {c : Nat} {i : Image} {s : State} (hg : Good gr s) : Good gr (State.enterLoaded s c i) := by
  unfold State.enterLoaded
  repeat' first | with_reducible assumption | simp only [good_mk, setAt_length, portLost_ports, emptied_ports, List.length_map, List.length_mapIdx, List.length_range, List.length_replicate, good_core] | with_reducible apply ite_good | with_reducible apply foldl_good | with_reducible apply foldl_fst_good | with_reducible apply setCtx_good | with_reducible apply put_good | with_reducible apply stopPtCheck_good | with_reducible apply setTt_good | intro _ | split

theorem loadFailed_good {gr : Fixed} {c : Nat} {code : Nat} {off : Nat} {s : State} (hg : Good gr s) : Good gr (State.loadFailed s c code off) := by
  unfold State.loadFailed
  repeat' first | with_reducible assumption | simp only [good_mk, setAt_length, portLost_ports, emptied_ports, List.length_map, List.length_mapIdx, List.length_range, List.length_replicate, good_core] | with_reducible apply ite_good | with_reducible apply foldl_good | with_reducible apply foldl_fst_good | with_reducible apply log_good | with_reducible apply setTt_good | with_reducible apply put_good | intro _ | split

theorem ttLoadOp_good {gr : Fixed} {c : Nat} {s : State} (hg : Good gr s) : Good gr (ttLoadOp c s) := by
  unfold ttLoadOp
  repeat' first | with_reducible assumption | simp only [good_mk, setAt_length, portLost_ports, emptied_ports, List.length_map, List.length_mapIdx, List.length_range, List.length_replicate, good_core] | with_reducible apply ite_good | with_reducible apply foldl_good | with_reducible apply foldl_fst_good | with_reducible apply setTt_good | intro _ | split

theorem loadReads_good {gr : Fixed} {c : Nat} {v : Except (Nat × Nat) Image} {s : State} (hg : Good gr s) : Good gr (State.loadReads s c v) := by
  unfold State.loadReads
  repeat' first | with_reducible assumption | simp only [good_mk, setAt_length, portLost_ports, emptied_ports, List.length_map, List.length_mapIdx, List.length_range, List.length_replicate, good_core] | with_reducible apply ite_good | with_reducible apply foldl_good | with_reducible apply foldl_fst_good | with_reducible apply hostRead_good | intro _ | split

theorem ttLoadDoneOp_good {gr : Fixed} {c : Nat} {s : State} (hg : Good gr s) : Good gr (ttLoadDoneOp c s) := by
  unfold ttLoadDoneOp
  repeat' first | with_reducible assumption | simp only [good_mk, setAt_length, portLost_ports, emptied_ports, List.length_map, List.length_mapIdx, List.length_range, List.length_replicate, good_core] | with_reducible apply ite_good | with_reducible apply foldl_good | with_reducible apply foldl_fst_good | with_reducible apply bare_good | with_reducible apply loadReads_good | with_reducible apply startUnload_good | with_reducible apply enterLoaded_good | with_reducible apply loadFailed_good | intro _ | split

theorem ttUnloadOp_good {gr : Fixed} {c : Nat} {s : State} (hg : Good gr s) : Good gr (ttUnloadOp c s) := by
  unfold ttUnloadOp
  repeat' first | with_reducible assumption | simp only [good_mk, setAt_length, portLost_ports, emptied_ports, List.length_map, List.length_mapIdx, List.length_range, List.length_replicate, good_core] | with_reducible apply ite_good | with_reducible apply foldl_good | with_reducible apply foldl_fst_good | with_reducible apply startUnload_good | intro _ | split

theorem ttImageAddrOp_good {gr : Fixed} {c : Nat} {v : Nat} {s : State} (hg : Good gr s) : Good gr (ttImageAddrOp c v s) := by
  unfold ttImageAddrOp
  repeat' first | with_reducible assumption | simp only [good_mk, setAt_length, portLost_ports, emptied_ports, List.length_map, List.length_mapIdx, List.length_range, List.length_replicate, good_core] | with_reducible apply ite_good | with_reducible apply foldl_good | with_reducible apply foldl_fst_good | with_reducible apply ttUnloadOp_good | with_reducible apply put_good | intro _ | split

theorem unloadPathDoneOp_good {gr : Fixed} {c : Nat} {s : State} (hg : Good gr s) : Good gr (unloadPathDoneOp c s) := by
  unfold unloadPathDoneOp
  repeat' first | with_reducible assumption | simp only [good_mk, setAt_length, portLost_ports, emptied_ports, List.length_map, List.length_mapIdx, List.length_range, List.length_replicate, good_core] | with_reducible apply ite_good | with_reducible apply foldl_good | with_reducible apply foldl_fst_good | with_reducible apply setCtx_good | with_reducible apply freeAll_good | with_reducible apply enterLoaded_good | with_reducible apply setTt_good | with_reducible apply loadFailed_good | intro _ | split

theorem ttStartOp_good {gr : Fixed} {c : Nat} {s : State} (hg : Good gr s) : Good gr (ttStartOp c s) := by
  unfold ttStartOp
  repeat' first | with_reducible assumption | simp only [good_mk, setAt_length, portLost_ports, emptied_ports, List.length_map, List.length_mapIdx, List.length_range, List.length_replicate, good_core] | with_reducible apply ite_good | with_reducible apply foldl_good | with_reducible apply foldl_fst_good | with_reducible apply logEvs_good | with_reducible apply put_good | with_reducible apply setCtx_good | with_reducible apply abandon_good | with_reducible apply rpl_good | with_reducible apply setRate_good | with_reducible apply setTt_good | intro _ | split

theorem ttStopOp_good {gr : Fixed} {c : Nat} {s : State} (hg : Good gr s) : Good gr (ttStopOp c s) := by
  unfold ttStopOp
  repeat' first | with_reducible assumption | simp only [good_mk, setAt_length, portLost_ports, emptied_ports, List.length_map, List.length_mapIdx, List.length_range, List.length_replicate, good_core] | with_reducible apply ite_good | with_reducible apply foldl_good | with_reducible apply foldl_fst_good | with_reducible apply toLoaded_good | with_reducible apply abandon_good | with_reducible apply setTt_good | intro _ | split

theorem openScan_good {gr : Fixed} {c : Nat} {st : Nat} {s : State} (hg : Good gr s) : Good gr (State.openScan s c st) := by
  unfold State.openScan
  repeat' first | with_reducible assumption | simp only [good_mk, setAt_length, portLost_ports, emptied_ports, List.length_map, List.length_mapIdx, List.length_range, List.length_replicate, good_core] | with_reducible apply ite_good | with_reducible apply foldl_good | with_reducible apply foldl_fst_good | with_reducible apply scanPut_good | intro _ | split

theorem beginStep_good {gr : Fixed} {c : Nat} {st : Nat} {first : Nat} {s : State} (hg : Good gr s) : Good gr (State.beginStep s c st first) := by
  unfold State.beginStep
  repeat' first | with_reducible assumption | simp only [good_mk, setAt_length, portLost_ports, emptied_ports, List.length_map, List.length_mapIdx, List.length_range, List.length_replicate, good_core] | with_reducible apply ite_good | with_reducible apply foldl_good | with_reducible apply foldl_fst_good | with_reducible apply put_good | with_reducible apply setCtx_good | with_reducible apply openScan_good | intro _ | split

theorem viewStep_good {gr : Fixed} {c : Nat} {s : State} (hg : Good gr s) : Good gr (State.viewStep s c) := by
  unfold State.viewStep
  repeat' first | with_reducible assumption | simp only [good_mk, setAt_length, portLost_ports, emptied_ports, List.length_map, List.length_mapIdx, List.length_range, List.length_replicate, good_core] | with_reducible apply ite_good | with_reducible apply foldl_good | with_reducible apply foldl_fst_good | intro _ | split

theorem firstStepBeginOp_good {gr : Fixed} {c : Nat} {s : State} (hg : Good gr s) : Good gr (firstStepBeginOp c s) := by
  unfold firstStepBeginOp
  repeat' first | with_reducible assumption | simp only [good_mk, setAt_length, portLost_ports, emptied_ports, List.length_map, List.length_mapIdx, List.length_range, List.length_replicate, good_core] | with_reducible apply ite_good | with_reducible apply foldl_good | with_reducible apply foldl_fst_good | with_reducible apply viewStep_good | with_reducible apply beginStep_good | with_reducible apply setRate_good | with_reducible apply setTt_good | intro _ | split

theorem keepLoads_good {gr : Fixed} {c : Nat} {s : State} (hg : Good gr s) : Good gr (State.keepLoads s c) := by
  unfold State.keepLoads
  repeat' first | with_reducible assumption | simp only [good_mk, setAt_length, portLost_ports, emptied_ports, List.length_map, List.length_mapIdx, List.length_range, List.length_replicate, good_core] | with_reducible apply ite_good | with_reducible apply foldl_good | with_reducible apply foldl_fst_good | intro _ | split

theorem stepEndOp_good {gr : Fixed} {c : Nat} {s : State} (hg : Good gr s) : Good gr (stepEndOp c s) := by
  unfold stepEndOp
  repeat' first | with_reducible assumption | simp only [good_mk, setAt_length, portLost_ports, emptied_ports, List.length_map, List.length_mapIdx, List.length_range, List.length_replicate, good_core] | with_reducible apply ite_good | with_reducible apply foldl_good | with_reducible apply foldl_fst_good | with_reducible apply issued_good | with_reducible apply keepGrads_good | with_reducible apply setCtx_good | with_reducible apply toLoaded_good | with_reducible apply put_good | with_reducible apply abandon_good | with_reducible apply keepLoads_good | with_reducible apply beginStep_good | intro _ | split

theorem frameProgramFetchOp_good {gr : Fixed} {c : Nat} {s : State} (hg : Good gr s) : Good gr (frameProgramFetchOp c s) := by
  unfold frameProgramFetchOp
  repeat' first | with_reducible assumption | simp only [good_mk, setAt_length, portLost_ports, emptied_ports, List.length_map, List.length_mapIdx, List.length_range, List.length_replicate, good_core] | with_reducible apply ite_good | with_reducible apply foldl_good | with_reducible apply foldl_fst_good | with_reducible apply setCtx_good | intro _ | split

theorem frameProgramFetchedOp_good {gr : Fixed} {c : Nat} {corrupt : Nat} {s : State} (hg : Good gr s) : Good gr (frameProgramFetchedOp c corrupt s) := by
  unfold frameProgramFetchedOp
  repeat' first | with_reducible assumption | simp only [good_mk, setAt_length, portLost_ports, emptied_ports, List.length_map, List.length_mapIdx, List.length_range, List.length_replicate, good_core] | with_reducible apply ite_good | with_reducible apply foldl_good | with_reducible apply foldl_fst_good | with_reducible apply hostRead_good | with_reducible apply setCtx_good | with_reducible apply log_good | with_reducible apply imposeStop_good | with_reducible apply replayStep_good | intro _ | split

theorem stopAtBoundary_good {gr : Fixed} {c : Nat} {s : State} (hg : Good gr s) : Good gr (State.stopAtBoundary s c) := by
  unfold State.stopAtBoundary
  repeat' first | with_reducible assumption | simp only [good_mk, setAt_length, portLost_ports, emptied_ports, List.length_map, List.length_mapIdx, List.length_range, List.length_replicate, good_core] | with_reducible apply ite_good | with_reducible apply foldl_good | with_reducible apply foldl_fst_good | with_reducible apply abandon_good | with_reducible apply toLoaded_good | with_reducible apply setCtx_good | intro _ | split

theorem bankSwap_good {gr : Fixed} {c : Nat} {kind : Nat} {ready : Nat} {active : Nat} {shadowCrc : Nat} {activeCrc : Nat} {det : Nat} {unit : Nat} {s : State} (hg : Good gr s) : Good gr (State.bankSwap s c kind ready active shadowCrc activeCrc det unit) := by
  unfold State.bankSwap
  repeat' first | with_reducible assumption | simp only [good_mk, setAt_length, portLost_ports, emptied_ports, List.length_map, List.length_mapIdx, List.length_range, List.length_replicate, good_core] | with_reducible apply ite_good | with_reducible apply foldl_good | with_reducible apply foldl_fst_good | with_reducible apply stopAtBoundary_good | with_reducible apply put_good | with_reducible apply rpl_good | with_reducible apply log_good | intro _ | split

theorem issueSwap_good {gr : Fixed} {c : Nat} {half : Nat} {m : Nat × Nat} {s : State} (hg : Good gr s) : Good gr (State.issueSwap s c half m) := by
  unfold State.issueSwap
  repeat' first | with_reducible assumption | simp only [good_mk, setAt_length, portLost_ports, emptied_ports, List.length_map, List.length_mapIdx, List.length_range, List.length_replicate, good_core] | with_reducible apply ite_good | with_reducible apply foldl_good | with_reducible apply foldl_fst_good | with_reducible apply issueAt_good | intro _ | split

theorem bankSwapPlacementOp_good {gr : Fixed} {c : Nat} {s : State} (hg : Good gr s) : Good gr (bankSwapPlacementOp c s) := by
  unfold bankSwapPlacementOp
  repeat' first | with_reducible assumption | simp only [good_mk, setAt_length, portLost_ports, emptied_ports, List.length_map, List.length_mapIdx, List.length_range, List.length_replicate, good_core] | with_reducible apply ite_good | with_reducible apply foldl_good | with_reducible apply foldl_fst_good | with_reducible apply bankSwap_good | with_reducible apply issueSwap_good | intro _ | split

theorem bankSwapProgramOp_good {gr : Fixed} {c : Nat} {s : State} (hg : Good gr s) : Good gr (bankSwapProgramOp c s) := by
  unfold bankSwapProgramOp
  repeat' first | with_reducible assumption | simp only [good_mk, setAt_length, portLost_ports, emptied_ports, List.length_map, List.length_mapIdx, List.length_range, List.length_replicate, good_core] | with_reducible apply ite_good | with_reducible apply foldl_good | with_reducible apply foldl_fst_good | with_reducible apply bankSwap_good | with_reducible apply issueSwap_good | intro _ | split

theorem abandonOpen_good {gr : Fixed} {c : Nat} {o : OpenStep} {os : List OpenStep} {s : State} (hg : Good gr s) : Good gr (State.abandonOpen s c o os) := by
  unfold State.abandonOpen
  repeat' first | with_reducible assumption | simp only [good_mk, setAt_length, portLost_ports, emptied_ports, List.length_map, List.length_mapIdx, List.length_range, List.length_replicate, good_core] | with_reducible apply ite_good | with_reducible apply foldl_good | with_reducible apply foldl_fst_good | with_reducible apply abandon_good | with_reducible apply closeLedger_good | with_reducible apply emitControl_good | with_reducible apply setCtx_good | intro _ | split

theorem abortBoundaryOp_good {gr : Fixed} {c : Nat} {s : State} (hg : Good gr s) : Good gr (abortBoundaryOp c s) := by
  unfold abortBoundaryOp
  repeat' first | with_reducible assumption | simp only [good_mk, setAt_length, portLost_ports, emptied_ports, List.length_map, List.length_mapIdx, List.length_range, List.length_replicate, good_core] | with_reducible apply ite_good | with_reducible apply foldl_good | with_reducible apply foldl_fst_good | with_reducible apply toLoaded_good | with_reducible apply abandonOpen_good | with_reducible apply log_good | with_reducible apply setCtx_good | intro _ | split

theorem replayBeginOp_good {gr : Fixed} {c : Nat} {s : State} (hg : Good gr s) : Good gr (replayBeginOp c s) := by
  unfold replayBeginOp
  repeat' first | with_reducible assumption | simp only [good_mk, setAt_length, portLost_ports, emptied_ports, List.length_map, List.length_mapIdx, List.length_range, List.length_replicate, good_core] | with_reducible apply ite_good | with_reducible apply foldl_good | with_reducible apply foldl_fst_good | with_reducible apply viewStep_good | with_reducible apply beginStep_good | with_reducible apply count_good | with_reducible apply setCtx_good | intro _ | split

theorem stepSlackExpiryOp_good {gr : Fixed} {c : Nat} {st : Nat} {s : State} (hg : Good gr s) : Good gr (stepSlackExpiryOp c st s) := by
  unfold stepSlackExpiryOp
  repeat' first | with_reducible assumption | simp only [good_mk, setAt_length, portLost_ports, emptied_ports, List.length_map, List.length_mapIdx, List.length_range, List.length_replicate, good_core] | with_reducible apply ite_good | with_reducible apply foldl_good | with_reducible apply foldl_fst_good | with_reducible apply setCtx_good | with_reducible apply replayStep_good | with_reducible apply log_good | intro _ | split

theorem takeDeficit_good {gr : Fixed} {c : Nat} {s : State} (hg : Good gr s) : Good gr (State.takeDeficit s c) := by
  unfold State.takeDeficit
  repeat' first | with_reducible assumption | simp only [good_mk, setAt_length, portLost_ports, emptied_ports, List.length_map, List.length_mapIdx, List.length_range, List.length_replicate, good_core] | with_reducible apply ite_good | with_reducible apply foldl_good | with_reducible apply foldl_fst_good | with_reducible apply requestSlip_good | with_reducible apply log_good | intro _ | split

theorem checkLoads_good {gr : Fixed} {s : State} (hg : Good gr s) : Good gr (State.checkLoads s) := by
  unfold State.checkLoads
  repeat' first | with_reducible assumption | simp only [good_mk, setAt_length, portLost_ports, emptied_ports, List.length_map, List.length_mapIdx, List.length_range, List.length_replicate, good_core] | with_reducible apply ite_good | with_reducible apply foldl_good | with_reducible apply foldl_fst_good | with_reducible apply log_good | intro _ | split

theorem lateSlips_good {gr : Fixed} {s : State} (hg : Good gr s) : Good gr (State.lateSlips s) := by
  unfold State.lateSlips
  repeat' first | with_reducible assumption | simp only [good_mk, setAt_length, portLost_ports, emptied_ports, List.length_map, List.length_mapIdx, List.length_range, List.length_replicate, good_core] | with_reducible apply ite_good | with_reducible apply foldl_good | with_reducible apply foldl_fst_good | with_reducible apply requestSlip_good | intro _ | split

theorem reportClock_good {gr : Fixed} {s : State} (hg : Good gr s) : Good gr (State.reportClock s) := by
  unfold State.reportClock
  repeat' first | with_reducible assumption | simp only [good_mk, setAt_length, portLost_ports, emptied_ports, List.length_map, List.length_mapIdx, List.length_range, List.length_replicate, good_core] | with_reducible apply ite_good | with_reducible apply foldl_good | with_reducible apply foldl_fst_good | with_reducible apply put_good | with_reducible apply count_good | intro _ | split

theorem nextFrame_good {gr : Fixed} {f : Nat} {s : State} (hg : Good gr s) : Good gr (State.nextFrame s f) := by
  unfold State.nextFrame
  repeat' first | with_reducible assumption | simp only [good_mk, setAt_length, portLost_ports, emptied_ports, List.length_map, List.length_mapIdx, List.length_range, List.length_replicate, good_core] | with_reducible apply ite_good | with_reducible apply foldl_good | with_reducible apply foldl_fst_good | intro _ | split

theorem pruneOpens_good {gr : Fixed} {s : State} (hg : Good gr s) : Good gr s.pruneOpens := by
  unfold State.pruneOpens
  simp only [good_mk, List.length_map, List.length_range]
  with_reducible apply core_ctxs (nc := s.ctxs.length)
  simp only [good_core]
  with_reducible exact hg

theorem beginFrame_good {gr : Fixed} {f : Nat} {s : State} (hg : Good gr s) : Good gr (State.beginFrame s f) := by
  unfold State.beginFrame
  repeat' first | with_reducible assumption | simp only [good_mk, setAt_length, portLost_ports, emptied_ports, List.length_map, List.length_mapIdx, List.length_range, List.length_replicate, good_core] | with_reducible apply ite_good | with_reducible apply foldl_good | with_reducible apply foldl_fst_good | with_reducible apply nextFrame_good | with_reducible apply pruneOpens_good | with_reducible apply put_good | intro _ | split

theorem frameBoundaryOp_good {gr : Fixed} {s : State} (hg : Good gr s) : Good gr (frameBoundaryOp s) := by
  unfold frameBoundaryOp
  repeat' first | with_reducible assumption | simp only [good_mk, setAt_length, portLost_ports, emptied_ports, List.length_map, List.length_mapIdx, List.length_range, List.length_replicate, good_core] | with_reducible apply ite_good | with_reducible apply foldl_good | with_reducible apply foldl_fst_good | with_reducible apply keepGrads_good | with_reducible apply slipOp_good | with_reducible apply reachTick_good | with_reducible apply reportClock_good | with_reducible apply busyAll_good | with_reducible apply count64_good | with_reducible apply checkLoads_good | with_reducible apply takeDeficit_good | with_reducible apply flushTap_good | with_reducible apply copyView_good | with_reducible apply emit_good | with_reducible apply lateSlips_good | with_reducible apply beginFrame_good | intro _ | split

theorem meterLog_good {gr : Fixed} {kind : Nat} {ctx : Nat} {a0 : Nat} {a1 : Nat} {s : State} (hg : Good gr s) : Good gr (State.meterLog s kind ctx a0 a1) := by
  unfold State.meterLog
  repeat' first | with_reducible assumption | simp only [good_mk, setAt_length, portLost_ports, emptied_ports, List.length_map, List.length_mapIdx, List.length_range, List.length_replicate, good_core] | with_reducible apply ite_good | with_reducible apply foldl_good | with_reducible apply foldl_fst_good | with_reducible apply put_good | with_reducible apply domPut_good | with_reducible apply routeEvent_good | intro _ | split

theorem sealEv_good {gr : Fixed} {d : Nat} {s : State} (hg : Good gr s) : Good gr (State.sealEv s d) := by
  unfold State.sealEv
  repeat' first | with_reducible assumption | simp only [good_mk, setAt_length, portLost_ports, emptied_ports, List.length_map, List.length_mapIdx, List.length_range, List.length_replicate, good_core] | with_reducible apply ite_good | with_reducible apply foldl_good | with_reducible apply foldl_fst_good | with_reducible apply log_good | intro _ | split

theorem meterReport_good {gr : Fixed} {id : Nat} {seq : Nat} {s : State} (hg : Good gr s) : Good gr (State.meterReport s id seq) := by
  unfold State.meterReport
  repeat' first | with_reducible assumption | simp only [good_mk, setAt_length, portLost_ports, emptied_ports, List.length_map, List.length_mapIdx, List.length_range, List.length_replicate, good_core] | with_reducible apply ite_good | with_reducible apply foldl_good | with_reducible apply foldl_fst_good | with_reducible apply domPut_good | with_reducible apply meterLog_good | with_reducible apply sealEv_good | intro _ | split

theorem setRefused_good {gr : Fixed} {n : Nat} {v : Nat} {s : State} (hg : Good gr s) : Good gr (State.setRefused s n v) := by
  unfold State.setRefused
  repeat' first | with_reducible assumption | simp only [good_mk, setAt_length, portLost_ports, emptied_ports, List.length_map, List.length_mapIdx, List.length_range, List.length_replicate, good_core] | with_reducible apply ite_good | with_reducible apply foldl_good | with_reducible apply foldl_fst_good | intro _ | split

theorem meterCount_good {gr : Fixed} {w : Nat} {s : State} (hg : Good gr s) : Good gr (State.meterCount s w) := by
  unfold State.meterCount
  repeat' first | with_reducible assumption | simp only [good_mk, setAt_length, portLost_ports, emptied_ports, List.length_map, List.length_mapIdx, List.length_range, List.length_replicate, good_core] | with_reducible apply ite_good | with_reducible apply foldl_good | with_reducible apply foldl_fst_good | with_reducible apply count64_good | with_reducible apply count_good | with_reducible apply setRefused_good | intro _ | split

theorem tapWordOp_good {gr : Fixed} {s : State} (hg : Good gr s) : Good gr (tapWordOp s) := by
  unfold tapWordOp
  repeat' first | with_reducible assumption | simp only [good_mk, setAt_length, portLost_ports, emptied_ports, List.length_map, List.length_mapIdx, List.length_range, List.length_replicate, good_core] | with_reducible apply ite_good | with_reducible apply foldl_good | with_reducible apply foldl_fst_good | with_reducible apply meterCount_good | with_reducible apply meterReport_good | intro _ | split

theorem powerTaken_good {gr : Fixed} {e : Nat} {s : State} (hg : Good gr s) : Good gr (State.powerTaken s e) := by
  unfold State.powerTaken
  repeat' first | with_reducible assumption | simp only [good_mk, setAt_length, portLost_ports, emptied_ports, List.length_map, List.length_mapIdx, List.length_range, List.length_replicate, good_core] | with_reducible apply ite_good | with_reducible apply foldl_good | with_reducible apply foldl_fst_good | intro _ | split

theorem shareEnergy_good {gr : Fixed} {dE : Nat} {s : State} (hg : Good gr s) : Good gr (State.shareEnergy s dE) := by
  unfold State.shareEnergy
  repeat' first | with_reducible assumption | simp only [good_mk, setAt_length, portLost_ports, emptied_ports, List.length_map, List.length_mapIdx, List.length_range, List.length_replicate, good_core] | with_reducible apply ite_good | with_reducible apply foldl_good | with_reducible apply foldl_fst_good | with_reducible apply count64_good | intro _ | split

theorem powerWordOp_good {gr : Fixed} {e : Nat} {s : State} (hg : Good gr s) : Good gr (powerWordOp e s) := by
  unfold powerWordOp
  repeat' first | with_reducible assumption | simp only [good_mk, setAt_length, portLost_ports, emptied_ports, List.length_map, List.length_mapIdx, List.length_range, List.length_replicate, good_core] | with_reducible apply ite_good | with_reducible apply foldl_good | with_reducible apply foldl_fst_good | with_reducible apply powerTaken_good | with_reducible apply meterLog_good | with_reducible apply shareEnergy_good | intro _ | split

theorem powerTimeoutOp_good {gr : Fixed} {s : State} (hg : Good gr s) : Good gr (powerTimeoutOp s) := by
  unfold powerTimeoutOp
  repeat' first | with_reducible assumption | simp only [good_mk, setAt_length, portLost_ports, emptied_ports, List.length_map, List.length_mapIdx, List.length_range, List.length_replicate, good_core] | with_reducible apply ite_good | with_reducible apply foldl_good | with_reducible apply foldl_fst_good | with_reducible apply meterLog_good | intro _ | split

theorem persist_good {gr : Fixed} {mark : Nat} {s : State} (hg : Good gr s) : Good gr (State.persist s mark) := by
  unfold State.persist
  repeat' first | with_reducible assumption | simp only [good_mk, setAt_length, portLost_ports, emptied_ports, List.length_map, List.length_mapIdx, List.length_range, List.length_replicate, good_core] | with_reducible apply ite_good | with_reducible apply foldl_good | with_reducible apply foldl_fst_good | with_reducible apply emit_good | intro _ | split

theorem logRefused_good {gr : Fixed} {s : State} (hg : Good gr s) : Good gr (State.logRefused s) := by
  unfold State.logRefused
  repeat' first | with_reducible assumption | simp only [good_mk, setAt_length, portLost_ports, emptied_ports, List.length_map, List.length_mapIdx, List.length_range, List.length_replicate, good_core] | with_reducible apply ite_good | with_reducible apply foldl_good | with_reducible apply foldl_fst_good | with_reducible apply setRefused_good | with_reducible apply meterLog_good | intro _ | split

theorem meterPersistOp_good {gr : Fixed} {s : State} (hg : Good gr s) : Good gr (meterPersistOp s) := by
  unfold meterPersistOp
  repeat' first | with_reducible assumption | simp only [good_mk, setAt_length, portLost_ports, emptied_ports, List.length_map, List.length_mapIdx, List.length_range, List.length_replicate, good_core] | with_reducible apply ite_good | with_reducible apply foldl_good | with_reducible apply foldl_fst_good | with_reducible apply logRefused_good | with_reducible apply persist_good | intro _ | split

theorem nvDoneOp_good {gr : Fixed} {s : State} (hg : Good gr s) : Good gr (nvDoneOp s) := by
  unfold nvDoneOp
  repeat' first | with_reducible assumption | simp only [good_mk, setAt_length, portLost_ports, emptied_ports, List.length_map, List.length_mapIdx, List.length_range, List.length_replicate, good_core] | with_reducible apply ite_good | with_reducible apply foldl_good | with_reducible apply foldl_fst_good | with_reducible apply put_good | with_reducible apply persist_good | with_reducible apply core_mem | with_reducible apply core_stg | with_reducible apply core_qs | intro _ | split

theorem persistAckTimeoutOp_good {gr : Fixed} {s : State} (hg : Good gr s) : Good gr (persistAckTimeoutOp s) := by
  unfold persistAckTimeoutOp
  repeat' first | with_reducible assumption | simp only [good_mk, setAt_length, portLost_ports, emptied_ports, List.length_map, List.length_mapIdx, List.length_range, List.length_replicate, good_core] | with_reducible apply ite_good | with_reducible apply foldl_good | with_reducible apply foldl_fst_good | with_reducible apply meterLog_good | with_reducible apply sealEv_good | intro _ | split

theorem takeRecord_good {gr : Fixed} {r : Sys2Proof.Bytes} {s : State} (hg : Good gr s) : Good gr (State.takeRecord s r) := by
  unfold State.takeRecord
  repeat' first | with_reducible assumption | simp only [good_mk, setAt_length, portLost_ports, emptied_ports, List.length_map, List.length_mapIdx, List.length_range, List.length_replicate, good_core] | with_reducible apply ite_good | with_reducible apply foldl_good | with_reducible apply foldl_fst_good | with_reducible apply put_good | with_reducible apply domPut_good | intro _ | split

theorem sealFail_good {gr : Fixed} {what : Nat} {count : Nat} {s : State} (hg : Good gr s) : Good gr (State.sealFail s what count) := by
  unfold State.sealFail
  repeat' first | with_reducible assumption | simp only [good_mk, setAt_length, portLost_ports, emptied_ports, List.length_map, List.length_mapIdx, List.length_range, List.length_replicate, good_core] | with_reducible apply ite_good | with_reducible apply foldl_good | with_reducible apply foldl_fst_good | with_reducible apply meterLog_good | with_reducible apply sealEv_good | with_reducible apply put_good | intro _ | split

theorem meterRestoreOp_good {gr : Fixed} {s : State} (hg : Good gr s) : Good gr (meterRestoreOp s) := by
  unfold meterRestoreOp
  repeat' first | with_reducible assumption | simp only [good_mk, setAt_length, portLost_ports, emptied_ports, List.length_map, List.length_mapIdx, List.length_range, List.length_replicate, good_core] | with_reducible apply ite_good | with_reducible apply foldl_good | with_reducible apply foldl_fst_good | with_reducible apply put_good | with_reducible apply emit_good | with_reducible apply sealFail_good | with_reducible apply sealEv_good | with_reducible apply domPut_good | with_reducible apply meterLog_good | with_reducible apply meterCount_good | with_reducible apply takeRecord_good | intro _ | split

theorem putResult_good {gr : Fixed} {tr : Sys2Proof.Transport} {k : Nat} {item : Nat} {table : Nat} {r : Option Refused} {s : State} (hg : Good gr s) : Good gr (State.putResult s tr k item table r) := by
  unfold State.putResult
  repeat' first | with_reducible assumption | simp only [good_mk, setAt_length, portLost_ports, emptied_ports, List.length_map, List.length_mapIdx, List.length_range, List.length_replicate, good_core] | with_reducible apply ite_good | with_reducible apply foldl_good | with_reducible apply foldl_fst_good | with_reducible apply put_good | intro _ | split

theorem countRefused_good {gr : Fixed} {k : Nat → Nat} {r : Option Refused} {s : State} (hg : Good gr s) : Good gr (State.countRefused s k r) := by
  unfold State.countRefused
  repeat' first | with_reducible assumption | simp only [good_mk, setAt_length, portLost_ports, emptied_ports, List.length_map, List.length_mapIdx, List.length_range, List.length_replicate, good_core] | with_reducible apply ite_good | with_reducible apply foldl_good | with_reducible apply foldl_fst_good | with_reducible apply count_good | intro _ | split

theorem queueOp_good {gr : Fixed} {tr : Sys2Proof.Transport} {f : State → Nat → State} {s : State} (hg : Good gr s) (hf : ∀ z0 z1, Good gr z0 → Good gr (f z0 z1)) : Good gr (State.queueOp s tr f).1 := by
  unfold State.queueOp
  repeat' first | with_reducible assumption | simp only [good_mk, setAt_length, portLost_ports, emptied_ports, List.length_map, List.length_mapIdx, List.length_range, List.length_replicate, good_core] | with_reducible apply ite_good | with_reducible apply foldl_good | with_reducible apply foldl_fst_good | with_reducible apply hf | intro _ | split

theorem hostFree_good {gr : Fixed} {v : Nat} {s : State} (hg : Good gr s) : Good gr (State.hostFree s v).1 := by
  unfold State.hostFree
  repeat' first | with_reducible assumption | simp only [good_mk, setAt_length, portLost_ports, emptied_ports, List.length_map, List.length_mapIdx, List.length_range, List.length_replicate, good_core] | with_reducible apply ite_good | with_reducible apply foldl_good | with_reducible apply foldl_fst_good | with_reducible apply freeBuffer_good | with_reducible apply count_good | intro _ | split

theorem idleSwaps_good {gr : Fixed} {v : Nat} {s : State} (hg : Good gr s) : Good gr (State.idleSwaps s v).1 := by
  unfold State.idleSwaps
  repeat' first | with_reducible assumption | simp only [good_mk, setAt_length, portLost_ports, emptied_ports, List.length_map, List.length_mapIdx, List.length_range, List.length_replicate, good_core] | with_reducible apply ite_good | with_reducible apply foldl_good | with_reducible apply foldl_fst_good | with_reducible apply idleSwap_good | intro _ | split

theorem shapeWrite_good {gr : Fixed} {v : Nat} {s : State} (hg : Good gr s) : Good gr (State.shapeWrite s v) := by
  unfold State.shapeWrite
  repeat' first | with_reducible assumption | simp only [good_mk, setAt_length, portLost_ports, emptied_ports, List.length_map, List.length_mapIdx, List.length_range, List.length_replicate, good_core] | with_reducible apply ite_good | with_reducible apply foldl_good | with_reducible apply foldl_fst_good | with_reducible apply clearValid_good | with_reducible apply put_good | intro _ | split

theorem ringReset_good {gr : Fixed} {k : Nat} {v : Nat} {head : Nat} {tail : Nat} {s : State} (hg : Good gr s) : Good gr (State.ringReset s k v head tail) := by
  unfold State.ringReset
  repeat' first | with_reducible assumption | simp only [good_mk, setAt_length, portLost_ports, emptied_ports, List.length_map, List.length_mapIdx, List.length_range, List.length_replicate, good_core] | with_reducible apply ite_good | with_reducible apply foldl_good | with_reducible apply foldl_fst_good | with_reducible apply put_good | intro _ | split

theorem tailWrite_good {gr : Fixed} {k : Nat} {v : Nat} {len : Nat} {n : Nat} {c : Option Nat} {s : State} (hg : Good gr s) : Good gr (State.tailWrite s k v len n c).1 := by
  unfold State.tailWrite
  repeat' first | with_reducible assumption | simp only [good_mk, setAt_length, portLost_ports, emptied_ports, List.length_map, List.length_mapIdx, List.length_range, List.length_replicate, good_core] | with_reducible apply ite_good | with_reducible apply foldl_good | with_reducible apply foldl_fst_good | with_reducible apply put_good | intro _ | split

theorem writeCtx_good {gr : Fixed} {i : Nat} {c : Nat} {v : Nat} {s : State} (hg : Good gr s) : Good gr (State.writeCtx s i c v).1 := by
  unfold State.writeCtx
  repeat' first | with_reducible assumption | simp only [good_mk, setAt_length, portLost_ports, emptied_ports, List.length_map, List.length_mapIdx, List.length_range, List.length_replicate, good_core] | with_reducible apply ite_good | with_reducible apply foldl_good | with_reducible apply foldl_fst_good | with_reducible apply ttImageAddrOp_good | with_reducible apply ttLoadOp_good | with_reducible apply ttStartOp_good | with_reducible apply ttStopOp_good | with_reducible apply ttUnloadOp_good | with_reducible apply ringReset_good | with_reducible apply tailWrite_good | with_reducible apply put_good | (with_reducible refine good_fst (by with_reducible assumption) ?_) | intro _ | split

theorem writeControl_good {gr : Fixed} {k : Nat} {v : Nat} {s : State} (hg : Good gr s) : Good gr (State.writeControl s k v).1 := by
  unfold State.writeControl
  repeat' first | with_reducible assumption | simp only [good_mk, setAt_length, portLost_ports, emptied_ports, List.length_map, List.length_mapIdx, List.length_range, List.length_replicate, good_core] | with_reducible apply ite_good | with_reducible apply foldl_good | with_reducible apply foldl_fst_good | with_reducible apply syncInts_good | with_reducible apply put_good | with_reducible apply setRate_good | with_reducible apply idleSwaps_good | (with_reducible refine good_fst (by with_reducible assumption) ?_) | intro _ | split

theorem unitResult_good {gr : Fixed} {tr : Transport} {k i : Nat} {x : State × Option Refused} (hg : Good gr x.1) : Good gr (State.unitResult tr k i x).1 := by
  unfold State.unitResult
  with_reducible exact putResult_good hg

theorem sfuResult_good {gr : Fixed} {tr : Transport} {i : Nat} {x : State × Option Refused} (hg : Good gr x.1) : Good gr (State.sfuResult tr i x).1 := by
  unfold State.sfuResult
  with_reducible exact countRefused_good (putResult_good hg)

theorem pressResult_good {gr : Fixed} {tr : Transport} {i n : Nat} {x : State × Option Refused} (hg : Good gr x.1) : Good gr (State.pressResult tr i n x).1 := by
  unfold State.pressResult
  with_reducible exact countRefused_good (putResult_good hg)

theorem writeUnit_good {gr : Fixed} {tr : Sys2Proof.Transport} {k : Nat} {v : Nat} {s : State} (hg : Good gr s) : Good gr (State.writeUnit s tr k v).1 := by
  unfold State.writeUnit
  repeat' first | with_reducible apply ite_fst_good | with_reducible apply unitResult_good | with_reducible apply sfuResult_good | with_reducible apply pressResult_good | with_reducible assumption | simp only [good_mk, setAt_length, portLost_ports, emptied_ports, List.length_map, List.length_mapIdx, List.length_range, List.length_replicate, good_core] | with_reducible apply ite_good | with_reducible apply foldl_good | with_reducible apply foldl_fst_good | with_reducible apply syncInts_good | with_reducible apply put_good | with_reducible apply cvuInjectOp_good | with_reducible apply ptCheckStartOp_good | with_reducible apply tbStartOp_good | with_reducible apply poolInitialiseOp_good | with_reducible apply poolSetLowOp_good | with_reducible apply poolAllocReqOp_good | with_reducible apply hostFree_good | with_reducible apply queueOp_good | with_reducible apply pqMark_good | with_reducible apply pqRewind_good | with_reducible apply pqRelease_good | with_reducible apply copyStart_good | with_reducible apply jobStart_good | with_reducible apply shapeWrite_good | with_reducible apply fepStart_good | with_reducible apply fepInvalOp_good | (with_reducible refine good_fst (by with_reducible assumption) ?_) | intro _ | split

theorem writeObs_good {gr : Fixed} {k : Nat} {v : Nat} {s : State} (hg : Good gr s) : Good gr (State.writeObs s k v).1 := by
  unfold State.writeObs
  repeat' first | with_reducible apply ite_fst_good | with_reducible apply unitResult_good | with_reducible apply sfuResult_good | with_reducible apply pressResult_good | with_reducible assumption | simp only [good_mk, setAt_length, portLost_ports, emptied_ports, List.length_map, List.length_mapIdx, List.length_range, List.length_replicate, good_core] | with_reducible apply ite_good | with_reducible apply foldl_good | with_reducible apply foldl_fst_good | with_reducible apply numNonfiniteClearOp_good | with_reducible apply obsCountClearOp_good | with_reducible apply fltLogClearOp_good | with_reducible apply put_good | with_reducible apply snapControlOp_good | with_reducible apply trcControlOp_good | with_reducible apply ringReset_good | with_reducible apply tailWrite_good | with_reducible apply rplControlOp_good | with_reducible apply clearCounts_good | (with_reducible refine good_fst (by with_reducible assumption) ?_) | intro _ | split

theorem writeScalar_good {gr : Fixed} {tr : Sys2Proof.Transport} {idx : Nat} {sub : Nat} {v : Nat} {s : State} (hg : Good gr s) : Good gr (State.writeScalar s tr idx sub v).1 := by
  unfold State.writeScalar
  repeat' first | with_reducible assumption | simp only [good_mk, setAt_length, portLost_ports, emptied_ports, List.length_map, List.length_mapIdx, List.length_range, List.length_replicate, good_core] | with_reducible apply ite_good | with_reducible apply foldl_good | with_reducible apply foldl_fst_good | with_reducible apply writeCtx_good | with_reducible apply writeControl_good | with_reducible apply writeUnit_good | with_reducible apply writeObs_good | (with_reducible refine good_fst (by with_reducible assumption) ?_) | intro _ | split

theorem groupsWrite_good {gr : Fixed} {o : Nat} {bs : Sys2Proof.Bytes} {s : State} (hg : Good gr s) : Good gr (State.groupsWrite s o bs).1 := by
  unfold State.groupsWrite
  repeat' first | with_reducible assumption | simp only [good_mk, setAt_length, portLost_ports, emptied_ports, List.length_map, List.length_mapIdx, List.length_range, List.length_replicate, good_core] | with_reducible apply ite_good | with_reducible apply foldl_good | with_reducible apply foldl_fst_good | with_reducible apply tableWrite_good | (with_reducible refine good_fst (by with_reducible assumption) ?_) | intro _ | split

theorem unlatch_good {gr : Fixed} {a : Nat} {b : Nat} {s : State} (hg : Good gr s) : Good gr (State.unlatch s a b) := by
  unfold State.unlatch
  repeat' first | with_reducible assumption | simp only [good_mk, setAt_length, portLost_ports, emptied_ports, List.length_map, List.length_mapIdx, List.length_range, List.length_replicate, good_core] | with_reducible apply ite_good | with_reducible apply foldl_good | with_reducible apply foldl_fst_good | with_reducible apply ttUnloadOp_good | intro _ | split

theorem descriptorsWrite_good {gr : Fixed} {tr : Sys2Proof.Transport} {o : Nat} {bs : Sys2Proof.Bytes} {s : State} (hg : Good gr s) : Good gr (State.descriptorsWrite s tr o bs).1 := by
  unfold State.descriptorsWrite
  repeat' first | with_reducible apply ite_fst_good | with_reducible apply unitResult_good | with_reducible apply sfuResult_good | with_reducible apply pressResult_good | with_reducible assumption | simp only [good_mk, setAt_length, portLost_ports, emptied_ports, List.length_map, List.length_mapIdx, List.length_range, List.length_replicate, good_core] | with_reducible apply ite_good | with_reducible apply foldl_good | with_reducible apply foldl_fst_good | with_reducible apply pressDescWrite_good | with_reducible apply unlatch_good | (with_reducible refine good_fst (by with_reducible assumption) ?_) | intro _ | split

theorem writeDomain_good {gr : Fixed} {tr : Sys2Proof.Transport} {k : Nat} {o : Nat} {bs : Sys2Proof.Bytes} {s : State} (hg : Good gr s) : Good gr (State.writeDomain s tr k o bs).1 := by
  unfold State.writeDomain
  repeat' first | with_reducible apply ite_fst_good | with_reducible apply unitResult_good | with_reducible apply sfuResult_good | with_reducible apply pressResult_good | with_reducible assumption | simp only [good_mk, setAt_length, portLost_ports, emptied_ports, List.length_map, List.length_mapIdx, List.length_range, List.length_replicate, good_core] | with_reducible apply ite_good | with_reducible apply foldl_good | with_reducible apply foldl_fst_good | with_reducible apply ptBankWrite_good | with_reducible apply sfuBankWrite_good | with_reducible apply syncInts_good | with_reducible apply pqDescWrite_good | with_reducible apply domPut_good | with_reducible apply descriptorsWrite_good | with_reducible apply copyTableWrite_good | with_reducible apply jobTableWrite_good | with_reducible apply groupsWrite_good | with_reducible apply fepWindowsWrite_good | with_reducible apply fepRouteWrite_good | with_reducible apply fepTableWrite_good | with_reducible apply scanRequest_good | (with_reducible refine good_fst (by with_reducible assumption) ?_) | intro _ | split

theorem putRead_good {gr : Fixed} {tr : Transport} {bs : Bytes} {s : State} (hg : Good gr s) : Good gr (s.putRead tr bs) := by
  cases tr
  · exact core_buf1 (o := 0) (x := bs) hg
  · exact core_buf3 (o := 0) (x := bs) hg

theorem putWrite_good {gr : Fixed} {tr : Transport} {o : Nat} {bs : Bytes} {s : State} (hg : Good gr s) : Good gr (s.putWrite tr o bs) := by
  cases tr
  · exact core_buf2 (o := o) (x := bs.take (4096 - o)) hg
  · exact core_buf4 (o := o) (x := bs.take (4096 - o)) hg

theorem recordWrite_good {gr : Fixed} {r : DictReq} {refused : Bool} {s : State} (hg : Good gr s) : Good gr (State.recordWrite s r refused) := by
  unfold State.recordWrite
  repeat' first | with_reducible assumption | simp only [good_mk, setAt_length, portLost_ports, emptied_ports, List.length_map, List.length_mapIdx, List.length_range, List.length_replicate, good_core] | with_reducible apply ite_good | with_reducible apply foldl_good | with_reducible apply foldl_fst_good | with_reducible apply rpl_good | intro _ | split

theorem noteRefusal_good {gr : Fixed} {tr : Sys2Proof.Transport} {e : Ev} {s : State} (hg : Good gr s) : Good gr (State.noteRefusal s tr e) := by
  unfold State.noteRefusal
  repeat' first | with_reducible assumption | simp only [good_mk, setAt_length, portLost_ports, emptied_ports, List.length_map, List.length_mapIdx, List.length_range, List.length_replicate, good_core] | with_reducible apply ite_good | with_reducible apply foldl_good | with_reducible apply foldl_fst_good | with_reducible apply count_good | with_reducible apply log_good | intro _ | split

theorem tapRefused_good {gr : Fixed} {r : DictReq} {s : State} (hg : Good gr s) : Good gr (State.tapRefused s r) := by
  unfold State.tapRefused
  repeat' first | with_reducible assumption | simp only [good_mk, setAt_length, portLost_ports, emptied_ports, List.length_map, List.length_mapIdx, List.length_range, List.length_replicate, good_core] | with_reducible apply ite_good | with_reducible apply foldl_good | with_reducible apply foldl_fst_good | intro _ | split

theorem failTxn_good {gr : Fixed} {r : DictReq} {f : DictFail} {s : State} (hg : Good gr s) : Good gr (State.failTxn s r f).1 := by
  unfold State.failTxn
  repeat' first | with_reducible assumption | simp only [good_mk, setAt_length, portLost_ports, emptied_ports, List.length_map, List.length_mapIdx, List.length_range, List.length_replicate, good_core] | with_reducible apply ite_good | with_reducible apply foldl_good | with_reducible apply foldl_fst_good | with_reducible apply recordWrite_good | with_reducible apply tapRefused_good | with_reducible apply noteRefusal_good | intro _ | split

theorem applyWrite_good {gr : Fixed} {r : DictReq} {s : State} (hg : Good gr s) : Good gr (State.applyWrite s r).1 := by
  unfold State.applyWrite
  repeat' first | with_reducible assumption | simp only [good_mk, setAt_length, portLost_ports, emptied_ports, List.length_map, List.length_mapIdx, List.length_range, List.length_replicate, good_core] | with_reducible apply ite_good | with_reducible apply foldl_good | with_reducible apply foldl_fst_good | with_reducible apply writeScalar_good | with_reducible apply writeDomain_good | (with_reducible refine good_fst (by with_reducible assumption) ?_) | intro _ | split

theorem writeTxn_good {gr : Fixed} {r : DictReq} {s : State} (hg : Good gr s) : Good gr (State.writeTxn s r).1 := by
  unfold State.writeTxn
  repeat' first | with_reducible assumption | simp only [good_mk, setAt_length, portLost_ports, emptied_ports, List.length_map, List.length_mapIdx, List.length_range, List.length_replicate, good_core] | with_reducible apply ite_good | with_reducible apply foldl_good | with_reducible apply foldl_fst_good | with_reducible apply recordWrite_good | with_reducible apply applyWrite_good | with_reducible apply noteRefusal_good | (with_reducible refine good_fst (by with_reducible assumption) ?_) | intro _ | split

theorem captureTxn_good {gr : Fixed} {r : DictReq} {s : State} (hg : Good gr s) : Good gr (State.captureTxn s r).1 := by
  unfold State.captureTxn
  repeat' first | with_reducible assumption | simp only [good_mk, setAt_length, portLost_ports, emptied_ports, List.length_map, List.length_mapIdx, List.length_range, List.length_replicate, good_core] | with_reducible apply ite_good | with_reducible apply foldl_good | with_reducible apply foldl_fst_good | with_reducible apply noteRefusal_good | with_reducible apply putRead_good | with_reducible apply pqAdvance_good | intro _ | split

theorem runTxn_good {gr : Fixed} {r : DictReq} {s : State} (hg : Good gr s) : Good gr (State.runTxn s r).1 := by
  unfold State.runTxn
  repeat' first | with_reducible assumption | simp only [good_mk, setAt_length, portLost_ports, emptied_ports, List.length_map, List.length_mapIdx, List.length_range, List.length_replicate, good_core] | with_reducible apply ite_good | with_reducible apply foldl_good | with_reducible apply foldl_fst_good | with_reducible apply failTxn_good | with_reducible apply writeTxn_good | with_reducible apply captureTxn_good | with_reducible apply putRead_good | (with_reducible refine good_fst (by with_reducible assumption) ?_) | intro _ | split

theorem overlapped_good {gr : Fixed} {r : DictReq} {s : State} (hg : Good gr s) : Good gr (State.overlapped s r) := by
  unfold State.overlapped
  repeat' first | with_reducible assumption | simp only [good_mk, setAt_length, portLost_ports, emptied_ports, List.length_map, List.length_mapIdx, List.length_range, List.length_replicate, good_core] | with_reducible apply ite_good | with_reducible apply foldl_good | with_reducible apply foldl_fst_good | with_reducible apply noteRefusal_good | intro _ | split

theorem cpRequest_good {gr : Fixed} {r : DictReq} {s : State} (hg : Good gr s) : Good gr (State.cpRequest s r) := by
  unfold State.cpRequest
  repeat' first | with_reducible assumption | simp only [good_mk, setAt_length, portLost_ports, emptied_ports, List.length_map, List.length_mapIdx, List.length_range, List.length_replicate, good_core] | with_reducible apply ite_good | with_reducible apply foldl_good | with_reducible apply foldl_fst_good | with_reducible apply overlapped_good | with_reducible apply runTxn_good | (with_reducible refine good_fst (by with_reducible assumption) ?_) | intro _ | split

theorem bufferTxn_good {gr : Fixed} {r : DictReq} {data : Sys2Proof.Bytes} {s : State} (hg : Good gr s) : Good gr (State.bufferTxn s r data).1 := by
  unfold State.bufferTxn
  repeat' first | with_reducible assumption | simp only [good_mk, setAt_length, portLost_ports, emptied_ports, List.length_map, List.length_mapIdx, List.length_range, List.length_replicate, good_core] | with_reducible apply ite_good | with_reducible apply foldl_good | with_reducible apply foldl_fst_good | with_reducible apply putWrite_good | intro _ | split

theorem canRequest_good {gr : Fixed} {r : DictReq} {data : Sys2Proof.Bytes} {s : State} (hg : Good gr s) : Good gr (State.canRequest s r data) := by
  unfold State.canRequest
  repeat' first | with_reducible assumption | simp only [good_mk, setAt_length, portLost_ports, emptied_ports, List.length_map, List.length_mapIdx, List.length_range, List.length_replicate, good_core] | with_reducible apply ite_good | with_reducible apply foldl_good | with_reducible apply foldl_fst_good | with_reducible apply canHeard_good | with_reducible apply overlapped_good | with_reducible apply bufferTxn_good | with_reducible apply runTxn_good | (with_reducible refine good_fst (by with_reducible assumption) ?_) | intro _ | split

theorem canPayload_good {gr : Fixed} {bs : Sys2Proof.Bytes} {s : State} (hg : Good gr s) : Good gr (State.canPayload s bs) := by
  unfold State.canPayload
  repeat' first | with_reducible assumption | simp only [good_mk, setAt_length, portLost_ports, emptied_ports, List.length_map, List.length_mapIdx, List.length_range, List.length_replicate, good_core] | with_reducible apply ite_good | with_reducible apply foldl_good | with_reducible apply foldl_fst_good | with_reducible apply canRequest_good | with_reducible apply canHeard_good | intro _ | split

theorem request_good {gr : Fixed} {r : DictReq} {s : State} (hg : Good gr s) : Good gr (State.request s r) := by
  unfold State.request
  repeat' first | with_reducible assumption | simp only [good_mk, setAt_length, portLost_ports, emptied_ports, List.length_map, List.length_mapIdx, List.length_range, List.length_replicate, good_core] | with_reducible apply ite_good | with_reducible apply foldl_good | with_reducible apply foldl_fst_good | with_reducible apply cpRequest_good | with_reducible apply canRequest_good | intro _ | split

theorem putArg_good {gr : Fixed} {v : Nat} {s : State} (hg : Good gr s) : Good gr (State.putArg s v) := by
  unfold State.putArg
  repeat' first | with_reducible assumption | simp only [good_mk, setAt_length, portLost_ports, emptied_ports, List.length_map, List.length_mapIdx, List.length_range, List.length_replicate, good_core] | with_reducible apply ite_good | with_reducible apply foldl_good | with_reducible apply foldl_fst_good | intro _ | split

theorem putSel_good {gr : Fixed} {j : Nat} {v : Sys2Proof.U64} {s : State} (hg : Good gr s) : Good gr (State.putSel s j v) := by
  unfold State.putSel
  repeat' first | with_reducible assumption | simp only [good_mk, setAt_length, portLost_ports, emptied_ports, List.length_map, List.length_mapIdx, List.length_range, List.length_replicate, good_core] | with_reducible apply ite_good | with_reducible apply foldl_good | with_reducible apply foldl_fst_good | intro _ | split

theorem reqWord_good {gr : Fixed} {v : Nat} {s : State} (hg : Good gr s) : Good gr (State.reqWord s v) := by
  unfold State.reqWord
  repeat' first | with_reducible assumption | simp only [good_mk, setAt_length, portLost_ports, emptied_ports, List.length_map, List.length_mapIdx, List.length_range, List.length_replicate, good_core] | with_reducible apply ite_good | with_reducible apply foldl_good | with_reducible apply foldl_fst_good | with_reducible apply cpRequest_good | intro _ | split

theorem readScalarOp_good {gr : Fixed} {tr : Sys2Proof.Transport} {rsv : Nat} {tid : Nat} {idx : Nat} {sub : Nat} {s : State} (hg : Good gr s) : Good gr (readScalarOp tr rsv tid idx sub s) := by
  unfold readScalarOp
  repeat' first | with_reducible assumption | simp only [good_mk, setAt_length, portLost_ports, emptied_ports, List.length_map, List.length_mapIdx, List.length_range, List.length_replicate, good_core] | with_reducible apply ite_good | with_reducible apply foldl_good | with_reducible apply foldl_fst_good | with_reducible apply request_good | intro _ | split

theorem writeScalarOp_good {gr : Fixed} {tr : Sys2Proof.Transport} {rsv : Nat} {tid : Nat} {idx : Nat} {sub : Nat} {value : Nat} {s : State} (hg : Good gr s) : Good gr (writeScalarOp tr rsv tid idx sub value s) := by
  unfold writeScalarOp
  repeat' first | with_reducible assumption | simp only [good_mk, setAt_length, portLost_ports, emptied_ports, List.length_map, List.length_mapIdx, List.length_range, List.length_replicate, good_core] | with_reducible apply ite_good | with_reducible apply foldl_good | with_reducible apply foldl_fst_good | with_reducible apply request_good | with_reducible apply putArg_good | intro _ | split

theorem putSpan_good {gr : Fixed} {tr : Sys2Proof.Transport} {offset : Nat} {length : Nat} {s : State} (hg : Good gr s) : Good gr (State.putSpan s tr offset length) := by
  unfold State.putSpan
  repeat' first | with_reducible assumption | simp only [good_mk, setAt_length, portLost_ports, emptied_ports, List.length_map, List.length_mapIdx, List.length_range, List.length_replicate, good_core] | with_reducible apply ite_good | with_reducible apply foldl_good | with_reducible apply foldl_fst_good | with_reducible apply putArg_good | intro _ | split

theorem captureOp_good {gr : Fixed} {tr : Sys2Proof.Transport} {rsv : Nat} {tid : Nat} {idx : Nat} {sub : Nat} {offset : Nat} {length : Nat} {s : State} (hg : Good gr s) : Good gr (captureOp tr rsv tid idx sub offset length s) := by
  unfold captureOp
  repeat' first | with_reducible assumption | simp only [good_mk, setAt_length, portLost_ports, emptied_ports, List.length_map, List.length_mapIdx, List.length_range, List.length_replicate, good_core] | with_reducible apply ite_good | with_reducible apply foldl_good | with_reducible apply foldl_fst_good | with_reducible apply request_good | with_reducible apply putSpan_good | intro _ | split

theorem commitOp_good {gr : Fixed} {tr : Sys2Proof.Transport} {rsv : Nat} {tid : Nat} {idx : Nat} {sub : Nat} {offset : Nat} {length : Nat} {s : State} (hg : Good gr s) : Good gr (commitOp tr rsv tid idx sub offset length s) := by
  unfold commitOp
  repeat' first | with_reducible assumption | simp only [good_mk, setAt_length, portLost_ports, emptied_ports, List.length_map, List.length_mapIdx, List.length_range, List.length_replicate, good_core] | with_reducible apply ite_good | with_reducible apply foldl_good | with_reducible apply foldl_fst_good | with_reducible apply request_good | with_reducible apply putSpan_good | intro _ | split

theorem listReadOp_good {gr : Fixed} {tr : Sys2Proof.Transport} {rsv : Nat} {tid : Nat} {count : Nat} {sels : List Sys2Proof.Selector} {s : State} (hg : Good gr s) : Good gr (listReadOp tr rsv tid count sels s) := by
  unfold listReadOp
  repeat' first | with_reducible assumption | simp only [good_mk, setAt_length, portLost_ports, emptied_ports, List.length_map, List.length_mapIdx, List.length_range, List.length_replicate, good_core] | with_reducible apply ite_good | with_reducible apply foldl_good | with_reducible apply foldl_fst_good | with_reducible apply putSel_good | with_reducible apply cpRequest_good | with_reducible apply canRequest_good | intro _ | split

theorem describeOp_good {gr : Fixed} {tr : Sys2Proof.Transport} {rsv : Nat} {tid : Nat} {idx : Nat} {sub : Nat} {s : State} (hg : Good gr s) : Good gr (describeOp tr rsv tid idx sub s) := by
  unfold describeOp
  repeat' first | with_reducible assumption | simp only [good_mk, setAt_length, portLost_ports, emptied_ports, List.length_map, List.length_mapIdx, List.length_range, List.length_replicate, good_core] | with_reducible apply ite_good | with_reducible apply foldl_good | with_reducible apply foldl_fst_good | with_reducible apply request_good | intro _ | split

theorem rbufReadOp_good {gr : Fixed} {rsv : Nat} {tid : Nat} {offset : Nat} {length : Nat} {s : State} (hg : Good gr s) : Good gr (rbufReadOp rsv tid offset length s) := by
  unfold rbufReadOp
  repeat' first | with_reducible assumption | simp only [good_mk, setAt_length, portLost_ports, emptied_ports, List.length_map, List.length_mapIdx, List.length_range, List.length_replicate, good_core] | with_reducible apply ite_good | with_reducible apply foldl_good | with_reducible apply foldl_fst_good | with_reducible apply canRequest_good | intro _ | split

theorem wbufWriteOp_good {gr : Fixed} {rsv : Nat} {tid : Nat} {offset : Nat} {length : Nat} {data : Sys2Proof.Bytes} {s : State} (hg : Good gr s) : Good gr (wbufWriteOp rsv tid offset length data s) := by
  unfold wbufWriteOp
  repeat' first | with_reducible assumption | simp only [good_mk, setAt_length, portLost_ports, emptied_ports, List.length_map, List.length_mapIdx, List.length_range, List.length_replicate, good_core] | with_reducible apply ite_good | with_reducible apply foldl_good | with_reducible apply foldl_fst_good | with_reducible apply canRequest_good | intro _ | split

theorem readAccess_good {gr : Fixed} {o : Nat} {s : State} (hg : Good gr s) : Good gr (State.readAccess s o) := by
  unfold State.readAccess
  repeat' first | with_reducible assumption | simp only [good_mk, setAt_length, portLost_ports, emptied_ports, List.length_map, List.length_mapIdx, List.length_range, List.length_replicate, good_core] | with_reducible apply ite_good | with_reducible apply foldl_good | with_reducible apply foldl_fst_good | with_reducible apply emit_good | intro _ | split

theorem cpRespReadOp_good {gr : Fixed} {o : Nat} {s : State} (hg : Good gr s) : Good gr (cpRespReadOp o s) := by
  unfold cpRespReadOp
  repeat' first | with_reducible assumption | simp only [good_mk, setAt_length, portLost_ports, emptied_ports, List.length_map, List.length_mapIdx, List.length_range, List.length_replicate, good_core] | with_reducible apply ite_good | with_reducible apply foldl_good | with_reducible apply foldl_fst_good | with_reducible apply readAccess_good | with_reducible apply fresh_good | intro _ | split

theorem cpComplete_good {gr : Fixed} {x : Txn} {s : State} (hg : Good gr s) : Good gr (State.cpComplete s x) := by
  unfold State.cpComplete
  repeat' first | with_reducible assumption | simp only [good_mk, setAt_length, portLost_ports, emptied_ports, List.length_map, List.length_mapIdx, List.length_range, List.length_replicate, good_core] | with_reducible apply ite_good | with_reducible apply foldl_good | with_reducible apply foldl_fst_good | with_reducible apply afterTxn_good | intro _ | split

theorem canComplete_good {gr : Fixed} {x : Txn} {s : State} (hg : Good gr s) : Good gr (State.canComplete s x) := by
  unfold State.canComplete
  repeat' first | with_reducible assumption | simp only [good_mk, setAt_length, portLost_ports, emptied_ports, List.length_map, List.length_mapIdx, List.length_range, List.length_replicate, good_core] | with_reducible apply ite_good | with_reducible apply foldl_good | with_reducible apply foldl_fst_good | with_reducible apply afterTxn_good | with_reducible apply canSent_good | intro _ | split

theorem transactionCompleteOp_good {gr : Fixed} {tr : Sys2Proof.Transport} {s : State} (hg : Good gr s) : Good gr (transactionCompleteOp tr s) := by
  unfold transactionCompleteOp
  repeat' first | with_reducible assumption | simp only [good_mk, setAt_length, portLost_ports, emptied_ports, List.length_map, List.length_mapIdx, List.length_range, List.length_replicate, good_core] | with_reducible apply ite_good | with_reducible apply foldl_good | with_reducible apply foldl_fst_good | with_reducible apply cpComplete_good | with_reducible apply canComplete_good | intro _ | split

theorem hostScalar_good {gr : Fixed} {tr : Sys2Proof.Transport} {idx : Nat} {sub : Nat} {value : Nat} {s : State} (hg : Good gr s) : Good gr (hostScalar tr idx sub value s) := by
  unfold hostScalar
  repeat' first | with_reducible assumption | simp only [good_mk, setAt_length, portLost_ports, emptied_ports, List.length_map, List.length_mapIdx, List.length_range, List.length_replicate, good_core] | with_reducible apply ite_good | with_reducible apply foldl_good | with_reducible apply foldl_fst_good | with_reducible apply writeScalarOp_good | intro _ | split

theorem hostCommit_good {gr : Fixed} {tr : Sys2Proof.Transport} {idx : Nat} {sub : Nat} {offset : Nat} {data : Sys2Proof.Bytes} {s : State} (hg : Good gr s) : Good gr (hostCommit tr idx sub offset data s) := by
  unfold hostCommit
  repeat' first | with_reducible assumption | simp only [good_mk, setAt_length, portLost_ports, emptied_ports, List.length_map, List.length_mapIdx, List.length_range, List.length_replicate, good_core] | with_reducible apply ite_good | with_reducible apply foldl_good | with_reducible apply foldl_fst_good | with_reducible apply commitOp_good | with_reducible apply putWrite_good | intro _ | split

theorem windowWrite_good {gr : Fixed} {l : Sys2Proof.Location} {v : Sys2Proof.U64} {s : State} (hg : Good gr s) : Good gr (State.windowWrite s l v) := by
  unfold State.windowWrite
  repeat' first | with_reducible assumption | simp only [good_mk, setAt_length, portLost_ports, emptied_ports, List.length_map, List.length_mapIdx, List.length_range, List.length_replicate, good_core] | with_reducible apply ite_good | with_reducible apply foldl_good | with_reducible apply foldl_fst_good | with_reducible apply putArg_good | with_reducible apply putSel_good | with_reducible apply putWrite_good | with_reducible apply reqWord_good | with_reducible apply writeScalarOp_good | with_reducible apply canPayload_good | intro _ | split

end Sys2Proof.Machine
end

