-- ==== Sys2Proof/Laws/Host.lean ====
section
/-! SUPPORT. What a host command does when its transport is ready: the transaction that runs and the state it leaves. -/

namespace Sys2Proof.Machine

open Sys2Proof

/-- A register outside the field network's own two reads the same once a request has been opened. -/
theorem opened_get (s : State) (tr : Transport) (v k : Nat) (h1 : k ≠ Key.COM_CAN_REC) (h2 : k ≠ Key.COM_CAN_STATE) :
    (s.opened tr v).get k = s.get k := by
  cases tr with
  | cp => rfl
  | can =>
    show (s.fresh.canHeard).get k = s.get k
    unfold State.canHeard
    dsimp only
    rw [get_put_ne _ _ (Ne.symm h2), get_put_ne _ _ (Ne.symm h1)]
    rfl

/-- What a request in a ready transport answers. -/
theorem scalar_runs {tr : Transport} {s : State} (idx sub v : Nat) (h : hostReady tr s = true) :
    hosted (hostScalar tr idx sub v) s =
      .next (let x := (s.opened tr v).runTxn { tr := tr, op := 2, idx := idx, sub := sub, value := v }
        x.1.setTport tr { x.1.tport tr with busy := some x.2 }) := by
  simp only [hostReady, Bool.and_eq_true, Option.isNone_iff_eq_none] at h
  obtain ⟨⟨hl, hb⟩, hc⟩ := h
  unfold hosted actFresh
  rw [if_pos hl]
  congr 1
  cases tr with
  | cp =>
    have hb' : (s.fresh.putArg v).cp.busy = none := hb
    show (s.fresh.putArg v).cpRequest _ = _
    unfold State.cpRequest
    rw [hb']
    rfl
  | can =>
    have h0 : s.fresh.canSends = true := hc
    have hb' : (s.fresh.canHeard).can.busy = none := hb
    show (s.fresh).canRequest _ [] = _
    unfold State.canRequest
    rw [h0]
    dsimp only
    rw [hb']
    rfl

/-- A write transaction whose entry passes the checks of Table 15.4 and whose own checks find nothing runs the entry's write,
recorded after it. -/
theorem write_runs {s : State} {tr : Transport} {idx sub v : Nat} {e : Entry} (hi : idx < 65536) (hs : sub < 256)
    (hv : v < 2 ^ 64) (he : s.entry idx sub = some e) (ha : accessFault 2 e = none)
    (ho : s.oneCheck { tr := tr, op := 2, idx := idx, sub := sub, value := v } e = none) :
    s.runTxn { tr := tr, op := 2, idx := idx, sub := sub, value := v } =
      s.writeTxn { tr := tr, op := 2, idx := idx, sub := sub, value := v } := by
  have hf : (DictReq.formed { tr := tr, op := 2, idx := idx, sub := sub, value := v }) = true := by
    cases tr <;> simp [DictReq.formed, DictReq.headFormed, hi, hs] <;> omega
  have hc : s.dictCheck { tr := tr, op := 2, idx := idx, sub := sub, value := v } = none := by
    unfold State.dictCheck
    simp [hf, DictReq.names, firstAt, he, ha, ho]
  unfold State.runTxn
  rw [hc]
  simp [DictReq.writes]

/-- A recorded write while the replay log does not record. -/
theorem recordWrite_off {s : State} (r : DictReq) (b : Bool) (h : s.get Key.RPL_STATE ≠ 1) : s.recordWrite r b = s := by
  unfold State.recordWrite State.rpl
  simp [h]

/-- An accepted write of an entry that is recorded after its effect, while the replay log does not record. -/
theorem writeTxn_eq {s : State} {tr : Transport} {idx sub v : Nat} (hr : recordsFirst idx = false)
    (hk : entryKey idx sub ≠ Key.RST_CONTROL) (hd : entryKey idx sub ≠ Key.COM_CAN_DATA_RATE)
    (hx : (s.writeScalar tr idx sub v).2 = none) (hl : (s.writeScalar tr idx sub v).1.get Key.RPL_STATE ≠ 1) :
    s.writeTxn { tr := tr, op := 2, idx := idx, sub := sub, value := v } =
      ((s.writeScalar tr idx sub v).1, { op := 2, idx := idx, sub := sub }) := by
  unfold State.writeTxn
  have e : s.applyWrite { tr := tr, op := 2, idx := idx, sub := sub, value := v } = s.writeScalar tr idx sub v := rfl
  simp only [hr, Bool.and_false, Bool.false_eq_true, if_false, e, hx, hk, hd, and_false]
  rw [recordWrite_off _ _ hl]
  rfl

/-- An accepted write of an entry that is recorded before its effect (R230), while the replay log does not record. -/
theorem writeTxn_first {s : State} {tr : Transport} {idx sub v : Nat} (hr : recordsFirst idx = true)
    (hk : entryKey idx sub ≠ Key.RST_CONTROL) (hd : entryKey idx sub ≠ Key.COM_CAN_DATA_RATE)
    (hx : (s.writeScalar tr idx sub v).2 = none) (hl : s.get Key.RPL_STATE ≠ 1) :
    s.writeTxn { tr := tr, op := 2, idx := idx, sub := sub, value := v } =
      ((s.writeScalar tr idx sub v).1, { op := 2, idx := idx, sub := sub }) := by
  unfold State.writeTxn
  have e : ∀ x : State, x.applyWrite { tr := tr, op := 2, idx := idx, sub := sub, value := v } = x.writeScalar tr idx sub v :=
    fun _ => rfl
  simp only [hr, Bool.and_true, beq_self_eq_true, if_true, e]
  rw [recordWrite_off _ _ hl]
  simp only [hx, hk, hd, and_false, if_false]
  rfl

/-- The checks of one entry pass for a write of a value it admits, where the entry may be written in any state (R371, R372). -/
theorem oneCheck_any {s : State} {tr : Transport} {idx sub v : Nat} {e : Entry} (hd : e.isDomain = false) (ha : e.acc ≠ 4)
    (hv : valueOk (entryKey idx sub) v e = true) :
    s.oneCheck { tr := tr, op := 2, idx := idx, sub := sub, value := v } e = none := by
  unfold State.oneCheck State.stateOk
  simp [hd, ha, hv, DictReq.writes]

/-- The same for an entry of a unit's state rule that holds. -/
theorem oneCheck_state {s : State} {tr : Transport} {idx sub v : Nat} {e : Entry} (hd : e.isDomain = false)
    (hs : s.stateOk idx sub e = true) (hv : valueOk (entryKey idx sub) v e = true) :
    s.oneCheck { tr := tr, op := 2, idx := idx, sub := sub, value := v } e = none := by
  unfold State.oneCheck
  simp [hd, hs, hv, DictReq.writes]

/-- A host command that writes a scalar: the transaction is taken, the entry's write stands, and the transport is busy with an
accepted transaction. -/
theorem scalar_next {tr : Transport} {s : State} {idx sub v : Nat} {e : Entry} (h : hostReady tr s = true)
    (hi : idx < 65536) (hs : sub < 256) (hv : v < 2 ^ 64) (he : entryAt idx sub = some e) (hp : ¬ (0x7000 ≤ idx ∧ idx ≤ 0x77FF))
    (ha : accessFault 2 e = none)
    (ho : (s.opened tr v).oneCheck { tr := tr, op := 2, idx := idx, sub := sub, value := v } e = none)
    (hk : entryKey idx sub ≠ Key.RST_CONTROL) (hd : entryKey idx sub ≠ Key.COM_CAN_DATA_RATE)
    (hx : ((s.opened tr v).writeScalar tr idx sub v).2 = none)
    (hl : if recordsFirst idx then s.get Key.RPL_STATE ≠ 1 else ((s.opened tr v).writeScalar tr idx sub v).1.get Key.RPL_STATE ≠ 1) :
    hosted (hostScalar tr idx sub v) s =
      .next (((s.opened tr v).writeScalar tr idx sub v).1.setTport tr
        { ((s.opened tr v).writeScalar tr idx sub v).1.tport tr with busy := some { op := 2, idx := idx, sub := sub } }) := by
  have hn : (s.opened tr v).entry idx sub = some e := by
    unfold State.entry
    rw [if_neg (fun c => hp ⟨c.1, c.2.1⟩)]
    exact he
  rw [scalar_runs idx sub v h, write_runs hi hs hv hn ha ho]
  by_cases hr : recordsFirst idx = true
  · rw [if_pos hr] at hl
    rw [writeTxn_first hr hk hd hx]
    rw [opened_get s tr v Key.RPL_STATE (by decide) (by decide)]
    exact hl
  · rw [if_neg hr] at hl
    rw [writeTxn_eq (by simpa using hr) hk hd hx hl]

end Sys2Proof.Machine
end

