-- ==== Sys2Proof/Laws/PerInstr.lean ====
section
/-! SUPPORT. Statements for all commands, made command by command. -/

/-- The opcode table gives its rows no bits: no word spells the command. -/
def Sys2Proof.Laws.F.Statement (i : Sys2Proof.Instr) : Prop := ∀ nbits w : Nat, Sys2Proof.decodeTableWord nbits w ≠ some i

namespace Sys2Proof.Laws.F

open Sys2Proof

theorem tileWindowForward (ctx layer tile index port : Nat) : Statement (.tileWindowForward ctx layer tile index port) := by simp [Statement, decodeTableWord]
theorem tileWindowReingest (ctx layer tile index port : Nat) : Statement (.tileWindowReingest ctx layer tile index port) := by simp [Statement, decodeTableWord]
theorem tileWindowRefetch (ctx layer tile index port : Nat) : Statement (.tileWindowRefetch ctx layer tile index port) := by simp [Statement, decodeTableWord]
theorem tileWindowBegin (unit : Nat) : Statement (.tileWindowBegin unit) := by simp [Statement, decodeTableWord]
theorem send (ctx : Nat) (x : Xfer) : Statement (.send ctx x) := by simp [Statement, decodeTableWord]
theorem tileSend (ctx port layer tile src first count dir seq : Nat) : Statement (.tileSend ctx port layer tile src first count dir seq) := by simp [Statement, decodeTableWord]
theorem receive (ctx : Nat) (x : Xfer) : Statement (.receive ctx x) := by simp [Statement, decodeTableWord]
theorem combineForward (ctx layer tile index nFrame nSlot : Nat) : Statement (.combineForward ctx layer tile index nFrame nSlot) := by simp [Statement, decodeTableWord]
theorem combineInputGradient (ctx layer tile index nFrame nSlot : Nat) : Statement (.combineInputGradient ctx layer tile index nFrame nSlot) := by simp [Statement, decodeTableWord]
theorem combineRefetchReturn (ctx layer tile index nFrame nSlot : Nat) : Statement (.combineRefetchReturn ctx layer tile index nFrame nSlot) := by simp [Statement, decodeTableWord]
theorem routeLogLoad (ctx layer tile work corrupt : Nat) : Statement (.routeLogLoad ctx layer tile work corrupt) := by simp [Statement, decodeTableWord]
theorem combineRecord (ctx layer tile work entry : Nat) : Statement (.combineRecord ctx layer tile work entry) := by simp [Statement, decodeTableWord]
theorem combineClosePoint (ctx layer tile work : Nat) : Statement (.combineClosePoint ctx layer tile work) := by simp [Statement, decodeTableWord]
theorem gradientB2 (ctx layer tile index corrupt : Nat) : Statement (.gradientB2 ctx layer tile index corrupt) := by simp [Statement, decodeTableWord]
theorem gradientB4 (ctx layer tile index : Nat) : Statement (.gradientB4 ctx layer tile index) := by simp [Statement, decodeTableWord]
theorem gradientB5 (ctx layer tile index : Nat) : Statement (.gradientB5 ctx layer tile index) := by simp [Statement, decodeTableWord]
theorem gradientB6 (ctx layer tile index : Nat) : Statement (.gradientB6 ctx layer tile index) := by simp [Statement, decodeTableWord]
theorem gradientB7Residency (ctx layer tile index : Nat) : Statement (.gradientB7Residency ctx layer tile index) := by simp [Statement, decodeTableWord]
theorem residencyRetry (ctx layer : Nat) : Statement (.residencyRetry ctx layer) := by simp [Statement, decodeTableWord]
theorem residencyDeadline (ctx layer : Nat) : Statement (.residencyDeadline ctx layer) := by simp [Statement, decodeTableWord]
theorem deliveryForm (ctx layer : Nat) : Statement (.deliveryForm ctx layer) := by simp [Statement, decodeTableWord]
theorem collective (ctx group seq src dst fmt cap queue : Nat) (signal : Bool) (kind layer : Nat) : Statement (.collective ctx group seq src dst fmt cap queue signal kind layer) := by simp [Statement, decodeTableWord]
theorem collectiveBegin (ctx group seq : Nat) : Statement (.collectiveBegin ctx group seq) := by simp [Statement, decodeTableWord]
theorem collectiveUpValue (ctx group seq piece : Nat) : Statement (.collectiveUpValue ctx group seq piece) := by simp [Statement, decodeTableWord]
theorem collectiveResultWrite (ctx group seq piece : Nat) : Statement (.collectiveResultWrite ctx group seq piece) := by simp [Statement, decodeTableWord]
theorem collectiveTimeout (ctx group seq : Nat) : Statement (.collectiveTimeout ctx group seq) := by simp [Statement, decodeTableWord]
theorem digestPost (ctx checker check replica last : Nat) : Statement (.digestPost ctx checker check replica last) := by simp [Statement, decodeTableWord]
theorem snapshot (ctx id : Nat) : Statement (.snapshot ctx id) := by simp [Statement, decodeTableWord]
theorem bankSwapPlacement (ctx : Nat) : Statement (.bankSwapPlacement ctx) := by simp [Statement, decodeTableWord]
theorem bankSwapProgram (ctx : Nat) : Statement (.bankSwapProgram ctx) := by simp [Statement, decodeTableWord]
theorem planSwitch (flid : Nat) : Statement (.planSwitch flid) := by simp [Statement, decodeTableWord]
theorem slip : Statement (.slip) := by simp [Statement, decodeTableWord]
theorem stepEnd (ctx : Nat) : Statement (.stepEnd ctx) := by simp [Statement, decodeTableWord]
theorem firstStepBegin (ctx : Nat) : Statement (.firstStepBegin ctx) := by simp [Statement, decodeTableWord]
theorem ingressSegment (port : Nat) (hdr : BitVec 512) (payload : Bytes) : Statement (.ingressSegment port hdr payload) := by simp [Statement, decodeTableWord]
theorem scoreTileDone (ctx layer tile : Nat) : Statement (.scoreTileDone ctx layer tile) := by simp [Statement, decodeTableWord]
theorem selectTile (ctx layer tile : Nat) : Statement (.selectTile ctx layer tile) := by simp [Statement, decodeTableWord]
theorem cardTile (ctx layer tile work : Nat) : Statement (.cardTile ctx layer tile work) := by simp [Statement, decodeTableWord]
theorem poolAllocGrant (cls : Nat) : Statement (.poolAllocGrant cls) := by simp [Statement, decodeTableWord]
theorem poolFree (ctx addr : Nat) : Statement (.poolFree ctx addr) := by simp [Statement, decodeTableWord]
theorem poolRingRefillDone (cls : Nat) : Statement (.poolRingRefillDone cls) := by simp [Statement, decodeTableWord]
theorem linkSlotStart : Statement (.linkSlotStart) := by simp [Statement, decodeTableWord]
theorem chunkArrival (port : Nat) (hdr : BitVec 512) (payload : Bytes) : Statement (.chunkArrival port hdr payload) := by simp [Statement, decodeTableWord]
theorem trailerArrival (port : Nat) (trailer : BitVec 512) : Statement (.trailerArrival port trailer) := by simp [Statement, decodeTableWord]
theorem releaseDeadline (port seq src dst : Nat) : Statement (.releaseDeadline port seq src dst) := by simp [Statement, decodeTableWord]
theorem resendQueueSend (port : Nat) : Statement (.resendQueueSend port) := by simp [Statement, decodeTableWord]
theorem outputLate (ctx kind layer tile : Nat) : Statement (.outputLate ctx kind layer tile) := by simp [Statement, decodeTableWord]
theorem frameBoundary : Statement (.frameBoundary) := by simp [Statement, decodeTableWord]
theorem frameProgramFetch (ctx : Nat) : Statement (.frameProgramFetch ctx) := by simp [Statement, decodeTableWord]
theorem frameProgramFetched (ctx corrupt : Nat) : Statement (.frameProgramFetched ctx corrupt) := by simp [Statement, decodeTableWord]
theorem timingWordReceived (port : Nat) (word : BitVec 258) : Statement (.timingWordReceived port word) := by simp [Statement, decodeTableWord]
theorem timingWordSilence (port : Nat) : Statement (.timingWordSilence port) := by simp [Statement, decodeTableWord]
theorem lkUpFall (port : Nat) : Statement (.lkUpFall port) := by simp [Statement, decodeTableWord]
theorem lkUpRise (port : Nat) : Statement (.lkUpRise port) := by simp [Statement, decodeTableWord]
theorem tickInEdge : Statement .tickInEdge := by simp [Statement, decodeTableWord]
theorem abortBoundary (ctx : Nat) : Statement (.abortBoundary ctx) := by simp [Statement, decodeTableWord]
theorem replayBegin (ctx : Nat) : Statement (.replayBegin ctx) := by simp [Statement, decodeTableWord]
theorem chunkReleaseTimeout (ctx seq src dst : Nat) : Statement (.chunkReleaseTimeout ctx seq src dst) := by simp [Statement, decodeTableWord]
theorem expectationTimeout (ctx seq src dst : Nat) : Statement (.expectationTimeout ctx seq src dst) := by simp [Statement, decodeTableWord]
theorem slotGuardExpiry (port : Nat) : Statement (.slotGuardExpiry port) := by simp [Statement, decodeTableWord]
theorem tileWatchdogExpiry (ctx layer tile work : Nat) : Statement (.tileWatchdogExpiry ctx layer tile work) := by simp [Statement, decodeTableWord]
theorem stepSlackExpiry (ctx step : Nat) : Statement (.stepSlackExpiry ctx step) := by simp [Statement, decodeTableWord]
theorem tileOriginChunk (port : Nat) (hdr : BitVec 512) (payload : Bytes) : Statement (.tileOriginChunk port hdr payload) := by simp [Statement, decodeTableWord]
theorem controlFlitReceived (port : Nat) (flit : Bytes) : Statement (.controlFlitReceived port flit) := by simp [Statement, decodeTableWord]
theorem tpUpChange (port : Nat) (up : Bool) : Statement (.tpUpChange port up) := by simp [Statement, decodeTableWord]
theorem fepMessageReceived (port : Nat) (hdr : BitVec 512) (payload : Bytes) : Statement (.fepMessageReceived port hdr payload) := by simp [Statement, decodeTableWord]
theorem fepMessageSend (port : Nat) : Statement (.fepMessageSend port) := by simp [Statement, decodeTableWord]
theorem fepApply : Statement (.fepApply) := by simp [Statement, decodeTableWord]
theorem fepWriteComplete (src seq : Nat) : Statement (.fepWriteComplete src seq) := by simp [Statement, decodeTableWord]
theorem fepReplyReceived (tag : Nat) : Statement (.fepReplyReceived tag) := by simp [Statement, decodeTableWord]
theorem fepRetry (tag : Nat) : Statement (.fepRetry tag) := by simp [Statement, decodeTableWord]
theorem fepTimeout (tag : Nat) : Statement (.fepTimeout tag) := by simp [Statement, decodeTableWord]
theorem replayTableExpiry (src seq : Nat) : Statement (.replayTableExpiry src seq) := by simp [Statement, decodeTableWord]
theorem postSetCheck (ctx check step : Nat) : Statement (.postSetCheck ctx check step) := by simp [Statement, decodeTableWord]
theorem postSetTimeout (ctx check step : Nat) : Statement (.postSetTimeout ctx check step) := by simp [Statement, decodeTableWord]
theorem tileDigestClose (ctx layer kind tile : Nat) : Statement (.tileDigestClose ctx layer kind tile) := by simp [Statement, decodeTableWord]
theorem stepDigestClose (ctx step : Nat) : Statement (.stepDigestClose ctx step) := by simp [Statement, decodeTableWord]
theorem poolInitialise (tr : Transport) : Statement (.poolInitialise tr) := by simp [Statement, decodeTableWord]
theorem poolInitDone : Statement (.poolInitDone) := by simp [Statement, decodeTableWord]
theorem poolSetLow (tr : Transport) : Statement (.poolSetLow tr) := by simp [Statement, decodeTableWord]
theorem poolAllocReq (tr : Transport) (value : U64) : Statement (.poolAllocReq tr value) := by simp [Statement, decodeTableWord]
theorem poolFreeReq (tr : Transport) (value : U64) : Statement (.poolFreeReq tr value) := by simp [Statement, decodeTableWord]
theorem packetOffer (queue producer ctx : Nat) (words : List Bytes) : Statement (.packetOffer queue producer ctx words) := by simp [Statement, decodeTableWord]
theorem packetCommit (queue : Nat) : Statement (.packetCommit queue) := by simp [Statement, decodeTableWord]
theorem packetAbort (queue : Nat) : Statement (.packetAbort queue) := by simp [Statement, decodeTableWord]
theorem gapMarkerCommit (queue : Nat) : Statement (.gapMarkerCommit queue) := by simp [Statement, decodeTableWord]
theorem pqRead (tr : Transport) : Statement (.pqRead tr) := by simp [Statement, decodeTableWord]
theorem pqMark (tr : Transport) : Statement (.pqMark tr) := by simp [Statement, decodeTableWord]
theorem pqRewind (tr : Transport) : Statement (.pqRewind tr) := by simp [Statement, decodeTableWord]
theorem pqRelease (tr : Transport) : Statement (.pqRelease tr) := by simp [Statement, decodeTableWord]
theorem pqDescWrite (tr : Transport) (offset : Nat) (data : Bytes) : Statement (.pqDescWrite tr offset data) := by simp [Statement, decodeTableWord]
theorem pressDescWrite (tr : Transport) (offset : Nat) (data : Bytes) : Statement (.pressDescWrite tr offset data) := by simp [Statement, decodeTableWord]
theorem pressCopyTableWrite (tr : Transport) (offset : Nat) (data : Bytes) : Statement (.pressCopyTableWrite tr offset data) := by simp [Statement, decodeTableWord]
theorem pressCopyStart (tr : Transport) (value : U64) : Statement (.pressCopyStart tr value) := by simp [Statement, decodeTableWord]
theorem copyBegin : Statement (.copyBegin) := by simp [Statement, decodeTableWord]
theorem copyComplete : Statement (.copyComplete) := by simp [Statement, decodeTableWord]
theorem sfuBankWrite (tr : Transport) (bank offset : Nat) (data : Bytes) : Statement (.sfuBankWrite tr bank offset data) := by simp [Statement, decodeTableWord]
theorem sfuCheckStart (tr : Transport) : Statement (.sfuCheckStart tr) := by simp [Statement, decodeTableWord]
theorem sfuCheckDone : Statement (.sfuCheckDone) := by simp [Statement, decodeTableWord]
theorem sfuJobTableWrite (tr : Transport) (offset : Nat) (data : Bytes) : Statement (.sfuJobTableWrite tr offset data) := by simp [Statement, decodeTableWord]
theorem sfuJobStart (tr : Transport) (value : U64) : Statement (.sfuJobStart tr value) := by simp [Statement, decodeTableWord]
theorem jobBegin : Statement (.jobBegin) := by simp [Statement, decodeTableWord]
theorem jobComplete : Statement (.jobComplete) := by simp [Statement, decodeTableWord]
theorem ptBankWrite (tr : Transport) (bank offset : Nat) (data : Bytes) : Statement (.ptBankWrite tr bank offset data) := by simp [Statement, decodeTableWord]
theorem ptCheckStart (tr : Transport) : Statement (.ptCheckStart tr) := by simp [Statement, decodeTableWord]
theorem ptCheckDone : Statement (.ptCheckDone) := by simp [Statement, decodeTableWord]
theorem cleGroupsWrite (tr : Transport) (offset : Nat) (data : Bytes) : Statement (.cleGroupsWrite tr offset data) := by simp [Statement, decodeTableWord]
theorem fabShapeWrite (tr : Transport) (value : U64) : Statement (.fabShapeWrite tr value) := by simp [Statement, decodeTableWord]
theorem fepWindowsWrite (tr : Transport) (offset : Nat) (data : Bytes) : Statement (.fepWindowsWrite tr offset data) := by simp [Statement, decodeTableWord]
theorem fepRouteWrite (tr : Transport) (offset : Nat) (data : Bytes) : Statement (.fepRouteWrite tr offset data) := by simp [Statement, decodeTableWord]
theorem fepReqTableWrite (tr : Transport) (offset : Nat) (data : Bytes) : Statement (.fepReqTableWrite tr offset data) := by simp [Statement, decodeTableWord]
theorem fepStart (tr : Transport) (value : U64) : Statement (.fepStart tr value) := by simp [Statement, decodeTableWord]
theorem fepInval (tr : Transport) (value : U64) : Statement (.fepInval tr value) := by simp [Statement, decodeTableWord]
theorem cvuScanReq (tr : Transport) (data : Bytes) : Statement (.cvuScanReq tr data) := by simp [Statement, decodeTableWord]
theorem scanBegin : Statement (.scanBegin) := by simp [Statement, decodeTableWord]
theorem scanComplete : Statement (.scanComplete) := by simp [Statement, decodeTableWord]
theorem cvuInject (tr : Transport) (value : U64) : Statement (.cvuInject tr value) := by simp [Statement, decodeTableWord]
theorem readScalar (tr : Transport) (rsv tid idx sub : Nat) : Statement (.readScalar tr rsv tid idx sub) := by simp [Statement, decodeTableWord]
theorem writeScalar (tr : Transport) (rsv tid idx sub : Nat) (value : U64) : Statement (.writeScalar tr rsv tid idx sub value) := by simp [Statement, decodeTableWord]
theorem capture (tr : Transport) (rsv tid idx sub offset length : Nat) : Statement (.capture tr rsv tid idx sub offset length) := by simp [Statement, decodeTableWord]
theorem commit (tr : Transport) (rsv tid idx sub offset length : Nat) : Statement (.commit tr rsv tid idx sub offset length) := by simp [Statement, decodeTableWord]
theorem listRead (tr : Transport) (rsv tid count : Nat) (sels : List Selector) : Statement (.listRead tr rsv tid count sels) := by simp [Statement, decodeTableWord]
theorem describe (tr : Transport) (rsv tid idx sub : Nat) : Statement (.describe tr rsv tid idx sub) := by simp [Statement, decodeTableWord]
theorem rbufRead (rsv tid offset length : Nat) : Statement (.rbufRead rsv tid offset length) := by simp [Statement, decodeTableWord]
theorem wbufWrite (rsv tid offset length : Nat) (data : Bytes) : Statement (.wbufWrite rsv tid offset length data) := by simp [Statement, decodeTableWord]
theorem cpRespRead : Statement .cpRespRead := by simp [Statement, decodeTableWord]
theorem registerWrite (target : Location) (value : U64) : Statement (.registerWrite target value) := by simp [Statement, decodeTableWord]
theorem ttLoad (tr : Transport) (ctx : Nat) : Statement (.ttLoad tr ctx) := by simp [Statement, decodeTableWord]
theorem ttLoadDone (ctx : Nat) : Statement (.ttLoadDone ctx) := by simp [Statement, decodeTableWord]
theorem ttStart (tr : Transport) (ctx : Nat) : Statement (.ttStart tr ctx) := by simp [Statement, decodeTableWord]
theorem ttStop (tr : Transport) (ctx : Nat) : Statement (.ttStop tr ctx) := by simp [Statement, decodeTableWord]
theorem ttUnload (tr : Transport) (ctx : Nat) : Statement (.ttUnload tr ctx) := by simp [Statement, decodeTableWord]
theorem ttImageAddrWrite (tr : Transport) (ctx : Nat) (value : U64) : Statement (.ttImageAddrWrite tr ctx value) := by simp [Statement, decodeTableWord]
theorem unloadPathDone (ctx : Nat) : Statement (.unloadPathDone ctx) := by simp [Statement, decodeTableWord]
theorem tbStart (tr : Transport) : Statement (.tbStart tr) := by simp [Statement, decodeTableWord]
theorem coldResetAssert : Statement (.coldResetAssert) := by simp [Statement, decodeTableWord]
theorem coldResetRelease : Statement (.coldResetRelease) := by simp [Statement, decodeTableWord]
theorem internalInitDone : Statement (.internalInitDone) := by simp [Statement, decodeTableWord]
theorem warmResetInput : Statement (.warmResetInput) := by simp [Statement, decodeTableWord]
theorem rstControlWarm (tr : Transport) : Statement (.rstControlWarm tr) := by simp [Statement, decodeTableWord]
theorem warmResetDone : Statement (.warmResetDone) := by simp [Statement, decodeTableWord]
theorem rstIdleSwapPlacement (tr : Transport) : Statement (.rstIdleSwapPlacement tr) := by simp [Statement, decodeTableWord]
theorem rstIdleSwapProgram (tr : Transport) : Statement (.rstIdleSwapProgram tr) := by simp [Statement, decodeTableWord]
theorem throttleChange (level : Nat) : Statement (.throttleChange level) := by simp [Statement, decodeTableWord]
theorem numNonfiniteClear (tr : Transport) : Statement (.numNonfiniteClear tr) := by simp [Statement, decodeTableWord]
theorem selCountClear (tr : Transport) (value : U64) : Statement (.selCountClear tr value) := by simp [Statement, decodeTableWord]
theorem crdCountClear (tr : Transport) (value : U64) : Statement (.crdCountClear tr value) := by simp [Statement, decodeTableWord]
theorem excCountClear (tr : Transport) (value : U64) : Statement (.excCountClear tr value) := by simp [Statement, decodeTableWord]
theorem bwdCountClear (tr : Transport) (value : U64) : Statement (.bwdCountClear tr value) := by simp [Statement, decodeTableWord]
theorem ttCountClear (tr : Transport) (value : U64) : Statement (.ttCountClear tr value) := by simp [Statement, decodeTableWord]
theorem poolPqCountClear (tr : Transport) (value : U64) : Statement (.poolPqCountClear tr value) := by simp [Statement, decodeTableWord]
theorem pressCountClear (tr : Transport) (value : U64) : Statement (.pressCountClear tr value) := by simp [Statement, decodeTableWord]
theorem sfuCountClear (tr : Transport) (value : U64) : Statement (.sfuCountClear tr value) := by simp [Statement, decodeTableWord]
theorem cleCountClear (tr : Transport) (value : U64) : Statement (.cleCountClear tr value) := by simp [Statement, decodeTableWord]
theorem fepCountClear (tr : Transport) (value : U64) : Statement (.fepCountClear tr value) := by simp [Statement, decodeTableWord]
theorem cvuCountClear (tr : Transport) (value : U64) : Statement (.cvuCountClear tr value) := by simp [Statement, decodeTableWord]
theorem obsCountClear (tr : Transport) : Statement (.obsCountClear tr) := by simp [Statement, decodeTableWord]
theorem fltLogClear (tr : Transport) : Statement (.fltLogClear tr) := by simp [Statement, decodeTableWord]
theorem rplStart (tr : Transport) : Statement (.rplStart tr) := by simp [Statement, decodeTableWord]
theorem rplStop (tr : Transport) : Statement (.rplStop tr) := by simp [Statement, decodeTableWord]
theorem snapControl (tr : Transport) : Statement (.snapControl tr) := by simp [Statement, decodeTableWord]
theorem snapInEdge : Statement (.snapInEdge) := by simp [Statement, decodeTableWord]
theorem snapshotImageDone : Statement (.snapshotImageDone) := by simp [Statement, decodeTableWord]
theorem traceStart (tr : Transport) : Statement (.traceStart tr) := by simp [Statement, decodeTableWord]
theorem traceStop (tr : Transport) : Statement (.traceStop tr) := by simp [Statement, decodeTableWord]
theorem traceArmStart (tr : Transport) : Statement (.traceArmStart tr) := by simp [Statement, decodeTableWord]
theorem traceArmStop (tr : Transport) : Statement (.traceArmStop tr) := by simp [Statement, decodeTableWord]
theorem heartbeat : Statement (.heartbeat) := by simp [Statement, decodeTableWord]
theorem interruptEventFrame : Statement (.interruptEventFrame) := by simp [Statement, decodeTableWord]
theorem canBusOffRecovery : Statement (.canBusOffRecovery) := by simp [Statement, decodeTableWord]
theorem meterRestore : Statement (.meterRestore) := by simp [Statement, decodeTableWord]
theorem tapWord : Statement (.tapWord) := by simp [Statement, decodeTableWord]
theorem powerWord (energy : U32) : Statement (.powerWord energy) := by simp [Statement, decodeTableWord]
theorem powerTimeout : Statement (.powerTimeout) := by simp [Statement, decodeTableWord]
theorem meterPersist : Statement (.meterPersist) := by simp [Statement, decodeTableWord]
theorem nvDone : Statement (.nvDone) := by simp [Statement, decodeTableWord]
theorem persistAckTimeout : Statement (.persistAckTimeout) := by simp [Statement, decodeTableWord]
theorem transactionComplete (tr : Transport) : Statement (.transactionComplete tr) := by simp [Statement, decodeTableWord]
theorem canBusError (transmit : Bool) (count : Nat) : Statement (.canBusError transmit count) := by simp [Statement, decodeTableWord]
theorem powerRemoved : Statement (.powerRemoved) := by simp [Statement, decodeTableWord]
theorem rootClockStop : Statement (.rootClockStop) := by simp [Statement, decodeTableWord]

end Sys2Proof.Laws.F
end

