-- ==== Sys2Proof/WellFormed.lean ====
section
/-! DEFINITION. Well-formed commands: each operand lies within the field that the spec gives it (Tables 7.8, 8.5, 12.2, 15.6,
15.10 and the rules cited). The meanings are total; an ill-formed term is one that no timetable, port or host can present. -/

namespace Sys2Proof

/-- A context number. -/
def ctxOk (c : Nat) : Bool := decide (c < 8)
/-- A layer, a tile sequence and a tile index (Table 7.8). -/
def tileOk (layer tile index : Nat) : Bool := decide (layer < 256 ∧ tile < 65536 ∧ index < 65536)
/-- A link port. -/
def linkOk (p : Nat) : Bool := decide (p < 48)
/-- A port of the exchange: link ports 0 to 47, tile ports 48 to 63. -/
def portOk (p : Nat) : Bool := decide (p < 64)
/-- A tile port. -/
def tpOk (p : Nat) : Bool := decide (p < 16)
/-- A node number (R306). -/
def nodeOk (n : Nat) : Bool := decide (n < 16384)
/-- A packet queue. -/
def queueOk (q : Nat) : Bool := decide (q < 512)
/-- A 32-bit chunk sequence number (Table 5.3). -/
def seqOk (s : Nat) : Bool := decide (s < 2 ^ 32)
/-- A step counter (R171). -/
def stepOk (s : Nat) : Bool := decide (s < 2 ^ 48)
/-- A group and an operation of it (Table 12.2). -/
def groupOk (g s : Nat) : Bool := decide (g < 4095 ∧ s < 65536)
/-- A sender's sequence number of the Fabric Endpoint (Table 13.3). -/
def fepSeqOk (src s : Nat) : Bool := nodeOk src && decide (s < 65536)

/-- The fields of a SEND or RECEIVE (Table 7.8). -/
def Xfer.wf (x : Xfer) : Bool :=
  portOk x.port && decide (x.source < 8 ∧ x.piece < 65536 ∧ x.len ≤ 4096 ∧ x.sig < 2 ^ 64) && tileOk x.layer x.tile 0 &&
  nodeOk x.dst && nodeOk x.src && seqOk x.seq && queueOk x.queue

/-- A selector names an index and a subindex, with its other bits zero (Tables 15.5, 15.10). -/
def Selector.wf (x : Selector) : Bool := decide (x.idx < 65536 ∧ x.sub < 256 ∧ x.low = 0)

/-- A dictionary request names an index and a subindex, with its reserved bits zero (Tables 15.6, 15.10). -/
def reqOk (rsv tid idx sub : Nat) : Bool := decide (rsv = 0 ∧ tid < 256 ∧ idx < 65536 ∧ sub < 256)

/-- A byte range of a request (Table 15.6). -/
def spanOk (offset length : Nat) : Bool := decide (offset < 2 ^ 32 ∧ length < 2 ^ 32)

/-- A register write names a location of the window, at a multiple of 8 below 1 MiB (R382), or an entry. -/
def Location.wf : Location → Bool
  | .cpArg => true
  | .cpList j => decide (j < 32)
  | .cpWbuf o => decide (o % 8 = 0 ∧ o < 4096)
  | .cpOther o => decide (o % 8 = 0 ∧ o < 2 ^ 20)
  | .entry _ tid idx sub => reqOk 0 tid idx sub
  | .canFrame bs => decide (bs.length ≤ 64)

/-- A write of a table at an offset: at most what the write buffer holds (R374). -/
def tableOk (offset : Nat) (data : Bytes) : Bool := decide (offset < 2 ^ 32 ∧ data.length ≤ 4096)

/-- A command's operands lie within their fields. -/
def Instr.wf : Instr → Bool
  | .tileWindowForward c l t i p | .tileWindowReingest c l t i p | .tileWindowRefetch c l t i p => ctxOk c && tileOk l t i && tpOk p
  | .tileWindowBegin u => decide (1 ≤ u ∧ u ≤ 13)
  | .send c x | .receive c x => ctxOk c && x.wf
  | .tileSend c p l t src first count dir seq =>
    ctxOk c && tpOk p && tileOk l t 0 && nodeOk src && decide (1 ≤ count ∧ count ≤ 16777214 ∧ first + count ≤ 16777215 ∧ dir < 2 ∧ seq < 65536)
  | .combineForward c l t i nf ns | .combineInputGradient c l t i nf ns | .combineRefetchReturn c l t i nf ns =>
    ctxOk c && tileOk l t i && decide (nf < 65536 ∧ ns < 256)
  | .routeLogLoad c l t w n => ctxOk c && tileOk l t 0 && decide (w < 3 ∧ n ≤ 2)
  | .combineRecord c l t w e => ctxOk c && tileOk l t 0 && decide (w < 3 ∧ e < 65536)
  | .combineClosePoint c l t w => ctxOk c && tileOk l t 0 && decide (w < 3)
  | .gradientB2 c l t i n => ctxOk c && tileOk l t i && decide (n < 64)
  | .gradientB4 c l t i | .gradientB5 c l t i | .gradientB6 c l t i | .gradientB7Residency c l t i => ctxOk c && tileOk l t i
  | .residencyRetry c l | .residencyDeadline c l | .deliveryForm c l => ctxOk c && tileOk l 0 0
  | .collective c g s src dst f cap q _ k l =>
    ctxOk c && groupOk g s && queueOk q && tileOk l 0 0 &&
      decide (src < 4096 ∧ dst < 4096 ∧ f < 16 ∧ 1 ≤ cap ∧ cap ≤ 268435455 ∧ k < 3)
  | .collectiveBegin c g s | .collectiveTimeout c g s => ctxOk c && groupOk g s
  | .collectiveUpValue c g s p | .collectiveResultWrite c g s p => ctxOk c && groupOk g s && decide (p < 2 ^ 19)
  | .digestPost c n k r z => ctxOk c && nodeOk n && decide (k < 16 ∧ r < 16 ∧ 1 ≤ z ∧ z < 16)
  | .snapshot c id => ctxOk c && decide (id < 65536)
  | .bankSwapPlacement c | .bankSwapProgram c | .stepEnd c | .firstStepBegin c => ctxOk c
  | .planSwitch f => decide (f < 65536)
  | .slip | .linkSlotStart | .frameBoundary | .poolInitDone | .copyBegin | .copyComplete | .sfuCheckDone | .jobBegin
  | .jobComplete | .ptCheckDone | .scanBegin | .scanComplete | .coldResetAssert | .coldResetRelease
  | .internalInitDone | .warmResetInput | .warmResetDone | .snapInEdge | .snapshotImageDone | .heartbeat | .interruptEventFrame
  | .canBusOffRecovery | .meterRestore | .tapWord | .powerWord _ | .powerTimeout | .meterPersist | .nvDone | .persistAckTimeout
  | .powerRemoved | .rootClockStop | .fepApply | .cpRespRead | .tickInEdge => true
  | .ingressSegment p _ d | .tileOriginChunk p _ d => tpOk p && decide (d.length ≤ 4096)
  | .scoreTileDone c l t | .selectTile c l t => ctxOk c && tileOk l t 0
  | .cardTile c l t w => ctxOk c && tileOk l t 0 && decide (w < 3)
  | .poolAllocGrant k | .poolRingRefillDone k => decide (k < 5)
  | .poolFree c a => ctxOk c && decide (a < 2 ^ 64)
  | .chunkArrival p _ d => portOk p && decide (d.length ≤ 4096)
  | .trailerArrival p _ | .resendQueueSend p | .slotGuardExpiry p => portOk p
  | .releaseDeadline p s src dst => portOk p && seqOk s && nodeOk src && nodeOk dst
  | .outputLate c k l t => ctxOk c && decide (k < 16) && (if k = 8 then groupOk l t else tileOk l t 0)
  | .frameProgramFetch c => ctxOk c
  | .frameProgramFetched c n => ctxOk c && decide (n ≤ 2)
  | .timingWordReceived p _ => linkOk p
  | .timingWordSilence p | .lkUpFall p | .lkUpRise p | .fepMessageSend p => linkOk p
  | .abortBoundary c | .replayBegin c => ctxOk c
  | .chunkReleaseTimeout c s src dst | .expectationTimeout c s src dst => ctxOk c && seqOk s && nodeOk src && nodeOk dst
  | .tileWatchdogExpiry c l t w => ctxOk c && tileOk l t 0 && decide (w < 3)
  | .stepSlackExpiry c s | .stepDigestClose c s => ctxOk c && stepOk s
  | .controlFlitReceived p f => tpOk p && decide (f.length = 256)
  | .tpUpChange p _ => tpOk p
  | .fepMessageReceived p _ d => linkOk p && decide (d.length ≤ 4096)
  | .fepWriteComplete n s | .replayTableExpiry n s => fepSeqOk n s
  | .fepReplyReceived t | .fepRetry t | .fepTimeout t => decide (t < 1024)
  | .postSetCheck c k s | .postSetTimeout c k s => ctxOk c && decide (k < 16) && stepOk s
  | .tileDigestClose c l k t => ctxOk c && tileOk l t 0 && decide (k < 16)
  | .poolInitialise _ | .poolSetLow _ | .poolAllocReq _ _ | .poolFreeReq _ _ | .pqRead _ | .pqMark _ | .pqRewind _ | .pqRelease _
  | .sfuCheckStart _ | .ptCheckStart _ | .tbStart _ | .rstControlWarm _ | .rstIdleSwapPlacement _ | .rstIdleSwapProgram _
  | .numNonfiniteClear _ | .obsCountClear _ | .fltLogClear _ | .rplStart _ | .rplStop _ | .snapControl _ | .traceStart _
  | .traceStop _ | .traceArmStart _ | .traceArmStop _ | .transactionComplete _ | .fabShapeWrite _ _ => true
  | .packetOffer q n c ws => queueOk q && decide (1 ≤ n ∧ n ≤ 25) && ctxOk c && decide (1 ≤ ws.length ∧ ws.length ≤ 64)
  | .packetCommit q | .packetAbort q | .gapMarkerCommit q => queueOk q
  | .pqDescWrite _ o d | .pressDescWrite _ o d | .pressCopyTableWrite _ o d | .sfuJobTableWrite _ o d | .cleGroupsWrite _ o d
  | .fepWindowsWrite _ o d | .fepRouteWrite _ o d | .fepReqTableWrite _ o d => tableOk o d
  | .sfuBankWrite _ b o d | .ptBankWrite _ b o d => decide (b < 2) && tableOk o d
  | .cvuScanReq _ d => decide (d.length = 32)
  | .pressCopyStart _ v | .cvuInject _ v => decide (v.toNat < 2 ^ 16)
  | .sfuJobStart _ v | .fepStart _ v | .fepInval _ v | .selCountClear _ v | .crdCountClear _ v | .excCountClear _ v
  | .bwdCountClear _ v | .ttCountClear _ v | .poolPqCountClear _ v | .pressCountClear _ v | .sfuCountClear _ v
  | .cleCountClear _ v | .fepCountClear _ v | .cvuCountClear _ v => decide (v.toNat < 2 ^ 8)
  | .readScalar _ r t i u | .writeScalar _ r t i u _ | .describe _ r t i u => reqOk r t i u
  | .capture _ r t i u o n | .commit _ r t i u o n => reqOk r t i u && spanOk o n
  | .listRead _ r t n xs => reqOk r t 0 0 && decide (n ≤ 32 ∧ n ≤ xs.length) && xs.all Selector.wf
  | .rbufRead r t o n => reqOk r t 0 0 && spanOk o n
  | .wbufWrite r t o n d => reqOk r t 0 0 && spanOk o n && decide (d.length = n)
  | .registerWrite l _ => l.wf
  | .ttLoad _ c | .ttStart _ c | .ttStop _ c | .ttUnload _ c | .ttImageAddrWrite _ c _ => ctxOk c
  | .ttLoadDone c | .unloadPathDone c => ctxOk c
  | .throttleChange l => decide (l < 8)
  | .canBusError _ n => decide (1 ≤ n ∧ n ≤ 8)

end Sys2Proof
end

