-- ==== Sys2Proof/Tests/Slice0.lean ====
section
/-! SUPPORT. The model's own tests: each check of WellFormed refuses an ill-formed term; single steps whose results come from the
tables and rules of the spec; and, for the statements with hypotheses, states and operands that meet the hypotheses of each clause. -/

namespace Sys2Proof.Tests

open Sys2Proof Sys2Proof.Machine

set_option Elab.async false

/-! ### Well-formed commands -/

/-- A SEND's fields, each at the top of its field (Table 7.8). -/
def topXfer : Xfer :=
  { port := 63, source := 7, layer := 255, tile := 65535, piece := 65535, dst := 16383, seq := 4294967295, queue := 511, len := 4096,
    src := 16383, sig := 18446744073709551615 }

theorem test_wf_top :
    [Instr.send 7 topXfer, .tileWindowForward 7 255 65535 65535 15, .tileWindowBegin 13, .collective 7 4094 65535 4095 4095 15 268435455 511
      true 2 255, .readScalar .can 0 255 65535 255, .packetOffer 511 25 7 (List.replicate 64 []), .registerWrite (.cpWbuf 4088) 0,
     .stepDigestClose 7 281474976710655, .fepWriteComplete 16383 65535, .fepRetry 1023, .canBusError true 8, .lkUpFall 47].all Instr.wf = true := by
  decide +kernel

theorem test_ill_context :
    [Instr.stepEnd 8, .tileWindowForward 8 0 0 0 0, .send 8 topXfer, .receive 8 topXfer, .ttLoad .cp 8, .ttLoadDone 8, .unloadPathDone 8,
     .poolFree 8 0, .snapshot 8 0, .packetOffer 0 1 8 [[]], .frameProgramFetch 8, .replayBegin 8].all (fun i => !i.wf) = true := by decide +kernel

theorem test_ill_tile :
    [Instr.tileWindowReingest 0 256 0 0 0, .tileWindowRefetch 0 0 65536 0 0, .gradientB4 0 0 0 65536, .tileWindowForward 0 0 0 0 16,
     .tileWindowBegin 0, .tileWindowBegin 14, .scoreTileDone 0 256 0, .selectTile 0 0 65536, .cardTile 0 0 0 3, .gradientB2 0 0 0 0 64,
     .combineForward 0 0 0 0 65536 0, .combineInputGradient 0 0 0 0 0 256, .routeLogLoad 0 0 0 3 0, .routeLogLoad 0 0 0 0 3,
     .combineRecord 0 0 0 0 65536, .combineClosePoint 0 0 0 3, .tileDigestClose 0 0 16 0, .tileWatchdogExpiry 0 0 0 3,
     .residencyRetry 0 256, .deliveryForm 0 256].all (fun i => !i.wf) = true := by decide +kernel

theorem test_ill_transfer :
    [Instr.send 0 { topXfer with port := 64 }, .send 0 { topXfer with source := 8 }, .send 0 { topXfer with layer := 256 },
     .send 0 { topXfer with tile := 65536 }, .send 0 { topXfer with piece := 65536 }, .receive 0 { topXfer with dst := 16384 },
     .receive 0 { topXfer with seq := 4294967296 }, .receive 0 { topXfer with queue := 512 }, .receive 0 { topXfer with len := 4097 },
     .receive 0 { topXfer with src := 16384 }, .receive 0 { topXfer with sig := 18446744073709551616 },
     .tileSend 0 16 0 0 0 0 1 0 0, .tileSend 0 0 0 0 0 0 0 0 0, .tileSend 0 0 0 0 0 16777214 2 0 0, .tileSend 0 0 0 0 0 0 1 2 0,
     .tileSend 0 0 0 0 0 0 1 0 65536].all (fun i => !i.wf) = true := by decide +kernel

theorem test_ill_collective :
    [Instr.collective 0 4095 0 0 0 0 1 0 false 0 0, .collective 0 0 65536 0 0 0 1 0 false 0 0, .collective 0 0 0 4096 0 0 1 0 false 0 0,
     .collective 0 0 0 0 4096 0 1 0 false 0 0, .collective 0 0 0 0 0 16 1 0 false 0 0, .collective 0 0 0 0 0 0 0 0 false 0 0,
     .collective 0 0 0 0 0 0 268435456 0 false 0 0, .collective 0 0 0 0 0 0 1 512 false 0 0, .collective 0 0 0 0 0 0 1 0 false 3 0,
     .collectiveBegin 0 4095 0, .collectiveUpValue 0 0 0 524288, .collectiveTimeout 0 0 65536].all (fun i => !i.wf) = true := by decide +kernel

theorem test_ill_events :
    [Instr.digestPost 0 16384 0 0 1, .digestPost 0 0 16 0 1, .digestPost 0 0 0 16 1, .digestPost 0 0 0 0 0, .snapshot 0 65536,
     .planSwitch 65536, .ingressSegment 16 0 [], .tileOriginChunk 0 0 (List.replicate 4097 0), .chunkArrival 64 0 [],
     .trailerArrival 64 0, .releaseDeadline 64 0 0 0, .outputLate 0 16 0 0, .frameProgramFetched 0 3, .timingWordReceived 48 0,
     .timingWordSilence 48, .lkUpRise 48, .fepMessageSend 48, .chunkReleaseTimeout 0 4294967296 0 0, .expectationTimeout 0 0 16384 0,
     .stepSlackExpiry 0 281474976710656, .controlFlitReceived 0 [], .tpUpChange 16 true, .fepMessageReceived 48 0 [],
     .fepWriteComplete 0 65536, .replayTableExpiry 16384 0, .fepReplyReceived 1024, .fepTimeout 1024, .postSetCheck 0 16 0,
     .postSetTimeout 0 0 281474976710656, .poolAllocGrant 5, .poolRingRefillDone 5, .throttleChange 8,
     .canBusError true 0, .canBusError false 9].all (fun i => !i.wf) = true := by decide +kernel

theorem test_ill_host :
    [Instr.packetOffer 512 1 0 [[]], .packetOffer 0 0 0 [[]], .packetOffer 0 26 0 [[]], .packetOffer 0 1 0 [], .packetCommit 512,
     .gapMarkerCommit 512, .pqDescWrite .cp 4294967296 [], .cleGroupsWrite .cp 0 (List.replicate 4097 0), .ptBankWrite .cp 2 0 [],
     .sfuBankWrite .cp 2 0 [], .cvuScanReq .cp [], .pressCopyStart .cp 65536, .cvuInject .cp 65536, .fepInval .cp 256,
     .selCountClear .can 256, .readScalar .cp 1 0 0 0, .writeScalar .cp 0 256 0 0 0, .describe .cp 0 0 65536 0, .capture .cp 0 0 0 256 0 0,
     .commit .cp 0 0 0 0 4294967296 0, .commit .cp 0 0 0 0 0 4294967296, .listRead .cp 0 0 33 (List.replicate 33 { idx := 0, sub := 0 }),
     .listRead .cp 0 0 2 [{ idx := 0, sub := 0 }], .listRead .cp 0 0 1 [{ idx := 65536, sub := 0 }],
     .listRead .cp 0 0 1 [{ idx := 0, sub := 256 }], .listRead .cp 0 0 1 [{ idx := 0, sub := 0, low := 1 }], .rbufRead 1 0 0 0,
     .wbufWrite 0 0 0 2 [0], .registerWrite (.cpList 32) 0, .registerWrite (.cpWbuf 4) 0, .registerWrite (.cpWbuf 4096) 0,
     .registerWrite (.cpOther 4) 0, .registerWrite (.entry .cp 256 0 0) 0].all (fun i => !i.wf) = true := by decide +kernel

/-! ### States and operands that meet the hypotheses of the statements -/

/-- A state with scalars set. -/
def withRegs (s : State) (l : List (Nat × Nat)) : State := l.foldl (fun (s : State) (p : Nat × Nat) => s.put p.1 p.2) s

/-- A partition of 4,144 bytes (Table 7.4): Staging Store from 0, 1 MiB of it, the queues from 0, two of them, 2 buffers of
every class, and every slot of every port. -/
def part0 : Bytes := List.replicate 4096 0xFF ++ le 4 0 ++ le 4 1048576 ++ le 2 0 ++ le 2 2 ++ zeros 4 ++ (List.range 5).flatMap (fun _ => le 4 2) ++ zeros 12

/-- An image whose step takes two frames, with one empty layer. -/
def image0 : Image :=
  { addr := 4096, hdr := zeros 20 ++ le 2 1000 ++ zeros 2 ++ le 4 2 ++ zeros 2 ++ le 2 3 ++ zeros 224, links := [], part := part0, layers := [zeros 256], index := [],
    plans := [], latched := [], used := [] }

/-- An engine on which context 0 holds `i`, in the context state `st` of TT_STATE. -/
def holding (i : Image) (st : Nat) : State :=
  let c : Ctx := { image := some i, opens := [{ step := 7, attempt := 0, first := 0, last := 1 }] }
  { withRegs State.reset [(Key.TT_STATE 0, st), (Key.TT_STEP 0, 7), (Key.TT_FIRST_STEP 0, 7), (Key.ENG_NODE, 5)] with
    ctxs := c :: List.replicate 7 {} }

/-- An engine whose context 0 runs step 7 of the image. -/
def running0 : State := holding image0 4

/-- One command of a class in context 0's program, for the tick in force (Tables 7.6 and 7.7). -/
def planning (cls fields : Nat) (s : State) : State :=
  s.setCtx 0 { s.ctx 0 with
    progs := [{ frame := s.planFrame, k := 0, src := { frame := 0, len := 352, off := 0, crc := 0 },
                bytes := some (zeros 320 ++ le 32 (s.cmdWord cls fields)), dropped := false }] }

theorem witness_StepRunsFrontCommand : ({ State.reset with pending := [.slip, .frameBoundary] } : State).pending = .slip :: [.frameBoundary] := rfl

theorem witness_IdleStepPassesTime :
    (State.reset.pending = [] ∧ State.reset.clocked = true) ∧
    [0, 1, -1].all (fun (x : Int) => ({ State.reset with time := { sinceSlew := 15, slew := x } } : State).clocked) = true ∧
    still State.reset ∧
    (State.reset.phase = .running ∧ ({ State.reset with time := { throttle := 7, sampled := 1 } } : State).obs.latchDue = [] ∧
      Memory.wf State.reset = true) := by
  unfold still; decide +kernel

theorem witness_StepKeepsSound :
    Sound State.reset.build State.reset ∧ ∃ t, Machine.step State.reset = .next t := by
  refine ⟨⟨rfl, rfl, ⟨rfl, rfl⟩, .inr ⟨by decide +kernel, ⟨rfl, rfl, rfl⟩, rfl, rfl, rfl, rfl⟩⟩, _, rfl⟩

theorem witness_CommandsKeepBuildAndQueue :
    Sound State.reset.build State.reset ∧ ∃ t, exec (.stepEnd 0) State.reset = .next t := by
  refine ⟨witness_StepKeepsSound.1, _, rfl⟩

/-! Pools. -/

/-- The piece a request of context 0 is for. -/
def key0 : PieceKey := { ctx := 0, step := 7, layer := 0, tile := 0, kind := 0, src := 5, dst := 6, idx := 0 }

/-- Class 1 at 0x10000 with four buffers: one held by context 0, the next on top of the cache and a request that waits. -/
def pooled : State :=
  let s := withRegs running0 [(Key.POOL_STATE, 2), (Key.POOL_BASE 1, 0x10000), (Key.POOL_COUNT 1, 4), (Key.POOL_FREE 1, 3), (Key.POOL_LOW 1, 3),
    (Key.POOL_HELD 1 0, 1)]
  { s with pools := [{}, { owner := [(0, 0)], cache := [0x11000, 0x12000, 0x13000], head := 4, tail := 4, wait := [{ ctx := 0, key := key0 }] },
      {}, {}, {}], pieces := [{ key := key0, len := 4096 }] }

theorem witness_PoolGrantGivesTop :
    pooled.live = true ∧ shaped pooled ∧ pooled.get Key.POOL_STATE = 2 ∧ pooled.nextGrant 1 = some { ctx := 0, key := key0 } ∧
    (pooled.pool 1).cache = 0x11000 :: [0x12000, 0x13000] ∧ (pooled.piece key0).isSome = true ∧
    (∀ e, e ∈ pooled.expects → e.inHand = none) ∧ (∀ k, k ∈ pooled.combs → k.closed = false) := by
  unfold shaped; decide +kernel

/-- A host buffer of class 3 beside them. -/
def pooledHost : State :=
  let s := withRegs pooled [(Key.POOL_BASE 3, 0x10000000), (Key.POOL_COUNT 3, 2), (Key.POOL_FREE 3, 1), (Key.POOL_HELD 3 0, 1)]
  { s with pools := [{}, {}, {}, { owner := [(1, 0)], cache := [0x10000000], head := 2, tail := 2 }, {}] }

theorem witness_PoolFreeReturnsBuffer :
    (pooled.live = true ∧ quiet pooled = true ∧ shaped pooled ∧ pooled.freeCheck false 0 0x10000 = .ok (1, 0) ∧ pooled.cvu.queue = [] ∧
      pooled.press.queue = [] ∧ pooled.sfu.queue = []) ∧
    (hostReady .cp pooledHost = true ∧ hostReady .can pooledHost = true ∧ quiet pooledHost = true ∧ shaped pooledHost ∧
      pooledHost.freeCheck true (bits (0x10100000 : U64).toNat 61 3) (bits (0x10100000 : U64).toNat 0 61) = .ok (3, 1)) := by
  unfold shaped
  refine ⟨⟨?_, ?_, ?_, by rfl, ?_⟩, ?_, ?_, ?_, ?_, by rfl⟩ <;> decide +kernel

/-- A ring of class 0 with entries to read, or with an entry to write. -/
def ringed (reading : Nat) (writing : List Nat) : State :=
  let s := withRegs State.reset [(Key.POOL_COUNT 0, 512), (Key.POOL_RING_ADDR 0, 0x20000), (Key.POOL_RING_PORT 0, 3)]
  { s with pools := { cache := [0x100], head := 511, tail := 512, reading := reading, writing := writing } :: List.replicate 4 {} }

theorem witness_PoolRingMoves :
    ((ringed 1 []).live = true ∧ shaped (ringed 1 []) ∧ Sparse.rising (ringed 1 []).env.mem = true ∧ (ringed 1 []).get (Key.POOL_RING_PORT 0) < 4 ∧
      0 < ((ringed 1 []).pool 0).reading) ∧
    ((ringed 0 [0x200]).live = true ∧ shaped (ringed 0 [0x200]) ∧ Sparse.rising (ringed 0 [0x200]).env.mem = true ∧
      (ringed 0 [0x200]).get (Key.POOL_RING_PORT 0) < 4 ∧ ((ringed 0 [0x200]).pool 0).reading = 0 ∧ ((ringed 0 [0x200]).pool 0).writing ≠ [] ∧
      ((ringed 0 [0x200]).pool 0).writing.length ≤ (ringed 0 [0x200]).ringCap 0) := by
  unfold shaped; decide +kernel

/-- An initialisation runs: class 0 empty, class 1 with 65 buffers. -/
def initing : State := withRegs State.reset [(Key.POOL_STATE, 1), (Key.POOL_COUNT 1, 65), (Key.POOL_RING_PORT 1, 3), (Key.POOL_RING_ADDR 1, 4096)]

theorem witness_PoolInitialised :
    initing.live = true ∧ shaped initing ∧ initing.get Key.POOL_STATE = 1 ∧
    (∀ c, c < 5 → initing.get (Key.POOL_COUNT c) = 0 ∨ initing.get (Key.POOL_RING_PORT c) < 4) := by
  unfold shaped; decide +kernel

/-! Packet queues. -/

/-- A queue's descriptor: kind, depth 4 words at word 0, the host its consumer. -/
def desc (kind producer : Nat) : Nat := kind <<< 108 ||| 2 <<< 110 ||| producer <<< 103

/-- Queue 0 with a descriptor and pointers. -/
def queued (kind : Nat) (q : Queue) : State :=
  let s := running0.domPut Dom.PQ_DESC 0 (le 16 (desc kind (if kind = 2 then 1 else 0)))
  { s with queues := [(0, q)] }

/-- The open packets and the words free of queue 0, as the statement meets them. -/
theorem witness_QueuePackets :
    (queued 1 {}).live = true ∧
    (pqKind ((queued 1 {}).pqDesc 0) = 1 ∧ ((queued 1 {}).queue 0).offers = [] ∧ ((queued 1 {}).queue 0).opened = none ∧
      ([zeros 128, zeros 128, zeros 128].length + 1 ≤ (queued 1 {}).pqFree 0 ∧ ((queued 1 {}).queue 0).pend = 0)) ∧
    (pqKind ((queued 1 { write := 1, commit := 1 }).pqDesc 0) = 1 ∧ ¬ ([zeros 128, zeros 128, zeros 128].length + 1 ≤ (queued 1 { write := 1, commit := 1 }).pqFree 0)) ∧
    (pqKind ((queued 2 { credits := 4 }).pqDesc 0) = 2 ∧ [zeros 128].length ≤ pqDepth ((queued 2 { credits := 4 }).pqDesc 0) ∧
      [zeros 128].length ≤ ((queued 2 { credits := 4 }).queue 0).credits ∧ ¬ [zeros 128].length ≤ ((queued 2 {}).queue 0).credits) ∧
    (((queued 1 { write := 2, opened := some 2 }).queue 0).opened = some 2 ∧ (queued 1 {}).queueOwner 0 = some 0) := by decide +kernel

theorem witness_QueueGapMarker :
    (queued 1 { pend := 3, pendWords := 9 }).live = true ∧ 0 < ((queued 1 { pend := 3, pendWords := 9 }).queue 0).pend ∧
    1 ≤ (queued 1 { pend := 3, pendWords := 9 }).pqFree 0 ∧ ((queued 1 { pend := 3, pendWords := 9 }).queue 0).opened = none ∧
    ((queued 1 { pend := 3, pendWords := 9 }).queue 0).offers = [] ∧ Sparse.rising (queued 1 { pend := 3, pendWords := 9 }).qstore = true := by
  decide +kernel

theorem witness_QueueHostOperations :
    [Transport.cp, .can].all (fun tr => [1, 2].all (fun k => hostReady tr (queued k { write := 2, commit := 2, read := 2 }) &&
      (queued k {}).get Key.RPL_STATE != 1 && (queued k {}).get (trKey tr Key.PQ_SELECT) == 0 && pqKind ((queued k {}).pqDesc 0) == k &&
      pqConsumer ((queued k {}).pqDesc 0) == 0 && ((queued k {}).queue 0).offers.isEmpty)) = true := by decide +kernel

/-- Queue 0 with one packet of one word committed: its tag's LEN is 1 (Table 9.7). -/
def packed : State := { queued 1 { write := 1, commit := 1 } with qstore := Mem.write [] 0 (le 8 (1 <<< 48) ++ zeros 120) }

theorem witness_QueuePacketRead :
    [Transport.cp, .can].all (fun tr => hostReady tr packed && packed.get (trKey tr Key.PQ_SELECT) == 0 && pqKind (packed.pqDesc 0) != 0 &&
      pqConsumer (packed.pqDesc 0) == 0 && (heard tr packed).pqHeadLen 0 == some 1) = true ∧ buffered packed := by
  unfold buffered; decide +kernel

/-! The host's commands. -/

/-- Both transports. -/
def trs : List Transport := [.cp, .can]

/-- A transport takes a request and nothing is recorded. -/
def hostOk (s : State) : Bool := trs.all (fun tr => hostReady tr s) && s.get Key.RPL_STATE != 1

theorem reset_buffered : buffered State.reset := ⟨rfl, rfl, rfl, rfl⟩
theorem reset_wf : Memory.wf State.reset = true := by decide +kernel
theorem reset_shaped : shaped State.reset := ⟨rfl, rfl, rfl⟩
theorem reset_pinned : pinned State.reset := ⟨rfl, rfl⟩

/-- For every counter-clear the least and the greatest value. -/
theorem witness_CountClears :
    hostOk State.reset = true ∧ countClears.length = 11 ∧ (0xFF : U64).toNat < 256 ∧ (0 : U64).toNat < 256 ∧
    cleared 0x6004 0x6007 0xFF 0x600701 ∧ cleared 0x6004 0x6007 7 0x600408 ∧ ¬ cleared 0x6029 0x602B 7 0x602901 := by
  refine ⟨by decide +kernel, rfl, by decide, by decide, ⟨3, 0, by decide, by decide, .inl rfl, rfl⟩, ⟨0, 7, by decide, by decide, .inr rfl, rfl⟩, ?_⟩
  rintro ⟨n, c, h, hc, hv, hk⟩
  unfold entryKey at hk
  omega

/-- A log with a ring and one without; a trace in each of its states. -/
theorem witness_LogAndTraceControl :
    hostOk State.reset = true ∧ State.reset.get Key.RPL_LEN = 0 ∧ State.reset.get Key.TRC_LEN = 0 ∧
    (∀ st, st < 4 → hostOk (withRegs State.reset [(Key.RPL_LEN, 4096), (Key.TRC_LEN, 4096), (Key.TRC_STATE, st)]) = true) := by decide +kernel

/-- Two empty classes and three whose buffers and rings lie apart and within reach of every context. -/
def inited : State :=
  let s := withRegs State.reset [(Key.POOL_COUNT 1, 4), (Key.POOL_BASE 1, 0x2000000), (Key.POOL_RING_ADDR 1, 0x1000), (Key.POOL_COUNT 3, 1),
    (Key.POOL_BASE 3, 0x10000000), (Key.POOL_RING_ADDR 3, 0x2000)]
  { s with env := { reach := (List.range 8).map (fun c => { ctx := c, port := 0, base := 0, len := 2 ^ 40 }) } }

theorem witness_PoolHostCommands :
    (hostOk inited = true ∧ shaped inited ∧ (∀ c, c < 8 → inited.tt c = 0) ∧ (∀ c, c < 5 → inited.poolCheck c = 0)) ∧
    ((∀ z, z ∈ [1, 1048576] → bits z 32 29 = 0 ∧ 0 < bits z 0 32 ∧ bits z 0 32 ≤ 1048576 ∧ bits z 61 3 = 0) ∧
      pooledHost.get Key.POOL_STATE = 2 ∧ (pooledHost.pool 3).cache = 0x10000000 :: [] ∧ pooledHost.holdsPart 0 = true ∧
      pooledHost.underQuota 3 0 = true ∧ hostOk pooledHost = true) ∧
    (bits (7 <<< 61 ||| 1048577) 32 29 = 0 ∧ 1048576 < bits (7 <<< 61 ||| 1048577) 0 32 ∧ bits (7 <<< 61 ||| 1048577) 0 32 ≤ 16777216 ∧
      pooledHost.holdsPart 7 = false) := by
  unfold shaped; decide +kernel

/-- A layout descriptor of one row of 16 FP32 elements at `base`, writable (Table 10.1), owned by context 0. -/
def ld0 (base : Nat) : Nat := 1 ||| 1 <<< 136 ||| 1 <<< 143 ||| 16 <<< 168 ||| 1 <<< 288 ||| base <<< 448

/-- Two descriptors, a copy from the first to the second, a job from one to the other, and a request entry of a GET of 64 bytes. -/
def tabled : State :=
  let s := running0.domPut Dom.PRESS_DESC 0 (le 64 (ld0 0) ++ le 64 (ld0 4096))
  let s := s.domPut Dom.PRESS_COPY_TABLE 0 (le 16 (1 ||| 1 <<< 104))
  let s := s.domPut Dom.SFU_JOB_TABLE 0 (le 16 (1 ||| 1 <<< 91))
  let s := s.domPut Dom.SFU_BANK0 64 (le 8 (1 <<< 56))
  s.domPut Dom.FEP_REQ_TABLE 0 (le 64 (1 ||| 1 <<< 206 ||| 64 <<< 224 ||| 4096 <<< 384))

theorem witness_UnitStarts :
    hostOk tabled = true ∧ ldValid (tabled.copy 0) = true ∧ tabled.press.queue.length < 16 ∧ ldValid (tabled.job 0) = true ∧
    tabled.sfu.queue.length < 16 ∧ progEmpty (bankProg (tabled.sfuBank (tabled.get Key.SFU_PROG_ACTIVE)) (jbProg (tabled.job 0))) = false ∧
    ldValid (tabled.reqEntry 0) = true ∧ tabled.fep.starts.length < 16 ∧ tabled.holdsPart (rqCtx (tabled.reqEntry 0)) = true := by
  decide +kernel

/-- A scan of 64 bytes of context 0's Staging Store for a CRC32C (Table 14.3). -/
def scan0 : Bytes := le 32 (64 <<< 32)

theorem witness_InvalInjectScan :
    hostOk running0 = true ∧ scan0.length = 32 ∧
    trs.all (fun tr => decide ((heardBytes tr 0 scan0 running0).scanCheck (u scan0 0 32) = none)) = true ∧
    (bit (2 ^ 15) 15 = true ∧ bits (2 ^ 15) 6 9 = 0) ∧ (bit 63 15 = false) ∧ bits (2 ^ 15 + 64) 6 9 ≠ 0 := by decide +kernel

theorem witness_ShapeAndImageAddress :
    hostOk State.reset = true ∧ Memory.wf State.reset = true ∧
    (∀ a, a < 4 → 1 ≤ bits 0x4000000100010001 (16 * a) 16 ∧ bits 0x4000000100010001 (16 * a) 16 ≤ 16384) ∧
    (∀ c, c < 8 → State.reset.tt c = 0) := by decide +kernel

theorem witness_IdleSwapAndWarmRequest :
    (∀ b, b < 2 → hostOk (withRegs State.reset [(Key.PT_SHADOW_READY, 1), (Key.PT_ACTIVE, b), (Key.SFU_SHADOW_READY, 1), (Key.SFU_PROG_ACTIVE, b)]) = true) ∧
    (∀ c, c < 8 → (withRegs State.reset [(Key.PT_SHADOW_READY, 1), (Key.SFU_SHADOW_READY, 1)]).tt c = 0) := by decide +kernel

theorem witness_ContextControl :
    (hostOk State.reset = true ∧ State.reset.tt 7 = 0 ∧ (State.reset.ctx 7).unload = none) ∧
    (hostOk (withRegs (holding image0 2) [(Key.TB_STATE, 2), (Key.TT_FRAME_BASE 0, 2)]) = true ∧
      (withRegs (holding image0 2) [(Key.TB_STATE, 2), (Key.TT_FRAME_BASE 0, 2)]).tt 0 = 2 ∧
      ((withRegs (holding image0 2) [(Key.TB_STATE, 2), (Key.TT_FRAME_BASE 0, 2)]).ctx 0).unload = none ∧
      (withRegs (holding image0 2) [(Key.TB_STATE, 2), (Key.TT_FRAME_BASE 0, 2)]).startCode 0 = 0) ∧
    (hostOk running0 = true ∧ running0.tt 0 = 4) ∧ shaped running0 := by
  unfold shaped; decide +kernel

theorem witness_TimebaseStart :
    (∀ x, x ∈ [0x3E, 0x3F, 0, 47] → hostOk (withRegs State.reset [(Key.TB_PARENT, x)]) = true) ∧ State.reset.get Key.TB_STATE = 0 ∧
    (withRegs State.reset [(Key.TB_STATE, 2)]).get Key.TB_STATE ≠ 0 := by decide +kernel

theorem witness_BankWrites :
    hostOk State.reset = true ∧ buffered State.reset ∧ Memory.wf State.reset = true ∧ zeros 8 ≠ [] ∧ (zeros 8).length ≤ 4096 ∧
    (zeros 8).length % 8 = 0 ∧ 524280 % 8 = 0 ∧ State.reset.get Key.PT_ACTIVE = 1 - 1 ∧ 524280 + (zeros 8).length ≤ 524288 ∧
    State.reset.get Key.SFU_PROG_ACTIVE = 1 - 1 ∧ 16376 + (zeros 8).length ≤ 16384 ∧
    (withRegs State.reset [(Key.PT_ACTIVE, 1), (Key.SFU_PROG_ACTIVE, 1)]).get Key.PT_ACTIVE = 1 - 0 := by
  unfold buffered; decide +kernel

/-- Entries that each table takes, at the state in which the transaction runs. -/
theorem witness_TableWrites :
    hostOk (tabled.put (Key.TT_STATE 0) 2) = true ∧ buffered (tabled.put (Key.TT_STATE 0) 2) ∧ Memory.wf (tabled.put (Key.TT_STATE 0) 2) = true ∧
    (∀ tr, tr ∈ trs → ∀ (t : Bytes → Nat → State), t = (fun (d : Bytes) (o : Nat) => heardBytes tr o d (tabled.put (Key.TT_STATE 0) 2)) →
      (t (zeros 16) 8176).pqDescRefused 8176 (zeros 16) = false ∧
      ((t (le 64 (ld0 8192)) 128).pressDescWrite 128 (le 64 (ld0 8192))).2 = none ∧
      ((t (le 16 (1 ||| 1 <<< 104)) 16).copyTableWrite 16 (le 16 (1 ||| 1 <<< 104))).2 = none ∧
      ((t (le 16 (1 ||| 1 <<< 91)) 1008).jobTableWrite 1008 (le 16 (1 ||| 1 <<< 91))).2 = none ∧
      ((t (zeros 32) 131008).groupsWrite 131008 (zeros 32)).2 = none ∧
      ((t (le 32 (1 ||| 4096 <<< 64 ||| 4096 <<< 128)) 0).fepWindowsWrite 0 (le 32 (1 ||| 4096 <<< 64 ||| 4096 <<< 128))).2 = none ∧
      ((t (le 64 (1 ||| 1 <<< 206 ||| 64 <<< 224 ||| 4096 <<< 384)) 16320).fepTableWrite 16320
        (le 64 (1 ||| 1 <<< 206 ||| 64 <<< 224 ||| 4096 <<< 384))).2 = none) ∧
    (∀ i, i < 2 → routeOk (u (le 2 0x0FC0 ++ le 2 0x0FFF) (2 * i) 2) = true) ∧
    (heardBytes .cp 0 (le 16 (desc 1 0)) (tabled.put (Key.TT_STATE 0) 2)).pqDescRefused 0 (le 16 (desc 1 0)) = false := by
  unfold buffered
  refine ⟨by decide +kernel, by decide +kernel, by decide +kernel, ?_, by decide +kernel, by decide +kernel⟩
  rintro tr htr t rfl
  rcases List.mem_cons.mp htr with rfl | htr
  · decide +kernel
  · rcases List.mem_singleton.mp htr with rfl
    decide +kernel

/-- Entries of type U32 with read and write access, of read-only access, of write-only access, and DOMAIN entries. -/
theorem witness_DictionaryReads :
    hostOk State.reset = true ∧ buffered State.reset ∧
    (∃ e, State.reset.entry 0x2102 1 = some e ∧ e.isDomain = false ∧ e.acc ≠ 3) ∧
    (∃ e, State.reset.entry 0x7807 8 = some e ∧ e.isDomain = true) := by
  refine ⟨by decide +kernel, reset_buffered, ⟨_, rfl, by decide +kernel, by decide +kernel⟩, _, rfl, by decide +kernel⟩

theorem witness_DictionaryWrites :
    hostOk State.reset = true ∧
    (∀ tr, tr ∈ trs → ∀ p, p ∈ [(0x2102, 1, (0x81 : U64)), (0x1001, 6, 65535)] → ∃ e, State.reset.entry p.1 p.2.1 = some e ∧
      accessFault 2 e = none ∧
      (State.reset.opened tr p.2.2.toNat).oneCheck { tr := tr, op := 2, tid := 255, idx := p.1, sub := p.2.1, value := p.2.2.toNat } e = none ∧
      ((State.reset.opened tr p.2.2.toNat).writeScalar tr p.1 p.2.1 p.2.2.toNat).2 = none ∧
      ((State.reset.opened tr p.2.2.toNat).writeScalar tr p.1 p.2.1 p.2.2.toNat).1.get Key.RPL_STATE ≠ 1) ∧
    entryKey 0x2102 1 = Key.INT_EVENT_ROUTE ∧ entryKey 0x1001 6 = Key.COM_HEARTBEAT := by
  refine ⟨by decide +kernel, ?_, rfl, rfl⟩
  intro tr htr p hp
  fin_cases htr <;> fin_cases hp <;> exact ⟨_, rfl, by decide +kernel, by decide +kernel, by decide +kernel, by decide +kernel⟩

theorem witness_ReadOnlyWriteRefused :
    hostOk State.reset = true ∧ quiet State.reset = true ∧ ∃ e, State.reset.entry 0x4000 5 = some e ∧ e.acc = 1 :=
  ⟨by decide +kernel, by decide +kernel, _, rfl, by decide +kernel⟩

theorem witness_DictionaryTransfers :
    hostOk State.reset = true ∧ buffered State.reset ∧ Memory.wf State.reset = true ∧
    ∃ e, State.reset.entry 0x7807 8 = some e ∧ e.isDomain = true ∧ 8 + 32 ≤ e.len ∧ e.len < 2 ^ 20 ∧ e.acc ≠ 3 ∧
      entryKey 0x7807 8 ≠ Dom.PQ_READ ∧ entryKey 0x7807 8 = Dom.DRU_EXPECT 7 :=
  ⟨by decide +kernel, reset_buffered, reset_wf, _, rfl, by decide +kernel, by decide +kernel, by decide +kernel, by decide +kernel,
    by decide +kernel, rfl⟩

theorem witness_TransportCommands :
    hostReady .can State.reset = true ∧ buffered State.reset ∧ 4048 + (zeros 48).length ≤ 4096 ∧ State.reset.clocked = true ∧
    (∀ x, x ∈ [({ op := 1, value := some 5 } : Txn), { op := 3, code := 0x41, detail := 0xC1 }] → x.warm = false ∧ x.rate = none ∧
      ({ State.reset with cp := { busy := some x }, can := { busy := some x } } : State).live = true ∧
      ({ State.reset with cp := { busy := some x }, can := { busy := some x } } : State).cp.busy = some x ∧
      ({ State.reset with can := { busy := some x } } : State).field.waiting = []) ∧
    (∀ a, a ∈ [0x10, 0, 8, 0x18, 0x100, 0x1000, 0x2000, 0x20, 0xFFFF8] →
      ({ State.reset with env := { cpAddr := a } } : State).env.cpAddr = a) ∧
    quiet State.reset = true ∧ ([] : Bytes).length < 2 ∧ (le 2 0x0512).length = 2 ∧ u (le 2 0x0512) 0 1 = 0x12 ∧ u (le 2 0x0512) 1 1 = 5 := by
  unfold buffered; decide +kernel

theorem witness_LogAndCountClears : ∀ tr, tr ∈ trs → hostReady tr State.reset = true ∧ State.reset.get Key.RPL_STATE ≠ 1 := by decide +kernel

theorem witness_BankCheckStarts : ∀ tr, tr ∈ trs → hostReady tr State.reset = true ∧ State.reset.get Key.RPL_STATE ≠ 1 := by decide +kernel

/-! Checks, copies, jobs and scans. -/

theorem witness_BankChecksEnd :
    ({ State.reset with ptCheck := true, sfuCheck := true } : State).live = true ∧ State.reset.bankResult (1 - State.reset.get Key.PT_ACTIVE) < 2 ^ 64 ∧
    State.reset.bankResult 1 = 0 ∧ (State.reset.domPut Dom.PT_BANK1 0 (le 8 3)).bankResult 1 ≠ 0 := by decide +kernel

theorem witness_UnitWorkBegins :
    [({ tabled with press := { queue := [0] }, sfu := { queue := [0, 1] }, cvu := { queue := [scan0] } } : State)].all (fun s =>
      s.live && s.press.running.isNone && s.press.queue == [0] && s.sfu.running.isNone && s.sfu.queue == [0, 1] && s.cvu.running.isNone &&
      s.cvu.queue == [scan0]) = true := by decide +kernel

/-- A copy and a job between the descriptors, and the same with an empty destination. -/
def run0 (empty : Bool) : Run :=
  { idx := 0, desc := le 16 (1 ||| 1 <<< 104), src0 := le 64 (ld0 0), src1 := zeros 64,
    dst := le 64 (if empty then ld0 4096 - 16 <<< 168 else ld0 4096), prog := zeros 512 }

theorem witness_CopyAndJobComplete :
    tabled.live = true ∧ (∀ b, (run0 b).aborted = false ∧ cpNotify (unle (run0 b).desc) = false ∧ jbNotify (unle (run0 b).desc) = false ∧
      ldEmpty (unle (run0 b).dst) = b) ∧ cpNoop (unle (run0 false).src0) (unle (run0 false).dst) (unle (run0 false).desc) = false := by
  decide +kernel

theorem witness_ScanCompletes :
    [({ running0 with cvu := { running := some (scan0, false) } } : State)].all (fun s => s.live && Memory.wf s &&
      s.cvu.running == some (scan0, false)) = true ∧ scNotify (unle scan0) = false ∧ scPort (unle scan0) < 4 ∧ scCompare (unle scan0) = false ∧
    scCompare (unle (le 32 (1 <<< 22))) = true ∧ running0.fresh.scanResult (unle (le 32 (1 <<< 22))) = 0 ∧
    scExpect (unle (le 32 (1 <<< 22))) = 0 := by decide +kernel

/-! Tile windows and tile ports. -/

theorem witness_TileWindowsOpen :
    (∀ w, w < 3 → ∀ s, s ∈ [planning 0x01 (windowFields w 255 65535 2 15) running0] → s.live = true ∧ quiet s = true ∧
      s.mayIssue 0 0x01 (windowFields w 255 65535 2 15) = true ∧ s.tileUp 15 = true ∧ (s.tileTxNow 15).flits < 8) ∧
    ({ running0 with tpUp := [] } : State).tileUp 0 = false := by decide +kernel

/-- A window of context 0's step 7, tile port 3. -/
def win0 (work stage : Nat) : Win :=
  { ctx := 0, step := 7, attempt := 0, layer := 0, tile := 9, index := 2, port := 3, work := work, stamp := 0, opened := 0, stage := stage }

theorem witness_WindowBegins :
    (∀ p, p ∈ [(13, win0 1 0), (7, win0 2 0), (13, win0 0 1)] → ∀ s, s ∈ [({ running0 with wins := [p.2] } : State)] →
      s.live = true ∧ quiet s = true ∧ (∀ x, x ∈ s.wins → x.ctx < 8) ∧
      s.nextWin p.1 = some p.2 ∧ s.occupied p.1 = false ∧ p.2.begun = false ∧ firstUnit p.2.work = p.1) := by decide +kernel

/-- A chunk header of context 0's step 7 and tile 9 with its CRC filled in (Table 5.3). -/
def sealed (h seq dst queue : Nat) (bs : Bytes) : BitVec 512 :=
  let h := h ||| 7 ||| seq <<< 64 ||| bs.length <<< 144 ||| 9 <<< 224
  BitVec.ofNat 512 (h ||| chunkCrc seq dst queue h bs <<< 448)

/-- A layer of model dimension 1, all its formats FP32. -/
def layer1 : Bytes := zeros 40 ++ le 2 1 ++ zeros 214

/-- Context 0 runs an image of that layer. -/
def running1 : State := holding { image0 with layers := [layer1] } 4

/-- The identity segment of a window just opened, and the first hidden-row segment of one with position 0 present. -/
def ident : Bytes := le 32 1 ++ zeros 1024
def row0 : Bytes := zeros (hidLen layer1)

theorem witness_TilePortEvents_status :
    4 < running1.tpUp.length ∧ running1.live = true ∧ running1.tileUp 3 = true ∧ running1.helds = [] ∧
    u (List.replicate 256 1) 252 4 ≠ crc32c (sub (List.replicate 256 1) 0 252) := by decide +kernel

set_option maxRecDepth 100000 in
theorem witness_TilePortEvents_segments :
    (∀ p, p ∈ [(win0 0 0, sealed (1 <<< 440) 0 5 0 ident, ident), ({ win0 0 1 with present := 1, begun := true }, sealed (2 <<< 440) 0 5 0 row0, row0)] →
      ∀ s, s ∈ [({ running1 with wins := [p.1] } : State)] →
      quiet s = true ∧ p.2.2.length = chLen p.2.1.toNat ∧ chSeq p.2.1.toNat = s.nextSeq (chCtx p.2.1.toNat) (chStep p.2.1.toNat) 3 false ∧
      chCrc p.2.1.toNat = chunkCrc (chSeq p.2.1.toNat) s.node 0 p.2.1.toNat p.2.2 ∧
      s.wins.find? (s.segmentFits 3 p.2.1.toNat) = some p.1) ∧
    segKind (sealed (1 <<< 440) 0 5 0 ident).toNat = 1 ∧ segKind (sealed (2 <<< 440) 0 5 0 row0).toNat = 2 := by decide +kernel

/-- A return stream of one place, sent to tile port 3. -/
def ret0 : Ret := { ctx := 0, step := 7, layer := 0, tile := 9, kind := 1, src := 6, count := 1, seq := 4, sent := [(0, 3, {})] }

/-- The record it awaits: place 0, tile 9, from node 6. -/
def back0 : Bytes := le 32 (9 <<< 96 ||| 6 <<< 32) ++ zeros (running1.retLen ret0 - 32)
def backHdr : BitVec 512 := sealed (running1.answerSig ret0 <<< 384 ||| 5 <<< 96 ||| 5 <<< 112) 0 5 0 back0

theorem witness_TilePortEvents_records :
    [({ running1 with rets := [ret0] } : State)].all (fun s => quiet s && back0.length == chLen backHdr.toNat && s.retLen ret0 == chLen backHdr.toNat &&
      decide (0 < back0.length) && s.partials.isEmpty && chFirst backHdr.toNat == 0 && Sparse.rising s.stg &&
      chSeq backHdr.toNat == s.nextSeq (chCtx backHdr.toNat) (chStep backHdr.toNat) 3 false &&
      chCrc backHdr.toNat == chunkCrc (chSeq backHdr.toNat) s.node 0 backHdr.toNat back0 && s.rets == [ret0] && ret0.awaits 3 &&
      chCtx backHdr.toNat == 0 && chStep backHdr.toNat == 7 && chLayer backHdr.toNat == 0 && chTile backHdr.toNat == 9 &&
      s.answerSig ret0 == chSig backHdr.toNat && chPlan backHdr.toNat == s.planId 0 && chDst backHdr.toNat == s.node &&
      chSrc backHdr.toNat == s.node && (hdrOf back0).layer == 0 && (hdrOf back0).tile == 9 && (hdrOf back0).src == 6 &&
      (hdrOf back0).fmt == s.retFmt ret0 && decide ((hdrOf back0).place < 1) && (ret0.at_ (hdrOf back0).place).isNone) = true := by decide +kernel

/-! The forward path of a tile. -/

theorem witness_TileWorked :
    (∀ p, p ∈ [(1, 2), (5, 3), (7, 4)] → ∀ w, w ∈ [{ win0 0 p.2 with begun := true }] →
      ∀ s, s ∈ [({ running1 with wins := [w] } : State)] →
      s.live = true ∧ quiet s = true ∧ s.win? 0 0 9 0 = some w ∧ s.nextWin p.1 = some w ∧ s.occupied 7 = false ∧
      Sparse.rising s.env.mem = true) ∧
    (∀ s, s ∈ [({ running1 with wins := [{ win0 2 0 with begun := true }, win0 1 5] } : State)] →
      s.win? 0 0 9 2 = some { win0 2 0 with begun := true } ∧ s.reingested 0 7 0 9 = some (win0 1 5)) := by decide +kernel

/-! The token exchange. -/

/-- A SEND of 64 bytes of a dispatch piece on link port 0, or on tile port 0. -/
def xfer0 (port : Nat) : Xfer :=
  { port := port, source := 0, layer := 0, tile := 9, piece := 0, dst := 6, seq := 0, queue := 0, len := 64, src := 5, sig := 0 }

/-- The port's pin up, and the piece ready in the Staging Store. -/
def sending : State :=
  { running1 with
    ports := { up := true } :: List.replicate 47 {}, stg := Mem.write [] 0 (zeros 128),
    pieces := [{ key := { ctx := 0, step := 7, layer := 0, tile := 9, kind := 0, src := 5, dst := 6, idx := 0 }, len := 64, buf := some 0,
                 ready := true },
               { key := { ctx := 0, step := 7, layer := 0, tile := 9, kind := 0, src := 6, dst := 5, idx := 0 }, len := 64, buf := some 64,
                 ready := true }] }

theorem witness_ChunkSent :
    (∀ p, p ∈ [0, 48] → ∀ s, s ∈ [planning 0x02 (xferFields (xfer0 p)) sending] → s.live = true ∧ quiet s = true ∧
      s.mayIssue 0 0x02 (xferFields (xfer0 p)) = true ∧ s.lates = [] ∧ sendsClean (xfer0 p).port s ∧
      (atSend 0 (xfer0 p) s).sendNothing 0 (s.step 0) (xfer0 p) = false ∧
      ((atSend 0 (xfer0 p) s).sendReady 0 (s.step 0) (xfer0 p)).map Ready.short = some false) ∧
    (∀ s, s ∈ [planning 0x02 (xferFields (xfer0 0)) running1] → s.mayIssue 0 0x02 (xferFields (xfer0 0)) = true ∧
      (atSend 0 (xfer0 0) s).sendNothing 0 (s.step 0) (xfer0 0) = false ∧
      (atSend 0 (xfer0 0) s).sendReady 0 (s.step 0) (xfer0 0) = none) := by
  unfold sendsClean; decide +kernel

theorem witness_PlacesSent :
    (∀ s, s ∈ [planning 0x03 (tileFields 15 0 9 6 0 1 0 65535) sending] → s.live = true ∧ quiet s = true ∧
      s.mayIssue 0 0x03 (tileFields 15 0 9 6 0 1 0 65535) = true ∧ sendsClean (48 + 15) s ∧ s.node < 2 ^ 14) ∧
    (∀ x, x ∈ sending.series → x.next < 2 ^ 31) ∧
    sending.fresh.tileSendReady { ctx := 0, step := sending.step 0, port := 15, layer := 0, tile := 9, src := 6, first := 0, count := 1, dir := 0,
                                  seq := 65535 } = true := by
  unfold sendsClean; decide +kernel

/-- A copy held on port `p` since slot 0. -/
def held0 (p : Nat) (again : Bool) : Held :=
  { ctx := 0, step := 7, x := xfer0 p, bytes := zeros 64, slot := 0, stamp := 0, again := again }

/-- Its port up, four slots on. -/
def holds (p : Nat) (again : Bool) : State :=
  { sending with
    helds := [held0 p again], time := { tb := 16 * 9 * 4 },
    ports := { up := true, heard := some 4 } :: List.replicate 47 {} }

/-- A trailer with its CRC filled in (Table 5.6). -/
def trailer (w : Nat) : BitVec 512 := BitVec.ofNat 512 (w ||| crc32c (le 56 w) <<< 448)

theorem witness_CopiesReleased :
    (∀ p, p ∈ [0, 48] → (holds p true).live = true ∧ quiet (holds p true) = true ∧ sendsClean p (holds p true) ∧
      (holds p true).fresh.nextAgain p = some (.again (held0 p true)) ∧ (holds p true).fresh.nextLateTile p = none) ∧
    (∀ p, p ∈ [0, 48] → ∃ h, h ∈ (holds p false).helds ∧ h.x.port = p ∧ h.x.seq = 0 ∧ h.x.src = 5 ∧ h.x.dst = 6 ∧ h.again = false ∧
        h.slot + 2 * (holds p false).flight h.ctx p + 3 < (holds p false).fslot) := by
  unfold sendsClean; decide +kernel

theorem witness_CopiesReleased_trailer :
    ((holds 0 false).port 0).up = true ∧ ((holds 0 false).port 0).heard = some (holds 0 false).fslot ∧
    u (le 64 (1 : BitVec 512).toNat) 56 8 ≠ crc32c ((le 64 (1 : BitVec 512).toNat).take 56) ∧
    [(0, trailer (1 <<< 18)), (1, trailer (1 <<< 18 ||| 1 <<< 16))].all (fun x =>
      u (le 64 x.2.toNat) 56 8 == crc32c ((le 64 x.2.toNat).take 56) && bit x.2.toNat 18 &&
      (List.range 7).all (fun i => i == 0 || !(bit x.2.toNat (64 * i + 18))) &&
      (holds 0 false).heldFor 0 (u (le 64 x.2.toNat) 0 8) == some (held0 0 false) && bits x.2.toNat 16 2 == x.1) = true := by
  decide +kernel

/-- The receiving end: node 6's chunk for this engine in the slot of stamp 9. -/
def recv0 : Xfer := { xfer0 0 with dst := 5, src := 6, piece := 1 }
def expect0 : Expect := { ctx := 0, step := 7, x := recv0, relay := false, stamp := 0 }
def recvHdr : BitVec 512 := sealed (1 <<< 208 ||| 5 <<< 96 ||| 6 <<< 112) 0 5 0 (zeros 64)
def receiving : State :=
  { sending with expects := [expect0], pieces := { key := expect0.key, len := 64, buf := some 4096 } :: sending.pieces }

/-- The receive planned for tick 9, in the state at tick `n` of its frame. -/
def receivingAt (n : Nat) : State :=
  { planning 0x04 (xferFields recv0) { sending with time := { tb := 16 * 9 } } with time := { tb := BitVec.ofNat 64 (16 * n) } }

/-- A chunk in hand whose buffer the pool can grant. -/
def inHand0 : InHand := { port := 0, slot := 0, hdr := recvHdr.toNat, bytes := zeros 64 }
def waiting : State :=
  { pooled with
    expects := [{ expect0 with inHand := some inHand0 }], pieces := [{ key := expect0.key, len := 64 }],
    pools := [{}, { cache := [0x11000], wait := [{ ctx := 0, key := expect0.key }] }, {}, {}, {}] }

theorem witness_ChunkReceived :
    (sending.live = true ∧ quiet sending = true ∧ (receivingAt 9).mayIssue 0 0x04 (xferFields recv0) = true ∧
      (receivingAt 0).mayIssue 0 0x04 (xferFields recv0) = false ∧ (receivingAt 0).runs 0 = true ∧
      (receivingAt 0).time.slipping = false ∧ (receivingAt 0).time.slipDue = false ∧ (receivingAt 0).receiveAt 0 recv0 = some (7, 9) ∧
      (receivingAt 0).expects = []) ∧
    ((receiving.port 0).up = true ∧ Sparse.rising receiving.stg = true ∧ receiving.expectFor 0 recvHdr.toNat = some expect0 ∧
      chPad recvHdr.toNat = false ∧ (zeros 64).length = chLen recvHdr.toNat ∧
      chCrc recvHdr.toNat = chunkCrc 0 5 0 recvHdr.toNat (zeros 64) ∧ chSig recvHdr.toNat = recv0.sig ∧
      receiving.fieldsAgree expect0 recvHdr.toNat = true ∧ (∀ k, k ∈ receiving.combs → k.closed = false) ∧
      (receiving.piece expect0.key).map Piece.buf = some (some 4096) ∧
      (({ receiving with pieces := [{ key := expect0.key, len := 64 }] } : State).piece expect0.key).map Piece.buf = some none) ∧
    (shaped waiting ∧ Sparse.rising waiting.stg = true ∧ waiting.get Key.POOL_STATE = 2 ∧
      waiting.nextGrant 1 = some { ctx := 0, key := expect0.key } ∧ (waiting.pool 1).cache = 0x11000 :: [] ∧ waiting.combs = [] ∧
      (waiting.piece expect0.key).map Piece.buf = some none ∧ expect0.x.len ≠ 0) ∧ expect0.inSlot = false := by
  unfold shaped; decide +kernel

/-! Combines and the backward pass. -/

/-- A combine of tile 9, its close point past. -/
def comb0 (work : Nat) : Comb := { ctx := 0, step := 7, attempt := 0, layer := 0, tile := 9, index := 0, work := work, closeAt := 0 }

/-- Context 0's image plans the SEND of that tile's chunk in the slot that begins next (Tables 7.6 and 7.9). -/
def sendDue : State :=
  let i : Image := { image0 with layers := [layer1], index := [{ frame := 0, len := 352, off := 0, crc := 0 }] }
  let s := holding i 4
  { s with
    env := { s.env with mem := Mem.write [] i.addr (zeros 320 ++ le 32 (s.cmdWord 0x02 (xferFields (xfer0 0)))) },
    time := { tb := 16 * 8 } }

theorem witness_ChunkReceived_late :
    (∀ k, k ∈ [0, 1, 2, 5] → ∀ s, s ∈ [({ running1 with combs := [comb0 (k % 5)] } : State)] → s.runs 0 = true ∧
      s.fresh.readyAt 0 k 0 9 = some 0 ∧ 0 ≤ s.planTick + 1 ∧ s.outDone 0 (s.step 0) k 0 9 = false ∧ s.lateOuts = []) ∧
    (∀ k, k ∈ [3, 4] → ∀ s, s ∈ [sendDue] →
      s.fresh.readyAt 0 k 0 9 = some 9 ∧ 9 ≤ s.planTick + 1 ∧ s.outDone 0 (s.step 0) k 0 9 = false) := by
  decide +kernel

/-- A layer of model dimension 1 whose log, output save and logit save lie apart. -/
def layer2 : Bytes := zeros 40 ++ le 2 1 ++ zeros 14 ++ le 8 0x10000 ++ zeros 64 ++ le 8 0x30000 ++ le 8 0x20000 ++ zeros 112

/-- The head of a tile's log and saves, and each of them without entries. -/
def tileHead : Bytes := le 8 7 ++ le 2 0 ++ le 2 9 ++ zeros 48
def saved (n : Nat) : Bytes := tileHead ++ le 4 (crc32c (tileHead ++ zeros n)) ++ zeros n

/-- Context 0 runs an image of that layer, the tile's log and saves in host memory. -/
def running2 : State :=
  let s := holding { image0 with layers := [layer2] } 4
  { s with env := { s.env with mem := Mem.write (Mem.write (Mem.write [] 0x10000 (saved 1024)) 0x20000 (saved 0)) 0x30000 (saved 512) } }

/-- Its combine, the forward window behind it. -/
def loading (work : Nat) : State := { running2 with combs := [comb0 work], wins := [win0 0 5] }

theorem witness_CombinePhases_open :
    ∀ w, w < 3 → ∀ s, s ∈ [planning 0x05 (combFields w 0 9 0 65535 255) running2] → s.live = true ∧ quiet s = true ∧
      s.mayIssue 0 0x05 (combFields w 0 9 0 65535 255) = true ∧ s.losts = [] := by
  decide +kernel

set_option maxRecDepth 100000 in
theorem witness_CombinePhases_log :
    (∀ w, w < 3 → (loading w).combOf 0 7 0 9 w = some (comb0 w) ∧
      (loading w).comb? 0 0 9 w (fun k => k.log.isNone && !k.closed) = some (comb0 w) ∧
      (∃ x, x ∈ (loading w).wins ∧ x.ctx = 0 ∧ x.step = 7 ∧ x.layer = 0 ∧ x.tile = 9 ∧ x.work = 0 ∧ x.stage = 5)) ∧
    logOk (running2.fresh.readLog (running2.layer 0 0) 0) = true := by decide +kernel

/-- The combine with its log in and one entry waiting, its record here from node 6. -/
def ent0 (state : Nat) : CEnt := { pos := 0, rank := 0, entry := 0, node := 6, place := 0, state := state }
def record (kind : Nat) : Bytes := le 32 (5 <<< 32 ||| kind <<< 84 ||| 9 <<< 96 ||| 7 <<< 160) ++ zeros 32
def logged (work state : Nat) : Comb := { comb0 work with log := some [], ents := [ent0 state] }
def combining (work state : Nat) : State :=
  { running2 with
    combs := [logged work state], stg := Mem.write [] 0 (record (if work = 1 then 3 else 1)),
    pieces := [{ key := { ctx := 0, step := 7, layer := 0, tile := 9, kind := combCode work, src := 6, dst := 5, idx := 0 }, len := 64,
                 buf := some 0, ready := true, rx := true }] }

theorem witness_CombinePhases_record :
    (∀ w, w < 3 → (combining w 0).combOf 0 7 0 9 w = some (logged w 0) ∧
      (combining w 0).comb? 0 0 9 w (fun k => k.log.isSome && !k.closed) = some (logged w 0) ∧ (logged w 0).ents[0]? = some (ent0 0) ∧
      ((combining w 0).fresh.returned (logged w 0) (ent0 0)).any (fun r => (combining w 0).fresh.mayCombine (logged w 0) (ent0 0) r.2 &&
        !(hdrOf r.1).gap && (combining w 0).headerAgrees (logged w 0) (ent0 0) 0 (hdrOf r.1)) = true ∧
      (combining w 0).openLines + lyD ((combining w 0).layer 0 0) / 128 ≤ 4096) := by decide +kernel

theorem witness_CombinePhases_close :
    (∀ w, w < 3 → ∀ st, st < 2 → (combining w st).combOf 0 7 0 9 w = some (logged w st) ∧
      (combining w st).comb? 0 0 9 w (fun k => !k.closed && !k.late && decide (k.closeAt ≤ (combining w st).planTick + 1)) = some (logged w st) ∧
      (combining w st).fresh.ownRet (logged w st) = none ∧ (logged w st).complete = (st == 1)) ∧
    Sparse.rising (combining 0 0).env.mem = true ∧ lyBackward ((combining 0 0).layer 0 0) = false := by decide +kernel

/-- The tile's backward work so far. -/
def grad0 (b4 b5 : Bool) : Grad := { ctx := 0, step := 7, layer := 0, tile := 9, index := 0, b4 := b4, b5 := b5 }
def grading (work : Nat) (b4 b5 : Bool) : State :=
  planning 0x06 (gradFields work 0 9 0) { running2 with grads := [grad0 b4 b5], wins := [win0 0 5, win0 1 5] }

set_option maxRecDepth 100000 in
theorem witness_GradientPhases_b2 :
    (∀ s, s ∈ [planning 0x06 (gradFields 0 0 9 0) running2] → s.live = true ∧ quiet s = true ∧ s.gradStep 0 (gradFields 0 0 9 0) = 7 ∧
      s.gradDue 0 7 (gradFields 0 0 9 0) = true) ∧
    running2.grad 0 (running2.step 0) 0 9 = none ∧ running2.combOf 0 (running2.step 0) 0 9 0 = none ∧ bwRefetch (running2.layer 0 0) = false ∧
    b2Check (running2.fresh.b2Tiles (running2.layer 0 0) 0) (running2.layer 0 0) 0 (running2.step 0) 0 9 0 = none := by decide +kernel

theorem witness_GradientPhases :
    (∀ p, p ∈ [(1, false, false), (2, true, false), (3, true, true)] → ∀ s, s ∈ [grading p.1 p.2.1 p.2.2] →
      s.live = true ∧ quiet s = true ∧ s.gradStep 0 (gradFields p.1 0 9 0) = 7 ∧ s.gradDue 0 7 (gradFields p.1 0 9 0) = true ∧
      s.grad 0 7 0 9 = some (grad0 p.2.1 p.2.2) ∧ s.reingested 0 7 0 9 = some (win0 1 5) ∧ s.forwardTiles 0 7 0 = [9]) ∧
    F32.isZero (bwAlpha (running2.layer 0 0)) = true ∧ bwRouter (running2.layer 0 0) = false ∧ bwHost (running2.layer 0 0) = false ∧
    ((grading 3 true true).layerGradOr 0 7 0).reduced = false := by decide +kernel

/-- The layer's delivery: its residency check as it stands, and its Sum-Alls. -/
def lg0 (deadline : Nat) : LayerGrad := { ctx := 0, step := 7, layer := 0, check := some (0, deadline), reduced := true }
def sums : List Coll := [1, 2].map (fun k =>
  { ctx := 0, step := 7, group := 1, seq := k, srcDesc := 0, dstDesc := 0, fmt := 0, cap := 16, queue := 0, signal := false, kind := k, layer := 0,
    stamp := 0, done := true })
def delivering (deadline : Nat) : State :=
  { running2.put Key.TB_PLAN_FRAME 1 with layerGrads := [lg0 deadline], time := { tb := 36864 }, cle := { ops := sums } }

theorem witness_DeliveryPhases :
    (∀ s, s ∈ [planning 0x06 (gradFields 4 0 0 0) running2] → s.live = true ∧ quiet s = true ∧ s.fep.run = [] ∧ s.fep.starts = [] ∧
      s.mayIssue 0 0x06 (gradFields 4 0 0 0) = true ∧ (s.layerGradOr 0 (s.step 0) 0).check = none) ∧
    (∀ d, d ∈ [0, 100] → (delivering d).live = true ∧ quiet (delivering d) = true ∧ lg0 d ∈ (delivering d).layerGrads ∧
      (∀ x, x ∈ (delivering d).layerGrads → x.ctx = 0 → x.layer = 0 → x = lg0 d) ∧ (lg0 d).waiting = true ∧ (lg0 d).check = some (0, d) ∧
      (delivering d).expired 0 d = (d == 0) ∧ (delivering d).resOver (lg0 d) = (d == 0) ∧ (lg0 d).readAt < (delivering d).frame ∧ 0 % 2304 / 9 = (delivering d).slot) ∧
    ((lg0 0).formed = false ∧ (∀ p, p ∈ (delivering 0).cle.slots → False) ∧
      ((delivering 0).cle.ops.find? (fun (o : Coll) => o.ctx == 0 && o.step == 7 && o.layer == 0 && o.kind == 1)).map Coll.done = some true ∧
      (∃ o, o ∈ (delivering 0).cle.ops ∧ o.ctx = 0 ∧ o.step = 7 ∧ o.layer = 0 ∧ o.kind = 2 ∧ o.done = true) ∧
      (delivering 0).cle.slots.length + ceilDiv ((delivering 0).delivStream (lg0 0)).length 4096 ≤ 256 ∧
      Memory.wf (delivering 0) = true) := by decide +kernel

/-! Collectives. -/

/-- An operation of 16 FP32 elements in the group of this engine alone, and its up value of the only piece. -/
def op0 : Coll :=
  { ctx := 0, step := 7, group := 1, seq := 0, srcDesc := 0, dstDesc := 0, fmt := 0, cap := 16, queue := 0, signal := false, kind := 0, layer := 0,
    stamp := 0 }
def slot0 : PieceSlot :=
  { chan := 0, slot := 0, ctx := 0, step := 7, group := 1, seq := 0, piece := 0, parts := [{ kind := 1, node := 5, len := 64 }] }
def collecting (o : Coll) (slots : List PieceSlot) : State :=
  { running0.put Key.TB_PLAN_FRAME 65 with cle := { ops := [o], slots := slots }, stg := Mem.write [] (running0.slotAddr slot0) (zeros 64) }

theorem witness_CollectivePhases :
    (∀ b, ∀ s, s ∈ [planning 0x07 (collFields 4094 65535 0 0 0 16 0 b 0 0) running0] → s.live = true ∧ quiet s = true ∧
      s.mayIssue 0 0x07 (collFields 4094 65535 0 0 0 16 0 b 0 0) = true ∧ s.coll 0 (s.step 0) 4094 65535 = none) ∧
    ((collecting op0 []).live = true ∧ quiet (collecting op0 []) = true ∧
      (collecting op0 []).collFor 0 1 0 (fun o => !o.begun) = some op0 ∧ (collecting op0 []).collTurn op0 = true) ∧
    (∀ o, o ∈ [{ op0 with begun := true }] → ∀ s, s ∈ [collecting o []] →
      s.collFor 0 1 0 (fun o => o.begun && !(o.upped.contains 0)) = some o ∧ 0 < o.pieces ∧ s.collSource o = true ∧ s.collLeft o 0 = none ∧
      s.collRight o 0 = none ∧ s.cle.slots.length < 256 ∧ Memory.wf s = true) ∧
    (∀ o, o ∈ [{ op0 with begun := true, upped := [0] }] → ∀ s, s ∈ [collecting o [slot0]] →
      s.collFor 0 1 0 (fun o => o.begun && !o.done && !(o.written.contains 0)) = some o ∧ o.signal = false ∧ o.kind = 0 ∧
      s.pieceSlot 0 7 1 0 0 false = some slot0 ∧ s.collParent o 0 = none ∧ s.slotPart slot0 1 s.node = some (zeros 64) ∧
      o.written.length + 1 = o.pieces) ∧
    ((collecting op0 []).collFor 0 1 0 (fun o => !o.done && (collecting op0 []).expired o.stamp ((collecting op0 []).collTimeout 0)) = some op0) := by
  decide +kernel

/-! Digests and the checker. -/

/-- The notes of step 7: layer 0 has its weight fold, and tile 9 may be closed. -/
def audit0 (tiles : List (Nat × Nat × Nat × Bytes)) : Audit :=
  { ctx := 0, step := 7, attempt := 0, folds := [(0, 1)], tiles := tiles, closable := [(0, 1, 9)] }
def auditing (mode : Nat) (a : Audit) : State :=
  let s := holding { image0 with hdr := zeros 7 ++ le 1 (2 * mode) ++ image0.hdr.drop 8, layers := [layer1] } 4
  { s.put (Key.DRU_RING_LEN 0) 4096 with audits := [a], combs := [{ comb0 1 with log := some [], closed := true }] }

theorem witness_DigestsClose_tile :
    (∀ m, m < 2 → ∀ s, s ∈ [auditing m (audit0 [])] → s.live = true ∧ quiet s = true ∧ s.notes 0 7 = some (audit0 []) ∧ s.audit 0 = m ∧
      s.audits.find? (fun (x : Audit) => x.ctx == 0 && x.closable.contains (0, 1, 9) &&
        !(x.tiles.any (fun (y : Nat × Nat × Nat × Bytes) => y.1 == 0 && y.2.1 == 1 && y.2.2.1 == 9)) &&
        x.folds.any (fun (f : Nat × Nat) => f.1 == 0)) = some (audit0 []) ∧
      (s.combOf 0 7 0 9 1).bind s.combCrcs = some [] ∧
      s.get (Key.DRU_RING_LEN 0) ≠ 0 ∧
      (s.get (Key.DRU_RING_HEAD 0) + 64) % s.get (Key.DRU_RING_LEN 0) ≠ s.get (Key.DRU_RING_TAIL 0)) := by decide +kernel

theorem witness_DigestsClose_step :
    (∀ s, s ∈ [auditing 0 (audit0 [])] → Memory.wf s = true ∧ s.fresh.delivFolds (audit0 []) (s.fresh.planNow 0) = some [] ∧
      (audit0 []).closed = false ∧ digestTiles (s.fresh.planNow 0) = [] ∧ s.layers 0 ≤ (audit0 []).folds.length ∧ s.holdsPart 0 = true ∧
      s.dru.waiting = []) := by decide +kernel

/-- A post of replica `i` of two with a digest (Table 8.6). -/
def post0 (digest : Nat) : Bytes := le 8 7 ++ le 1 0 ++ le 1 3 ++ le 1 0 ++ le 1 1 ++ zeros 20 ++ le 32 digest
def set0 : PostSet := { ctx := 0, check := 3, step := 7, first := 0 }
def checking (posts : List (Nat × Bytes)) : State :=
  { running0.put Key.TB_PLAN_FRAME 65 with dru := { sets := [set0], posts := posts } }

theorem witness_PostsChecked :
    (∀ s, s ∈ [planning 0x08 (postFields 6 3 15 1) running0] → s.live = true ∧ quiet s = true ∧
      s.mayIssue 0 0x08 (postFields 6 3 15 1) = true ∧ s.fep.run = [] ∧ s.fep.starts = [] ∧ s.step 0 = s.get (Key.TT_FIRST_STEP 0)) ∧
    (∀ st, st ∈ [0, 7] → ∀ s, s ∈ [({ withRegs running0 [(Key.TT_FIRST_STEP 0, 6), (Key.TT_STEP 0, st)] with
      audits := [{ ctx := 0, step := (st + 2 ^ 48 - 1) % 2 ^ 48, attempt := 0, closed := true }] } : State)] →
      s.step 0 ≠ s.get (Key.TT_FIRST_STEP 0) ∧ (s.closedNotes 0 ((s.step 0 + 2 ^ 48 - 1) % 2 ^ 48)).isSome = true) ∧
    (∀ d, d < 2 → ∀ s, s ∈ [checking [(48, post0 0), (49, post0 d)]] →
      s.dru.sets.find? (fun (x : PostSet) => x.ctx == 0 && x.check == 3 && x.step == 7 && !x.done) = some set0 ∧ s.postsWhole set0 = true ∧
      (∀ d, d ∈ s.differing set0 → d.2 = false) ∧ (s.differing set0).length = d) ∧
    ((checking [(48, post0 0)]).postsWhole set0 = false ∧ (checking [(48, post0 0)]).expired set0.first 64 = true) := by decide +kernel

/-! Swaps, slips and plan switches. -/

/-- A notice that has become a target. -/
def due (kind arg : Nat) : List (Nat × Notice) := [(0, { kind := kind, target := 0, arg := arg })]

/-- An image with a degraded plan. -/
def imageP : Image := { image0 with plans := [{ flid := 9, repl := [] }] }

theorem witness_SwapsSlipsAndPlans :
    (∀ r, r < 2 → ∀ s, s ∈ [planning 0x0A (1 <<< 231 ||| 1 <<< 230) (withRegs running0 [(Key.PT_SHADOW_READY, r), (Key.SFU_SHADOW_READY, r), (Key.PT_ACTIVE, r), (Key.SFU_PROG_ACTIVE, r)])] →
      s.live = true ∧ quiet s = true ∧ s.ctxs.length = 8 ∧ (s.swapMark 0 0).map (·.1) = some 0 ∧ (s.swapMark 0 1).map (·.1) = some 1 ∧
      s.swaps.find? (fun (w : Nat × Nat × Bool) => w.1 == 0 && w.2.1 == s.frame) = none ∧
      s.swaps.find? (fun (w : Nat × Nat × Bool) => w.1 == 1 && w.2.1 == s.frame) = none ∧ s.get Key.PT_SHADOW_READY = r) ∧
    (∀ s, s ∈ [({ planning 0x0A (1 <<< 231) running0 with swaps := [(0, 0, true)] } : State)] → (s.swapMark 0 0).isSome = true ∧
      (0, s.frame, true) = (s.swaps.find? (fun (w : Nat × Nat × Bool) => w.1 == 0 && w.2.1 == s.frame)).getD (1, 0, false)) ∧
    (∀ s, s ∈ [({ running0 with time := { slipDue := true }, targets := due 1 0 } : State)] →
      s.time.slipDue = true ∧ s.dueSlip s.time.frame = some (0, { kind := 1, target := 0, arg := 0 })) ∧
    (∀ s, s ∈ [({ holding imageP 4 with targets := due 2 9 } : State)] → s.time.slipping = false ∧ s.time.slipDue = false ∧
      s.targets.find? (fun t => t.2.kind == 2 && t.2.arg == 9 && decide (t.1 ≤ s.time.frame)) = some (0, { kind := 2, target := 0, arg := 9 }) ∧
      s.runs 0 = true ∧ imageP.plan 9 = some { flid := 9, repl := [] } ∧ (s.ctx 0).plans = []) ∧
    shaped running0 ∧ (({ holding imageP 4 with targets := due 2 9 } : State).ctx 0).image = some imageP := by
  unfold shaped
  refine ⟨?_, ?_, ?_, ?_, ?_, rfl⟩ <;> decide +kernel

/-! Steps and loads. -/

/-- A context with a replay to begin. -/
def replaying : State :=
  { running0 with ctxs := { image := some image0, replay := some (7, 1, 0) } :: List.replicate 7 {} }

theorem witness_StepBoundaries :
    (∀ s, s ∈ [holding image0 3] → s.live = true ∧ quiet s = true ∧ s.time.slipping = false ∧ s.time.slipDue = false ∧ s.tt 0 = 3 ∧
      s.get (Key.TT_FRAME_BASE 0) ≤ s.planFrame) ∧
    (∀ st, st ∈ [4, 5] → ∀ s, s ∈ [withRegs (holding image0 st) [(Key.TB_PLAN_FRAME, 2)]] → s.runs 0 = true ∧ (s.ctx 0).replay = none ∧
      (s.ctx 0).replayTo = none ∧ ((s.ctx 0).first + s.stepFrames 0) * 2304 ≤ s.planTick + 1 ∧ s.tt 0 = st) ∧
    (∀ s, s ∈ [({ running0.put (Key.FLT_REPLAY_MAX 0) 1 with targets := due 3 0 } : State)] →
      (∃ n, n ∈ s.targets ∧ n.2.kind = 3 ∧ n.2.arg = 0 ∧ n.1 ≤ s.time.frame) ∧
      s.openNow 0 = [{ step := 7, attempt := 0, first := 0, last := 1 }] ∧ (s.ctx 0).faultStops = [] ∧ 0 + 1 ≤ s.get (Key.FLT_REPLAY_MAX 0)) ∧
    ((replaying.ctx 0).replay = some (7, 1, 0) ∧ replaying.runs 0 = true ∧ 0 ≤ replaying.planFrame) ∧ shaped replaying := by
  unfold shaped; decide +kernel

/-- The parts of an image of 8,192 bytes (R173 and the tables it places): one frame whose program has no command, one layer of one expert. -/
def layerA : Bytes :=
  le 32 (1 <<< 51 ||| 1 <<< 46 ||| 0x3F800000 <<< 96) ++ zeros 8 ++ le 2 128 ++ le 2 1 ++ le 4 (1 <<< 16 ||| 1 <<< 12 ||| 1 <<< 20) ++ le 8 0x2000000 ++
    le 8 0x200000 ++ le 8 8192 ++ zeros 184
def frontA : Bytes :=
  le 4 0x31545455 ++ le 4 1 ++ le 8 8192 ++ le 2 0 ++ le 2 1 ++ le 2 1000 ++ le 2 1 ++ le 4 1 ++ le 2 27 ++ le 2 1 ++ zeros 8 ++ le 8 256 ++ le 8 1024 ++
    le 8 5184 ++ le 8 5440 ++ zeros 88
def backA : Bytes :=
  zeros 64 ++ zeros 768 ++ (zeros 4096 ++ le 4 0x2000000 ++ le 4 65536 ++ zeros 56) ++ layerA ++ (le 8 5504 ++ le 4 320 ++ le 4 4230634956) ++ zeros 2736

/-- IMAGE_HASH of the image with these parts, zeros in its own place. -/
def hashA : Bytes := le 32 61562408272253758697242966712516325131045472909805500652221741859433003493774

/-- A loading context with the image at 1 MiB of its memory port. -/
def loadingA (held : Bool) : State :=
  let s := withRegs State.reset [(Key.TT_STATE 0, 1), (Key.TT_IMAGE_ADDR 0, 0x100000), (Key.FLT_LEDGER_BASE 0, 0x300000), (Key.FLT_LEDGER_LEN 0, 64)]
  let s := s.domPut Dom.PRESS_DESC 0 (le 64 (1 ||| 1 <<< 136 ||| 3 <<< 143 ||| 128 <<< 168 ||| 256 <<< 192))
  { s with
    env := { s.env with mem := Mem.write [] 0x100000 (frontA ++ hashA ++ backA), reach := [{ ctx := 0, port := 0, base := 0, len := 2 ^ 40 }] },
    loads := [{ ctx := 0, held := held }] }

set_option maxRecDepth 100000 in
/-- The image passes every check of Table 7.12 but that of its hash, which is the SHA-256 of 128 blocks: hashA is its value, and the
kernel is spared the minute that its evaluation takes. -/
theorem witness_LoadsAndUnloads_image :
    ∀ s, s ∈ [(loadingA false).fresh] → ∀ h, h ∈ [s.hostBytes 0x100000 256] → s.get (Key.TT_IMAGE_ADDR 0) = 0x100000 ∧ s.reached 0 0x100000 256 = true ∧
      u h 0 4 = 0x31545455 ∧ u h 4 2 = 1 ∧ s.headerBad 0 0x100000 h = [] ∧ sub h 160 32 = hashA ∧ tablesBad h = [] ∧
      s.tableCode 0 (s.imageAt 0x100000) = none := by decide +kernel

theorem witness_LoadsAndUnloads :
    (∀ b, (loadingA b).live = true ∧ quiet (loadingA b) = true ∧ (loadingA b).ctxs.length = 8 ∧
      (loadingA b).loads.find? (fun (l : Load) => l.ctx == 0) = some { ctx := 0, held := b }) ∧
    (∀ s, s ∈ [({ State.reset.put (Key.TT_IMAGE_ADDR 7) 4097 with loads := [{ ctx := 7, held := false }] } : State)] →
      (s.fresh.loadVerdict 7).isOk = false) ∧
    (∀ x, x ∈ [({ next := none, code := 0, offset := 0 } : Unload)] →
      ∀ s, s ∈ [({ holding image0 2 with ctxs := { image := some image0, unload := some x } :: List.replicate 7 {} } : State)] →
      (s.ctx 0).unload = some x ∧ s.worksFor 0 = false ∧ x.next = none ∧ x.code = 0) := by decide +kernel

/-! Frames, slots and links. -/

/-- A program of four zero bytes to fetch, its CRC right or wrong. -/
def prog0 (good : Bool) : Prog :=
  { frame := 0, k := 0, src := { frame := 0, len := 4, off := 0, crc := if good then crc32c (zeros 4) else 0 }, bytes := none, dropped := false }
def fetching (good : Bool) : State :=
  { running0 with
    env := { running0.env with mem := Mem.write [] 4096 (zeros 4) },
    ctxs := { image := some image0, progs := [prog0 good] } :: List.replicate 7 {} }

theorem witness_FramesAndSlots :
    (∀ n, n ∈ [[], due 1 0] → ∀ s, s ∈ [({ State.reset with targets := n } : State)] → s.clocked = true ∧ s.phase ≠ .initialising ∧
      quiet s = true ∧ still s ∧ s.time.slew = 0 ∧ s.time.slipDue = false ∧ (s.time.frame + 1) * 36864 < 2 ^ 64) ∧
    (∀ s, s ∈ [({ running0 with time := { slipDue := true }, targets := due 1 0 } : State)] → s.live = true ∧ s.time.slipDue = true ∧
      (s.dueSlip s.time.frame).isSome = true) ∧
    (running0.live = true ∧ running0.fetchNext 0 = some (0, 0)) ∧
    (∀ b, (fetching b).live = true ∧ quiet (fetching b) = true ∧
      ((fetching b).ctx 0).progs.find? (fun (g : Prog) => g.bytes.isNone && !g.dropped) = some (prog0 b) ∧
      (crc32c ((fetching b).fresh.progBytes image0.addr (prog0 b).src) == (prog0 b).src.crc) = b) ∧
    (∀ st, st < 3 → (withRegs State.reset [(Key.TB_PARENT, 0x3F), (Key.TB_STATE, st)]).get Key.TB_PARENT = 0x3F) ∧
    (∀ s, s ∈ [({ State.reset with time := { throttle := 7, sampled := 1 } } : State)] → s.pending = [] ∧ s.live = true ∧ quiet s = true ∧
      s.dru.rplBuf = {} ∧ s.obs.traceBuf = {} ∧ s.obs.latchDue = [] ∧ 1 ≤ s.time.sampled ∧ s.time.throttle < 8 ∧
      s.get Key.CLK_LEVEL_IN ≠ s.time.throttle ∧ s.rates ≠ [] ∧ (∀ r, r ∈ s.rates → r.start ≤ ((s.time.edges + 1) / 5 + 1) * 5)) := by
  unfold still; decide +kernel

theorem witness_FramesAndSlots_image : (running0.ctx 0).image = some image0 ∧ ∀ b, ((fetching b).ctx 0).image = some image0 := ⟨rfl, fun _ => rfl⟩

/-- One port is up. -/
def oneUp : State := { State.reset with ports := { up := true } :: List.replicate 47 {} }

theorem oneUp_last : ∀ p, (oneUp.port p).last = none := by
  intro p
  by_cases hp : p < 48
  · have hall : ∀ q, q < 48 → (oneUp.port q).last = none := by decide +kernel
    exact hall p hp
  · have h0 : oneUp.ports.length = 48 := by decide +kernel
    have hd : oneUp.port p = {} := List.getD_eq_default _ _ (by omega)
    rw [hd]

theorem witness_FramesAndSlots_links :
    oneUp.clocked = true ∧ pinned oneUp ∧ (∀ m, oneUp.time.slot = some m → m < oneUp.fslot) ∧
    (∀ p e a, (oneUp.port p).last = some (e, a) → e < 2 ^ 32) := by
  refine ⟨by decide +kernel, ⟨by decide +kernel, by decide +kernel⟩, ?_, ?_⟩
  · intro m h
    have h0 : oneUp.time.slot = none := by decide +kernel
    rw [h0] at h
    exact absurd h (by simp)
  · intro p e a h
    rw [oneUp_last p] at h
    exact absurd h (by simp)

/-- A port that is up, its links' history as given. -/
def linked (good silent : Nat) (ready : Bool) : State :=
  { running0 with ports := { up := true, good := good, silent := silent, ready := ready } :: List.replicate 47 {} }

/-- Context 0's image connects port 0, with FLID 9 (Table 7.3). -/
def imageL : Image := { image0 with links := le 16 (6 ||| 1 <<< 31 ||| 1 <<< 40 ||| 9 <<< 48) ++ zeros 752 }

/-- A timing word that passes its CRC, and arrived 3 fine units before its TIME edge (R453). -/
def goodWord : BitVec 258 := BitVec.ofNat 258 (3 <<< 256 ||| 5 <<< 32 ||| crc32c (le 28 5))

theorem witness_TimingLinks :
    (∀ g, g ∈ [0, 15, 16] → (linked g 3 false).clocked = true ∧ ((linked g 3 false).port 0).up = true ∧ quiet (linked g 3 false) = true) ∧
    (crc32c (le 28 (bits (0 : BitVec 258).toNat 32 224)) ≠ bits (0 : BitVec 258).toNat 0 32) ∧
    (crc32c (le 28 (bits goodWord.toNat 32 224)) = bits goodWord.toNat 0 32 ∧ bits goodWord.toNat 256 2 = 3 ∧
      running0.get Key.TB_PARENT ≠ 0 ∧ running0.get Key.TB_BACKUP ≠ 0) ∧
    ((linked 16 16 true).live = true ∧ 16 ≤ ((linked 16 16 true).port 0).silent ∧ (linked 16 16 true).lost 0 = false ∧
      (linked 16 16 true).flid 0 = none) ∧
    (({ holding imageL 4 with ports := (linked 16 16 true).ports } : State).flid 0 = some 9) ∧
    (Memory.wf (linked 16 16 true) = true ∧ (linked 16 16 true).phase ≠ .initialising ∧ (linked 16 16 true).watches 0 = true ∧
      (linked 0 0 false).watches 0 = false ∧ ({ linked 0 0 false with time := { ticks := 144 } } : State).watches 0 = true) ∧
    pinned (linked 16 16 true) ∧ shaped (linked 16 16 true) := by
  unfold pinned shaped; decide +kernel

/-- An expired state: the plan frame is 5 and everything was stamped in frame 0. -/
def late0 (expects : List Expect) : State :=
  { sending.put Key.TB_PLAN_FRAME 5 with
    helds := [held0 0 false], expects := expects, wins := [{ win0 0 1 with attempt := 1 }],
    pieces := [{ key := expect0.key, len := 64 }] }

theorem witness_TimeoutsExpire :
    (∀ b, ∀ e, e ∈ [{ expect0 with committed := b }] → ∀ s, s ∈ [late0 [e]] → s.live = true ∧ quiet s = true ∧ s.runs 0 = true ∧
      (s.ctx 0).noticed ≠ some s.planFrame ∧
      s.helds.find? (fun (h : Held) => h.ctx == 0 && h.x.seq == 0 && h.x.src == 5 && h.x.dst == 6 && s.expired h.stamp 4) = some (held0 0 false) ∧
      s.expects.find? (fun (e : Expect) => e.ctx == 0 && e.x.seq == 0 && e.x.src == 6 && e.x.dst == 5 && s.expired e.stamp 4) = some e ∧
      e.committed = b ∧ (s.piece e.key).bind Piece.buf = none ∧ (s.port 0).up = true ∧
      s.wins.find? (fun (w : Win) => w.ctx == 0 && w.layer == 0 && w.tile == 9 && w.work == 0 && decide (w.stage < 5) && !w.watched &&
        s.expired w.stamp (u (s.hdr 0) 30 2)) = some { win0 0 1 with attempt := 1 } ∧
      (s.ctx 0).opens.find? (fun (o : OpenStep) => o.step == 7 && !o.slack) = some { step := 7, attempt := 0, first := 0, last := 1 } ∧
      s.expired ((1 + 1) * 2304) (s.stepSlack 0) = true ∧ s.outstanding 0 7 = true) ∧
    shaped (late0 []) := by
  unfold shaped; decide +kernel

theorem witness_TimeoutsExpire_again :
    ∀ s, s ∈ [(late0 []).setCtx 0 { (late0 []).ctx 0 with outlasted := [(7, 0, 9, 0)] }] →
      (s.wins.map (fun (w : Win) => (w.attempt, w.step, w.layer, w.tile, w.work))) = [(1, 7, 0, 9, 0)] ∧ (7, 0, 9, 0) ∈ (s.ctx 0).outlasted ∧
      s.tt 0 = 4 := by decide +kernel

/-! The Fabric Endpoint. -/

/-- A load of 8 bytes from node 6, and a store and an atomic of the same place (Table 13.3). -/
def msg0 (kind : Nat) : Msg := { kind := kind, src := 6, dst := 5, offset := 4096, len := 8, aop := if kind = 3 then 1 else 0, data := if kind = 2 then zeros 8 else [] }

/-- Its header as it arrives. -/
def wired (m : Msg) : BitVec 512 := BitVec.ofNat 512 (u (m.wire 1 2) 0 64)

/-- Context 0's window 0 over 4,096 bytes of the Staging Store, all accesses allowed (Table 13.1), and what waits. -/
def served (fep : Fep) : State :=
  let s := running0.domPut Dom.FEP_WINDOWS 0 (le 32 (1 ||| 1 <<< 2 ||| 1 <<< 3 ||| 1 <<< 4 ||| 4096 <<< 64 ||| 8192 <<< 128 ||| 4096 <<< 192))
  let s := s.domPut Dom.FEP_ROUTE 12 (le 2 0)
  { s with ports := { up := true } :: List.replicate 47 {}, fep := fep }

theorem witness_FabricMessages_arrival :
    (∀ s, s ∈ [served {}] → s.live = true ∧ quiet s = true ∧ Memory.wf s = true ∧ (s.port 0).up = true ∧ s.lost 0 = false) ∧
    msgCrcOk (wired (msg0 1)).toNat [] = true ∧ msgOf (wired (msg0 1)).toNat [] = msg0 1 ∧
    msgCrcOk (wired (msg0 2)).toNat (zeros 8) = true ∧ (msg0 2).seq = (served {}).fepNext 6 ∧ (msg0 2).base = (msg0 2).seq ∧ (msg0 2).sync = false ∧
    msgCrcOk ((wired (msg0 1)).toNat ^^^ 1 <<< 480) [] = false ∧ (served {}).fepRoute 6 = some 0 ∧
    (served {}).fep.queue.length < 1024 ∧ (served {}).fep.stalled = [] := by
  decide +kernel

theorem witness_FabricMessages_named : shaped (served {}) ∧ fepNamed (served {}) :=
  ⟨⟨by decide +kernel, by decide +kernel, by decide +kernel⟩, fun m h => absurd h (by simp [served]), fun e r h => absurd h (by simp [served])⟩

/-- A port with a message to send and credits for it, and one whose message waits for more. -/
def txPort (credits : Nat) : FepPort := { reqOwn := [msg0 1], credReq := credits }

/-- The slot's image of one flit has left port 0, so that 32 grants are lent. -/
def lending (fep : Fep) : State := { served fep with ports := { up := true, used := ((served {}).fslot + 1, 1) } :: List.replicate 47 {} }

theorem witness_FabricMessages_send :
    (∀ c, c ∈ [1, 32] → ∀ s, s ∈ [lending { ports := txPort c :: List.replicate 47 {} }] → (s.port 0).up = true ∧ s.lost 0 = false ∧
      pinned s ∧ (s.fep.port 0).tx = none ∧ (s.fep.port 0).nextTx.isSome = true ∧ s.lent 0 ≠ 0) ∧
    (∀ x, x ∈ [({ msg := msg0 1, left := 1, bytes := zeros 128, from_ := some 3 } : FepTx)] → ∀ s,
      s ∈ [lending { ports := { tx := some x, credReq := 1 } :: List.replicate 47 {} }] → (s.fep.port 0).tx = some x) ∧
    (∀ s, s ∈ [lending { ports := { oweReq := 40 } :: List.replicate 47 {} }] → (s.fep.port 0).tx = none ∧ (s.fep.port 0).nextTx = none ∧
      0 < s.lent 0 ∧ 8 ≤ (s.fep.port 0).oweReq + (s.fep.port 0).oweRsp) := by
  unfold pinned; decide +kernel

theorem witness_FabricMessages_apply :
    (∀ k, k ∈ [1, 2, 3] → ∀ s, s ∈ [served { queue := [msg0 k] }] → s.fep.queue.find? s.fepReady = some (msg0 k) ∧ s.fep.stalled = [] ∧
      (msg0 k).ctx < 8 ∧ (msg0 k).counter < 64 ∧ (match s.fepTranslate (msg0 k) with | .ok p => p == .mem false 0 8192 | .error _ => false) = true ∧
      (match s.fepTranslate { msg0 k with offset := 0 } with | .ok _ => false | .error d => d == 1) = true) ∧
    (∀ c, ∀ w, w ∈ [({ msg := { msg0 2 with count := c }, reply := {} } : WriteBack)] → ∀ s, s ∈ [served { writes := [w] }] →
      s.fep.writes.find? (fun (w : WriteBack) => w.msg.src == 6 && w.msg.seq == 0) = some w ∧ w.msg.ctx < 8 ∧ w.msg.counter < 64 ∧
      (s.fep.writes.takeWhile (fun (x : WriteBack) => x != w)).any (fun (x : WriteBack) => x.msg.src == 6 && x.host == w.host &&
        overlaps x.addr x.msg.span w.addr w.msg.span) = false) := by decide +kernel

/-- A request of an entry's run 3, sent once at real time 0, and the run (a GET of 8 bytes into the Staging Store at 4,096). -/
def req0 (sends : Nat) : Req :=
  { msg := { kind := 1, src := 5, dst := 6, tag := 2, len := 8 }, asker := .entry 3, credit := some 0, first := some 0, sends := sends }
def started0 : Started := { run := 3, q := 0, desc := le 64 (1 ||| 1 <<< 206 ||| 8 <<< 224 ||| 4096 <<< 384), todo := [], out := 1 }
def reply0 : Msg := { kind := 8, src := 6, dst := 5, tag := 2, len := 8, data := zeros 8 }

/-- Its real time in TIME edges: 16 µs are 4,000. -/
def asked (sends ticks : Nat) (run : List Started) (replies : List Msg) : State :=
  let s := served { reqs := [req0 sends], run := run, replies := replies }
  { s with time := { ticks := ticks } }

theorem witness_FabricRequests :
    (∀ s, s ∈ [served { replies := [reply0] }] → s.live = true ∧ quiet s = true ∧ Memory.wf s = true ∧
      s.fep.replies.find? (fun (m : Msg) => m.tag == 2) = some reply0 ∧ s.fep.wait = [] ∧ s.fep.starts = [] ∧
      s.fep.reqs.find? (fun (r : Req) => r.msg.tag == 2 && r.msg.dst == 6 && r.msg.seq == 0) = none) ∧
    (∀ s, s ∈ [asked 1 0 [started0] [reply0]] → s.fep.reqs.find? (fun (r : Req) => r.msg.tag == 2 && r.msg.dst == 6 && r.msg.seq == 0) = some (req0 1) ∧
      s.fep.run = [started0] ∧ started0.todo = [] ∧ started0.out = 1 ∧ rqOp (unle started0.desc) = 1 ∧ rqCache (unle started0.desc) = false ∧
      reply0.status = 0) ∧
    (∀ n, n ∈ [1, 2] → ∀ s, s ∈ [asked n (4000 * n) [] []] → s.fep.reqs.find? (fun (r : Req) => r.msg.tag == 2) = some (req0 n) ∧
      s.usPassed 0 (16 * n) = true ∧ s.usPassed 0 50 = false ∧ (req0 n).msg.dst ≠ s.node ∧ (req0 n).msg.isReply = false ∧ s.fepRoute 6 = some 0) ∧
    (asked 3 12500 [] []).usPassed 0 50 = true := by decide +kernel

theorem witness_FabricRequests_shape : shaped (asked 1 0 [started0] [reply0]) := ⟨by decide +kernel, by decide +kernel, by decide +kernel⟩

/-! Resets, the field network, observation and metering. -/

theorem witness_ResetsAndPower :
    [Phase.coldHeld, .initialising, .warm 2].all (fun p => ({ State.reset with phase := p } : State).phase == p && !State.reset.clockStopped) = true ∧
    State.reset.env.strap % 128 = 1 ∧ ({ State.reset with env := { strap := 0x80 } } : State).env.strap % 128 = 0 ∧ State.reset.live = true ∧
    State.reset.phase ≠ .off ∧
    (∀ b, ({ State.reset with phase := .coldHeld, build := { State.reset.build with partition := b } } : State).build.partition = b) := by decide +kernel

/-- A second of real time has passed and the heartbeat is every 100 ms; an interrupt event waits. -/
def beating : State :=
  { State.reset.put Key.COM_HEARTBEAT 100 with time := { ticks := 250000000 }, field := { events := [(1, 4)] } }

theorem witness_FieldAndSnapshots :
    (beating.live = true ∧ quiet beating = true ∧ beating.get Key.COM_HEARTBEAT ≠ 0 ∧ beating.canSends = true ∧
      beating.field.beat + beating.get Key.COM_HEARTBEAT ≤ beating.ms ∧ beating.field.events = (1, 4) :: []) ∧
    (∀ t, t ∈ [247, 248] → ∀ s, s ∈ [withRegs State.reset [(Key.COM_CAN_TEC, t), (Key.COM_CAN_REC, 255)]] → s.canSends = true ∧
      s.get Key.COM_CAN_TEC ≤ 255 ∧ s.get Key.COM_CAN_REC ≤ 255 ∧ s.can.busy = none ∧ (s.get Key.COM_CAN_TEC + 8 ≤ 255 ↔ t = 247)) ∧
    (withRegs State.reset [(Key.COM_CAN_STATE, 2)]).get Key.COM_CAN_STATE = 2 ∧
    (∀ s, s ∈ [planning 0x09 (0xFFFF <<< 216) running0] → s.mayIssue 0 0x09 (0xFFFF <<< 216) = true ∧ s.obs.dropTick = none ∧
      s.obs.lastTick = none ∧ s.get Key.SNAP_LOCK ≠ s.snapTarget ∧ s.get Key.TRC_STATE % 2 = 0) ∧
    (∀ s, s ∈ [planning 0x09 (5 <<< 216) (running0.put Key.SNAP_LOCK 0)] → s.mayIssue 0 0x09 (5 <<< 216) = true ∧ s.get Key.SNAP_LOCK = s.snapTarget) ∧
    (∀ o, o ∈ [2, 4] → ∀ n, n ∈ [1, 3] → ∀ s, s ∈ [({ State.reset.put Key.SNAP_TRIG_ENABLE 1 with obs := { latchDue := [(o, n)] } } : State)] →
      s.pending = [] ∧ s.live = true ∧ quiet s = true ∧ s.obs.latchDue = [(o, n)] ∧ s.dru.rplBuf = {} ∧ s.obs.traceBuf = {} ∧
      s.get Key.CLK_LEVEL_IN = s.time.throttle ∧ s.get Key.SNAP_TRIG_ENABLE = 1 ∧ s.obs.lastTick = none ∧ s.obs.dropTick = none ∧
      s.get Key.SNAP_LOCK ≠ s.snapTarget ∧ s.get Key.TRC_STATE % 2 = 0) ∧
    State.reset.get Key.SNAP_TRIG_ENABLE ≠ 1 ∧ hostOk State.reset = true := by decide +kernel

/-- A snapshot's image is still to complete. -/
def imaging : State :=
  { State.reset with obs := { pending := true, latch := some { tick := 0, frame := 0, slips := 0, id := 1, origin := 1, mask := 1, seq := 1, regs := [] } } }

theorem witness_FieldAndSnapshots_image : imaging.obs.pending = true ∧ imaging.obs.latch.isSome = true ∧ Memory.wf imaging = true := by decide +kernel

/-- A configuration record sealed under a key of ones, with no state record behind it (Table 18.8). -/
def keyM : Bytes := List.replicate 32 1
def configM : Bytes := le 4 0x314D5355 ++ zeros 12 ++ le 4 1 ++ le 2 2 ++ zeros 202
def restoring (tag : Bytes) : State :=
  { State.reset with
    env := { nv := Mem.write (Mem.write (Mem.write [] 0 (configM ++ tag)) 4096 (zeros 4)) 40960 (zeros 4) }, meter := { key := keyM } }

set_option maxRecDepth 100000 in
theorem witness_MeteringPartition_restore :
    (State.reset.live = true ∧ quiet State.reset = true ∧ Memory.wf State.reset = true ∧ State.reset.build.partition = true ∧
      State.reset.get Key.METER_STATE = 0 ∧ allZero State.reset.meter.key = true) ∧
    (∀ s, s ∈ [restoring (le 32 38688565730410794387047744536086891086273679671239242183309475294825640611798)] → allZero s.meter.key = false ∧ s.configOk (s.fresh.nvBytes 0 256) = true ∧
      s.slotOk (s.fresh.nvBytes 4096 33376) = false ∧ s.slotOk (s.fresh.nvBytes 40960 33376) = false) ∧
    (restoring (zeros 32)).configOk ((restoring (zeros 32)).fresh.nvBytes 0 256) = false := by decide +kernel

/-- The partition in force, with a tap word, a power word before and 100 mJ/ms allowed. -/
def metering (state : Nat) (m : Meter) : State :=
  { (State.reset.put Key.METER_STATE state).domPut Dom.METER_PARAMS 8 (le 4 100) with meter := m, time := { ticks := 250000000 } }
def nv0 : NvWrite := { seq := 1, quiet := true, slot := 40960, bytes := zeros 8, mark := 0 }

theorem witness_MeteringPartition :
    (∀ c, c ∈ [1, 5, 8, 9] → ∀ st, st < 3 → ∀ s, s ∈ [metering st { tap := [BitVec.ofNat 64 (c <<< 60 ||| 7 <<< 57)] }] →
      s.live = true ∧ s.get Key.METER_STATE = st ∧ s.meter.tap.length = 1) ∧
    bits (BitVec.ofNat 64 (5 <<< 60 ||| 7 <<< 57)).toNat 60 4 = 5 ∧ bits (BitVec.ofNat 64 (5 <<< 60 ||| 7 <<< 57)).toNat 57 3 = 7 ∧
    ((metering 1 {}).meter.power = none ∧ (metering 1 {}).meter.missing = false ∧
      (metering 1 {}).meter.msBase + u (metering 1 {}).meterParams 12 2 ≤ (metering 1 {}).meterMs) ∧
    (∀ s, s ∈ [metering 1 { power := some (4294967295, 999), busy := [(0, 5)], powerEdges := 0 }] → s.meter.power = some (4294967295, 999) ∧
      (99 + 2 ^ 32 - 4294967295) % 2 ^ 32 ≤ u s.meterParams 8 4 * (s.meterMs - 999) ∧
      u s.meterParams 8 4 * (s.meterMs - 999) < (100 + 2 ^ 32 - 4294967295) % 2 ^ 32) ∧
    ((metering 1 {}).meter.mark < (metering 1 {}).meterMs / 1000 * 1000 ∧ (metering 1 {}).meter.inFlight = none ∧
      (metering 1 {}).meter.refCount = 0 ∧ (metering 1 { refCount := 1 }).meter.refCount ≠ 0 ∧
      (metering 1 { inFlight := some nv0 }).meter.refCount = 0) ∧
    (∀ s, s ∈ [metering 1 { inFlight := some nv0 }] → s.meter.inFlight = some nv0 ∧ s.meter.owed = false ∧ nv0.late = false ∧
      nv0.mark + 1000 ≤ s.meterMs) := by decide +kernel

/-! ### Single steps -/

/-- What a command's next state holds. -/
def after (c : Instr) (s : State) (p : State → Bool) : Bool := match exec c s with | .next t => p t | _ => false

/-- The check string of the CRC catalogue, by R358 and R359. -/
theorem test_crc32c_check : crc32c ((List.range 9).map (fun i => BitVec.ofNat 8 (0x31 + i))) = 0xE3069283 := by decide +kernel

/-- The first example of FIPS 180-4: "abc". -/
theorem test_sha256_abc : u (sha256 [0x61, 0x62, 0x63]) 0 4 = 0xBF1678BA := by decide +kernel

/-- Sixteen fine units a TIME edge (R193). -/
theorem test_idle_step : (match Machine.step State.reset with | .next t => t.time.tb.toNat == 16 && t.time.ticks == 1 | _ => false) = true := by decide +kernel

/-- A free puts the buffer on top and lowers POOL_HELD (R249). -/
theorem test_pool_free : after (.poolFree 0 0x10000) pooled (fun t => (t.pool 1).cache.head? == some 0x10000 && t.get (Key.POOL_HELD 1 0) == 0 &&
    t.get (Key.POOL_FREE 1) == 4) = true := by decide +kernel

/-- A free by a context that does not hold the buffer leaves it (Table 9.5). -/
theorem test_pool_free_refused : after (.poolFree 1 0x10000) pooled (fun t => (t.pool 1).cache == (pooled.pool 1).cache && t.owner 1 0 == some 0) = true := by
  decide +kernel

/-- A grant gives the top of the cache (R243). -/
theorem test_pool_grant : after (.poolAllocGrant 1) pooled (fun t => (t.pool 1).cache == [0x12000, 0x13000] && t.get (Key.POOL_HELD 1 0) == 2 &&
    ((t.piece key0).bind Piece.buf) == some 0x11000) = true := by decide +kernel

/-- Four words of a queue of four do not fit, since one stays free for a gap marker (R254, R259). -/
theorem test_packet_dropped : after (.packetOffer 0 1 0 (List.replicate 4 (zeros 128))) (queued 1 {}) (fun t =>
    t.get (Key.PQ_DROP_COUNT 0) == 1 && (t.queue 0).pend == 1 && (t.queue 0).pendWords == 4) = true := by decide +kernel

theorem test_packet_abort : after (.packetAbort 0) (queued 1 { write := 2, opened := some 2 }) (fun t => (t.queue 0).write == 0 &&
    t.get (Key.PQ_ABORT_COUNT 0) == 1) = true := by decide +kernel

/-- A write of TB_STATE, a read-only entry, is refused with EC_DESC_RANGE detail 0xC1 (Table 15.4). -/
theorem test_read_only : after (.writeScalar .cp 0 0 0x4000 5 1) State.reset (fun t => (t.cp.busy.map (fun x => (x.code, x.detail))) == some (0x41, 0xC1) &&
    t.get Key.TB_STATE == 0 && t.get Key.DICT_REFUSED_CP == 1) = true := by decide +kernel

theorem test_write_scalar : after (.writeScalar .can 0 3 0x1001 6 1000) State.reset (fun t => t.get Key.COM_HEARTBEAT == 1000 &&
    (t.can.busy.map (fun x => (x.code, x.detail))) == some (0, 0)) = true := by decide +kernel

/-- A request frame of two bytes is refused with detail 0xC6, its OP and TID kept (R387). -/
theorem test_short_frame : after (.registerWrite (.canFrame [0x12, 5]) 0) State.reset (fun t =>
    (t.can.busy.map (fun x => (x.op, x.tid, x.code, x.detail))) == some (0x12, 5, 0x41, 0xC6)) = true := by decide +kernel

/-- The transmit counter passes 255: bus-off (R390). -/
theorem test_bus_off : after (.canBusError true 8) (withRegs State.reset [(Key.COM_CAN_TEC, 248)]) (fun t => t.get Key.COM_CAN_STATE == 2) = true := by
  decide +kernel

/-- The heartbeat's identifier is 0xE × 128 + the node number (R387, R389). -/
theorem test_heartbeat : after .heartbeat beating (fun t => match t.outbox with | [.canFrame i bs] => i == 0x701 && bs.length == 8 | _ => false) = true := by
  decide +kernel

theorem test_cold_reset : after .coldResetAssert beating (fun t => t.get Key.COM_HEARTBEAT == 0 && t.time.ticks == 0 && t.phase == .coldHeld) = true := by
  decide +kernel

/-- One edge: a SLIP frame leaves the plan frame and counts (R201, R202). -/
theorem test_slip : after .slip { running0 with time := { slipDue := true }, targets := due 1 0 } (fun t => t.get Key.TB_SLIPS == 1 && t.time.slipping &&
    t.planFrame == 0) = true := by decide +kernel

/-- A tap word of field 1 adds to the metered counter of its context (R437, Table 18.6). -/
theorem test_tap_word : after .tapWord (metering 1 { tap := [BitVec.ofNat 64 (1 <<< 60 ||| 7 <<< 57 ||| 12)] }) (fun t => t.get (meterKey 0 7) == 12) = true := by
  decide +kernel

/-- A fabric load of 8 bytes is answered with the bytes (R335, R344). -/
theorem test_fep_load : after .fepApply { served { queue := [msg0 1] } with stg := Mem.write [] 8192 (le 8 5) } (fun t =>
    ((t.fep.port 0).rspOwn.map (fun m => (m.kind, m.status, m.data))) == [(8, 0, le 8 5)]) = true := by decide +kernel

/-- A swap with a ready shadow bank (R96). -/
theorem test_bank_swap : after (.bankSwapPlacement 0)
    (planning 0x0A (1 <<< 231) (withRegs running0 [(Key.PT_SHADOW_READY, 1), (Key.PT_SHADOW_CRC, 9)])) (fun t =>
    t.get Key.PT_ACTIVE == 1 && t.get Key.PT_ACTIVE_CRC == 9 && t.get Key.PT_SHADOW_READY == 0) = true := by decide +kernel

end Sys2Proof.Tests
end

/-! SUPPORT. What the packet queues' operations do, one lemma each, and what they leave: the queue store, the queues, the level
causes and the interrupts are all that they move (R254 to R262). -/

namespace Sys2Proof.Machine

open Sys2Proof

/-- A command acts where the engine works. -/
theorem act_of_live {s : State} (f : State → State) (h : s.live = true) : act f s = f s := if_pos h

/-- The partitions hold queues whatever the queues hold. -/
@[simp] theorem queueOwner_setQueue (s : State) (q r : Nat) (x : Queue) : (s.setQueue q x).queueOwner r = s.queueOwner r := rfl

/-- A counter raised reads as raised, saturated at 32 bits. -/
theorem get_count_self (s : State) (k n : Nat) : (s.count k n).get k = satAdd max32 (s.get k) n := by
  rw [get_count, get_put_self]
  simp only [satAdd, max32]
  omega

/-- Interrupt levels are brought up to date in the field network's own record only. -/
theorem syncInts_moves_field (s : State) : ∃ f, s.syncInts = { s with field := f } := by
  unfold State.syncInts
  refine List.foldlRecOn (motive := fun u => ∃ f, u = { s with field := f }) _ _ ⟨s.field, rfl⟩ ?_
  rintro _ ⟨f, rfl⟩ l -
  dsimp only
  split
  · split <;> exact ⟨_, rfl⟩
  · exact ⟨_, rfl⟩

/-- A packet's words go into the queue store. -/
theorem pqWrite_moves_qstore (s : State) (q p : Nat) (words : List Bytes) :
    ∃ m : List (Nat × Byte), s.pqWrite q p words = { s with qstore := m } := by
  unfold State.pqWrite
  refine List.foldlRecOn (motive := fun u => ∃ m : List (Nat × Byte), u = { s with qstore := m }) _ _ ⟨s.qstore, rfl⟩ ?_
  rintro _ ⟨m, rfl⟩ i -
  exact ⟨_, rfl⟩

/-! ### Level comparison and waiting offers -/

/-- The level comparison moves nothing, or ABOVE of its queue, the level causes and the interrupts (R262). -/
theorem pqCompare_moves (s : State) (q : Nat) :
    s.pqCompare q = s ∨ ∃ b d f, s.pqCompare q = { s.setQueue q { s.queue q with above := b } with dom := d, field := f } := by
  unfold State.pqCompare
  dsimp only
  split
  · split
    · exact .inl rfl
    · obtain ⟨f, e⟩ := syncInts_moves_field _
      exact .inr ⟨true, _, f, e⟩
  · split
    · exact .inr ⟨false, s.dom, s.field, rfl⟩
    · exact .inl rfl

/-- The level comparison as a change of the state's fields. -/
theorem pqCompare_fields (s : State) (q : Nat) :
    ∃ qs d f, s.pqCompare q = { s with queues := qs, dom := d, field := f } := by
  obtain e | ⟨b, d, f, e⟩ := pqCompare_moves s q
  · exact ⟨s.queues, s.dom, s.field, e⟩
  · exact ⟨_, d, f, e⟩

/-- The level comparison leaves its queue but for ABOVE. -/
theorem pqCompare_queue_self (s : State) (q : Nat) : ∃ b, (s.pqCompare q).queue q = { s.queue q with above := b } := by
  obtain e | ⟨b, d, f, e⟩ := pqCompare_moves s q
  · exact ⟨(s.queue q).above, by rw [e]⟩
  · exact ⟨b, by rw [e]; exact queue_setQueue_self s q _⟩

/-- The level comparison leaves the other queues. -/
theorem pqCompare_queue_ne (s : State) {q r : Nat} (h : q ≠ r) : (s.pqCompare q).queue r = s.queue r := by
  obtain e | ⟨b, d, f, e⟩ := pqCompare_moves s q
  · rw [e]
  · rw [e]
    exact queue_setQueue_ne s _ h

/-- With no offer waiting there is none to serve. -/
theorem pqSettle_of_no_offers {s : State} {q : Nat} (h : (s.queue q).offers = []) : s.pqSettle q = s := by
  unfold State.pqSettle
  rw [h]
  rfl

/-! ### Offers -/

/-- The state after a queue in form `x` has accepted a packet: its words stand from the write pointer on, and it is open (R254). -/
def State.pqAccept (s : State) (q : Nat) (x : Queue) (words : List Bytes) : State :=
  (s.pqWrite q x.write words).setQueue q { x with write := ptrAdd x.write words.length, opened := some words.length }

/-- The state after a drop-newest queue has dropped a packet of `n` words: pending, and counted for the queue's context (R259). -/
def State.pqDropped (s : State) (q ctx n : Nat) : State :=
  (s.setQueue q { s.queue q with pend := satAdd 65535 (s.queue q).pend 1, pendWords := satAdd 0xFFFFF (s.queue q).pendWords n }).pqDrop q ctx

section Offer
variable {s : State} {q ctx : Nat} {words : List Bytes}

/-- What a drop-newest queue with no open packet does with an offer (R259). -/
theorem pqOffer_dropNewest (hk : pqKind (s.pqDesc q) = 1) (ho : (s.queue q).opened = none) :
    s.pqOffer q ctx words =
      (if words.length + 1 ≤ s.pqFree q ∧ (s.queue q).pend = 0 then s.pqAccept q (s.queue q) words
        else s.pqDropped q ctx words.length, true) := by
  unfold State.pqOffer
  by_cases h : words.length + 1 ≤ s.pqFree q ∧ (s.queue q).pend = 0
  · simp [hk, ho, h, State.pqAccept]
  · have hd : (decide (s.pqFree q ≥ words.length + 1) && decide ((s.queue q).pend = 0)) = false := by
      rw [← Bool.decide_and]
      exact decide_eq_false h
    simp only [hk, ho, hd, if_neg h]
    simp [State.pqDropped, ho]

/-- What a credit queue with no open packet does with an offer that its depth can hold (R261). -/
theorem pqOffer_credit (hk : pqKind (s.pqDesc q) = 2) (ho : (s.queue q).opened = none) (hd : words.length ≤ pqDepth (s.pqDesc q)) :
    s.pqOffer q ctx words =
      if words.length ≤ (s.queue q).credits then
        (s.pqAccept q { s.queue q with credits := (s.queue q).credits - words.length } words, true)
      else (s, false) := by
  unfold State.pqOffer
  by_cases h : words.length ≤ (s.queue q).credits
  · have h' : ¬ (s.queue q).credits < words.length := by omega
    simp [hk, ho, hd, h, h', State.pqAccept]
  · have h' : (s.queue q).credits < words.length := by omega
    simp [hk, ho, hd, h, h']

/-- An offer to a queue where none waits, which the queue takes, drops or discards now (R254). -/
theorem packetOffer_taken (prod : Nat) {t : State} (hl : s.live = true) (hw : words ≠ []) (hn : words.length ≤ 64)
    (ho : (s.queue q).offers = []) (ht : s.pqOffer q ctx words = (t, true)) :
    exec (.packetOffer q prod ctx words) s = .next t := by
  show Host.Outcome.next (act (packetOfferOp q prod ctx words) s) = _
  rw [act_of_live _ hl]
  unfold packetOfferOp
  simp [hw, ho, Nat.not_lt.2 hn, ht]

/-- An offer to a queue where none waits, which the queue cannot take yet, waits alone (R254). -/
theorem packetOffer_held (prod : Nat) {t : State} (hl : s.live = true) (hw : words ≠ []) (hn : words.length ≤ 64)
    (ho : (s.queue q).offers = []) (ht : s.pqOffer q ctx words = (t, false)) :
    exec (.packetOffer q prod ctx words) s =
      .next (t.holdOffer q { producer := prod, ctx := ctx, words := words }) := by
  show Host.Outcome.next (act (packetOfferOp q prod ctx words) s) = _
  rw [act_of_live _ hl]
  unfold packetOfferOp
  simp [hw, ho, Nat.not_lt.2 hn, ht]
end Offer

/-- An accepted packet moves its own queue and the queue store. -/
theorem pqAccept_moves (s : State) (q : Nat) (x : Queue) (words : List Bytes) :
    ∃ m, s.pqAccept q x words =
      { s.setQueue q { x with write := ptrAdd x.write words.length, opened := some words.length } with qstore := m } := by
  obtain ⟨m, e⟩ := pqWrite_moves_qstore s q x.write words
  refine ⟨m, ?_⟩
  unfold State.pqAccept
  rw [e]
  rfl

/-- An offer held where none waited waits alone. -/
theorem holdOffer_of_no_offers {s : State} {q : Nat} (o : Offer) (h : (s.queue q).offers = []) :
    s.holdOffer q o = s.setQueue q { s.queue q with offers := [o] } := by
  unfold State.holdOffer
  rw [h]
  rfl

/-- A drop's count stands in the register of the queue's context, saturated at 32 bits (R266). -/
theorem get_pqDropped (s : State) (q ctx n : Nat) :
    (s.pqDropped q ctx n).get (Key.PQ_DROP_COUNT ((s.queueOwner q).getD ctx)) =
      satAdd max32 (s.get (Key.PQ_DROP_COUNT ((s.queueOwner q).getD ctx))) 1 := by
  unfold State.pqDropped State.pqDrop
  rw [queueOwner_setQueue, get_count_self, get_setQueue]

/-- A drop moves its own queue and the drop count. -/
theorem pqDropped_moves (s : State) (q ctx n : Nat) :
    ∃ rs, s.pqDropped q ctx n = { s.setQueue q { s.queue q with
      pend := satAdd 65535 (s.queue q).pend 1, pendWords := satAdd 0xFFFFF (s.queue q).pendWords n } with regs := rs } := ⟨_, rfl⟩

/-! ### Commit and abort -/

section Settle
variable {s : State} {q : Nat}

/-- The open packet committed, and the level compared (R255, R262). -/
theorem pqCommit_opened {n : Nat} (hn : (s.queue q).opened = some n) :
    s.pqCommit q = (s.setQueue q { s.queue q with commit := (s.queue q).write, opened := none }).pqCompare q := by
  unfold State.pqCommit
  simp only [hn]

/-- A commit where no offer waits is the commit and the level comparison alone (R255, R262). -/
theorem packetCommit_next (hl : s.live = true) {n : Nat} (hn : (s.queue q).opened = some n) (ho : (s.queue q).offers = []) :
    exec (.packetCommit q) s =
      .next ((s.setQueue q { s.queue q with commit := (s.queue q).write, opened := none }).pqCompare q) := by
  have hs : ((s.pqCommit q).queue q).offers = [] := by
    rw [pqCommit_opened hn]
    obtain ⟨b, e⟩ := pqCompare_queue_self (s.setQueue q { s.queue q with commit := (s.queue q).write, opened := none }) q
    rw [e, queue_setQueue_self]
    exact ho
  show Host.Outcome.next (act (packetCommitOp q) s) = _
  rw [act_of_live _ hl]
  unfold packetCommitOp
  dsimp only
  rw [pqSettle_of_no_offers hs, ite_self, pqCommit_opened hn]

/-- The queue that an abort of an open packet of `n` words leaves: the words taken back, and on a credit queue their credits
(R255, R261). -/
def State.pqAborted (s : State) (q n : Nat) : Queue :=
  { s.queue q with
    write := ptrSub (s.queue q).write n, opened := none
    credits := if pqKind (s.pqDesc q) = 2 then (s.queue q).credits + n else (s.queue q).credits }

/-- The state after an abort, counted for the context that holds the queue. -/
def State.pqAbortCounted (s : State) (q n : Nat) : State :=
  match s.queueOwner q with
  | some c => (s.setQueue q (s.pqAborted q n)).count (Key.PQ_ABORT_COUNT c) 1
  | none => s.setQueue q (s.pqAborted q n)

/-- An abort's count moves registers alone. -/
theorem pqAbortCounted_moves (s : State) (q n : Nat) :
    ∃ rs, s.pqAbortCounted q n = { s.setQueue q (s.pqAborted q n) with regs := rs } := by
  unfold State.pqAbortCounted
  split <;> exact ⟨_, rfl⟩

/-- An abort leaves its queue as it says. -/
theorem queue_pqAbortCounted_self (s : State) (q n : Nat) : (s.pqAbortCounted q n).queue q = s.pqAborted q n := by
  unfold State.pqAbortCounted
  split
  · exact (queue_put ..).trans (queue_setQueue_self ..)
  · exact queue_setQueue_self ..

/-- An abort leaves the other queues. -/
theorem queue_pqAbortCounted_ne (s : State) {q r : Nat} (n : Nat) (h : q ≠ r) : (s.pqAbortCounted q n).queue r = s.queue r := by
  unfold State.pqAbortCounted
  split
  · exact (queue_put ..).trans (queue_setQueue_ne s _ h)
  · exact queue_setQueue_ne s _ h

/-- An abort where no offer waits takes the packet back and counts it (R255). -/
theorem packetAbort_next (hl : s.live = true) {n : Nat} (hn : (s.queue q).opened = some n) (ho : (s.queue q).offers = []) :
    exec (.packetAbort q) s = .next (s.pqAbortCounted q n) := by
  have ha : s.pqAbort q = s.pqAbortCounted q n := by
    unfold State.pqAbort
    simp only [hn]
    rfl
  have hs : ((s.pqAbortCounted q n).queue q).offers = [] := by
    simp only [queue_pqAbortCounted_self, State.pqAborted, ho]
  show Host.Outcome.next (act (packetAbortOp q) s) = _
  rw [act_of_live _ hl]
  unfold packetAbortOp
  dsimp only
  rw [ha, pqSettle_of_no_offers hs, ite_self]

/-- An abort counts one for the context that holds the queue, saturated at 32 bits (R266). -/
theorem get_pqAbortCounted {c n : Nat} (hc : s.queueOwner q = some c) :
    (s.pqAbortCounted q n).get (Key.PQ_ABORT_COUNT c) = satAdd max32 (s.get (Key.PQ_ABORT_COUNT c)) 1 := by
  unfold State.pqAbortCounted
  rw [hc]
  dsimp only
  rw [get_count_self, get_setQueue]
end Settle

/-- A drop-newest queue takes or drops an offered packet (R254, R259). -/
theorem packetOffer_dropNewest {q prod ctx : Nat} {words : List Bytes} {s : State} (hl : s.live = true) (hw : words ≠ [])
    (hn : words.length ≤ 64) (hk : pqKind (s.pqDesc q) = 1) (ho : (s.queue q).offers = []) (hp : (s.queue q).opened = none) :
    ∃ t, exec (.packetOffer q prod ctx words) s = .next t ∧ (∀ r, r ≠ q → t.queue r = s.queue r) ∧
      (words.length + 1 ≤ s.pqFree q → (s.queue q).pend = 0 →
        t.queue q = { s.queue q with write := ptrAdd (s.queue q).write words.length, opened := some words.length } ∧
        t = { s with qstore := t.qstore, queues := t.queues }) ∧
      (¬ (words.length + 1 ≤ s.pqFree q ∧ (s.queue q).pend = 0) →
        t.queue q = { s.queue q with
          pend := satAdd 65535 (s.queue q).pend 1, pendWords := satAdd 0xFFFFF (s.queue q).pendWords words.length } ∧
        t.get (Key.PQ_DROP_COUNT ((s.queueOwner q).getD ctx)) =
          satAdd max32 (s.get (Key.PQ_DROP_COUNT ((s.queueOwner q).getD ctx))) 1 ∧
        t = { s with regs := t.regs, queues := t.queues }) := by
  by_cases hf : words.length + 1 ≤ s.pqFree q ∧ (s.queue q).pend = 0
  · obtain ⟨m, e⟩ := pqAccept_moves s q (s.queue q) words
    have ht := (pqOffer_dropNewest (ctx := ctx) (words := words) hk hp).trans (by rw [if_pos hf, e])
    exact ⟨_, packetOffer_taken prod hl hw hn ho ht, fun r hr => queue_setQueue_ne s _ hr.symm,
      fun _ _ => ⟨queue_setQueue_self s q _, rfl⟩, fun h => absurd hf h⟩
  · have ht := (pqOffer_dropNewest (ctx := ctx) (words := words) hk hp).trans (by rw [if_neg hf])
    exact ⟨_, packetOffer_taken prod hl hw hn ho ht, fun r hr => queue_setQueue_ne s _ hr.symm,
      fun h1 h2 => absurd ⟨h1, h2⟩ hf, fun _ => ⟨queue_setQueue_self s q _, get_pqDropped s q ctx _, rfl⟩⟩

/-- A credit queue takes an offered packet against its producer's credits, or holds it back (R261). -/
theorem packetOffer_credit {q prod ctx : Nat} {words : List Bytes} {s : State} (hl : s.live = true) (hw : words ≠ [])
    (hn : words.length ≤ 64) (hk : pqKind (s.pqDesc q) = 2) (ho : (s.queue q).offers = []) (hd : words.length ≤ pqDepth (s.pqDesc q))
    (hp : (s.queue q).opened = none) :
    ∃ t, exec (.packetOffer q prod ctx words) s = .next t ∧ (∀ r, r ≠ q → t.queue r = s.queue r) ∧
      t.queue q = (if words.length ≤ (s.queue q).credits then
        { s.queue q with write := ptrAdd (s.queue q).write words.length, opened := some words.length,
                         credits := (s.queue q).credits - words.length }
        else { s.queue q with offers := [{ producer := prod, ctx := ctx, words := words }] }) ∧
      t = { s with qstore := t.qstore, queues := t.queues } := by
  by_cases hc : words.length ≤ (s.queue q).credits
  · obtain ⟨m, e⟩ := pqAccept_moves s q { s.queue q with credits := (s.queue q).credits - words.length } words
    have ht := (pqOffer_credit (ctx := ctx) hk hp hd).trans (by rw [if_pos hc, e])
    rw [if_pos hc]
    exact ⟨_, packetOffer_taken prod hl hw hn ho ht, fun r hr => queue_setQueue_ne s _ hr.symm, queue_setQueue_self s q _, rfl⟩
  · have ht := (pqOffer_credit (ctx := ctx) hk hp hd).trans (by rw [if_neg hc])
    rw [if_neg hc]
    refine ⟨_, packetOffer_held prod hl hw hn ho ht, ?_⟩
    rw [holdOffer_of_no_offers _ ho]
    exact ⟨fun r hr => queue_setQueue_ne s _ hr.symm, queue_setQueue_self s q _, rfl⟩

/-- A commit makes the open packet visible (R255). -/
theorem packetCommit_opened {q n : Nat} {s : State} (hl : s.live = true) (hn : (s.queue q).opened = some n)
    (ho : (s.queue q).offers = []) :
    ∃ t, exec (.packetCommit q) s = .next t ∧
      (t.queue q).commit = (s.queue q).write ∧ (t.queue q).opened = none ∧ (t.queue q).write = (s.queue q).write ∧
      (t.queue q).read = (s.queue q).read ∧ (t.queue q).release = (s.queue q).release ∧
      (∀ r, r ≠ q → t.queue r = s.queue r) ∧
      t = { s with queues := t.queues, dom := t.dom, regs := t.regs, field := t.field } := by
  refine ⟨_, packetCommit_next hl hn ho, ?_⟩
  generalize hu : s.setQueue q { s.queue q with commit := (s.queue q).write, opened := none } = u
  obtain ⟨b, e⟩ := pqCompare_queue_self u q
  obtain ⟨qs, d, f, e'⟩ := pqCompare_fields u q
  have hq : u.queue q = { s.queue q with commit := (s.queue q).write, opened := none } := by rw [← hu, queue_setQueue_self]
  rw [e, hq]
  refine ⟨rfl, rfl, rfl, rfl, rfl, fun r hr => ?_, ?_⟩
  · rw [pqCompare_queue_ne _ hr.symm, ← hu, queue_setQueue_ne _ _ hr.symm]
  · rw [e', ← hu]
    rfl

/-- An abort takes the open packet's words back and counts it (R255). -/
theorem packetAbort_opened {q n : Nat} {s : State} (hl : s.live = true) (hn : (s.queue q).opened = some n)
    (ho : (s.queue q).offers = []) :
    ∃ t, exec (.packetAbort q) s = .next t ∧
      (t.queue q).write = ptrSub (s.queue q).write n ∧ (t.queue q).opened = none ∧ (t.queue q).commit = (s.queue q).commit ∧
      (∀ c, s.queueOwner q = some c → t.get (Key.PQ_ABORT_COUNT c) = satAdd max32 (s.get (Key.PQ_ABORT_COUNT c)) 1) ∧
      (∀ r, r ≠ q → t.queue r = s.queue r) ∧ t = { s with queues := t.queues, regs := t.regs } := by
  refine ⟨_, packetAbort_next hl hn ho, ?_⟩
  rw [queue_pqAbortCounted_self]
  unfold State.pqAborted
  refine ⟨rfl, rfl, rfl, fun c hc => get_pqAbortCounted hc, fun r hr => queue_pqAbortCounted_ne s n hr.symm, ?_⟩
  obtain ⟨rs, e⟩ := pqAbortCounted_moves s q n
  rw [e]
  rfl

/-- Settles O10: one lemma per command and kind of queue, over what the queue's shared operations move. -/
theorem queuePackets : Obligations.QueuePackets := by
  intro q prod ctx words s hl
  exact ⟨packetOffer_dropNewest hl, packetOffer_credit hl, fun n hn ho => ⟨packetCommit_opened hl hn ho, packetAbort_opened hl hn ho⟩⟩

end Sys2Proof.Machine

/-! SUPPORT. What an accepted free of a pool buffer does (R249), and what the notices of the copies, jobs and scans that it ends
can move (R273, R283, R302, R365). -/

namespace Sys2Proof.Machine

open Sys2Proof

/-! ### What a notice can move -/

/-- The registers that a notice posted on a packet queue can move: those of the fault log, the replay log and the trace (R426), the
interrupt causes (R392) and the drop counts (R266). -/
def noticeKeys : List Nat :=
  [Key.FLT_LOG_HEAD, Key.RPL_LOST, Key.TRC_LOST] ++ (List.range 4).map Key.INT_CAUSE ++ (List.range 8).map Key.PQ_DROP_COUNT

theorem intCause_mem_noticeKeys {l : Nat} (h : l < 4) : Key.INT_CAUSE l ∈ noticeKeys :=
  List.mem_append_left _ (List.mem_append_right _ (List.mem_map_of_mem (List.mem_range.2 h)))

theorem pqDropCount_mem_noticeKeys {c : Nat} (h : c < 8) : Key.PQ_DROP_COUNT c ∈ noticeKeys :=
  List.mem_append_right _ (List.mem_map_of_mem (List.mem_range.2 h))

/-- What the posting of notices leaves: pools, memories, contexts, and every register but its own. -/
structure NoticeFrame (s t : State) : Prop where
  pools : t.pools = s.pools
  stg : t.stg = s.stg
  env : t.env = s.env
  ctxs : t.ctxs = s.ctxs
  regs : keepsRegs noticeKeys s t

/-! One lemma per operation that posting a notice runs, from the plain updates up to the three notices. -/

namespace NoticeFrame

theorem refl (s : State) : NoticeFrame s s := ⟨rfl, rfl, rfl, rfl, fun _ _ => rfl⟩

theorem trans {s t u : State} (h : NoticeFrame s t) (h' : NoticeFrame t u) : NoticeFrame s u :=
  ⟨h'.pools.trans h.pools, h'.stg.trans h.stg, h'.env.trans h.env, h'.ctxs.trans h.ctxs,
    fun k hk => (h'.regs k hk).trans (h.regs k hk)⟩

theorem ite {c : Prop} [Decidable c] {s a b : State} (ha : NoticeFrame s a) (hb : NoticeFrame s b) :
    NoticeFrame s (if c then a else b) := by
  split
  · exact ha
  · exact hb

theorem put (s : State) {k : Nat} (v : Nat) (hk : k ∈ noticeKeys) : NoticeFrame s (s.put k v) :=
  ⟨rfl, rfl, rfl, rfl, fun _ hj => get_put_ne s v (ne_of_mem_of_not_mem hk hj)⟩

theorem count (s : State) {k : Nat} (n : Nat) (hk : k ∈ noticeKeys) : NoticeFrame s (s.count k n) := put s _ hk

theorem domPut (s : State) (k o : Nat) (bs : Bytes) : NoticeFrame s (s.domPut k o bs) := ⟨rfl, rfl, rfl, rfl, fun _ _ => rfl⟩

theorem dru (s : State) (d : Dru) : NoticeFrame s { s with dru := d } := ⟨rfl, rfl, rfl, rfl, fun _ _ => rfl⟩

theorem obs (s : State) (o : Obs) : NoticeFrame s { s with obs := o } := ⟨rfl, rfl, rfl, rfl, fun _ _ => rfl⟩

theorem setQueue (s : State) (q : Nat) (x : Queue) : NoticeFrame s (s.setQueue q x) := ⟨rfl, rfl, rfl, rfl, fun _ _ => rfl⟩

theorem syncInts (s : State) : NoticeFrame s s.syncInts := by
  obtain ⟨f, e⟩ := syncInts_moves_field s
  rw [e]
  exact ⟨rfl, rfl, rfl, rfl, fun _ _ => rfl⟩

theorem setCause (s : State) {l : Nat} (b : Nat) (hl : l < 4) : NoticeFrame s (s.setCause l b) :=
  (put s _ (intCause_mem_noticeKeys hl)).trans (syncInts _)

/-! ### The fault log -/

theorem rpl (s : State) (k : Nat) (c : Option Nat) (a : Nat) (b : Bool) (x y : Nat) : NoticeFrame s (s.rpl k c a b x y) := by
  unfold State.rpl
  exact ite (trans (ite (refl s) (count s 1 (k := Key.RPL_LOST) (by decide))) (dru ..)) (refl s)

theorem trace (s : State) (k : Nat) (c : Option Nat) (a : Nat) (p : Option Nat) (x y : Nat) : NoticeFrame s (s.trace k c a p x y) := by
  unfold State.trace
  exact ite (trans (ite (refl s) (count s 1 (k := Key.TRC_LOST) (by decide))) (obs ..)) (refl s)

theorem evCount (s : State) (e : Ev) : NoticeFrame s (s.evCount e) := by
  unfold State.evCount
  exact ite ((domPut ..).trans (setCause _ _ (Nat.mod_lt _ (by decide)))) (domPut ..)

theorem logOne (s : State) (e : Ev) : NoticeFrame s (s.logOne e) := by
  unfold State.logOne
  dsimp only
  refine trans ?_ (trace ..)
  refine trans ?_ (rpl ..)
  refine trans ?_ (evCount ..)
  refine trans ?_ (put _ _ (by decide))
  exact trans (ite (domPut ..) (refl s)) (domPut ..)

theorem log (s : State) (e : Ev) : NoticeFrame s (s.log e) := logOne s e

/-! ### Packets posted -/

theorem pqDrop (s : State) (q : Nat) {ctx : Nat} (hc : ctx < 8) : NoticeFrame s (s.pqDrop q ctx) := by
  refine count s 1 (pqDropCount_mem_noticeKeys ?_)
  cases h : s.queueOwner q with
  | none => exact hc
  | some c => exact List.mem_range.1 (List.mem_of_find?_eq_some h)

theorem pqAccept (s : State) (q : Nat) (x : Queue) (words : List Bytes) : NoticeFrame s (s.pqAccept q x words) := by
  obtain ⟨m, e⟩ := pqAccept_moves s q x words
  rw [e]
  exact ⟨rfl, rfl, rfl, rfl, fun _ _ => rfl⟩

theorem pqOffer (s : State) (q : Nat) {ctx : Nat} (words : List Bytes) (hc : ctx < 8) : NoticeFrame s (s.pqOffer q ctx words).1 := by
  have refused : ∀ e, NoticeFrame s ((s.log e).pqDrop q ctx) := fun e => (log s e).trans (pqDrop _ q hc)
  have dropped : ∀ x, NoticeFrame s ((s.setQueue q x).pqDrop q ctx) := fun x => (setQueue s q x).trans (pqDrop _ q hc)
  unfold State.pqOffer
  dsimp only
  split
  · exact refused _
  split
  · exact refused _
  split
  · exact refl s
  split
  · split
    · exact refl s
    · exact pqAccept s q { s.queue q with credits := (s.queue q).credits - words.length } words
  split
  · exact pqAccept s q (s.queue q) words
  · exact dropped _

theorem pqCompare (s : State) (q : Nat) : NoticeFrame s (s.pqCompare q) := by
  obtain ⟨qs, d, f, e⟩ := pqCompare_fields s q
  rw [e]
  exact ⟨rfl, rfl, rfl, rfl, fun _ _ => rfl⟩

theorem pqCommit (s : State) (q : Nat) : NoticeFrame s (s.pqCommit q) := by
  cases h : (s.queue q).opened with
  | some n =>
    rw [pqCommit_opened h]
    exact (setQueue ..).trans (pqCompare ..)
  | none =>
    unfold State.pqCommit
    simp only [h]
    exact refl s

theorem post (s : State) (q producer : Nat) {ctx : Nat} (words : List Bytes) (hc : ctx < 8) :
    NoticeFrame s (s.post q producer ctx words) := by
  have ho := pqOffer s q words hc
  unfold State.post
  refine ite ?_ (setQueue ..)
  split
  · next e => exact (e ▸ ho).trans (pqCommit ..)
  · next e => exact (e ▸ ho).trans (setQueue ..)

theorem copyNotice (s : State) (m d : Nat) (aborted : Bool) : NoticeFrame s (s.copyNotice m d aborted) :=
  ite (post _ _ _ _ (Nat.mod_lt _ (by decide))) (refl s)

theorem jobNotice (s : State) (q d : Nat) (aborted masked : Bool) : NoticeFrame s (s.jobNotice q d aborted masked) :=
  ite (post _ _ _ _ (Nat.mod_lt _ (by decide))) (refl s)

theorem scanNotice (s : State) (d status result : Nat) : NoticeFrame s (s.scanNotice d status result) :=
  ite (post _ _ _ _ (Nat.mod_lt _ (by decide))) (refl s)

theorem foldl {α : Type} {f : State → α → State} (l : List α) (s : State) (hf : ∀ s a, NoticeFrame s (f s a)) :
    NoticeFrame s (l.foldl f s) :=
  List.foldlRecOn (motive := NoticeFrame s) l f (refl s) (fun _ h a _ => h.trans (hf _ a))

end NoticeFrame

/-! ### What a free ends -/

/-- No scan, copy or job waits for its unit. -/
def State.noStarts (s : State) : Prop := s.cvu.queue = [] ∧ s.press.queue = [] ∧ s.sfu.queue = []

/-- What the end of copies, jobs and scans leaves: what a notice leaves, and every register where none waits. -/
structure EndFrame (s t : State) : Prop where
  notice : NoticeFrame s t
  silent : s.noStarts → t.noStarts ∧ t.regs = s.regs

namespace EndFrame

theorem refl (s : State) : EndFrame s s := ⟨.refl s, fun h => ⟨h, rfl⟩⟩

theorem trans {s t u : State} (h : EndFrame s t) (h' : EndFrame t u) : EndFrame s u :=
  ⟨h.notice.trans h'.notice, fun hs =>
    have ⟨ht, et⟩ := h.silent hs
    have ⟨hu, eu⟩ := h'.silent ht
    ⟨hu, eu.trans et⟩⟩

theorem ite {c : Prop} [Decidable c] {s a b : State} (ha : EndFrame s a) (hb : EndFrame s b) : EndFrame s (if c then a else b) := by
  split
  · exact ha
  · exact hb

theorem foldl {α : Type} {f : State → α → State} (l : List α) (s : State) (hf : ∀ s a, EndFrame s (f s a)) :
    EndFrame s (l.foldl f s) :=
  List.foldlRecOn (motive := EndFrame s) l f (refl s) (fun _ h a _ => h.trans (hf _ a))

theorem clearValid (s : State) (dom size n bitAt : Nat) : EndFrame s (s.clearValid dom size n bitAt) :=
  ⟨.domPut .., fun h => ⟨h, rfl⟩⟩

theorem endCopy (s : State) (m d : Nat) : EndFrame s (s.endCopy m d) := by
  constructor
  · refine .trans ?_ (.foldl _ _ fun t _ => .copyNotice t m d true)
    exact ⟨rfl, rfl, rfl, rfl, fun _ _ => rfl⟩
  · rintro ⟨hc, hp, hs⟩
    simp [State.endCopy, State.noStarts, hc, hp, hs]

theorem endJob (s : State) (q d : Nat) : EndFrame s (s.endJob q d) := by
  constructor
  · refine .trans ?_ (.foldl _ _ fun t _ => .jobNotice t q d true false)
    exact ⟨rfl, rfl, rfl, rfl, fun _ _ => rfl⟩
  · rintro ⟨hc, hp, hs⟩
    simp [State.endJob, State.noStarts, hc, hp, hs]

theorem endScans (s : State) (p : Nat → Bool) : EndFrame s (s.endScans p) := by
  constructor
  · refine .trans ?_ (.foldl _ _ fun t d => .scanNotice t (unle d) 2 0)
    exact ⟨rfl, rfl, rfl, rfl, fun _ _ => rfl⟩
  · rintro ⟨hc, hp, hs⟩
    simp [State.endScans, State.noStarts, hc, hp, hs]

theorem dropUsers (s : State) (n : Nat) : EndFrame s (s.dropUsers n) := by
  refine .trans (foldl _ s fun t m => ?_) (foldl _ _ fun t q => ?_)
  · exact ite ((clearValid ..).trans (endCopy ..)) (refl t)
  · exact ite ((clearValid ..).trans (endJob ..)) (refl t)

theorem invalidate (s : State) (p : Nat → Bool) : EndFrame s (s.invalidate p) :=
  foldl _ s fun t _ => ite ((clearValid ..).trans (dropUsers ..)) (refl t)

theorem bufferGone (s : State) (host : Bool) (a n : Nat) : EndFrame s (s.bufferGone host a n) := by
  unfold State.bufferGone
  exact trans (trans (invalidate ..) (foldl _ _ fun t _ => ite (clearValid ..) (refl t))) (endScans ..)

end EndFrame

/-! ### A buffer freed -/

/-- Equal stores read alike. -/
theorem get_of_regs {s t : State} (h : t.regs = s.regs) (k : Nat) : t.get k = s.get k := by
  unfold State.get
  rw [h]

/-- A pool class replaced by itself. -/
theorem setPool_pool_self (s : State) (c : Nat) : s.setPool c (s.pool c) = s := by
  unfold State.setPool State.pool setAt nth
  congr 1
  by_cases h : c < s.pools.length
  · simp [h]
  · rw [List.set_eq_of_length_le (Nat.le_of_not_lt h)]

/-- A spill takes entries from under the cache's top, and leaves the owner map (R242). -/
theorem startSpill_replaces (s : State) (c : Nat) :
    ∃ p, s.startSpill c = s.setPool c p ∧ p.owner = (s.pool c).owner ∧ p.cache.head? = (s.pool c).cache.head? := by
  unfold State.startSpill
  dsimp only
  split
  · next h =>
    refine ⟨_, rfl, rfl, ?_⟩
    rw [List.head?_take, if_neg (by omega)]
  · exact ⟨s.pool c, (setPool_pool_self s c).symm, rfl, rfl⟩

/-- What an accepted free of buffer `i` of class `c`, held by context `o`, makes of a state (R249). -/
structure Freed (s : State) (o c i : Nat) (t : State) : Prop where
  owner : t.owner c i = none
  top : (t.pool c).cache.head? = some (s.get (Key.POOL_BASE c) + i * poolSize c)
  held : t.get (Key.POOL_HELD c o) = s.get (Key.POOL_HELD c o) - 1
  free : t.get (Key.POOL_FREE c) = (s.get (Key.POOL_FREE c) + 1) % 2 ^ 64
  banks : ∀ k, k ∈ bankKeys → t.get k = s.get k
  others : ∀ d, d ≠ c → t.pool d = s.pool d
  stg : t.stg = s.stg
  env : t.env = s.env
  ctxs : t.ctxs = s.ctxs

/-- The state with buffer `i` of class `c` back on top of the cache and taken from its holder `o` (R249), before a spill and before
what the free ends. -/
def State.poolReturned (s : State) (o c i : Nat) : State :=
  let p := s.pool c
  let s := s.setPool c { p with owner := Sparse.del p.owner i, cache := (s.get (Key.POOL_BASE c) + i * poolSize c) :: p.cache }
  let s := s.put (Key.POOL_HELD c o) (s.get (Key.POOL_HELD c o) - 1)
  s.put (Key.POOL_FREE c) (s.get (Key.POOL_FREE c) + 1)

/-- An accepted free is the return of the buffer, then a spill, then what the free ends. -/
theorem freeBuffer_of_owner {s : State} {o c i : Nat} (ho : s.owner c i = some o) :
    s.freeBuffer c i = ((s.poolReturned o c i).startSpill c).bufferGone (c ≥ 3) (s.get (Key.POOL_BASE c) + i * poolSize c) (poolSize c) := by
  unfold State.freeBuffer
  rw [ho]
  rfl

section Returned
variable {s : State} {o c i : Nat}

theorem poolReturned_stg : (s.poolReturned o c i).stg = s.stg := by simp only [State.poolReturned, put_stg, setPool_stg]
theorem poolReturned_env : (s.poolReturned o c i).env = s.env := by simp only [State.poolReturned, put_env, setPool_env]
theorem poolReturned_ctxs : (s.poolReturned o c i).ctxs = s.ctxs := by simp only [State.poolReturned, put_ctxs, setPool_ctxs]
theorem noStarts_setPool {p : PoolClass} (h : s.noStarts) : (s.setPool c p).noStarts := h
theorem poolReturned_noStarts (h : s.noStarts) : (s.poolReturned o c i).noStarts := by
  simpa only [State.noStarts, State.poolReturned, put_cvu, put_press, put_sfu, setPool_cvu, setPool_press, setPool_sfu] using h

/-- The class of a returned buffer: the owner-map entry clear, the buffer on top. -/
theorem poolReturned_pool_self (h : c < s.pools.length) : (s.poolReturned o c i).pool c =
    { s.pool c with owner := Sparse.del (s.pool c).owner i, cache := (s.get (Key.POOL_BASE c) + i * poolSize c) :: (s.pool c).cache } := by
  simp only [State.poolReturned, pool_put]
  exact pool_setPool_self _ h

theorem poolReturned_pool_ne {d : Nat} (h : c ≠ d) : (s.poolReturned o c i).pool d = s.pool d := by
  simp only [State.poolReturned, pool_put]
  exact pool_setPool_ne s _ h

theorem poolHeld_ne_poolFree : Key.POOL_HELD c o ≠ Key.POOL_FREE c := by
  unfold Key.POOL_HELD Key.POOL_FREE
  omega

/-- The holder has one buffer less. -/
theorem poolReturned_held : (s.poolReturned o c i).get (Key.POOL_HELD c o) = s.get (Key.POOL_HELD c o) - 1 := by
  have hlt := get_lt s (Key.POOL_HELD c o)
  unfold State.poolReturned
  rw [get_put_ne _ _ poolHeld_ne_poolFree.symm, get_put_self, get_setPool]
  omega

/-- The class has one free buffer more. -/
theorem poolReturned_free :
    (s.poolReturned o c i).get (Key.POOL_FREE c) = (s.get (Key.POOL_FREE c) + 1) % 2 ^ 64 := by
  unfold State.poolReturned
  rw [get_put_self, get_put_ne _ _ poolHeld_ne_poolFree, get_setPool]

/-- A buffer's return moves the two counts alone. -/
theorem poolReturned_keepsRegs : keepsRegs [Key.POOL_HELD c o, Key.POOL_FREE c] s (s.poolReturned o c i) := by
  intro k hk
  simp only [List.mem_cons, List.not_mem_nil, or_false, not_or] at hk
  unfold State.poolReturned
  rw [get_put_ne _ _ (Ne.symm hk.2), get_put_ne _ _ (Ne.symm hk.1), get_setPool]
end Returned

/-- The registers of a notice lie below the pools' entries, between the pool counters and the bank counters, or above these. -/
theorem noticeKeys_apart : ∀ k ∈ noticeKeys, k < 0x500000 ∨ 0x601901 ≤ k ∧ k < 0x603801 ∨ 0x603A00 ≤ k := by decide

theorem poolHeld_not_mem_noticeKeys {c o : Nat} (hc : c < 5) (ho : o < 8) : Key.POOL_HELD c o ∉ noticeKeys := by
  intro h
  have := noticeKeys_apart _ h
  unfold Key.POOL_HELD at this
  omega

theorem poolFree_not_mem_noticeKeys {c : Nat} (hc : c < 5) : Key.POOL_FREE c ∉ noticeKeys := by
  intro h
  have := noticeKeys_apart _ h
  unfold Key.POOL_FREE at this
  omega

/-- The bank counters lie above the pools' entries. -/
theorem bankKeys_range {k : Nat} (h : k ∈ bankKeys) : 0x603801 ≤ k ∧ k < 0x603A00 := by
  obtain ⟨b, hb, hk⟩ := List.mem_flatMap.1 h
  have hb := List.mem_range.1 hb
  have hk : k = 0x603801 + b ∨ k = 0x603901 + b := by simpa [Key.STG_BANK_READS, Key.STG_BANK_WRITES] using hk
  omega

/-- An accepted free leaves what the end of copies, jobs and scans leaves of the state with the buffer returned, its class's cache
spilled or not. -/
theorem freeBuffer_frame {s : State} {o c i : Nat} (hl : c < s.pools.length) (ho : s.owner c i = some o) :
    ∃ p : PoolClass, p.owner = Sparse.del (s.pool c).owner i ∧
      p.cache.head? = some (s.get (Key.POOL_BASE c) + i * poolSize c) ∧
      EndFrame ((s.poolReturned o c i).setPool c p) (s.freeBuffer c i) := by
  obtain ⟨p, e, hpo, hpc⟩ := startSpill_replaces (s.poolReturned o c i) c
  rw [poolReturned_pool_self hl] at hpo hpc
  refine ⟨p, hpo, hpc, ?_⟩
  rw [freeBuffer_of_owner ho, e]
  exact .bufferGone ..

/-- An accepted free puts the buffer on top of its class's cache and takes it from its holder (R247, R249). -/
theorem freeBuffer_freed {s : State} {o c i : Nat} (hs : s.pools.length = 5) (hc : c < 5) (ho8 : o < 8)
    (ho : s.owner c i = some o) : Freed s o c i (s.freeBuffer c i) := by
  have hl : c < s.pools.length := hs ▸ hc
  have hl' : c < (s.poolReturned o c i).pools.length := by
    show c < (setAt s.pools c _).length
    rwa [setAt_length]
  obtain ⟨p, hpo, hpc, ⟨⟨pools, stg, env, ctxs, regs⟩, -⟩⟩ := freeBuffer_frame hl ho
  generalize s.freeBuffer c i = t at *
  have hp : ∀ d, t.pool d = ((s.poolReturned o c i).setPool c p).pool d := fun d => congrArg (fun l => nth l d ({} : PoolClass)) pools
  have hpc' : t.pool c = p := (hp c).trans (pool_setPool_self p hl')
  constructor
  case owner =>
    unfold State.owner
    rw [hpc', hpo, get?_del, if_pos rfl]
  case top => rw [hpc', hpc]
  case held => rw [regs _ (poolHeld_not_mem_noticeKeys hc ho8), get_setPool, poolReturned_held]
  case free => rw [regs _ (poolFree_not_mem_noticeKeys hc), get_setPool, poolReturned_free]
  case banks =>
    intro k hk
    have hr := bankKeys_range hk
    rw [regs k (fun h => by have := noticeKeys_apart k h; omega), get_setPool]
    refine poolReturned_keepsRegs k ?_
    simp only [List.mem_cons, List.not_mem_nil, or_false, Key.POOL_HELD, Key.POOL_FREE]
    omega
  case others =>
    intro d hd
    rw [hp, pool_setPool_ne _ _ hd.symm, poolReturned_pool_ne hd.symm]
  case stg => rw [stg, setPool_stg, poolReturned_stg]
  case env => rw [env, setPool_env, poolReturned_env]
  case ctxs => rw [ctxs, setPool_ctxs, poolReturned_ctxs]

/-- Where no copy, job or scan waits, an accepted free moves the two counts alone. -/
theorem freeBuffer_keepsRegs {s : State} {o c i : Nat} (hl : c < s.pools.length) (ho : s.owner c i = some o) (hn : s.noStarts) :
    keepsRegs [Key.POOL_HELD c o, Key.POOL_FREE c] s (s.freeBuffer c i) := by
  obtain ⟨p, -, -, h⟩ := freeBuffer_frame hl ho
  intro k hk
  rw [get_of_regs (h.silent (noStarts_setPool (poolReturned_noStarts hn))).2, get_setPool]
  exact poolReturned_keepsRegs k hk

/-! ### The free's checks -/

/-- A buffer found lies in one of the classes looked at. -/
theorem bufferAt_mem {s : State} {cs : List Nat} {a n c i : Nat} (h : s.bufferAt cs a n = some (c, i)) : c ∈ cs := by
  unfold State.bufferAt at h
  obtain ⟨d, hd, hd'⟩ := Option.bind_eq_some_iff.1 h
  dsimp only at hd'
  split at hd'
  · cases hd'
    exact List.mem_of_find?_eq_some hd
  · cases hd'

/-- A free that passes its checks names a buffer of an enabled class that the context holds (Table 9.5). -/
theorem freeCheck_ok {s : State} {host : Bool} {ctx a c i : Nat} (h : s.freeCheck host ctx a = .ok (c, i)) :
    c < 5 ∧ s.owner c i = some ctx := by
  unfold State.freeCheck at h
  split at h
  · cases h
  next c' i' hb =>
    split at h
    · cases h
    split at h
    · cases h
    next o hown =>
      split at h
      next hctx =>
        cases h
        refine ⟨?_, hctx ▸ hown⟩
        have hm := bufferAt_mem hb
        cases host <;> simp at hm <;> omega
      · cases h

/-- The registers of the pools lie above the field network's. -/
theorem not_mem_canKeys {k : Nat} (h : 0x500000 ≤ k) : k ∉ canKeys := by
  simp only [canKeys, Key.COM_CAN_REC, Key.COM_CAN_STATE, List.mem_cons, List.not_mem_nil, or_false]
  omega

/-- The checks read the pools and the pools' entries alone, and not the registers that a request frame moves (R390). -/
theorem freeCheck_congr {s t : State} (hp : t.pools = s.pools) (hr : keepsRegs canKeys s t) (host : Bool) (ctx a : Nat) :
    t.freeCheck host ctx a = s.freeCheck host ctx a := by
  have hk : ∀ k, 0x500000 ≤ k → t.get k = s.get k := fun k h => hr k (not_mem_canKeys h)
  have hbase : ∀ c, t.get (Key.POOL_BASE c) = s.get (Key.POOL_BASE c) := fun c => hk _ (by unfold Key.POOL_BASE; omega)
  have hcount : ∀ c, t.poolCount c = s.poolCount c := fun c => by
    unfold State.poolCount
    rw [hk Key.POOL_STATE (by decide), hk (Key.POOL_COUNT c) (by unfold Key.POOL_COUNT; omega)]
  have howner : ∀ c i, t.owner c i = s.owner c i := fun c i => by
    unfold State.owner State.pool
    rw [hp]
  have hat : ∀ cs n, t.bufferAt cs a n = s.bufferAt cs a n := fun cs n => by
    simp only [State.bufferAt, hbase, hcount]
  simp only [State.freeCheck, hat, hbase, howner]

/-! ### The two commands -/

/-- An accepted free by a unit (R247). -/
theorem poolFree_next {s : State} {ctx a c i : Nat} (hl : s.live = true) (h : s.freeCheck false ctx a = .ok (c, i)) :
    exec (.poolFree ctx a) s = .next (s.freeBuffer c i) := by
  show Host.Outcome.next (act (freeOp false ctx a) s) = _
  rw [act_of_live _ hl]
  unfold freeOp
  rw [h]

/-- A write of POOL_FREE_REQ whose free is accepted. -/
theorem writeScalar_poolFreeReq {s : State} (tr : Transport) {v c i : Nat}
    (h : s.freeCheck true (bits v 61 3) (bits v 0 61) = .ok (c, i)) : s.writeScalar tr 0x5006 0x03 v = (s.freeBuffer c i, none) := by
  have hw : s.writeScalar tr 0x5006 0x03 v = s.hostFree v := rfl
  rw [hw]
  unfold State.hostFree
  simp only [h]

/-- A request opened moves no register but the field network's two. -/
theorem opened_keepsRegs (s : State) (tr : Transport) (v : Nat) : keepsRegs canKeys s (s.opened tr v) := by
  intro k hk
  simp only [canKeys, List.mem_cons, List.not_mem_nil, or_false, not_or] at hk
  exact opened_get s tr v k hk.1 hk.2

theorem opened_pools (s : State) (tr : Transport) (v : Nat) : (s.opened tr v).pools = s.pools := by cases tr <;> rfl
theorem opened_stg (s : State) (tr : Transport) (v : Nat) : (s.opened tr v).stg = s.stg := by cases tr <;> rfl
theorem opened_env (s : State) (tr : Transport) (v : Nat) : (s.opened tr v).env = s.env := by cases tr <;> rfl
theorem opened_ctxs (s : State) (tr : Transport) (v : Nat) : (s.opened tr v).ctxs = s.ctxs := by cases tr <;> rfl

/-- An accepted free by the host: the buffer freed, and the transaction taken as accepted (R247, R374). -/
theorem poolFreeReq_next {s : State} {tr : Transport} {v : U64} {c i : Nat} (hh : hostReady tr s = true)
    (hq : s.get Key.RPL_STATE ≠ 1) (h : s.freeCheck true (bits v.toNat 61 3) (bits v.toNat 0 61) = .ok (c, i)) :
    exec (.poolFreeReq tr v) s =
      .next (taken tr { op := 2, idx := 0x5006, sub := 0x03 } ((s.opened tr v.toNat).freeBuffer c i)) := by
  have hw := writeScalar_poolFreeReq tr
    ((freeCheck_congr (opened_pools s tr v.toNat) (opened_keepsRegs s tr v.toNat) _ _ _).trans h)
  have hv : valueOk (entryKey 0x5006 0x03) v.toNat ⟨0x5006, 0x5006, 3, 3, 5, 3, 8⟩ = true := by
    have hr : rangeOk (entryKey 0x5006 0x03) v.toNat = true := rfl
    simp only [valueOk, hr, Bool.and_true]
    simpa using v.isLt
  have := scalar_next (idx := 0x5006) (sub := 0x03) hh (by decide) (by decide) v.isLt (by rfl) (by decide) (by rfl)
    (oneCheck_any (by rfl) (by decide) hv) (by decide) (by decide) (by rw [hw]) hq
  rw [hw] at this
  exact this

/-- A buffer freed while a request is open is freed from the state before it. -/
theorem Freed.of_opened {s t : State} {tr : Transport} {v o c i : Nat} (h : Freed (s.opened tr v) o c i t) : Freed s o c i t := by
  have hk : ∀ k, 0x500000 ≤ k → (s.opened tr v).get k = s.get k := fun k hk => opened_keepsRegs s tr v k (not_mem_canKeys hk)
  constructor
  case owner => exact h.owner
  case top => rw [h.top, hk _ (by unfold Key.POOL_BASE; omega)]
  case held => rw [h.held, hk _ (by unfold Key.POOL_HELD; omega)]
  case free => rw [h.free, hk _ (by unfold Key.POOL_FREE; omega)]
  case banks =>
    intro k hb
    rw [h.banks k hb, hk k (by have := bankKeys_range hb; omega)]
  case others =>
    intro d hd
    rw [h.others d hd]
    unfold State.pool
    rw [opened_pools]
  case stg => rw [h.stg, opened_stg]
  case env => rw [h.env, opened_env]
  case ctxs => rw [h.ctxs, opened_ctxs]

/-- The transport's own transaction moves nothing of a free. -/
theorem Freed.taken {s t : State} {tr : Transport} {x : Txn} {o c i : Nat} (h : Freed s o c i t) :
    Freed s o c i (Machine.taken tr x t) := by
  cases tr <;> exact ⟨h.owner, h.top, h.held, h.free, h.banks, h.others, h.stg, h.env, h.ctxs⟩

/-- Settles O7: a unit's free and a host's free are the same return of a buffer, and what it ends posts notices alone. -/
theorem poolFreeReturnsBuffer : Obligations.PoolFreeReturnsBuffer := by
  refine ⟨fun ctx a c i s hl _ hs hx hc => ?_, fun tr v c i s hh hq hs hc => ?_⟩
  · obtain ⟨-, hp, -⟩ := hs
    obtain ⟨hc5, ho⟩ := freeCheck_ok hc
    obtain ⟨owner, top, held, free, banks, others, stg, env, ctxs⟩ := freeBuffer_freed hp hc5 hx ho
    exact ⟨_, poolFree_next hl hc, owner, top, held, free, banks, others, stg, env, ctxs,
      fun h1 h2 h3 => freeBuffer_keepsRegs (hp ▸ hc5) ho ⟨h1, h2, h3⟩⟩
  · obtain ⟨-, hp, -⟩ := hs
    obtain ⟨hrpl, -⟩ : s.get Key.RPL_STATE ≠ 1 ∧ _ := by simpa [quiet] using hq
    obtain ⟨hc5, ho⟩ := freeCheck_ok ((freeCheck_congr (opened_pools s tr v.toNat) (opened_keepsRegs s tr v.toNat) _ _ _).trans hc)
    have hf := freeBuffer_freed ((congrArg List.length (opened_pools s tr v.toNat)).trans hp) hc5 (Nat.mod_lt _ (by decide)) ho
    obtain ⟨owner, top, held, free, banks, others, stg, env, ctxs⟩ := hf.of_opened.taken (tr := tr)
      (x := { op := 2, idx := 0x5006, sub := 0x03 })
    refine ⟨_, poolFreeReq_next hh hrpl hc, ?_, owner, top, held, free, banks, others, stg, env, ctxs⟩
    unfold accepted Machine.taken
    rw [tport_setTport]
    rfl

end Sys2Proof.Machine

/-! SUPPORT. Why the statement of the fabric's messages fails: it speaks of every state, and so of one whose recorded reply names a node past
the 14 bits of DEST_NODE (Table 13.3). The route word of such a node can stand in a table that the command itself writes. -/

namespace Sys2Proof.Machine

open Sys2Proof

/-- The node, far past 14 bits, whose word of FEP_ROUTE would stand where FEP_COUNTERS begins: the first two bytes of context 0's
counter 0. -/
def strayNode : Nat := (Dom.FEP_COUNTERS - Dom.FEP_ROUTE) * domSpan / 2

/-- An applied store that raises counter 0 of context 0 (R352), with its reply for that node. -/
def strayWrite : WriteBack :=
  { msg := { kind := 2, src := strayNode, count := true }, reply := { kind := 8, dst := strayNode } }

/-- The engine after reset with port 0 up alone, and that store to complete. -/
def straying : State := { State.reset with ports := { up := true } :: List.replicate 47 {}, fep := { writes := [strayWrite] } }

/-- The state is one that the statement speaks of. -/
theorem straying_admitted : straying.live = true ∧ quiet straying = true ∧ shaped straying ∧ Memory.wf straying = true := by
  unfold shaped; decide +kernel

/-- While the counter is zero the reply's route is port 0. -/
theorem straying_fepRoute : strayNode ≠ straying.node ∧ straying.fepRoute strayNode = some 0 := by decide +kernel

/-- The completion raises the counter to one, so that the reply's route is port 1, which is down: the reply is discarded (R340) and
waits on no port. -/
theorem straying_complete :
    exec (.fepWriteComplete strayNode 0) straying = .next (fepWriteCompleteOp strayNode 0 straying) ∧
      ((fepWriteCompleteOp strayNode 0 straying).fep.port 0).rspOwn = [] :=
  ⟨congrArg Host.Outcome.next (act_of_live _ straying_admitted.1), by decide +kernel⟩

/-- Refutes O56: FEP_WRITE_COMPLETE of `straying`. The statement bounds the contexts and counters of what is applied and completed, but
not the nodes; the counter that the completion raises is the route word of its reply's node, and the reply does not reach the port that
it was routed to. -/
theorem not_fabricMessages : ¬ Obligations.FabricMessages := by
  unfold Obligations.FabricMessages
  intro h
  obtain ⟨hlive, hquiet, hshaped, hwf⟩ := straying_admitted
  obtain ⟨-, -, -, -, hcomplete⟩ := h straying hlive hquiet hshaped hwf
  obtain ⟨t, hexec, -, ⟨-, hport⟩, -⟩ := hcomplete strayNode 0 strayWrite (by decide +kernel) (by decide) (by decide) (by decide +kernel)
  obtain ⟨hnode, hroute⟩ := straying_fepRoute
  obtain ⟨hnext, hgone⟩ := straying_complete
  obtain rfl : fepWriteCompleteOp strayNode 0 straying = t := Host.Outcome.next.inj (hnext.symm.trans hexec)
  have hwaits := hport 0 hnode hroute
  rw [hgone] at hwaits
  exact List.not_mem_nil hwaits

end Sys2Proof.Machine

/-! SUPPORT. Resets, the root clock and power: what each of their operations leaves (R395, R400 to R405, R410). -/

namespace Sys2Proof.Machine

open Sys2Proof

/-- A list mapped reads as the image of what it held, the default's image past its end. -/
theorem nth_map {α β : Type} (f : α → β) (l : List α) (i : Nat) (d : α) : nth (l.map f) i (f d) = f (nth l i d) := by
  rw [nth, nth, List.getElem?_map, Option.getD_map]

/-! ### The cold reset and removed power -/

/-- Every entry of a cleared engine stands at its default (R373). -/
theorem get_cleared (s : State) (p : Phase) (k : Nat) : (s.cleared p).get k = (regDefault k).toNat := rfl

/-- A cleared engine's ports have no history; whether a link is up is the link's. -/
theorem port_cleared (s : State) (p : Phase) (i : Nat) : (s.cleared p).port i = { up := (s.port i).up } :=
  nth_map (fun x : LinkPort => ({ up := x.up } : LinkPort)) s.ports i {}

/-! ### The release of a cold reset -/

/-- The straps as latched: the node, and the state of a field network that has none (R386). -/
def State.strapLatched (s : State) (n : Nat) : State :=
  if n = 0 then (s.put Key.COM_CAN_NODE n).put Key.COM_CAN_STATE 3 else s.put Key.COM_CAN_NODE n

/-- Internal initialisation begun, the partition's key bits asked for and read where the engine has the partition (R438). -/
def State.keyRead (s : State) : State :=
  { s with phase := .initialising
           meter := if s.build.partition then { s.meter with key := le 32 s.env.key.toNat } else s.meter
           outbox := if s.build.partition then s.outbox ++ [.keyReq] else s.outbox }

/-- The release reads the key and latches the straps. -/
theorem coldResetReleaseOp_held {s : State} (hp : s.phase = .coldHeld) (hc : s.clockStopped = false) :
    coldResetReleaseOp s = s.keyRead.strapLatched (s.env.strap % 128) := by
  simp only [coldResetReleaseOp, State.keyRead, hp, hc, decide_true, Bool.not_false, Bool.and_self, if_true]
  cases s.build.partition <;> rfl

/-- Latching the straps writes entries alone. -/
theorem strapLatched_moves_regs (s : State) (n : Nat) : ∃ r, s.strapLatched n = { s with regs := r } := by
  unfold State.strapLatched
  split <;> exact ⟨_, rfl⟩

theorem strapLatched_regs (s : State) {n : Nat} (h : n ≠ 0) :
    (s.strapLatched n).regs = Sparse.set regDefault s.regs Key.COM_CAN_NODE (BitVec.ofNat 64 n) := by
  rw [State.strapLatched, if_neg h, put_regs]

/-- The node latched reads as strapped. -/
theorem get_strapLatched_node (s : State) {n : Nat} (h : n < 128) : (s.strapLatched n).get Key.COM_CAN_NODE = n := by
  have hn : (s.put Key.COM_CAN_NODE n).get Key.COM_CAN_NODE = n := by rw [get_put_self]; omega
  unfold State.strapLatched
  split
  · rw [get_put_ne _ _ (by decide), hn]
  · exact hn

/-- Without a node the field network's state is 3. -/
theorem get_strapLatched_state (s : State) : (s.strapLatched 0).get Key.COM_CAN_STATE = 3 := by
  rw [State.strapLatched, if_pos rfl, get_put_self]
  rfl

theorem strapLatched_keepsRegs (s : State) (n : Nat) : keepsRegs [Key.COM_CAN_NODE, Key.COM_CAN_STATE] s (s.strapLatched n) := by
  intro k hk
  obtain ⟨hnode, hstate⟩ : k ≠ Key.COM_CAN_NODE ∧ k ≠ Key.COM_CAN_STATE := by simpa using hk
  unfold State.strapLatched
  split
  · rw [get_put_ne _ _ hstate.symm, get_put_ne _ _ hnode.symm]
  · rw [get_put_ne _ _ hnode.symm]

/-- What a release moves: the phase, the partition and what the engine puts out, as the reading of the key leaves them, and entries. -/
theorem coldResetReleaseOp_moves {s : State} (hp : s.phase = .coldHeld) (hc : s.clockStopped = false) :
    ∃ r, coldResetReleaseOp s = { s.keyRead with regs := r } := by
  rw [coldResetReleaseOp_held hp hc]
  exact strapLatched_moves_regs _ _

/-! ### The end of internal initialisation -/

theorem internalInitDoneOp_initialising {s : State} (hp : s.phase = .initialising) (hc : s.clockStopped = false) :
    internalInitDoneOp s =
      { s with phase := .running, cp := {}, can := {}, time := { s.time with initAt := s.time.ticks },
               ports := s.ports.map (fun (x : LinkPort) => { x with silent := 0 }) } := by
  rw [internalInitDoneOp, hp, hc]
  rfl

/-- Every port's count of silent slots begins anew (R407). -/
theorem internalInitDoneOp_silent {s : State} (hp : s.phase = .initialising) (hc : s.clockStopped = false) (p : Nat) :
    ((internalInitDoneOp s).port p).silent = 0 := by
  rw [internalInitDoneOp_initialising hp hc]
  exact congrArg LinkPort.silent (nth_map (fun x : LinkPort => { x with silent := 0 }) s.ports p {})

/-! ### The warm reset -/

/-- Setting the CORE rate moves the frame's rates alone. -/
theorem setRate_moves_rates (s : State) : ∃ r, s.setRate = { s with rates := r } := by
  unfold State.setRate
  dsimp only
  split
  · split
    · exact ⟨s.rates, rfl⟩
    · exact ⟨_, rfl⟩
  · exact ⟨_, rfl⟩

/-- The entries that a warm reset leaves (Table 16.1). -/
theorem warmed_regs (s : State) : s.warmed.regs = s.regs.filter (fun e => warmKeeps e.1) := by
  unfold State.warmed
  obtain ⟨r, e⟩ := setRate_moves_rates _
  rw [e]

/-- The bytes of tables that a warm reset leaves (Table 16.1). -/
theorem warmed_dom (s : State) : s.warmed.dom = s.dom.filter (fun e => !warmZeroes (e.1 / domSpan)) := by
  unfold State.warmed
  obtain ⟨r, e⟩ := setRate_moves_rates _
  rw [e]

/-- What runs on through a warm reset: time, the links, the memories, the surroundings, the partition and the notices acted on. -/
theorem warmed_keeps (s : State) : s.warmed.time = s.time ∧ s.warmed.ports = s.ports ∧ s.warmed.stg = s.stg ∧
    s.warmed.qstore = s.qstore ∧ s.warmed.env = s.env ∧ s.warmed.meter = s.meter ∧ s.warmed.targets = s.targets := by
  unfold State.warmed
  obtain ⟨r, e⟩ := setRate_moves_rates _
  rw [e]
  exact ⟨rfl, rfl, rfl, rfl, rfl, rfl, rfl⟩

/-- What a warm reset empties: contexts, pools, windows, held flits, pieces and the Fabric Endpoint. -/
theorem warmed_empties (s : State) : s.warmed.ctxs = List.replicate 8 {} ∧ s.warmed.pools = List.replicate 5 {} ∧
    s.warmed.wins = [] ∧ s.warmed.helds = [] ∧ s.warmed.pieces = [] ∧ s.warmed.fep = s.fep.emptied := by
  unfold State.warmed
  obtain ⟨r, e⟩ := setRate_moves_rates _
  rw [e]
  exact ⟨rfl, rfl, rfl, rfl, rfl, rfl⟩

/-- A warm reset takes an entry to its default unless Table 16.1 keeps it. -/
theorem get_warmed (s : State) (k : Nat) : s.warmed.get k = if warmKeeps k = true then s.get k else (regDefault k).toNat := by
  unfold State.get Sparse.read
  rw [warmed_regs, get?_filter]
  split <;> rfl

theorem get?_warmed_dom (s : State) {a : Nat} (h : warmZeroes (a / domSpan) = false) :
    Sparse.get? s.warmed.dom a = Sparse.get? s.dom a := by
  rw [warmed_dom, get?_filter s.dom (fun i => !warmZeroes (i / domSpan)), h]
  rfl

/-- A context's TT_STATE is none of what Table 16.1 keeps, and its default is 0. -/
theorem ttState_not_warmKeeps : ∀ c < 8, warmKeeps (Key.TT_STATE c) = false ∧ (regDefault (Key.TT_STATE c)).toNat = 0 := by decide

theorem warmed_tt (s : State) {c : Nat} (h : c < 8) : s.warmed.tt c = 0 := by
  obtain ⟨hk, hd⟩ := ttState_not_warmKeeps c h
  rw [State.tt, get_warmed, hk, if_neg Bool.false_ne_true, hd]

/-- The reset input finds no effect where the engine does not work (R403, R405). -/
theorem warmResetInput_of_not_live {s : State} (h : s.live = false) : exec .warmResetInput s = .next s :=
  congrArg Host.Outcome.next (if_neg (Bool.eq_false_iff.mp h))

theorem warmResetInput_of_live {s : State} (h : s.live = true) : exec .warmResetInput s = .next (s.startWarm 2) :=
  congrArg Host.Outcome.next (if_pos h)

/-- A warm reset at its end: the cause noted and the reset counted (R403), the interrupt levels still to follow. -/
def State.warmNoted (s : State) (cause : Nat) : State :=
  (({ s with phase := .running } : State).put Key.RST_CAUSE cause).count Key.RST_WARM_COUNT 1

theorem warmResetDoneOp_warm {s : State} {cause : Nat} (hp : s.phase = .warm cause) (hc : s.clockStopped = false) :
    warmResetDoneOp s = (s.warmNoted cause).syncInts := by
  rw [warmResetDoneOp, hp]
  exact if_neg (Bool.eq_false_iff.mp hc)

theorem get_warmNoted_cause (s : State) (cause : Nat) : (s.warmNoted cause).get Key.RST_CAUSE = cause % 2 ^ 64 := by
  rw [State.warmNoted, get_count, get_put_ne _ _ (by decide), get_put_self]

theorem get_warmNoted_count (s : State) (cause : Nat) :
    (s.warmNoted cause).get Key.RST_WARM_COUNT = satAdd max32 (s.get Key.RST_WARM_COUNT) 1 := by
  rw [State.warmNoted, get_count_self, get_put_ne _ _ (by decide)]
  rfl

theorem warmNoted_keepsRegs (s : State) (cause : Nat) : keepsRegs [Key.RST_CAUSE, Key.RST_WARM_COUNT] s (s.warmNoted cause) := by
  intro k hk
  obtain ⟨hcause, hcount⟩ : k ≠ Key.RST_CAUSE ∧ k ≠ Key.RST_WARM_COUNT := by simpa using hk
  rw [State.warmNoted, get_count, get_put_ne _ _ hcount.symm, get_put_ne _ _ hcause.symm]
  rfl

/-! ### The root clock -/

/-- What stands once the root clock has stopped: build, surroundings, what was put out and the levels that the pins drive (R395). -/
theorem rootClockStopOp_keeps {s : State} (h : s.phase ≠ .off) :
    (rootClockStopOp s).clockStopped = true ∧ (rootClockStopOp s).build = s.build ∧ (rootClockStopOp s).env = s.env ∧
      (rootClockStopOp s).outbox = s.outbox ∧ (rootClockStopOp s).tpUp = s.tpUp := by
  rw [rootClockStopOp, if_neg h]
  exact ⟨rfl, rfl, rfl, rfl, rfl⟩

theorem rootClockStopOp_up {s : State} (h : s.phase ≠ .off) (p : Nat) : ((rootClockStopOp s).port p).up = (s.port p).up := by
  rw [rootClockStopOp, if_neg h]
  simp only [State.port, nth, List.getElem?_mapIdx]
  cases s.ports[p]? <;> rfl

/-- An engine whose root clock has stopped does not work. -/
theorem not_live_of_clockStopped {s : State} (h : s.clockStopped = true) : s.live = false := by
  rw [State.live, h, Bool.not_true, Bool.and_false]

/-! ### The statement -/

/-- From an engine strapped as node 1, a cold reset, its release and its initialisation reach the dictionary, the contexts and the pools
of `State.reset`, the throttle's samples apart. -/
theorem coldReset_reaches_reset {s : State} (h : s.env.strap % 128 = 1) :
    ∃ a b c, exec .coldResetAssert s = .next a ∧ exec .coldResetRelease a = .next b ∧ exec .internalInitDone b = .next c ∧
      c.regs = State.reset.regs ∧ c.dom = State.reset.dom ∧
      c.time = { State.reset.time with throttle := s.time.throttle, sampled := 0 } ∧
      c.ctxs = State.reset.ctxs ∧ c.pools = State.reset.pools ∧ c.phase = State.reset.phase := by
  obtain ⟨r, e⟩ := coldResetReleaseOp_moves (s := s.cleared .coldHeld) rfl rfl
  have hr : r = State.reset.regs :=
    calc r = (coldResetReleaseOp (s.cleared .coldHeld)).regs := by rw [e]
      _ = ((s.cleared .coldHeld).keyRead.strapLatched 1).regs := by
        rw [coldResetReleaseOp_held rfl rfl, show (s.cleared .coldHeld).env.strap % 128 = 1 from h]
      _ = Sparse.set regDefault [] Key.COM_CAN_NODE (BitVec.ofNat 64 1) := strapLatched_regs _ Nat.one_ne_zero
      _ = State.reset.regs := by decide
  refine ⟨s.cleared .coldHeld, coldResetReleaseOp (s.cleared .coldHeld),
    internalInitDoneOp (coldResetReleaseOp (s.cleared .coldHeld)), rfl, rfl, rfl, ?_⟩
  rw [e, internalInitDoneOp_initialising rfl rfl]
  exact ⟨hr, rfl, rfl, rfl, rfl, rfl⟩

/-- Settles O58, one operation after the other: a cleared engine, the straps and the key of its release, what Table 16.1 keeps, and what
stands outside an engine whose clock has stopped. -/
theorem resetsAndPower : Obligations.ResetsAndPower := by
  intro s
  refine ⟨?assert, fun hp hc => ?release, fun hp hc => ?initDone, coldReset_reaches_reset, fun hl => ?warm, fun hp => ?ignored,
    fun cause hp hc => ?warmDone, fun hp => ?clockStop, ?power⟩
  case assert =>
    exact ⟨s.cleared .coldHeld, rfl, rfl, get_cleared s _, fun _ _ _ => rfl, rfl, rfl, rfl, rfl, rfl, rfl, rfl, rfl, rfl, rfl, rfl, rfl,
      rfl, rfl, rfl, rfl, rfl, rfl, rfl, rfl, fun p => by rw [port_cleared]; exact ⟨rfl, rfl, rfl⟩⟩
  case release =>
    have held := coldResetReleaseOp_held hp hc
    obtain ⟨r, e⟩ := coldResetReleaseOp_moves hp hc
    refine ⟨coldResetReleaseOp s, rfl, by rw [e]; rfl, ?node, fun hn => ?noNode, ?entries, by rw [e]; rfl, fun hb => ?key,
      fun hb => ?noKey, by rw [e]; rfl, by rw [e]; rfl⟩
    case node => rw [held, get_strapLatched_node _ (Nat.mod_lt _ (by decide))]
    case noNode => rw [held, hn, get_strapLatched_state]
    case entries =>
      rw [held]
      exact strapLatched_keepsRegs s.keyRead _
    case key => simp only [e, State.keyRead, hb, if_true, and_self]
    case noKey => simp only [e, State.keyRead, hb, Bool.false_eq_true, if_false, and_self]
  case initDone =>
    have e := internalInitDoneOp_initialising hp hc
    exact ⟨internalInitDoneOp s, rfl, by rw [e], by rw [e], by rw [e], by rw [e], by rw [e], by rw [e], by rw [e],
      internalInitDoneOp_silent hp hc⟩
  case warm =>
    obtain ⟨time, ports, stg, qstore, env, meter, targets⟩ := warmed_keeps s
    obtain ⟨ctxs, pools, wins, helds, pieces, fep⟩ := warmed_empties s
    exact ⟨s.startWarm 2, warmResetInput_of_live hl, rfl, time, ports, stg, qstore, env, meter, targets, ctxs, pools, wins, helds, pieces,
      fep, fun c => warmed_tt s, fun k hk => (get_warmed s k).trans (if_pos hk),
      fun k hk => (get_warmed s k).trans (if_neg (Bool.eq_false_iff.mp hk)), fun a => get?_warmed_dom s⟩
  case ignored => exact warmResetInput_of_not_live (by rw [State.live, hp]; rfl)
  case warmDone =>
    obtain ⟨f, e⟩ := syncInts_moves_field (s.warmNoted cause)
    have hget (k : Nat) : (s.warmNoted cause).syncInts.get k = (s.warmNoted cause).get k := get_of_regs (by rw [e]) k
    refine ⟨(s.warmNoted cause).syncInts, congrArg Host.Outcome.next (warmResetDoneOp_warm hp hc), by rw [e]; rfl, ?_, ?_, ?_,
      by rw [e]; rfl⟩
    · rw [hget, get_warmNoted_cause]
    · rw [hget, get_warmNoted_count]
    · exact fun k hk => (hget k).trans (warmNoted_keepsRegs s cause k hk)
  case clockStop =>
    obtain ⟨stopped, build, env, outbox, tpUp⟩ := rootClockStopOp_keeps hp
    exact ⟨rootClockStopOp s, coldResetAssertOp (rootClockStopOp s), rfl, stopped, build, env, outbox, tpUp, rootClockStopOp_up hp,
      warmResetInput_of_not_live (not_live_of_clockStopped stopped), rfl, rfl, rfl⟩
  case power => exact ⟨s.cleared .off, rfl, rfl, rfl, rfl, rfl, rfl, rfl, rfl⟩

end Sys2Proof.Machine

/-! SUPPORT. The block: the invariant of every step, and the passing of a TIME edge (R193, R230, R396, R431, R435). -/

namespace Sys2Proof.Machine

open Sys2Proof

/-! ### Commands keep the invariant -/

/-- Every command leads to a next state, which keeps the build, the queue and the canonical form of the stores: one case per command, by
the law of its operation. -/
theorem exec_good {r : Fixed} {s : State} (i : Instr) (hg : Good r s) : ∃ t, exec i s = .next t ∧ Good r t := by
  cases i with
  | tileWindowForward => exact ⟨_, rfl, actFresh_good hg fun _ h => tileWindowForwardOp_good h⟩
  | tileWindowReingest => exact ⟨_, rfl, act_good hg fun _ h => tileWindowReingestOp_good h⟩
  | tileWindowRefetch => exact ⟨_, rfl, act_good hg fun _ h => tileWindowRefetchOp_good h⟩
  | tileWindowBegin => exact ⟨_, rfl, act_good hg fun _ h => tileWindowBeginOp_good h⟩
  | send => exact ⟨_, rfl, actFresh_good hg fun _ h => sendOp_good h⟩
  | tileSend => exact ⟨_, rfl, actFresh_good hg fun _ h => tileSendOp_good h⟩
  | receive => exact ⟨_, rfl, act_good hg fun _ h => receiveOp_good h⟩
  | combineForward => exact ⟨_, rfl, actFresh_good hg fun _ h => combineForwardOp_good h⟩
  | combineInputGradient => exact ⟨_, rfl, actFresh_good hg fun _ h => combineInputGradientOp_good h⟩
  | combineRefetchReturn => exact ⟨_, rfl, act_good hg fun _ h => combineRefetchReturnOp_good h⟩
  | routeLogLoad => exact ⟨_, rfl, actFresh_good hg fun _ h => routeLogLoadOp_good h⟩
  | combineRecord => exact ⟨_, rfl, actFresh_good hg fun _ h => combineRecordOp_good h⟩
  | combineClosePoint => exact ⟨_, rfl, actFresh_good hg fun _ h => combineClosePointOp_good h⟩
  | gradientB2 => exact ⟨_, rfl, actFresh_good hg fun _ h => gradientB2Op_good h⟩
  | gradientB4 => exact ⟨_, rfl, actFresh_good hg fun _ h => gradientB4Op_good h⟩
  | gradientB5 => exact ⟨_, rfl, actFresh_good hg fun _ h => gradientB5Op_good h⟩
  | gradientB6 => exact ⟨_, rfl, act_good hg fun _ h => gradientB6Op_good h⟩
  | gradientB7Residency => exact ⟨_, rfl, act_good hg fun _ h => gradientB7ResidencyOp_good h⟩
  | residencyRetry => exact ⟨_, rfl, act_good hg fun _ h => residencyRetryOp_good h⟩
  | residencyDeadline => exact ⟨_, rfl, act_good hg fun _ h => residencyDeadlineOp_good h⟩
  | deliveryForm => exact ⟨_, rfl, actFresh_good hg fun _ h => deliveryFormOp_good h⟩
  | collective => exact ⟨_, rfl, act_good hg fun _ h => collectiveOp_good h⟩
  | collectiveBegin => exact ⟨_, rfl, act_good hg fun _ h => collectiveBeginOp_good h⟩
  | collectiveUpValue => exact ⟨_, rfl, actFresh_good hg fun _ h => collectiveUpValueOp_good h⟩
  | collectiveResultWrite => exact ⟨_, rfl, act_good hg fun _ h => collectiveResultWriteOp_good h⟩
  | collectiveTimeout => exact ⟨_, rfl, act_good hg fun _ h => collectiveTimeoutOp_good h⟩
  | digestPost => exact ⟨_, rfl, act_good hg fun _ h => digestPostOp_good h⟩
  | snapshot => exact ⟨_, rfl, act_good hg fun _ h => snapshotOp_good h⟩
  | bankSwapPlacement => exact ⟨_, rfl, act_good hg fun _ h => bankSwapPlacementOp_good h⟩
  | bankSwapProgram => exact ⟨_, rfl, act_good hg fun _ h => bankSwapProgramOp_good h⟩
  | planSwitch => exact ⟨_, rfl, act_good hg fun _ h => planSwitchOp_good h⟩
  | slip => exact ⟨_, rfl, act_good hg fun _ h => slipOp_good h⟩
  | stepEnd => exact ⟨_, rfl, act_good hg fun _ h => stepEndOp_good h⟩
  | firstStepBegin => exact ⟨_, rfl, act_good hg fun _ h => firstStepBeginOp_good h⟩
  | ingressSegment => exact ⟨_, rfl, actFresh_good hg fun _ h => ingressSegmentOp_good h⟩
  | scoreTileDone => exact ⟨_, rfl, actFresh_good hg fun _ h => scoreTileDoneOp_good h⟩
  | selectTile => exact ⟨_, rfl, act_good hg fun _ h => selectTileOp_good h⟩
  | cardTile => exact ⟨_, rfl, actFresh_good hg fun _ h => cardTileOp_good h⟩
  | poolAllocGrant => exact ⟨_, rfl, act_good hg fun _ h => arriving_good h fun _ h => commitInHand_good (poolAllocGrantOp_good h)⟩
  | poolFree => exact ⟨_, rfl, act_good hg fun _ h => freeOp_good h⟩
  | poolRingRefillDone => exact ⟨_, rfl, actFresh_good hg fun _ h => poolRingRefillDoneOp_good h⟩
  | linkSlotStart => exact ⟨_, rfl, actTime_good hg fun _ h => linkSlotStartOp_good h⟩
  | chunkArrival => exact ⟨_, rfl, actFresh_good hg fun _ h => arriving_good h fun _ h => chunkArrivalOp_good h⟩
  | trailerArrival => exact ⟨_, rfl, act_good hg fun _ h => arriving_good h fun _ h => trailerArrivalOp_good h⟩
  | releaseDeadline => exact ⟨_, rfl, act_good hg fun _ h => releaseDeadlineOp_good h⟩
  | resendQueueSend => exact ⟨_, rfl, actFresh_good hg fun _ h => resendQueueSendOp_good h⟩
  | outputLate => exact ⟨_, rfl, actFresh_good hg fun _ h => outputLateOp_good h⟩
  | frameBoundary => exact ⟨_, rfl, actTime_good hg fun _ h => frameBoundaryOp_good h⟩
  | frameProgramFetch => exact ⟨_, rfl, act_good hg fun _ h => frameProgramFetchOp_good h⟩
  | frameProgramFetched => exact ⟨_, rfl, actFresh_good hg fun _ h => frameProgramFetchedOp_good h⟩
  | timingWordReceived => exact ⟨_, rfl, actTime_good hg fun _ h => timingWordReceivedOp_good h⟩
  | timingWordSilence => exact ⟨_, rfl, actTime_good hg fun _ h => timingWordSilenceOp_good h⟩
  | lkUpFall => exact ⟨_, rfl, lkUpFallOp_good hg⟩
  | lkUpRise => exact ⟨_, rfl, lkUpRiseOp_good hg⟩
  | tickInEdge => exact ⟨_, rfl, actTime_good hg fun _ h => tickInEdgeOp_good h⟩
  | abortBoundary => exact ⟨_, rfl, actFresh_good hg fun _ h => abortBoundaryOp_good h⟩
  | replayBegin => exact ⟨_, rfl, act_good hg fun _ h => replayBeginOp_good h⟩
  | chunkReleaseTimeout => exact ⟨_, rfl, act_good hg fun _ h => chunkReleaseTimeoutOp_good h⟩
  | expectationTimeout => exact ⟨_, rfl, act_good hg fun _ h => expectationTimeoutOp_good h⟩
  | slotGuardExpiry => exact ⟨_, rfl, act_good hg fun _ h => slotGuardExpiryOp_good h⟩
  | tileWatchdogExpiry => exact ⟨_, rfl, act_good hg fun _ h => tileWatchdogExpiryOp_good h⟩
  | stepSlackExpiry => exact ⟨_, rfl, act_good hg fun _ h => stepSlackExpiryOp_good h⟩
  | tileOriginChunk => exact ⟨_, rfl, actFresh_good hg fun _ h => tileOriginChunkOp_good h⟩
  | controlFlitReceived => exact ⟨_, rfl, actFresh_good hg fun _ h => arriving_good h fun _ h => controlFlitReceivedOp_good h⟩
  | tpUpChange => exact ⟨_, rfl, tpUpChangeOp_good hg⟩
  | fepMessageReceived => exact ⟨_, rfl, act_good hg fun _ h => fepMessageReceivedOp_good h⟩
  | fepMessageSend => exact ⟨_, rfl, act_good hg fun _ h => fepMessageSendOp_good h⟩
  | fepApply => exact ⟨_, rfl, actFresh_good hg fun _ h => fepApplyOp_good h⟩
  | fepWriteComplete => exact ⟨_, rfl, act_good hg fun _ h => fepWriteCompleteOp_good h⟩
  | fepReplyReceived => exact ⟨_, rfl, act_good hg fun _ h => fepReplyReceivedOp_good h⟩
  | fepRetry => exact ⟨_, rfl, act_good hg fun _ h => fepRetryOp_good h⟩
  | fepTimeout => exact ⟨_, rfl, act_good hg fun _ h => fepTimeoutOp_good h⟩
  | replayTableExpiry => exact ⟨_, rfl, act_good hg fun _ h => replayTableExpiryOp_good h⟩
  | postSetCheck => exact ⟨_, rfl, actFresh_good hg fun _ h => postSetCheckOp_good h⟩
  | postSetTimeout => exact ⟨_, rfl, act_good hg fun _ h => postSetTimeoutOp_good h⟩
  | tileDigestClose => exact ⟨_, rfl, actFresh_good hg fun _ h => tileDigestCloseOp_good h⟩
  | stepDigestClose => exact ⟨_, rfl, actFresh_good hg fun _ h => stepDigestCloseOp_good h⟩
  | poolInitialise => exact ⟨_, rfl, actFresh_good hg fun _ h => hostScalar_good h⟩
  | poolInitDone => exact ⟨_, rfl, act_good hg fun _ h => poolInitDoneOp_good h⟩
  | poolSetLow => exact ⟨_, rfl, actFresh_good hg fun _ h => hostScalar_good h⟩
  | poolAllocReq => exact ⟨_, rfl, actFresh_good hg fun _ h => hostScalar_good h⟩
  | poolFreeReq => exact ⟨_, rfl, actFresh_good hg fun _ h => hostScalar_good h⟩
  | packetOffer => exact ⟨_, rfl, act_good hg fun _ h => packetOfferOp_good h⟩
  | packetCommit => exact ⟨_, rfl, act_good hg fun _ h => packetCommitOp_good h⟩
  | packetAbort => exact ⟨_, rfl, act_good hg fun _ h => packetAbortOp_good h⟩
  | gapMarkerCommit => exact ⟨_, rfl, act_good hg fun _ h => gapMarkerCommitOp_good h⟩
  | pqRead => exact ⟨_, rfl, actFresh_good hg fun _ h => captureOp_good h⟩
  | pqMark => exact ⟨_, rfl, actFresh_good hg fun _ h => hostScalar_good h⟩
  | pqRewind => exact ⟨_, rfl, actFresh_good hg fun _ h => hostScalar_good h⟩
  | pqRelease => exact ⟨_, rfl, actFresh_good hg fun _ h => hostScalar_good h⟩
  | pqDescWrite => exact ⟨_, rfl, actFresh_good hg fun _ h => hostCommit_good h⟩
  | pressDescWrite => exact ⟨_, rfl, actFresh_good hg fun _ h => hostCommit_good h⟩
  | pressCopyTableWrite => exact ⟨_, rfl, actFresh_good hg fun _ h => hostCommit_good h⟩
  | pressCopyStart => exact ⟨_, rfl, actFresh_good hg fun _ h => hostScalar_good h⟩
  | copyBegin => exact ⟨_, rfl, act_good hg fun _ h => copyBeginOp_good h⟩
  | copyComplete => exact ⟨_, rfl, actFresh_good hg fun _ h => copyCompleteOp_good h⟩
  | sfuBankWrite => exact ⟨_, rfl, actFresh_good hg fun _ h => hostCommit_good h⟩
  | sfuCheckStart => exact ⟨_, rfl, actFresh_good hg fun _ h => hostScalar_good h⟩
  | sfuCheckDone => exact ⟨_, rfl, act_good hg fun _ h => sfuCheckDoneOp_good h⟩
  | sfuJobTableWrite => exact ⟨_, rfl, actFresh_good hg fun _ h => hostCommit_good h⟩
  | sfuJobStart => exact ⟨_, rfl, actFresh_good hg fun _ h => hostScalar_good h⟩
  | jobBegin => exact ⟨_, rfl, act_good hg fun _ h => jobBeginOp_good h⟩
  | jobComplete => exact ⟨_, rfl, actFresh_good hg fun _ h => jobCompleteOp_good h⟩
  | ptBankWrite => exact ⟨_, rfl, actFresh_good hg fun _ h => hostCommit_good h⟩
  | ptCheckStart => exact ⟨_, rfl, actFresh_good hg fun _ h => hostScalar_good h⟩
  | ptCheckDone => exact ⟨_, rfl, actFresh_good hg fun _ h => ptCheckDoneOp_good h⟩
  | cleGroupsWrite => exact ⟨_, rfl, actFresh_good hg fun _ h => hostCommit_good h⟩
  | fabShapeWrite => exact ⟨_, rfl, actFresh_good hg fun _ h => hostScalar_good h⟩
  | fepWindowsWrite => exact ⟨_, rfl, actFresh_good hg fun _ h => hostCommit_good h⟩
  | fepRouteWrite => exact ⟨_, rfl, actFresh_good hg fun _ h => hostCommit_good h⟩
  | fepReqTableWrite => exact ⟨_, rfl, actFresh_good hg fun _ h => hostCommit_good h⟩
  | fepStart => exact ⟨_, rfl, actFresh_good hg fun _ h => hostScalar_good h⟩
  | fepInval => exact ⟨_, rfl, actFresh_good hg fun _ h => hostScalar_good h⟩
  | cvuScanReq => exact ⟨_, rfl, actFresh_good hg fun _ h => hostCommit_good h⟩
  | scanBegin => exact ⟨_, rfl, act_good hg fun _ h => scanBeginOp_good h⟩
  | scanComplete => exact ⟨_, rfl, actFresh_good hg fun _ h => scanCompleteOp_good h⟩
  | cvuInject => exact ⟨_, rfl, actFresh_good hg fun _ h => hostScalar_good h⟩
  | readScalar => exact ⟨_, rfl, actFresh_good hg fun _ h => readScalarOp_good h⟩
  | writeScalar => exact ⟨_, rfl, actFresh_good hg fun _ h => writeScalarOp_good h⟩
  | capture => exact ⟨_, rfl, actFresh_good hg fun _ h => captureOp_good h⟩
  | commit => exact ⟨_, rfl, actFresh_good hg fun _ h => commitOp_good h⟩
  | listRead => exact ⟨_, rfl, actFresh_good hg fun _ h => listReadOp_good h⟩
  | describe => exact ⟨_, rfl, actFresh_good hg fun _ h => describeOp_good h⟩
  | rbufRead => exact ⟨_, rfl, actFresh_good hg fun _ h => rbufReadOp_good h⟩
  | wbufWrite => exact ⟨_, rfl, actFresh_good hg fun _ h => wbufWriteOp_good h⟩
  | cpRespRead => exact ⟨_, rfl, actTime_good hg fun _ h => cpRespReadOp_good h⟩
  | registerWrite => exact ⟨_, rfl, actTime_good hg fun _ h => windowWrite_good (fresh_good h)⟩
  | ttLoad => exact ⟨_, rfl, actFresh_good hg fun _ h => hostScalar_good h⟩
  | ttLoadDone => exact ⟨_, rfl, actFresh_good hg fun _ h => ttLoadDoneOp_good h⟩
  | ttStart => exact ⟨_, rfl, actFresh_good hg fun _ h => hostScalar_good h⟩
  | ttStop => exact ⟨_, rfl, actFresh_good hg fun _ h => hostScalar_good h⟩
  | ttUnload => exact ⟨_, rfl, actFresh_good hg fun _ h => hostScalar_good h⟩
  | ttImageAddrWrite => exact ⟨_, rfl, actFresh_good hg fun _ h => hostScalar_good h⟩
  | unloadPathDone => exact ⟨_, rfl, actFresh_good hg fun _ h => unloadPathDoneOp_good h⟩
  | tbStart => exact ⟨_, rfl, actFresh_good hg fun _ h => hostScalar_good h⟩
  | coldResetAssert => exact ⟨_, rfl, coldResetAssertOp_good hg⟩
  | coldResetRelease => exact ⟨_, rfl, coldResetReleaseOp_good hg⟩
  | internalInitDone => exact ⟨_, rfl, internalInitDoneOp_good hg⟩
  | warmResetInput => exact ⟨_, rfl, warmResetInputOp_good hg⟩
  | rstControlWarm => exact ⟨_, rfl, actFresh_good hg fun _ h => hostScalar_good h⟩
  | warmResetDone => exact ⟨_, rfl, warmResetDoneOp_good hg⟩
  | rstIdleSwapPlacement => exact ⟨_, rfl, actFresh_good hg fun _ h => hostScalar_good h⟩
  | rstIdleSwapProgram => exact ⟨_, rfl, actFresh_good hg fun _ h => hostScalar_good h⟩
  | throttleChange => exact ⟨_, rfl, throttleChangeOp_good hg⟩
  | numNonfiniteClear => exact ⟨_, rfl, actFresh_good hg fun _ h => hostScalar_good h⟩
  | selCountClear => exact ⟨_, rfl, actFresh_good hg fun _ h => hostScalar_good h⟩
  | crdCountClear => exact ⟨_, rfl, actFresh_good hg fun _ h => hostScalar_good h⟩
  | excCountClear => exact ⟨_, rfl, actFresh_good hg fun _ h => hostScalar_good h⟩
  | bwdCountClear => exact ⟨_, rfl, actFresh_good hg fun _ h => hostScalar_good h⟩
  | ttCountClear => exact ⟨_, rfl, actFresh_good hg fun _ h => hostScalar_good h⟩
  | poolPqCountClear => exact ⟨_, rfl, actFresh_good hg fun _ h => hostScalar_good h⟩
  | pressCountClear => exact ⟨_, rfl, actFresh_good hg fun _ h => hostScalar_good h⟩
  | sfuCountClear => exact ⟨_, rfl, actFresh_good hg fun _ h => hostScalar_good h⟩
  | cleCountClear => exact ⟨_, rfl, actFresh_good hg fun _ h => hostScalar_good h⟩
  | fepCountClear => exact ⟨_, rfl, actFresh_good hg fun _ h => hostScalar_good h⟩
  | cvuCountClear => exact ⟨_, rfl, actFresh_good hg fun _ h => hostScalar_good h⟩
  | obsCountClear => exact ⟨_, rfl, actFresh_good hg fun _ h => hostScalar_good h⟩
  | fltLogClear => exact ⟨_, rfl, actFresh_good hg fun _ h => hostScalar_good h⟩
  | rplStart => exact ⟨_, rfl, actFresh_good hg fun _ h => hostScalar_good h⟩
  | rplStop => exact ⟨_, rfl, actFresh_good hg fun _ h => hostScalar_good h⟩
  | snapControl => exact ⟨_, rfl, actFresh_good hg fun _ h => hostScalar_good h⟩
  | snapInEdge => exact ⟨_, rfl, act_good hg fun _ h => snapInEdgeOp_good h⟩
  | snapshotImageDone => exact ⟨_, rfl, act_good hg fun _ h => snapshotImageDoneOp_good h⟩
  | traceStart => exact ⟨_, rfl, actFresh_good hg fun _ h => hostScalar_good h⟩
  | traceStop => exact ⟨_, rfl, actFresh_good hg fun _ h => hostScalar_good h⟩
  | traceArmStart => exact ⟨_, rfl, actFresh_good hg fun _ h => hostScalar_good h⟩
  | traceArmStop => exact ⟨_, rfl, actFresh_good hg fun _ h => hostScalar_good h⟩
  | heartbeat => exact ⟨_, rfl, act_good hg fun _ h => heartbeatOp_good h⟩
  | interruptEventFrame => exact ⟨_, rfl, act_good hg fun _ h => interruptEventFrameOp_good h⟩
  | canBusOffRecovery => exact ⟨_, rfl, act_good hg fun _ h => canBusOffRecoveryOp_good h⟩
  | meterRestore => exact ⟨_, rfl, actTime_good hg fun _ h => meterRestoreOp_good (fresh_good h)⟩
  | tapWord => exact ⟨_, rfl, actTime_good hg fun _ h => tapWordOp_good h⟩
  | powerWord => exact ⟨_, rfl, actTime_good hg fun _ h => powerWordOp_good h⟩
  | powerTimeout => exact ⟨_, rfl, actTime_good hg fun _ h => powerTimeoutOp_good h⟩
  | meterPersist => exact ⟨_, rfl, actTime_good hg fun _ h => meterPersistOp_good h⟩
  | nvDone => exact ⟨_, rfl, actTime_good hg fun _ h => nvDoneOp_good h⟩
  | persistAckTimeout => exact ⟨_, rfl, actTime_good hg fun _ h => persistAckTimeoutOp_good h⟩
  | transactionComplete => exact ⟨_, rfl, actFresh_good hg fun _ h => transactionCompleteOp_good h⟩
  | canBusError => exact ⟨_, rfl, act_good hg fun _ h => canBusErrorOp_good h⟩
  | powerRemoved => exact ⟨_, rfl, powerRemovedOp_good hg⟩
  | rootClockStop => exact ⟨_, rfl, rootClockStopOp_good hg⟩
/-- A sound state is good for its own build and queue. -/
theorem Sound.good {b : Build} {s : State} (h : Sound b s) : Good (b, s.pending) s := good_iff.2 ⟨rfl, h⟩

/-- Soundness says nothing of the waiting commands. -/
theorem Sound.withPending {b : Build} {s : State} (cs : List Instr) (h : Sound b s) : Sound b { s with pending := cs } := h

/-- A command from a sound state: what it answers is good for the same build and queue. -/
theorem exec_good_of_next {b : Build} {s t : State} {i : Instr} (h : Sound b s) (e : exec i s = .next t) : Good (b, s.pending) t := by
  obtain ⟨u, hu, hg⟩ := exec_good i h.good
  cases hu.symm.trans e
  exact hg

/-- Settles O5: the build and the queue are part of what every command keeps. -/
theorem commandsKeepBuildAndQueue : Obligations.CommandsKeepBuildAndQueue := by
  intro b s t c h e
  obtain ⟨hpending, hsound⟩ := good_iff.1 (exec_good_of_next h e)
  exact ⟨hsound.1.trans h.1.symm, hpending⟩

/-- Settles O3: a step is a command on the queue's rest, or a TIME edge, and both keep the invariant. -/
theorem stepKeepsSound : Obligations.StepKeepsSound := by
  intro b s t h e
  unfold step at e
  split at e
  case h_1 =>
    cases e
    exact (good_iff.1 (timeEdge_good h.good)).2
  case h_2 c rest _ => exact (good_iff.1 (exec_good_of_next (h.withPending rest) e)).2

/-- Settles O1: with a command in front, a step is that command on the queue's rest. -/
theorem stepRunsFrontCommand : Obligations.StepRunsFrontCommand := by
  intro s c rest h
  unfold step
  rw [h]

/-- Settles O4: the stores of the state after reset are evaluated. -/
theorem resetIsSound : Obligations.ResetIsSound := by
  refine ⟨rfl, rfl, ⟨rfl, rfl⟩, .inr ⟨by decide +kernel, ⟨rfl, rfl, rfl⟩, ?_⟩⟩
  exact ⟨by decide, by decide, by decide, by decide⟩

end Sys2Proof.Machine

/-! SUPPORT. The passing of a TIME edge: what the log writers, the throttle and the latch edges move (R193, R230, R396, R431, R435). -/

namespace Sys2Proof.Machine

open Sys2Proof

/-! ### The log writers -/

/-- An entry at a ring's head moves registers and host memory. -/
theorem ringPut_moves {s t : State} {p b l hd tl : Nat} {bs : Bytes} (e : ringPut s p b l hd tl bs = some t) :
    ∃ r v, t = { s with regs := r, env := v } := by
  unfold ringPut at e
  dsimp only at e
  split at e
  · cases e
  · cases e
    exact ⟨_, _, rfl⟩

/-- An entry of the replay log or the trace moves registers and host memory (R222, R228). -/
theorem logRing_moves (s : State) (p b l hd tl k : Nat) (x : Loss) (bs : Bytes) :
    ∃ r v, (logRing s p b l hd tl k x bs).1 = { s with regs := r, env := v } := by
  unfold logRing
  dsimp only
  split
  · split
    next h => exact ringPut_moves h
    next => exact ⟨_, _, rfl⟩
  · split
    next => exact ⟨_, _, rfl⟩
    next s1 h =>
      obtain ⟨r1, v1, rfl⟩ := ringPut_moves h
      split
      next s2 h2 =>
        obtain ⟨r2, v2, rfl⟩ := ringPut_moves h2
        exact ⟨_, _, rfl⟩
      next => exact ⟨_, _, rfl⟩

/-- A flushed buffer moves registers and host memory. -/
theorem logFlush_moves (p b l hd tl k : Nat) (es : List LogEnt) (s : State) (x : Loss) :
    ∃ r v, (logFlush p b l hd tl k es (s, x)).1 = { s with regs := r, env := v } := by
  induction es generalizing s x with
  | nil => exact ⟨_, _, rfl⟩
  | cons e es ih =>
    obtain ⟨r, v, h⟩ := logRing_moves s p b l hd tl k x (s.entryBytes e)
    obtain ⟨r', v', h'⟩ := ih (logRing s p b l hd tl k x (s.entryBytes e)).1 (logRing s p b l hd tl k x (s.entryBytes e)).2
    exact ⟨r', v', h'.trans (by rw [h])⟩

/-- The replay log's writer leaves its buffer empty (R230). -/
theorem flushRpl_moves (s : State) : ∃ r v x, s.flushRpl = { s with regs := r, env := v, dru := { s.dru with rplLoss := x, rplBuf := {} } } := by
  unfold State.flushRpl
  obtain ⟨r, v, h⟩ := logFlush_moves (s.get Key.RPL_PORT) (s.get Key.RPL_BASE) (s.get Key.RPL_LEN) Key.RPL_HEAD Key.RPL_TAIL Key.RPL_LOST
    (sortBy entLt s.dru.rplBuf.ents) s s.dru.rplLoss
  dsimp only
  rw [h]
  exact ⟨_, _, _, rfl⟩

/-- The trace's writer leaves its buffer empty (R435). -/
theorem flushTrace_moves (s : State) : ∃ r v x, s.flushTrace = { s with regs := r, env := v, obs := { s.obs with traceLoss := x, traceBuf := {} } } := by
  unfold State.flushTrace
  obtain ⟨r, v, h⟩ := logFlush_moves (s.get Key.TRC_PORT) (s.get Key.TRC_BASE) (s.get Key.TRC_LEN) Key.TRC_HEAD Key.TRC_TAIL Key.TRC_LOST
    (sortBy entLt s.obs.traceBuf.ents) s s.obs.traceLoss
  dsimp only
  rw [h]
  exact ⟨_, _, _, rfl⟩

/-- No loss added is no change. -/
theorem Loss.add_nil (a : Loss) : a.add {} = a := by
  unfold Loss.add
  simp

/-- With nothing buffered the replay log's writer writes nothing. -/
theorem flushRpl_of_empty {s : State} (h : s.dru.rplBuf = {}) : s.flushRpl = s := by
  have hd : ({ s.dru with rplLoss := s.dru.rplLoss.add {}, rplBuf := {} } : Dru) = s.dru := by rw [Loss.add_nil, ← h]
  unfold State.flushRpl
  rw [h]
  exact congrArg (fun d => ({ s with dru := d } : State)) hd

/-- With nothing buffered the trace's writer writes nothing. -/
theorem flushTrace_of_empty {s : State} (h : s.obs.traceBuf = {}) : s.flushTrace = s := by
  have hd : ({ s.obs with traceLoss := s.obs.traceLoss.add {}, traceBuf := {} } : Obs) = s.obs := by rw [Loss.add_nil, ← h]
  unfold State.flushTrace
  rw [h]
  exact congrArg (fun d => ({ s with obs := d } : State)) hd

/-! ### The throttle -/

/-- The throttle's level moves registers and rates. -/
theorem takeLevel_moves (s : State) : ∃ r x, s.takeLevel = { s with regs := r, rates := x } := by
  unfold State.takeLevel
  split
  · obtain ⟨x, e⟩ := setRate_moves_rates (s.put Key.CLK_LEVEL_IN s.time.throttle)
    exact ⟨_, x, e⟩
  · exact ⟨_, _, rfl⟩

/-- A level already accepted stays as it is. -/
theorem takeLevel_of_accepted {s : State} (h : s.get Key.CLK_LEVEL_IN = s.time.throttle) : s.takeLevel = s := by
  unfold State.takeLevel
  rw [h, bne_self_eq_false, Bool.and_false]
  rfl

/-- A level that two edges have seen is the accepted one (R396). -/
theorem get_takeLevel {s : State} (hp : s.phase = .running) (hs : 2 ≤ s.time.sampled) (ht : s.time.throttle < 8) :
    s.takeLevel.get Key.CLK_LEVEL_IN = s.time.throttle := by
  unfold State.takeLevel
  split
  next =>
    obtain ⟨x, e⟩ := setRate_moves_rates (s.put Key.CLK_LEVEL_IN s.time.throttle)
    rw [e]
    exact (get_put_self s _ _).trans (Nat.mod_eq_of_lt (by omega))
  next h =>
    simpa [hp, hs] using h

/-! ### Latch edges -/

/-- A trace record moves registers and the observation unit. -/
theorem trace_moves (s : State) (k : Nat) (c : Option Nat) (a : Nat) (p : Option Nat) (x y : Nat) :
    ∃ r o, s.trace k c a p x y = { s with regs := r, obs := o } := by
  unfold State.trace
  refine iteInduction (motive := fun u : State => ∃ r o, u = { s with regs := r, obs := o }) (fun _ => ?_) (fun _ => ⟨_, _, rfl⟩)
  by_cases h : s.obs.traceBuf.ents.length < 256
  · rw [if_pos h]
    exact ⟨_, _, rfl⟩
  · rw [if_neg h]
    exact ⟨_, _, rfl⟩

/-- A fold of steps that each move registers moves registers. -/
theorem foldl_moves_regs {α : Type} (f : State → α → State) (hf : ∀ s a, ∃ r : List (Nat × U64), f s a = { s with regs := r }) (l : List α) (s : State) :
    ∃ r : List (Nat × U64), l.foldl f s = { s with regs := r } := by
  refine List.foldlRecOn (motive := fun u : State => ∃ r : List (Nat × U64), u = { s with regs := r }) _ _ ⟨s.regs, rfl⟩ ?_
  rintro _ ⟨r, rfl⟩ a -
  obtain ⟨r', e⟩ := hf { s with regs := r } a
  exact ⟨r', e⟩

/-- The units' cycles counted move registers and take one free value (R430). -/
theorem busyAll_moves (s : State) : ∃ r, s.busyAll = { s with regs := r, free := s.free + 1 } := by
  unfold State.busyAll
  exact foldl_moves_regs _ (fun s d => ⟨_, rfl⟩) _ s.fresh

/-- The tap's words of a frame or a latch move the meter's record (R437). -/
theorem flushTap_moves (s : State) (e w : Nat) : ∃ m, s.flushTap e w = { s with meter := m } := by
  unfold State.flushTap
  exact iteInduction (motive := fun u : State => ∃ m, u = { s with meter := m }) (fun _ => ⟨_, rfl⟩) (fun _ => ⟨_, rfl⟩)

/-- The trace at a latch edge moves registers and the observation unit (R436). -/
theorem traceLatch_moves (s : State) (id n origin : Nat) : ∃ r o, s.traceLatch id n origin = { s with regs := r, obs := o } := by
  unfold State.traceLatch
  extract_lets st x u v first
  obtain ⟨r0, o0, hu⟩ : ∃ r o, u = { s with regs := r, obs := o } :=
    iteInduction (motive := fun u : State => ∃ r o, u = { s with regs := r, obs := o }) (fun _ => ⟨_, _, rfl⟩) (fun _ => ⟨_, _, rfl⟩)
  obtain ⟨r1, o1, hv⟩ : ∃ r o, v = { s with regs := r, obs := o } := by
    obtain ⟨r, o, e⟩ := trace_moves u 0x08 none 0 none (id <<< 32 ||| n) origin
    exact ⟨r, o, e.trans (by rw [hu])⟩
  clear_value v
  subst hv
  refine iteInduction (motive := fun w : State => ∃ r o, w = { s with regs := r, obs := o }) (fun _ => ⟨_, _, rfl⟩) (fun _ => ?_)
  exact iteInduction (motive := fun w : State => ∃ r o, w = { s with regs := r, obs := o }) (fun _ => ⟨_, _, rfl⟩) (fun _ => ⟨_, _, rfl⟩)

/-- A latch accepted moves registers, the observation unit, the meter's record and what is put out (R431, R434, R437). -/
theorem takeLatch_moves (s : State) (origin : Nat) (cmd : Option (Nat × Nat)) :
    ∃ r n o m ou, s.takeLatch origin cmd = { s with regs := r, free := n, obs := o, meter := m, outbox := ou } := by
  unfold State.takeLatch
  obtain ⟨r, e⟩ := busyAll_moves s
  rw [e]
  extract_lets id mask s1 n l x u
  obtain ⟨m, hm⟩ := flushTap_moves u u.edgesSoFar (latchWord id n)
  obtain ⟨r', o, ht⟩ := traceLatch_moves ((u.flushTap u.edgesSoFar (latchWord id n)).emit .snap) id n origin
  exact ⟨r', _, o, m, _, ht.trans (by rw [hm]; rfl)⟩

/-- A latch edge moves registers, the observation unit, the meter's record and what is put out (R431, R433, R434). -/
theorem latchEdge_moves (s : State) (origin : Nat) (cmd : Option (Nat × Nat)) :
    ∃ r n o m ou, s.latchEdge origin cmd = { s with regs := r, free := n, obs := o, meter := m, outbox := ou } := by
  unfold State.latchEdge
  split
  · exact ⟨_, _, _, _, _, rfl⟩
  · refine iteInduction (motive := fun u : State => ∃ r n o m ou, u = { s with regs := r, free := n, obs := o, meter := m, outbox := ou })
      (fun _ => ⟨_, _, _, _, _, rfl⟩) (fun _ => ?_)
    exact iteInduction (motive := fun u : State => ∃ r n o m ou, u = { s with regs := r, free := n, obs := o, meter := m, outbox := ou })
      (fun _ => ⟨_, _, _, _, _, rfl⟩) (fun _ => takeLatch_moves s origin cmd)

/-- The latch edges of a TIME edge move registers, the observation unit, the meter's record and what is put out. -/
theorem dueLatches_moves (s : State) :
    ∃ r n o m ou, s.dueLatches = { s with regs := r, free := n, obs := o, meter := m, outbox := ou } := by
  unfold State.dueLatches
  refine List.foldlRecOn (motive := fun u : State => ∃ r n o m ou, u = { s with regs := r, free := n, obs := o, meter := m, outbox := ou })
    _ _ ⟨_, _, _, _, _, rfl⟩ ?_
  rintro _ ⟨r, n, o, m, ou, rfl⟩ d -
  obtain ⟨r', n', o', m', ou', e⟩ := latchEdge_moves { s with regs := r, free := n, obs := o, meter := m, outbox := ou } d.1 none
  exact ⟨r', n', o', m', ou', e⟩

/-- Where no latch edge is to come none falls on a TIME edge. -/
theorem dueLatches_of_empty {s : State} (h : s.obs.latchDue = []) : s.dueLatches = s := by
  have ho : ({ s.obs with latchDue := [] } : Obs) = s.obs := by rw [← h]
  unfold State.dueLatches
  rw [h]
  exact congrArg (fun o => ({ s with obs := o } : State)) ho

/-! ### The edge -/

/-- A TIME edge while the derived clocks run. -/
theorem timeEdge_of_clocked {s : State} (h : s.clocked = true) :
    s.timeEdge = (({ s with time := s.edgeTime } : State).flushRpl.flushTrace.takeLevel).dueLatches := if_pos h

/-- TB gains the fine units of its edge (R193). -/
theorem edgeTime_tb (s : State) :
    s.edgeTime.tb = s.time.tb + (if s.time.slew = 0 ∨ s.time.sinceSlew < 15 then 16 else if 0 < s.time.slew then 15 else 17) := by
  by_cases h : s.time.slew = 0 ∨ s.time.sinceSlew < 15
  · have hs : (s.time.slew != 0 && decide (15 ≤ s.time.sinceSlew)) = false := by
      rcases h with h | h
      · simp [h]
      · simp [Nat.not_le.2 h]
    simp [State.edgeTime, hs, h]
  · have hs : (s.time.slew != 0 && decide (15 ≤ s.time.sinceSlew)) = true := by
      rw [not_or, Nat.not_lt] at h
      simp [h]
    rw [if_neg h]
    simp only [State.edgeTime, hs, if_true]
    split <;> rfl

/-- The state of a TIME edge before the throttle is sampled: the two logs written. -/
theorem flushed_moves (s : State) : ∃ r v x y, s.flushRpl.flushTrace =
    { s with regs := r, env := v, dru := { s.dru with rplLoss := x, rplBuf := {} }, obs := { s.obs with traceLoss := y, traceBuf := {} } } := by
  obtain ⟨r, v, x, e⟩ := flushRpl_moves s
  obtain ⟨r', v', y, e'⟩ := flushTrace_moves s.flushRpl
  exact ⟨r', v', x, y, e'.trans (by rw [e])⟩

/-- With nothing waiting for it, a TIME edge is the passing of time alone. -/
theorem timeEdge_of_still {s : State} (hc : s.clocked = true) (h : Machine.still s) : s.timeEdge = { s with time := s.edgeTime } := by
  obtain ⟨hrpl, htrace, hdue, hlevel⟩ := h
  rw [timeEdge_of_clocked hc, flushRpl_of_empty (s := { s with time := s.edgeTime }) hrpl,
    flushTrace_of_empty (s := { s with time := s.edgeTime }) htrace, takeLevel_of_accepted (s := { s with time := s.edgeTime }) hlevel,
    dueLatches_of_empty (s := { s with time := s.edgeTime }) hdue]

/-- Settles O2: the edge's time, then one lemma for each of what may wait for it. -/
theorem idleStepPassesTime : Obligations.IdleStepPassesTime := by
  intro s hp hc
  have hstep : step s = .next s.timeEdge := by
    unfold step
    rw [hp]
  refine ⟨s.timeEdge, hstep, ?_⟩
  obtain ⟨r, v, x, y, hflush⟩ := flushed_moves { s with time := s.edgeTime }
  obtain ⟨r', z, hlevel⟩ := takeLevel_moves ({ s with time := s.edgeTime } : State).flushRpl.flushTrace
  obtain ⟨r'', n, o, m, ou, hlatch⟩ := dueLatches_moves ({ s with time := s.edgeTime } : State).flushRpl.flushTrace.takeLevel
  have hedge := timeEdge_of_clocked hc
  have hkeep : s.timeEdge.time = s.edgeTime ∧ s.timeEdge.dru.rplBuf = {} := by
    rw [hedge, hlatch, hlevel, hflush]
    exact ⟨rfl, rfl⟩
  have hdue (h : s.obs.latchDue = []) : s.timeEdge = ({ s with time := s.edgeTime } : State).flushRpl.flushTrace.takeLevel := by
    rw [hedge]
    apply dueLatches_of_empty
    rw [hlevel, hflush]
    exact h
  obtain ⟨htime, hbuf⟩ := hkeep
  refine ⟨by rw [htime]; rfl, by rw [htime, edgeTime_tb], hbuf, fun h => ?_, fun hrun hs ht h _ => ?_, fun h => ?_⟩
  · rw [hdue h, hlevel, hflush]
  · rw [hdue h, get_takeLevel, hflush]
    · rfl
    · rw [hflush]
      exact hrun
    · rw [hflush]
      show 2 ≤ min 2 (s.time.sampled + 1)
      omega
    · rw [hflush]
      exact ht
  · rw [timeEdge_of_still hc h]

end Sys2Proof.Machine

/-! SUPPORT. Writes of scalars by the host: the transaction that runs, and what it leaves (R374 to R377, R390). -/

namespace Sys2Proof.Machine

open Sys2Proof

/-! ### Registers kept -/

theorem keepsRegs.refl {ks : List Nat} (s : State) : keepsRegs ks s s := fun _ _ => rfl

/-- What two operations keep in turn. -/
theorem keepsRegs.trans {ks js ls : List Nat} {s t u : State} (h : keepsRegs ks s t) (h' : keepsRegs js t u) (hk : ks ⊆ ls) (hj : js ⊆ ls) :
    keepsRegs ls s u :=
  fun k hn => (h' k (fun c => hn (hj c))).trans (h k (fun c => hn (hk c)))

theorem keepsRegs.mono {ks ls : List Nat} {s t : State} (h : keepsRegs ks s t) (hk : ks ⊆ ls) : keepsRegs ls s t :=
  fun k hn => h k (fun c => hn (hk c))

/-- A write keeps every register but its own. -/
theorem keepsRegs_put (s : State) (k v : Nat) : keepsRegs [k] s (s.put k v) :=
  fun _ hj => get_put_ne s v (fun e => hj (List.mem_singleton.2 e.symm))

/-- Equal stores keep every register. -/
theorem keepsRegs_of_regs {ks : List Nat} {s t : State} (h : t.regs = s.regs) : keepsRegs ks s t := fun k _ => get_of_regs h k

/-! ### The dictionary's part of the state -/

theorem onlyDict.refl (s : State) : onlyDict s s := rfl

theorem onlyDict.trans {s t u : State} (h : onlyDict s t) (h' : onlyDict t u) : onlyDict s u := by
  unfold onlyDict at *
  rw [h', h]

theorem onlyDict_put (s : State) (k v : Nat) : onlyDict s (s.put k v) := rfl

theorem onlyDict_domPut (s : State) (k o : Nat) (bs : Bytes) : onlyDict s (s.domPut k o bs) := rfl

/-- A request opened moves the dictionary's part of the state. -/
theorem onlyDict_opened (s : State) (tr : Transport) (v : Nat) : onlyDict s (s.opened tr v) := by cases tr <;> rfl

/-- A request opened as a change of the state's fields. -/
theorem opened_moves (s : State) (tr : Transport) (v : Nat) :
    ∃ r f c w, s.opened tr v = { s with regs := r, free := f, can := c, win := w } := by
  cases tr
  · exact ⟨s.regs, s.fresh.free, s.can, (s.opened .cp v).win, rfl⟩
  · exact ⟨(s.opened .can v).regs, s.fresh.free, (s.opened .can v).can, s.win, rfl⟩

theorem opened_dom (s : State) (tr : Transport) (v : Nat) : (s.opened tr v).dom = s.dom := by cases tr <;> rfl

/-! ### The transaction taken -/

/-- The transport's transaction moves the transports alone. -/
theorem taken_moves (tr : Transport) (x : Txn) (s : State) : ∃ c d, taken tr x s = { s with cp := c, can := d } := by
  cases tr <;> exact ⟨_, _, rfl⟩

theorem onlyDict_taken (tr : Transport) (x : Txn) (s : State) : onlyDict s (taken tr x s) := by cases tr <;> rfl

@[simp] theorem get_taken (tr : Transport) (x : Txn) (s : State) (k : Nat) : (taken tr x s).get k = s.get k := by cases tr <;> rfl

@[simp] theorem taken_regs (tr : Transport) (x : Txn) (s : State) : (taken tr x s).regs = s.regs := by cases tr <;> rfl

@[simp] theorem taken_dom (tr : Transport) (x : Txn) (s : State) : (taken tr x s).dom = s.dom := by cases tr <;> rfl

@[simp] theorem domBytes_taken (tr : Transport) (x : Txn) (s : State) (k o n : Nat) : (taken tr x s).domBytes k o n = s.domBytes k o n := by
  cases tr <;> rfl

@[simp] theorem tport_taken (tr : Transport) (x : Txn) (s : State) : (taken tr x s).tport tr = { s.tport tr with busy := some x } := by
  cases tr <;> rfl

/-- A transaction without a code is accepted. -/
theorem accepted_taken (tr : Transport) {x : Txn} (s : State) (hc : x.code = 0) (hd : x.detail = 0) : accepted tr (taken tr x s) = true := by
  unfold accepted
  rw [tport_taken]
  simp [hc, hd]

/-! ### A scalar written -/

/-- A scalar that the host may write through its key alone: no DOMAIN, writable, outside the partition's entries, and neither of the two
entries whose write asks for something at the transaction's end (R385, R403). -/
def plainScalar (idx sub : Nat) : Bool :=
  decide (idx < 65536 ∧ sub < 256 ∧ ¬ (0x7000 ≤ idx ∧ idx ≤ 0x77FF)) &&
    decide (entryKey idx sub ≠ Key.RST_CONTROL ∧ entryKey idx sub ≠ Key.COM_CAN_DATA_RATE) &&
    (entryAt idx sub).any (fun e => !e.isDomain && decide (accessFault 2 e = none))

/-- The entry has no state rule (R371). -/
def anyState (idx sub : Nat) : Bool := (entryAt idx sub).any (fun e => decide (e.acc ≠ 4))

/-- The entry admits the value (R372). -/
def admits (idx sub v : Nat) : Bool := (entryAt idx sub).any (valueOk (entryKey idx sub) v)

/-- An entry of `n` bits that is no BOOL and has no range of its own admits every value of `n` bits. -/
theorem admits_of_lt {idx sub v : Nat} (n : Nat) (h : (entryAt idx sub).any (fun e => e.ty != 1 && decide (n ≤ 8 * e.len)) = true)
    (hr : rangeOk (entryKey idx sub) v = true) (hv : v < 2 ^ n) : admits idx sub v = true := by
  obtain ⟨e, he, h⟩ := (Option.any_eq_true ..).1 h
  simp only [Bool.and_eq_true, decide_eq_true_eq] at h
  have hlt : v < 2 ^ (8 * e.len) := hv.trans_le (Nat.pow_le_pow_right (by decide) h.2)
  simp only [admits, he, Option.any_some, valueOk, hr, h.1, hlt, decide_true, Bool.true_or, Bool.and_self]

section Scalar
variable {tr : Transport} {s u : State} {idx sub v : Nat}

/-- A host's write of such a scalar, of a value that it admits in a state that admits it, while the replay log does not record: the write's
effect, and the transaction taken as accepted. -/
theorem hostScalar_next (h : hostReady tr s = true) (hq : s.get Key.RPL_STATE ≠ 1) (hp : plainScalar idx sub = true)
    (hs : ∀ e, entryAt idx sub = some e → (s.opened tr v).stateOk idx sub e = true) (hv : v < 2 ^ 64) (ho : admits idx sub v = true)
    (hw : (s.opened tr v).writeScalar tr idx sub v = (u, none)) (hl : recordsFirst idx = true ∨ u.get Key.RPL_STATE ≠ 1) :
    hosted (hostScalar tr idx sub v) s = .next (taken tr { op := 2, idx := idx, sub := sub } u) := by
  simp only [plainScalar, Bool.and_eq_true, decide_eq_true_eq, Option.any_eq_true] at hp
  obtain ⟨⟨⟨hi, hsub, hpart⟩, hk, hr⟩, e, he, hd, ha⟩ := hp
  simp only [admits, he, Option.any_some] at ho
  have hrec : if recordsFirst idx then s.get Key.RPL_STATE ≠ 1 else ((s.opened tr v).writeScalar tr idx sub v).1.get Key.RPL_STATE ≠ 1 := by
    split
    · exact hq
    · next hf =>
      rw [hw]
      exact hl.resolve_left hf
  rw [scalar_next h hi hsub hv he hpart ha (oneCheck_state (by simpa using hd) (hs e he) ho) hk hr (by rw [hw]) hrec, hw]
  rfl

/-- The same for an entry that may be written in any state. -/
theorem hostScalar_next_any (h : hostReady tr s = true) (hq : s.get Key.RPL_STATE ≠ 1) (hp : plainScalar idx sub = true)
    (ha : anyState idx sub = true) (hv : v < 2 ^ 64) (ho : admits idx sub v = true)
    (hw : (s.opened tr v).writeScalar tr idx sub v = (u, none)) (hl : recordsFirst idx = true ∨ u.get Key.RPL_STATE ≠ 1) :
    hosted (hostScalar tr idx sub v) s = .next (taken tr { op := 2, idx := idx, sub := sub } u) := by
  refine hostScalar_next h hq hp (fun e he => ?_) hv ho hw hl
  rw [anyState, he] at ha
  exact if_pos (by simpa using ha)
end Scalar

/-- The replay log's state is none of the field network's registers. -/
theorem opened_rplState {s : State} (tr : Transport) (v : Nat) (h : s.get Key.RPL_STATE ≠ 1) : (s.opened tr v).get Key.RPL_STATE ≠ 1 := by
  rwa [opened_get s tr v _ (by decide) (by decide)]

/-! ### Counters zeroed -/

/-- Counters zeroed read zero, the others as before. -/
theorem get_zero (s : State) (ks : List Nat) (j : Nat) : (s.zero ks).get j = if j ∈ ks then 0 else s.get j := by
  unfold State.zero
  induction ks generalizing s with
  | nil => rfl
  | cons k ks ih =>
    rw [List.foldl_cons, ih]
    by_cases hj : j ∈ ks
    · rw [if_pos hj, if_pos (List.mem_cons_of_mem k hj)]
    · rw [if_neg hj]
      show (s.put k 0).get j = _
      rw [get_put]
      by_cases h : k = j
      · rw [if_pos h, if_pos (h ▸ List.mem_cons_self), Nat.zero_mod]
      · rw [if_neg h, if_neg (fun c => (List.mem_cons.1 c).elim (fun e => h e.symm) hj)]

/-- Counters zeroed move registers and the frame view. -/
theorem zero_moves (s : State) (ks : List Nat) : ∃ r v, s.zero ks = { s with regs := r, view := v } := by
  unfold State.zero
  refine List.foldlRecOn (motive := fun u : State => ∃ r v, u = { s with regs := r, view := v }) _ _ ⟨_, _, rfl⟩ ?_
  rintro _ ⟨r, v, rfl⟩ k -
  exact ⟨_, _, rfl⟩

/-- The counters that a ..._COUNT_CLEAR of value `v` names. -/
def clearedKeys (i j v : Nat) : List Nat :=
  if v < 8 then (counterKeys i j).map (fun k => k v)
  else if v = 0xFF then (List.range 8).flatMap (fun c => (counterKeys i j).map (fun k => k c)) else []

/-- A ..._COUNT_CLEAR zeroes the counters that it names. -/
theorem clearCounts_eq_zero (s : State) (i j v : Nat) : s.clearCounts (counterKeys i j) v = s.zero (clearedKeys i j v) := by
  unfold State.clearCounts clearedKeys
  split
  · rfl
  · split <;> rfl

theorem mem_counterKeys_map {i j c k : Nat} : k ∈ (counterKeys i j).map (fun f => f c) ↔ ∃ n, i + n ≤ j ∧ k = entryKey (i + n) (c + 1) := by
  simp only [counterKeys, List.map_map, List.mem_map, List.mem_range, Function.comp]
  constructor
  · rintro ⟨n, hn, rfl⟩
    exact ⟨n, by omega, rfl⟩
  · rintro ⟨n, hn, rfl⟩
    exact ⟨n, by omega, rfl⟩

theorem mem_clearedKeys {i j v k : Nat} : k ∈ clearedKeys i j v ↔ cleared i j v k := by
  unfold clearedKeys cleared
  split
  next hv =>
    rw [mem_counterKeys_map]
    constructor
    · rintro ⟨n, hn, rfl⟩
      exact ⟨n, v, hn, hv, .inr rfl, rfl⟩
    · rintro ⟨n, c, hn, -, hc, rfl⟩
      obtain rfl : v = c := hc.resolve_left (by omega)
      exact ⟨n, hn, rfl⟩
  next hv =>
    split
    next hf =>
      simp only [List.mem_flatMap, List.mem_range, mem_counterKeys_map]
      constructor
      · rintro ⟨c, hc, n, hn, rfl⟩
        exact ⟨n, c, hn, hc, .inl hf, rfl⟩
      · rintro ⟨n, c, hn, hc, -, rfl⟩
        exact ⟨c, hc, n, hn, rfl⟩
    next hf =>
      simp only [List.not_mem_nil, false_iff]
      rintro ⟨n, c, -, hc, hvc, -⟩
      omega

/-- Each ..._COUNT_CLEAR writes the entry of subindex 9 at its counters' first index, which clears them. -/
theorem countClears_write {mk : Transport → U64 → Instr} {i j : Nat} (h : (mk, i, j) ∈ countClears) :
    (∀ tr v s, exec (mk tr v) s = hosted (hostScalar tr i 9 v.toNat) s) ∧
    (∀ (tr : Transport) (v : Nat) (s : State), s.writeScalar tr i 9 v = (s.clearCounts (counterKeys i j) v, none)) ∧
    plainScalar i 9 = true ∧ anyState i 9 = true ∧ (∀ v, v < 256 → admits i 9 v = true) ∧ 0x6004 ≤ i ∧ j ≤ 0x602B := by
  simp only [countClears, List.mem_cons, List.not_mem_nil, or_false, Prod.mk.injEq] at h
  obtain h | h | h | h | h | h | h | h | h | h | h := h <;>
  · obtain ⟨rfl, rfl, rfl⟩ := h
    exact ⟨fun _ _ _ => rfl, fun _ _ _ => rfl, by decide, by decide, fun v hv => admits_of_lt 8 (by decide) rfl hv, by decide⟩

/-- A cleared counter lies in the units' counter indices. -/
theorem cleared_range {i j v k : Nat} (hi : 0x6004 ≤ i) (hj : j ≤ 0x602B) (h : cleared i j v k) : 0x600401 ≤ k ∧ k ≤ 0x602B08 := by
  obtain ⟨n, c, hn, hc, -, rfl⟩ := h
  unfold entryKey
  omega

/-- Settles O13: every ..._COUNT_CLEAR is a write of one entry, which zeroes the counters that the value names. -/
theorem countClears : Obligations.CountClears := by
  intro mk i j hm tr v s hh hq hv
  obtain ⟨hexec, hwrite, hplain, hany, hadm, hi, hj⟩ := countClears_write hm
  have hw := hwrite tr v.toNat (s.opened tr v.toNat)
  rw [clearCounts_eq_zero] at hw
  have hrpl : Key.RPL_STATE ∉ clearedKeys i j v.toNat := fun h =>
    absurd (cleared_range hi hj (mem_clearedKeys.1 h)).2 (by decide)
  have hget := get_zero (s.opened tr v.toNat) (clearedKeys i j v.toNat)
  obtain ⟨r, w, hmoves⟩ := zero_moves (s.opened tr v.toNat) (clearedKeys i j v.toNat)
  refine ⟨_, (hexec tr v s).trans (hostScalar_next_any hh hq hplain hany v.isLt (hadm _ hv) hw (.inr ?_)), accepted_taken _ _ rfl rfl,
    fun k hk => ?_, fun k hk hc => ?_, ?_, ?_⟩
  · rw [hget, if_neg hrpl]
    exact opened_rplState tr _ hq
  · rw [get_taken, hget, if_pos (mem_clearedKeys.2 hk)]
  · rw [get_taken, hget, if_neg (fun h => hk (mem_clearedKeys.1 h))]
    exact opened_keepsRegs s tr _ k hc
  · rw [taken_dom, hmoves]
    exact opened_dom s tr _
  · refine (onlyDict_opened s tr v.toNat).trans (.trans ?_ (onlyDict_taken ..))
    rw [hmoves]
    rfl

end Sys2Proof.Machine

/-! SUPPORT. The clears of the non-finite count, the observation counters and the fault log, and the control of the replay log and the
trace (R47, R232, R429, R430, R436). -/

namespace Sys2Proof.Machine

open Sys2Proof

/-! ### Stores with entries dropped -/

/-- Bytes of a range where a memory lists none read as the default. -/
theorem read_of_unlisted (f : Nat → Byte) (n : Nat) {m : List (Nat × Byte)} (a : Nat) (h : ∀ e ∈ m, e.1 < a ∨ a + n ≤ e.1) :
    Mem.read f m a n = (List.range n).map (fun i => f (a + i)) := by
  induction n generalizing m a with
  | zero =>
    unfold Mem.read
    rfl
  | succ n ih =>
    have hrest : ∀ e ∈ m.dropWhile (fun e => decide (e.1 < a)), e.1 < a + 1 ∨ a + 1 + n ≤ e.1 := fun e he => by
      have := h e ((List.dropWhile_sublist _).subset he)
      omega
    have hcons : (List.range (n + 1)).map (fun i => f (a + i)) = f a :: (List.range n).map (fun i => f (a + 1 + i)) := by
      rw [List.range_succ_eq_map, List.map_cons, List.map_map]
      congr 1
      exact List.map_congr_left fun i _ => congrArg f (by show a + (i + 1) = _; omega)
    unfold Mem.read
    split
    next k b r he =>
      rw [he] at hrest
      have hk : ¬ k < a := by
        have := List.head?_dropWhile_not (fun e : Nat × Byte => decide (e.1 < a)) m
        rw [he] at this
        simpa using this
      have hka : k ≠ a := fun e => by
        have := h (k, b) ((List.dropWhile_sublist _).subset (he ▸ List.mem_cons_self))
        simp only at this
        omega
      rw [if_neg hka, ih (a + 1) hrest, hcons]
    next he => rw [ih (a + 1) (fun _ hm => absurd hm List.not_mem_nil), hcons]

/-- A DOMAIN none of whose bytes is listed reads as its default. -/
theorem domBytes_of_unlisted {s : State} {k : Nat} (n : Nat) (hn : n ≤ domSpan) (h : ∀ e ∈ s.dom, e.1 / domSpan ≠ k)
    (hd : ∀ i, i / domSpan = k → domDefault i = 0) : s.domBytes k 0 n = zeros n := by
  have hspan : 0 < domSpan := by decide
  unfold State.domBytes
  rw [read_of_unlisted]
  · rw [zeros, List.eq_replicate_iff]
    refine ⟨by rw [List.length_map, List.length_range], fun b hb => ?_⟩
    obtain ⟨i, hi, rfl⟩ := List.mem_map.1 hb
    have hi := List.mem_range.1 hi
    refine hd _ ?_
    rw [Nat.add_zero, Nat.mul_comm, Nat.mul_add_div hspan, Nat.div_eq_of_lt (by omega), Nat.add_zero]
  · intro e he
    by_contra hc
    refine h e he (Nat.div_eq_of_lt_le ?_ ?_)
    · omega
    · rw [Nat.add_mul]
      omega

/-! ### The clears -/

/-- Every counter of Table 18.1 has the default 0. -/
theorem regDefault_obs {k : Nat} (h : 0x603000 ≤ k ∧ k ≤ 0x603AFF) : regDefault k = 0 := by
  have hnone : nonzeroDefaults.find? (fun e => e.1 == k) = none := by
    rw [List.find?_eq_none]
    intro e he hk
    have hout : ∀ e ∈ nonzeroDefaults, ¬ (0x603000 ≤ e.1 ∧ e.1 ≤ 0x603AFF) := by decide
    exact hout e he ((beq_iff_eq.1 hk) ▸ h)
  rw [regDefault, hnone]
  rfl

theorem get_obsCountClear (s : State) (k : Nat) :
    (obsCountClearOp s).get k = if 0x603000 ≤ k ∧ k ≤ 0x603AFF then 0 else s.get k := by
  unfold State.get Sparse.read obsCountClearOp
  rw [get?_filter s.regs (fun i => !(decide (0x603000 ≤ i ∧ i ≤ 0x603AFF)))]
  by_cases h : 0x603000 ≤ k ∧ k ≤ 0x603AFF
  · rw [if_pos h, decide_eq_true h, if_neg (by decide), Option.getD_none, regDefault_obs h]
    rfl
  · rw [if_neg h, decide_eq_false h, if_pos (by decide)]

/-- The three entries of the fault log (R429). -/
def fltDoms : List Nat := [Dom.FLT_LOG, Dom.FLT_FIRST, Dom.FLT_CLASS_COUNT]

theorem fltLogClearOp_eq (s : State) :
    fltLogClearOp s = { (s.put Key.FLT_LOG_HEAD 0).put Key.FLT_LOG_LOST 0 with dom := s.dom.filter (fun e => decide (e.1 / domSpan ∉ fltDoms)) } := by
  unfold fltLogClearOp
  dsimp only
  congr 1
  refine List.filter_congr fun e _ => ?_
  simp only [fltDoms, List.mem_cons, List.not_mem_nil, or_false, decide_not, Bool.decide_or, Bool.or_assoc]
  rfl

/-- A cleared fault log's bytes are zero. -/
theorem domBytes_fltLogClear (s : State) {k n : Nat} (hk : k ∈ fltDoms) (hn : n ≤ domSpan) : (fltLogClearOp s).domBytes k 0 n = zeros n := by
  rw [fltLogClearOp_eq]
  refine domBytes_of_unlisted n hn (fun e he hek => ?_) (fun i hi => ?_)
  · exact absurd (hek ▸ hk) (by simpa using (List.mem_filter.1 he).2)
  · have hne : ∀ k ∈ fltDoms, k ≠ 0x681100 ∧ k ≠ 0x210100 := by decide
    obtain ⟨h1, h2⟩ := hne k hk
    rw [domDefault, hi, if_neg h1, if_neg h2]

theorem get?_fltLogClear_dom (s : State) {a : Nat} (h : a / domSpan ∉ fltDoms) :
    Sparse.get? (fltLogClearOp s).dom a = Sparse.get? s.dom a := by
  rw [fltLogClearOp_eq]
  refine (get?_filter s.dom (fun i => decide (i / domSpan ∉ fltDoms)) a).trans ?_
  rw [decide_eq_true h]
  rfl

theorem get_fltLogClear (s : State) (k : Nat) :
    (fltLogClearOp s).get k = if Key.FLT_LOG_LOST = k then 0 else if Key.FLT_LOG_HEAD = k then 0 else s.get k := by
  rw [fltLogClearOp_eq]
  show ((s.put Key.FLT_LOG_HEAD 0).put Key.FLT_LOG_LOST 0).get k = _
  rw [get_put, get_put, Nat.zero_mod]

/-- Settles O14: each clear is the write of one entry. -/
theorem logAndCountClears : Obligations.LogAndCountClears := by
  intro tr s hh hq
  have hdict (v : Nat) {u : State} (x : Txn) (h : onlyDict (s.opened tr v) u) : onlyDict s (taken tr x u) :=
    ((onlyDict_opened s tr v).trans h).trans (onlyDict_taken ..)
  refine ⟨?nonfinite, ?obs, ?log⟩
  case nonfinite =>
    have hget := get_zero (s.opened tr 1) [Key.NUM_NONFINITE_COUNT, Key.NUM_NONFINITE_FIRST]
    obtain ⟨r, w, hmoves⟩ := zero_moves (s.opened tr 1) [Key.NUM_NONFINITE_COUNT, Key.NUM_NONFINITE_FIRST]
    refine ⟨_, hostScalar_next_any hh hq (by decide) (by decide) (by decide) (by decide) rfl (.inr ?_), accepted_taken _ _ rfl rfl, ?_, ?_, ?_, ?_,
      hdict 1 _ ?_⟩
    · show (State.zero _ _).get _ ≠ 1
      rw [hget, if_neg (by decide)]
      exact opened_rplState tr 1 hq
    · rw [get_taken]
      exact (hget _).trans (if_pos (by decide))
    · rw [get_taken]
      exact (hget _).trans (if_pos (by decide))
    · intro k hk
      simp only [List.mem_cons, not_or] at hk
      obtain ⟨h1, h2, h3⟩ := hk
      rw [get_taken]
      refine (hget k).trans ((if_neg ?_).trans (opened_keepsRegs s tr 1 k (by simpa [canKeys] using h3)))
      simpa using ⟨h1, h2⟩
    · rw [taken_dom]
      show (State.zero _ _).dom = _
      rw [hmoves]
      exact opened_dom s tr 1
    · show onlyDict _ (State.zero _ _)
      rw [hmoves]
      rfl
  case obs =>
    refine ⟨_, hostScalar_next_any hh hq (by decide) (by decide) (by decide) (by decide) rfl (.inr ?_), accepted_taken _ _ rfl rfl,
      fun k h1 h2 => ?_, fun k hk hc => ?_, ?_, hdict 1 _ rfl⟩
    · show (obsCountClearOp (s.opened tr 1)).get _ ≠ 1
      rw [get_obsCountClear, if_neg (by decide)]
      exact opened_rplState tr 1 hq
    · rw [get_taken]
      exact (get_obsCountClear _ k).trans (if_pos ⟨h1, h2⟩)
    · rw [get_taken]
      exact ((get_obsCountClear _ k).trans (if_neg (by omega))).trans (opened_keepsRegs s tr 1 k hc)
    · rw [taken_dom]
      exact opened_dom s tr 1
  case log =>
    refine ⟨_, hostScalar_next_any hh hq (by decide) (by decide) (by decide) (by decide) rfl (.inr ?_), accepted_taken _ _ rfl rfl, ?_, ?_, ?_, ?_,
      ?_, ?_, ?_, hdict 1 _ rfl⟩
    · show (fltLogClearOp (s.opened tr 1)).get _ ≠ 1
      rw [get_fltLogClear, if_neg (by decide), if_neg (by decide)]
      exact opened_rplState tr 1 hq
    · rw [get_taken]
      exact (get_fltLogClear ..).trans ((if_neg (by decide)).trans (if_pos rfl))
    · rw [get_taken]
      exact (get_fltLogClear ..).trans (if_pos rfl)
    · rw [domBytes_taken]
      exact domBytes_fltLogClear _ (by decide) (by decide)
    · rw [domBytes_taken]
      exact domBytes_fltLogClear _ (by decide) (by decide)
    · rw [domBytes_taken]
      exact domBytes_fltLogClear _ (by decide) (by decide)
    · intro k hk
      simp only [List.mem_cons, not_or] at hk
      obtain ⟨h1, h2, h3⟩ := hk
      rw [get_taken]
      exact ((get_fltLogClear _ k).trans ((if_neg (Ne.symm h2)).trans (if_neg (Ne.symm h1)))).trans
        (opened_keepsRegs s tr 1 k (by simpa [canKeys] using h3))
    · intro a h1 h2 h3
      rw [taken_dom]
      refine (get?_fltLogClear_dom _ ?_).trans (congrArg (Sparse.get? · a) (opened_dom s tr 1))
      simpa [fltDoms] using ⟨h1, h2, h3⟩

end Sys2Proof.Machine

/-! SUPPORT. Control of the replay log and of the trace by the host (R232, R436). -/

namespace Sys2Proof.Machine

open Sys2Proof

/-- A replay-log entry moves registers and the Determinism and Replay Unit. -/
theorem rpl_moves (s : State) (k : Nat) (c : Option Nat) (a : Nat) (b : Bool) (x y : Nat) :
    ∃ r d, s.rpl k c a b x y = { s with regs := r, dru := d } := by
  unfold State.rpl
  refine iteInduction (motive := fun u : State => ∃ r d, u = { s with regs := r, dru := d }) (fun _ => ?_) (fun _ => ⟨_, _, rfl⟩)
  by_cases h : s.dru.rplBuf.ents.length < 256
  · rw [if_pos h]
    exact ⟨_, _, rfl⟩
  · rw [if_neg h]
    exact ⟨_, _, rfl⟩

/-- A replay-log entry counts its loss where the buffer is full, in no other register (R228). -/
theorem rpl_keepsRegs (s : State) (k : Nat) (c : Option Nat) (a : Nat) (b : Bool) (x y : Nat) :
    keepsRegs [Key.RPL_LOST] s (s.rpl k c a b x y) := by
  unfold State.rpl
  refine iteInduction (motive := keepsRegs [Key.RPL_LOST] s) (fun _ => ?_) (fun _ => .refl s)
  by_cases h : s.dru.rplBuf.ents.length < 256
  · rw [if_pos h]
    exact keepsRegs_of_regs rfl
  · rw [if_neg h]
    exact keepsRegs_put s _ _

/-- The write's record is a replay-log entry, or none. -/
theorem recordWrite_moves (s : State) (r : DictReq) (b : Bool) :
    ∃ x d, s.recordWrite r b = { s with regs := x, dru := d } := by
  unfold State.recordWrite
  dsimp only
  split
  · exact rpl_moves ..
  · split
    · exact rpl_moves ..
    · exact ⟨_, _, rfl⟩

theorem recordWrite_keepsRegs (s : State) (r : DictReq) (b : Bool) : keepsRegs [Key.RPL_LOST] s (s.recordWrite r b) := by
  unfold State.recordWrite
  dsimp only
  split
  · exact rpl_keepsRegs _ _ _ _ _ _ _
  · split
    · exact rpl_keepsRegs _ _ _ _ _ _ _
    · exact .refl s

section Scalar
variable {tr : Transport} {s u : State} {idx sub v : Nat}

/-- A host's write of a scalar that may be written in any state and is recorded after its effect: the effect, its record and the
transaction taken as accepted. -/
theorem hostScalar_recorded (h : hostReady tr s = true) (hp : plainScalar idx sub = true) (ha : anyState idx sub = true) (hv : v < 2 ^ 64)
    (ho : admits idx sub v = true) (hr : recordsFirst idx = false) (hw : (s.opened tr v).writeScalar tr idx sub v = (u, none)) :
    hosted (hostScalar tr idx sub v) s = .next (taken tr { op := 2, idx := idx, sub := sub }
      (u.recordWrite { tr := tr, op := 2, idx := idx, sub := sub, value := v } false)) := by
  simp only [plainScalar, Bool.and_eq_true, decide_eq_true_eq, Option.any_eq_true, Bool.not_eq_true'] at hp
  obtain ⟨⟨⟨hi, hsub, hpart⟩, hk, hd⟩, e, he, hdom, hacc⟩ := hp
  simp only [admits, he, Option.any_some] at ho
  simp only [anyState, he, Option.any_some, decide_eq_true_eq] at ha
  have hn : (s.opened tr v).entry idx sub = some e := (if_neg fun c => hpart ⟨c.1, c.2.1⟩).trans he
  have hx : (s.opened tr v).applyWrite { tr := tr, op := 2, idx := idx, sub := sub, value := v } = (u, none) := hw
  rw [scalar_runs idx sub v h, write_runs hi hsub hv hn hacc (oneCheck_any hdom ha ho)]
  unfold State.writeTxn
  simp only [hr, Bool.and_false, Bool.false_eq_true, if_false, hx, hk, hd]
  rfl

/-- What a write keeps of its opened state stands after the transaction, the field network's registers apart. -/
theorem keepsRegs_taken {ks : List Nat} (x : Txn) (h : keepsRegs ks (s.opened tr v) u) : keepsRegs (ks ++ canKeys) s (taken tr x u) :=
  .trans (opened_keepsRegs s tr v) (h.trans (u := taken tr x u) (keepsRegs_of_regs (ks := []) (taken_regs ..)) (List.Subset.refl _) (List.nil_subset _))
    (List.subset_append_right ..) (List.subset_append_left ..)

/-- What a write leaves of its opened state, so far as it moves the dictionary's part alone. -/
theorem onlyDict_host (x : Txn) (h : onlyDict (s.opened tr v) u) : onlyDict s (taken tr x u) :=
  ((onlyDict_opened s tr v).trans h).trans (onlyDict_taken ..)

theorem taken_dom_of_opened (x : Txn) (h : u.dom = (s.opened tr v).dom) : (taken tr x u).dom = s.dom :=
  (taken_dom ..).trans (h.trans (opened_dom ..))
end Scalar

/-- A register that a write of the opened state leaves reads as before the request. -/
theorem get_opened_of_not_mem {s : State} (tr : Transport) (v : Nat) {k : Nat} (h : k ∉ canKeys) : (s.opened tr v).get k = s.get k :=
  opened_keepsRegs s tr v k h

/-- The trace's state and its switch, beside which a control of the trace moves nothing. -/
theorem onlyDict_obs {s t : State} (h : onlyDict s t) (o : Obs) : onlyDict { s with obs := o } { t with obs := o } := by
  unfold onlyDict at *
  rw [h]

/-- A write of an entry that stores a small value at key `k`. -/
theorem hostScalar_put {tr : Transport} {s : State} {idx sub v k w : Nat} (hh : hostReady tr s = true) (hq : s.get Key.RPL_STATE ≠ 1)
    (hp : plainScalar idx sub = true) (ha : anyState idx sub = true) (hv : v < 2 ^ 64) (ho : admits idx sub v = true) (hk : w < 2 ^ 64)
    (hr : k = Key.RPL_STATE → w ≠ 1) (hw : (s.opened tr v).writeScalar tr idx sub v = ((s.opened tr v).put k w, none)) :
    ∃ t, hosted (hostScalar tr idx sub v) s = .next t ∧ accepted tr t = true ∧ t.get k = w ∧ keepsRegs (k :: canKeys) s t ∧ t.dom = s.dom ∧
      onlyDict s t := by
  refine ⟨_, hostScalar_next_any hh hq hp ha hv ho hw (.inr ?_), accepted_taken _ _ rfl rfl, ?_, keepsRegs_taken (v := v) _ (keepsRegs_put _ _ _),
    taken_dom_of_opened (v := v) _ rfl, onlyDict_host (v := v) _ rfl⟩
  · rw [get_put]
    split
    next h =>
      rw [Nat.mod_eq_of_lt hk]
      exact hr h
    next => exact opened_rplState tr v hq
  · rw [get_taken, get_put_self, Nat.mod_eq_of_lt hk]

/-- A write of an entry that changes nothing. -/
theorem hostScalar_idle {tr : Transport} {s : State} {idx sub v : Nat} (hh : hostReady tr s = true) (hq : s.get Key.RPL_STATE ≠ 1)
    (hp : plainScalar idx sub = true) (ha : anyState idx sub = true) (hv : v < 2 ^ 64) (ho : admits idx sub v = true)
    (hw : (s.opened tr v).writeScalar tr idx sub v = (s.opened tr v, none)) :
    ∃ t, hosted (hostScalar tr idx sub v) s = .next t ∧ accepted tr t = true ∧ keepsRegs canKeys s t ∧ t.dom = s.dom ∧ onlyDict s t :=
  ⟨_, hostScalar_next_any hh hq hp ha hv ho hw (.inr (opened_rplState tr v hq)), accepted_taken _ _ rfl rfl,
    keepsRegs_taken (ks := []) (v := v) _ (.refl _), taken_dom_of_opened (v := v) _ rfl, onlyDict_host (v := v) _ rfl⟩

/-- A start of the replay log with a ring (R232): the log records, and the write is its first entry. -/
theorem rplStart_next {tr : Transport} {s : State} (hh : hostReady tr s = true) (hlen : s.get Key.RPL_LEN ≠ 0) :
    ∃ t, exec (.rplStart tr) s = .next t ∧ accepted tr t = true ∧ t.get Key.RPL_STATE = 1 ∧ t.dom = s.dom ∧ t.stg = s.stg ∧
      t.queues = s.queues ∧ t.ctxs = s.ctxs ∧ t.pools = s.pools := by
  have hw : (s.opened tr 1).writeScalar tr 0x7810 0x06 1 = ((s.opened tr 1).put Key.RPL_STATE 1, none) := by
    show (if (s.opened tr 1).get Key.RPL_LEN = 0 then _ else _, _) = _
    rw [if_neg (by rwa [get_opened_of_not_mem tr 1 (by decide)])]
  refine ⟨_, hostScalar_recorded hh (by decide) (by decide) (by decide) (by decide) (by decide) hw, accepted_taken _ _ rfl rfl, ?_⟩
  obtain ⟨x, d, e⟩ := recordWrite_moves ((s.opened tr 1).put Key.RPL_STATE 1)
    { tr := tr, op := 2, idx := 0x7810, sub := 0x06, value := 1 } false
  constructor
  · rw [get_taken, recordWrite_keepsRegs _ _ _ _ (by decide), get_put_self]
    rfl
  · obtain ⟨r, f, c, w, eo⟩ := opened_moves s tr 1
    obtain ⟨c', d', et⟩ := taken_moves tr { op := 2, idx := 0x7810, sub := 0x06 }
      (((s.opened tr 1).put Key.RPL_STATE 1).recordWrite { tr := tr, op := 2, idx := 0x7810, sub := 0x06, value := 1 } false)
    rw [et, e, eo]
    exact ⟨rfl, rfl, rfl, rfl, rfl⟩

/-- The trace switched on or off, with its new state (R436). -/
def State.traceSet (u : State) (b : Bool) (n : Nat) : State := ({ u with obs := { u.obs with tracing := b } }).put Key.TRC_STATE n

/-- A host's control of the trace that switches it. -/
theorem hostScalar_traceSet {tr : Transport} {s : State} {v n : Nat} {b : Bool} (hh : hostReady tr s = true) (hq : s.get Key.RPL_STATE ≠ 1)
    (hv : v < 2 ^ 64) (ho : admits 0x6048 0x06 v = true) (hn : n < 2 ^ 64)
    (hw : (s.opened tr v).writeScalar tr 0x6048 0x06 v = ((s.opened tr v).traceSet b n, none)) :
    ∃ t, hosted (hostScalar tr 0x6048 0x06 v) s = .next t ∧ accepted tr t = true ∧ t.get Key.TRC_STATE = n ∧
      t.obs = { s.obs with tracing := b } ∧
      keepsRegs (Key.TRC_STATE :: canKeys) s t ∧ t.dom = s.dom ∧ onlyDict { s with obs := t.obs } t := by
  have hregs : keepsRegs [Key.TRC_STATE] (s.opened tr v) ((s.opened tr v).traceSet b n) := keepsRegs_put { s.opened tr v with obs := _ } _ _
  have hobs : (taken tr { op := 2, idx := 0x6048, sub := 0x06 } ((s.opened tr v).traceSet b n)).obs = { s.obs with tracing := b } := by
    cases tr <;> rfl
  refine ⟨_, hostScalar_next_any hh hq (by decide) (by decide) hv ho hw (.inr ?_), accepted_taken _ _ rfl rfl, ?_, hobs,
    keepsRegs_taken (v := v) _ hregs, taken_dom_of_opened (v := v) _ rfl, ?_⟩
  · rw [hregs _ (by decide)]
    exact opened_rplState tr v hq
  · rw [get_taken]
    exact (get_put_self _ _ _).trans (Nat.mod_eq_of_lt hn)
  · have hopen := onlyDict_obs (onlyDict_opened s tr v) { s.obs with tracing := b }
    have hset : onlyDict { s.opened tr v with obs := { s.obs with tracing := b } } ((s.opened tr v).traceSet b n) := by
      cases tr <;> rfl
    rw [hobs]
    exact (hopen.trans hset).trans (onlyDict_taken ..)

/-- A start of the trace (R436): with a ring it traces. -/
theorem traceStart_next {tr : Transport} {s : State} (hh : hostReady tr s = true) (hq : s.get Key.RPL_STATE ≠ 1) :
    ∃ t, exec (.traceStart tr) s = .next t ∧ accepted tr t = true ∧
      t.get Key.TRC_STATE = (if s.get Key.TRC_LEN = 0 then s.get Key.TRC_STATE else 2) ∧
      t.obs = { s.obs with tracing := s.obs.tracing || s.get Key.TRC_LEN != 0 } ∧
      keepsRegs (Key.TRC_STATE :: canKeys) s t ∧ t.dom = s.dom ∧ onlyDict { s with obs := t.obs } t := by
  have hlen : (s.opened tr 1).get Key.TRC_LEN = s.get Key.TRC_LEN := get_opened_of_not_mem tr 1 (by decide)
  by_cases h0 : s.get Key.TRC_LEN = 0
  · have hw : (s.opened tr 1).writeScalar tr 0x6048 0x06 1 = (s.opened tr 1, none) := by
      show (if (s.opened tr 1).get Key.TRC_LEN = 0 then _ else _, _) = _
      rw [hlen, if_pos h0]
    obtain ⟨t, he, hacc, hregs, hdom, hdict⟩ := hostScalar_idle hh hq (by decide) (by decide) (by decide) (by decide) hw
    have hsame : t.obs = s.obs := by
      unfold onlyDict at hdict
      rw [hdict]
    refine ⟨t, he, hacc, ?_, ?_, hregs.mono (List.subset_cons_self ..), hdom, ?_⟩
    · rw [if_pos h0]
      exact hregs _ (by decide)
    · rw [hsame, h0]
      simp
    · rw [hsame]
      exact hdict
  · have hw : (s.opened tr 1).writeScalar tr 0x6048 0x06 1 = ((s.opened tr 1).traceSet true 2, none) := by
      show (if (s.opened tr 1).get Key.TRC_LEN = 0 then _ else _, _) = _
      rw [hlen, if_neg h0]
      rfl
    have hne : (s.get Key.TRC_LEN != 0) = true := bne_iff_ne.2 h0
    rw [if_neg h0, hne, Bool.or_true]
    exact hostScalar_traceSet hh hq (by decide) (by decide) (by decide) hw

/-- A stop of the trace (R436). -/
theorem traceStop_next {tr : Transport} {s : State} (hh : hostReady tr s = true) (hq : s.get Key.RPL_STATE ≠ 1) :
    ∃ t, exec (.traceStop tr) s = .next t ∧ accepted tr t = true ∧ t.get Key.TRC_STATE = 0 ∧
      t.obs = { s.obs with tracing := false } ∧
      keepsRegs (Key.TRC_STATE :: canKeys) s t ∧ t.dom = s.dom ∧ onlyDict { s with obs := t.obs } t :=
  hostScalar_traceSet hh hq (by decide) (by decide) (by decide) rfl

/-- Settles O15: starts and stops of the two logs, each a write of its control entry. -/
theorem logAndTraceControl : Obligations.LogAndTraceControl := by
  intro tr s hh hq
  refine ⟨rplStart_next hh, fun h0 => ?_, ?_, traceStart_next hh hq, traceStop_next hh hq, ?_, ?_⟩
  · have hw : (s.opened tr 1).writeScalar tr 0x7810 0x06 1 = (s.opened tr 1, none) := by
      show (if (s.opened tr 1).get Key.RPL_LEN = 0 then _ else _, _) = _
      rw [get_opened_of_not_mem tr 1 (by decide), if_pos h0]
    exact hostScalar_idle hh hq (by decide) (by decide) (by decide) (by decide) hw
  · exact hostScalar_put hh hq (by decide) (by decide) (by decide) (by decide) (by decide) (by decide) rfl
  · exact hostScalar_put hh hq (by decide) (by decide) (by decide) (by decide) (by decide) (by decide) rfl
  · exact hostScalar_put hh hq (by decide) (by decide) (by decide) (by decide) (by decide) (by decide) rfl

end Sys2Proof.Machine

/-! SUPPORT. The host's operations on a packet queue, and the starts of the bank checks (R94, R257, R258, R298). -/

namespace Sys2Proof.Machine

open Sys2Proof

/-! ### The queue that a transport selects (R258) -/

/-- The copy of a scalar that a transport has to itself is none of the field network's registers. -/
theorem trKey_not_mem_canKeys : ∀ (tr : Transport), ∀ k ∈ ownCopies, trKey tr k ∉ canKeys := by
  rintro (_ | _) <;> decide

section Queue
variable {tr : Transport} {s : State} {q : Nat}

/-- A request opened selects the queue that its transport selected. -/
theorem hostQueue_opened (v : Nat) (hq : s.get (trKey tr Key.PQ_SELECT) = q) (hk : pqKind (s.pqDesc q) ≠ 0)
    (hc : pqConsumer (s.pqDesc q) = 0) : (s.opened tr v).hostQueue tr = some q := by
  have hsel : (s.opened tr v).get (trKey tr Key.PQ_SELECT) = q :=
    (get_opened_of_not_mem tr v (trKey_not_mem_canKeys tr _ (by decide))).trans hq
  have hdesc : (s.opened tr v).pqDesc q = s.pqDesc q := by cases tr <;> rfl
  simp only [State.hostQueue, hsel, hdesc, hc]
  simp [hk]

/-- An operation on a queue that the host consumes. -/
theorem queueOp_opened (v : Nat) (f : State → Nat → State) (hq : s.get (trKey tr Key.PQ_SELECT) = q) (hk : pqKind (s.pqDesc q) ≠ 0)
    (hc : pqConsumer (s.pqDesc q) = 0) : (s.opened tr v).queueOp tr f = (f (s.opened tr v) q, none) := by
  rw [State.queueOp, hostQueue_opened v hq hk hc]

/-- An operation that replaces one queue, through its transport. -/
theorem hostScalar_setQueue {sub : Nat} {x : Queue} (hh : hostReady tr s = true) (hr : s.get Key.RPL_STATE ≠ 1)
    (hp : plainScalar 0x5102 sub = true) (ha : anyState 0x5102 sub = true) (ho : admits 0x5102 sub 1 = true)
    (hw : (s.opened tr 1).writeScalar tr 0x5102 sub 1 = ((s.opened tr 1).setQueue q x, none)) :
    ∃ t, hosted (hostScalar tr 0x5102 sub 1) s = .next t ∧ accepted tr t = true ∧ t.queue q = x ∧
      (∀ r, r ≠ q → t.queue r = s.queue r) ∧ keepsRegs canKeys s t ∧ t.qstore = s.qstore ∧ t.env = s.env ∧ t.dom = s.dom := by
  refine ⟨_, hostScalar_next_any hh hr hp ha (by decide) ho hw (.inr (opened_rplState tr 1 hr)), accepted_taken _ _ rfl rfl, ?_, fun r h => ?_,
    keepsRegs_taken (ks := []) (v := 1) _ (.refl _), ?_⟩
  · rw [taken, queue_setTport]
    exact queue_setQueue_self ..
  · rw [taken, queue_setTport, queue_setQueue_ne _ _ h.symm]
    cases tr <;> rfl
  · obtain ⟨r, f, c, w, eo⟩ := opened_moves s tr 1
    obtain ⟨c', d', et⟩ := taken_moves tr { op := 2, idx := 0x5102, sub := sub } ((s.opened tr 1).setQueue q x)
    rw [et, eo]
    exact ⟨rfl, rfl, rfl⟩

/-- RELEASE and MARK taken to READ, a credit queue's credits returned (R257, R261). -/
def Queue.released (x : Queue) (kind : Nat) : Queue :=
  { x with release := x.read, mark := x.read, credits := if kind = 2 then x.credits + ptrSub x.read x.release else x.credits }

/-- A release with no offers waiting: the queue released but for ABOVE, and beside queues the level causes and the interrupts at most. -/
theorem pqRelease_of_no_offers (h : (s.queue q).offers = []) :
    ∃ b qs d f, s.pqRelease q = { s with queues := qs, dom := d, field := f } ∧
      (s.pqRelease q).queue q = { (s.queue q).released (pqKind (s.pqDesc q)) with above := b } ∧
      (∀ r, r ≠ q → (s.pqRelease q).queue r = s.queue r) := by
  have hset : s.pqRelease q = (s.setQueue q ((s.queue q).released (pqKind (s.pqDesc q)))).pqAfter q := rfl
  have hself := queue_setQueue_self s q ((s.queue q).released (pqKind (s.pqDesc q)))
  have hne : ∀ r, r ≠ q → (s.setQueue q ((s.queue q).released (pqKind (s.pqDesc q)))).queue r = s.queue r :=
    fun r hr => queue_setQueue_ne s _ hr.symm
  rw [hset, State.pqAfter]
  split
  · exact ⟨_, _, _, _, rfl, hself, hne⟩
  · obtain ⟨b, hb⟩ := pqCompare_queue_self (s.setQueue q ((s.queue q).released (pqKind (s.pqDesc q)))) q
    obtain ⟨qs, d, f, e⟩ := pqCompare_fields (s.setQueue q ((s.queue q).released (pqKind (s.pqDesc q)))) q
    rw [hself] at hb
    have hoff : ((s.setQueue q ((s.queue q).released (pqKind (s.pqDesc q)))).pqCompare q |>.queue q).offers = [] := by
      rw [hb]
      exact h
    rw [pqSettle_of_no_offers hoff]
    exact ⟨b, qs, d, f, e, hb, fun r hr => (pqCompare_queue_ne _ hr.symm).trans (hne r hr)⟩

/-- PQ_RELEASE by the host. -/
theorem pqRelease_next (hh : hostReady tr s = true) (hr : s.get Key.RPL_STATE ≠ 1) (hq : s.get (trKey tr Key.PQ_SELECT) = q)
    (hk : pqKind (s.pqDesc q) ≠ 0) (hc : pqConsumer (s.pqDesc q) = 0) (ho : (s.queue q).offers = []) :
    ∃ t b, exec (.pqRelease tr) s = .next t ∧ accepted tr t = true ∧
      t.queue q = { (s.queue q).released (pqKind (s.pqDesc q)) with above := b } ∧
      (∀ r, r ≠ q → t.queue r = s.queue r) ∧ t.qstore = s.qstore ∧ t.env = s.env := by
  have hqueue : ∀ r, (s.opened tr 1).queue r = s.queue r := by cases tr <;> exact fun _ => rfl
  have hdesc : (s.opened tr 1).pqDesc q = s.pqDesc q := by cases tr <;> rfl
  obtain ⟨b, qs, d, f, e, hself, hne⟩ := pqRelease_of_no_offers ((congrArg Queue.offers (hqueue q)).trans ho)
  have hw : (s.opened tr 1).writeScalar tr 0x5102 0x05 1 = ((s.opened tr 1).pqRelease q, none) := queueOp_opened 1 _ hq hk hc
  refine ⟨_, b, hostScalar_next_any hh hr (by decide) (by decide) (by decide) (by decide) hw (.inr ?_), accepted_taken _ _ rfl rfl, ?_,
    fun r h => ?_, ?_⟩
  · rw [e]
    exact opened_rplState tr 1 hr
  · rw [taken, queue_setTport, hself, hqueue, hdesc]
  · rw [taken, queue_setTport, hne r h, hqueue]
  · rw [e]
    cases tr <;> exact ⟨rfl, rfl⟩
end Queue

/-- Settles O12: the three pointer operations on the queue that the transport selects. -/
theorem queueHostOperations : Obligations.QueueHostOperations := by
  intro tr s q hh hr hq hk hc
  have hqueue : ∀ r, (s.opened tr 1).queue r = s.queue r := by cases tr <;> exact fun _ => rfl
  refine ⟨?_, ?_, fun ho => ?_⟩
  · refine hostScalar_setQueue hh hr (by decide) (by decide) (by decide) ?_
    rw [← hqueue]
    exact queueOp_opened 1 State.pqMark hq hk hc
  · refine hostScalar_setQueue hh hr (by decide) (by decide) (by decide) ?_
    rw [← hqueue]
    exact queueOp_opened 1 State.pqRewind hq hk hc
  · obtain ⟨t, b, he, hacc, hself, hkeep⟩ := pqRelease_next hh hr hq hk hc ho
    exact ⟨t, he, hacc, by rw [hself]; rfl, by rw [hself]; rfl, by rw [hself]; rfl, by rw [hself]; rfl, hkeep⟩

/-! ### Bank checks (R94, R298) -/

/-- Settles O17: a start sets its check running, and nothing else changes. -/
theorem bankCheckStarts : Obligations.BankCheckStarts := by
  intro tr s hh hr
  constructor
  · refine ⟨_, hostScalar_next_any (u := { s.opened tr 1 with ptCheck := true }) hh hr (by decide) (by decide) (by decide) (by decide) rfl
      (.inr (opened_rplState tr 1 hr)), accepted_taken _ _ rfl rfl, ?_, keepsRegs_taken (ks := []) (v := 1) _ (.refl _), ?_⟩
    · cases tr <;> rfl
    · cases tr <;> exact ⟨rfl, rfl, rfl, rfl, rfl⟩
  · refine ⟨_, hostScalar_next_any (u := { s.opened tr 1 with sfuCheck := true }) hh hr (by decide) (by decide) (by decide) (by decide) rfl
      (.inr (opened_rplState tr 1 hr)), accepted_taken _ _ rfl rfl, ?_, keepsRegs_taken (ks := []) (v := 1) _ (.refl _), ?_⟩
    · cases tr <;> rfl
    · cases tr <;> exact ⟨rfl, rfl, rfl, rfl, rfl⟩

end Sys2Proof.Machine

/-! SUPPORT. Reads of byte memories after writes: what stands where it was written, and what a write leaves. -/

namespace Sys2Proof.Machine

open Sys2Proof

/-- Cells that differ from their defaults, at consecutive keys. -/
theorem get?_listed_filter (d : Nat → Byte) (bs : Bytes) (a j : Nat) :
    Sparse.get? ((Sparse.listed a bs).filter (fun e => decide (e.2 ≠ d e.1))) j =
      if a ≤ j then bs[j - a]?.filter (fun b => decide (b ≠ d j)) else none := by
  induction bs generalizing a with
  | nil => simp [Sparse.listed, Sparse.get?]
  | cons b r ih =>
    simp only [ne_eq, decide_not] at ih ⊢
    rw [Sparse.listed, List.filter_cons]
    have hrest : a ≤ j → a ≠ j → j - a = (j - (a + 1)) + 1 := by omega
    by_cases h : a = j
    · subst h
      by_cases hb : b = d a
      · simp [hb, ih, Option.filter]
      · simp [hb, Sparse.get?, Option.filter]
    · by_cases hle : a ≤ j
      · have hle' : a + 1 ≤ j := by omega
        split <;> simp [Sparse.get?, h, ih, hle', hrest hle h]
      · have hle' : ¬ a + 1 ≤ j := by omega
        split <;> simp [Sparse.get?, h, ih, hle']

/-- A memory with defaults after a write. -/
theorem get?_writeDflt (d : Nat → Byte) (m : List (Nat × Byte)) (a j : Nat) (bs : Bytes) :
    Sparse.get? (Mem.writeDflt d m a bs) j =
      if a ≤ j ∧ j < a + bs.length then bs[j - a]?.filter (fun b => decide (b ≠ d j)) else Sparse.get? m j := by
  unfold Mem.writeDflt Sparse.splice
  rw [get?_append, get?_append, get?_listed_filter, get?_filter m (fun k => decide (k < a)),
    get?_filter m (fun k => decide (a + bs.length ≤ k))]
  by_cases h1 : j < a
  · have h2 : ¬ a ≤ j := by omega
    have h3 : ¬ a + bs.length ≤ j := by omega
    simp [h1, h2, h3]
  · have h2 : a ≤ j := by omega
    by_cases h3 : j < a + bs.length
    · have h4 : ¬ a + bs.length ≤ j := by omega
      simp [h1, h2, h3, h4]
    · have h4 : a + bs.length ≤ j := by omega
      have h5 : bs[j - a]? = none := List.getElem?_eq_none (by omega)
      simp [h1, h2, h3, h4, h5, Option.filter]

/-- A byte of a memory with defaults after a write. -/
theorem read_writeDflt (d : Nat → Byte) (m : List (Nat × Byte)) (a j : Nat) (bs : Bytes) :
    Sparse.read d (Mem.writeDflt d m a bs) j = if a ≤ j ∧ j < a + bs.length then bs[j - a]?.getD 0 else Sparse.read d m j := by
  unfold Sparse.read
  rw [get?_writeDflt]
  split
  next h =>
    obtain ⟨b, hb⟩ : ∃ b, bs[j - a]? = some b := ⟨bs[j - a]'(by omega), List.getElem?_eq_getElem _⟩
    rw [hb]
    by_cases hd : b = d j <;> simp [Option.filter, hd]
  next => rfl

/-- A write of a memory with defaults leaves every byte outside it. -/
theorem keepsBytes_writeDflt (d : Nat → Byte) (m : List (Nat × Byte)) (a : Nat) (bs : Bytes) :
    keepsBytes a bs.length m (Mem.writeDflt d m a bs) := fun x h => by
  rw [get?_writeDflt, if_neg (by omega)]

/-- A write leaves every byte outside it. -/
theorem keepsBytes_write (m : List (Nat × Byte)) (a : Nat) (bs : Bytes) : keepsBytes a bs.length m (Mem.write m a bs) := fun x h => by
  rw [get?_write, if_neg (by omega)]

/-- A read gives as many bytes as it asks for. -/
@[simp] theorem memRead_length (f : Nat → Byte) (m : List (Nat × Byte)) (a n : Nat) : (Mem.read f m a n).length = n := by
  induction n generalizing m a with
  | zero => cases m <;> rfl
  | succ n ih =>
    unfold Mem.read
    split
    · split <;> rw [List.length_cons, ih]
    · rw [List.length_cons, ih]

@[simp] theorem domBytes_length (s : State) (k o n : Nat) : (s.domBytes k o n).length = n := memRead_length ..

/-- A read of a range where two memories agree. -/
theorem memRead_congr (f : Nat → Byte) (n : Nat) {m m' : List (Nat × Byte)} (a : Nat) (h : Sparse.rising m = true) (h' : Sparse.rising m' = true)
    (he : ∀ x, a ≤ x → x < a + n → Sparse.get? m' x = Sparse.get? m x) : Mem.read f m' a n = Mem.read f m a n := by
  rw [read_eq f n a h, read_eq f n a h']
  exact List.map_congr_left fun i hi => by rw [he _ (by omega) (by have := List.mem_range.1 hi; omega)]

/-- Bytes written read as written. -/
theorem memRead_write_self (f : Nat → Byte) {m : List (Nat × Byte)} (a : Nat) (bs : Bytes) (h : Sparse.rising m = true) :
    Mem.read f (Mem.write m a bs) a bs.length = bs := by
  rw [read_eq f _ a (write_rising m a bs h)]
  refine List.ext_getElem (by simp) fun i h1 h2 => ?_
  rw [List.getElem_map, List.getElem_range, get?_write, if_pos (by omega), Nat.add_sub_cancel_left, List.getElem?_eq_getElem h2]
  rfl

/-- Bytes written to a memory with defaults read as written. -/
theorem memRead_writeDflt_self (d : Nat → Byte) {m : List (Nat × Byte)} (a : Nat) (bs : Bytes) (h : Sparse.canonical d m = true) :
    Mem.read d (Mem.writeDflt d m a bs) a bs.length = bs := by
  have hc := writeDflt_canonical d m a bs h
  simp only [Sparse.canonical, Bool.and_eq_true] at hc
  rw [read_eq d _ a hc.1]
  refine List.ext_getElem (by simp) fun i h1 h2 => ?_
  have hr := read_writeDflt d m a (a + i) bs
  rw [if_pos (by omega), Nat.add_sub_cancel_left, List.getElem?_eq_getElem h2] at hr
  rw [List.getElem_map, List.getElem_range]
  exact hr

/-- The bytes of a canonical memory are the bytes at their addresses. -/
theorem memRead_eq_map (d : Nat → Byte) {m : List (Nat × Byte)} (a n : Nat) (h : Sparse.rising m = true) :
    Mem.read d m a n = (List.range n).map (fun i => Sparse.read d m (a + i)) := read_eq d n a h

/-- The dictionary's store of bytes rises where the stores are canonical. -/
theorem dom_canonical {s : State} (h : Memory.wf s = true) : Sparse.canonical domDefault s.dom = true := by
  simp only [Memory.wf, Bool.and_eq_true] at h
  exact h.1.1.1.2

theorem dom_rising {s : State} (h : Memory.wf s = true) : Sparse.rising s.dom = true := by
  have := dom_canonical h
  simp only [Sparse.canonical, Bool.and_eq_true] at this
  exact this.1

/-- DOMAIN bytes written read as written. -/
theorem domBytes_domPut_self {s : State} (h : Sparse.canonical domDefault s.dom = true) (k o : Nat) (bs : Bytes) :
    (s.domPut k o bs).domBytes k o bs.length = bs := memRead_writeDflt_self domDefault _ bs h

/-- A write of DOMAIN bytes leaves every other byte. -/
theorem keepsBytes_domPut (s : State) (k o : Nat) (bs : Bytes) : keepsBytes (k * domSpan + o) bs.length s.dom (s.domPut k o bs).dom :=
  keepsBytes_writeDflt domDefault s.dom _ bs

theorem keepsBytes.refl (a n : Nat) (m : List (Nat × Byte)) : keepsBytes a n m m := fun _ _ => rfl

theorem keepsBytes.trans {a n b k c l : Nat} {m m' m'' : List (Nat × Byte)} (h : keepsBytes a n m m') (h' : keepsBytes b k m' m'')
    (ha : c ≤ a) (ha' : a + n ≤ c + l) (hb : c ≤ b) (hb' : b + k ≤ c + l) : keepsBytes c l m m'' := fun x hx =>
  (h' x (by omega)).trans (h x (by omega))

end Sys2Proof.Machine

/-! SUPPORT. The reset's commands to the host (R403, R409), and the starts of the timebase (R408). -/

namespace Sys2Proof.Machine

open Sys2Proof

/-- While the replay log does not record, an entry changes nothing. -/
theorem rpl_off {s : State} (h : s.get Key.RPL_STATE ≠ 1) (k : Nat) (c : Option Nat) (a : Nat) (b : Bool) (x y : Nat) :
    s.rpl k c a b x y = s := if_neg h

/-- The field network's registers stand below those of the units. -/
theorem canKeys_lt : ∀ k ∈ canKeys, k < 0x200000 := by decide

theorem not_mem_canKeys_of_le {k : Nat} (h : 0x200000 ≤ k) : k ∉ canKeys := fun hk => absurd (canKeys_lt k hk) (by omega)

/-- A request opened leaves the contexts in their states. -/
theorem tt_opened (s : State) (tr : Transport) (v c : Nat) : (s.opened tr v).tt c = s.tt c :=
  opened_keepsRegs s tr v _ (not_mem_canKeys_of_le (by unfold Key.TT_STATE; omega))

/-! ### Idle swaps (R409) -/

theorem allStopped_iff {s : State} : s.allStopped = true ↔ ∀ c, c < 8 → s.tt c = 0 := by
  simp [State.allStopped]

/-- A swap while the replay log does not record: three registers. -/
theorem idleSwap_of_off {s : State} {kind ready active shadowCrc activeCrc : Nat} (hq : s.get Key.RPL_STATE ≠ 1)
    (hk : [active, ready, activeCrc, shadowCrc, Key.RPL_STATE].Nodup) :
    s.idleSwap kind ready active shadowCrc activeCrc = ((s.put active (1 - s.get active)).put ready 0).put activeCrc (s.get shadowCrc) := by
  simp only [List.nodup_cons, List.mem_cons, List.not_mem_nil, or_false, not_or] at hk
  obtain ⟨⟨-, -, hac, har⟩, ⟨-, hrc, hrr⟩, ⟨-, hcr⟩, -⟩ := hk
  unfold State.idleSwap
  dsimp only
  rw [get_put_ne _ _ hrc, get_put_ne _ _ hac]
  refine rpl_off ?_ _ _ _ _ _ _
  rwa [get_put_ne _ _ hcr, get_put_ne _ _ hrr, get_put_ne _ _ har]

section IdleSwap
variable {tr : Transport} {s : State} {v kind ready active shadowCrc activeCrc : Nat}

/-- An idle swap by the host. -/
theorem hostScalar_idleSwap (hh : hostReady tr s = true) (hq : s.get Key.RPL_STATE ≠ 1) (hs : ∀ c, c < 8 → s.tt c = 0)
    (hv : v < 2 ^ 64) (ho : admits 0x2018 0x04 v = true) (hk : [active, ready, activeCrc, shadowCrc, Key.RPL_STATE].Nodup)
    (hc : ∀ k ∈ [active, shadowCrc], k ∉ canKeys)
    (hw : (s.opened tr v).writeScalar tr 0x2018 0x04 v = ((s.opened tr v).idleSwap kind ready active shadowCrc activeCrc, none)) :
    ∃ t, hosted (hostScalar tr 0x2018 0x04 v) s = .next t ∧ accepted tr t = true ∧
      t.get active = 1 - s.get active ∧ t.get ready = 0 ∧ t.get activeCrc = s.get shadowCrc ∧
      keepsRegs (active :: ready :: activeCrc :: canKeys) s t ∧ t.dom = s.dom ∧ onlyDict s t := by
  have hopen := opened_rplState tr v hq
  rw [idleSwap_of_off hopen hk] at hw
  simp only [List.nodup_cons, List.mem_cons, List.not_mem_nil, or_false, not_or] at hk
  obtain ⟨⟨har, hac, -, -⟩, ⟨hrc, -, -⟩, ⟨-, hcr⟩, -⟩ := hk
  have hactive : (s.opened tr v).get active = s.get active := get_opened_of_not_mem tr v (hc _ (by simp))
  have hcrc : (s.opened tr v).get shadowCrc = s.get shadowCrc := get_opened_of_not_mem tr v (hc _ (by simp))
  have hregs : keepsRegs [active, ready, activeCrc] (s.opened tr v)
      ((((s.opened tr v).put active (1 - (s.opened tr v).get active)).put ready 0).put activeCrc ((s.opened tr v).get shadowCrc)) := by
    intro k hn
    simp only [List.mem_cons, List.not_mem_nil, or_false, not_or] at hn
    obtain ⟨h1, h2, h3⟩ := hn
    rw [get_put_ne _ _ (Ne.symm h3), get_put_ne _ _ (Ne.symm h2), get_put_ne _ _ (Ne.symm h1)]
  refine ⟨_, hostScalar_next hh hq (by decide) (fun e _ => ?_) hv ho hw (.inl (by decide)), accepted_taken _ _ rfl rfl, ?_, ?_, ?_,
    keepsRegs_taken _ hregs, taken_dom_of_opened (v := v) _ rfl, onlyDict_host (v := v) _ rfl⟩
  · have hrest : (List.range 8).all (s.opened tr v).atRest = true := by
      rw [List.all_eq_true]
      intro c hm
      simp only [State.atRest, tt_opened, hs c (List.mem_range.1 hm), beq_self_eq_true, Bool.true_or]
    unfold State.stateOk
    split
    · rfl
    · exact hrest
  · rw [get_taken, get_put_ne _ _ (Ne.symm hac), get_put_ne _ _ (Ne.symm har), get_put_self, hactive]
    exact Nat.mod_eq_of_lt (by omega)
  · rw [get_taken, get_put_ne _ _ (Ne.symm hrc), get_put_self, Nat.zero_mod]
  · rw [get_taken, get_put_self, hcrc]
    exact Nat.mod_eq_of_lt (get_lt ..)
end IdleSwap

/-! ### The warm reset asked for (R403) -/

/-- The effect of a scalar write is the entry's own write. -/
theorem applyWrite_scalar (s : State) (tr : Transport) (idx sub v : Nat) :
    s.applyWrite { tr := tr, op := 2, idx := idx, sub := sub, value := v } = s.writeScalar tr idx sub v := rfl

/-- A write of RST_CONTROL changes nothing itself, and its transaction is marked. -/
theorem writeTxn_rstControl {s : State} (tr : Transport) {idx sub v : Nat} (hk : entryKey idx sub = Key.RST_CONTROL)
    (hr : recordsFirst idx = true) (hw : s.writeScalar tr idx sub v = (s, none)) (hq : s.get Key.RPL_STATE ≠ 1) :
    s.writeTxn { tr := tr, op := 2, idx := idx, sub := sub, value := v } =
      (s, { op := 2, idx := idx, sub := sub, warm := v == 0xA55A }) := by
  unfold State.writeTxn
  simp only [hr, applyWrite_scalar, hw, beq_self_eq_true, Bool.and_true, if_true, recordWrite_off _ _ hq, hk, decide_true]
  rfl

/-- A write of RST_CONTROL through a transport. -/
theorem rstControlWarm_next {tr : Transport} {s : State} (hh : hostReady tr s = true) (hq : s.get Key.RPL_STATE ≠ 1) :
    exec (.rstControlWarm tr) s =
      .next (taken tr { op := 2, idx := 0x2018, sub := 0x02, warm := true } (s.opened tr 0xA55A)) := by
  obtain ⟨e, he, ha, ho⟩ : ∃ e, (s.opened tr 0xA55A).entry 0x2018 0x02 = some e ∧ accessFault 2 e = none ∧
      (s.opened tr 0xA55A).oneCheck { tr := tr, op := 2, idx := 0x2018, sub := 0x02, value := 0xA55A } e = none :=
    ⟨_, rfl, by decide, oneCheck_any rfl (by decide) (by decide)⟩
  show hosted (hostScalar tr 0x2018 0x02 0xA55A) s = _
  rw [scalar_runs 0x2018 0x02 0xA55A hh, write_runs (by decide) (by decide) (by decide) he ha ho,
    writeTxn_rstControl tr (by decide) (by decide) rfl (opened_rplState tr _ hq)]
  rfl

/-- A swap of one bank asked for while every context is STOPPED and the bank is ready (R409). -/
theorem idleSwaps_placement {s : State} (hs : ∀ c, c < 8 → s.tt c = 0) (hr : s.get Key.PT_SHADOW_READY = 1) :
    s.idleSwaps 1 = (s.idleSwap 0 Key.PT_SHADOW_READY Key.PT_ACTIVE Key.PT_SHADOW_CRC Key.PT_ACTIVE_CRC, none) := by
  unfold State.idleSwaps
  simp [allStopped_iff.2 hs, hr, show bit 1 0 = true by decide, show bit 1 1 = false by decide]

theorem idleSwaps_program {s : State} (hs : ∀ c, c < 8 → s.tt c = 0) (hr : s.get Key.SFU_SHADOW_READY = 1) :
    s.idleSwaps 2 = (s.idleSwap 1 Key.SFU_SHADOW_READY Key.SFU_PROG_ACTIVE Key.SFU_SHADOW_CRC Key.SFU_ACTIVE_CRC, none) := by
  unfold State.idleSwaps
  simp [allStopped_iff.2 hs, hr, show bit 2 0 = false by decide, show bit 2 1 = true by decide]

/-- Settles O21: both swaps are one lemma at their registers; the reset's request is its transaction's mark. -/
theorem idleSwapAndWarmRequest : Obligations.IdleSwapAndWarmRequest := by
  intro tr s hh hq
  refine ⟨fun hs hr ha => ?_, fun hs hr ha => ?_, ?_⟩
  · exact hostScalar_idleSwap hh hq hs (by decide) (by decide) (by decide) (by decide)
      (idleSwaps_placement (fun c hc => (tt_opened s tr 1 c).trans (hs c hc)) ((get_opened_of_not_mem tr 1 (by decide)).trans hr))
  · exact hostScalar_idleSwap hh hq hs (by decide) (by decide) (by decide) (by decide)
      (idleSwaps_program (fun c hc => (tt_opened s tr 2 c).trans (hs c hc)) ((get_opened_of_not_mem tr 2 (by decide)).trans hr))
  · refine ⟨_, rstControlWarm_next hh hq, accepted_taken _ _ rfl rfl, fun x hx => ?_, keepsRegs_taken (ks := []) (v := 0xA55A) _ (.refl _),
      taken_dom_of_opened (v := 0xA55A) _ rfl, onlyDict_host (v := 0xA55A) _ (.refl _)⟩
    rw [tport_taken] at hx
    injection hx with hx
    rw [← hx]

end Sys2Proof.Machine

/-! SUPPORT. Byte strings and the numbers they hold (R4). -/

namespace Sys2Proof.Machine

open Sys2Proof

@[simp] theorem le_length (n v : Nat) : (le n v).length = n := by
  induction n generalizing v with
  | zero => rfl
  | succ n ih => rw [le, List.length_cons, ih]

@[simp] theorem sub_length (bs : Bytes) (o n : Nat) : (sub bs o n).length = n := by
  simp only [sub, zeros, List.length_append, List.length_replicate, List.length_take, List.length_drop]
  omega

@[simp] theorem zeros_length (n : Nat) : (zeros n).length = n := List.length_replicate

/-- A string shorter than its field is padded, one of its length stands. -/
theorem sub_self (bs : Bytes) : sub bs 0 bs.length = bs := by simp [sub, zeros]

theorem unle_lt (bs : Bytes) : unle bs < 256 ^ bs.length := by
  induction bs with
  | nil => decide
  | cons b bs ih =>
    have hb := b.isLt
    rw [unle, List.length_cons, Nat.pow_succ]
    omega

theorem unle_append (a b : Bytes) : unle (a ++ b) = unle a + 256 ^ a.length * unle b := by
  induction a with
  | nil => simp [unle]
  | cons x a ih =>
    rw [List.cons_append, unle, ih, unle, List.length_cons, Nat.pow_succ]
    ring

/-- A number read back from its bytes. -/
theorem unle_le (n v : Nat) : unle (le n v) = v % 256 ^ n := by
  induction n generalizing v with
  | zero => simp [le, unle, Nat.mod_one]
  | succ n ih =>
    have hb : (BitVec.ofNat 8 v).toNat = v % 256 := BitVec.toNat_ofNat ..
    rw [le, unle, ih, hb, pow_succ', Nat.mod_mul]

theorem unle_le_of_lt {n v : Nat} (h : v < 256 ^ n) : unle (le n v) = v := (unle_le n v).trans (Nat.mod_eq_of_lt h)

/-- The bytes of the number that a string holds. -/
theorem le_unle (bs : Bytes) : le bs.length (unle bs) = bs := by
  induction bs with
  | nil => rfl
  | cons b bs ih =>
    have hb := b.isLt
    rw [List.length_cons, le, unle]
    congr 1
    · apply BitVec.eq_of_toNat_eq
      rw [BitVec.toNat_ofNat]
      omega
    · rw [Nat.add_mul_div_left _ _ (by decide), Nat.div_eq_of_lt hb, Nat.zero_add, ih]

/-- A bit is the library's test of it. -/
theorem bit_eq_testBit (v i : Nat) : bit v i = v.testBit i := by
  rw [bit, Nat.testBit_eq_decide_div_mod_eq, Nat.shiftRight_eq_div_pow]
  rfl

/-- A bit of the number that a string holds is the bit of its byte. -/
theorem bit_unle (bs : Bytes) {i j : Nat} (hi : i < bs.length) (hj : j < 8) : bit (unle bs) (8 * i + j) = bit bs[i].toNat j := by
  induction bs generalizing i with
  | nil => exact absurd hi (Nat.not_lt_zero _)
  | cons b bs ih =>
    have hb : b.toNat < 2 ^ 8 := b.isLt
    rw [unle, bit_eq_testBit]
    cases i with
    | zero =>
      rw [Nat.mul_zero, Nat.zero_add, List.getElem_cons_zero, bit_eq_testBit, Nat.add_comm,
        Nat.testBit_two_pow_mul_add (i := 8) _ hb, if_pos hj]
    | succ i =>
      rw [List.getElem_cons_succ, ← ih (by simpa using hi), bit_eq_testBit, Nat.add_comm b.toNat,
        Nat.testBit_two_pow_mul_add (i := 8) _ hb, if_neg (by omega)]
      congr 1
      omega

/-- The number in a field that spans its string. -/
theorem u_zero_of_length {bs : Bytes} {n : Nat} (h : bs.length = n) : u bs 0 n = unle bs := by
  rw [u, List.drop_zero, ← h, List.take_length]

/-- A number below a power of two set beside a shifted one. -/
theorem shiftLeft_or {a b i : Nat} (h : b < 2 ^ i) : a <<< i ||| b = a * 2 ^ i + b := by
  rw [← Nat.shiftLeft_add_eq_or_of_lt h, Nat.shiftLeft_eq]

end Sys2Proof.Machine

/-! SUPPORT. The shape of the machine and the image addresses (R190, R306). -/

namespace Sys2Proof.Machine

open Sys2Proof

/-! ### Entries that lose VALID -/

/-- What a store gives at a key is listed. -/
theorem mem_of_get? {α : Type} {m : List (Nat × α)} {k : Nat} {v : α} (h : Sparse.get? m k = some v) : (k, v) ∈ m := by
  induction m with
  | nil => cases h
  | cons e r ih =>
    obtain ⟨j, w⟩ := e
    rw [Sparse.get?] at h
    split at h
    next hj =>
      cases h
      subst hj
      exact List.mem_cons_self
    next => exact List.mem_cons_of_mem _ (ih h)

/-- A byte of the dictionary. -/
def State.domByte (s : State) (a : Nat) : Byte := Sparse.read domDefault s.dom a

/-- The bytes of a DOMAIN entry are those at its addresses. -/
theorem domBytes_eq_map {s : State} (h : Sparse.rising s.dom = true) (k o n : Nat) :
    s.domBytes k o n = (List.range n).map (fun i => s.domByte (k * domSpan + o + i)) := memRead_eq_map domDefault _ n h

theorem domByte_domPut (s : State) (k o a : Nat) (bs : Bytes) :
    (s.domPut k o bs).domByte a =
      if k * domSpan + o ≤ a ∧ a < k * domSpan + o + bs.length then bs[a - (k * domSpan + o)]?.getD 0 else s.domByte a :=
  read_writeDflt domDefault s.dom _ a bs

/-- The group entry has VALID clear: the top bit of its last byte. -/
def State.groupClear (s : State) (g : Nat) : Prop := (s.domByte (Dom.CLE_GROUPS * domSpan + (32 * g + 31))).toNat < 128

/-- Clearing VALID of a group entry moves the byte that holds it alone. -/
theorem clearValid_group (s : State) (g : Nat) : ∃ b : Byte, b.toNat < 128 ∧
    s.clearValid Dom.CLE_GROUPS 32 g 255 = s.domPut Dom.CLE_GROUPS (32 * g + 31) [b] := by
  refine ⟨BitVec.ofNat 8 (clearBit (unle (s.domBytes Dom.CLE_GROUPS (32 * g + 31) 1)) 7), ?_, rfl⟩
  have hlt : unle (s.domBytes Dom.CLE_GROUPS (32 * g + 31) 1) < 256 :=
    (unle_lt _).trans_eq (by rw [domBytes_length, pow_one])
  rw [BitVec.toNat_ofNat]
  unfold clearBit bit
  rw [Nat.shiftRight_eq_div_pow]
  split
  next h =>
    have := beq_iff_eq.1 h
    omega
  next h =>
    have : ¬ _ / 2 ^ 7 % 2 = 1 := fun e => h (beq_iff_eq.2 e)
    omega

/-- An entry is clear once VALID of it has been cleared, and stays clear. -/
theorem groupClear_clearValid {s : State} {g g' : Nat} (h : s.groupClear g ∨ g = g') :
    (s.clearValid Dom.CLE_GROUPS 32 g' 255).groupClear g := by
  obtain ⟨b, hb, e⟩ := clearValid_group s g'
  rw [e, State.groupClear, domByte_domPut]
  split
  next hin =>
    have : g = g' := by
      rw [List.length_singleton] at hin
      omega
    subst this
    simpa using hb
  next hin =>
    refine h.elim id fun heq => absurd ?_ hin
    subst heq
    exact ⟨Nat.le_refl _, Nat.lt_succ_self _⟩

theorem groupClear_foldl {g : Nat} (l : List Nat) {s : State} (h : s.groupClear g ∨ g ∈ l) :
    (l.foldl (fun s g => s.clearValid Dom.CLE_GROUPS 32 g 255) s).groupClear g := by
  induction l generalizing s with
  | nil => exact h.resolve_right List.not_mem_nil
  | cons x l ih =>
    refine ih ?_
    obtain h | h := h
    · exact .inl (groupClear_clearValid (.inl h))
    · exact (List.mem_cons.1 h).imp (fun e => groupClear_clearValid (.inr e)) id

/-- An entry with no byte listed is clear. -/
theorem groupClear_of_unlisted {s : State} {g : Nat} (hg : g < 4095) (h : g ∉ s.listedEntries Dom.CLE_GROUPS 32) : s.groupClear g := by
  have hspan : Dom.CLE_GROUPS * domSpan + (32 * g + 31) = domSpan * Dom.CLE_GROUPS + (32 * g + 31) := by rw [Nat.mul_comm]
  have hsmall : 32 * g + 31 < domSpan := by
    unfold domSpan
    omega
  have hdiv : (Dom.CLE_GROUPS * domSpan + (32 * g + 31)) / domSpan = Dom.CLE_GROUPS := by
    rw [hspan, Nat.mul_add_div (by decide), Nat.div_eq_of_lt hsmall, Nat.add_zero]
  have hmod : (Dom.CLE_GROUPS * domSpan + (32 * g + 31)) % domSpan = 32 * g + 31 := by
    rw [hspan, Nat.mul_add_mod, Nat.mod_eq_of_lt hsmall]
  have hnone : Sparse.get? s.dom (Dom.CLE_GROUPS * domSpan + (32 * g + 31)) = none := by
    by_contra hc
    obtain ⟨b, hb⟩ := Option.ne_none_iff_exists'.1 hc
    refine h ?_
    simp only [State.listedEntries, List.mem_eraseDups, List.mem_map, List.mem_filter]
    refine ⟨_, ⟨mem_of_get? hb, ?_⟩, ?_⟩
    · exact beq_iff_eq.2 hdiv
    · show (Dom.CLE_GROUPS * domSpan + (32 * g + 31)) % domSpan / 32 = g
      rw [hmod]
      omega
  have hdef : domDefault (Dom.CLE_GROUPS * domSpan + (32 * g + 31)) = 0 := by
    unfold domDefault
    rw [hdiv]
    rfl
  rw [State.groupClear, State.domByte, Sparse.read, hnone, hdef]
  decide

/-- A clear entry is not valid. -/
theorem gpValid_of_clear {s : State} {g : Nat} (hr : Sparse.rising s.dom = true) (h : s.groupClear g) :
    gpValid (u (s.domBytes Dom.CLE_GROUPS (32 * g) 32) 0 32) = false := by
  have hlen := domBytes_length s Dom.CLE_GROUPS (32 * g) 32
  rw [u_zero_of_length hlen, gpValid, show (255 : Nat) = 8 * 31 + 7 from rfl, bit_unle _ (by omega) (by decide)]
  simp only [domBytes_eq_map hr, List.getElem_map, List.getElem_range]
  rw [State.groupClear] at h
  unfold bit
  rw [Nat.shiftRight_eq_div_pow, Nat.add_assoc, Nat.div_eq_of_lt h]
  rfl

/-! ### A new shape (R306) -/

/-- What clearing VALID of listed group entries leaves. -/
theorem clearGroups_moves (l : List Nat) (s : State) (hl : ∀ g ∈ l, g < 32768) (hc : Sparse.canonical domDefault s.dom = true) :
    ∃ d : List (Nat × Byte), l.foldl (fun s g => s.clearValid Dom.CLE_GROUPS 32 g 255) s = { s with dom := d } ∧ Sparse.canonical domDefault d = true ∧
      ∀ a, a / domSpan ≠ Dom.CLE_GROUPS → Sparse.get? d a = Sparse.get? s.dom a := by
  refine List.foldlRecOn (motive := fun u : State => ∃ d : List (Nat × Byte), u = { s with dom := d } ∧ Sparse.canonical domDefault d = true ∧
    ∀ a, a / domSpan ≠ Dom.CLE_GROUPS → Sparse.get? d a = Sparse.get? s.dom a) _ _ ⟨s.dom, rfl, hc, fun _ _ => rfl⟩ ?_
  rintro _ ⟨d, rfl, hd, hk⟩ g hg
  obtain ⟨b, -, e⟩ := clearValid_group { s with dom := d } g
  refine ⟨_, e, writeDflt_canonical _ _ _ _ hd, fun a ha => ?_⟩
  refine (keepsBytes_domPut { s with dom := d } Dom.CLE_GROUPS (32 * g + 31) [b] a ?_).trans (hk a ha)
  have hg := hl g hg
  by_contra hc
  refine ha (Nat.div_eq_of_lt_le ?_ ?_)
  · omega
  · rw [Nat.add_mul]
    simp only [List.length_singleton] at hc
    unfold domSpan at *
    omega

/-- The state rule of an entry that no context owns (R371). -/
theorem stateOk_of_rest {s : State} {idx sub : Nat} (e : Entry) (hp : ¬ (0x5000 ≤ idx ∧ idx ≤ 0x5004)) (hc : entryCtx idx sub = none)
    (h : ∀ c, c < 8 → s.tt c = 0 ∨ s.tt c = 2) : s.stateOk idx sub e = true := by
  unfold State.stateOk
  rw [if_neg hp, hc]
  split
  · rfl
  · split
    · rfl
    · simpa [State.atRest] using h

/-- The state rule of a context's entry (R371). -/
theorem stateOk_of_ctx {s : State} {idx sub c : Nat} (e : Entry) (hp : ¬ (0x5000 ≤ idx ∧ idx ≤ 0x5004)) (hc : entryCtx idx sub = some c)
    (h : s.tt c = 0 ∨ s.tt c = 2) : s.stateOk idx sub e = true := by
  unfold State.stateOk
  rw [if_neg hp, hc]
  split
  · rfl
  · split
    · rfl
    · simpa [State.atRest] using h

theorem listedEntries_lt (s : State) {g : Nat} (h : g ∈ s.listedEntries Dom.CLE_GROUPS 32) : g < 32768 := by
  simp only [State.listedEntries, List.mem_eraseDups, List.mem_map] at h
  obtain ⟨e, -, rfl⟩ := h
  have : e.1 % domSpan < 2 ^ 20 := Nat.mod_lt _ (by decide)
  omega

/-- A new shape: its register, and every group entry clear (R306). -/
theorem shapeWrite_spec {s : State} (v : Nat) (hc : Sparse.canonical domDefault s.dom = true) :
    ∃ d : List (Nat × Byte), s.shapeWrite v = { s.put Key.FAB_SHAPE v with dom := d } ∧ Sparse.canonical domDefault d = true ∧
      (∀ a, a / domSpan ≠ Dom.CLE_GROUPS → Sparse.get? d a = Sparse.get? s.dom a) ∧ ∀ g, g < 4095 → (s.shapeWrite v).groupClear g := by
  obtain ⟨d, e, hd, hk⟩ := clearGroups_moves ((s.put Key.FAB_SHAPE v).listedEntries Dom.CLE_GROUPS 32) (s.put Key.FAB_SHAPE v)
    (fun g hg => listedEntries_lt _ hg) hc
  refine ⟨d, e, hd, hk, fun g hg => groupClear_foldl _ ?_⟩
  by_cases hm : g ∈ (s.put Key.FAB_SHAPE v).listedEntries Dom.CLE_GROUPS 32
  · exact .inr hm
  · exact .inl (groupClear_of_unlisted hg hm)

/-- FAB_SHAPE written by the host. -/
theorem fabShapeWrite_next {tr : Transport} {s : State} {v : U64} (hh : hostReady tr s = true) (hq : s.get Key.RPL_STATE ≠ 1)
    (hv : ∀ a, a < 4 → 1 ≤ bits v.toNat (16 * a) 16 ∧ bits v.toNat (16 * a) 16 ≤ 16384)
    (hs : ∀ c, c < 8 → s.tt c = 0 ∨ s.tt c = 2) (hwf : Memory.wf s = true) :
    ∃ t, exec (.fabShapeWrite tr v) s = .next t ∧ accepted tr t = true ∧ t.get Key.FAB_SHAPE = v.toNat ∧
      (∀ g, g < 4095 → gpValid (u (t.domBytes Dom.CLE_GROUPS (32 * g) 32) 0 32) = false) ∧
      keepsRegs (Key.FAB_SHAPE :: canKeys) s t ∧
      (∀ a, a / domSpan ≠ Dom.CLE_GROUPS → Sparse.get? t.dom a = Sparse.get? s.dom a) ∧ onlyDict s t := by
  have hdom := opened_dom s tr v.toNat
  obtain ⟨d, e, hd, hk, hclear⟩ := shapeWrite_spec (s := s.opened tr v.toNat) v.toNat (hdom ▸ dom_canonical hwf)
  have hw : (s.opened tr v.toNat).writeScalar tr 0x6800 0x01 v.toNat = ((s.opened tr v.toNat).shapeWrite v.toNat, none) := rfl
  have hrange : rangeOk (entryKey 0x6800 0x01) v.toNat = true := by
    show (List.range 4).all (fun a => decide (1 ≤ bits v.toNat (16 * a) 16 ∧ bits v.toNat (16 * a) 16 ≤ 16384)) = true
    simpa using hv
  have hregs : keepsRegs [Key.FAB_SHAPE] (s.opened tr v.toNat) ((s.opened tr v.toNat).shapeWrite v.toNat) := by
    rw [e]
    exact keepsRegs_put _ _ _
  refine ⟨_, hostScalar_next hh hq (by decide) (fun x _ => stateOk_of_rest x (by decide) rfl fun c hc => ?_) v.isLt
    (admits_of_lt 64 (by decide) hrange v.isLt) hw (.inr ?_), accepted_taken _ _ rfl rfl, ?_, fun g hg => ?_,
    keepsRegs_taken _ hregs, fun a ha => ?_, onlyDict_host (v := v.toNat) _ ?_⟩
  · rw [tt_opened]
    exact hs c hc
  · rw [hregs _ (by decide)]
    exact opened_rplState tr _ hq
  · rw [get_taken, e]
    exact (get_put_self _ _ _).trans (Nat.mod_eq_of_lt v.isLt)
  · rw [domBytes_taken]
    have hrise : Sparse.rising d = true := by
      simp only [Sparse.canonical, Bool.and_eq_true] at hd
      exact hd.1
    exact gpValid_of_clear (by rw [e]; exact hrise) (hclear g hg)
  · rw [taken_dom, e, ← hdom]
    exact hk a ha
  · rw [e]
    rfl

/-! ### The address of a context's image (R190) -/

/-- TT_IMAGE_ADDR is a plain entry of its context. -/
theorem imageAddr_entry : ∀ c < 8, plainScalar 0x4101 (c + 1) = true ∧ entryCtx 0x4101 (c + 1) = some c ∧
    (entryAt 0x4101 (c + 1)).any (fun e => e.ty != 1 && decide (64 ≤ 8 * e.len)) = true := by decide

theorem rangeOk_imageAddr {c : Nat} (v : Nat) (hc : c < 8) : rangeOk (entryKey 0x4101 (c + 1)) v = true := by
  interval_cases c <;> rfl

/-- A write of TT_IMAGE_ADDR while the context is STOPPED sets it. -/
theorem writeScalar_imageAddr {s : State} (tr : Transport) {c : Nat} (v : Nat) (hc : c < 8) (hs : s.tt c = 0) :
    s.writeScalar tr 0x4101 (c + 1) v = (s.put (Key.TT_IMAGE_ADDR c) v, none) := by
  have htt : (s.put (Key.TT_IMAGE_ADDR c) v).tt c = 0 :=
    (get_put_ne _ _ (by unfold Key.TT_IMAGE_ADDR Key.TT_STATE; omega)).trans hs
  have hw : s.writeCtx 0x4101 c v = (ttImageAddrOp c v s, none) := rfl
  simp only [State.writeScalar, (imageAddr_entry c hc).2.1, hw, ttImageAddrOp, ttUnloadOp, htt]
  rfl

/-- Settles O20: the shape clears its groups, the address stands in its register. -/
theorem shapeAndImageAddress : Obligations.ShapeAndImageAddress := by
  intro tr s v hh hq
  refine ⟨fun hv hs hwf => fabShapeWrite_next hh hq hv hs hwf, fun c hc hs => ?_⟩
  obtain ⟨hplain, hctx, hlen⟩ := imageAddr_entry c hc
  have hw := writeScalar_imageAddr tr v.toNat hc ((tt_opened s tr v.toNat c).trans hs)
  refine ⟨_, hostScalar_next hh hq hplain (fun x _ => stateOk_of_ctx x (by decide) hctx ?_) v.isLt
    (admits_of_lt 64 hlen (rangeOk_imageAddr _ hc) v.isLt) hw (.inr ?_), accepted_taken _ _ rfl rfl, ?_,
    keepsRegs_taken _ (keepsRegs_put _ _ _), taken_dom_of_opened (v := v.toNat) _ rfl, onlyDict_host (v := v.toNat) _ rfl⟩
  · rw [tt_opened]
    exact .inl hs
  · rw [get_put_ne _ _ (by unfold Key.TT_IMAGE_ADDR Key.RPL_STATE; omega)]
    exact opened_rplState tr _ hq
  · rw [get_taken, get_put_self, Nat.mod_eq_of_lt v.isLt]

end Sys2Proof.Machine

/-! SUPPORT. The starts of copies and jobs, the read cache dropped, and CRC errors injected (R282, R301, R354, R366). -/

namespace Sys2Proof.Machine

open Sys2Proof

/-- A result register after a write or a start that found no fault. -/
theorem putResult_none (s : State) (tr : Transport) {k item table : Nat} (hk : k ≠ Key.FEP_RESULT) (ht : table ≤ 1) :
    s.putResult tr k item table none = s.put (trKey tr k) (item * 2 ^ 20 + table * 2 ^ 19) := by
  unfold State.putResult
  have ht' : table <<< 19 < 2 ^ 20 := by
    rw [Nat.shiftLeft_eq]
    omega
  rw [if_neg hk, Nat.or_zero, shiftLeft_or ht', Nat.shiftLeft_eq table]

theorem putResult_fep (s : State) (tr : Transport) (item : Nat) :
    s.putResult tr Key.FEP_RESULT item 0 none = s.put (trKey tr Key.FEP_RESULT) (item * 2 ^ 16) := by
  unfold State.putResult
  rw [if_pos rfl, Nat.zero_shiftLeft, Nat.or_zero, Nat.or_zero, Nat.shiftLeft_eq]

section Start
variable {tr : Transport} {s : State} {v : Nat}

/-- The tables stand when a request has been opened. -/
theorem copy_opened (m : Nat) : (s.opened tr v).copy m = s.copy m := by cases tr <;> rfl
theorem job_opened (m : Nat) : (s.opened tr v).job m = s.job m := by cases tr <;> rfl
theorem reqEntry_opened (m : Nat) : (s.opened tr v).reqEntry m = s.reqEntry m := by cases tr <;> rfl

/-- A copy start that is accepted (R282). -/
theorem pressResult_copyStart (hv : v ≤ 255) (hd : ldValid (s.copy v) = true) (hl : s.press.queue.length < 16) :
    State.pressResult tr v 1 (s.copyStart v) =
      (({ s with press := { s.press with queue := s.press.queue ++ [v] } }).put (trKey tr Key.PRESS_RESULT) (v * 2 ^ 20 + 2 ^ 19), none) := by
  have hs : s.copyStart v = ({ s with press := { s.press with queue := s.press.queue ++ [v] } }, none) := by
    simp [State.copyStart, hv, hd, hl]
  rw [hs, State.pressResult]
  dsimp only [State.countRefused]
  rw [putResult_none _ _ (by decide) (by decide), Nat.mod_eq_of_lt (by omega), Nat.one_mul]

/-- A job start that is accepted (R301). -/
theorem sfuResult_jobStart (hv : v ≤ 63) (hd : ldValid (s.job v) = true) (hl : s.sfu.queue.length < 16)
    (hp : progEmpty (bankProg (s.sfuBank (s.get Key.SFU_PROG_ACTIVE)) (jbProg (s.job v))) = false) :
    State.sfuResult tr v (s.jobStart v) =
      (({ s with sfu := { s.sfu with queue := s.sfu.queue ++ [v] } }).put (trKey tr Key.SFU_RESULT) (v * 2 ^ 20), none) := by
  have hs : s.jobStart v = ({ s with sfu := { s.sfu with queue := s.sfu.queue ++ [v] } }, none) := by
    simp [State.jobStart, hv, hd, hl, hp]
  rw [hs, State.sfuResult]
  dsimp only [State.countRefused]
  rw [putResult_none _ _ (by decide) (by decide), Nat.mod_eq_of_lt (by omega), Nat.zero_mul, Nat.add_zero]
end Start

/-- A write on top of changes that leave the registers. -/
theorem keepsRegs_put_of_regs {s t : State} (h : t.regs = s.regs) (k v : Nat) : keepsRegs [k] s (t.put k v) :=
  (keepsRegs_of_regs (ks := [k]) h).trans (keepsRegs_put t k v) (List.Subset.refl _) (List.Subset.refl _)

/-- A transport's own result registers are apart from the replay log's state. -/
theorem trKey_ne_rplState (tr : Transport) : ∀ k ∈ ownCopies, trKey tr k ≠ Key.RPL_STATE := by
  cases tr <;> decide

/-- A start by the host whose result goes into its transport's own register `k`. -/
theorem hostScalar_start {tr : Transport} {s u : State} {idx sub v k n : Nat} (hh : hostReady tr s = true) (hq : s.get Key.RPL_STATE ≠ 1)
    (hp : plainScalar idx sub = true) (ha : anyState idx sub = true) (hv : v < 2 ^ 64) (ho : admits idx sub v = true)
    (hw : (s.opened tr v).writeScalar tr idx sub v = (u.put (trKey tr k) n, none)) (hu : u.regs = (s.opened tr v).regs)
    (hk : k ∈ ownCopies) (hn : n < 2 ^ 64) :
    ∃ t, hosted (hostScalar tr idx sub v) s = .next t ∧ accepted tr t = true ∧ t.get (trKey tr k) = n ∧
      keepsRegs (trKey tr k :: canKeys) s t ∧ ∃ r c d, t = { u with regs := r, cp := c, can := d } := by
  have hregs : keepsRegs [trKey tr k] (s.opened tr v) (u.put (trKey tr k) n) := keepsRegs_put_of_regs hu _ _
  obtain ⟨c, d, et⟩ := taken_moves tr { op := 2, idx := idx, sub := sub } (u.put (trKey tr k) n)
  refine ⟨_, hostScalar_next_any hh hq hp ha hv ho hw (.inr ?_), accepted_taken _ _ rfl rfl, ?_, keepsRegs_taken _ hregs, _, c, d, et⟩
  · rw [get_put_ne _ _ (trKey_ne_rplState tr _ hk), get_of_regs hu]
    exact opened_rplState tr _ hq
  · rw [get_taken, get_put_self, Nat.mod_eq_of_lt hn]

/-- PRESS_COPY_START by the host. -/
theorem pressCopyStart_next {tr : Transport} {s : State} {v : U64} (hh : hostReady tr s = true) (hq : s.get Key.RPL_STATE ≠ 1)
    (hv : v.toNat ≤ 255) (hd : ldValid (s.copy v.toNat) = true) (hl : s.press.queue.length < 16) :
    ∃ t, exec (.pressCopyStart tr v) s = .next t ∧ accepted tr t = true ∧
      t.press = { s.press with queue := s.press.queue ++ [v.toNat] } ∧
      t.get (trKey tr Key.PRESS_RESULT) = v.toNat * 2 ^ 20 + 2 ^ 19 ∧
      keepsRegs (trKey tr Key.PRESS_RESULT :: canKeys) s t ∧ t.dom = s.dom ∧ t.env = s.env ∧ t.stg = s.stg ∧ t.sfu = s.sfu := by
  obtain ⟨r, f, c, w, eo⟩ := opened_moves s tr v.toNat
  have hw := pressResult_copyStart (tr := tr) (s := s.opened tr v.toNat) hv (by rwa [copy_opened]) (by rwa [eo])
  obtain ⟨t, he, hacc, hres, hregs, r', c', d', et⟩ := hostScalar_start (idx := 0x5802) (sub := 0x02) hh hq (by decide) (by decide) v.isLt
    (admits_of_lt 8 (by decide) rfl (by omega)) hw rfl (by decide) (by omega)
  refine ⟨t, he, hacc, ?_, hres, hregs, ?_⟩
  · rw [et, eo]
  · rw [et, eo]
    exact ⟨rfl, rfl, rfl, rfl⟩

/-- SFU_JOB_START by the host. -/
theorem sfuJobStart_next {tr : Transport} {s : State} {v : U64} (hh : hostReady tr s = true) (hq : s.get Key.RPL_STATE ≠ 1)
    (hv : v.toNat ≤ 63) (hd : ldValid (s.job v.toNat) = true) (hl : s.sfu.queue.length < 16)
    (hp : progEmpty (bankProg (s.sfuBank (s.get Key.SFU_PROG_ACTIVE)) (jbProg (s.job v.toNat))) = false) :
    ∃ t, exec (.sfuJobStart tr v) s = .next t ∧ accepted tr t = true ∧
      t.sfu = { s.sfu with queue := s.sfu.queue ++ [v.toNat] } ∧
      t.get (trKey tr Key.SFU_RESULT) = v.toNat * 2 ^ 20 ∧
      keepsRegs (trKey tr Key.SFU_RESULT :: canKeys) s t ∧ t.dom = s.dom ∧ t.env = s.env ∧ t.stg = s.stg ∧ t.press = s.press := by
  obtain ⟨r, f, c, w, eo⟩ := opened_moves s tr v.toNat
  have hbank : (s.opened tr v.toNat).sfuBank ((s.opened tr v.toNat).get Key.SFU_PROG_ACTIVE) = s.sfuBank (s.get Key.SFU_PROG_ACTIVE) := by
    rw [get_opened_of_not_mem tr v.toNat (by decide), eo]
    rfl
  have hw := sfuResult_jobStart (tr := tr) (s := s.opened tr v.toNat) hv (by rwa [job_opened]) (by rwa [eo]) (by rwa [hbank, job_opened])
  obtain ⟨t, he, hacc, hres, hregs, r', c', d', et⟩ := hostScalar_start (idx := 0x5C05) (sub := 0x01) hh hq (by decide) (by decide) v.isLt
    (admits_of_lt 8 (by decide) rfl (by omega)) hw rfl (by decide) (by omega)
  refine ⟨t, he, hacc, ?_, hres, hregs, ?_⟩
  · rw [et, eo]
  · rw [et, eo]
    exact ⟨rfl, rfl, rfl, rfl⟩

end Sys2Proof.Machine

/-! SUPPORT. What the Fabric Endpoint's own work leaves: it moves the endpoint, the memories, registers, and what a notice moves
(R340 to R354). -/

namespace Sys2Proof.Machine

open Sys2Proof

/-- A state without the parts that the endpoint's work touches. -/
def State.beyondFep (s : State) : State := { s.still with fep := {}, stg := [], free := 0 }

theorem beyondFep_of_still {s t : State} (h : t.still = s.still) : t.beyondFep = s.beyondFep := by
  unfold State.beyondFep
  rw [h]

theorem fep_beyondFep (s : State) (f : Fep) : ({ s with fep := f } : State).beyondFep = s.beyondFep := rfl
theorem setFepPort_beyondFep (s : State) (p : Nat) (x : FepPort) : (s.setFepPort p x).beyondFep = s.beyondFep := rfl
theorem fepLeft_beyondFep (s : State) (n : Nat) : (s.fepLeft n).beyondFep = s.beyondFep := rfl
theorem fresh_beyondFep (s : State) : s.fresh.beyondFep = s.beyondFep := rfl

theorem ite_beyondFep {c : Prop} [Decidable c] {a b s : State} (ha : a.beyondFep = s.beyondFep) (hb : b.beyondFep = s.beyondFep) :
    (if c then a else b).beyondFep = s.beyondFep := by
  split
  · exact ha
  · exact hb

theorem foldl_beyondFep {α : Type} {f : State → α → State} (l : List α) (s : State) (hf : ∀ s a, (f s a).beyondFep = s.beyondFep) :
    (l.foldl f s).beyondFep = s.beyondFep :=
  List.foldlRecOn (motive := fun u : State => u.beyondFep = s.beyondFep) _ _ rfl (fun u hu a _ => (hf u a).trans hu)

/-! ### Memory -/

theorem stgWrite_beyondFep (s : State) (a : Nat) (bs : Bytes) (c : Bool) : (s.stgWrite a bs c).beyondFep = s.beyondFep :=
  (rfl : _ = (bankTouch true c (lineCount a bs.length) (a / 128) s).beyondFep).trans (beyondFep_of_still (bankTouch_still ..))

theorem fepRead_beyondFep (s : State) (h : Bool) (p a n : Nat) : (s.fepRead h p a n).beyondFep = s.beyondFep := by
  cases h
  · exact beyondFep_of_still (bankTouch_still ..)
  · exact beyondFep_of_still (count64_still ..)

theorem fepWrite_beyondFep (s : State) (h : Bool) (p a : Nat) (bs : Bytes) : (s.fepWrite h p a bs).beyondFep = s.beyondFep := by
  cases h
  · exact stgWrite_beyondFep ..
  · exact beyondFep_of_still (hostWrite_still ..)

/-! ### Messages -/

theorem fepOwe_beyondFep (s : State) (f : Option Nat) (r : Bool) (n : Nat) : (s.fepOwe f r n).beyondFep = s.beyondFep := by
  cases f <;> rfl

theorem fepPut_beyondFep (s : State) (m : Msg) : (s.fepPut m).beyondFep = s.beyondFep := by
  unfold State.fepPut
  split
  · rfl
  · exact ite_beyondFep rfl rfl

theorem fepReply_beyondFep (s : State) (r : Msg) : (s.fepReply r).beyondFep = s.beyondFep :=
  ite_beyondFep rfl (fepPut_beyondFep ..)

theorem fepRepeat_beyondFep (s : State) (m : Msg) : (s.fepRepeat m).beyondFep = s.beyondFep := by
  unfold State.fepRepeat
  split
  · split
    · exact fepReply_beyondFep ..
    · rfl
  · exact fepReply_beyondFep ..

theorem setFepNext_beyondFep (s : State) (a n : Nat) : (s.setFepNext a n).beyondFep = s.beyondFep :=
  (foldl_beyondFep _ _ fepRepeat_beyondFep).trans (fep_beyondFep ..)

theorem fepEnter_beyondFep (s : State) (m : Msg) : (s.fepEnter m).beyondFep = s.beyondFep := by
  unfold State.fepEnter
  dsimp only
  refine ite_beyondFep rfl ?_
  generalize hu : (if m.sync then _ else _ : State) = u
  have hu : u.beyondFep = s.beyondFep := by
    rw [← hu]
    exact ite_beyondFep ((setFepNext_beyondFep ..).trans (fep_beyondFep ..)) rfl
  refine ite_beyondFep ((beyondFep_of_still (log_still ..)).trans hu) (ite_beyondFep ((fepRepeat_beyondFep ..).trans hu) ?_)
  exact (fep_beyondFep ..).trans (ite_beyondFep ((setFepNext_beyondFep ..).trans hu) hu)

theorem fepTake_beyondFep (s : State) (f : Option Nat) (m : Msg) : (s.fepTake f m).beyondFep = s.beyondFep :=
  ite_beyondFep rfl ((fepEnter_beyondFep ..).trans (fepOwe_beyondFep ..))

theorem fepOut_beyondFep (s : State) (m : Msg) : (s.fepOut m).beyondFep = s.beyondFep :=
  ite_beyondFep ((fepLeft_beyondFep ..).trans (fepTake_beyondFep ..)) (fepPut_beyondFep ..)

theorem fepSend_beyondFep (s : State) (r : Req) : (s.fepSend r).beyondFep = s.beyondFep :=
  (fepOut_beyondFep ..).trans (fep_beyondFep ..)

/-! ### Started entries -/

theorem fepNotice_beyondFep (s : State) (x : Started) : (s.fepNotice x).beyondFep = s.beyondFep :=
  ite_beyondFep ((beyondFep_of_still (postWord_still ..)).trans (fep_beyondFep ..)) rfl

theorem setStarted_beyondFep (s : State) (x : Started) : (s.setStarted x).beyondFep = s.beyondFep :=
  ite_beyondFep (fepNotice_beyondFep ..) rfl

theorem fepBegin_beyondFep (s : State) (q : Nat) (r : List Nat) : (s.fepBegin q r).beyondFep = s.beyondFep :=
  ite_beyondFep rfl ((setStarted_beyondFep ..).trans (fep_beyondFep ..))

theorem fepStep_beyondFep {s t : State} (h : s.fepStep = some t) : t.beyondFep = s.beyondFep := by
  unfold State.fepStep at h
  split at h
  · cases h
    exact (fepSend_beyondFep ..).trans (fep_beyondFep ..)
  · split at h
    · split at h
      · cases h
      · dsimp only at h
        split at h
        · cases h
          exact (setStarted_beyondFep ..).trans (fepWrite_beyondFep ..)
        · split at h
          · cases h
            refine (fepSend_beyondFep ..).trans ((setStarted_beyondFep ..).trans (ite_beyondFep ?_ (fresh_beyondFep s)))
            exact (fepRead_beyondFep ..).trans (fresh_beyondFep s)
          · cases h
    · cases h
      exact fepBegin_beyondFep ..
    · cases h

theorem fepIssue_beyondFep (n : Nat) (s : State) : (State.fepIssue n s).beyondFep = s.beyondFep := by
  induction n generalizing s with
  | zero => rfl
  | succ n ih =>
    unfold State.fepIssue
    split
    next t h => exact (ih t).trans (fepStep_beyondFep h)
    next => rfl

/-- What stands beyond the endpoint, part by part. -/
theorem beyondFep_parts {s t : State} (h : t.beyondFep = s.beyondFep) :
    t.press = s.press ∧ t.sfu = s.sfu ∧ t.ctxs = s.ctxs ∧ t.pools = s.pools :=
  ⟨(congrArg State.press h :), (congrArg State.sfu h :), (congrArg State.ctxs h :), (congrArg State.pools h :)⟩

/-- A request start that is accepted (R351). -/
theorem unitResult_fepStart {tr : Transport} {s : State} {v : Nat} (hv : v ≤ 255) (hd : ldValid (s.reqEntry v) = true)
    (hl : s.fep.starts.length < 16) (hp : s.holdsPart (rqCtx (s.reqEntry v)) = true) :
    State.unitResult tr Key.FEP_RESULT v (s.fepStart v) =
      ((State.fepIssue fepFuel { s with fep := { s.fep with starts := s.fep.starts ++ [v] } }).put (trKey tr Key.FEP_RESULT) (v * 2 ^ 16), none) := by
  have hs : s.fepStart v = (State.fepIssue fepFuel { s with fep := { s.fep with starts := s.fep.starts ++ [v] } }, none) := by
    simp only [State.fepStart, hv, hd, hl, hp, decide_true, Bool.and_self, if_true]
  rw [hs, State.unitResult]
  dsimp only
  rw [putResult_fep]

/-- FEP_START by the host. -/
theorem fepStart_next {tr : Transport} {s : State} {v : U64} (hh : hostReady tr s = true) (hv : v.toNat ≤ 255)
    (hd : ldValid (s.reqEntry v.toNat) = true) (hl : s.fep.starts.length < 16) (hp : s.holdsPart (rqCtx (s.reqEntry v.toNat)) = true) :
    ∃ t, exec (.fepStart tr v) s = .next t ∧ accepted tr t = true ∧ t.get (trKey tr Key.FEP_RESULT) = v.toNat * 2 ^ 16 ∧
      t.press = s.press ∧ t.sfu = s.sfu ∧ t.ctxs = s.ctxs ∧ t.pools = s.pools := by
  obtain ⟨r, f, c, w, eo⟩ := opened_moves s tr v.toNat
  have hw := unitResult_fepStart (tr := tr) (s := s.opened tr v.toNat) hv (by rwa [reqEntry_opened]) (by rwa [eo])
    (by rw [reqEntry_opened, eo]; exact hp)
  generalize hu : State.fepIssue fepFuel _ = u at hw
  have hbeyond : u.press = s.press ∧ u.sfu = s.sfu ∧ u.ctxs = s.ctxs ∧ u.pools = s.pools := by
    have h := beyondFep_parts (hu ▸ (fepIssue_beyondFep ..).trans (fep_beyondFep ..) : u.beyondFep = (s.opened tr v.toNat).beyondFep)
    rwa [eo] at h
  refine ⟨_, hostScalar_recorded (idx := 0x6813) (sub := 0x01) hh (by decide) (by decide) v.isLt (admits_of_lt 8 (by decide) rfl (by omega))
    (by decide) hw, accepted_taken _ _ rfl rfl, ?_, ?_⟩
  · rw [get_taken, recordWrite_keepsRegs _ _ _ _ ?_, get_put_self, Nat.mod_eq_of_lt (by omega)]
    cases tr <;> decide
  · obtain ⟨x, d, er⟩ := recordWrite_moves (u.put (trKey tr Key.FEP_RESULT) (v.toNat * 2 ^ 16))
      { tr := tr, op := 2, idx := 0x6813, sub := 0x01, value := v.toNat } false
    obtain ⟨c', d', et⟩ := taken_moves tr { op := 2, idx := 0x6813, sub := 0x01 }
      ((u.put (trKey tr Key.FEP_RESULT) (v.toNat * 2 ^ 16)).recordWrite { tr := tr, op := 2, idx := 0x6813, sub := 0x01, value := v.toNat } false)
    rw [et, er]
    exact hbeyond

/-- Settles O18: a copy and a job join their queues; a request start is taken in. -/
theorem unitStarts : Obligations.UnitStarts := by
  intro tr s v hh hq
  exact ⟨pressCopyStart_next hh hq, sfuJobStart_next hh hq, fepStart_next hh⟩

end Sys2Proof.Machine

/-! SUPPORT. Transactions on DOMAIN entries through a transport (R374 to R377, R383 to R388). -/

namespace Sys2Proof.Machine

open Sys2Proof

/-! ### A request on an idle transport -/

/-- The state in which a request's transaction runs: the field network's port has heard its frame (R390). -/
def State.heardOn (s : State) (tr : Transport) : State := match tr with | .cp => s | .can => s.canHeard

/-- A request on an idle transport runs its transaction. -/
theorem request_idle {s : State} {r : DictReq} (hb : (s.tport r.tr).busy = none) (hc : r.tr = .can → s.canSends = true)
    (hop : (r.op == 0x10 || r.op == 0x11) = false) :
    s.request r = taken r.tr ((s.heardOn r.tr).runTxn r).2 ((s.heardOn r.tr).runTxn r).1 := by
  obtain ⟨tr, op, bad, tid, idx, sub, count, offset, length, value, sels⟩ := r
  cases tr with
  | cp =>
    have hb' : s.cp.busy = none := hb
    show s.cpRequest _ = _
    rw [State.cpRequest, hb']
    rfl
  | can =>
    have hb' : s.canHeard.can.busy = none := hb
    show s.canRequest _ [] = _
    unfold State.canRequest
    rw [hc rfl]
    dsimp only at hop ⊢
    rw [hb', hop]
    rfl

/-- A ready transport is idle when a request of it arrives. -/
theorem hostReady_parts {tr : Transport} {s : State} (h : hostReady tr s = true) :
    s.live = true ∧ (s.tport tr).busy = none ∧ (tr = .can → s.canSends = true) := by
  simp only [hostReady, Bool.and_eq_true, Option.isNone_iff_eq_none] at h
  obtain ⟨⟨hl, hb⟩, hc⟩ := h
  refine ⟨hl, hb, ?_⟩
  rintro rfl
  exact hc

/-- The host's part of a command, once the engine works. -/
theorem hosted_of_ready {tr : Transport} {s : State} (h : hostReady tr s = true) (f : State → State) : hosted f s = .next (f s.fresh) :=
  congrArg _ (if_pos (hostReady_parts h).1)

/-! ### COMMIT -/

/-- A COMMIT's bytes put and heard move the registers and the transports alone. -/
theorem heardBytes_moves (s : State) (tr : Transport) (o : Nat) (d : Bytes) :
    ∃ r f c k w, heardBytes tr o d s = { s with regs := r, free := f, cp := c, can := k, win := w } := by
  cases tr <;> exact ⟨_, _, _, _, _, rfl⟩

theorem onlyDict_heardBytes (s : State) (tr : Transport) (o : Nat) (d : Bytes) : onlyDict s (heardBytes tr o d s) := by cases tr <;> rfl

theorem heardBytes_dom (s : State) (tr : Transport) (o : Nat) (d : Bytes) : (heardBytes tr o d s).dom = s.dom := by cases tr <;> rfl

theorem heardBytes_keepsRegs (s : State) (tr : Transport) (o : Nat) (d : Bytes) : keepsRegs canKeys s (heardBytes tr o d s) := by
  cases tr with
  | cp => exact .refl s
  | can => exact opened_keepsRegs (s.putWrite .can 0 d) .can 0

theorem get_heardBytes {s : State} (tr : Transport) (o : Nat) (d : Bytes) {k : Nat} (h : k ∉ canKeys) :
    (heardBytes tr o d s).get k = s.get k := heardBytes_keepsRegs s tr o d k h

/-- The bytes that a COMMIT carries are those put into the write buffer. -/
theorem commitBytes_heardBytes {s : State} (hb : buffered s) (tr : Transport) (o : Nat) {d : Bytes} (hd : d.length ≤ 4096) (r : DictReq)
    (hr : r.tr = tr) (hl : r.length = d.length) : (heardBytes tr o d s).commitBytes r = d := by
  obtain ⟨-, hcp, -, hcan⟩ := hb
  have htake : d.take 4096 = d := List.take_of_length_le hd
  unfold State.commitBytes
  rw [hr, hl, Nat.min_eq_right hd]
  cases tr with
  | cp =>
    show bufBytes (bufPut s.cp.wbuf 0 (d.take 4096)) 0 d.length = d
    rw [htake]
    exact memRead_writeDflt_self _ 0 d hcp
  | can =>
    show bufBytes (bufPut s.can.wbuf 0 (d.take 4096)) 0 d.length = d
    rw [htake]
    exact memRead_writeDflt_self _ 0 d hcan

/-- What a COMMIT of bytes in a ready transport answers. -/
theorem commit_runs {tr : Transport} {s : State} (idx sub o : Nat) (d : Bytes) (h : hostReady tr s = true) :
    hosted (hostCommit tr idx sub o d) s =
      .next (let x := (heardBytes tr o d s).runTxn { tr := tr, op := 4, idx := idx, sub := sub, offset := o, length := d.length }
        taken tr x.2 x.1) := by
  obtain ⟨-, hbusy, hsends⟩ := hostReady_parts h
  rw [hosted_of_ready h]
  congr 1
  cases tr with
  | cp => exact request_idle (s := (s.fresh.putWrite .cp 0 d).putArg (o <<< 32 ||| d.length)) (r := { tr := .cp, op := 4, idx := idx, sub := sub, offset := o, length := d.length }) hbusy (fun h => nomatch h) rfl
  | can =>
    have hfill : (s.fresh.canSends && s.fresh.can.busy.isNone) = true := by
      have h1 : s.fresh.canSends = true := hsends rfl
      have h2 : s.fresh.can.busy = none := hbusy
      rw [h1, h2]
      rfl
    unfold hostCommit
    dsimp only
    rw [hfill, if_pos rfl]
    exact request_idle (s := s.fresh.putWrite .can 0 d) (r := { tr := .can, op := 4, idx := idx, sub := sub, offset := o, length := d.length })
      hbusy (fun _ => hsends rfl) rfl

/-- A DOMAIN entry of `n` bytes that the host may write, outside the partition's entries. -/
def plainDomain (idx sub n : Nat) : Bool :=
  decide (idx < 65536 ∧ sub < 256 ∧ ¬ (0x7000 ≤ idx ∧ idx ≤ 0x77FF) ∧ n < 2 ^ 32 ∧ entryKey idx sub ≠ Dom.PQ_READ) &&
    (entryAt idx sub).any (fun e => e.isDomain && decide (accessFault 4 e = none ∧ e.len = n))

section Commit
variable {tr : Transport} {s u : State} {idx sub n o : Nat} {d : Bytes}

/-- The transaction of a COMMIT that passes the checks of Table 15.4 and whose entry's own checks find nothing. -/
theorem commit_writeTxn (hp : plainDomain idx sub n = true)
    (hs : ∀ e, entryAt idx sub = some e → (heardBytes tr o d s).stateOk idx sub e = true) (hl : d.length ≤ 4096) (ho : o + d.length ≤ n) :
    (heardBytes tr o d s).runTxn { tr := tr, op := 4, idx := idx, sub := sub, offset := o, length := d.length } =
      (heardBytes tr o d s).writeTxn { tr := tr, op := 4, idx := idx, sub := sub, offset := o, length := d.length } := by
  simp only [plainDomain, Bool.and_eq_true, decide_eq_true_eq, Option.any_eq_true] at hp
  obtain ⟨⟨hi, hsub, hpart, hn, hk⟩, e, he, hd, ha, hlen⟩ := hp
  have hentry : (heardBytes tr o d s).entry idx sub = some e := (if_neg fun c => hpart ⟨c.1, c.2.1⟩).trans he
  have hformed : (DictReq.formed { tr := tr, op := 4, idx := idx, sub := sub, offset := o, length := d.length }) = true := by
    cases tr <;> simp [DictReq.formed, DictReq.headFormed, hi, hsub] <;> omega
  have hone : (heardBytes tr o d s).oneCheck { tr := tr, op := 4, idx := idx, sub := sub, offset := o, length := d.length } e = none := by
    have hlt : ¬ e.len < o + d.length := by omega
    have hlt' : ¬ 4096 < d.length := by omega
    simp [State.oneCheck, hd, State.entryLen, hk, hlt, hlt', hs e he]
  have hc : (heardBytes tr o d s).dictCheck { tr := tr, op := 4, idx := idx, sub := sub, offset := o, length := d.length } = none := by
    unfold State.dictCheck
    simp [hformed, DictReq.names, firstAt, hentry, ha, hone]
  unfold State.runTxn
  rw [hc]
  simp [DictReq.writes]

/-- The transaction of a write that its entry's own checks pass: the write, then its record. -/
theorem writeTxn_commit {v : State} {r : DictReq} (hr : r.op = 4) (hw : v.applyWrite r = (u, none)) :
    v.writeTxn r = (u.recordWrite r false, r.txn) := by
  have hop : r.op ≠ 2 := by omega
  have hop' : (r.op == 2) = false := beq_false_of_ne hop
  unfold State.writeTxn
  simp only [hop', Bool.false_and, Bool.false_eq_true, if_false, hw, hop, decide_false]
  rfl

/-- A host's COMMIT: the write's effect, its record, and the transaction taken as accepted. -/
theorem hostCommit_recorded (h : hostReady tr s = true) (hb : buffered s) (hp : plainDomain idx sub n = true)
    (hs : ∀ e, entryAt idx sub = some e → (heardBytes tr o d s).stateOk idx sub e = true) (hd : d ≠ []) (hl : d.length ≤ 4096)
    (ho : o + d.length ≤ n) (hw : (heardBytes tr o d s).writeDomain tr (entryKey idx sub) o d = (u, none)) :
    hosted (hostCommit tr idx sub o d) s = .next (taken tr { op := 4, idx := idx, sub := sub }
      (u.recordWrite { tr := tr, op := 4, idx := idx, sub := sub, offset := o, length := d.length } false)) := by
  have happly : (heardBytes tr o d s).applyWrite { tr := tr, op := 4, idx := idx, sub := sub, offset := o, length := d.length } = (u, none) := by
    have hne : d.length ≠ 0 := fun e => hd (List.length_eq_zero_iff.1 e)
    unfold State.applyWrite
    rw [if_neg (show ¬ (4 : Nat) = 2 by decide), if_neg hne, commitBytes_heardBytes hb tr o hl _ rfl rfl]
    exact hw
  rw [commit_runs idx sub o d h, commit_writeTxn hp hs hl ho, writeTxn_commit rfl happly]
  rfl

/-- The same while the replay log does not record. -/
theorem hostCommit_next (h : hostReady tr s = true) (hb : buffered s) (hp : plainDomain idx sub n = true)
    (hs : ∀ e, entryAt idx sub = some e → (heardBytes tr o d s).stateOk idx sub e = true) (hd : d ≠ []) (hl : d.length ≤ 4096)
    (ho : o + d.length ≤ n) (hw : (heardBytes tr o d s).writeDomain tr (entryKey idx sub) o d = (u, none))
    (hq : u.get Key.RPL_STATE ≠ 1) :
    hosted (hostCommit tr idx sub o d) s = .next (taken tr { op := 4, idx := idx, sub := sub } u) := by
  rw [hostCommit_recorded h hb hp hs hd hl ho hw, recordWrite_off _ _ hq]

theorem keepsRegs_committed {ks : List Nat} (x : Txn) (h : keepsRegs ks (heardBytes tr o d s) u) : keepsRegs (ks ++ canKeys) s (taken tr x u) :=
  .trans (heardBytes_keepsRegs s tr o d) (h.trans (u := taken tr x u) (keepsRegs_of_regs (ks := []) (taken_regs ..)) (List.Subset.refl _) (List.nil_subset _))
    (List.subset_append_right ..) (List.subset_append_left ..)

theorem onlyDict_committed (x : Txn) (h : onlyDict (heardBytes tr o d s) u) : onlyDict s (taken tr x u) :=
  ((onlyDict_heardBytes s tr o d).trans h).trans (onlyDict_taken ..)
end Commit

end Sys2Proof.Machine

/-! SUPPORT. The read cache dropped, CRC errors injected, and scans asked for (R354, R361, R366). -/

namespace Sys2Proof.Machine

open Sys2Proof

/-- An entry without a state rule may be written in any state. -/
theorem stateOk_of_any {idx sub : Nat} (h : anyState idx sub = true) (s : State) (e : Entry) (he : entryAt idx sub = some e) :
    s.stateOk idx sub e = true := by
  rw [anyState, he] at h
  exact if_pos (by simpa using h)

/-- A host's write that moves one unit and no register: what stands. -/
theorem hostScalar_unit {tr : Transport} {s u : State} {idx sub v : Nat} (hh : hostReady tr s = true) (hq : s.get Key.RPL_STATE ≠ 1)
    (hp : plainScalar idx sub = true) (ha : anyState idx sub = true) (hv : v < 2 ^ 64) (ho : admits idx sub v = true)
    (hw : (s.opened tr v).writeScalar tr idx sub v = (u, none)) (hu : u.regs = (s.opened tr v).regs) :
    ∃ t, hosted (hostScalar tr idx sub v) s = .next t ∧ accepted tr t = true ∧ keepsRegs canKeys s t ∧ ∃ c d, t = { u with cp := c, can := d } := by
  obtain ⟨c, d, et⟩ := taken_moves tr { op := 2, idx := idx, sub := sub } u
  refine ⟨_, hostScalar_next_any hh hq hp ha hv ho hw (.inr ?_), accepted_taken _ _ rfl rfl,
    keepsRegs_taken (ks := []) (v := v) _ (keepsRegs_of_regs hu), c, d, et⟩
  rw [get_of_regs hu]
  exact opened_rplState tr _ hq

/-- FEP_INVAL by the host. -/
theorem fepInval_next {tr : Transport} {s : State} {v : U64} (hh : hostReady tr s = true) (hq : s.get Key.RPL_STATE ≠ 1)
    (hv : v.toNat < 256) : ∃ t, exec (.fepInval tr v) s = .next t ∧ accepted tr t = true ∧
      (v.toNat < 8 → t.fep.cache = s.fep.cache.filter (fun x => !(x.ctx == v.toNat))) ∧
      (v.toNat = 0xFF → t.fep.cache = []) ∧ (8 ≤ v.toNat → v.toNat ≠ 0xFF → t.fep = s.fep) ∧
      t.fep = { s.fep with cache := t.fep.cache } ∧ keepsRegs canKeys s t ∧ t.dom = s.dom ∧ t.env = s.env ∧ t.stg = s.stg := by
  obtain ⟨r, f, c, w, eo⟩ := opened_moves s tr v.toNat
  have hfep : ∀ x : State, ∃ l, fepInvalOp v.toNat x = { x with fep := { x.fep with cache := l } } ∧
      (v.toNat < 8 → l = x.fep.cache.filter (fun y => !(y.ctx == v.toNat))) ∧ (v.toNat = 0xFF → l = []) ∧
      (8 ≤ v.toNat → v.toNat ≠ 0xFF → l = x.fep.cache) := by
    intro x
    unfold fepInvalOp
    split
    · exact ⟨_, rfl, fun _ => rfl, fun h => by omega, fun h => by omega⟩
    · split
      · exact ⟨_, rfl, fun h => by omega, fun _ => by simp, fun _ h => by omega⟩
      · exact ⟨_, rfl, fun h => by omega, fun h => by omega, fun _ _ => rfl⟩
  obtain ⟨l, e, h8, hall, hnone⟩ := hfep (s.opened tr v.toNat)
  have hw : (s.opened tr v.toNat).writeScalar tr 0x6813 0x04 v.toNat = (fepInvalOp v.toNat (s.opened tr v.toNat), none) := rfl
  rw [e] at hw
  obtain ⟨t, he, hacc, hregs, c', d', et⟩ := hostScalar_unit hh hq (by decide) (by decide) v.isLt (admits_of_lt 8 (by decide) rfl hv) hw rfl
  have hsame : (s.opened tr v.toNat).fep = s.fep := by rw [eo]
  rw [hsame] at h8 hnone et
  refine ⟨t, he, hacc, fun h => ?_, fun h => ?_, fun h h' => ?_, ?_, hregs, ?_⟩
  · rw [et]
    exact h8 h
  · rw [et]
    exact hall h
  · rw [et]
    exact congrArg (fun l => { s.fep with cache := l }) (hnone h h')
  · rw [et]
  · rw [et, eo]
    exact ⟨rfl, rfl, rfl⟩

/-- CVU_INJECT by the host. -/
theorem cvuInject_next {tr : Transport} {s : State} {v : U64} (hh : hostReady tr s = true) (hq : s.get Key.RPL_STATE ≠ 1)
    (hv : v.toNat < 2 ^ 16) : ∃ t, exec (.cvuInject tr v) s = .next t ∧ accepted tr t = true ∧
      (bit v.toNat 15 = true → bits v.toNat 6 9 = 0 → v.toNat % 64 ∈ t.cvu.inject) ∧
      (∀ p, p ≠ v.toNat % 64 → (p ∈ t.cvu.inject ↔ p ∈ s.cvu.inject)) ∧
      (bit v.toNat 15 = false ∨ bits v.toNat 6 9 ≠ 0 → t.cvu = s.cvu) ∧
      t.cvu = { s.cvu with inject := t.cvu.inject } ∧ keepsRegs canKeys s t ∧ t.dom = s.dom ∧ t.env = s.env ∧ t.stg = s.stg := by
  obtain ⟨r, f, c, w, eo⟩ := opened_moves s tr v.toNat
  have hcvu : ∀ x : State, ∃ l, cvuInjectOp v.toNat x = { x with cvu := { x.cvu with inject := l } } ∧
      (bit v.toNat 15 = true → bits v.toNat 6 9 = 0 → v.toNat % 64 ∈ l) ∧ (∀ p, p ≠ v.toNat % 64 → (p ∈ l ↔ p ∈ x.cvu.inject)) ∧
      (bit v.toNat 15 = false ∨ bits v.toNat 6 9 ≠ 0 → l = x.cvu.inject) := by
    intro x
    unfold cvuInjectOp
    split
    next h =>
      obtain ⟨h15, h0⟩ : bit v.toNat 15 = true ∧ bits v.toNat 6 9 = 0 := by simpa using h
      refine ⟨_, rfl, fun _ _ => by simp, fun p hp => by simp [hp], fun hn => ?_⟩
      obtain hn | hn := hn
      · rw [h15] at hn
        cases hn
      · exact absurd h0 hn
    next h => exact ⟨_, rfl, fun h1 h2 => absurd (by simp [h1, h2]) h, fun _ _ => Iff.rfl, fun _ => rfl⟩
  obtain ⟨l, e, hin, hiff, hsame⟩ := hcvu (s.opened tr v.toNat)
  have hw : (s.opened tr v.toNat).writeScalar tr 0x2200 0x06 v.toNat = (cvuInjectOp v.toNat (s.opened tr v.toNat), none) := rfl
  rw [e] at hw
  obtain ⟨t, he, hacc, hregs, c', d', et⟩ := hostScalar_unit hh hq (by decide) (by decide) v.isLt (admits_of_lt 16 (by decide) rfl hv) hw rfl
  have hcvu' : (s.opened tr v.toNat).cvu = s.cvu := by rw [eo]
  rw [hcvu'] at hiff hsame et
  refine ⟨t, he, hacc, fun h h' => ?_, fun p hp => ?_, fun h => ?_, ?_, hregs, ?_⟩
  · rw [et]
    exact hin h h'
  · rw [et]
    exact hiff p hp
  · rw [et]
    exact congrArg (fun l => { s.cvu with inject := l }) (hsame h)
  · rw [et]
  · rw [et, eo]
    exact ⟨rfl, rfl, rfl⟩

/-- A scan request that passes its checks joins the queue (R361). -/
theorem unitResult_scanRequest {s : State} (tr : Transport) {d : Bytes} (hd : d.length = 32) (hc : s.scanCheck (u d 0 32) = none) :
    State.unitResult tr Key.CVU_RESULT 0 (s.scanRequest d) =
      (({ s with cvu := { s.cvu with queue := s.cvu.queue ++ [d] } }).put (trKey tr Key.CVU_RESULT) 0, none) := by
  have hsub : sub d 0 32 = d := by
    rw [← hd]
    exact sub_self d
  have hs : s.scanRequest d = ({ s with cvu := { s.cvu with queue := s.cvu.queue ++ [d] } }, none) := by
    simp only [State.scanRequest, hc, hsub]
  rw [hs, State.unitResult]
  dsimp only
  rw [putResult_none _ _ (by decide) (by decide), Nat.zero_mul, Nat.zero_mul]

/-- CVU_SCAN_REQ by the host. -/
theorem cvuScanReq_next {tr : Transport} {s : State} {d : Bytes} (hh : hostReady tr s = true) (hq : s.get Key.RPL_STATE ≠ 1)
    (hd : d.length = 32) (hb : buffered s) (hc : (heardBytes tr 0 d s).scanCheck (u d 0 32) = none) :
    ∃ t, exec (.cvuScanReq tr d) s = .next t ∧ accepted tr t = true ∧
      t.cvu = { s.cvu with queue := s.cvu.queue ++ [d] } ∧ t.get (trKey tr Key.CVU_RESULT) = 0 ∧
      keepsRegs (trKey tr Key.CVU_RESULT :: canKeys) s t ∧ t.dom = s.dom ∧ t.env = s.env ∧ t.stg = s.stg := by
  obtain ⟨r, f, c, k, w, eo⟩ := heardBytes_moves s tr 0 d
  have hsub : sub (zeros 0 ++ d) 0 32 = d := by
    rw [← hd]
    exact sub_self d
  have hw : (heardBytes tr 0 d s).writeDomain tr (entryKey 0x2200 0x01) 0 d =
      State.unitResult tr Key.CVU_RESULT 0 ((heardBytes tr 0 d s).scanRequest (sub (zeros 0 ++ d) 0 32)) := rfl
  rw [hsub, unitResult_scanRequest tr hd hc] at hw
  generalize hx : ({ heardBytes tr 0 d s with cvu := _ } : State) = x at hw
  have hregs : keepsRegs [trKey tr Key.CVU_RESULT] (heardBytes tr 0 d s) (x.put (trKey tr Key.CVU_RESULT) 0) :=
    keepsRegs_put_of_regs (by rw [← hx]) _ _
  obtain ⟨c', d', et⟩ := taken_moves tr { op := 4, idx := 0x2200, sub := 0x01 } (x.put (trKey tr Key.CVU_RESULT) 0)
  refine ⟨_, hostCommit_next hh hb (n := 32) (by decide) (stateOk_of_any (by decide) _) (fun e => ?_) (by omega) (by omega) hw ?_,
    accepted_taken _ _ rfl rfl, ?_, ?_, keepsRegs_committed _ hregs, ?_⟩
  · rw [e] at hd
    cases hd
  · rw [hregs _ (by simpa using (trKey_ne_rplState tr _ (by decide)).symm), get_heardBytes tr 0 d (by decide)]
    exact hq
  · rw [et, ← hx, eo]
    rfl
  · rw [get_taken, get_put_self, Nat.zero_mod]
  · rw [et, ← hx, eo]
    exact ⟨rfl, rfl, rfl⟩

/-- Settles O19: each request moves its own unit. -/
theorem invalInjectScan : Obligations.InvalInjectScan := by
  intro tr s hh hq
  exact ⟨fun v hv => fepInval_next hh hq hv, fun v hv => cvuInject_next hh hq hv, fun d hd hb hc => cvuScanReq_next hh hq hd hb hc⟩

end Sys2Proof.Machine

/-! SUPPORT. The timebase's states and its start by the host (R392, R408). -/

namespace Sys2Proof.Machine

open Sys2Proof

/-- The latched cause bits of the four interrupt outputs. -/
def causeKeys : List Nat := (List.range 4).map Key.INT_CAUSE

theorem intCause_mem_causeKeys {l : Nat} (h : l < 4) : Key.INT_CAUSE l ∈ causeKeys := List.mem_map.2 ⟨l, List.mem_range.2 h, rfl⟩

/-- Interrupt levels brought up to date leave the registers. -/
theorem syncInts_regs (s : State) : s.syncInts.regs = s.regs := by
  obtain ⟨f, e⟩ := syncInts_moves_field s
  rw [e]

theorem setCause_moves (s : State) (l b : Nat) : ∃ r f, s.setCause l b = { s with regs := r, field := f } := by
  obtain ⟨f, e⟩ := syncInts_moves_field (s.put (Key.INT_CAUSE l) (setBit (s.get (Key.INT_CAUSE l)) b))
  exact ⟨_, f, e⟩

theorem setCause_keepsRegs (s : State) {l : Nat} (b : Nat) (h : l < 4) : keepsRegs causeKeys s (s.setCause l b) := by
  have hput := (keepsRegs_put s (Key.INT_CAUSE l) (setBit (s.get (Key.INT_CAUSE l)) b)).mono
    (List.cons_subset.2 ⟨intCause_mem_causeKeys h, List.nil_subset _⟩)
  exact hput.trans (keepsRegs_of_regs (ks := []) (syncInts_regs _)) (List.Subset.refl _) (List.nil_subset _)

/-- A routed event moves the latched causes and the interrupts at most (R392). -/
theorem routeEvent_moves (s : State) (k : Nat) : ∃ r f, s.routeEvent k = { s with regs := r, field := f } := by
  unfold State.routeEvent
  dsimp only
  split
  · exact setCause_moves ..
  · exact ⟨_, _, rfl⟩

theorem routeEvent_keepsRegs (s : State) (k : Nat) : keepsRegs causeKeys s (s.routeEvent k) := by
  unfold State.routeEvent
  dsimp only
  split
  · exact setCause_keepsRegs _ _ (Nat.mod_lt _ (by decide))
  · exact .refl s

/-- TB_STATE set. -/
theorem setTb_moves (s : State) (v : Nat) : ∃ r f, s.setTb v = { s with regs := r, field := f } := by
  unfold State.setTb
  split
  · exact ⟨_, _, rfl⟩
  · obtain ⟨r, f, e⟩ := routeEvent_moves (s.put Key.TB_STATE v) 0
    exact ⟨r, f, e⟩

theorem get_setTb (s : State) {v : Nat} (h : v < 2 ^ 64) : (s.setTb v).get Key.TB_STATE = v := by
  unfold State.setTb
  split
  next he => exact he
  next => rw [routeEvent_keepsRegs _ _ _ (by decide), get_put_self, Nat.mod_eq_of_lt h]

theorem setTb_keepsRegs (s : State) (v : Nat) : keepsRegs (Key.TB_STATE :: causeKeys) s (s.setTb v) := by
  unfold State.setTb
  split
  · exact .refl s
  · exact (keepsRegs_put s Key.TB_STATE v).trans (routeEvent_keepsRegs _ _) (List.cons_subset.2 ⟨List.mem_cons_self, List.nil_subset _⟩) (List.subset_cons_self ..)

/-- TB and SLIPS set in one step: the time and what hangs on it (R193). -/
theorem stepTime_moves (s : State) (tb slips : Nat) : ∃ r x a i m p, s.stepTime tb slips =
    { s with regs := r, time := x, rates := a, issuedCmds := i, meter := m, ports := p } ∧ x.tb = BitVec.ofNat 64 tb :=
  ⟨_, _, _, _, _, _, rfl, rfl⟩

theorem stepTime_keepsRegs (s : State) (tb slips : Nat) : keepsRegs [Key.TB_SLIPS, Key.TB_PLAN_FRAME] s (s.stepTime tb slips) := by
  intro k hk
  simp only [List.mem_cons, List.not_mem_nil, or_false, not_or] at hk
  unfold State.stepTime
  dsimp only
  rw [get_put_ne _ _ (Ne.symm hk.2), get_put_ne _ _ (Ne.symm hk.1)]
  rfl

theorem get_stepTime_slips (s : State) (tb : Nat) {slips : Nat} (h : slips < 2 ^ 64) : (s.stepTime tb slips).get Key.TB_SLIPS = slips := by
  unfold State.stepTime
  dsimp only
  rw [get_put_ne _ _ (by decide), get_put_self, Nat.mod_eq_of_lt h]

/-- The registers that a start of the timebase may move. -/
def tbKeys : List Nat := Key.TB_STATE :: Key.TB_SLIPS :: Key.TB_PLAN_FRAME :: causeKeys

/-- A root's timebase set to TB_INIT and its state. -/
theorem stepTime_setTb (s : State) (v : Nat) (hv : v < 2 ^ 64) :
    ∃ r f x a i m p, (s.stepTime (s.get Key.TB_INIT) 0).setTb v =
        { s with regs := r, field := f, time := x, rates := a, issuedCmds := i, meter := m, ports := p } ∧
      x.tb.toNat = s.get Key.TB_INIT ∧ ((s.stepTime (s.get Key.TB_INIT) 0).setTb v).get Key.TB_STATE = v ∧
      ((s.stepTime (s.get Key.TB_INIT) 0).setTb v).get Key.TB_SLIPS = 0 ∧
      keepsRegs tbKeys s ((s.stepTime (s.get Key.TB_INIT) 0).setTb v) := by
  obtain ⟨r, x, a, i, m, p, e, htb⟩ := stepTime_moves s (s.get Key.TB_INIT) 0
  obtain ⟨r', f, e'⟩ := setTb_moves (s.stepTime (s.get Key.TB_INIT) 0) v
  refine ⟨r', f, x, a, i, m, p, by rw [e', e], ?_, get_setTb _ hv, ?_, ?_⟩
  · rw [htb, BitVec.toNat_ofNat, Nat.mod_eq_of_lt (get_lt ..)]
  · rw [setTb_keepsRegs _ _ _ (by decide), get_stepTime_slips _ _ (by decide)]
  · exact (stepTime_keepsRegs _ _ _).trans (setTb_keepsRegs _ _) (by decide) (by decide)

section Start
variable {tr : Transport} {s u : State}

/-- TB_CONTROL by the host, of a start that leaves the replay log as it is. -/
theorem tbStart_next (hh : hostReady tr s = true) (hq : s.get Key.RPL_STATE ≠ 1) (hw : tbStartOp (s.opened tr 1) = u)
    (hu : keepsRegs tbKeys (s.opened tr 1) u) :
    ∃ t, exec (.tbStart tr) s = .next t ∧ accepted tr t = true ∧ t.regs = u.regs ∧ ∃ c d, t = { u with cp := c, can := d } := by
  obtain ⟨c, d, et⟩ := taken_moves tr { op := 2, idx := 0x4000, sub := 0x0A } u
  have hw' : (s.opened tr 1).writeScalar tr 0x4000 0x0A 1 = (u, none) := hw ▸ rfl
  refine ⟨_, hostScalar_next_any hh hq (by decide) (by decide) (by decide) (by decide) hw' (.inr ?_), accepted_taken _ _ rfl rfl,
    taken_regs .., c, d, et⟩
  rw [hu _ (by decide)]
  exact opened_rplState tr 1 hq

/-- A start of a root on its own clock (R408). -/
theorem tbStart_root (hh : hostReady tr s = true) (hq : s.get Key.RPL_STATE ≠ 1) (h0 : s.get Key.TB_STATE = 0)
    (hp : s.get Key.TB_PARENT = 0x3E) :
    ∃ t, exec (.tbStart tr) s = .next t ∧ accepted tr t = true ∧ t.time.tb.toNat = s.get Key.TB_INIT ∧
      t.get Key.TB_STATE = 2 ∧ t.get Key.TB_SLIPS = 0 ∧ t.dom = s.dom ∧ t.stg = s.stg ∧ t.env = s.env ∧ t.ctxs = s.ctxs := by
  have hg : ∀ k, k ∉ canKeys → (s.opened tr 1).get k = s.get k := fun k h => get_opened_of_not_mem tr 1 h
  have hop : tbStartOp (s.opened tr 1) = ((s.opened tr 1).stepTime ((s.opened tr 1).get Key.TB_INIT) 0).setTb 2 := by
    unfold tbStartOp
    dsimp only
    rw [hg _ (by decide), hg _ (by decide), h0, hp, if_pos rfl, if_pos rfl]
  obtain ⟨r, f, x, a, i, m, p, e, htb, hst, hsl, hk⟩ := stepTime_setTb (s.opened tr 1) 2 (by decide)
  obtain ⟨t, he, hacc, hregs, c, d, et⟩ := tbStart_next hh hq hop hk
  obtain ⟨r', f', c', w', eo⟩ := opened_moves s tr 1
  rw [e, eo] at et
  refine ⟨t, he, hacc, ?_, (get_of_regs hregs _).trans hst, (get_of_regs hregs _).trans hsl, ?_⟩
  · rw [et]
    exact htb.trans (hg _ (by decide))
  · rw [et]
    exact ⟨rfl, rfl, rfl, rfl⟩

/-- A start of a root on the tick input, which acquires (R408). -/
theorem tbStart_tickInput (hh : hostReady tr s = true) (hq : s.get Key.RPL_STATE ≠ 1) (h0 : s.get Key.TB_STATE = 0)
    (hp : s.get Key.TB_PARENT = 0x3F) :
    ∃ t, exec (.tbStart tr) s = .next t ∧ accepted tr t = true ∧ t.time.tb.toNat = s.get Key.TB_INIT ∧
      t.get Key.TB_STATE = 1 ∧ t.get Key.TB_SLIPS = 0 ∧ t.dom = s.dom ∧ t.stg = s.stg ∧ t.env = s.env ∧ t.ctxs = s.ctxs := by
  have hg : ∀ k, k ∉ canKeys → (s.opened tr 1).get k = s.get k := fun k h => get_opened_of_not_mem tr 1 h
  obtain ⟨r, f, x, a, i, m, p, e, htb, hst, hsl, hk⟩ := stepTime_setTb (s.opened tr 1) 1 (by decide)
  generalize hz : ((s.opened tr 1).stepTime ((s.opened tr 1).get Key.TB_INIT) 0).setTb 1 = z at e hst hsl hk
  have hop : tbStartOp (s.opened tr 1) = { z with time := { z.time with tickRun := 0 } } := by
    unfold tbStartOp
    dsimp only
    rw [hg Key.TB_STATE (by decide), hg Key.TB_PARENT (by decide), h0, hp, if_pos rfl, if_neg (by decide), if_pos rfl, hz]
  obtain ⟨t, he, hacc, hregs, c, d, et⟩ := tbStart_next hh hq hop (u := { z with time := { z.time with tickRun := 0 } }) hk
  obtain ⟨r', f', c', w', eo⟩ := opened_moves s tr 1
  rw [e, eo] at et
  refine ⟨t, he, hacc, ?_, (get_of_regs hregs _).trans hst, (get_of_regs hregs _).trans hsl, ?_⟩
  · rw [et]
    exact htb.trans (hg _ (by decide))
  · rw [et]
    exact ⟨rfl, rfl, rfl, rfl⟩

/-- A start of an engine below another, which acquires (R408). -/
theorem tbStart_child (hh : hostReady tr s = true) (hq : s.get Key.RPL_STATE ≠ 1) (h0 : s.get Key.TB_STATE = 0)
    (hp : s.get Key.TB_PARENT < 48) :
    ∃ t, exec (.tbStart tr) s = .next t ∧ accepted tr t = true ∧ t.get Key.TB_STATE = 1 ∧ t.time.tb = s.time.tb ∧
      t.dom = s.dom ∧ t.stg = s.stg ∧ t.env = s.env ∧ t.ctxs = s.ctxs := by
  have hg : ∀ k, k ∉ canKeys → (s.opened tr 1).get k = s.get k := fun k h => get_opened_of_not_mem tr 1 h
  obtain ⟨r, f, e⟩ := setTb_moves (s.opened tr 1) 1
  have hst := get_setTb (s.opened tr 1) (v := 1) (by decide)
  have hk : keepsRegs tbKeys (s.opened tr 1) ((s.opened tr 1).setTb 1) := (setTb_keepsRegs _ _).mono (by decide)
  generalize hz : (s.opened tr 1).setTb 1 = z at e hst hk
  have hop : tbStartOp (s.opened tr 1) = { z with time := { z.time with acquired := false, lockRun := 0 } } := by
    unfold tbStartOp
    dsimp only
    rw [hg Key.TB_STATE (by decide), hg Key.TB_PARENT (by decide), h0, if_pos rfl, if_neg (by omega), if_neg (by omega), hz]
  obtain ⟨t, he, hacc, hregs, c, d, et⟩ := tbStart_next hh hq hop (u := { z with time := { z.time with acquired := false, lockRun := 0 } }) hk
  obtain ⟨r', f', c', w', eo⟩ := opened_moves s tr 1
  rw [e, eo] at et
  refine ⟨t, he, hacc, (get_of_regs hregs _).trans hst, ?_, ?_⟩
  · rw [et]
  · rw [et]
    exact ⟨rfl, rfl, rfl, rfl⟩

/-- A start of a timebase that runs changes nothing (R408). -/
theorem tbStart_running (hh : hostReady tr s = true) (hq : s.get Key.RPL_STATE ≠ 1) (h0 : s.get Key.TB_STATE ≠ 0) :
    ∃ t, exec (.tbStart tr) s = .next t ∧ accepted tr t = true ∧ keepsRegs canKeys s t ∧ t.dom = s.dom ∧ onlyDict s t := by
  refine hostScalar_idle hh hq (by decide) (by decide) (by decide) (by decide) ?_
  have hop : tbStartOp (s.opened tr 1) = s.opened tr 1 := if_neg (by rwa [get_opened_of_not_mem tr 1 (by decide)])
  exact congrArg (·, none) hop
end Start

/-- Settles O23: one case per parent, and none where the timebase runs. -/
theorem timebaseStart : Obligations.TimebaseStart := by
  intro tr s hh hq
  exact ⟨tbStart_root hh hq, tbStart_tickInput hh hq, tbStart_child hh hq, tbStart_running hh hq⟩

end Sys2Proof.Machine

/-! SUPPORT. What the freeing of buffers and the end of copies, jobs and scans leave (R249, R273, R283, R302, R365). -/

namespace Sys2Proof.Machine

open Sys2Proof

theorem copyNotice_still (s : State) (m d : Nat) (a : Bool) : (s.copyNotice m d a).still = s.still := by
  unfold State.copyNotice
  split
  · exact postWord_still ..
  · rfl

theorem jobNotice_still (s : State) (q d : Nat) (a m : Bool) : (s.jobNotice q d a m).still = s.still := by
  unfold State.jobNotice
  split
  · exact postWord_still ..
  · rfl

/-- A state without the parts that freeing a buffer touches. -/
def State.beyondFree (s : State) : State := { s.still with pools := [], pieces := [], press := {}, sfu := {}, cvu := {} }

theorem beyondFree_of_still {s t : State} (h : t.still = s.still) : t.beyondFree = s.beyondFree := by
  unfold State.beyondFree
  rw [h]

/-- What freeing a buffer leaves: the parts beyond it, host memory, and every register below the pools' but the interrupt causes. -/
structure DropFrame (s t : State) : Prop where
  beyond : t.beyondFree = s.beyondFree
  env : t.env = s.env
  regs : ∀ k, k < 0x500000 → k ∉ causeKeys → t.get k = s.get k

theorem mem_causeKeys_of_noticeKeys {k : Nat} (h : k ∈ noticeKeys) (hk : k < 0x500000) : k ∈ causeKeys := by
  have hall : ∀ k ∈ noticeKeys, k < 0x500000 → k ∈ causeKeys := by decide
  exact hall k h hk

theorem ttState_not_mem_causeKeys (c : Nat) : Key.TT_STATE c ∉ causeKeys := fun h => by
  have hlt : ∀ k ∈ causeKeys, k < 0x410001 := by decide
  have := hlt _ h
  unfold Key.TT_STATE at this
  omega

namespace DropFrame

theorem refl (s : State) : DropFrame s s := ⟨rfl, rfl, fun _ _ _ => rfl⟩

theorem trans {s t u : State} (h : DropFrame s t) (h' : DropFrame t u) : DropFrame s u :=
  ⟨h'.beyond.trans h.beyond, h'.env.trans h.env, fun k hk hc => (h'.regs k hk hc).trans (h.regs k hk hc)⟩

theorem ite {c : Prop} [Decidable c] {s a b : State} (ha : DropFrame s a) (hb : DropFrame s b) : DropFrame s (if c then a else b) := by
  split
  · exact ha
  · exact hb

theorem foldl {α : Type} {f : State → α → State} (l : List α) (s : State) (hf : ∀ s a, DropFrame s (f s a)) :
    DropFrame s (l.foldl f s) :=
  List.foldlRecOn (motive := DropFrame s) l f (refl s) (fun _ h a _ => h.trans (hf _ a))

/-- What a notice leaves is left here too. -/
theorem of_notice {s t : State} (h : NoticeFrame s t) (hs : t.still = s.still) : DropFrame s t :=
  ⟨beyondFree_of_still hs, h.env, fun k hk hc => h.regs k fun hn => hc (mem_causeKeys_of_noticeKeys hn hk)⟩

theorem log (s : State) (e : Ev) : DropFrame s (s.log e) := of_notice (.log s e) (log_still s e)

/-- A register at or above the pools' written. -/
theorem put (s : State) {k : Nat} (v : Nat) (hk : 0x500000 ≤ k) : DropFrame s (s.put k v) :=
  ⟨rfl, rfl, fun _ hj _ => get_put_ne s v (by omega)⟩

theorem setPool (s : State) (c : Nat) (p : PoolClass) : DropFrame s (s.setPool c p) := ⟨rfl, rfl, fun _ _ _ => rfl⟩

theorem pieces (s : State) (l : List Piece) : DropFrame s { s with pieces := l } := ⟨rfl, rfl, fun _ _ _ => rfl⟩

theorem clearValid (s : State) (dom size n bitAt : Nat) : DropFrame s (s.clearValid dom size n bitAt) := ⟨rfl, rfl, fun _ _ _ => rfl⟩

theorem endCopy (s : State) (m d : Nat) : DropFrame s (s.endCopy m d) := by
  refine trans ?_ (foldl _ _ fun t _ => of_notice (.copyNotice t m d true) (copyNotice_still ..))
  exact ⟨rfl, rfl, fun _ _ _ => rfl⟩

theorem endJob (s : State) (q d : Nat) : DropFrame s (s.endJob q d) := by
  refine trans ?_ (foldl _ _ fun t _ => of_notice (.jobNotice t q d true false) (jobNotice_still ..))
  exact ⟨rfl, rfl, fun _ _ _ => rfl⟩

theorem endScans (s : State) (p : Nat → Bool) : DropFrame s (s.endScans p) := by
  refine trans ?_ (foldl _ _ fun t d => of_notice (.scanNotice t (unle d) 2 0) (scanNotice_still ..))
  exact ⟨rfl, rfl, fun _ _ _ => rfl⟩

theorem dropUsers (s : State) (n : Nat) : DropFrame s (s.dropUsers n) := by
  refine trans (foldl _ s fun t m => ?_) (foldl _ _ fun t q => ?_)
  · exact ite ((clearValid ..).trans (endCopy ..)) (refl t)
  · exact ite ((clearValid ..).trans (endJob ..)) (refl t)

theorem invalidate (s : State) (p : Nat → Bool) : DropFrame s (s.invalidate p) :=
  foldl _ s fun t _ => ite ((clearValid ..).trans (dropUsers ..)) (refl t)

theorem bufferGone (s : State) (host : Bool) (a n : Nat) : DropFrame s (s.bufferGone host a n) := by
  unfold State.bufferGone
  exact trans (trans (invalidate ..) (foldl _ _ fun t _ => ite (clearValid ..) (refl t))) (endScans ..)

theorem freeBuffer (s : State) (c i : Nat) : DropFrame s (s.freeBuffer c i) := by
  unfold State.freeBuffer
  split
  · exact refl s
  · dsimp only
    refine trans ?_ (bufferGone ..)
    obtain ⟨p, e, -⟩ := startSpill_replaces (((s.setPool c _).put _ _).put _ _) c
    rw [e]
    refine trans (trans (trans ?_ (put _ _ ?_)) (put _ _ ?_)) (setPool ..)
    · exact setPool ..
    · unfold Key.POOL_HELD
      omega
    · unfold Key.POOL_FREE
      omega

/-- A unit's free while its context does not run, so that no step is replayed (R247, R248). -/
theorem freeOp {s : State} {ctx : Nat} (a : Nat) (hc : ctx < 8) (hr : s.runs ctx = false) : DropFrame s (freeOp false ctx a s) := by
  unfold Machine.freeOp
  split
  · exact freeBuffer ..
  · dsimp only
    generalize hu : State.count _ (Key.POOL_FREE_REFUSED ctx) 1 = u
    have hf : DropFrame s u := by
      rw [← hu]
      exact (log ..).trans (put _ _ (by unfold Key.POOL_FREE_REFUSED; omega))
    have hruns : u.runs ctx = false := by
      have hlt : Key.TT_STATE ctx < 0x500000 := by
        unfold Key.TT_STATE
        omega
      simpa only [State.runs, State.tt, hf.regs _ hlt (ttState_not_mem_causeKeys ctx)] using hr
    unfold State.replayStep
    simpa [hruns] using hf

end DropFrame

end Sys2Proof.Machine

/-! SUPPORT. Load, start, stop and unload of a context by the host (R190, R214). -/

namespace Sys2Proof.Machine

open Sys2Proof

/-! ### TT_STATE -/

theorem setTt_moves (s : State) (c v : Nat) : ∃ r f m, s.setTt c v = { s with regs := r, field := f, meter := m } := by
  have hroute : ∀ b : Bool, ∃ r f, (if b then (s.put (Key.TT_STATE c) v).routeEvent 1 else s.put (Key.TT_STATE c) v) =
      { s with regs := r, field := f } := by
    intro b
    cases b
    · exact ⟨_, _, rfl⟩
    · obtain ⟨r, f, e⟩ := routeEvent_moves (s.put (Key.TT_STATE c) v) 1
      exact ⟨r, f, e⟩
  unfold State.setTt
  dsimp only
  obtain ⟨r, f, e⟩ := hroute ((s.tt c == 1 || s.tt c == 5) && v != s.tt c)
  rw [e]
  split
  · exact ⟨_, _, _, rfl⟩
  · exact ⟨_, _, _, rfl⟩

/-- The registers as a state of TT_STATE written leaves them. -/
theorem get_setTt_route (s : State) (c v k : Nat) (hk : k ∉ causeKeys) : (s.setTt c v).get k = (s.put (Key.TT_STATE c) v).get k := by
  unfold State.setTt
  dsimp only
  generalize hu : (if ((s.tt c == 1 || s.tt c == 5) && v != s.tt c) = true then _ else _ : State) = u
  have hu' : u.get k = (s.put (Key.TT_STATE c) v).get k := by
    rw [← hu]
    split
    · exact routeEvent_keepsRegs _ _ k hk
    · rfl
  split
  · exact hu'
  · exact hu'

theorem tt_setTt (s : State) (c : Nat) {v : Nat} (hv : v < 2 ^ 64) : (s.setTt c v).tt c = v := by
  rw [State.tt, get_setTt_route _ _ _ _ (ttState_not_mem_causeKeys c), get_put_self, Nat.mod_eq_of_lt hv]

/-- A context that leaves neither LOADING nor STOPPING raises no event (R392). -/
theorem setTt_keepsRegs {s : State} {c : Nat} (v : Nat) (h1 : s.tt c ≠ 1) (h5 : s.tt c ≠ 5) : keepsRegs [Key.TT_STATE c] s (s.setTt c v) := by
  have hb : ((s.tt c == 1 || s.tt c == 5) && v != s.tt c) = false := by simp [h1, h5]
  unfold State.setTt
  dsimp only
  rw [hb]
  split
  · exact keepsRegs_put _ _ _
  · exact keepsRegs_put _ _ _

/-! ### Work given up -/

/-- A piece of a context that does not run dropped (R420). -/
theorem DropFrame.dropPiece {s : State} {k : PieceKey} (hc : k.ctx < 8) (hr : s.runs k.ctx = false) : DropFrame s (s.dropPiece k) := by
  unfold State.dropPiece
  split
  · exact refl s
  · dsimp only
    split
    · exact (pieces ..).trans (freeOp _ hc hr)
    · exact ⟨rfl, rfl, fun _ _ _ => rfl⟩

theorem DropFrame.tt {s t : State} (h : DropFrame s t) {c : Nat} (hc : c < 8) : t.tt c = s.tt c :=
  h.regs _ (by unfold Key.TT_STATE; omega) (ttState_not_mem_causeKeys c)

theorem DropFrame.runs {s t : State} (h : DropFrame s t) {c : Nat} (hc : c < 8) : t.runs c = s.runs c := by
  rw [State.runs, State.runs, h.tt hc]

/-- The pieces of a context that does not run dropped. -/
theorem DropFrame.dropPieces {c : Nat} (l : List PieceKey) {s : State} (hl : ∀ k ∈ l, k.ctx = c) (hc : c < 8) (hr : s.runs c = false) :
    DropFrame s (l.foldl State.dropPiece s) := by
  refine List.foldlRecOn (motive := DropFrame s) l _ (refl s) fun u hu k hk => hu.trans ?_
  obtain rfl := hl k hk
  exact dropPiece hc ((hu.runs hc).trans hr)

/-- What is left of a context's work when all of it is given up: the parts that hold no such work, and the lists without it. -/
structure Abandoned (c : Nat) (s t : State) : Prop where
  env : t.env = s.env
  stg : t.stg = s.stg
  regs : ∀ k, k < 0x500000 → k ∉ causeKeys → t.get k = s.get k
  others : ∀ d, d ≠ c → t.ctx d = s.ctx d
  own : ∃ g, t.ctx c = { s.ctx c with gradsDue := g }
  count : t.ctxs.length = s.ctxs.length
  wins : ∀ w, w ∈ t.wins ↔ w ∈ s.wins ∧ w.ctx ≠ c
  combs : ∀ k, k ∈ t.combs ↔ k ∈ s.combs ∧ k.ctx ≠ c
  stats : ∀ x, x ∈ t.stats ↔ x ∈ s.stats ∧ x.ctx ≠ c
  selins : ∀ x, x ∈ t.selins ↔ x ∈ s.selins ∧ x.ctx ≠ c
  silent : (∀ p, p ∈ s.pieces → p.key.ctx ≠ c) → t.regs = s.regs ∧ t.dom = s.dom

/-- A context's work filtered out. -/
theorem mem_filter_others {α : Type} (f : α → Nat) (c : Nat) (l : List α) (x : α) :
    x ∈ l.filter (fun y => !(f y == c && true)) ↔ x ∈ l ∧ f x ≠ c := by simp

theorem abandoned {s : State} {c : Nat} (hc : c < 8) (hl : s.ctxs.length = 8) (hr : s.runs c = false) :
    Abandoned c s (s.abandon c (fun _ => true)) := by
  unfold State.abandon
  dsimp only
  generalize hu : List.foldl State.dropPiece s _ = u
  have hf : DropFrame s u := by
    rw [← hu]
    refine DropFrame.dropPieces (c := c) _ (fun k hk => ?_) hc hr
    simp only [List.mem_map, List.mem_filter, Bool.and_true, beq_iff_eq] at hk
    obtain ⟨p, ⟨-, hp⟩, rfl⟩ := hk
    exact hp
  have hctxs : u.ctxs = s.ctxs := (congrArg State.ctxs hf.beyond :)
  have hctx : ∀ d, u.ctx d = s.ctx d := fun d => by rw [State.ctx, State.ctx, hctxs]
  have hwins : u.wins = s.wins := (congrArg State.wins hf.beyond :)
  have hcombs : u.combs = s.combs := (congrArg State.combs hf.beyond :)
  have hstats : u.stats = s.stats := (congrArg State.stats hf.beyond :)
  have hselins : u.selins = s.selins := (congrArg State.selins hf.beyond :)
  refine ⟨hf.env, (congrArg State.stg hf.beyond :), hf.regs, fun d hd => ?_, ?_, ?_, fun w => ?_, fun w => ?_, fun w => ?_, fun w => ?_, fun hp => ?_⟩
  · exact (ctx_setCtx_ne u _ (Ne.symm hd)).trans (hctx d)
  · refine ⟨(u.ctx c).gradsDue.filter (fun g => !true), ?_⟩
    rw [← hctx]
    exact ctx_setCtx_self _ (by rw [hctxs, hl]; exact hc)
  · exact (setAt_length ..).trans (congrArg List.length hctxs)
  · rw [← hwins]
    exact mem_filter_others Win.ctx c u.wins w
  · rw [← hcombs]
    exact mem_filter_others Comb.ctx c u.combs w
  · rw [← hstats]
    exact mem_filter_others StatPart.ctx c u.stats w
  · rw [← hselins]
    exact mem_filter_others SelIn.ctx c u.selins w
  · have hnone : s.pieces.filter (fun q => q.key.ctx == c && true) = [] := by
      rw [List.filter_eq_nil_iff]
      intro p hm
      simpa using hp p hm
    rw [hnone] at hu
    subst hu
    exact ⟨rfl, rfl⟩

/-! ### TT_CONTROL -/

/-- TT_CONTROL is a plain entry of its context, which any of its four values may be written to in any state. -/
theorem ttControl_entry : ∀ c < 8, plainScalar 0x4105 (c + 1) = true ∧ anyState 0x4105 (c + 1) = true ∧
    entryCtx 0x4105 (c + 1) = some c ∧ ∀ v < 5, admits 0x4105 (c + 1) v = true := by decide

section Control
variable {tr : Transport} {s u : State} {c v : Nat}

/-- A write of TT_CONTROL by the host. -/
theorem ttControl_next (hh : hostReady tr s = true) (hq : s.get Key.RPL_STATE ≠ 1) (hc : c < 8) (hv : v < 5)
    (hw : (s.opened tr v).writeCtx 0x4105 c v = (u, none)) :
    ∃ t, hosted (hostScalar tr 0x4105 (c + 1) v) s = .next t ∧ accepted tr t = true ∧ t.regs = u.regs ∧
      ∃ p q, t = { u with cp := p, can := q } := by
  obtain ⟨hplain, hany, hctx, hadm⟩ := ttControl_entry c hc
  obtain ⟨p, q, et⟩ := taken_moves tr { op := 2, idx := 0x4105, sub := c + 1 } u
  have hw' : (s.opened tr v).writeScalar tr 0x4105 (c + 1) v = (u, none) := by
    simp only [State.writeScalar, hctx]
    exact hw
  exact ⟨_, hostScalar_next_any hh hq hplain hany (by omega) (hadm v hv) hw' (.inl (by decide)), accepted_taken _ _ rfl rfl,
    taken_regs .., p, q, et⟩

/-- A context's state and its part stand when a request has been opened. -/
theorem ctx_opened (d : Nat) : (s.opened tr v).ctx d = s.ctx d := by cases tr <;> rfl

/-- TT_LOAD (R190). -/
theorem ttLoad_next (hh : hostReady tr s = true) (hq : s.get Key.RPL_STATE ≠ 1) (hc : c < 8) (hs : s.tt c = 0 ∨ s.tt c = 2)
    (hn : (s.ctx c).unload = none) :
    ∃ t, exec (.ttLoad tr c) s = .next t ∧ accepted tr t = true ∧ t.tt c = 1 ∧
      t.loads = s.loads ++ [{ ctx := c, held := s.tt c == 2 }] ∧ keepsRegs (Key.TT_STATE c :: canKeys) s t ∧ t.dom = s.dom ∧
      t.ctxs = s.ctxs ∧ t.stg = s.stg ∧ t.env = s.env := by
  have htt := tt_opened s tr 1 c
  obtain ⟨r, f, m, e⟩ := setTt_moves (s.opened tr 1) c 1
  have hw : (s.opened tr 1).writeCtx 0x4105 c 1 =
      ({ (s.opened tr 1).setTt c 1 with loads := (s.opened tr 1).loads ++ [{ ctx := c, held := s.tt c == 2 }] }, none) := by
    show (ttLoadOp c (s.opened tr 1), none) = _
    have hb : ((decide (s.tt c = 0) || decide (s.tt c = 2)) && (s.ctx c).unload.isNone) = true := by
      simpa [hn] using hs
    unfold ttLoadOp
    dsimp only
    rw [htt, ctx_opened, hb, if_pos rfl]
  obtain ⟨t, he, hacc, hregs, p, q, et⟩ := ttControl_next hh hq hc (by decide) hw
  have hkeep : keepsRegs [Key.TT_STATE c] (s.opened tr 1) t :=
    (setTt_keepsRegs (s := s.opened tr 1) 1 (by rw [htt]; omega) (by rw [htt]; omega)).trans
      (keepsRegs_of_regs (ks := []) hregs) (List.Subset.refl _) (List.nil_subset _)
  obtain ⟨r', f', c', w', eo⟩ := opened_moves s tr 1
  refine ⟨t, he, hacc, (get_of_regs hregs _).trans (tt_setTt _ c (by decide)), ?_, ?_, ?_⟩
  · rw [et, eo]
  · exact (opened_keepsRegs s tr 1).trans hkeep (List.subset_cons_self ..) (by simp)
  · rw [et, e, eo]
    exact ⟨rfl, rfl, rfl, rfl⟩

/-- TT_STOP of a running context (R190). -/
theorem ttStop_next (hh : hostReady tr s = true) (hq : s.get Key.RPL_STATE ≠ 1) (hc : c < 8) (hs : s.tt c = 4) :
    ∃ t, exec (.ttStop tr c) s = .next t ∧ accepted tr t = true ∧ t.tt c = 5 ∧ keepsRegs (Key.TT_STATE c :: canKeys) s t ∧
      t.dom = s.dom ∧ t.ctxs = s.ctxs ∧ t.stg = s.stg ∧ t.env = s.env := by
  have htt := tt_opened s tr 3 c
  obtain ⟨r, f, m, e⟩ := setTt_moves (s.opened tr 3) c 5
  have hw : (s.opened tr 3).writeCtx 0x4105 c 3 = ((s.opened tr 3).setTt c 5, none) := by
    show (ttStopOp c (s.opened tr 3), none) = _
    unfold ttStopOp
    rw [htt, hs, if_neg (by decide), if_pos rfl]
  obtain ⟨t, he, hacc, hregs, p, q, et⟩ := ttControl_next hh hq hc (by decide) hw
  have hkeep : keepsRegs [Key.TT_STATE c] (s.opened tr 3) t :=
    (setTt_keepsRegs (s := s.opened tr 3) 5 (by rw [htt]; omega) (by rw [htt]; omega)).trans
      (keepsRegs_of_regs (ks := []) hregs) (List.Subset.refl _) (List.nil_subset _)
  obtain ⟨r', f', c', w', eo⟩ := opened_moves s tr 3
  refine ⟨t, he, hacc, (get_of_regs hregs _).trans (tt_setTt _ c (by decide)), ?_, ?_⟩
  · exact (opened_keepsRegs s tr 3).trans hkeep (List.subset_cons_self ..) (by simp)
  · rw [et, e, eo]
    exact ⟨rfl, rfl, rfl, rfl⟩
/-- The start checks read no register that a request frame moves. -/
theorem startCode_opened : (s.opened tr v).startCode c = s.startCode c := by
  have hg : ∀ k, 0x200000 ≤ k → (s.opened tr v).get k = s.get k := fun k h => get_opened_of_not_mem tr v (not_mem_canKeys_of_le h)
  have hdelay : ∀ p, (s.opened tr v).get (Key.LINK_DELAY p) = s.get (Key.LINK_DELAY p) := fun p => hg _ (by unfold Key.LINK_DELAY; omega)
  have hbase : (s.opened tr v).get (Key.TT_FRAME_BASE c) = s.get (Key.TT_FRAME_BASE c) := hg _ (by unfold Key.TT_FRAME_BASE; omega)
  have hconn : ∀ p, (s.opened tr v).linkConnected c p = s.linkConnected c p := by cases tr <;> exact fun _ => rfl
  have hflight : ∀ p, (s.opened tr v).flight c p = s.flight c p := by cases tr <;> exact fun _ => rfl
  have hport : ∀ p, (s.opened tr v).port p = s.port p := by cases tr <;> exact fun _ => rfl
  simp only [State.startCode, State.planFrame, State.lost, State.unfit, hg Key.TB_STATE (by decide), hg Key.TB_PLAN_FRAME (by decide),
    hg Key.LINK_LOST (by decide), hdelay, hbase, hconn, hflight, hport]
  rfl

/-- A context whose former work is gone made ARMED with its seed (R214, R190). -/
def State.startArmed (s : State) (c : Nat) (i : Option Image) (seed : Nat) : State :=
  let u := (s.abandon c (fun _ => true)).setCtx c { image := i, seed := BitVec.ofNat 64 seed }
  ((u.setTt c 3).setRate).rpl 0x07 (some c) 0 true (u.get (Key.TT_FIRST_STEP c)) seed

theorem startArmed_spec (i : Option Image) (seed : Nat) (hc : c < 8) (hl : s.ctxs.length = 8) (hs : s.tt c = 2) :
    (s.startArmed c i seed).tt c = 3 ∧ (s.startArmed c i seed).ctx c = { image := i, seed := BitVec.ofNat 64 seed } ∧
    (∀ d, d ≠ c → (s.startArmed c i seed).ctx d = s.ctx d) ∧ (s.startArmed c i seed).stg = s.stg ∧ (s.startArmed c i seed).env = s.env ∧
    (∀ w, w ∈ (s.startArmed c i seed).wins ↔ w ∈ s.wins ∧ w.ctx ≠ c) ∧ (∀ k, k ∈ (s.startArmed c i seed).combs ↔ k ∈ s.combs ∧ k.ctx ≠ c) ∧
    (∀ x, x ∈ (s.startArmed c i seed).stats ↔ x ∈ s.stats ∧ x.ctx ≠ c) ∧ (∀ x, x ∈ (s.startArmed c i seed).selins ↔ x ∈ s.selins ∧ x.ctx ≠ c) ∧
    (s.get Key.RPL_STATE ≠ 1 → (∀ p, p ∈ s.pieces → p.key.ctx ≠ c) →
      keepsRegs [Key.TT_STATE c] s (s.startArmed c i seed) ∧ (s.startArmed c i seed).dom = s.dom) := by
  have hab := abandoned hc hl (by simp [State.runs, hs])
  unfold State.startArmed
  dsimp only
  generalize hu : s.abandon c (fun _ => true) = u at hab
  generalize (u.setCtx c { image := i, seed := BitVec.ofNat 64 seed }).get (Key.TT_FIRST_STEP c) = first
  have htt : (u.setCtx c { image := i, seed := BitVec.ofNat 64 seed }).tt c = 2 :=
    (hab.regs _ (by unfold Key.TT_STATE; omega) (ttState_not_mem_causeKeys c)).trans hs
  obtain ⟨r, f, m, e⟩ := setTt_moves (u.setCtx c { image := i, seed := BitVec.ofNat 64 seed }) c 3
  have hst := tt_setTt (u.setCtx c { image := i, seed := BitVec.ofNat 64 seed }) c (v := 3) (by decide)
  have hkeep := setTt_keepsRegs (s := u.setCtx c { image := i, seed := BitVec.ofNat 64 seed }) 3 (by rw [htt]; decide) (by rw [htt]; decide)
  generalize hw : (u.setCtx c { image := i, seed := BitVec.ofNat 64 seed }).setTt c 3 = w at e hst hkeep
  obtain ⟨a, ea⟩ := setRate_moves_rates w
  have hrpl := rpl_keepsRegs w.setRate 0x07 (some c) 0 true first seed
  obtain ⟨r', d', er⟩ := rpl_moves w.setRate 0x07 (some c) 0 true first seed
  have hself : w.ctx c = { image := i, seed := BitVec.ofNat 64 seed } := by
    rw [e]
    exact ctx_setCtx_self _ (by rw [hab.count, hl]; exact hc)
  have hother : ∀ d, d ≠ c → w.ctx d = s.ctx d := fun d hd => by
    rw [e]
    exact (ctx_setCtx_ne u _ (Ne.symm hd)).trans (hab.others d hd)
  have hregs : w.setRate.regs = w.regs := by rw [ea]
  refine ⟨?_, ?_, fun d hd => ?_, ?_, ?_, fun x => ?_, fun x => ?_, fun x => ?_, fun x => ?_, fun hq hp => ?_⟩
  · rw [State.tt, hrpl _ (by simp only [Key.TT_STATE, Key.RPL_LOST, List.mem_singleton]; omega), get_of_regs hregs]
    exact hst
  · rw [er, ea]
    exact hself
  · rw [er, ea]
    exact hother d hd
  · rw [er, ea, e]
    exact hab.stg
  · rw [er, ea, e]
    exact hab.env
  · rw [er, ea, e]
    exact hab.wins x
  · rw [er, ea, e]
    exact hab.combs x
  · rw [er, ea, e]
    exact hab.stats x
  · rw [er, ea, e]
    exact hab.selins x
  · obtain ⟨hur, hud⟩ := hab.silent hp
    have hkw : keepsRegs [Key.TT_STATE c] s w := fun k hk => (hkeep k hk).trans (get_of_regs (t := u) hur k)
    have hoff : w.setRate.get Key.RPL_STATE ≠ 1 := by
      rw [get_of_regs hregs, hkw _ (by simp only [Key.TT_STATE, Key.RPL_STATE, List.mem_singleton]; omega)]
      exact hq
    rw [rpl_off hoff]
    refine ⟨fun k hk => (get_of_regs hregs k).trans (hkw k hk), ?_⟩
    rw [ea, e]
    exact hud

/-- TT_START (R190, R214). -/
theorem ttStart_next (hh : hostReady tr s = true) (hq : s.get Key.RPL_STATE ≠ 1) (hsh : shaped s) (hc : c < 8) (hs : s.tt c = 2)
    (hn : (s.ctx c).unload = none) (hcode : s.startCode c = 0) :
    ∃ t, exec (.ttStart tr c) s = .next t ∧ accepted tr t = true ∧ t.tt c = 3 ∧
      (t.ctx c).image = (s.ctx c).image ∧ (t.ctx c).seed = BitVec.ofNat 64 (s.get (Key.DRU_SEED c)) ∧
      (∀ d, d ≠ c → t.ctx d = s.ctx d) ∧ t.stg = s.stg ∧ t.env = s.env ∧
      (∀ w, w ∈ t.wins ↔ w ∈ s.wins ∧ w.ctx ≠ c) ∧ (∀ k, k ∈ t.combs ↔ k ∈ s.combs ∧ k.ctx ≠ c) ∧
      (∀ x, x ∈ t.stats ↔ x ∈ s.stats ∧ x.ctx ≠ c) ∧ (∀ x, x ∈ t.selins ↔ x ∈ s.selins ∧ x.ctx ≠ c) ∧
      ((∀ p, p ∈ s.pieces → p.key.ctx ≠ c) → keepsRegs (Key.TT_STATE c :: canKeys) s t ∧ t.dom = s.dom) := by
  have htt := tt_opened s tr 2 c
  have hseed : (s.opened tr 2).get (Key.DRU_SEED c) = s.get (Key.DRU_SEED c) :=
    get_opened_of_not_mem tr 2 (not_mem_canKeys_of_le (by unfold Key.DRU_SEED; omega))
  obtain ⟨r, f, k, w, eo⟩ := opened_moves s tr 2
  have hctxs : (s.opened tr 2).ctxs = s.ctxs := by rw [eo]
  obtain ⟨hst, hown, hothers, hstg, henv, hwins, hcombs, hstats, hsel, hsilent⟩ :=
    startArmed_spec (s := s.opened tr 2) (s.ctx c).image (s.get (Key.DRU_SEED c)) hc (by rw [hctxs, hsh.1]) (htt.trans hs)
  have hw : (s.opened tr 2).writeCtx 0x4105 c 2 = ((s.opened tr 2).startArmed c (s.ctx c).image (s.get (Key.DRU_SEED c)), none) := by
    show (ttStartOp c (s.opened tr 2), none) = _
    have hb : (decide (s.tt c = 2) && (s.ctx c).unload.isNone) = true := by simp [hs, hn]
    unfold ttStartOp
    dsimp only
    rw [htt, ctx_opened, hb, if_pos rfl, startCode_opened, hcode, if_neg (by simp), hseed]
    rfl
  obtain ⟨t, he, hacc, hregs, p, q, et⟩ := ttControl_next hh hq hc (by decide) hw
  generalize (s.opened tr 2).startArmed c (s.ctx c).image (s.get (Key.DRU_SEED c)) = z at *
  refine ⟨t, he, hacc, (get_of_regs hregs _).trans hst, ?_, ?_, fun d hd => ?_, ?_, ?_, fun x => ?_, fun x => ?_, fun x => ?_, fun x => ?_, fun hp => ?_⟩
  · rw [et]
    exact (congrArg Ctx.image hown :)
  · rw [et]
    exact (congrArg Ctx.seed hown :)
  · rw [et]
    exact (hothers d hd).trans (ctx_opened d)
  · rw [et]
    exact hstg.trans (by rw [eo])
  · rw [et]
    exact henv.trans (by rw [eo])
  · rw [et]
    exact (hwins x).trans (by rw [eo])
  · rw [et]
    exact (hcombs x).trans (by rw [eo])
  · rw [et]
    exact (hstats x).trans (by rw [eo])
  · rw [et]
    exact (hsel x).trans (by rw [eo])
  · have hpieces : (s.opened tr 2).pieces = s.pieces := by rw [eo]
    obtain ⟨hkeep, hdom⟩ := hsilent (opened_rplState tr 2 hq) (by rw [hpieces]; exact hp)
    refine ⟨(opened_keepsRegs s tr 2).trans (hkeep.trans (keepsRegs_of_regs (ks := []) hregs) (List.Subset.refl _) (List.nil_subset _))
      (List.subset_cons_self ..) (by simp), ?_⟩
    rw [et]
    exact hdom.trans (opened_dom ..)

end Control

/-! ### The unload path -/

/-- A state without the parts that the unload path's start touches beside the contexts. -/
def State.beyondUnload (s : State) : State := { s.beyondFree with fep := {} }

theorem beyondUnload_of_beyondFree {s t : State} (h : t.beyondFree = s.beyondFree) : t.beyondUnload = s.beyondUnload := by
  unfold State.beyondUnload
  rw [h]

theorem fepDrop_beyondUnload (s : State) (p : CacheLine → Bool) : (s.fepDrop p).beyondUnload = s.beyondUnload := rfl

/-- A context's copies, jobs and scans given up, and its cache lines dropped (R190, R354). -/
def State.unitsLeft (s : State) (c : Nat) : State :=
  let x := ((s.press.queue.filter (fun m => cpOwner (s.copy m) == c)).eraseDups).foldl (fun s m => s.endCopy m (s.copy m)) s
  let y := ((x.sfu.queue.filter (fun q => jbOwner (x.job q) == c)).eraseDups).foldl (fun s q => s.endJob q (s.job q)) x
  let z : State := { y with
    press := { y.press with running := y.press.running.map (fun (r : Run) => { r with aborted := r.aborted || cpOwner (unle r.desc) == c }) }
    sfu := { y.sfu with running := y.sfu.running.map (fun (r : Run) => { r with aborted := r.aborted || jbOwner (unle r.desc) == c }) } }
  let v := (z.endScans (fun d => scCtx d == c)).fepDrop (fun (l : CacheLine) => l.ctx == c)
  v.invalidate (v.inPartition c)

theorem startUnload_eq (s : State) (c : Nat) (n : Unload) :
    s.startUnload c n = ((s.abandon c (fun _ => true)).unitsLeft c).setCtx c
      { ((s.abandon c (fun _ => true)).unitsLeft c).ctx c with
        unload := some n
        image := (((s.abandon c (fun _ => true)).unitsLeft c).ctx c).image.map (fun (i : Image) => { i with latched := [] }) } := rfl

theorem unitsLeft_leaves (s : State) (c : Nat) :
    (s.unitsLeft c).beyondUnload = s.beyondUnload ∧ ∀ k, k < 0x500000 → k ∉ causeKeys → (s.unitsLeft c).get k = s.get k := by
  unfold State.unitsLeft
  extract_lets x y press sfu z v
  have hx : DropFrame s x := DropFrame.foldl _ _ fun t m => DropFrame.endCopy ..
  have hy : DropFrame s y := hx.trans (DropFrame.foldl _ _ fun t q => DropFrame.endJob ..)
  clear_value y
  have hz : DropFrame s z := hy.trans ⟨rfl, rfl, fun _ _ _ => rfl⟩
  clear_value z
  have hscans : DropFrame s (z.endScans (fun d => scCtx d == c)) := hz.trans (DropFrame.endScans ..)
  have hinval : DropFrame v (v.invalidate (v.inPartition c)) := DropFrame.invalidate ..
  have hv : v.beyondUnload = s.beyondUnload := (fepDrop_beyondUnload ..).trans (beyondUnload_of_beyondFree hscans.beyond)
  exact ⟨(beyondUnload_of_beyondFree hinval.beyond).trans hv,
    fun k hk hc => (hinval.regs k hk hc).trans (hscans.regs k hk hc)⟩

section Control
variable {tr : Transport} {s : State} {c : Nat}

/-- TT_UNLOAD (R190). -/
theorem ttUnload_next (hh : hostReady tr s = true) (hq : s.get Key.RPL_STATE ≠ 1) (hsh : shaped s) (hc : c < 8) (hs : s.tt c = 2)
    (hn : (s.ctx c).unload = none) :
    ∃ t, exec (.ttUnload tr c) s = .next t ∧ accepted tr t = true ∧ t.tt c = 2 ∧
      (t.ctx c).unload = some { next := none, code := 0, offset := 0 } ∧ (∀ d, d ≠ c → t.ctx d = s.ctx d) ∧
      (∀ w, w ∈ t.wins ↔ w ∈ s.wins ∧ w.ctx ≠ c) := by
  have htt := tt_opened s tr 4 c
  obtain ⟨r, f, k, w, eo⟩ := opened_moves s tr 4
  have hctxs : (s.opened tr 4).ctxs = s.ctxs := by rw [eo]
  have hwins : (s.opened tr 4).wins = s.wins := by rw [eo]
  have hlen : (s.opened tr 4).ctxs.length = 8 := by rw [hctxs, hsh.1]
  have hab := abandoned hc hlen (by simp [State.runs, htt, hs])
  have hw : (s.opened tr 4).writeCtx 0x4105 c 4 = ((s.opened tr 4).startUnload c { next := none, code := 0, offset := 0 }, none) := by
    show (ttUnloadOp c (s.opened tr 4), none) = _
    have hb : (decide (s.tt c = 2) && (s.ctx c).unload.isNone) = true := by simp [hs, hn]
    unfold ttUnloadOp
    rw [htt, ctx_opened, hb, if_pos rfl]
  obtain ⟨t, he, hacc, hregs, p, q, et⟩ := ttControl_next hh hq hc (by decide) hw
  rw [startUnload_eq] at hregs et
  generalize (s.opened tr 4).abandon c (fun _ => true) = a at hab hregs et
  obtain ⟨hbeyond, hlow⟩ := unitsLeft_leaves a c
  generalize a.unitsLeft c = b at hbeyond hlow hregs et
  have hbctxs : b.ctxs = a.ctxs := (congrArg State.ctxs hbeyond :)
  have hbwins : b.wins = a.wins := (congrArg State.wins hbeyond :)
  refine ⟨t, he, hacc, ?_, ?_, fun d hd => ?_, fun x => ?_⟩
  · have hk : Key.TT_STATE c < 0x500000 := by
      unfold Key.TT_STATE
      omega
    have hcause := ttState_not_mem_causeKeys c
    exact (get_of_regs hregs _).trans ((hlow _ hk hcause).trans ((hab.regs _ hk hcause).trans (htt.trans hs)))
  · rw [et]
    refine (congrArg Ctx.unload (ctx_setCtx_self (s := b) _ ?_) :)
    rw [hbctxs, hab.count, hlen]
    exact hc
  · have hbd : b.ctx d = a.ctx d := by rw [State.ctx, State.ctx, hbctxs]
    rw [et]
    exact (ctx_setCtx_ne b _ (Ne.symm hd)).trans (hbd.trans ((hab.others d hd).trans (ctx_opened d)))
  · rw [et]
    show x ∈ b.wins ↔ _
    rw [hbwins, hab.wins x, hwins]

end Control

/-- Settles O22: each value of TT_CONTROL is a plain write whose effect on the context's part is pinned by the frames of `abandon`,
of the change of TT_STATE, and of the freeing of buffers. -/
theorem contextControl : Obligations.ContextControl := by
  intro tr s c hh hq hsh hc
  exact ⟨ttLoad_next hh hq hc, ttStart_next hh hq hsh hc, ttStop_next hh hq hc, ttUnload_next hh hq hsh hc⟩

end Sys2Proof.Machine

/-! SUPPORT. Reads and writes of the Staging Store, and the buffer of a piece (R86, R180, R430). -/

namespace Sys2Proof.Machine

open Sys2Proof

/-- A state without its entries, its Staging Store, its pieces and what it observes. -/
def State.beyondStore (s : State) : State := { s with regs := [], obs := {}, stg := [], pieces := [] }

theorem eq_of_beyondStore {s t : State} (h : t.beyondStore = s.beyondStore) :
    t = { s with regs := t.regs, obs := t.obs, stg := t.stg, pieces := t.pieces } :=
  calc t = { t.beyondStore with regs := t.regs, obs := t.obs, stg := t.stg, pieces := t.pieces } := rfl
    _ = { s.beyondStore with regs := t.regs, obs := t.obs, stg := t.stg, pieces := t.pieces } := by rw [h]
    _ = { s with regs := t.regs, obs := t.obs, stg := t.stg, pieces := t.pieces } := rfl

/-- What work on pieces in the Staging Store leaves: every part but the store, the pieces, the bank counters and the frame's loads. -/
structure StoreFrame (s t : State) : Prop where
  beyond : t.beyondStore = s.beyondStore
  regs : keepsRegs bankKeys s t

/-- An access of the Staging Store counts at its banks alone. -/
theorem bankTouch_moves (w c : Bool) (n : Nat) : ∀ (l : Nat) (s : State), ∃ r o, bankTouch w c n l s = { s with regs := r, obs := o } := by
  induction n with
  | zero => exact fun _ _ => ⟨_, _, rfl⟩
  | succ n ih =>
    intro l s
    unfold bankTouch
    cases c
    · obtain ⟨r, o, e⟩ := ih (l + 1) (s.count64 (if w then Key.STG_BANK_WRITES (l % 64) else Key.STG_BANK_READS (l % 64)) 1)
      exact ⟨r, o, e⟩
    · obtain ⟨r, o, e⟩ := ih (l + 1)
        { s.count64 (if w then Key.STG_BANK_WRITES (l % 64) else Key.STG_BANK_READS (l % 64)) 1 with obs := { s.obs with
          loads := Sparse.put s.obs.loads (l % 64 * 2 + (if w then 1 else 0))
            ((Sparse.get? s.obs.loads (l % 64 * 2 + (if w then 1 else 0))).getD 0 + 1) } }
      exact ⟨r, o, e⟩

theorem bankKey_mem_bankKeys (w : Bool) (l : Nat) :
    (if w then Key.STG_BANK_WRITES (l % 64) else Key.STG_BANK_READS (l % 64)) ∈ bankKeys := by
  refine List.mem_flatMap.2 ⟨l % 64, List.mem_range.2 (Nat.mod_lt _ (by decide)), ?_⟩
  cases w
  · exact List.mem_cons_self ..
  · exact List.mem_cons_of_mem _ (List.mem_cons_self ..)

theorem bankTouch_keepsRegs (w c : Bool) (n : Nat) : ∀ (l : Nat) (s : State), keepsRegs bankKeys s (bankTouch w c n l s) := by
  induction n with
  | zero => exact fun _ s _ _ => rfl
  | succ n ih =>
    intro l s
    unfold bankTouch
    have hcount : keepsRegs bankKeys s (s.count64 (if w then Key.STG_BANK_WRITES (l % 64) else Key.STG_BANK_READS (l % 64)) 1) :=
      (keepsRegs_put _ _ _).mono (List.cons_subset.2 ⟨bankKey_mem_bankKeys w l, List.nil_subset _⟩)
    dsimp only
    refine keepsRegs.trans ?_ (ih (l + 1) _) (List.Subset.refl _) (List.Subset.refl _)
    cases c
    · exact hcount
    · exact hcount

namespace StoreFrame

theorem refl (s : State) : StoreFrame s s := ⟨rfl, fun _ _ => rfl⟩

theorem trans {s t u : State} (h : StoreFrame s t) (h' : StoreFrame t u) : StoreFrame s u :=
  ⟨h'.beyond.trans h.beyond, h.regs.trans h'.regs (List.Subset.refl _) (List.Subset.refl _)⟩

theorem foldl {α : Type} {f : State → α → State} (l : List α) (s : State) (hf : ∀ s a, StoreFrame s (f s a)) :
    StoreFrame s (l.foldl f s) :=
  List.foldlRecOn (motive := StoreFrame s) l f (refl s) (fun _ h a _ => h.trans (hf _ a))

theorem bankTouch (w c : Bool) (n l : Nat) (s : State) : StoreFrame s (bankTouch w c n l s) := by
  refine ⟨?_, bankTouch_keepsRegs _ _ _ _ _⟩
  obtain ⟨r, o, e⟩ := bankTouch_moves w c n l s
  rw [e]
  rfl

theorem stg (s : State) (m : List (Nat × Byte)) : StoreFrame s { s with stg := m } := ⟨rfl, fun _ _ => rfl⟩

theorem stgRead (s : State) (a n : Nat) (c : Bool) : StoreFrame s (s.stgRead a n c) := bankTouch ..

theorem stgWrite (s : State) (a : Nat) (bs : Bytes) (c : Bool) : StoreFrame s (s.stgWrite a bs c) := (bankTouch ..).trans (stg ..)

theorem stgWriteRuns (s : State) (a : Nat) (bs : Bytes) (holes : List (Nat × Nat)) : StoreFrame s (s.stgWriteRuns a bs holes) :=
  foldl _ _ fun _ _ => stgWrite ..

theorem setPiece (s : State) (p : Piece) : StoreFrame s (s.setPiece p) := ⟨rfl, fun _ _ => rfl⟩

theorem noteMap (s : State) (k : PieceKey) (a : Nat) : StoreFrame s (s.noteMap k a) := by
  unfold State.noteMap
  dsimp only
  split
  · exact refl s
  split
  · exact refl s
  split
  · exact stgWrite ..
  · exact setPiece ..

theorem givePiece (s : State) (k : PieceKey) (a : Nat) : StoreFrame s (s.givePiece k a) := by
  unfold State.givePiece
  split
  · refine trans (trans ?_ (setPiece ..)) (noteMap ..)
    split
    · exact refl s
    · exact stgWriteRuns ..
  · exact refl s

end StoreFrame

/-! ### The pieces -/

theorem stgRead_pieces (s : State) (a n : Nat) (c : Bool) : (s.stgRead a n c).pieces = s.pieces := by
  unfold State.stgRead
  obtain ⟨r, o, e⟩ := bankTouch_moves false c (lineCount a n) (a / 128) s
  rw [e]

theorem stgWrite_pieces (s : State) (a : Nat) (bs : Bytes) (c : Bool) : (s.stgWrite a bs c).pieces = s.pieces := by
  obtain ⟨r, o, e⟩ := bankTouch_moves true c (lineCount a bs.length) (a / 128) s
  unfold State.stgWrite
  rw [e]

theorem stgWriteRuns_pieces (s : State) (a : Nat) (bs : Bytes) (holes : List (Nat × Nat)) : (s.stgWriteRuns a bs holes).pieces = s.pieces :=
  List.foldlRecOn (motive := fun t => State.pieces t = s.pieces) _ _ rfl fun _ h _ _ => (stgWrite_pieces ..).trans h

theorem piece_of_pieces {s t : State} (h : t.pieces = s.pieces) (k : PieceKey) : t.piece k = s.piece k := by
  unfold State.piece
  rw [h]

theorem piece_key {s : State} {k : PieceKey} {p : Piece} (h : s.piece k = some p) : p.key = k := by
  simpa using List.find?_some h

/-- A piece replaced is found by its key. -/
theorem piece_setPiece_self {s : State} {p q : Piece} (h : s.piece p.key = some q) : (s.setPiece p).piece p.key = some p := by
  unfold State.piece State.setPiece at *
  have hsame : (fun q : Piece => q.key == p.key) ∘ (fun q : Piece => if q.key == p.key then p else q) = fun q => q.key == p.key := by
    funext x
    by_cases hx : x.key = p.key <;> simp [hx]
  have hkey : q.key = p.key := by simpa using List.find?_some h
  rw [List.find?_map, hsame, h, Option.map_some, if_pos (beq_iff_eq.2 hkey)]

theorem piece_setPiece_ne {s : State} {p : Piece} {k : PieceKey} (h : p.key ≠ k) : (s.setPiece p).piece k = s.piece k := by
  unfold State.piece State.setPiece
  have hsame : (fun q : Piece => q.key == k) ∘ (fun q : Piece => if q.key == p.key then p else q) = fun q => q.key == k := by
    funext x
    by_cases hx : x.key = p.key
    · simp [hx]
    · simp [hx]
  rw [List.find?_map, hsame]
  rcases hf : s.pieces.find? (fun q => q.key == k) with _ | q
  · rw [hf]
    rfl
  · have hk : ¬(q.key == p.key) = true := by
      have hq : q.key = k := by simpa using List.find?_some hf
      simpa [hq] using Ne.symm h
    rw [hf, Option.map_some, if_neg hk]

/-- The chunk map's word stands in a piece of its own. -/
theorem piece_noteMap {s : State} {k : PieceKey} {a : Nat} : (s.noteMap k a).piece k = s.piece k := by
  unfold State.noteMap
  split
  · rfl
  next hk =>
    have hkind : k.kind ≠ 9 := by
      intro h9
      simp [h9] at hk
    dsimp only
    split
    · rfl
    next m hm =>
      have hne : m.key ≠ k := by
        rw [piece_key hm]
        exact fun h => hkind (congrArg PieceKey.kind h).symm
      split
      · exact piece_of_pieces (stgWrite_pieces ..) k
      · exact piece_setPiece_ne (p := { m with fill := _ }) hne

/-- A piece given a buffer has it. -/
theorem piece_givePiece {s : State} {k : PieceKey} {p : Piece} (a : Nat) (h : s.piece k = some p) :
    (s.givePiece k a).piece k = some { p with buf := some a, fill := [] } := by
  unfold State.givePiece
  rw [h]
  dsimp only
  rw [piece_noteMap]
  obtain rfl := piece_key h
  refine piece_setPiece_self (p := { p with buf := some a, fill := [] }) (q := p) ?_
  split
  · exact h
  · exact (piece_of_pieces (stgWriteRuns_pieces ..) _).trans h

end Sys2Proof.Machine

/-! SUPPORT. The Pool Manager's ring transfers and grants, and the host's pool commands (R237 to R246). -/

namespace Sys2Proof.Machine

open Sys2Proof

/-! ### Ring transfers (R242) -/

/-- A refill that an allocation starts changes what is being read and nothing else. -/
theorem startRefill_replaces (s : State) (c : Nat) : ∃ n, s.startRefill c = s.setPool c { s.pool c with reading := n } := by
  unfold State.startRefill
  dsimp only
  split
  · exact ⟨_, rfl⟩
  · exact ⟨(s.pool c).reading, (setPool_pool_self s c).symm⟩

/-- A class replaced twice. -/
theorem setPool_setPool (s : State) (c : Nat) (p q : PoolClass) : (s.setPool c p).setPool c q = s.setPool c q := by
  unfold State.setPool setAt
  simp

/-- The ring slots of two entries less than a ring's length apart differ. -/
theorem ringSlot_ne {a i n cap : Nat} (h : i < n) (hn : n < cap) : (a + i) % cap ≠ (a + n) % cap := by
  intro he
  have hdvd : cap ∣ (a + n) - (a + i) := Nat.dvd_of_mod_eq_zero (Nat.sub_mod_eq_zero_of_mod_eq he.symm)
  have := Nat.le_of_dvd (by omega) hdvd
  omega

/-- The first `n` of a class's spilled entries written behind its ring's tail, bottom first. -/
def State.ringWrites (s : State) (c : Nat) (p : PoolClass) (cap n : Nat) : State :=
  (List.range n).foldl (fun s i =>
    s.hostWrite (s.get (Key.POOL_RING_PORT c)) (s.get (Key.POOL_RING_ADDR c) + 8 * ((p.tail + i) % cap)) (le 8 (nth p.writing i 0))) s

theorem spillDone_eq (s : State) (c : Nat) : s.spillDone c =
    ((s.ringWrites c (s.pool c) (s.ringCap c) (s.pool c).writing.length).setPool c
      { s.pool c with tail := (s.pool c).tail + (s.pool c).writing.length, writing := [] }).startRefill c := rfl

/-- What those writes make of a state. -/
structure RingWritten (s : State) (c : Nat) (p : PoolClass) (cap n : Nat) (t : State) : Prop where
  eq : t = { s with regs := t.regs, env := { s.env with mem := t.env.mem } }
  regs : keepsRegs [Key.MEM_WR_BYTES (s.get (Key.POOL_RING_PORT c))] s t
  rising : Sparse.rising t.env.mem = true
  bytes : keepsBytes (s.get (Key.POOL_RING_ADDR c)) (8 * cap) s.env.mem t.env.mem
  entries : ∀ i, i < n → Mem.read (fun _ => 0) t.env.mem (s.get (Key.POOL_RING_ADDR c) + 8 * ((p.tail + i) % cap)) 8 = le 8 (nth p.writing i 0)

theorem ringWritten {s : State} {c : Nat} (p : PoolClass) {cap : Nat} (hc : c < 5) (hm : Sparse.rising s.env.mem = true) :
    ∀ n, n ≤ cap → RingWritten s c p cap n (s.ringWrites c p cap n) := by
  intro n
  induction n with
  | zero => exact fun _ => ⟨rfl, fun _ _ => rfl, hm, fun _ _ => rfl, fun i h => by omega⟩
  | succ n ih =>
    intro hn
    have hw := ih (by omega)
    have hstep : s.ringWrites c p cap (n + 1) =
        (s.ringWrites c p cap n).hostWrite ((s.ringWrites c p cap n).get (Key.POOL_RING_PORT c))
          ((s.ringWrites c p cap n).get (Key.POOL_RING_ADDR c) + 8 * ((p.tail + n) % cap)) (le 8 (nth p.writing n 0)) := by
      unfold State.ringWrites
      rw [List.range_succ, List.foldl_append]
      rfl
    rw [hstep]
    generalize s.ringWrites c p cap n = w at hw
    have hport : w.get (Key.POOL_RING_PORT c) = s.get (Key.POOL_RING_PORT c) := hw.regs _ (by
      simp only [Key.POOL_RING_PORT, Key.MEM_WR_BYTES, List.mem_singleton]
      omega)
    have haddr : w.get (Key.POOL_RING_ADDR c) = s.get (Key.POOL_RING_ADDR c) := hw.regs _ (by
      simp only [Key.POOL_RING_ADDR, Key.MEM_WR_BYTES, List.mem_singleton]
      omega)
    rw [hport, haddr]
    have hlen : (le 8 (nth p.writing n 0)).length = 8 := le_length ..
    have hslot : (p.tail + n) % cap < cap := Nat.mod_lt _ (by omega)
    generalize ha : s.get (Key.POOL_RING_ADDR c) + 8 * ((p.tail + n) % cap) = a
    refine ⟨?_, ?_, write_rising _ _ _ hw.rising, ?_, fun i hi => ?_⟩
    · have e := hw.eq
      generalize w.regs = r at e
      generalize w.env.mem = m at e
      subst e
      rfl
    · exact hw.regs.trans (keepsRegs_put _ _ _) (List.Subset.refl _) (List.Subset.refl _)
    · refine keepsBytes.trans hw.bytes (keepsBytes_write w.env.mem a (le 8 (nth p.writing n 0))) ?_ ?_ ?_ ?_ <;> omega
    · show Mem.read _ (Mem.write w.env.mem a (le 8 (nth p.writing n 0))) _ 8 = _
      rcases Nat.lt_succ_iff_lt_or_eq.1 hi with hlt | rfl
      · rw [← hw.entries i hlt]
        have hne := ringSlot_ne (a := p.tail) hlt (show n < cap by omega)
        refine memRead_congr _ _ _ hw.rising (write_rising _ _ _ hw.rising) fun x hx hx' => ?_
        rw [get?_write, if_neg (by omega)]
      · have := memRead_write_self (fun _ => 0) a (le 8 (nth p.writing i 0)) hw.rising
        rw [hlen] at this
        rw [ha]
        exact this

/-- Settles O8: a refill appends what the ring's head holds; a spill is a run of writes to slots of the ring that differ. -/
theorem poolRingMoves : Obligations.PoolRingMoves := by
  intro c s hl hsh hc hm hp
  have hpools : c < s.pools.length := by rw [hsh.2.1]; exact hc
  have hx : ∀ f : State → State, actFresh f s = f s.fresh := fun f => if_pos hl
  refine ⟨fun hr => ⟨_, congrArg Host.Outcome.next (hx _), ?_⟩, fun hr hne hle => ⟨_, congrArg Host.Outcome.next (hx _), ?_⟩⟩
  · have hop : poolRingRefillDoneOp c s.fresh = s.fresh.refillDone c := if_pos hr
    rw [hop]
    have hself : (s.fresh.refillDone c).pool c = _ := pool_setPool_self _ hpools
    exact ⟨congrArg PoolClass.cache hself, congrArg PoolClass.head hself, congrArg PoolClass.reading hself, (congrArg PoolClass.owner hself :),
      fun d hd => pool_setPool_ne _ _ (Ne.symm hd), keepsRegs_put _ _ _, rfl⟩
  · have hop : poolRingRefillDoneOp c s.fresh = s.fresh.spillDone c := by
      have h0 : ¬(s.fresh.pool c).reading > 0 := by
        show ¬(s.pool c).reading > 0
        omega
      have hw : ¬(s.fresh.pool c).writing.isEmpty = true := by
        show ¬(s.pool c).writing.isEmpty = true
        simpa using hne
      rw [poolRingRefillDoneOp, if_neg h0, if_neg hw]
    rw [hop, spillDone_eq]
    have hw := ringWritten (s := s.fresh) (s.pool c) hc hm (s.pool c).writing.length hle
    have hpool : s.fresh.pool c = s.pool c := rfl
    have hcap : s.fresh.ringCap c = s.ringCap c := rfl
    rw [hpool, hcap]
    generalize s.fresh.ringWrites c (s.pool c) (s.ringCap c) (s.pool c).writing.length = w at hw
    obtain ⟨n, e⟩ := startRefill_replaces (w.setPool c
      { s.pool c with tail := (s.pool c).tail + (s.pool c).writing.length, writing := [] }) c
    have hwp : w.pools = s.pools := (congrArg State.pools hw.eq :)
    have hwl : c < w.pools.length := by rw [hwp]; exact hpools
    rw [e, pool_setPool_self _ hwl, setPool_setPool]
    generalize hq : ({ s.pool c with tail := _, writing := _, reading := n } : PoolClass) = q
    have hself : (w.setPool c q).pool c = q := pool_setPool_self q hwl
    rw [hself]
    subst hq
    refine ⟨rfl, rfl, rfl, rfl, fun d hd => ?_, hw.entries, hw.bytes, hw.regs, ?_⟩
    · rw [pool_setPool_ne _ _ (Ne.symm hd), State.pool, hwp]
      rfl
    · have e := hw.eq
      generalize w.regs = r at e
      generalize w.env.mem = m at e
      subst e
      rfl

end Sys2Proof.Machine

/-! SUPPORT. A buffer granted (R242, R243, R244), and the host's pool commands (R237, R238, R246). -/

namespace Sys2Proof.Machine

open Sys2Proof

/-- The state with buffer `i` of class `c` taken from the cache, which `rest` is left of, for context `o`, before a refill. -/
def State.poolTaken (s : State) (c o i : Nat) (rest : List Nat) : State :=
  let s' := s.setPool c { s.pool c with cache := rest, owner := Sparse.put (s.pool c).owner i o }
  let s' := s'.put (Key.POOL_HELD c o) (s'.get (Key.POOL_HELD c o) + 1)
  let f := s'.get (Key.POOL_FREE c) - 1
  (s'.put (Key.POOL_FREE c) f).put (Key.POOL_LOW c) (min f (s'.get (Key.POOL_LOW c)))

theorem grant_cons {s : State} {c a : Nat} {rest : List Nat} (o : Nat) (h : (s.pool c).cache = a :: rest) :
    s.grant c o = some ((s.poolTaken c o ((a - s.get (Key.POOL_BASE c)) / poolSize c) rest).startRefill c, a) := by
  unfold State.grant
  dsimp only
  rw [h]
  rfl

/-- What a grant of the buffer `a` on top of class `c`'s cache to context `o` makes of a state (R242, R244). -/
structure Granted (s : State) (c o a : Nat) (rest : List Nat) (t : State) : Prop where
  eq : t = { s with regs := t.regs, pools := t.pools }
  count : t.pools.length = s.pools.length
  cache : (t.pool c).cache = rest
  wait : (t.pool c).wait = (s.pool c).wait
  owner : t.owner c ((a - s.get (Key.POOL_BASE c)) / poolSize c) = some o
  others : ∀ d, d ≠ c → t.pool d = s.pool d
  held : t.get (Key.POOL_HELD c o) = (s.get (Key.POOL_HELD c o) + 1) % 2 ^ 64
  free : t.get (Key.POOL_FREE c) = s.get (Key.POOL_FREE c) - 1
  low : t.get (Key.POOL_LOW c) = min (s.get (Key.POOL_FREE c) - 1) (s.get (Key.POOL_LOW c))
  regs : keepsRegs [Key.POOL_HELD c o, Key.POOL_FREE c, Key.POOL_LOW c] s t

section Grant
variable {s : State} {c o a : Nat} {rest : List Nat}

theorem poolHeld_ne_poolLow : Key.POOL_HELD c o ≠ Key.POOL_LOW c := by
  unfold Key.POOL_HELD Key.POOL_LOW
  omega

theorem poolFree_ne_poolLow : Key.POOL_FREE c ≠ Key.POOL_LOW c := by
  unfold Key.POOL_FREE Key.POOL_LOW
  omega

theorem poolTaken_pool (i : Nat) (hl : c < s.pools.length) :
    (s.poolTaken c o i rest).pool c = { s.pool c with cache := rest, owner := Sparse.put (s.pool c).owner i o } := by
  simp only [State.poolTaken, pool_put]
  exact pool_setPool_self _ hl

theorem poolTaken_held (i : Nat) :
    (s.poolTaken c o i rest).get (Key.POOL_HELD c o) = (s.get (Key.POOL_HELD c o) + 1) % 2 ^ 64 := by
  unfold State.poolTaken
  rw [get_put_ne _ _ poolHeld_ne_poolLow.symm, get_put_ne _ _ poolHeld_ne_poolFree.symm, get_put_self, get_setPool]

theorem poolTaken_free (i : Nat) : (s.poolTaken c o i rest).get (Key.POOL_FREE c) = s.get (Key.POOL_FREE c) - 1 := by
  have hlt := get_lt s (Key.POOL_FREE c)
  unfold State.poolTaken
  rw [get_put_ne _ _ poolFree_ne_poolLow.symm, get_put_self, get_put_ne _ _ poolHeld_ne_poolFree, get_setPool]
  omega

theorem poolTaken_low (i : Nat) :
    (s.poolTaken c o i rest).get (Key.POOL_LOW c) = min (s.get (Key.POOL_FREE c) - 1) (s.get (Key.POOL_LOW c)) := by
  have hlt := get_lt s (Key.POOL_LOW c)
  unfold State.poolTaken
  rw [get_put_self, get_put_ne _ _ poolHeld_ne_poolLow, get_put_ne _ _ poolHeld_ne_poolFree,
    get_setPool, get_setPool]
  omega

theorem poolTaken_keepsRegs (i : Nat) : keepsRegs [Key.POOL_HELD c o, Key.POOL_FREE c, Key.POOL_LOW c] s (s.poolTaken c o i rest) := by
  intro k hk
  simp only [List.mem_cons, List.not_mem_nil, or_false, not_or] at hk
  obtain ⟨hh, hf, hl⟩ := hk
  unfold State.poolTaken
  rw [get_put_ne _ _ (Ne.symm hl), get_put_ne _ _ (Ne.symm hf), get_put_ne _ _ (Ne.symm hh), get_setPool]

theorem poolTaken_moves (s : State) (c o i : Nat) (rest : List Nat) :
    ∃ r p, s.poolTaken c o i rest = { s with regs := r, pools := p } := by
  have hput : ∀ (u : State) (k v : Nat), ∃ r, u.put k v = { u with regs := r } := fun _ _ _ => ⟨_, rfl⟩
  unfold State.poolTaken
  dsimp only
  generalize hu : s.setPool c _ = u
  generalize u.get (Key.POOL_HELD c o) + 1 = h
  generalize hw : u.put (Key.POOL_HELD c o) h = w
  obtain ⟨r, e⟩ := hput u (Key.POOL_HELD c o) h
  obtain ⟨r', e'⟩ := hput w (Key.POOL_FREE c) (w.get (Key.POOL_FREE c) - 1)
  obtain ⟨r'', e''⟩ := hput (w.put (Key.POOL_FREE c) (w.get (Key.POOL_FREE c) - 1)) (Key.POOL_LOW c)
    (min (w.get (Key.POOL_FREE c) - 1) (w.get (Key.POOL_LOW c)))
  rw [e'', e', ← hw, e, ← hu]
  exact ⟨_, _, rfl⟩

/-- The buffer on top of the cache is the context's. -/
theorem grant_granted (o : Nat) (hl : c < s.pools.length) (h : (s.pool c).cache = a :: rest) :
    ∃ t, s.grant c o = some (t, a) ∧ Granted s c o a rest t := by
  refine ⟨(s.poolTaken c o ((a - s.get (Key.POOL_BASE c)) / poolSize c) rest).startRefill c, grant_cons o h, ?_⟩
  generalize hi : (a - s.get (Key.POOL_BASE c)) / poolSize c = i
  have hpool := poolTaken_pool (s := s) (c := c) (o := o) (rest := rest) i hl
  have hlen : (s.poolTaken c o i rest).pools.length = s.pools.length := setAt_length ..
  have hother : ∀ d, d ≠ c → (s.poolTaken c o i rest).pool d = s.pool d := fun d hd => by
    simp only [State.poolTaken, pool_put]
    exact pool_setPool_ne _ _ (Ne.symm hd)
  have hheld := poolTaken_held (s := s) (c := c) (o := o) (rest := rest) i
  have hfree := poolTaken_free (s := s) (c := c) (o := o) (rest := rest) i
  have hlow := poolTaken_low (s := s) (c := c) (o := o) (rest := rest) i
  have hregs := poolTaken_keepsRegs (s := s) (c := c) (o := o) (rest := rest) i
  obtain ⟨r, p, heq⟩ := poolTaken_moves s c o i rest
  obtain ⟨n, e⟩ := startRefill_replaces (s.poolTaken c o i rest) c
  rw [e]
  generalize s.poolTaken c o i rest = u at *
  have hself := pool_setPool_self (s := u) { u.pool c with reading := n } (by rw [hlen]; exact hl)
  constructor
  case eq =>
    subst heq
    rfl
  case count => exact (setAt_length ..).trans hlen
  case cache => rw [hself, hpool]
  case wait => rw [hself, hpool]
  case owner =>
    rw [State.owner, hself, hpool, hi]
    exact (get?_put ..).trans (if_pos rfl)
  case others => exact fun d hd => (pool_setPool_ne _ _ (Ne.symm hd)).trans (hother d hd)
  case held => exact hheld
  case free => exact hfree
  case low => exact hlow
  case regs => exact hregs

end Grant

/-! ### POOL_ALLOC_GRANT -/

/-- With no chunk in hand, none is committed. -/
theorem commitInHand_of_none {s : State} (h : ∀ e ∈ s.expects, e.inHand = none) : s.commitInHand = s := by
  unfold State.commitInHand
  refine List.foldlRecOn (motive := fun t => t = s) s.expects _ rfl fun t ht e he => ?_
  rw [h e he]
  exact ht

/-- With no record lost and no combine ended, an arrival does nothing beyond its port. -/
theorem afterArrival_of_none {s t : State} (hl : t.losts = s.losts) (h : ∀ k ∈ t.combs, k.closed = false) : s.afterArrival t = t := by
  unfold State.afterArrival
  rw [if_pos hl]
  dsimp only
  split
  · rfl
  · refine List.foldlRecOn (motive := fun u => u = t) t.combs _ rfl fun u hu k hk => ?_
    rw [h k hk]
    exact hu

/-- Settles O6: the grant of the oldest request that its quota does not hold back. -/
theorem poolGrantGivesTop : Obligations.PoolGrantGivesTop := by
  intro c a rest r s hl hsh hc hr8 hin hcomb hst hn hcache
  have hpools : c < s.pools.length := by rw [hsh.2.1]; exact hc
  obtain ⟨g, hg, hG⟩ := grant_granted r.ctx hpools hcache
  have hop : poolAllocGrantOp c s = (g.setPool c { g.pool c with wait := (g.pool c).wait.erase r }).givePiece r.key a := by
    unfold poolAllocGrantOp
    rw [if_pos hst, hn]
    dsimp only
    rw [hg]
  generalize hw : g.setPool c { g.pool c with wait := (g.pool c).wait.erase r } = w at hop
  have hgl : c < g.pools.length := by rw [hG.count]; exact hpools
  have hwself : w.pool c = { g.pool c with wait := (g.pool c).wait.erase r } := by
    rw [← hw]
    exact pool_setPool_self _ hgl
  have hwne : ∀ d, d ≠ c → w.pool d = s.pool d := fun d hd => by
    rw [← hw]
    exact (pool_setPool_ne _ _ (Ne.symm hd)).trans (hG.others d hd)
  have hweq : w = { s with regs := w.regs, pools := w.pools } := by
    rw [← hw]
    have e := hG.eq
    generalize g.regs = r at e
    generalize g.pools = p at e
    subst e
    rfl
  have hwregs : w.regs = g.regs := by
    rw [← hw]
    rfl
  have hframe := StoreFrame.givePiece w r.key a
  have hpiece : ∀ p, s.piece r.key = some p → (w.givePiece r.key a).piece r.key = some { p with buf := some a, fill := [] } :=
    fun p hp => piece_givePiece a ((piece_of_pieces (congrArg State.pieces hweq :) _).trans hp)
  have hfields : (w.givePiece r.key a).expects = s.expects ∧ (w.givePiece r.key a).combs = s.combs ∧
      (w.givePiece r.key a).losts = s.losts ∧ (w.givePiece r.key a).pools = w.pools := by
    have hb := eq_of_beyondStore hframe.beyond
    rw [hb, hweq]
    exact ⟨rfl, rfl, rfl, rfl⟩
  obtain ⟨hex, hco, hlo, hpo⟩ := hfields
  have hdone : exec (.poolAllocGrant c) s = .next (w.givePiece r.key a) := by
    show Host.Outcome.next (act (arriving fun s => (poolAllocGrantOp c s).commitInHand) s) = _
    rw [act_of_live _ hl]
    unfold arriving
    dsimp only
    rw [hop, commitInHand_of_none (by rw [hex]; exact hin), afterArrival_of_none hlo (by rw [hco]; exact hcomb)]
  refine ⟨_, hdone, ?_⟩
  have hpool : ∀ d, (w.givePiece r.key a).pool d = w.pool d := fun d => by rw [State.pool, hpo, State.pool]
  have hreg : ∀ k, k ∉ bankKeys → (w.givePiece r.key a).get k = g.get k := fun k hk =>
    (hframe.regs k hk).trans (get_of_regs hwregs k)
  have hlow : ∀ k, k < 0x600000 → k ∉ bankKeys := fun k hk hb => by
    have := bankKeys_range hb
    omega
  refine ⟨?_, ?_, ?_, ?_, ?_, ?_, fun p hp => ⟨_, hpiece p hp, rfl⟩, fun d hd => (hpool d).trans (hwne d hd), ?_, ?_⟩
  · rw [hpool, hwself]
    exact hG.cache
  · rw [hpool, hwself, hG.wait]
  · rw [State.owner, hpool, hwself]
    exact hG.owner
  · rw [hreg _ (hlow _ (by unfold Key.POOL_HELD; omega)), hG.held]
  · rw [hreg _ (hlow _ (by unfold Key.POOL_FREE; omega)), hG.free]
  · rw [hreg _ (hlow _ (by unfold Key.POOL_LOW; omega)), hG.low]
  · intro k hk
    simp only [List.mem_cons, not_or] at hk
    obtain ⟨hh, hf, hl, hb⟩ := hk
    rw [hreg k hb, hG.regs k (by simp [hh, hf, hl])]
  · have e := eq_of_beyondStore hframe.beyond
    generalize w.givePiece r.key a = t at *
    rw [hweq] at e
    rw [hpo]
    exact e

end Sys2Proof.Machine

/-! SUPPORT. The host's pool commands: initialise, set low, allocate (R237, R238, R246). -/

namespace Sys2Proof.Machine

open Sys2Proof

/-- The check of a class reads registers of the pools and above, and what the contexts reach. -/
theorem poolCheck_congr {s t : State} (hr : ∀ k, 0x500000 ≤ k → t.get k = s.get k) (he : t.env = s.env) (c : Nat) :
    t.poolCheck c = s.poolCheck c := by
  have hcount : ∀ d, t.get (Key.POOL_COUNT d) = s.get (Key.POOL_COUNT d) := fun d => hr _ (by unfold Key.POOL_COUNT; omega)
  have hbase : ∀ d, t.get (Key.POOL_BASE d) = s.get (Key.POOL_BASE d) := fun d => hr _ (by unfold Key.POOL_BASE; omega)
  have hring : ∀ d, t.get (Key.POOL_RING_ADDR d) = s.get (Key.POOL_RING_ADDR d) := fun d => hr _ (by unfold Key.POOL_RING_ADDR; omega)
  have hport : ∀ d, t.get (Key.POOL_RING_PORT d) = s.get (Key.POOL_RING_PORT d) := fun d => hr _ (by unfold Key.POOL_RING_PORT; omega)
  have hreduce : t.get Key.CLE_REDUCE_BASE = s.get Key.CLE_REDUCE_BASE := hr _ (by decide)
  have hhost : t.poolHost = s.poolHost := by
    funext d
    simp only [State.poolHost, hcount, hbase, hring]
  have hreach : t.reachAll = s.reachAll := by
    funext p a n
    simp only [State.reachAll, State.reaches, he]
  simp only [State.poolCheck, hcount, hbase, hring, hport, hreduce, hhost, hreach]

/-- Registers set to zero in turn. -/
theorem get_foldl_put_zero (s : State) (ks : List Nat) (j : Nat) :
    (ks.foldl (fun s k => s.put k 0) s).get j = if j ∈ ks then 0 else s.get j := by
  induction ks generalizing s with
  | nil => rfl
  | cons k ks ih =>
    rw [List.foldl_cons, ih, get_put]
    by_cases hj : j ∈ ks
    · rw [if_pos hj, if_pos (List.mem_cons_of_mem k hj)]
    · by_cases h : k = j
      · simp [h]
      · simp [hj, h, Ne.symm h]

theorem foldl_put_zero_moves (s : State) (ks : List Nat) : ∃ r, ks.foldl (fun s k => s.put k 0) s = { s with regs := r } := by
  refine List.foldlRecOn (motive := fun u : State => ∃ r, u = { s with regs := r }) _ _ ⟨_, rfl⟩ ?_
  rintro _ ⟨r, rfl⟩ k -
  exact ⟨_, rfl⟩

/-- What every context holds of every class. -/
def heldKeys : List Nat := (List.range 5).flatMap (fun c => (List.range 8).map (fun x => Key.POOL_HELD c x))

theorem poolHeld_mem_heldKeys {c x : Nat} (hc : c < 5) (hx : x < 8) : Key.POOL_HELD c x ∈ heldKeys :=
  List.mem_flatMap.2 ⟨c, List.mem_range.2 hc, List.mem_map.2 ⟨x, List.mem_range.2 hx, rfl⟩⟩

/-- The classes emptied, initialisation begun, and no buffer held (R237, R238). -/
def State.poolsCleared (s : State) : State :=
  heldKeys.foldl (fun s k => s.put k 0) ((({ s with pools := List.replicate 5 {} } : State).put Key.POOL_STATE 1).put Key.POOL_INIT_RESULT 0)

/-- Initialisation begins where every context is STOPPED and every class passes its check. -/
theorem poolInitialiseOp_begins {s : State} (hs : ∀ c, c < 8 → s.tt c = 0) (hc : ∀ c, c < 5 → s.poolCheck c = 0) :
    poolInitialiseOp s = s.poolsCleared := by
  have hall : (List.range 8).all (fun c => s.tt c == 0) = true := by simpa using hs
  have hnone : (List.range 5).find? (fun c => ({ s with pools := List.replicate 5 {} } : State).poolCheck c != 0) = none := by
    rw [List.find?_eq_none]
    intro c hm
    have hcc : ({ s with pools := List.replicate 5 {} } : State).poolCheck c = s.poolCheck c := poolCheck_congr (fun _ _ => rfl) rfl c
    rw [hcc, hc c (List.mem_range.1 hm)]
    decide
  unfold poolInitialiseOp
  rw [if_pos hall]
  dsimp only
  rw [hnone]
  simp only [State.poolsCleared, heldKeys, List.foldl_flatMap, List.foldl_map]

/-- What the start of initialisation leaves and writes. -/
theorem poolsCleared_spec (s : State) : s.poolsCleared.get Key.POOL_STATE = 1 ∧ s.poolsCleared.get Key.POOL_INIT_RESULT = 0 ∧
    (∀ c x, c < 5 → x < 8 → s.poolsCleared.get (Key.POOL_HELD c x) = 0) ∧ ∃ r, s.poolsCleared = { s with regs := r, pools := List.replicate 5 {} } := by
  refine ⟨?_, ?_, fun c x hc hx => ?_, ?_⟩
  · rw [State.poolsCleared, get_foldl_put_zero, if_neg (by decide), get_put_ne _ _ (by decide), get_put_self]
    rfl
  · rw [State.poolsCleared, get_foldl_put_zero, if_neg (by decide), get_put_self]
    rfl
  · rw [State.poolsCleared, get_foldl_put_zero, if_pos (poolHeld_mem_heldKeys hc hx)]
  · obtain ⟨r, e⟩ := foldl_put_zero_moves
      ((({ s with pools := List.replicate 5 {} } : State).put Key.POOL_STATE 1).put Key.POOL_INIT_RESULT 0) heldKeys
    exact ⟨r, e⟩

/-- POOL_LOW of the first `n` classes set to their free counts. -/
def State.lowsSet (s : State) (n : Nat) : State := (List.range n).foldl (fun s c => s.put (Key.POOL_LOW c) (s.get (Key.POOL_FREE c))) s

theorem lowsSet_succ (s : State) (n : Nat) :
    s.lowsSet (n + 1) = (s.lowsSet n).put (Key.POOL_LOW n) ((s.lowsSet n).get (Key.POOL_FREE n)) := by
  simp only [State.lowsSet, List.range_succ, List.foldl_append, List.foldl_cons, List.foldl_nil]

theorem lowsSet_spec (s : State) (n : Nat) : (∃ r, s.lowsSet n = { s with regs := r }) ∧
    keepsRegs ((List.range n).map Key.POOL_LOW) s (s.lowsSet n) ∧ ∀ c, c < n → (s.lowsSet n).get (Key.POOL_LOW c) = s.get (Key.POOL_FREE c) := by
  induction n with
  | zero => exact ⟨⟨_, rfl⟩, fun _ _ => rfl, fun c h => by omega⟩
  | succ n ih =>
    obtain ⟨⟨r, e⟩, hk, hg⟩ := ih
    have hfree : (s.lowsSet n).get (Key.POOL_FREE n) = s.get (Key.POOL_FREE n) := hk _ (by
      simp only [List.mem_map, List.mem_range, not_exists, not_and, Key.POOL_LOW, Key.POOL_FREE]
      omega)
    rw [lowsSet_succ, hfree]
    refine ⟨by rw [e]; exact ⟨_, rfl⟩, ?_, fun c hc => ?_⟩
    · refine hk.trans (keepsRegs_put _ _ _) ?_ ?_
      · exact List.map_subset _ (List.range_subset.2 (by omega))
      · exact List.cons_subset.2 ⟨List.mem_map.2 ⟨n, List.mem_range.2 (by omega), rfl⟩, List.nil_subset _⟩
    · rw [get_put]
      split
      next h =>
        obtain rfl : n = c := by
          unfold Key.POOL_LOW at h
          omega
        exact Nat.mod_eq_of_lt (get_lt ..)
      next h =>
        refine hg c ?_
        rcases Nat.lt_succ_iff_lt_or_eq.1 hc with hlt | rfl
        · exact hlt
        · exact absurd rfl h

/-! ### The commands -/

section Host
variable {tr : Transport} {s : State}

/-- POOL_CONTROL's entry and POOL_ALLOC_REQ's take any write of their types. -/
theorem poolEntries : plainScalar 0x5005 1 = true ∧ anyState 0x5005 1 = true ∧ admits 0x5005 1 1 = true ∧ admits 0x5005 1 2 = true ∧
    plainScalar 0x5006 1 = true ∧ anyState 0x5006 1 = true := by decide

/-- POOL_INITIALISE. -/
theorem poolInitialise_next (hh : hostReady tr s = true) (hq : s.get Key.RPL_STATE ≠ 1) (hs : ∀ c, c < 8 → s.tt c = 0)
    (hc : ∀ c, c < 5 → s.poolCheck c = 0) :
    ∃ t, exec (.poolInitialise tr) s = .next t ∧ accepted tr t = true ∧ t.get Key.POOL_STATE = 1 ∧
      t.get Key.POOL_INIT_RESULT = 0 ∧ (∀ c x, c < 5 → x < 8 → t.get (Key.POOL_HELD c x) = 0) ∧ t.pools = List.replicate 5 {} ∧
      t.stg = s.stg ∧ t.env = s.env ∧ t.dom = s.dom ∧ t.queues = s.queues ∧ t.ctxs = s.ctxs := by
  obtain ⟨hplain, hany, hadm, -⟩ := poolEntries
  have hhigh : ∀ k, 0x500000 ≤ k → (s.opened tr 1).get k = s.get k := fun k h => opened_keepsRegs s tr 1 k (not_mem_canKeys h)
  have hw : (s.opened tr 1).writeScalar tr 0x5005 1 1 = ((s.opened tr 1).poolsCleared, none) := by
    show (poolInitialiseOp (s.opened tr 1), none) = _
    rw [poolInitialiseOp_begins (fun c h => (tt_opened s tr 1 c).trans (hs c h))
      (fun c h => (poolCheck_congr hhigh (opened_env ..) c).trans (hc c h))]
  obtain ⟨hst, hres, hheld, r, e⟩ := poolsCleared_spec (s.opened tr 1)
  obtain ⟨r', f, k, w, eo⟩ := opened_moves s tr 1
  obtain ⟨p, q, et⟩ := taken_moves tr { op := 2, idx := 0x5005, sub := 1 } (s.opened tr 1).poolsCleared
  refine ⟨_, hostScalar_next_any hh hq hplain hany (by decide) hadm hw (.inl (by decide)), accepted_taken _ _ rfl rfl, ?_, ?_, fun c x hc hx => ?_, ?_⟩
  · rw [get_taken, hst]
  · rw [get_taken, hres]
  · rw [get_taken, hheld c x hc hx]
  · rw [et, e, eo]
    exact ⟨rfl, rfl, rfl, rfl, rfl, rfl⟩

/-- POOL_SET_LOW. -/
theorem poolSetLow_next (hh : hostReady tr s = true) (hq : s.get Key.RPL_STATE ≠ 1) :
    ∃ t, exec (.poolSetLow tr) s = .next t ∧ accepted tr t = true ∧ (∀ c, c < 5 → t.get (Key.POOL_LOW c) = s.get (Key.POOL_FREE c)) ∧
      keepsRegs ((List.range 5).map Key.POOL_LOW ++ canKeys) s t ∧ t.dom = s.dom ∧ onlyDict s t := by
  obtain ⟨hplain, hany, -, hadm, -⟩ := poolEntries
  have hw : (s.opened tr 2).writeScalar tr 0x5005 1 2 = ((s.opened tr 2).lowsSet 5, none) := rfl
  obtain ⟨⟨r, e⟩, hk, hg⟩ := lowsSet_spec (s.opened tr 2) 5
  refine ⟨_, hostScalar_next_any hh hq hplain hany (by decide) hadm hw (.inl (by decide)), accepted_taken _ _ rfl rfl, fun c hc => ?_,
    keepsRegs_taken (v := 2) _ hk, taken_dom_of_opened (v := 2) _ (by rw [e]), onlyDict_host (v := 2) _ (by rw [e]; rfl)⟩
  rw [get_taken, hg c hc]
  exact opened_keepsRegs s tr 2 _ (not_mem_canKeys (by unfold Key.POOL_FREE; omega))

/-- The quota of a context reads its image and its count. -/
theorem underQuota_opened (v c o : Nat) : (s.opened tr v).underQuota c o = s.underQuota c o := by
  have hheld : (s.opened tr v).get (Key.POOL_HELD c o) = s.get (Key.POOL_HELD c o) :=
    opened_keepsRegs s tr v _ (not_mem_canKeys (by unfold Key.POOL_HELD; omega))
  have hquota : (s.opened tr v).quota o c = s.quota o c := by
    simp only [State.quota, State.part, ctx_opened]
  rw [State.underQuota, State.underQuota, hheld, hquota]

/-- A host request that its quota does not hold back gets the buffer on top of the cache of the class for its size. -/
theorem poolAllocReqOp_granted {v c a : Nat} {rest : List Nat} {g : State} (h32 : bits v 32 29 = 0) (h0 : 0 < bits v 0 32)
    (hle : bits v 0 32 ≤ 16777216) (hc : c = if bits v 0 32 ≤ 1048576 then 3 else 4) (hs : s.get Key.POOL_STATE = 2)
    (hcache : (s.pool c).cache = a :: rest) (hq : s.holdsPart (bits v 61 3) = true → s.underQuota c (bits v 61 3) = true)
    (hg : s.grant c (bits v 61 3) = some (g, a)) :
    poolAllocReqOp tr v s = g.put (trKey tr Key.POOL_ALLOC_RESULT) (0 <<< 61 ||| c <<< 58 ||| a) := by
  have hfill : s.fillCache c = s := by
    unfold State.fillCache
    rw [hcache]
    exact if_pos rfl
  have hrange : ¬((decide (bits v 32 29 ≠ 0) || decide (bits v 0 32 > 16777216)) = true) := by
    simpa [h32] using hle
  have hzero : ¬bits v 0 32 = 0 := by omega
  have hempty : ¬((decide (s.get Key.POOL_STATE ≠ 2) || (s.pool c).cache.isEmpty) = true) := by simp [hs, hcache]
  have hquota : ¬((s.holdsPart (bits v 61 3) && !s.underQuota c (bits v 61 3)) = true) := by
    cases hp : s.holdsPart (bits v 61 3)
    · simp
    · simp [hq hp]
  unfold poolAllocReqOp
  dsimp only
  rw [if_neg hrange, if_neg hzero, ← hc, if_pos hs, hfill, if_neg hempty, if_neg hquota, hg]

/-- The classes stand when a write has been taken. -/
theorem pool_taken (x : Txn) (d : Nat) : (taken tr x s).pool d = s.pool d := by cases tr <;> rfl

theorem writeScalar_poolAllocReq (s : State) (v : Nat) : s.writeScalar tr 0x5006 1 v = (poolAllocReqOp tr v s, none) := rfl

theorem admits_poolAllocReq {v : Nat} (hv : v < 2 ^ 64) : admits 0x5006 1 v = true := admits_of_lt 64 (by decide) rfl hv

/-- POOL_ALLOC_REQ. -/
theorem poolAllocReq_next {n c a : Nat} {rest : List Nat} (hh : hostReady tr s = true) (hq : s.get Key.RPL_STATE ≠ 1)
    (hsh : shaped s) (hlt : n < 2 ^ 64) (h32 : bits n 32 29 = 0) (h0 : 0 < bits n 0 32) (hle : bits n 0 32 ≤ 16777216)
    (hc : c = if bits n 0 32 ≤ 1048576 then 3 else 4) (hs : s.get Key.POOL_STATE = 2) (hcache : (s.pool c).cache = a :: rest)
    (hquota : s.holdsPart (bits n 61 3) = true → s.underQuota c (bits n 61 3) = true) (ha : a < 2 ^ 58) :
    ∃ t, hosted (hostScalar tr 0x5006 1 n) s = .next t ∧ accepted tr t = true ∧
      t.get (trKey tr Key.POOL_ALLOC_RESULT) = c * 2 ^ 58 + a ∧ (t.pool c).cache = rest ∧
      t.owner c ((a - s.get (Key.POOL_BASE c)) / poolSize c) = some (bits n 61 3) ∧
      t.get (Key.POOL_HELD c (bits n 61 3)) = (s.get (Key.POOL_HELD c (bits n 61 3)) + 1) % 2 ^ 64 ∧
      (∀ d, d ≠ c → t.pool d = s.pool d) ∧ t.stg = s.stg ∧ t.env = s.env ∧ t.dom = s.dom ∧ t.queues = s.queues ∧ t.ctxs = s.ctxs := by
  obtain ⟨-, -, -, -, hplain, hany⟩ := poolEntries
  have ho8 : bits n 61 3 < 8 := Nat.mod_lt _ (by decide)
  generalize ho : bits n 61 3 = o at *
  have hc5 : c < 5 := by split at hc <;> omega
  have hpool : ∀ d, (s.opened tr n).pool d = s.pool d := fun d => by rw [State.pool, opened_pools, State.pool]
  have hhigh : ∀ k, 0x500000 ≤ k → (s.opened tr n).get k = s.get k := fun k h => opened_keepsRegs s tr n k (not_mem_canKeys h)
  obtain ⟨g, hg, hG⟩ := grant_granted (s := s.opened tr n) o (by rw [opened_pools, hsh.2.1]; exact hc5) ((hpool c).symm ▸ hcache)
  have hres : (0 <<< 61 ||| c <<< 58 ||| a) = c * 2 ^ 58 + a := by
    rw [Nat.zero_shiftLeft, Nat.zero_or, shiftLeft_or ha]
  have hw : (s.opened tr n).writeScalar tr 0x5006 1 n = (g.put (trKey tr Key.POOL_ALLOC_RESULT) (c * 2 ^ 58 + a), none) := by
    rw [writeScalar_poolAllocReq, poolAllocReqOp_granted h32 h0 hle hc ((hhigh _ (by decide)).trans hs) (by rw [hpool]; exact hcache) (by
      rw [ho, underQuota_opened]
      exact fun h => hquota (by simpa only [State.holdsPart, ctx_opened] using h)) (by rw [ho]; exact hg), hres]
  have hne : Key.POOL_HELD c o ≠ trKey tr Key.POOL_ALLOC_RESULT := by
    cases tr
    · simp only [trKey, Key.POOL_HELD, Key.POOL_ALLOC_RESULT]
      omega
    · simp only [trKey, Key.POOL_HELD, Key.POOL_ALLOC_RESULT, canCopy]
      omega
  have hbase : (s.opened tr n).get (Key.POOL_BASE c) = s.get (Key.POOL_BASE c) := hhigh _ (by unfold Key.POOL_BASE; omega)
  have hheld : (g.put (trKey tr Key.POOL_ALLOC_RESULT) (c * 2 ^ 58 + a)).get (Key.POOL_HELD c o) = (s.get (Key.POOL_HELD c o) + 1) % 2 ^ 64 := by
    rw [get_put_ne _ _ hne.symm, hG.held, hhigh _ (by unfold Key.POOL_HELD; omega)]
  have hval : (g.put (trKey tr Key.POOL_ALLOC_RESULT) (c * 2 ^ 58 + a)).get (trKey tr Key.POOL_ALLOC_RESULT) = c * 2 ^ 58 + a := by
    rw [get_put_self, Nat.mod_eq_of_lt (by omega)]
  have hadm : admits 0x5006 1 n = true := admits_poolAllocReq hlt
  generalize hz : g.put (trKey tr Key.POOL_ALLOC_RESULT) (c * 2 ^ 58 + a) = z at hw hheld hval
  refine ⟨_, hostScalar_next_any hh hq hplain hany hlt hadm hw (.inl (by decide)), accepted_taken _ _ rfl rfl, (get_taken ..).trans hval, ?_⟩
  have hpools : ∀ d, (taken tr { op := 2, idx := 0x5006, sub := 1 } z).pool d = g.pool d := fun d => by rw [pool_taken, ← hz, pool_put]
  have howner := hG.owner
  rw [hbase, State.owner] at howner
  refine ⟨?_, ?_, (get_taken ..).trans hheld, fun d hd => ?_, ?_⟩
  · rw [hpools]
    exact hG.cache
  · rw [State.owner, hpools]
    exact howner
  · rw [hpools, hG.others d hd, hpool]
  · obtain ⟨p, q, et⟩ := taken_moves tr { op := 2, idx := 0x5006, sub := 1 } z
    obtain ⟨r, f, k, w, eo⟩ := opened_moves s tr n
    have hgf : g.stg = s.stg ∧ g.env = s.env ∧ g.dom = s.dom ∧ g.queues = s.queues ∧ g.ctxs = s.ctxs := by
      rw [hG.eq, eo]
      exact ⟨rfl, rfl, rfl, rfl, rfl⟩
    have hzf : z.stg = g.stg ∧ z.env = g.env ∧ z.dom = g.dom ∧ z.queues = g.queues ∧ z.ctxs = g.ctxs := by
      rw [← hz]
      exact ⟨put_stg .., put_env .., put_dom .., put_queues .., put_ctxs ..⟩
    rw [et]
    obtain ⟨hstg, henv, hdom, hqs, hctxs⟩ := hgf
    obtain ⟨hstg', henv', hdom', hqs', hctxs'⟩ := hzf
    exact ⟨hstg'.trans hstg, henv'.trans henv, hdom'.trans hdom, hqs'.trans hqs, hctxs'.trans hctxs⟩

end Host

/-- Settles O16: each pool command's write runs its operation on the opened state. -/
theorem poolHostCommands : Obligations.PoolHostCommands := by
  intro tr s hh hq hsh
  exact ⟨poolInitialise_next hh hq, poolSetLow_next hh hq, fun v c a rest h32 h0 hle hc hs hcache hquota ha =>
    poolAllocReq_next hh hq hsh v.isLt h32 h0 hle hc hs hcache hquota ha⟩

end Sys2Proof.Machine

/-! SUPPORT. Transactions of the host that name one entry (R370, R374, R375). -/

namespace Sys2Proof.Machine

open Sys2Proof

/-! ### The checks of Table 15.4 -/

/-- A well-formed request of one entry that its checks pass is refused by none of them. -/
theorem dictCheck_passes {s : State} {r : DictReq} {e : Entry} (hf : r.formed = true) (h5 : r.op ≠ 5) (he : s.entry r.idx r.sub = some e)
    (ha : accessFault r.op e = none) (ho : s.oneCheck r e = none) : s.dictCheck r = none := by
  have hn : r.names = [(r.idx, r.sub)] := if_neg h5
  unfold State.dictCheck
  simp [hf, hn, firstAt, he, ha, ho, h5]

/-- A request that passes the checks runs by its operation. -/
theorem runTxn_passes {s : State} {r : DictReq} (h : s.dictCheck r = none) :
    s.runTxn r = if r.writes then s.writeTxn r else if r.op = 3 then s.captureTxn r
      else if r.op = 5 then (s.putRead r.tr (s.listBytes r.tr r.names), r.txn)
      else match s.entry r.idx r.sub with
        | none => (s, r.txn)
        | some e =>
          if r.op = 1 then
            (s, { r.txn with value := some (BitVec.ofNat 64 (s.readScalar r.tr r.idx r.sub e)),
                             tail := zeros 8 ++ le 8 (s.readScalar r.tr r.idx r.sub e) })
          else
            (s, { r.txn with
              value := some (BitVec.ofNat 64 (s.entryLen r.tr (entryKey r.idx r.sub) e <<< 32 ||| e.acc <<< 8 ||| e.ty))
              tail := le 1 e.ty ++ le 1 e.acc ++ zeros 2 ++ le 4 (s.entryLen r.tr (entryKey r.idx r.sub) e) }) := by
  unfold State.runTxn
  rw [h] <;> rfl

/-- A write of a scalar that passes the checks, and the checks of its own, while the replay log does not record. -/
theorem runTxn_write {s : State} {tr : Transport} {tid idx sub v : Nat} {e : Entry} (ht : tid < 256) (hi : idx < 65536) (hs : sub < 256)
    (hv : v < 2 ^ 64) (he : s.entry idx sub = some e) (ha : accessFault 2 e = none)
    (ho : s.oneCheck { tr := tr, op := 2, tid := tid, idx := idx, sub := sub, value := v } e = none)
    (hk : entryKey idx sub ≠ Key.RST_CONTROL) (hd : entryKey idx sub ≠ Key.COM_CAN_DATA_RATE)
    (hx : (s.writeScalar tr idx sub v).2 = none) (hl : s.get Key.RPL_STATE ≠ 1) (hl' : (s.writeScalar tr idx sub v).1.get Key.RPL_STATE ≠ 1) :
    s.runTxn { tr := tr, op := 2, tid := tid, idx := idx, sub := sub, value := v } =
      ((s.writeScalar tr idx sub v).1, { op := 2, tid := tid, idx := idx, sub := sub }) := by
  have hf : (DictReq.formed { tr := tr, op := 2, tid := tid, idx := idx, sub := sub, value := v }) = true := by
    cases tr <;> simp [DictReq.formed, DictReq.headFormed, hi, hs, ht] <;> omega
  rw [runTxn_passes (dictCheck_passes hf (show (2 : Nat) ≠ 5 by decide) he ha ho)]
  have hwr : (DictReq.writes { tr := tr, op := 2, tid := tid, idx := idx, sub := sub, value := v }) = true := rfl
  have happly : ∀ x : State, x.applyWrite { tr := tr, op := 2, tid := tid, idx := idx, sub := sub, value := v } = x.writeScalar tr idx sub v :=
    fun _ => rfl
  rw [if_pos hwr]
  unfold State.writeTxn
  cases hr : recordsFirst idx
  · simp only [Bool.and_false, Bool.false_eq_true, if_false, happly, hx, hk, hd]
    rw [recordWrite_off _ _ hl']
    rfl
  · simp only [Bool.and_true, beq_self_eq_true, if_true, happly]
    rw [recordWrite_off _ _ hl]
    simp only [hx, hk, hd]
    rfl

/-- The two entries of chapter 15 that hold the value written. -/
theorem writeScalar_holds {s : State} (tr : Transport) {idx sub v : Nat} (hs : sub < 256) (hv : v < 2 ^ 64)
    (hk : entryKey idx sub = Key.INT_EVENT_ROUTE ∨ entryKey idx sub = Key.COM_HEARTBEAT) :
    (s.writeScalar tr idx sub v).1.get (entryKey idx sub) = v := by
  rcases hk with hk | hk
  · obtain ⟨rfl, rfl⟩ : idx = 0x2102 ∧ sub = 1 := by
      unfold entryKey Key.INT_EVENT_ROUTE at hk
      omega
    show (s.put (entryKey 0x2102 1) v).get (entryKey 0x2102 1) = v
    rw [get_put_self, Nat.mod_eq_of_lt hv]
  · obtain ⟨rfl, rfl⟩ : idx = 0x1001 ∧ sub = 6 := by
      unfold entryKey Key.COM_HEARTBEAT at hk
      omega
    show (s.put (entryKey 0x1001 6) v).get (entryKey 0x1001 6) = v
    rw [get_put_self, Nat.mod_eq_of_lt hv]

/-- The entry that an index and subindex name is the build's. -/
theorem entry_opened (s : State) (tr : Transport) (v idx sub : Nat) : (s.opened tr v).entry idx sub = s.entry idx sub := by
  cases tr <;> rfl

/-- WRITE_SCALAR opens its request and runs its transaction. -/
theorem writeScalarOp_request {tr : Transport} {s : State} (tid idx sub v : Nat) (h : hostReady tr s = true) :
    writeScalarOp tr 0 tid idx sub v s.fresh =
      taken tr ((s.opened tr v).runTxn { tr := tr, op := 2, tid := tid, idx := idx, sub := sub, value := v }).2
        ((s.opened tr v).runTxn { tr := tr, op := 2, tid := tid, idx := idx, sub := sub, value := v }).1 := by
  obtain ⟨-, hbusy, hsends⟩ := hostReady_parts h
  cases tr with
  | cp =>
    exact request_idle (s := s.fresh.putArg v) (r := { tr := .cp, op := 2, tid := tid, idx := idx, sub := sub, value := v }) hbusy
      (fun h => nomatch h) rfl
  | can =>
    exact request_idle (s := s.fresh) (r := { tr := .can, op := 2, tid := tid, idx := idx, sub := sub, value := v }) hbusy hsends rfl

/-- Settles O27: a write that every check passes is the entry's write. -/
theorem dictionaryWrites : Obligations.DictionaryWrites := by
  intro tr s tid idx sub v e hh ht hi hs he ha ho hk hd hx hq hq'
  have hrun := writeScalarOp_request tid idx sub v.toNat hh
  rw [runTxn_write ht hi hs v.isLt ((entry_opened ..).trans he) ha ho hk hd hx (opened_rplState tr _ hq) hq'] at hrun
  have hlive := (hostReady_parts hh).1
  refine ⟨(hosted_of_ready hh _).trans (congrArg _ hrun), ?_, writeScalar_holds tr hs v.isLt⟩
  have hclock : s.clocked = true := by
    simp only [State.live, Bool.and_eq_true, beq_iff_eq, Bool.not_eq_true'] at hlive
    simp [State.clocked, hlive]
  have hlive' : s.fresh.live = true := hlive
  show Host.Outcome.next (actTime _ s) = _
  unfold actTime
  rw [if_pos hclock]
  refine congrArg _ (Eq.trans ?_ hrun)
  exact if_pos hlive'

end Sys2Proof.Machine

/-! SUPPORT. Reads of the dictionary, and CAPTURE and COMMIT of DOMAIN bytes (R374). -/

namespace Sys2Proof.Machine

open Sys2Proof

/-! ### The state in which a read runs -/

section Heard
variable (tr : Transport) (s : State)

theorem heard_keepsRegs : keepsRegs canKeys s (heard tr s) := by
  cases tr with
  | cp => exact fun _ _ => rfl
  | can => exact opened_keepsRegs s .can 0

theorem onlyDict_heard : onlyDict s (heard tr s) := by cases tr <;> rfl

theorem heard_dom : (heard tr s).dom = s.dom := by cases tr <;> rfl

theorem heard_entry (idx sub : Nat) : (heard tr s).entry idx sub = s.entry idx sub := by cases tr <;> rfl

/-- A request's own argument word is none of what a read answers. -/
theorem opened_readDomain (v k o n : Nat) : (s.opened tr v).readDomain tr k o n = (heard tr s).readDomain tr k o n := by
  cases tr <;> rfl

theorem opened_entryLen (v k : Nat) (e : Entry) : (s.opened tr v).entryLen tr k e = (heard tr s).entryLen tr k e := by cases tr <;> rfl

/-- The transfer buffers stand when a request is heard. -/
theorem heard_tport : ((heard tr s).tport tr).rbuf = (s.tport tr).rbuf ∧ ((heard tr s).tport tr).wbuf = (s.tport tr).wbuf := by
  cases tr <;> exact ⟨rfl, rfl⟩

theorem opened_tport (v : Nat) :
    ((s.opened tr v).tport tr).rbuf = (s.tport tr).rbuf ∧ ((s.opened tr v).tport tr).wbuf = (s.tport tr).wbuf := by
  cases tr <;> exact ⟨rfl, rfl⟩
end Heard

/-- The buffers of a transport are in canonical form. -/
theorem buffered_tport {s : State} (h : buffered s) (tr : Transport) :
    Sparse.canonical (fun _ => 0) (s.tport tr).rbuf = true ∧ Sparse.canonical (fun _ => 0) (s.tport tr).wbuf = true := by
  obtain ⟨hcr, hcw, hnr, hnw⟩ := h
  cases tr
  · exact ⟨hcr, hcw⟩
  · exact ⟨hnr, hnw⟩

section PutRead
variable {s : State} (tr : Transport) (bs : Bytes)

theorem onlyDict_putRead (s : State) : onlyDict s (s.putRead tr bs) := by cases tr <;> rfl

theorem putRead_regs (s : State) : (s.putRead tr bs).regs = s.regs := by cases tr <;> rfl

theorem putRead_dom (s : State) : (s.putRead tr bs).dom = s.dom := by cases tr <;> rfl

/-- Bytes put into a read buffer stand there. -/
theorem rbuf_putRead (h : Sparse.canonical (fun _ => 0) (s.tport tr).rbuf = true) :
    bufBytes ((s.putRead tr bs).tport tr).rbuf 0 bs.length = bs := by
  cases tr
  · exact memRead_writeDflt_self _ 0 bs h
  · exact memRead_writeDflt_self _ 0 bs h

end PutRead

/-! ### Requests that read -/

section Reads
variable {tr : Transport} {s : State} {tid idx sub : Nat} {e : Entry}

/-- A read of one entry is well formed. -/
theorem formed_of_parts {r : DictReq} (hb : r.bad = false) (hop : r.op = 1 ∨ r.op = 2 ∨ r.op = 3 ∨ r.op = 4 ∨ r.op = 6)
    (ht : r.tid < 256) (hi : r.idx < 65536) (hs : r.sub < 256) (ho : r.offset < 2 ^ 32) (hl : r.length < 2 ^ 32) (hv : r.value < 2 ^ 64)
    (hc : r.count = 0) : r.formed = true := by
  obtain ⟨tr, op, bad, tid, idx, sub, count, offset, length, value, sels⟩ := r
  dsimp only at *
  subst hc hb
  have hops : ([1, 2, 3, 4, 5, 6].contains op && [1, 2, 3, 4, 5, 6, 0x10, 0x11].contains op) = true := by
    rcases hop with rfl | rfl | rfl | rfl | rfl <;> rfl
  rw [Bool.and_eq_true] at hops
  unfold DictReq.formed DictReq.headFormed
  cases tr
  · simp only [hops.1, ht, hi, hs, ho, hl, hv]
    rfl
  · simp only [hops.2, ht, hi, hs, ho, hl, hv]
    rfl

/-- A request runs in the state that has heard it. -/
theorem request_heard {r : DictReq} (h : hostReady tr s = true) (hr : r.tr = tr) (hop : (r.op == 0x10 || r.op == 0x11) = false) :
    s.fresh.request r = taken tr ((heard tr s).runTxn r).2 ((heard tr s).runTxn r).1 := by
  obtain ⟨-, hbusy, hsends⟩ := hostReady_parts h
  subst hr
  have := request_idle (s := s.fresh) (r := r) (by rw [← hbusy]; cases r.tr <;> rfl) (fun h => hsends h) hop
  rw [this]
  have hheard : s.fresh.heardOn r.tr = heard r.tr s := by cases r.tr <;> rfl
  rw [hheard]

/-- READ_SCALAR of an entry that may be read. -/
theorem readScalar_next (hh : hostReady tr s = true) (ht : tid < 256) (hi : idx < 65536) (hs : sub < 256) (he : s.entry idx sub = some e)
    (hd : e.isDomain = false) (ha : e.acc ≠ 3) :
    exec (.readScalar tr 0 tid idx sub) s = .next (taken tr
      { op := 1, tid := tid, idx := idx, sub := sub, value := some (BitVec.ofNat 64 ((heard tr s).readScalar tr idx sub e)),
        tail := zeros 8 ++ le 8 ((heard tr s).readScalar tr idx sub e) } (heard tr s)) := by
  have hent : (heard tr s).entry idx sub = some e := (heard_entry ..).trans he
  have hc : (heard tr s).dictCheck { tr := tr, op := 1, tid := tid, idx := idx, sub := sub } = none :=
    dictCheck_passes (formed_of_parts rfl (.inl rfl) ht hi hs (Nat.two_pow_pos _) (Nat.two_pow_pos _) (Nat.two_pow_pos _) rfl) (show (1 : Nat) ≠ 5 by decide) hent
      (by simp [accessFault, ha]) (by simp [State.oneCheck, hd, DictReq.writes])
  refine (hosted_of_ready hh _).trans (congrArg _ ?_)
  refine (request_heard (r := { tr := tr, op := 1, tid := tid, idx := idx, sub := sub }) hh rfl rfl).trans ?_
  rw [runTxn_passes hc]
  dsimp only
  rw [hent]
  rfl

/-- DESCRIBE of an entry. -/
theorem describe_next (hh : hostReady tr s = true) (ht : tid < 256) (hi : idx < 65536) (hs : sub < 256) (he : s.entry idx sub = some e) :
    exec (.describe tr 0 tid idx sub) s = .next (taken tr
      { op := 6, tid := tid, idx := idx, sub := sub,
        value := some (BitVec.ofNat 64 ((heard tr s).entryLen tr (entryKey idx sub) e <<< 32 ||| e.acc <<< 8 ||| e.ty)),
        tail := le 1 e.ty ++ le 1 e.acc ++ zeros 2 ++ le 4 ((heard tr s).entryLen tr (entryKey idx sub) e) } (heard tr s)) := by
  have hent : (heard tr s).entry idx sub = some e := (heard_entry ..).trans he
  have hc : (heard tr s).dictCheck { tr := tr, op := 6, tid := tid, idx := idx, sub := sub } = none :=
    dictCheck_passes (formed_of_parts rfl (by simp) ht hi hs (Nat.two_pow_pos _) (Nat.two_pow_pos _) (Nat.two_pow_pos _) rfl) (show (6 : Nat) ≠ 5 by decide) hent
      (by simp [accessFault]) (by simp [State.oneCheck, DictReq.writes])
  refine (hosted_of_ready hh _).trans (congrArg _ ?_)
  refine (request_heard (r := { tr := tr, op := 6, tid := tid, idx := idx, sub := sub }) hh rfl rfl).trans ?_
  rw [runTxn_passes hc]
  dsimp only
  rw [hent]
  rfl

/-- A LIST_READ of one entry that may be read puts its value into the read buffer. -/
theorem runTxn_list {u : State} {r : DictReq} {x : Selector} (hop : r.op = 5) (hb : r.bad = false) (ht : r.tid < 256) (hi : r.idx < 65536)
    (hs : r.sub < 256) (ho : r.offset = 0) (hl : r.length = 0) (hv : r.value = 0) (hc : r.count = 1) (hx : r.sels.take 1 = [x])
    (hf : selFormed x = true) (he : u.entry x.idx x.sub = some e) (hd : e.isDomain = false) (ha : e.acc ≠ 3) :
    u.runTxn r = (u.putRead r.tr (le 8 (u.readScalar r.tr x.idx x.sub e)), r.txn) := by
  obtain ⟨tr, op, bad, tid, idx, sub, count, offset, length, value, sels⟩ := r
  dsimp only at *
  subst hop hb ho hl hv hc
  have hformed : (DictReq.formed { tr := tr, op := 5, bad := false, tid := tid, idx := idx, sub := sub, count := 1, sels := sels }) = true := by
    unfold DictReq.formed DictReq.headFormed
    cases tr
    · simp only [ht, hi, hs, hx, List.all_cons, hf]
      rfl
    · simp only [ht, hi, hs, hx, List.all_cons, hf]
      rfl
  have hnames : (DictReq.names { tr := tr, op := 5, bad := false, tid := tid, idx := idx, sub := sub, count := 1, sels := sels }) =
      [(x.idx, x.sub)] := by
    simp [DictReq.names, hx]
  have hacc : accessFault 5 e = none := by simp [accessFault, ha, hd]
  have hcheck : u.dictCheck { tr := tr, op := 5, bad := false, tid := tid, idx := idx, sub := sub, count := 1, sels := sels } = none := by
    unfold State.dictCheck
    rw [hnames]
    simp [hformed, firstAt, he, hacc]
  rw [runTxn_passes hcheck, hnames]
  simp [DictReq.writes, State.listBytes, he]

/-- CP_LIST with an entry's selector in its first location (Table 15.5). -/
def State.selPut (s : State) (idx sub : Nat) : State := s.putSel 0 (BitVec.ofNat 64 (selWord { idx := idx, sub := sub }))

/-- The first location of CP_LIST as a selector written there reads (Table 15.5). -/
theorem listSels_selPut (s : State) (hi : idx < 65536) (hs : sub < 256) :
    (s.selPut idx sub).listSels.take 1 = [{ idx := idx, sub := sub }] := by
  have hw : selWord { idx := idx, sub := sub } = idx * 2 ^ 48 + sub * 2 ^ 40 := by
    show idx <<< 48 ||| sub <<< 40 ||| 0 = _
    rw [Nat.or_zero, shiftLeft_or (by rw [Nat.shiftLeft_eq]; omega), Nat.shiftLeft_eq]
  have hget : Sparse.get? (s.selPut idx sub).win.list 0 =
      some (BitVec.ofNat 64 (selWord { idx := idx, sub := sub })) := (get?_put ..).trans (if_pos rfl)
  show [({ idx := bits _ 48 16, sub := bits _ 40 8, low := bits _ 0 40 } : Selector)] = _
  rw [hget, hw, Option.getD_some, BitVec.toNat_ofNat, Nat.mod_eq_of_lt (by omega)]
  simp only [bits, Nat.shiftRight_eq_div_pow]
  have h1 : (idx * 2 ^ 48 + sub * 2 ^ 40) / 2 ^ 48 % 2 ^ 16 = idx := by omega
  have h2 : (idx * 2 ^ 48 + sub * 2 ^ 40) / 2 ^ 40 % 2 ^ 8 = sub := by omega
  have h3 : (idx * 2 ^ 48 + sub * 2 ^ 40) / 2 ^ 0 % 2 ^ 40 = 0 := by omega
  rw [h1, h2, h3]

/-- What a read leaves whose bytes stand in the read buffer, from a state that moved the dictionary's part alone. -/
theorem read_leaves {u : State} {x : Txn} {bs : Bytes} (hb : Sparse.canonical (fun _ => 0) (u.tport tr).rbuf = true)
    (hr : keepsRegs canKeys s u) (hd : u.dom = s.dom) (ho : onlyDict s u) :
    bufBytes ((taken tr x (u.putRead tr bs)).tport tr).rbuf 0 bs.length = bs ∧ keepsRegs canKeys s (taken tr x (u.putRead tr bs)) ∧
      (taken tr x (u.putRead tr bs)).dom = s.dom ∧ onlyDict s (taken tr x (u.putRead tr bs)) := by
  refine ⟨?_, ?_, ?_, ?_⟩
  · rw [tport_taken]
    exact rbuf_putRead tr bs hb
  · intro k hk
    rw [get_taken, get_of_regs (putRead_regs ..)]
    exact hr k hk
  · rw [taken_dom, putRead_dom, hd]
  · exact (ho.trans (onlyDict_putRead ..)).trans (onlyDict_taken ..)

/-- LIST_READ of one entry. -/
theorem listRead_next (hh : hostReady tr s = true) (hb : buffered s) (ht : tid < 256) (hi : idx < 65536) (hs : sub < 256)
    (he : s.entry idx sub = some e) (hd : e.isDomain = false) (ha : e.acc ≠ 3) :
    ∃ t, exec (.listRead tr 0 tid 1 [{ idx := idx, sub := sub }]) s = .next t ∧ accepted tr t = true ∧
      bufBytes (t.tport tr).rbuf 0 8 = le 8 ((heard tr s).readScalar tr idx sub e) ∧ keepsRegs canKeys s t ∧ t.dom = s.dom ∧
      onlyDict s t := by
  have hsel : selFormed { idx := idx, sub := sub } = true := by simp [selFormed, hi, hs]
  have hlen : (le 8 ((heard tr s).readScalar tr idx sub e)).length = 8 := le_length ..
  obtain ⟨hrb, -⟩ := buffered_tport hb tr
  obtain ⟨-, hbusy, hsends⟩ := hostReady_parts hh
  cases tr with
  | cp =>
    have hrun := runTxn_list (u := s.fresh.selPut idx sub) (r := { tr := .cp, op := 5, tid := tid, count := 1, sels := (s.fresh.selPut idx sub).listSels }) rfl rfl ht
      (show (0 : Nat) < 65536 by decide) (show (0 : Nat) < 256 by decide) rfl rfl rfl rfl (listSels_selPut _ hi hs) hsel he hd ha
    have hval : (s.fresh.selPut idx sub).readScalar .cp idx sub e = (heard .cp s).readScalar .cp idx sub e := rfl
    obtain ⟨h1, h2, h3, h4⟩ := read_leaves (tr := .cp) (s := s) (u := s.fresh.selPut idx sub)
      (x := { op := 5, tid := tid }) (bs := le 8 ((heard .cp s).readScalar .cp idx sub e)) hrb (fun _ _ => rfl) rfl rfl
    rw [hlen] at h1
    refine ⟨_, (hosted_of_ready hh _).trans (congrArg _ ?_), accepted_taken _ _ rfl rfl, h1, h2, h3, h4⟩
    have hreq := request_idle (s := s.fresh.selPut idx sub) (r := { tr := .cp, op := 5, tid := tid, count := 1, sels := (s.fresh.selPut idx sub).listSels }) hbusy (fun h => nomatch h) rfl
    refine Eq.trans (b := (s.fresh.selPut idx sub).request { tr := .cp, op := 5, tid := tid, count := 1, sels := (s.fresh.selPut idx sub).listSels }) rfl (hreq.trans ?_)
    have hon : (s.fresh.selPut idx sub).heardOn .cp = s.fresh.selPut idx sub := rfl
    rw [hon, hrun, hval]
    rfl
  | can =>
    have hrun := runTxn_list (u := heard .can s) (r := { tr := .can, op := 5, tid := tid, count := 1, sels := [{ idx := idx, sub := sub }] })
      rfl rfl ht (show (0 : Nat) < 65536 by decide) (show (0 : Nat) < 256 by decide) rfl rfl rfl rfl rfl hsel he hd ha
    obtain ⟨h1, h2, h3, h4⟩ := read_leaves (tr := .can) (s := s) (u := heard .can s) (x := { op := 5, tid := tid })
      (bs := le 8 ((heard .can s).readScalar .can idx sub e)) hrb (heard_keepsRegs .can s) rfl rfl
    rw [hlen] at h1
    refine ⟨_, (hosted_of_ready hh _).trans (congrArg _ ?_), accepted_taken _ _ rfl rfl, h1, h2, h3, h4⟩
    refine (request_heard (tr := .can) (r := { tr := .can, op := 5, tid := tid, count := 1, sels := [{ idx := idx, sub := sub }] }) hh rfl rfl).trans ?_
    rw [hrun]
    rfl

/-- Settles O26. -/
theorem dictionaryReads : Obligations.DictionaryReads := by
  intro tr s tid idx sub e hh hb ht hi hs he
  exact ⟨readScalar_next hh ht hi hs he, describe_next hh ht hi hs he, listRead_next hh hb ht hi hs he⟩

end Reads

end Sys2Proof.Machine

/-! SUPPORT. CAPTURE and COMMIT of DOMAIN bytes, and the packet a host reads (R258, R374). -/

namespace Sys2Proof.Machine

open Sys2Proof

section Capture
variable {tr : Transport} {s : State} {tid idx sub o n : Nat} {e : Entry}

/-- CAPTURE and COMMIT open their request with their span and run its transaction. -/
theorem captureOp_request (h : hostReady tr s = true) : captureOp tr 0 tid idx sub o n s.fresh =
    taken tr ((s.opened tr (o <<< 32 ||| n)).runTxn { tr := tr, op := 3, tid := tid, idx := idx, sub := sub, offset := o, length := n }).2
      ((s.opened tr (o <<< 32 ||| n)).runTxn { tr := tr, op := 3, tid := tid, idx := idx, sub := sub, offset := o, length := n }).1 := by
  obtain ⟨-, hbusy, hsends⟩ := hostReady_parts h
  cases tr with
  | cp =>
    exact request_idle (s := s.fresh.putArg (o <<< 32 ||| n))
      (r := { tr := .cp, op := 3, tid := tid, idx := idx, sub := sub, offset := o, length := n }) hbusy (fun h => nomatch h) rfl
  | can =>
    exact request_idle (s := s.fresh) (r := { tr := .can, op := 3, tid := tid, idx := idx, sub := sub, offset := o, length := n }) hbusy hsends rfl

theorem commitOp_request (h : hostReady tr s = true) : commitOp tr 0 tid idx sub o n s.fresh =
    taken tr ((s.opened tr (o <<< 32 ||| n)).runTxn { tr := tr, op := 4, tid := tid, idx := idx, sub := sub, offset := o, length := n }).2
      ((s.opened tr (o <<< 32 ||| n)).runTxn { tr := tr, op := 4, tid := tid, idx := idx, sub := sub, offset := o, length := n }).1 := by
  obtain ⟨-, hbusy, hsends⟩ := hostReady_parts h
  cases tr with
  | cp =>
    exact request_idle (s := s.fresh.putArg (o <<< 32 ||| n))
      (r := { tr := .cp, op := 4, tid := tid, idx := idx, sub := sub, offset := o, length := n }) hbusy (fun h => nomatch h) rfl
  | can =>
    exact request_idle (s := s.fresh) (r := { tr := .can, op := 4, tid := tid, idx := idx, sub := sub, offset := o, length := n }) hbusy hsends rfl

/-- A CAPTURE that passes the checks. -/
theorem runTxn_capture {u : State} {r : DictReq} (h : u.dictCheck r = none) (hop : r.op = 3) : u.runTxn r = u.captureTxn r := by
  rw [runTxn_passes h]
  simp [DictReq.writes, hop]

/-- A CAPTURE within its entry's length passes the checks. -/
theorem dictCheck_capture {u : State} (ht : tid < 256) (hi : idx < 65536) (hs : sub < 256) (he : u.entry idx sub = some e)
    (hd : e.isDomain = true) (ha : e.acc ≠ 3) (hn : n ≤ 4096) (hlen : o + n ≤ u.entryLen tr (entryKey idx sub) e) (ho : o < 2 ^ 32) :
    u.dictCheck { tr := tr, op := 3, tid := tid, idx := idx, sub := sub, offset := o, length := n } = none := by
  refine dictCheck_passes (e := e) (formed_of_parts rfl (by simp) ht hi hs ho (show n < 2 ^ 32 by omega) (Nat.two_pow_pos _) rfl)
    (show (3 : Nat) ≠ 5 by decide) he (by simp [accessFault, ha]) ?_
  have h1 : ¬ u.entryLen tr (entryKey idx sub) e < o + n := by omega
  have h2 : ¬ 4096 < n := by omega
  simp [State.oneCheck, hd, h1, h2, DictReq.writes]

/-- CAPTURE of bytes of an entry other than PQ_READ. -/
theorem capture_next (hh : hostReady tr s = true) (hb : buffered s) (ht : tid < 256) (hi : idx < 65536) (hs : sub < 256)
    (he : s.entry idx sub = some e) (hd : e.isDomain = true) (hn : n ≤ 4096) (hlen : o + n ≤ e.len) (hle : e.len < 2 ^ 20) (ha : e.acc ≠ 3)
    (hk : entryKey idx sub ≠ Dom.PQ_READ) :
    ∃ t, exec (.capture tr 0 tid idx sub o n) s = .next t ∧ accepted tr t = true ∧
      (((heard tr s).readDomain tr (entryKey idx sub) o n).length = n →
        bufBytes (t.tport tr).rbuf 0 n = (heard tr s).readDomain tr (entryKey idx sub) o n) ∧
      keepsRegs canKeys s t ∧ t.dom = s.dom ∧ onlyDict s t := by
  have hc := dictCheck_capture (tr := tr) (tid := tid) (u := s.opened tr (o <<< 32 ||| n)) ht hi hs ((entry_opened ..).trans he) hd ha hn
    (by rw [State.entryLen, if_neg hk]; exact hlen) (by omega)
  have hrun : (s.opened tr (o <<< 32 ||| n)).runTxn { tr := tr, op := 3, tid := tid, idx := idx, sub := sub, offset := o, length := n } =
      ((s.opened tr (o <<< 32 ||| n)).putRead tr ((heard tr s).readDomain tr (entryKey idx sub) o n), { op := 3, tid := tid, idx := idx, sub := sub }) := by
    rw [runTxn_capture hc rfl, ← opened_readDomain tr s (o <<< 32 ||| n)]
    exact if_neg hk
  have hop := captureOp_request (tid := tid) (idx := idx) (sub := sub) (o := o) (n := n) hh
  rw [hrun] at hop
  obtain ⟨h1, h2, h3, h4⟩ := read_leaves (tr := tr) (s := s) (u := s.opened tr (o <<< 32 ||| n))
    (x := { op := 3, tid := tid, idx := idx, sub := sub }) (bs := (heard tr s).readDomain tr (entryKey idx sub) o n)
    (by rw [(opened_tport tr s _).1]; exact (buffered_tport hb tr).1) (opened_keepsRegs s tr _) (opened_dom ..) (onlyDict_opened ..)
  refine ⟨_, (hosted_of_ready hh _).trans (congrArg _ hop), accepted_taken _ _ rfl rfl, fun hl => ?_, h2, h3, h4⟩
  rw [hl] at h1
  exact h1

/-- The expected step digest of a context may be written in any state. -/
theorem druExpect_entry : ∀ c < 8, entryAt 0x7807 (c + 1) = some ⟨0x7807, 0x7807, 0x01, 0x08, 15, 2, 40⟩ := by decide

theorem writeDomain_druExpect {c : Nat} (hc : c < 8) (u : State) (o : Nat) (bs : Bytes) :
    u.writeDomain tr (entryKey 0x7807 (c + 1)) o bs = (u.domPut (Dom.DRU_EXPECT c) o bs, none) := by
  interval_cases c <;> rfl

/-- COMMIT of the expected step digest of a context. -/
theorem commit_druExpect {c : Nat} (hh : hostReady tr s = true) (hq : s.get Key.RPL_STATE ≠ 1) (hm : Memory.wf s = true) (ht : tid < 256)
    (hs : sub < 256) (h0 : 0 < n) (hn : n ≤ 4096) (he : s.entry idx sub = some e) (hlen : o + n ≤ e.len) (hc : c < 8)
    (hk : entryKey idx sub = Dom.DRU_EXPECT c) :
    ∃ t, exec (.commit tr 0 tid idx sub o n) s = .next t ∧ accepted tr t = true ∧
      t.domBytes (Dom.DRU_EXPECT c) o n = bufBytes (s.tport tr).wbuf 0 n ∧ keepsRegs canKeys s t ∧
      keepsBytes (Dom.DRU_EXPECT c * domSpan + o) n s.dom t.dom ∧ onlyDict s t := by
  obtain ⟨rfl, rfl⟩ : idx = 0x7807 ∧ sub = c + 1 := by
    unfold entryKey Dom.DRU_EXPECT at hk
    omega
  have hentry : (s.opened tr (o <<< 32 ||| n)).entry 0x7807 (c + 1) = some ⟨0x7807, 0x7807, 0x01, 0x08, 15, 2, 40⟩ :=
    (if_neg (by omega)).trans (druExpect_entry c hc)
  rw [entry_opened, he] at hentry
  obtain rfl := Option.some.inj hentry
  generalize hv : o <<< 32 ||| n = v at *
  have hlen' : ¬ 40 < o + n := Nat.not_lt.2 hlen
  have hone : (s.opened tr v).oneCheck { tr := tr, op := 4, tid := tid, idx := 0x7807, sub := c + 1, offset := o, length := n }
      ⟨0x7807, 0x7807, 0x01, 0x08, 15, 2, 40⟩ = none := by
    have hkey : ¬ entryKey 0x7807 (c + 1) = Dom.PQ_READ := by
      unfold entryKey Dom.PQ_READ
      omega
    have h4096 : ¬ 4096 < n := by omega
    simp [State.oneCheck, State.entryLen, hkey, Entry.isDomain, hlen', h4096, State.stateOk]
  have hcheck : (s.opened tr v).dictCheck { tr := tr, op := 4, tid := tid, idx := 0x7807, sub := c + 1, offset := o, length := n } = none :=
    dictCheck_passes (formed_of_parts rfl (by simp) ht (show 0x7807 < 65536 by decide) hs (show o < 2 ^ 32 by omega) (show n < 2 ^ 32 by omega)
      (Nat.two_pow_pos _) rfl) (show (4 : Nat) ≠ 5 by decide) ((entry_opened ..).trans he) rfl hone
  have hbytes : (s.opened tr v).commitBytes { tr := tr, op := 4, tid := tid, idx := 0x7807, sub := c + 1, offset := o, length := n } =
      bufBytes (s.tport tr).wbuf 0 n := by
    show bufBytes ((s.opened tr v).tport tr).wbuf 0 (min 4096 n) = _
    rw [(opened_tport tr s v).2, Nat.min_eq_right hn]
  generalize hb : bufBytes (s.tport tr).wbuf 0 n = bs at *
  have hbl : bs.length = n := hb ▸ memRead_length ..
  have happly : (s.opened tr v).applyWrite { tr := tr, op := 4, tid := tid, idx := 0x7807, sub := c + 1, offset := o, length := n } =
      ((s.opened tr v).domPut (Dom.DRU_EXPECT c) o bs, none) := by
    unfold State.applyWrite
    rw [if_neg (show ¬ (4 : Nat) = 2 by decide), if_neg (show ¬ n = 0 by omega), hbytes]
    exact writeDomain_druExpect hc ..
  have hoff : ((s.opened tr v).domPut (Dom.DRU_EXPECT c) o bs).get Key.RPL_STATE ≠ 1 := opened_rplState tr v hq
  have hop := commitOp_request (tid := tid) (idx := 0x7807) (sub := c + 1) (o := o) (n := n) hh
  rw [hv, runTxn_passes hcheck, if_pos (show DictReq.writes _ = true from rfl), writeTxn_commit rfl happly, recordWrite_off _ _ hoff] at hop
  refine ⟨_, (hosted_of_ready hh _).trans (congrArg _ hop), accepted_taken _ _ rfl rfl, ?_, ?_, ?_, ?_⟩
  · rw [domBytes_taken, ← hbl]
    exact domBytes_domPut_self (by rw [opened_dom]; exact dom_canonical hm) ..
  · exact keepsRegs_taken (ks := []) (v := v) _ (fun _ _ => rfl)
  · rw [taken_dom, ← opened_dom s tr v, ← hbl]
    exact keepsBytes_domPut _ _ _ _
  · exact onlyDict_host (v := v) _ (onlyDict_domPut ..)

end Capture

/-- Settles O29. -/
theorem dictionaryTransfers : Obligations.DictionaryTransfers := by
  intro tr s tid idx sub o n e hh hb hm ht hi hs he hd h0 hn hlen hle
  exact ⟨capture_next hh hb ht hi hs he hd hn hlen hle, fun c hc hk hq => commit_druExpect hh hq hm ht hs h0 hn he hlen hc hk⟩

/-! ### PQ_READ (R258) -/

section QueueRead
variable {tr : Transport} {s : State} {q n : Nat}

/-- A visible packet's words. -/
theorem pqHead_length (h : s.pqHeadLen q = some n) : (s.pqHead q).length = 128 * n := by
  unfold State.pqHead
  rw [h]
  simp [List.length_flatMap, State.pqBytes, Nat.mul_comm]

theorem queue_putRead (s : State) (bs : Bytes) (r : Nat) : (s.putRead tr bs).queue r = s.queue r := by cases tr <;> rfl

/-- A queue replaced leaves the transports. -/
theorem tport_taken_setQueue (s : State) (x : Txn) (y : Queue) : (taken tr x (s.setQueue q y)).tport tr = (taken tr x s).tport tr := by
  cases tr <;> rfl

/-- What stands when a queue has been read into the read buffer. -/
theorem queueRead_leaves (u : State) (x : Txn) (bs : Bytes) (y : Queue) :
    (taken tr x ((u.putRead tr bs).setQueue q y)).regs = u.regs ∧ (taken tr x ((u.putRead tr bs).setQueue q y)).qstore = u.qstore ∧
      (taken tr x ((u.putRead tr bs).setQueue q y)).env = u.env ∧ (taken tr x ((u.putRead tr bs).setQueue q y)).dom = u.dom := by
  obtain ⟨c, d, ep⟩ : ∃ c d, u.putRead tr bs = { u with cp := c, can := d } := by cases tr <;> exact ⟨_, _, rfl⟩
  obtain ⟨c', d', et⟩ := taken_moves tr x ((u.putRead tr bs).setQueue q y)
  rw [et, ep]
  exact ⟨rfl, rfl, rfl, rfl⟩

/-- The packet at READ captured, and READ past it. -/
theorem captureTxn_pqRead {u : State} {tid : Nat} (hq : u.hostQueue tr = some q) (hsel : u.get (trKey tr Key.PQ_SELECT) = q)
    (hn : u.pqHeadLen q = some n) (h0 : 0 < n) :
    u.captureTxn { tr := tr, op := 3, tid := tid, idx := 0x5102, sub := 2, offset := 0, length := 128 * n } =
      ((u.putRead tr (u.pqHead q)).setQueue q { u.queue q with read := ptrAdd (u.queue q).read n }, { op := 3, tid := tid, idx := 0x5102, sub := 2 }) := by
  have hread : u.readDomain tr Dom.PQ_READ 0 (128 * n) = u.pqHead q := by
    show Machine.sub (u.pqHead (u.get (trKey tr Key.PQ_SELECT))) 0 (128 * n) = _
    rw [hsel, ← pqHead_length hn, sub_self]
  have hadvance : (u.putRead tr (u.pqHead q)).pqAdvance q =
      (u.putRead tr (u.pqHead q)).setQueue q { u.queue q with read := ptrAdd (u.queue q).read n } := by
    have hlen : (u.putRead tr (u.pqHead q)).pqHeadLen q = some n := by
      rw [← hn]
      cases tr <;> rfl
    have hqueue : (u.putRead tr (u.pqHead q)).queue q = u.queue q := by cases tr <;> rfl
    rw [State.pqAdvance, hlen, hqueue]
  unfold State.captureTxn
  dsimp only
  rw [if_pos (show entryKey 0x5102 2 = Dom.PQ_READ from rfl), hq]
  dsimp only
  rw [if_neg (by omega)]
  show ((u.putRead tr (u.readDomain tr Dom.PQ_READ 0 (128 * n))).pqAdvance q, _) = _
  rw [hread, hadvance]
  rfl

/-- The entry of PQ_READ. -/
theorem pqRead_entry (s : State) : s.entry 0x5102 2 = some ⟨0x5102, 0x5102, 0x02, 0x02, 15, 1, 0⟩ := by
  have hat : entryAt 0x5102 2 = some ⟨0x5102, 0x5102, 0x02, 0x02, 15, 1, 0⟩ := by decide
  exact (if_neg (by omega)).trans hat

/-- PQ_READ by the host. -/
theorem pqRead_next (hh : hostReady tr s = true) (hb : buffered s) (hsel : s.get (trKey tr Key.PQ_SELECT) = q)
    (hk : pqKind (s.pqDesc q) ≠ 0) (hc : pqConsumer (s.pqDesc q) = 0) (hn : (heard tr s).pqHeadLen q = some n) (h0 : 0 < n) (h32 : n ≤ 32) :
    ∃ t, exec (.pqRead tr) s = .next t ∧ accepted tr t = true ∧
      t.queue q = { s.queue q with read := ptrAdd (s.queue q).read n } ∧ (∀ r, r ≠ q → t.queue r = s.queue r) ∧
      bufBytes (t.tport tr).rbuf 0 (128 * n) = (heard tr s).pqHead q ∧ keepsRegs canKeys s t ∧ t.qstore = s.qstore ∧
      t.env = s.env ∧ t.dom = s.dom := by
  have hfresh : s.fresh.pqHeadLen q = some n := by
    rw [← hn]
    cases tr <;> rfl
  have hlen : min 4096 (128 * (s.fresh.pqHeadLen (s.fresh.get (trKey tr Key.PQ_SELECT))).getD 0) = 128 * n := by
    have hf : s.fresh.get (trKey tr Key.PQ_SELECT) = q := hsel
    rw [hf, hfresh, Option.getD_some]
    omega
  generalize hv : 0 <<< 32 ||| 128 * n = v
  have hsel' : (s.opened tr v).get (trKey tr Key.PQ_SELECT) = q :=
    (get_opened_of_not_mem tr v (trKey_not_mem_canKeys tr _ (by decide))).trans hsel
  have hdesc : (s.opened tr v).pqDesc q = s.pqDesc q := by cases tr <;> rfl
  have hn' : (s.opened tr v).pqHeadLen q = some n := by
    rw [← hn]
    cases tr <;> rfl
  have hhead : (s.opened tr v).pqHead q = (heard tr s).pqHead q := by cases tr <;> rfl
  have hqueue : ∀ r, (s.opened tr v).queue r = s.queue r := fun r => by cases tr <;> rfl
  have hentry : (s.opened tr v).entryLen tr (entryKey 0x5102 2) ⟨0x5102, 0x5102, 0x02, 0x02, 15, 1, 0⟩ = 128 * n := by
    show (if pqKind ((s.opened tr v).pqDesc ((s.opened tr v).get (trKey tr Key.PQ_SELECT))) = 0 then 0
      else 128 * ((s.opened tr v).pqHeadLen ((s.opened tr v).get (trKey tr Key.PQ_SELECT))).getD 0) = _
    rw [hsel', hdesc, if_neg hk, hn', Option.getD_some]
  have hcheck := dictCheck_capture (tr := tr) (tid := 0) (o := 0) (n := 128 * n) (u := s.opened tr v) (by decide) (by decide) (by decide)
    (pqRead_entry _) rfl (by decide) (by omega) (by rw [hentry]; omega) (by decide)
  have hrun := captureTxn_pqRead (tid := 0) (hostQueue_opened v hsel hk hc) hsel' hn' h0
  have hop := captureOp_request (tid := 0) (idx := 0x5102) (sub := 2) (o := 0) (n := 128 * n) hh
  rw [hv, runTxn_capture hcheck rfl, hrun, hhead] at hop
  obtain ⟨hbuf, -, -, -⟩ := read_leaves (tr := tr) (s := s) (u := s.opened tr v) (x := { op := 3, tid := 0, idx := 0x5102, sub := 2 })
    (bs := (heard tr s).pqHead q) (by rw [(opened_tport tr s v).1]; exact (buffered_tport hb tr).1) (opened_keepsRegs s tr v) (opened_dom ..)
    (onlyDict_opened ..)
  rw [← hhead, pqHead_length hn', hhead] at hbuf
  have hexec : exec (.pqRead tr) s = .next (captureOp tr 0 0 0x5102 2 0 (128 * n) s.fresh) := by
    refine (hosted_of_ready hh _).trans (congrArg _ ?_)
    show captureOp tr 0 0 0x5102 2 0 (min 4096 (128 * (s.fresh.pqHeadLen (s.fresh.get (trKey tr Key.PQ_SELECT))).getD 0)) s.fresh = _
    rw [hlen]
  have hstands : (s.opened tr v).qstore = s.qstore ∧ (s.opened tr v).env = s.env ∧ (s.opened tr v).dom = s.dom := by
    cases tr <;> exact ⟨rfl, rfl, rfl⟩
  obtain ⟨hregs', hqstore', henv', hdom'⟩ := queueRead_leaves (tr := tr) (q := q) (s.opened tr v) { op := 3, tid := 0, idx := 0x5102, sub := 2 }
    ((heard tr s).pqHead q) { (s.opened tr v).queue q with read := ptrAdd ((s.opened tr v).queue q).read n }
  refine ⟨_, hexec.trans (congrArg _ hop), accepted_taken _ _ rfl rfl, ?_, fun r hr => ?_, ?_, ?_, ?_⟩
  · rw [taken, queue_setTport, queue_setQueue_self, hqueue]
  · rw [taken, queue_setTport, queue_setQueue_ne _ _ (Ne.symm hr)]
    exact (queue_putRead ..).trans (hqueue r)
  · exact (congrArg (fun p : Port => bufBytes p.rbuf 0 (128 * n)) (tport_taken_setQueue ..)).trans hbuf
  · exact fun k hk => (get_of_regs hregs' k).trans (opened_keepsRegs s tr v k hk)
  · exact ⟨hqstore'.trans hstands.1, henv'.trans hstands.2.1, hdom'.trans hstands.2.2⟩

end QueueRead

/-- Settles O31. -/
theorem queuePacketRead : Obligations.QueuePacketRead := by
  intro tr s q n hh hb hsel hk hc hn h0 h32
  exact pqRead_next hh hb hsel hk hc hn h0 h32

end Sys2Proof.Machine

/-! SUPPORT. Writes of the placement and program banks (R93, R95, R297, R298). -/

namespace Sys2Proof.Machine

open Sys2Proof

section Bank
variable {tr : Transport} {s u : State} {idx o n ready result : Nat} {d : Bytes}

/-- What a bank's write leaves that puts the bytes and moves two registers and the running checks. -/
theorem bankCommit_next (hh : hostReady tr s = true) (hq : s.get Key.RPL_STATE ≠ 1) (hb : buffered s) (hm : Memory.wf s = true)
    (hp : plainDomain idx 0 n = true) (ha : anyState idx 0 = true) (hd : d ≠ []) (hl : d.length ≤ 4096) (ho : o + d.length ≤ n)
    (hw : (heardBytes tr o d s).writeDomain tr (entryKey idx 0) o d = (u, none))
    (hu : ∃ r p q, u = { (heardBytes tr o d s).domPut (entryKey idx 0) o d with regs := r, ptCheck := p, sfuCheck := q })
    (hr : keepsRegs [ready, result] (heardBytes tr o d s) u) (hr1 : ready ≠ Key.RPL_STATE) (hr2 : result ≠ Key.RPL_STATE) :
    ∃ t, hosted (hostCommit tr idx 0 o d) s = .next t ∧ accepted tr t = true ∧ t.regs = u.regs ∧ t.ptCheck = u.ptCheck ∧
      t.sfuCheck = u.sfuCheck ∧ t.domBytes (entryKey idx 0) o d.length = d ∧ keepsRegs (ready :: result :: canKeys) s t ∧
      keepsBytes (entryKey idx 0 * domSpan + o) d.length s.dom t.dom ∧ t.stg = s.stg ∧ t.env = s.env ∧ t.ctxs = s.ctxs := by
  have hoff : u.get Key.RPL_STATE ≠ 1 := by
    rw [hr _ (by simp [hr1.symm, hr2.symm]), get_heardBytes tr o d (by decide)]
    exact hq
  have hst : ∀ e, entryAt idx 0 = some e → (heardBytes tr o d s).stateOk idx 0 e = true := fun e he => stateOk_of_any ha _ e he
  refine ⟨_, hostCommit_next hh hb hp hst hd hl ho hw hoff, accepted_taken _ _ rfl rfl, taken_regs .., ?_⟩
  obtain ⟨p, q, et⟩ := taken_moves tr { op := 4, idx := idx, sub := 0 } u
  have hdom : u.dom = ((heardBytes tr o d s).domPut (entryKey idx 0) o d).dom := by
    obtain ⟨r, p, q, rfl⟩ := hu
    rfl
  have hbytes : u.domBytes (entryKey idx 0) o d.length = d := by
    rw [State.domBytes, hdom]
    exact domBytes_domPut_self (by rw [heardBytes_dom]; exact dom_canonical hm) _ _ _
  have hkeep : keepsBytes (entryKey idx 0 * domSpan + o) d.length s.dom u.dom := by
    rw [hdom, ← heardBytes_dom s tr o d]
    exact keepsBytes_domPut _ _ _ _
  have hfields : u.stg = s.stg ∧ u.env = s.env ∧ u.ctxs = s.ctxs := by
    obtain ⟨r, p, q, rfl⟩ := hu
    obtain ⟨r', f, c, k, w, eh⟩ := heardBytes_moves s tr o d
    rw [eh]
    exact ⟨rfl, rfl, rfl⟩
  refine ⟨by rw [et], by rw [et], (domBytes_taken ..).trans hbytes, keepsRegs_committed _ hr, by rw [taken_dom]; exact hkeep, ?_⟩
  rw [et]
  exact hfields

/-- The ready flag cleared, then a result written: what two registers hold. -/
theorem bankRegs_spec {v x y : State} {c : Nat} (hx : x.regs = v.regs) (hy : y.regs = (x.put ready 0).regs) (hne : result ≠ ready) :
    keepsRegs [ready, result] v (y.put result c) ∧ (y.put result c).get ready = 0 := by
  refine ⟨?_, ?_⟩
  · exact (keepsRegs_put_of_regs hx ready 0).trans (keepsRegs_put_of_regs hy _ _) (by simp) (by simp)
  · rw [get_put_ne _ _ hne, get_of_regs hy, get_put_self]
    rfl

/-- A write of whole words of the placement bank that is not active: a check in progress is stopped with its code (R93, R95). -/
theorem ptBankWrite_spec {v : State} {b : Nat} (ha : v.get Key.PT_ACTIVE ≠ b) (hl : d.length % 8 = 0) (ho : o % 8 = 0) (hd : d ≠ []) :
    ∃ w, v.ptBankWrite b o d = (w, none) ∧ (∃ r p q, w = { v.domPut (ptDom b) o d with regs := r, ptCheck := p, sfuCheck := q }) ∧
      keepsRegs [Key.PT_SHADOW_READY, Key.PT_CHECK_RESULT] v w ∧ w.get Key.PT_SHADOW_READY = 0 ∧ w.ptCheck = false ∧
      (v.ptCheck = true → w.get Key.PT_CHECK_RESULT = 8) := by
  have hne : d.isEmpty = false := by simpa using hd
  refine ⟨(((v.domPut (ptDom b) o d).put Key.PT_SHADOW_READY 0).stopPtCheck), ?_, ?_⟩
  · unfold State.ptBankWrite
    rw [if_neg ha, if_neg (by simp [hl, ho]), if_neg (by simp [hne])]
  · unfold State.stopPtCheck
    have hflag : ((v.domPut (ptDom b) o d).put Key.PT_SHADOW_READY 0).ptCheck = v.ptCheck := rfl
    rw [hflag]
    cases hc : v.ptCheck
    · rw [if_neg (by decide)]
      exact ⟨⟨_, _, _, rfl⟩, (keepsRegs_put_of_regs (s := v) rfl _ _).mono (by simp), get_put_self .., hc, nofun⟩
    · rw [if_pos rfl]
      obtain ⟨hkeep, hready⟩ := bankRegs_spec (v := v) (x := v.domPut (ptDom b) o d) (ready := Key.PT_SHADOW_READY) (result := Key.PT_CHECK_RESULT)
        (y := { (v.domPut (ptDom b) o d).put Key.PT_SHADOW_READY 0 with ptCheck := false }) (c := 8) rfl rfl (by decide)
      exact ⟨⟨_, _, _, rfl⟩, hkeep, hready, rfl, fun _ => get_put_self ..⟩

/-- The same of the program bank (R297, R298). -/
theorem sfuBankWrite_spec {v : State} {b : Nat} (ha : v.get Key.SFU_PROG_ACTIVE ≠ b) (hl : d.length % 8 = 0) (ho : o % 8 = 0) (hd : d ≠ []) :
    ∃ w, v.sfuBankWrite b o d = (w, none) ∧
      (∃ r p q, w = { v.domPut (if b = 0 then Dom.SFU_BANK0 else Dom.SFU_BANK1) o d with regs := r, ptCheck := p, sfuCheck := q }) ∧
      keepsRegs [Key.SFU_SHADOW_READY, Key.SFU_CHECK_RESULT] v w ∧ w.get Key.SFU_SHADOW_READY = 0 ∧ w.sfuCheck = false ∧
      (v.sfuCheck = true → w.get Key.SFU_CHECK_RESULT = 5) := by
  have hne : d.isEmpty = false := by simpa using hd
  unfold State.sfuBankWrite
  rw [if_neg ha, if_neg (by simp [hl, ho]), if_neg (by simp [hne])]
  dsimp only
  generalize (if b = 0 then Dom.SFU_BANK0 else Dom.SFU_BANK1) = k
  have hflag : ((v.domPut k o d).put Key.SFU_SHADOW_READY 0).sfuCheck = v.sfuCheck := rfl
  rw [hflag]
  cases hc : v.sfuCheck
  · rw [if_neg (by decide)]
    exact ⟨_, rfl, ⟨_, _, _, rfl⟩, (keepsRegs_put_of_regs (s := v) rfl _ _).mono (by simp), get_put_self .., hc, nofun⟩
  · rw [if_pos rfl]
    obtain ⟨hkeep, hready⟩ := bankRegs_spec (v := v) (x := v.domPut k o d) (ready := Key.SFU_SHADOW_READY) (result := Key.SFU_CHECK_RESULT)
      (y := { (v.domPut k o d).put Key.SFU_SHADOW_READY 0 with sfuCheck := false }) (c := 5) rfl rfl (by decide)
    exact ⟨_, rfl, ⟨_, _, _, rfl⟩, hkeep, hready, rfl, fun _ => get_put_self ..⟩

/-- The banks' entries: read and written in any state. -/
theorem bank_entries : ∀ b < 2, plainDomain (0x3001 + b % 2) 0 524288 = true ∧ anyState (0x3001 + b % 2) 0 = true ∧
    plainDomain (0x5C01 + b % 2) 0 16384 = true ∧ anyState (0x5C01 + b % 2) 0 = true ∧ entryKey (0x3001 + b % 2) 0 = ptDom b ∧
    entryKey (0x5C01 + b % 2) 0 = (if b = 0 then Dom.SFU_BANK0 else Dom.SFU_BANK1) := by decide

theorem writeDomain_ptBank {v : State} {b : Nat} (hb : b < 2) : v.writeDomain tr (entryKey (0x3001 + b % 2) 0) o d = v.ptBankWrite b o d := by
  interval_cases b <;> rfl

theorem writeDomain_sfuBank {v : State} {b : Nat} (hb : b < 2) : v.writeDomain tr (entryKey (0x5C01 + b % 2) 0) o d = v.sfuBankWrite b o d := by
  interval_cases b <;> rfl

end Bank

/-- Settles O24. -/
theorem bankWrites : Obligations.BankWrites := by
  intro tr s b o d hh hq hb hm hb1 hd hl h8 ho8
  obtain ⟨hp, ha, hp', ha', hk, hk'⟩ := bank_entries b (by omega)
  refine ⟨fun hact ho => ?_, fun hact ho => ?_⟩
  · obtain ⟨w, hw, hmoves, hkeep, hready, hcheck, hres⟩ := ptBankWrite_spec (v := heardBytes tr o d s) (b := b) (o := o) (d := d)
      (by rw [get_heardBytes tr o d (by decide), hact]; omega) h8 ho8 hd
    obtain ⟨t, he, hacc, hregs, hpt, -, hrest⟩ := bankCommit_next hh hq hb hm hp ha hd hl ho ((writeDomain_ptBank (by omega)).trans hw)
      (by rw [hk]; exact hmoves) hkeep (by decide) (by decide)
    rw [hk] at hrest
    obtain ⟨hbytes, hkr, hkb, hrest⟩ := hrest
    have hflag : (heardBytes tr o d s).ptCheck = s.ptCheck := by cases tr <;> rfl
    exact ⟨t, he, hacc, hbytes, (get_of_regs hregs _).trans hready, hpt.trans hcheck,
      fun h => (get_of_regs hregs _).trans (hres (hflag.trans h)), hkr, hkb, hrest⟩
  · obtain ⟨w, hw, hmoves, hkeep, hready, hcheck, hres⟩ := sfuBankWrite_spec (v := heardBytes tr o d s) (b := b) (o := o) (d := d)
      (by rw [get_heardBytes tr o d (by decide), hact]; omega) h8 ho8 hd
    obtain ⟨t, he, hacc, hregs, -, hsfu, hrest⟩ := bankCommit_next hh hq hb hm hp' ha' hd hl ho ((writeDomain_sfuBank (by omega)).trans hw)
      (by rw [hk']; exact hmoves) hkeep (by decide) (by decide)
    rw [hk'] at hrest
    obtain ⟨hbytes, hkr, hkb, hrest⟩ := hrest
    have hflag : (heardBytes tr o d s).sfuCheck = s.sfuCheck := by cases tr <;> rfl
    exact ⟨t, he, hacc, hbytes, (get_of_regs hregs _).trans hready, hsfu.trans hcheck,
      fun h => (get_of_regs hregs _).trans (hres (hflag.trans h)), hkr, hkb, hrest⟩

end Sys2Proof.Machine

/-! SUPPORT. The bytes of the dictionary that notices, the fault log and the end of copies and jobs leave (R262, R266, R283, R302, R426). -/

namespace Sys2Proof.Machine

open Sys2Proof

/-- The dictionary's bytes but for those of the DOMAIN entries `ks`, kept in canonical form. -/
structure DomFrame (ks : List Nat) (s t : State) : Prop where
  canon : Sparse.canonical domDefault s.dom = true → Sparse.canonical domDefault t.dom = true
  bytes : ∀ a, a / domSpan ∉ ks → Sparse.get? t.dom a = Sparse.get? s.dom a

/-- The entries that a notice writes: the fault log's (R426) and the level causes (R262). -/
def noticeDoms : List Nat := [Dom.FLT_FIRST, Dom.FLT_LOG, Dom.FLT_CLASS_COUNT, Dom.PQ_LEVEL_CAUSE]

namespace DomFrame
variable {ks : List Nat}

theorem of_dom {s t : State} (h : t.dom = s.dom) : DomFrame ks s t := ⟨fun hc => h ▸ hc, fun _ _ => by rw [h]⟩

theorem refl (s : State) : DomFrame ks s s := of_dom rfl

theorem trans {s t u : State} (h : DomFrame ks s t) (h' : DomFrame ks t u) : DomFrame ks s u :=
  ⟨fun hc => h'.canon (h.canon hc), fun a ha => (h'.bytes a ha).trans (h.bytes a ha)⟩

theorem mono {ls : List Nat} {s t : State} (h : DomFrame ks s t) (hk : ks ⊆ ls) : DomFrame ls s t :=
  ⟨h.canon, fun a ha => h.bytes a fun hm => ha (hk hm)⟩

theorem ite {c : Prop} [Decidable c] {s a b : State} (ha : DomFrame ks s a) (hb : DomFrame ks s b) : DomFrame ks s (if c then a else b) := by
  split
  · exact ha
  · exact hb

theorem foldl {α : Type} {f : State → α → State} (l : List α) (s : State) (hf : ∀ s, ∀ a ∈ l, DomFrame ks s (f s a)) :
    DomFrame ks s (l.foldl f s) :=
  List.foldlRecOn (motive := DomFrame ks s) l f (refl s) (fun _ h a ha => h.trans (hf _ a ha))

/-- Bytes put within an entry. -/
theorem domPut (s : State) {k o : Nat} {bs : Bytes} (hk : k ∈ ks) (h : o + bs.length ≤ domSpan) : DomFrame ks s (s.domPut k o bs) := by
  refine ⟨writeDflt_canonical _ _ _ _, fun a ha => ?_⟩
  refine (get?_writeDflt ..).trans (if_neg fun hc => ha ?_)
  have hdiv : a / domSpan = k := by
    have hpos : 0 < domSpan := by decide
    rw [Nat.div_eq_iff hpos]
    omega
  exact hdiv ▸ hk

/-- The bytes of another entry. -/
theorem domBytes {s t : State} (h : DomFrame ks s t) (hc : Sparse.canonical domDefault s.dom = true) {k o n : Nat} (hk : k ∉ ks)
    (ho : o + n ≤ domSpan) : t.domBytes k o n = s.domBytes k o n := by
  have hs : Sparse.rising s.dom = true := (Bool.and_eq_true_iff.1 hc).1
  have ht : Sparse.rising t.dom = true := (Bool.and_eq_true_iff.1 (h.canon hc)).1
  refine memRead_congr _ _ _ hs ht fun a h1 h2 => h.bytes a ?_
  have hdiv : a / domSpan = k := by
    have hpos : 0 < domSpan := by decide
    rw [Nat.div_eq_iff hpos]
    omega
  rwa [hdiv]

theorem syncInts (s : State) : DomFrame ks s s.syncInts := by
  obtain ⟨f, e⟩ := syncInts_moves_field s
  rw [e]
  exact of_dom rfl

theorem put (s : State) (k v : Nat) : DomFrame ks s (s.put k v) := of_dom rfl

theorem dru (s : State) (d : Dru) : DomFrame ks s { s with dru := d } := of_dom rfl

theorem obs (s : State) (o : Obs) : DomFrame ks s { s with obs := o } := of_dom rfl

theorem setQueue (s : State) (q : Nat) (x : Queue) : DomFrame ks s (s.setQueue q x) := of_dom rfl

theorem setCause (s : State) (l b : Nat) : DomFrame ks s (s.setCause l b) := (put ..).trans (syncInts _)

/-! ### The fault log -/

theorem rpl (s : State) (k : Nat) (c : Option Nat) (a : Nat) (b : Bool) (x y : Nat) : DomFrame ks s (s.rpl k c a b x y) := by
  unfold State.rpl
  exact ite (trans (ite (refl s) (put ..)) (dru ..)) (refl s)

theorem trace (s : State) (k : Nat) (c : Option Nat) (a : Nat) (p : Option Nat) (x y : Nat) : DomFrame ks s (s.trace k c a p x y) := by
  unfold State.trace
  exact ite (trans (ite (refl s) (put ..)) (obs ..)) (refl s)

theorem evCount (s : State) {e : Ev} (hk : noticeDoms ⊆ ks) (he : e.cls < 256) : DomFrame ks s (s.evCount e) := by
  unfold State.evCount
  dsimp only
  refine trans (domPut s (hk (by decide)) ?_) (ite (setCause ..) (refl _))
  rw [le_length]
  have : domSpan = 2 ^ 20 := rfl
  omega

/-- A fault record takes 32 bytes (Table 17.4). -/
theorem faultRecord_length (s : State) (e : Ev) : (s.faultRecord e).length = 32 := by
  simp only [State.faultRecord, List.length_append, le_length]

theorem logOne (s : State) {e : Ev} (hk : noticeDoms ⊆ ks) (he : e.cls < 256) : DomFrame ks s (s.logOne e) := by
  have hspan : domSpan = 2 ^ 20 := rfl
  have hlen := faultRecord_length s e
  unfold State.logOne
  dsimp only
  refine trans ?_ (trace ..)
  refine trans ?_ (rpl ..)
  refine trans ?_ (evCount _ hk he)
  refine trans (t := State.domPut _ Dom.FLT_LOG _ _) ?_ (of_dom rfl)
  refine trans (ite (domPut s (hk (by decide)) ?_) (refl s)) (domPut _ (hk (by decide)) ?_)
  · omega
  · have := Nat.mod_lt (s.get Key.FLT_LOG_HEAD) (show 0 < 256 by decide)
    omega

theorem log (s : State) {e : Ev} (hk : noticeDoms ⊆ ks) (he : e.cls < 256) : DomFrame ks s (s.log e) := logOne s hk he

/-! ### Packets posted -/

theorem pqDrop (s : State) (q ctx : Nat) : DomFrame ks s (s.pqDrop q ctx) := of_dom rfl

theorem pqAccept (s : State) (q : Nat) (x : Queue) (words : List Bytes) : DomFrame ks s (s.pqAccept q x words) := by
  obtain ⟨m, e⟩ := pqAccept_moves s q x words
  rw [e]
  exact of_dom rfl

theorem pqOffer (s : State) (q ctx : Nat) (words : List Bytes) (hk : noticeDoms ⊆ ks) : DomFrame ks s (s.pqOffer q ctx words).1 := by
  have refused : ∀ e : Ev, e.cls < 256 → DomFrame ks s ((s.log e).pqDrop q ctx) := fun e he => (log s hk he).trans (pqDrop ..)
  unfold State.pqOffer
  dsimp only
  split
  · exact refused _ (show Ec.descRange < 256 by decide)
  split
  · exact refused _ (show Ec.descRange < 256 by decide)
  split
  · exact refl s
  split
  · split
    · exact refl s
    · exact pqAccept s q { s.queue q with credits := (s.queue q).credits - words.length } words
  split
  · exact pqAccept s q (s.queue q) words
  · exact of_dom rfl

theorem pqCompare (s : State) {q : Nat} (hk : noticeDoms ⊆ ks) (hq : q < 4096) : DomFrame ks s (s.pqCompare q) := by
  unfold State.pqCompare
  dsimp only
  have hlen : ∀ b, q / 8 + (le 1 b).length ≤ domSpan := fun b => by
    have hspan : domSpan = 2 ^ 20 := rfl
    rw [le_length]
    omega
  split
  · split
    · exact refl s
    · exact trans (trans (t := s.setQueue q { s.queue q with above := true }) (of_dom rfl) (domPut _ (hk (by decide)) (hlen _))) (syncInts _)
  · exact ite (of_dom rfl) (refl s)

theorem pqCommit (s : State) {q : Nat} (hk : noticeDoms ⊆ ks) (hq : q < 4096) : DomFrame ks s (s.pqCommit q) := by
  cases h : (s.queue q).opened with
  | some n =>
    rw [pqCommit_opened h]
    exact (setQueue ..).trans (pqCompare _ hk hq)
  | none =>
    unfold State.pqCommit
    simp only [h]
    exact refl s

theorem post (s : State) {q : Nat} (producer ctx : Nat) (words : List Bytes) (hk : noticeDoms ⊆ ks) (hq : q < 4096) :
    DomFrame ks s (s.post q producer ctx words) := by
  have ho := pqOffer s q ctx words hk
  unfold State.post
  refine ite ?_ (of_dom rfl)
  split
  · next e => exact (e ▸ ho).trans (pqCommit _ hk hq)
  · next e => exact (e ▸ ho).trans (of_dom rfl)

theorem copyNotice (s : State) (m d : Nat) (aborted : Bool) (hk : noticeDoms ⊆ ks) : DomFrame ks s (s.copyNotice m d aborted) :=
  ite (post _ _ _ _ hk ((Nat.mod_lt _ (by decide)).trans (show 2 ^ 9 < 4096 by decide))) (refl s)

theorem jobNotice (s : State) (q d : Nat) (aborted masked : Bool) (hk : noticeDoms ⊆ ks) : DomFrame ks s (s.jobNotice q d aborted masked) :=
  ite (post _ _ _ _ hk ((Nat.mod_lt _ (by decide)).trans (show 2 ^ 9 < 4096 by decide))) (refl s)

/-! ### Copies and jobs ended -/

theorem endCopy (s : State) (m d : Nat) (hk : noticeDoms ⊆ ks) : DomFrame ks s (s.endCopy m d) := by
  refine trans ?_ (foldl _ _ fun t _ _ => copyNotice t m d true hk)
  exact of_dom rfl

theorem endJob (s : State) (q d : Nat) (hk : noticeDoms ⊆ ks) : DomFrame ks s (s.endJob q d) := by
  refine trans ?_ (foldl _ _ fun t _ _ => jobNotice t q d true false hk)
  exact of_dom rfl

/-- VALID cleared within a table. -/
theorem clearValid (s : State) {dom size n bitAt : Nat} (hk : dom ∈ ks) (h : size * n + bitAt / 8 < domSpan) :
    DomFrame ks s (s.clearValid dom size n bitAt) := domPut s hk (by rw [le_length]; omega)

theorem dropUsers (s : State) (n : Nat) (hk : noticeDoms ⊆ ks) (hc : Dom.PRESS_COPY_TABLE ∈ ks) (hj : Dom.SFU_JOB_TABLE ∈ ks) :
    DomFrame ks s (s.dropUsers n) := by
  have hspan : domSpan = 2 ^ 20 := rfl
  refine trans (foldl _ s fun t m hm => ?_) (foldl _ _ fun t q hq => ?_)
  · have := List.mem_range.1 hm
    exact ite ((clearValid _ hc (by omega)).trans (endCopy _ _ _ hk)) (refl t)
  · have := List.mem_range.1 hq
    exact ite ((clearValid _ hj (by omega)).trans (endJob _ _ _ hk)) (refl t)

end DomFrame

end Sys2Proof.Machine

/-! SUPPORT. Writes of the units' tables (R252, R271, R279, R300, R309, R334, R340, R350). -/

namespace Sys2Proof.Machine

open Sys2Proof

/-! ### Entries written in turn -/

/-- A fold that stops at its first refusal, where none came: the fold of its effects. -/
theorem foldl_accepted {σ ρ ι : Type} {f : σ × Option ρ → ι → σ × Option ρ} {g : σ → ι → σ}
    (hstop : ∀ a i, a.2 ≠ none → f a i = a) (hstep : ∀ a i, a.2 = none → (f a i).2 = none → (f a i).1 = g a.1 i) (l : List ι) (a : σ × Option ρ)
    (h : (l.foldl f a).2 = none) : a.2 = none ∧ (l.foldl f a).1 = l.foldl g a.1 := by
  induction l generalizing a with
  | nil => exact ⟨h, rfl⟩
  | cons i l ih =>
    obtain ⟨hi, hl⟩ := ih _ h
    have ha : a.2 = none := by
      by_contra hne
      exact hne (hstop a i hne ▸ hi)
    exact ⟨ha, hl.trans (by rw [hstep a i ha hi]; rfl)⟩

/-- The first `n` whole entries of a table write, each with what its acceptance does besides. -/
def State.tableFold (after : State → Nat → Nat → State) (dom size o : Nat) (bs : Bytes) (n : Nat) (s : State) : State :=
  (List.range n).foldl (fun s i => after (s.domPut dom (size * (o / size + i)) (sub bs (size * i) size)) (o / size + i) (u bs (size * i) size)) s

theorem tableFold_succ (after : State → Nat → Nat → State) (dom size o : Nat) (bs : Bytes) (n : Nat) (s : State) :
    s.tableFold after dom size o bs (n + 1) = after ((s.tableFold after dom size o bs n).domPut dom (size * (o / size + n)) (sub bs (size * n) size))
      (o / size + n) (u bs (size * n) size) := by
  simp only [State.tableFold, List.range_succ, List.foldl_append, List.foldl_cons, List.foldl_nil]

/-- A table write that refuses nothing writes every entry. -/
theorem tableWrite_accepted {dom size d1 d2 o : Nat} {owner : Nat → Nat} {valid : Nat → Bool} {check : State → Nat → Option (Nat × Nat)}
    {after : State → Nat → Nat → State} {bs : Bytes} {s : State} (hb : bs ≠ [])
    (h : (tableWrite dom size d1 d2 owner valid check after o bs s).2 = none) :
    bs.length % size = 0 ∧ o % size = 0 ∧
      (tableWrite dom size d1 d2 owner valid check after o bs s).1 = s.tableFold after dom size o bs (bs.length / size) := by
  unfold tableWrite at *
  have he : bs.isEmpty = false := by simpa using hb
  split at h
  · cases h
  next hc =>
    rw [if_neg hc]
    have hmod : bs.length % size = 0 ∧ o % size = 0 := by simpa [he] using hc
    refine ⟨hmod.1, hmod.2, (foldl_accepted (fun a i ha => ?_) (fun a i ha hi => ?_) _ _ h).2⟩
    · obtain ⟨t, r⟩ := a
      cases r with
      | none => exact absurd rfl ha
      | some x => rfl
    · obtain ⟨t, r⟩ := a
      obtain rfl : r = none := ha
      dsimp only at hi ⊢
      split
      next harm =>
        rw [if_pos harm] at hi
        cases hi
      next harm =>
        rw [if_neg harm] at hi
        split
        next c d hch =>
          rw [hch] at hi
          cases hi
        next => rfl

/-- The bytes of a piece of a string. -/
theorem getD_sub (bs : Bytes) {a n j : Nat} (h : j < n) : (sub bs a n)[j]?.getD 0 = bs[a + j]?.getD 0 := by
  unfold sub zeros
  dsimp only
  by_cases hj : j < ((bs.drop a).take n).length
  · rw [List.getElem?_append_left hj, List.getElem?_take_of_lt h, List.getElem?_drop]
  · rw [List.getElem?_append_right (by omega)]
    have hlen : bs.length ≤ a + j := by
      simp only [List.length_take, List.length_drop] at hj
      omega
    rw [List.getElem?_eq_none hlen, List.getElem?_replicate]
    split <;> rfl

/-- The first `n` bytes of a string written at `base`, the entries `ks` apart. -/
structure TableWritten (ks : List Nat) (base : Nat) (bs : Bytes) (n : Nat) (s t : State) : Prop where
  canon : Sparse.canonical domDefault s.dom = true → Sparse.canonical domDefault t.dom = true
  written : ∀ j, j < n → t.domByte (base + j) = bs[j]?.getD 0
  kept : ∀ a, a / domSpan ∉ ks → a < base ∨ base + n ≤ a → Sparse.get? t.dom a = Sparse.get? s.dom a

/-- A table's bytes as a read returns them. -/
theorem TableWritten.domBytes {ks : List Nat} {dom o : Nat} {bs : Bytes} {s t : State} (h : TableWritten ks (dom * domSpan + o) bs bs.length s t)
    (hc : Sparse.canonical domDefault s.dom = true) : t.domBytes dom o bs.length = bs := by
  rw [domBytes_eq_map (Bool.and_eq_true_iff.1 (h.canon hc)).1]
  refine List.ext_getElem (by simp) fun j h1 h2 => ?_
  rw [List.getElem_map, List.getElem_range, h.written j h2, List.getElem?_eq_getElem h2, Option.getD_some]

theorem tableFold_written {ks : List Nat} {after : State → Nat → Nat → State} {dom size o : Nat} {bs : Bytes} {s : State}
    (ha : ∀ t n e, DomFrame ks t (after t n e)) (hd : dom ∉ ks) (ho : o % size = 0) (hspan : o + bs.length ≤ domSpan) :
    ∀ n, size * n ≤ bs.length → TableWritten ks (dom * domSpan + o) bs (size * n) s (s.tableFold after dom size o bs n) := by
  intro n
  induction n with
  | zero => exact fun _ => ⟨id, fun j h => absurd h (by omega), fun _ _ _ => rfl⟩
  | succ n ih =>
    intro hn
    rw [Nat.mul_succ] at hn ⊢
    have hw := ih (by omega)
    rw [tableFold_succ]
    generalize s.tableFold after dom size o bs n = w at hw
    have hoff : size * (o / size + n) = o + size * n := by
      rw [Nat.mul_add, Nat.mul_div_cancel' (Nat.dvd_of_mod_eq_zero ho)]
    rw [hoff]
    have hf := ha (w.domPut dom (o + size * n) (sub bs (size * n) size)) (o / size + n) (u bs (size * n) size)
    have hdiv : ∀ j, j < bs.length → (dom * domSpan + o + j) / domSpan ∉ ks := fun j hj => by
      have : (dom * domSpan + o + j) / domSpan = dom := by
        have hpos : 0 < domSpan := by decide
        rw [Nat.div_eq_iff hpos]
        omega
      rwa [this]
    refine ⟨fun hc => hf.canon (writeDflt_canonical _ _ _ _ (hw.canon hc)), fun j hj => ?_, fun a hk hout => ?_⟩
    · have hread : (after (w.domPut dom (o + size * n) (sub bs (size * n) size)) (o / size + n) (u bs (size * n) size)).domByte
          (dom * domSpan + o + j) = (w.domPut dom (o + size * n) (sub bs (size * n) size)).domByte (dom * domSpan + o + j) := by
        unfold State.domByte Sparse.read
        rw [hf.bytes _ (hdiv j (by omega))]
      rw [hread, domByte_domPut, sub_length]
      split
      next hin =>
        have hj' : dom * domSpan + o + j - (dom * domSpan + (o + size * n)) = j - size * n := by omega
        rw [hj', getD_sub bs (by omega)]
        congr 2
        omega
      next hnot => exact hw.written j (by omega)
    · rw [hf.bytes a hk]
      refine (get?_writeDflt ..).trans ?_
      rw [sub_length, if_neg (by omega)]
      exact hw.kept a hk (by omega)

/-- What a table write leaves beside the dictionary's bytes, where what an accepted entry does besides leaves it. -/
theorem tableFold_leaves {R : State → State → Prop} {after : State → Nat → Nat → State} {dom size o : Nat} {bs : Bytes} {s : State}
    (hr : R s s) (ha : ∀ t o' bs' n e, R s t → R s (after (t.domPut dom o' bs') n e)) (n : Nat) : R s (s.tableFold after dom size o bs n) :=
  List.foldlRecOn (motive := R s) _ _ hr fun _ h _ _ => ha _ _ _ _ _ h

end Sys2Proof.Machine

/-! SUPPORT. The host's writes of the units' tables. -/

namespace Sys2Proof.Machine

open Sys2Proof

/-- The units' tables with the state rule of their own chapters may be written in any state (R371). -/
theorem stateOk_of_table {idx : Nat} (h : [0x5100, 0x5800, 0x5801, 0x5C04, 0x6801].contains idx = true) (s : State) (sub : Nat) (e : Entry) :
    s.stateOk idx sub e = true := by
  unfold State.stateOk
  rw [h]
  split
  · rfl
  · rfl

section Table
variable {tr : Transport} {s w : State} {idx o n k val : Nat} {d : Bytes}

/-- A table's write that the host commits. -/
theorem tableCommit_next {u : State} (hh : hostReady tr s = true) (hq : s.get Key.RPL_STATE ≠ 1) (hb : buffered s) (hp : plainDomain idx 0 n = true)
    (hst : ∀ e, entryAt idx 0 = some e → (heardBytes tr o d s).stateOk idx 0 e = true) (hd : d ≠ []) (hl : d.length ≤ 4096)
    (ho : o + d.length ≤ n) (hw : (heardBytes tr o d s).writeDomain tr (entryKey idx 0) o d = (u, none))
    (hr : u.get Key.RPL_STATE = (heardBytes tr o d s).get Key.RPL_STATE) :
    ∃ t, hosted (hostCommit tr idx 0 o d) s = .next t ∧ accepted tr t = true ∧ t.regs = u.regs ∧ t.dom = u.dom ∧
      ∃ p q, t = { u with cp := p, can := q } := by
  refine ⟨_, hostCommit_next hh hb hp hst hd hl ho hw ?_, accepted_taken _ _ rfl rfl, taken_regs .., taken_dom .., taken_moves ..⟩
  rw [hr, get_heardBytes tr o d (by decide)]
  exact hq

/-- The registers of a state moved by its heard request and a write on top. -/
theorem keepsRegs_heardBytes {ks : List Nat} {u t : State} (hr : t.regs = u.regs) (h : keepsRegs ks (heardBytes tr o d s) u) :
    keepsRegs (ks ++ canKeys) s t :=
  .trans (heardBytes_keepsRegs s tr o d) (fun k hk => (get_of_regs hr k).trans (h k hk)) (List.subset_append_right ..) (List.subset_append_left ..)

/-- A unit's table, whose result register of the transport takes `val`. -/
theorem unitTable_next (hh : hostReady tr s = true) (hq : s.get Key.RPL_STATE ≠ 1) (hb : buffered s) (hm : Memory.wf s = true)
    (hp : plainDomain idx 0 n = true) (hst : ∀ e, entryAt idx 0 = some e → (heardBytes tr o d s).stateOk idx 0 e = true) (hd : d ≠ [])
    (hl : d.length ≤ 4096) (ho : o + d.length ≤ n) (hk : k ∈ ownCopies) (hv : val < 2 ^ 64)
    (hw : (heardBytes tr o d s).writeDomain tr (entryKey idx 0) o d = (w.put (trKey tr k) val, none))
    (hmove : ∃ m : List (Nat × Byte), w = { heardBytes tr o d s with dom := m })
    (hT : TableWritten [] (entryKey idx 0 * domSpan + o) d d.length (heardBytes tr o d s) w) :
    ∃ t, hosted (hostCommit tr idx 0 o d) s = .next t ∧ accepted tr t = true ∧ t.domBytes (entryKey idx 0) o d.length = d ∧
      t.get (trKey tr k) = val ∧ keepsRegs (trKey tr k :: canKeys) s t ∧
      keepsBytes (entryKey idx 0 * domSpan + o) d.length s.dom t.dom ∧ onlyDict s t := by
  have hwr : w.regs = (heardBytes tr o d s).regs := by
    obtain ⟨m, rfl⟩ := hmove
    rfl
  have hkeep : keepsRegs [trKey tr k] (heardBytes tr o d s) (w.put (trKey tr k) val) := keepsRegs_put_of_regs hwr _ _
  obtain ⟨t, he, hacc, hregs, hdom, p, q, et⟩ := tableCommit_next hh hq hb hp hst hd hl ho hw
    (hkeep _ (by simpa using (trKey_ne_rplState tr k hk).symm))
  refine ⟨t, he, hacc, ?_, ?_, keepsRegs_heardBytes hregs hkeep, fun a ha => ?_, ?_⟩
  · have hbytes := hT.domBytes (by rw [heardBytes_dom]; exact dom_canonical hm)
    rw [State.domBytes, hdom]
    exact hbytes
  · rw [get_of_regs hregs, get_put_self, Nat.mod_eq_of_lt hv]
  · rw [hdom]
    exact (hT.kept a (by simp) ha).trans (by rw [heardBytes_dom])
  · refine (onlyDict_heardBytes s tr o d).trans ?_
    rw [et]
    obtain ⟨m, rfl⟩ := hmove
    rfl

/-- A table whose entries do nothing besides moves the dictionary's bytes alone. -/
theorem tableFold_moves (dom size o : Nat) (bs : Bytes) (n : Nat) (s : State) :
    ∃ m : List (Nat × Byte), s.tableFold (fun t _ _ => t) dom size o bs n = { s with dom := m } := by
  refine tableFold_leaves (R := fun s t => ∃ m : List (Nat × Byte), t = { s with dom := m }) ⟨_, rfl⟩ ?_ n
  rintro _ o' bs' - - ⟨m, rfl⟩
  exact ⟨_, rfl⟩

/-- The index that a result register names fits it. -/
theorem itemWord_lt {a : Nat} {c : Nat} (ha : a < 65536) (hc : c ≤ 20) : a * 2 ^ c < 2 ^ 64 :=
  (Nat.mul_lt_mul_of_lt_of_le ha (Nat.pow_le_pow_right (by decide) hc) (by decide)).trans_le (by decide)

/-- CLE_GROUPS (R309). -/
theorem cleGroups_next (hh : hostReady tr s = true) (hq : s.get Key.RPL_STATE ≠ 1) (hb : buffered s) (hm : Memory.wf s = true)
    (hd : d ≠ []) (hl : d.length ≤ 4096) (ho : o + d.length ≤ 131040) (hc : ((heardBytes tr o d s).groupsWrite o d).2 = none) :
    ∃ t, exec (.cleGroupsWrite tr o d) s = .next t ∧ accepted tr t = true ∧
      t.domBytes Dom.CLE_GROUPS o d.length = d ∧ t.get (trKey tr Key.CLE_RESULT) = (o / 32) * 2 ^ 20 ∧
      keepsRegs (trKey tr Key.CLE_RESULT :: canKeys) s t ∧ keepsBytes (Dom.CLE_GROUPS * domSpan + o) d.length s.dom t.dom ∧ onlyDict s t := by
  obtain ⟨hlen, hoff, hfold⟩ := tableWrite_accepted hd hc
  have hw : (heardBytes tr o d s).writeDomain tr (entryKey 0x6801 0) o d =
      (((heardBytes tr o d s).tableFold (fun t _ _ => t) Dom.CLE_GROUPS 32 o d (d.length / 32)).put (trKey tr Key.CLE_RESULT) (o / 32 * 2 ^ 20), none) := by
    show State.unitResult tr Key.CLE_RESULT (o / 32) ((heardBytes tr o d s).groupsWrite o d) = _
    unfold State.unitResult
    rw [hc]
    dsimp only
    rw [putResult_none _ _ (by decide) (by decide), Nat.zero_mul, Nat.add_zero]
    exact congrArg (fun x => (State.put x _ _, none)) hfold
  have hT := tableFold_written (ks := []) (after := fun t _ _ => t) (dom := Dom.CLE_GROUPS) (s := heardBytes tr o d s)
    (fun t _ _ => DomFrame.refl t) (by simp) hoff (show o + d.length ≤ 2 ^ 20 by omega) (d.length / 32) (Nat.mul_div_le ..)
  rw [Nat.mul_div_cancel' (Nat.dvd_of_mod_eq_zero hlen)] at hT
  exact unitTable_next hh hq hb hm (n := 131040) (by decide) (fun e _ => stateOk_of_table (by decide) _ _ e) hd hl ho (by decide)
    (itemWord_lt (by omega) (by decide)) hw (tableFold_moves ..) hT

/-- FEP_WINDOWS (R334) where no window is refused. -/
theorem fepWindowsWrite_accepted {v : State} (hd : d ≠ []) (h : (v.fepWindowsWrite o d).2 = none) :
    d.length % 32 = 0 ∧ o % 32 = 0 ∧ (v.fepWindowsWrite o d).1 = v.tableFold (fun t _ _ => t) Dom.FEP_WINDOWS 32 o d (d.length / 32) := by
  unfold State.fepWindowsWrite at *
  have he : d.isEmpty = false := by simpa using hd
  dsimp only at *
  split at h
  · cases h
  next hc =>
    rw [if_neg hc]
    have hmod : d.length % 32 = 0 ∧ o % 32 = 0 := by simpa [he] using hc
    refine ⟨hmod.1, hmod.2, (foldl_accepted (fun a i ha => ?_) (fun a i ha hi => ?_) _ _ h).2⟩
    · obtain ⟨t, r⟩ := a
      cases r with
      | none => exact absurd rfl ha
      | some x => rfl
    · obtain ⟨t, r⟩ := a
      obtain rfl : r = none := ha
      dsimp only at hi ⊢
      split
      next hw =>
        rw [if_pos hw] at hi
        cases hi
      next => rfl

theorem fepWindows_next (hh : hostReady tr s = true) (hq : s.get Key.RPL_STATE ≠ 1) (hb : buffered s) (hm : Memory.wf s = true)
    (hd : d ≠ []) (hl : d.length ≤ 4096) (ho : o + d.length ≤ 4096) (hc : ((heardBytes tr o d s).fepWindowsWrite o d).2 = none) :
    ∃ t, exec (.fepWindowsWrite tr o d) s = .next t ∧ accepted tr t = true ∧
      t.domBytes Dom.FEP_WINDOWS o d.length = d ∧ t.get (trKey tr Key.FEP_RESULT) = (o / 32) * 2 ^ 16 ∧
      keepsRegs (trKey tr Key.FEP_RESULT :: canKeys) s t ∧ keepsBytes (Dom.FEP_WINDOWS * domSpan + o) d.length s.dom t.dom ∧ onlyDict s t := by
  obtain ⟨hlen, hoff, hfold⟩ := fepWindowsWrite_accepted hd hc
  have hw : (heardBytes tr o d s).writeDomain tr (entryKey 0x6810 0) o d =
      (((heardBytes tr o d s).tableFold (fun t _ _ => t) Dom.FEP_WINDOWS 32 o d (d.length / 32)).put (trKey tr Key.FEP_RESULT) (o / 32 * 2 ^ 16), none) := by
    show State.unitResult tr Key.FEP_RESULT (o / 32) ((heardBytes tr o d s).fepWindowsWrite o d) = _
    unfold State.unitResult
    rw [hc]
    dsimp only
    rw [putResult_fep]
    exact congrArg (fun x => (State.put x _ _, none)) hfold
  have hT := tableFold_written (ks := []) (after := fun t _ _ => t) (dom := Dom.FEP_WINDOWS) (s := heardBytes tr o d s)
    (fun t _ _ => DomFrame.refl t) (by simp) hoff (show o + d.length ≤ 2 ^ 20 by omega) (d.length / 32) (Nat.mul_div_le ..)
  rw [Nat.mul_div_cancel' (Nat.dvd_of_mod_eq_zero hlen)] at hT
  exact unitTable_next hh hq hb hm (n := 4096) (by decide) (fun e he => stateOk_of_any (by decide) _ e he) hd hl ho (by decide)
    (itemWord_lt (by omega) (by decide)) hw (tableFold_moves ..) hT

/-- FEP_REQ_TABLE (R350). -/
theorem fepReqTable_next (hh : hostReady tr s = true) (hq : s.get Key.RPL_STATE ≠ 1) (hb : buffered s) (hm : Memory.wf s = true)
    (hd : d ≠ []) (hl : d.length ≤ 4096) (ho : o + d.length ≤ 16384) (hc : ((heardBytes tr o d s).fepTableWrite o d).2 = none) :
    ∃ t, exec (.fepReqTableWrite tr o d) s = .next t ∧ accepted tr t = true ∧
      t.domBytes Dom.FEP_REQ_TABLE o d.length = d ∧ t.get (trKey tr Key.FEP_RESULT) = (o / 64) * 2 ^ 16 ∧
      keepsRegs (trKey tr Key.FEP_RESULT :: canKeys) s t ∧ keepsBytes (Dom.FEP_REQ_TABLE * domSpan + o) d.length s.dom t.dom ∧ onlyDict s t := by
  obtain ⟨hlen, hoff, hfold⟩ := tableWrite_accepted hd (Option.map_eq_none_iff.1 hc)
  have hw : (heardBytes tr o d s).writeDomain tr (entryKey 0x6812 0) o d =
      (((heardBytes tr o d s).tableFold (fun t _ _ => t) Dom.FEP_REQ_TABLE 64 o d (d.length / 64)).put (trKey tr Key.FEP_RESULT) (o / 64 * 2 ^ 16), none) := by
    show State.unitResult tr Key.FEP_RESULT (o / 64) ((heardBytes tr o d s).fepTableWrite o d) = _
    unfold State.unitResult
    rw [hc]
    dsimp only
    rw [putResult_fep]
    exact congrArg (fun x => (State.put x _ _, none)) hfold
  have hT := tableFold_written (ks := []) (after := fun t _ _ => t) (dom := Dom.FEP_REQ_TABLE) (s := heardBytes tr o d s)
    (fun t _ _ => DomFrame.refl t) (by simp) hoff (show o + d.length ≤ 2 ^ 20 by omega) (d.length / 64) (Nat.mul_div_le ..)
  rw [Nat.mul_div_cancel' (Nat.dvd_of_mod_eq_zero hlen)] at hT
  exact unitTable_next hh hq hb hm (n := 16384) (by decide) (fun e he => stateOk_of_any (by decide) _ e he) hd hl ho (by decide)
    (itemWord_lt (by omega) (by decide)) hw (tableFold_moves ..) hT

/-- One write of bytes. -/
theorem TableWritten.of_domPut (v : State) (k : Nat) : TableWritten [] (k * domSpan + o) d d.length v (v.domPut k o d) := by
  refine ⟨writeDflt_canonical _ _ _ _, fun j hj => ?_, fun a _ ha => (get?_writeDflt ..).trans (if_neg (by omega))⟩
  rw [domByte_domPut, if_pos (by omega), Nat.add_sub_cancel_left]

/-- FEP_ROUTE (R340). -/
theorem fepRoute_next (hh : hostReady tr s = true) (hq : s.get Key.RPL_STATE ≠ 1) (hb : buffered s) (hm : Memory.wf s = true)
    (hd : d ≠ []) (hl : d.length ≤ 4096) (ho : o + d.length ≤ 32768) (ho2 : o % 2 = 0) (hd2 : d.length % 2 = 0)
    (hr : ∀ i, i < d.length / 2 → routeOk (u d (2 * i) 2) = true) :
    ∃ t, exec (.fepRouteWrite tr o d) s = .next t ∧ accepted tr t = true ∧
      t.domBytes Dom.FEP_ROUTE o d.length = d ∧ t.get (trKey tr Key.FEP_RESULT) = (o / 2) * 2 ^ 16 ∧
      keepsRegs (trKey tr Key.FEP_RESULT :: canKeys) s t ∧ keepsBytes (Dom.FEP_ROUTE * domSpan + o) d.length s.dom t.dom ∧ onlyDict s t := by
  have hwrite : (heardBytes tr o d s).fepRouteWrite o d = ((heardBytes tr o d s).domPut Dom.FEP_ROUTE o d, none) := by
    have hfind : (List.range (d.length / 2)).find? (fun i => !(routeOk (u d (2 * i) 2))) = none := by
      rw [List.find?_eq_none]
      intro i hi
      simp [hr i (List.mem_range.1 hi)]
    unfold State.fepRouteWrite
    dsimp only
    rw [if_neg (by simp [ho2, hd2]), hfind]
  have hw : (heardBytes tr o d s).writeDomain tr (entryKey 0x6811 0) o d =
      (((heardBytes tr o d s).domPut Dom.FEP_ROUTE o d).put (trKey tr Key.FEP_RESULT) (o / 2 * 2 ^ 16), none) := by
    show State.unitResult tr Key.FEP_RESULT (o / 2) ((heardBytes tr o d s).fepRouteWrite o d) = _
    rw [hwrite, State.unitResult]
    dsimp only
    rw [putResult_fep]
  exact unitTable_next hh hq hb hm (n := 32768) (by decide) (fun e he => stateOk_of_any (by decide) _ e he) hd hl ho (by decide)
    (itemWord_lt (by omega) (by decide)) hw ⟨_, rfl⟩ (.of_domPut ..)

end Table

end Sys2Proof.Machine

/-! SUPPORT. The host's writes of the Press's tables, of the job table, and of the queue descriptors (R252, R271, R279, R300). -/

namespace Sys2Proof.Machine

open Sys2Proof

section Table
variable {tr : Transport} {s w : State} {idx o n k val : Nat} {d : Bytes} {ks : List Nat}

/-- A table whose entries may end copies and jobs, which post notices; the result register of the transport takes `val`. -/
theorem noticeTable_next (hh : hostReady tr s = true) (hq : s.get Key.RPL_STATE ≠ 1) (hb : buffered s) (hm : Memory.wf s = true)
    (hp : plainDomain idx 0 n = true) (hi : [0x5100, 0x5800, 0x5801, 0x5C04, 0x6801].contains idx = true) (hd : d ≠ [])
    (hl : d.length ≤ 4096) (ho : o + d.length ≤ n) (hk : k ∈ ownCopies) (hv : val < 2 ^ 64)
    (hw : (heardBytes tr o d s).writeDomain tr (entryKey idx 0) o d = (w.put (trKey tr k) val, none))
    (hN : NoticeFrame (heardBytes tr o d s) w) (hT : TableWritten ks (entryKey idx 0 * domSpan + o) d d.length (heardBytes tr o d s) w) :
    ∃ t, hosted (hostCommit tr idx 0 o d) s = .next t ∧ accepted tr t = true ∧ t.domBytes (entryKey idx 0) o d.length = d ∧
      t.get (trKey tr k) = val ∧ t.stg = s.stg ∧ t.ctxs = s.ctxs ∧ t.pools = s.pools := by
  have hrpl : (w.put (trKey tr k) val).get Key.RPL_STATE = (heardBytes tr o d s).get Key.RPL_STATE := by
    rw [get_put_ne _ _ (trKey_ne_rplState tr k hk)]
    exact hN.regs _ (by decide)
  obtain ⟨t, he, hacc, hregs, hdom, p, q, et⟩ := tableCommit_next hh hq hb hp (fun e _ => stateOk_of_table hi _ _ e) hd hl ho hw hrpl
  refine ⟨t, he, hacc, ?_, ?_, ?_⟩
  · have hbytes := hT.domBytes (by rw [heardBytes_dom]; exact dom_canonical hm)
    rw [State.domBytes, hdom]
    exact hbytes
  · rw [get_of_regs hregs, get_put_self, Nat.mod_eq_of_lt hv]
  · obtain ⟨r, f, c, j, x, eh⟩ := heardBytes_moves s tr o d
    rw [et]
    exact ⟨hN.stg.trans (by rw [eh]), hN.ctxs.trans (by rw [eh]), hN.pools.trans (by rw [eh])⟩

/-- PRESS_COPY_TABLE (R279). -/
theorem pressCopyTable_next (hh : hostReady tr s = true) (hq : s.get Key.RPL_STATE ≠ 1) (hb : buffered s) (hm : Memory.wf s = true)
    (hd : d ≠ []) (hl : d.length ≤ 4096) (ho : o + d.length ≤ 4096) (hc : ((heardBytes tr o d s).copyTableWrite o d).2 = none) :
    ∃ t, exec (.pressCopyTableWrite tr o d) s = .next t ∧ accepted tr t = true ∧
      t.domBytes Dom.PRESS_COPY_TABLE o d.length = d ∧ t.get (trKey tr Key.PRESS_RESULT) = (o / 16) * 2 ^ 20 + 2 ^ 19 ∧
      t.stg = s.stg ∧ t.ctxs = s.ctxs ∧ t.pools = s.pools := by
  have hcopy : ∀ x : State, x.copyTableWrite o d = tableWrite Dom.PRESS_COPY_TABLE 16 0x70 0x71 cpOwner ldValid State.copyCheck
    (fun t n e => if ldValid e then t else t.endCopy n (x.copy n)) o d x := fun _ => rfl
  generalize hx : heardBytes tr o d s = x at hc
  rw [hcopy] at hc
  obtain ⟨hlen, hoff, hfold⟩ := tableWrite_accepted hd hc
  have hitem : o / 16 < 4096 := by omega
  have hw : x.writeDomain tr (entryKey 0x5801 0) o d =
      ((x.tableFold (fun t n e => if ldValid e then t else t.endCopy n (x.copy n)) Dom.PRESS_COPY_TABLE 16 o d (d.length / 16)).put
        (trKey tr Key.PRESS_RESULT) (o / 16 * 2 ^ 20 + 2 ^ 19), none) := by
    show State.pressResult tr (o / 16) 1 (x.copyTableWrite o d) = _
    rw [hcopy, State.pressResult, hc]
    dsimp only [State.countRefused]
    rw [putResult_none _ _ (by decide) (by decide), Nat.mod_eq_of_lt hitem, Nat.one_mul]
    exact congrArg (fun y => (State.put y _ _, none)) hfold
  have hT := tableFold_written (ks := noticeDoms) (after := fun t n e => if ldValid e then t else t.endCopy n (x.copy n))
    (dom := Dom.PRESS_COPY_TABLE) (s := x) (fun t m e => .ite (.refl t) (.endCopy _ _ _ (List.Subset.refl _))) (by decide) hoff
    (show o + d.length ≤ 2 ^ 20 by omega) (d.length / 16) (Nat.mul_div_le ..)
  rw [Nat.mul_div_cancel' (Nat.dvd_of_mod_eq_zero hlen)] at hT
  have hN := tableFold_leaves (R := NoticeFrame) (after := fun t n e => if ldValid e then t else t.endCopy n (x.copy n))
    (dom := Dom.PRESS_COPY_TABLE) (size := 16) (o := o) (bs := d) (s := x) (.refl x)
    (fun t o' bs' m e h => (h.trans (.domPut ..)).trans (.ite (.refl _) (EndFrame.endCopy ..).notice)) (d.length / 16)
  subst hx
  exact noticeTable_next hh hq hb hm (n := 4096) (by decide) (by decide) hd hl ho (by decide) (by omega) hw hN hT

/-- SFU_JOB_TABLE (R300). -/
theorem sfuJobTable_next (hh : hostReady tr s = true) (hq : s.get Key.RPL_STATE ≠ 1) (hb : buffered s) (hm : Memory.wf s = true)
    (hd : d ≠ []) (hl : d.length ≤ 4096) (ho : o + d.length ≤ 1024) (hc : ((heardBytes tr o d s).jobTableWrite o d).2 = none) :
    ∃ t, exec (.sfuJobTableWrite tr o d) s = .next t ∧ accepted tr t = true ∧
      t.domBytes Dom.SFU_JOB_TABLE o d.length = d ∧ t.get (trKey tr Key.SFU_RESULT) = (o / 16) * 2 ^ 20 ∧
      t.stg = s.stg ∧ t.ctxs = s.ctxs ∧ t.pools = s.pools := by
  have hjob : ∀ x : State, x.jobTableWrite o d = tableWrite Dom.SFU_JOB_TABLE 16 0x70 0x71 jbOwner ldValid State.jobCheck
    (fun t n e => if ldValid e then t else t.endJob n (x.job n)) o d x := fun _ => rfl
  generalize hx : heardBytes tr o d s = x at hc
  rw [hjob] at hc
  obtain ⟨hlen, hoff, hfold⟩ := tableWrite_accepted hd hc
  have hitem : o / 16 < 4096 := by omega
  have hw : x.writeDomain tr (entryKey 0x5C04 0) o d =
      ((x.tableFold (fun t n e => if ldValid e then t else t.endJob n (x.job n)) Dom.SFU_JOB_TABLE 16 o d (d.length / 16)).put
        (trKey tr Key.SFU_RESULT) (o / 16 * 2 ^ 20), none) := by
    show State.sfuResult tr (o / 16) (x.jobTableWrite o d) = _
    rw [hjob, State.sfuResult, hc]
    dsimp only [State.countRefused]
    rw [putResult_none _ _ (by decide) (by decide), Nat.mod_eq_of_lt hitem, Nat.zero_mul, Nat.add_zero]
    exact congrArg (fun y => (State.put y _ _, none)) hfold
  have hT := tableFold_written (ks := noticeDoms) (after := fun t n e => if ldValid e then t else t.endJob n (x.job n))
    (dom := Dom.SFU_JOB_TABLE) (s := x) (fun t m e => .ite (.refl t) (.endJob _ _ _ (List.Subset.refl _))) (by decide) hoff
    (show o + d.length ≤ 2 ^ 20 by omega) (d.length / 16) (Nat.mul_div_le ..)
  rw [Nat.mul_div_cancel' (Nat.dvd_of_mod_eq_zero hlen)] at hT
  have hN := tableFold_leaves (R := NoticeFrame) (after := fun t n e => if ldValid e then t else t.endJob n (x.job n))
    (dom := Dom.SFU_JOB_TABLE) (size := 16) (o := o) (bs := d) (s := x) (.refl x)
    (fun t o' bs' m e h => (h.trans (.domPut ..)).trans (.ite (.refl _) (EndFrame.endJob ..).notice)) (d.length / 16)
  subst hx
  exact noticeTable_next hh hq hb hm (n := 1024) (by decide) (by decide) hd hl ho (by decide) (by omega) hw hN hT

/-- Where no context has latched a descriptor, a write of descriptors unlatches none (R275). -/
theorem unlatch_of_none {x : State} (a b : Nat) (h : ∀ c i, c < 8 → (x.ctx c).image = some i → i.latched = []) : x.unlatch a b = x := by
  unfold State.unlatch
  refine List.foldlRecOn (motive := fun t => t = x) (List.range 8) _ rfl fun t ht c hc => ?_
  subst ht
  split
  next i hi =>
    rw [h c i (List.mem_range.1 hc) hi]
    rfl
  next => rfl

/-- PRESS_DESC (R271, R275, R280). -/
theorem pressDesc_next (hh : hostReady tr s = true) (hq : s.get Key.RPL_STATE ≠ 1) (hb : buffered s) (hm : Memory.wf s = true)
    (hd : d ≠ []) (hl : d.length ≤ 4096) (ho : o + d.length ≤ 262144) (him : ∀ c i, c < 8 → (s.ctx c).image = some i → i.latched = [])
    (hc : ((heardBytes tr o d s).pressDescWrite o d).2 = none) :
    ∃ t, exec (.pressDescWrite tr o d) s = .next t ∧ accepted tr t = true ∧ t.domBytes Dom.PRESS_DESC o d.length = d ∧
      t.get (trKey tr Key.PRESS_RESULT) = (o / 64) * 2 ^ 20 ∧ t.stg = s.stg ∧ t.ctxs = s.ctxs ∧ t.pools = s.pools := by
  have hctx : ∀ c, (heardBytes tr o d s).ctx c = s.ctx c := fun c => by cases tr <;> rfl
  generalize hx : heardBytes tr o d s = x at hc hctx
  obtain ⟨hlen, hoff, hfold⟩ := tableWrite_accepted hd hc
  have hT := tableFold_written (ks := Dom.PRESS_COPY_TABLE :: Dom.SFU_JOB_TABLE :: noticeDoms) (after := fun t n _ => t.dropUsers n)
    (dom := Dom.PRESS_DESC) (s := x) (fun t m e => .dropUsers _ _ (by decide) (by decide) (by decide)) (by decide) hoff
    (show o + d.length ≤ 2 ^ 20 by omega) (d.length / 64) (Nat.mul_div_le ..)
  rw [Nat.mul_div_cancel' (Nat.dvd_of_mod_eq_zero hlen)] at hT
  have hN := tableFold_leaves (R := NoticeFrame) (after := fun t n _ => t.dropUsers n)
    (dom := Dom.PRESS_DESC) (size := 64) (o := o) (bs := d) (s := x) (.refl x)
    (fun t o' bs' m e h => (h.trans (.domPut ..)).trans (EndFrame.dropUsers ..).notice) (d.length / 64)
  have hitem : o / 64 < 4096 := by
    have := List.length_pos_of_ne_nil hd
    omega
  have hw : x.writeDomain tr (entryKey 0x5800 0) o d =
      ((x.tableFold (fun t n _ => t.dropUsers n) Dom.PRESS_DESC 64 o d (d.length / 64)).put (trKey tr Key.PRESS_RESULT) (o / 64 * 2 ^ 20), none) := by
    have hun : ∀ b, (x.pressDescWrite o d).1.unlatch (o / 64) b = x.tableFold (fun t n _ => t.dropUsers n) Dom.PRESS_DESC 64 o d (d.length / 64) := by
      intro b
      refine (unlatch_of_none _ _ fun c i hc8 hi => him c i hc8 ?_).trans hfold
      rw [← hi, ← hctx]
      have hctxs : (x.pressDescWrite o d).1.ctxs = x.ctxs := (congrArg State.ctxs hfold).trans hN.ctxs
      rw [State.ctx, State.ctx, hctxs]
    show State.pressResult tr (o / 64) 0 ((x.pressDescWrite o d).1.unlatch (o / 64) _, (x.pressDescWrite o d).2) = _
    have hc' : (x.pressDescWrite o d).2 = none := hc
    rw [hun, State.pressResult, hc']
    dsimp only [State.countRefused]
    rw [putResult_none _ _ (by decide) (by decide), Nat.mod_eq_of_lt hitem, Nat.zero_mul, Nat.add_zero]
  subst hx
  exact noticeTable_next hh hq hb hm (n := 262144) (by decide) (by decide) hd hl ho (by decide) (by omega) hw hN hT

/-! ### Queue descriptors (R252) -/

/-- The first `n` queues from `q` on as their descriptors' write leaves them. -/
def State.queuesFresh (s : State) (q n : Nat) : State :=
  (List.range n).foldl (fun s i => s.setQueue (q + i) (queueFresh (s.pqDesc (q + i)))) s

theorem queuesFresh_succ (s : State) (q n : Nat) :
    s.queuesFresh q (n + 1) = (s.queuesFresh q n).setQueue (q + n) (queueFresh ((s.queuesFresh q n).pqDesc (q + n))) := by
  simp only [State.queuesFresh, List.range_succ, List.foldl_append, List.foldl_cons, List.foldl_nil]

theorem queuesFresh_spec (s : State) (q n : Nat) : (∃ m : List (Nat × Queue), s.queuesFresh q n = { s with queues := m }) ∧
    (∀ i, i < n → (s.queuesFresh q n).queue (q + i) = queueFresh (s.pqDesc (q + i))) ∧
    ∀ r, r < q ∨ q + n ≤ r → (s.queuesFresh q n).queue r = s.queue r := by
  induction n with
  | zero => exact ⟨⟨_, rfl⟩, fun i h => absurd h (by omega), fun _ _ => rfl⟩
  | succ n ih =>
    obtain ⟨⟨m, e⟩, hin, hout⟩ := ih
    have hdesc : (s.queuesFresh q n).pqDesc (q + n) = s.pqDesc (q + n) := by
      rw [e]
      rfl
    rw [queuesFresh_succ, hdesc]
    refine ⟨⟨_, by rw [e]; rfl⟩, fun i hi => ?_, fun r hr => ?_⟩
    · rcases Nat.lt_succ_iff_lt_or_eq.1 hi with hlt | rfl
      · rw [queue_setQueue_ne _ _ (by omega)]
        exact hin i hlt
      · exact queue_setQueue_self ..
    · rw [queue_setQueue_ne _ _ (by omega)]
      exact hout r (by omega)

theorem pqDescWrite_eq (s : State) (o : Nat) (bs : Bytes) :
    s.pqDescWrite o bs = (s.domPut Dom.PQ_DESC o bs).queuesFresh (o / 16) (bs.length / 16) := rfl

/-- The bytes of a write, read again in part. -/
theorem domBytes_domPut_part {v : State} (hc : Sparse.canonical domDefault v.dom = true) (k o a m : Nat) (bs : Bytes) (h : a + m ≤ bs.length) :
    (v.domPut k o bs).domBytes k (o + a) m = (bs.drop a).take m := by
  have hc' : Sparse.canonical domDefault (v.domPut k o bs).dom = true := writeDflt_canonical _ _ _ _ hc
  rw [domBytes_eq_map (Bool.and_eq_true_iff.1 hc').1]
  refine List.ext_getElem (by simp; omega) fun j h1 h2 => ?_
  have hj : j < m := by simpa using h1
  rw [List.getElem_map, List.getElem_range, domByte_domPut, if_pos (by omega), List.getElem_take, List.getElem_drop]
  have hidx : k * domSpan + (o + a) + j - (k * domSpan + o) = a + j := by omega
  rw [hidx, List.getElem?_eq_getElem (by omega), Option.getD_some]

/-- PQ_DESC of descriptors that are not refused. -/
theorem pqDesc_next (hh : hostReady tr s = true) (hq : s.get Key.RPL_STATE ≠ 1) (hb : buffered s) (hm : Memory.wf s = true)
    (hd : d ≠ []) (hl : d.length ≤ 4096) (ho : o + d.length ≤ 8192) (hc : (heardBytes tr o d s).pqDescRefused o d = false) :
    ∃ t, exec (.pqDescWrite tr o d) s = .next t ∧ accepted tr t = true ∧ t.domBytes Dom.PQ_DESC o d.length = d ∧
      (∀ i, i < d.length / 16 → t.queue (o / 16 + i) = queueFresh (u d (16 * i) 16)) ∧
      (∀ q, q < o / 16 ∨ o / 16 + d.length / 16 ≤ q → t.queue q = s.queue q) ∧ keepsRegs canKeys s t ∧
      keepsBytes (Dom.PQ_DESC * domSpan + o) d.length s.dom t.dom ∧ t.stg = s.stg ∧ t.env = s.env ∧ t.ctxs = s.ctxs := by
  have hmod : o % 16 = 0 := by
    by_contra hne
    simp [State.pqDescRefused, hne] at hc
  have hqueue : ∀ q, (heardBytes tr o d s).queue q = s.queue q := fun q => by cases tr <;> rfl
  have hcanon : Sparse.canonical domDefault (heardBytes tr o d s).dom = true := by
    rw [heardBytes_dom]
    exact dom_canonical hm
  obtain ⟨⟨m, e⟩, hin, hout⟩ := queuesFresh_spec ((heardBytes tr o d s).domPut Dom.PQ_DESC o d) (o / 16) (d.length / 16)
  obtain ⟨f, ef⟩ := syncInts_moves_field ((heardBytes tr o d s).pqDescWrite o d)
  have hw : (heardBytes tr o d s).writeDomain tr (entryKey 0x5100 0) o d = (((heardBytes tr o d s).pqDescWrite o d).syncInts, none) := by
    show (if (heardBytes tr o d s).pqDescRefused o d then _ else _) = _
    rw [hc]
    rfl
  rw [ef, pqDescWrite_eq] at hw
  have hdesc : ∀ i, i < d.length / 16 → ((heardBytes tr o d s).domPut Dom.PQ_DESC o d).pqDesc (o / 16 + i) = u d (16 * i) 16 := by
    intro i hi
    have hoff : 16 * (o / 16 + i) = o + 16 * i := by omega
    rw [State.pqDesc, hoff, domBytes_domPut_part hcanon _ _ _ _ _ (by omega), u]
  obtain ⟨t, he, hacc, hregs, hdom, p, q, et⟩ := tableCommit_next hh hq hb (n := 8192) (by decide) (fun e _ => stateOk_of_table (by decide) _ _ e)
    hd hl ho hw (by rw [e]; rfl)
  generalize hz : ((heardBytes tr o d s).domPut Dom.PQ_DESC o d).queuesFresh (o / 16) (d.length / 16) = z at *
  have hzdom : z.dom = ((heardBytes tr o d s).domPut Dom.PQ_DESC o d).dom := by rw [e]
  refine ⟨t, he, hacc, ?_, fun i hi => ?_, fun r hr => ?_, ?_, ?_, ?_⟩
  · rw [State.domBytes, hdom]
    show Mem.read domDefault z.dom _ _ = d
    rw [hzdom]
    exact domBytes_domPut_self hcanon _ _ _
  · rw [et, ← hdesc i hi]
    exact hin i hi
  · rw [et, ← hqueue r]
    exact hout r hr
  · exact keepsRegs_heardBytes (ks := []) (tr := tr) (o := o) (d := d) hregs (fun k _ => by
      show z.get k = _
      rw [e]
      rfl)
  · rw [hdom, ← heardBytes_dom s tr o d]
    show keepsBytes _ _ _ z.dom
    rw [hzdom]
    exact keepsBytes_domPut _ _ _ _
  · have hz : z.stg = (heardBytes tr o d s).stg ∧ z.env = (heardBytes tr o d s).env ∧ z.ctxs = (heardBytes tr o d s).ctxs := by
      rw [e]
      exact ⟨rfl, rfl, rfl⟩
    obtain ⟨hzs, hze, hzc⟩ := hz
    have hs : (heardBytes tr o d s).stg = s.stg ∧ (heardBytes tr o d s).env = s.env ∧ (heardBytes tr o d s).ctxs = s.ctxs := by
      obtain ⟨r, f', c, j, x, eh⟩ := heardBytes_moves s tr o d
      rw [eh]
      exact ⟨rfl, rfl, rfl⟩
    obtain ⟨hss, hse, hsc⟩ := hs
    exact ⟨(congrArg State.stg et :).trans (hzs.trans hss), (congrArg State.env et :).trans (hze.trans hse),
      (congrArg State.ctxs et :).trans (hzc.trans hsc)⟩

end Table

/-- Settles O25: each table's write is a fold of its entries' writes, whose result goes into the transport's register. -/
theorem tableWrites : Obligations.TableWrites := by
  intro tr s o d hh hq hb hm hd hl
  exact ⟨pqDesc_next hh hq hb hm hd hl, pressDesc_next hh hq hb hm hd hl, pressCopyTable_next hh hq hb hm hd hl,
    sfuJobTable_next hh hq hb hm hd hl, cleGroups_next hh hq hb hm hd hl, fepWindows_next hh hq hb hm hd hl,
    fepRoute_next hh hq hb hm hd hl, fepReqTable_next hh hq hb hm hd hl⟩

end Sys2Proof.Machine

/-! SUPPORT. One event logged while neither the replay log nor the trace runs (R426). -/

namespace Sys2Proof.Machine

open Sys2Proof

/-- The registers that one event logged can move: the log's head and the interrupt causes. -/
def logKeys : List Nat := Key.FLT_LOG_HEAD :: causeKeys

/-- Whether the log and the trace run is read from two fields. -/
theorem quiet_congr {s t : State} (hq : quiet s = true) (hg : t.get Key.RPL_STATE = s.get Key.RPL_STATE) (ho : t.obs = s.obs) :
    quiet t = true := by
  unfold quiet at *
  rw [hg, ho]
  exact hq

/-- The replay log stands still in a quiet state. -/
theorem rplState_ne_of_quiet {s : State} (h : quiet s = true) : s.get Key.RPL_STATE ≠ 1 := by
  simp only [quiet, Bool.and_eq_true, bne_iff_ne] at h
  exact h.1

theorem evCount_moves (s : State) (e : Ev) : ∃ r d f, s.evCount e = { s with regs := r, dom := d, field := f } := by
  unfold State.evCount
  dsimp only
  split
  · obtain ⟨r, f, h⟩ := setCause_moves (s.domPut Dom.FLT_CLASS_COUNT (4 * e.cls)
      (le 4 (satAdd max32 (unle (s.domBytes Dom.FLT_CLASS_COUNT (4 * e.cls) 4)) 1)))
      (unle ((s.domPut Dom.FLT_CLASS_COUNT (4 * e.cls)
        (le 4 (satAdd max32 (unle (s.domBytes Dom.FLT_CLASS_COUNT (4 * e.cls) 4)) 1))).domBytes Dom.INT_ROUTE e.cls 1) % 4) 4
    exact ⟨r, _, f, h⟩
  · exact ⟨_, _, _, rfl⟩

theorem evCount_keepsRegs (s : State) (e : Ev) : keepsRegs causeKeys s (s.evCount e) := by
  unfold State.evCount
  dsimp only
  split
  · refine keepsRegs.trans (ks := []) (keepsRegs_of_regs ?_) (setCause_keepsRegs _ _ (Nat.mod_lt _ (by decide))) (List.nil_subset _)
      (List.Subset.refl _)
    rfl
  · exact keepsRegs_of_regs rfl

/-- The fault log's own entries of one event: the first record, the ring and its head. -/
def State.logRecord (s : State) (e : Ev) : State :=
  ((if allZero (s.domBytes Dom.FLT_FIRST 0 32) then s.domPut Dom.FLT_FIRST 0 (s.faultRecord e) else s).domPut Dom.FLT_LOG
    (32 * (s.get Key.FLT_LOG_HEAD % 256)) (s.faultRecord e)).put Key.FLT_LOG_HEAD ((s.get Key.FLT_LOG_HEAD + 1) % 2 ^ 32)

theorem logRecord_moves (s : State) (e : Ev) : ∃ r d, s.logRecord e = { s with regs := r, dom := d } := by
  unfold State.logRecord
  split
  · exact ⟨_, _, rfl⟩
  · exact ⟨_, _, rfl⟩

theorem logRecord_keepsRegs (s : State) (e : Ev) : keepsRegs [Key.FLT_LOG_HEAD] s (s.logRecord e) := by
  unfold State.logRecord
  refine keepsRegs.trans (ks := []) (keepsRegs_of_regs ?_) (keepsRegs_put _ _ _) (List.nil_subset _) (List.Subset.refl _)
  split
  · rfl
  · rfl

theorem get_logRecord_head (s : State) (e : Ev) : (s.logRecord e).get Key.FLT_LOG_HEAD = (s.get Key.FLT_LOG_HEAD + 1) % 2 ^ 32 := by
  unfold State.logRecord
  rw [get_put_self]
  exact Nat.mod_eq_of_lt (Nat.lt_trans (Nat.mod_lt _ (by decide)) (by decide))

section Quiet
variable {s : State} (hq : quiet s = true) (e : Ev)
include hq

/-- While neither the replay log nor the trace runs, an event's log is its record and its count. -/
theorem log_quiet : s.log e = (s.logRecord e).evCount e := by
  have hrec : quiet (s.logRecord e) = true := by
    obtain ⟨r, d, h⟩ := logRecord_moves s e
    exact quiet_congr hq (logRecord_keepsRegs s e _ (by decide)) (by rw [h])
  have hcount : quiet ((s.logRecord e).evCount e) = true := by
    obtain ⟨r, d, f, h⟩ := evCount_moves (s.logRecord e) e
    exact quiet_congr hrec (evCount_keepsRegs _ e _ (by decide)) (by rw [h])
  show s.logOne e = _
  unfold State.logOne
  exact (congrArg (State.trace · _ _ _ _ _ _) (rpl_quiet hcount ..)).trans (trace_quiet hcount ..)

theorem log_moves : ∃ r d f, s.log e = { s with regs := r, dom := d, field := f } := by
  obtain ⟨r, d, h⟩ := logRecord_moves s e
  obtain ⟨r', d', f, h'⟩ := evCount_moves (s.logRecord e) e
  rw [log_quiet hq, h', h]
  exact ⟨_, _, _, rfl⟩

theorem log_keepsRegs : keepsRegs logKeys s (s.log e) := by
  rw [log_quiet hq]
  exact (logRecord_keepsRegs s e).trans (evCount_keepsRegs _ e) (List.cons_subset.2 ⟨List.mem_cons_self, List.nil_subset _⟩)
    (List.subset_cons_self ..)

theorem get_log_head : (s.log e).get Key.FLT_LOG_HEAD = (s.get Key.FLT_LOG_HEAD + 1) % 2 ^ 32 := by
  rw [log_quiet hq, evCount_keepsRegs _ e _ (by decide), get_logRecord_head]

end Quiet

end Sys2Proof.Machine

/-! SUPPORT. The transports' own commands: transfer buffers, the Control Port window, short frames and the end of a transaction
(R382 to R388). -/

namespace Sys2Proof.Machine

open Sys2Proof

/-! ### RBUF_READ and WBUF_WRITE -/

/-- Bytes put into a write buffer that has room for them. -/
theorem wbuf_putWrite {s : State} (tr : Transport) {o : Nat} {d : Bytes} (h : Sparse.canonical (fun _ => 0) (s.tport tr).wbuf = true)
    (hfit : o + d.length ≤ 4096) :
    bufBytes ((s.putWrite tr o d).tport tr).wbuf o d.length = d ∧
      keepsBytes o d.length (s.tport tr).wbuf ((s.putWrite tr o d).tport tr).wbuf := by
  have hput : ((s.putWrite tr o d).tport tr).wbuf = bufPut (s.tport tr).wbuf o d := by
    rw [← List.take_of_length_le (i := 4096 - o) (l := d) (by omega)]
    cases tr
    · simp only [State.putWrite, List.take_take, Nat.min_self]
      rfl
    · simp only [State.putWrite, List.take_take, Nat.min_self]
      rfl
  rw [hput]
  exact ⟨memRead_writeDflt_self _ o d h, keepsBytes_writeDflt _ _ o d⟩

section Buffer
variable {s : State} {tid o : Nat} {d : Bytes}

/-- A request on the field network's buffers runs in the state that has heard it. -/
theorem canRequest_buffer (h : hostReady .can s = true) {r : DictReq} (hop : (r.op == 0x10 || r.op == 0x11) = true) (d : Bytes) :
    s.fresh.canRequest r d = taken .can ((heard .can s).bufferTxn r d).2 ((heard .can s).bufferTxn r d).1 := by
  obtain ⟨-, hbusy, hsends⟩ := hostReady_parts h
  have hs : s.fresh.canSends = true := hsends rfl
  have hb : s.fresh.canHeard.can.busy = none := hbusy
  unfold State.canRequest
  rw [hs]
  dsimp only
  rw [hb, hop]
  rfl

/-- A request on the buffers is well formed. -/
theorem formed_buffer {op : Nat} (hop : op = 0x10 ∨ op = 0x11) (ht : tid < 256) (ho : o < 2 ^ 32) {n : Nat} (hn : n < 2 ^ 32) :
    ({ tr := .can, op := op, tid := tid, offset := o, length := n } : DictReq).formed = true := by
  unfold DictReq.formed DictReq.headFormed
  rcases hop with rfl | rfl
  · simp only [ht, ho, hn]
    rfl
  · simp only [ht, ho, hn]
    rfl

/-- The two buffer transactions on spans that fit. -/
theorem bufferTxn_fits (z : State) (ht : tid < 256) (hd : 0 < d.length) (hl : d.length ≤ 48) (ho : o + d.length ≤ 4096) (bs : Bytes) {op : Nat}
    (hop : op = 0x10 ∨ op = 0x11) :
    z.bufferTxn { tr := .can, op := op, tid := tid, offset := o, length := d.length } bs =
      if op = 0x10 then (z, { op := op, tid := tid, tail := zeros 8 ++ bufBytes z.can.rbuf o d.length })
      else (z.putWrite .can o (sub bs 0 d.length), { op := op, tid := tid }) := by
  unfold State.bufferTxn
  rw [formed_buffer hop ht (by omega) (by omega)]
  have hspan : ¬(d.length = 0 ∨ 48 < d.length ∨ 4096 < o + d.length) := by omega
  simp only [hspan, Bool.not_true, Bool.false_eq_true, if_false]
  rfl

theorem onlyDict_putWrite (s : State) (o : Nat) (d : Bytes) : onlyDict s (s.putWrite .can o d) := rfl

theorem putWrite_can (s : State) (o : Nat) (d : Bytes) :
    (s.putWrite .can o d).can.rbuf = s.can.rbuf ∧ (s.putWrite .can o d).cp = s.cp ∧ (s.putWrite .can o d).dom = s.dom := ⟨rfl, rfl, rfl⟩

theorem wbufWrite_next (h : hostReady .can s = true) (hb : buffered s) (ht : tid < 256) (hd : 0 < d.length) (hl : d.length ≤ 48)
    (ho : o + d.length ≤ 4096) :
    ∃ t, exec (.wbufWrite 0 tid o d.length d) s = .next t ∧ accepted .can t = true ∧
      bufBytes t.can.wbuf o d.length = d ∧ keepsBytes o d.length s.can.wbuf t.can.wbuf ∧ t.can.rbuf = s.can.rbuf ∧ t.cp = s.cp ∧
      keepsRegs canKeys s t ∧ t.dom = s.dom ∧ onlyDict s t := by
  obtain ⟨-, -, -, hcanon⟩ := hb
  have hrun : exec (.wbufWrite 0 tid o d.length d) s =
      .next (taken .can { op := 0x11, tid := tid } ((heard .can s).putWrite .can o d)) := by
    refine (hosted_of_ready h _).trans (congrArg _ ?_)
    refine (canRequest_buffer h rfl d).trans ?_
    rw [show (0 != 0) = false from rfl, bufferTxn_fits _ ht hd hl ho d (.inr rfl), sub_self, if_neg (by decide)]
  obtain ⟨hput, hkeep⟩ := wbuf_putWrite (s := heard .can s) .can hcanon ho
  have hregs : keepsRegs canKeys s ((heard .can s).putWrite .can o d) := heard_keepsRegs .can s
  have hdict := (onlyDict_heard .can s).trans (onlyDict_putWrite (heard .can s) o d)
  have hrest := putWrite_can (heard .can s) o d
  rw [show (heard .can s).can.rbuf = s.can.rbuf from rfl, show (heard .can s).cp = s.cp from rfl, heard_dom] at hrest
  generalize (heard .can s).putWrite .can o d = z at *
  obtain ⟨hrbuf, hcp, hdom⟩ := hrest
  exact ⟨_, hrun, rfl, hput, hkeep, hrbuf, hcp, hregs, hdom, hdict.trans (onlyDict_taken ..)⟩

theorem rbufRead_next (h : hostReady .can s = true) (ht : tid < 256) (hd : 0 < d.length) (hl : d.length ≤ 48) (ho : o + d.length ≤ 4096) :
    ∃ t, exec (.rbufRead 0 tid o d.length) s = .next t ∧ accepted .can t = true ∧
      (∀ x, t.can.busy = some x → x.tail = zeros 8 ++ bufBytes s.can.rbuf o d.length) ∧ t.can.rbuf = s.can.rbuf ∧
      t.can.wbuf = s.can.wbuf ∧ t.cp = s.cp ∧ keepsRegs canKeys s t ∧ t.dom = s.dom ∧ onlyDict s t := by
  have hrun : exec (.rbufRead 0 tid o d.length) s =
      .next (taken .can { op := 0x10, tid := tid, tail := zeros 8 ++ bufBytes s.can.rbuf o d.length } (heard .can s)) := by
    refine (hosted_of_ready h _).trans (congrArg _ ?_)
    refine (canRequest_buffer h rfl []).trans ?_
    rw [show (0 != 0) = false from rfl, bufferTxn_fits _ ht hd hl ho [] (.inl rfl), if_pos rfl]
    rfl
  have hregs : keepsRegs canKeys s (heard .can s) := heard_keepsRegs .can s
  have hdict : onlyDict s (heard .can s) := onlyDict_heard .can s
  have hrest : (heard .can s).can = s.can ∧ (heard .can s).cp = s.cp ∧ (heard .can s).dom = s.dom := ⟨rfl, rfl, rfl⟩
  generalize heard .can s = z at *
  obtain ⟨hcan, hcp, hdom⟩ := hrest
  refine ⟨_, hrun, rfl, fun x hx => ?_, ?_, ?_, hcp, hregs, hdom, hdict.trans (onlyDict_taken ..)⟩
  · cases hx
    rfl
  · exact (congrArg Port.rbuf hcan :)
  · exact (congrArg Port.wbuf hcan :)

end Buffer

/-! ### The window -/

/-- What a read of the window answers, by the 8-byte word it names; the word of CP_REQ answers free bytes. -/
theorem windowRead_word (s : State) {w v : Nat} (h1 : w ≠ 1) (h2 : w ≠ 2) (harg : w = 0 → v = s.win.arg.toNat)
    (hval : w = 3 → v = s.win.value.toNat)
    (hlist : 0x20 ≤ w → w < 0x40 → v = ((Sparse.get? s.win.list (w - 0x20)).getD 0).toNat)
    (hrbuf : 0x200 ≤ w → w < 0x400 → v = unle (bufBytes s.cp.rbuf (8 * (w - 0x200)) 8))
    (hwbuf : 0x400 ≤ w → w < 0x600 → v = unle (bufBytes s.cp.wbuf (8 * (w - 0x400)) 8))
    (hrest : 4 ≤ w → w < 0x20 ∨ (0x40 ≤ w ∧ w < 0x200) ∨ 0x600 ≤ w → v = 0) : s.windowRead (w * 8) = v := by
  have hl : (w * 8 - 0x100) / 8 = w - 0x20 := by omega
  have hr : w * 8 - 0x1000 = 8 * (w - 0x200) := by omega
  have hw : w * 8 - 0x2000 = 8 * (w - 0x400) := by rw [Nat.mul_comm, Nat.mul_sub]
  unfold State.windowRead
  rw [hl, hr, hw]
  refine iteInduction (motive := (· = v)) (fun _ => (harg (by omega)).symm) (fun h0 => ?_)
  refine iteInduction (motive := (· = v)) (fun _ => absurd ‹_› (by omega)) (fun _ => ?_)
  refine iteInduction (motive := (· = v)) (fun _ => absurd ‹_› (by omega)) (fun _ => ?_)
  refine iteInduction (motive := (· = v)) (fun _ => (hval (by omega)).symm) (fun h3 => ?_)
  refine iteInduction (motive := (· = v)) (fun _ => (hlist (by omega) (by omega)).symm) (fun _ => ?_)
  refine iteInduction (motive := (· = v)) (fun _ => (hrbuf (by omega) (by omega)).symm) (fun _ => ?_)
  exact iteInduction (motive := (· = v)) (fun _ => (hwbuf (by omega) (by omega)).symm)
    (fun _ => (hrest (by omega) (by omega)).symm)

section Window
variable {s : State} (hc : s.clocked = true)
include hc

theorem cpRespRead_of_clocked : exec .cpRespRead s = .next (cpRespReadOp s.env.cpAddr s) := congrArg _ (if_pos hc)

theorem registerWrite_of_clocked (l : Location) (v : U64) : exec (.registerWrite l v) s = .next (s.fresh.windowWrite l v) :=
  congrArg _ (if_pos hc)

theorem cpRespRead_resp (ha : bits s.env.cpAddr 3 17 = 2) :
    ∃ t, exec .cpRespRead s = .next t ∧ t.outbox = s.outbox ++ [.cpData (BitVec.ofNat 64 s.cpResp)] ∧
      t.win = { s.win with overlap := false } ∧ t = { s with outbox := t.outbox, win := t.win } := by
  refine ⟨_, cpRespRead_of_clocked hc, ?_⟩
  unfold cpRespReadOp
  rw [if_pos ha]
  unfold State.readAccess
  rw [ha]
  exact ⟨rfl, rfl, rfl⟩

theorem cpRespRead_word {v : Nat} (h2 : bits s.env.cpAddr 3 17 ≠ 2)
    (hv : bits s.env.cpAddr 3 17 ≠ 1 → s.fresh.windowRead (bits s.env.cpAddr 3 17 * 8) = v) :
    ∃ t, exec .cpRespRead s = .next t ∧ t = { s with outbox := t.outbox, free := t.free } ∧
      (bits s.env.cpAddr 3 17 ≠ 1 → t.outbox = s.outbox ++ [.cpData (BitVec.ofNat 64 v)]) := by
  refine ⟨_, cpRespRead_of_clocked hc, ?_⟩
  unfold cpRespReadOp
  rw [if_neg h2]
  refine ⟨rfl, fun h1 => ?_⟩
  rw [← hv h1]
  rfl

theorem cpArg_write (v : U64) : ∃ t, exec (.registerWrite .cpArg v) s = .next t ∧ t.win = { s.win with arg := v } ∧
    t = { s with win := t.win, free := t.free } := by
  refine ⟨_, registerWrite_of_clocked hc .cpArg v, ?_, rfl⟩
  show ({ s.win with arg := BitVec.ofNat 64 v.toNat } : CpWindow) = _
  rw [BitVec.ofNat_toNat, BitVec.setWidth_eq]

theorem cpList_write {j : Nat} (v : U64) (hj : j < 32) : ∃ t, exec (.registerWrite (.cpList j) v) s = .next t ∧
    Sparse.get? t.win.list j = some v ∧ t = { s with win := t.win, free := t.free } := by
  refine ⟨s.fresh.putSel j v, (registerWrite_of_clocked hc _ v).trans (congrArg _ (if_pos hj)), ?_, rfl⟩
  show Sparse.get? (Sparse.put s.win.list j v) j = some v
  rw [get?_put, if_pos rfl]

theorem cpWbuf_write {o : Nat} (v : U64) (hb : buffered s) (h8 : o % 8 = 0) (ho : o < 4096) :
    ∃ t, exec (.registerWrite (.cpWbuf o) v) s = .next t ∧ bufBytes t.cp.wbuf o 8 = le 8 v.toNat ∧
      t = { s with cp := t.cp, free := t.free } := by
  obtain ⟨-, hcanon, -, -⟩ := hb
  obtain ⟨hput, -⟩ := wbuf_putWrite (s := s.fresh) .cp (o := o) (d := le 8 v.toNat) hcanon (by rw [le_length]; omega)
  rw [le_length] at hput
  exact ⟨s.fresh.putWrite .cp o (le 8 v.toNat), (registerWrite_of_clocked hc _ v).trans (congrArg _ (if_pos ⟨h8, ho⟩)), hput, rfl⟩

end Window

/-! ### Short frames -/

section Short
variable {s : State} {bs : Bytes}

theorem clocked_of_live (h : s.live = true) : s.clocked = true := by
  simp only [State.live, Bool.and_eq_true, beq_iff_eq] at h
  obtain ⟨hp, hs⟩ := h
  simp [State.clocked, hp, hs]

/-- A frame's payload on a port that is ready. -/
theorem canFrame_next (h : hostReady .can s = true) (v : U64) : exec (.registerWrite (.canFrame bs) v) s = .next (s.fresh.canPayload bs) := by
  obtain ⟨hl, -, -⟩ := hostReady_parts h
  exact (registerWrite_of_clocked (clocked_of_live hl) _ v).trans (congrArg _ (if_pos hl))

/-- A payload shorter than 2 bytes is heard and ignored. -/
theorem canPayload_ignored (h : hostReady .can s = true) (hl : bs.length < 2) : s.fresh.canPayload bs = heard .can s := by
  obtain ⟨-, -, hs⟩ := hostReady_parts h
  have hs' : s.fresh.canSends = true := hs rfl
  unfold State.canPayload
  rw [if_neg (by omega), if_neg (by omega), if_pos hs']
  rfl

/-- A request with a reserved field that is not zero fails check 1 (R375). -/
theorem dictCheck_bad {r : DictReq} (h : r.bad = true) : s.dictCheck r = some { cls := Ec.descRange, det := 0xC6, pos := r.badSel } := by
  have hf : r.formed = false := by simp [DictReq.formed, DictReq.headFormed, h]
  unfold State.dictCheck
  rw [hf]
  rfl

theorem recordWrite_quiet (hq : quiet s = true) (r : DictReq) (b : Bool) : s.recordWrite r b = s := by
  unfold State.recordWrite
  dsimp only
  split
  · exact rpl_quiet hq ..
  split
  · exact rpl_quiet hq ..
  · rfl

/-- A request that fails check 1 leaves its refusal. -/
theorem runTxn_bad (hq : quiet s = true) {r : DictReq} (h : r.bad = true) : s.runTxn r =
    (s.noteRefusal r.tr (DictFail.ev { cls := Ec.descRange, det := 0xC6, pos := r.badSel } r),
      { r.txn with code := Ec.descRange, detail := 0xC6, pos := r.badSel }) := by
  unfold State.runTxn
  rw [dictCheck_bad h]
  unfold State.failTxn
  dsimp only
  rw [if_neg (by decide), recordWrite_quiet hq]

/-- A payload's first bytes are its request's operation and transaction number, whatever follows. -/
theorem ofPayload_head (hl : 2 ≤ bs.length) (more : Bytes) :
    (DictReq.ofPayload (bs ++ more)).op = u bs 0 1 ∧ (DictReq.ofPayload (bs ++ more)).tid = u bs 1 1 := by
  match bs, hl with
  | a :: b :: r, _ => exact ⟨rfl, rfl⟩

/-- The request of a payload shorter than 16 bytes: its missing bytes are free, and a reserved field counts as not zero (R387). -/
def State.shortRequest (s : State) (bs : Bytes) : DictReq :=
  { DictReq.ofPayload (bs ++ (List.range (16 - bs.length)).map (Config.openRead s.free)) with bad := true }

/-- A payload of 2 to 15 bytes is refused. -/
theorem canPayload_refused (h : hostReady .can s = true) (hq : quiet s = true) (hl : bs.length < 16) (h2 : 2 ≤ bs.length)
    (h10 : u bs 0 1 ≠ 0x10) (h11 : u bs 0 1 ≠ 0x11) : s.fresh.canPayload bs =
      taken .can { (s.fresh.shortRequest bs).txn with code := Ec.descRange, detail := 0xC6, pos := (s.fresh.shortRequest bs).badSel }
        ((heard .can s).noteRefusal .can
          (DictFail.ev { cls := Ec.descRange, det := 0xC6, pos := (s.fresh.shortRequest bs).badSel } (s.fresh.shortRequest bs))) := by
  obtain ⟨hop, -⟩ := ofPayload_head h2 ((List.range (16 - bs.length)).map (Config.openRead s.fresh.free))
  have hquiet : quiet (heard .can s) = true := quiet_congr hq (heard_keepsRegs .can s _ (by decide)) rfl
  have hbuf : ((s.fresh.shortRequest bs).op == 0x10 || (s.fresh.shortRequest bs).op == 0x11) = false := by
    have e : (s.fresh.shortRequest bs).op = u bs 0 1 := hop
    rw [e]
    simp [h10, h11]
  have hrun := request_heard (r := s.fresh.shortRequest bs) h rfl hbuf
  rw [runTxn_bad hquiet rfl] at hrun
  unfold State.canPayload
  rw [if_neg (by omega), if_pos h2]
  exact hrun

theorem shortFrame_refused (h : hostReady .can s = true) (hq : quiet s = true) (hl : bs.length < 16) (v : U64) (h2 : 2 ≤ bs.length)
    (h10 : u bs 0 1 ≠ 0x10) (h11 : u bs 0 1 ≠ 0x11) :
    ∃ t, exec (.registerWrite (.canFrame bs) v) s = .next t ∧
      (∃ x, t.can.busy = some x ∧ x.op = u bs 0 1 ∧ x.tid = u bs 1 1 ∧ x.code = 0x41 ∧ x.detail = 0xC6) ∧
      t.get Key.DICT_REFUSED_CAN = satAdd max32 (s.get Key.DICT_REFUSED_CAN) 1 ∧
      t.env = s.env ∧ t.stg = s.stg ∧ t.queues = s.queues ∧ t.ctxs = s.ctxs ∧ t.pools = s.pools := by
  have hquiet : quiet (heard .can s) = true := quiet_congr hq (heard_keepsRegs .can s _ (by decide)) rfl
  refine ⟨_, (canFrame_next h v).trans (congrArg _ (canPayload_refused h hq hl h2 h10 h11)), ?_⟩
  obtain ⟨hop, htid⟩ := ofPayload_head h2 ((List.range (16 - bs.length)).map (Config.openRead s.fresh.free))
  have hr : (s.fresh.shortRequest bs).op = u bs 0 1 ∧ (s.fresh.shortRequest bs).tid = u bs 1 1 := ⟨hop, htid⟩
  generalize s.fresh.shortRequest bs = r at *
  generalize DictFail.ev { cls := Ec.descRange, det := 0xC6, pos := r.badSel } r = e
  obtain ⟨g, d, f, el⟩ := log_moves hquiet e
  have hget : ((heard .can s).log e).get Key.DICT_REFUSED_CAN = s.get Key.DICT_REFUSED_CAN :=
    (log_keepsRegs hquiet e _ (by decide)).trans (heard_keepsRegs .can s _ (by decide))
  have hz : ((heard .can s).log e).env = s.env ∧ ((heard .can s).log e).stg = s.stg ∧ ((heard .can s).log e).queues = s.queues ∧
      ((heard .can s).log e).ctxs = s.ctxs ∧ ((heard .can s).log e).pools = s.pools := by
    rw [el]
    exact ⟨rfl, rfl, rfl, rfl, rfl⟩
  unfold State.noteRefusal
  generalize (heard .can s).log e = z at *
  refine ⟨⟨_, rfl, hr.1, hr.2, rfl, rfl⟩, ?_, hz⟩
  rw [get_taken, get_count_self, hget]

theorem shortFrame_ignored (h : hostReady .can s = true) (hl : bs.length < 2) (v : U64) :
    ∃ t, exec (.registerWrite (.canFrame bs) v) s = .next t ∧ t.can = s.can ∧ keepsRegs canKeys s t ∧
      t = { s with regs := t.regs, free := t.free } :=
  ⟨heard .can s, (canFrame_next h v).trans (congrArg _ (canPayload_ignored h hl)), rfl, heard_keepsRegs .can s, rfl⟩

end Short

/-! ### The end of a transaction -/

section Complete
variable {s : State} {x : Txn}

theorem hosted_of_live (h : s.live = true) (f : State → State) : hosted f s = .next (f s.fresh) := congrArg _ (if_pos h)

/-- A transaction that neither a warm reset nor a new data rate follows leaves nothing behind. -/
theorem afterTxn_plain (s : State) (hw : x.warm = false) (hr : x.rate = none) : s.afterTxn x = s := by
  simp [State.afterTxn, hw, hr]

theorem complete_cp (hl : s.live = true) (hb : s.cp.busy = some x) (hw : x.warm = false) (hr : x.rate = none) :
    ∃ t, exec (.transactionComplete .cp) s = .next t ∧ t.cp = { s.cp with busy := none } ∧
      t.win = { s.win with value := x.value.getD s.win.value, seq := (s.win.seq + 1) % 256, pos := x.pos, code := x.code,
                           detail := x.detail } ∧
      t = { s with cp := t.cp, win := t.win, free := t.free } := by
  have hrun : transactionCompleteOp .cp s.fresh = s.fresh.cpComplete x := by
    have hb' : (s.fresh.tport .cp).busy = some x := hb
    unfold transactionCompleteOp
    rw [hb']
  exact ⟨_, (hosted_of_live hl _).trans (congrArg _ (hrun.trans (afterTxn_plain _ hw hr))), rfl, rfl, rfl⟩

theorem complete_can (hl : s.live = true) (hb : s.can.busy = some x) (hw : x.warm = false) (hr : x.rate = none)
    (hn : s.field.waiting = []) :
    ∃ t, exec (.transactionComplete .can) s = .next t ∧ t.can = { s.can with busy := none } ∧
      t.outbox = s.outbox ++ [.canFrame (5 * 128 + s.get Key.COM_CAN_NODE) (canPad x.response)] ∧
      keepsRegs [Key.COM_CAN_TEC, Key.COM_CAN_STATE] s t ∧
      t = { s with regs := t.regs, can := t.can, field := t.field, outbox := t.outbox, free := t.free } := by
  have hrun : transactionCompleteOp .can s.fresh = s.fresh.canComplete x := by
    have hb' : (s.fresh.tport .can).busy = some x := hb
    unfold transactionCompleteOp
    rw [hb']
  have hone : s.fresh.canComplete x = State.canSent { s.fresh with can := { s.can with busy := none }, field := { s.field with waiting := [] } }
      (5 * 128 + s.get Key.COM_CAN_NODE) (canPad x.response) := by
    have hn' : s.fresh.field.waiting = [] := hn
    unfold State.canComplete
    rw [hn']
    exact afterTxn_plain _ hw hr
  refine ⟨_, (hosted_of_live hl _).trans (congrArg _ (hrun.trans hone)), rfl, rfl, ?_, rfl⟩
  exact (keepsRegs_put s Key.COM_CAN_TEC _).trans (keepsRegs_put _ Key.COM_CAN_STATE _) (by decide) (by decide)

end Complete

/-- Settles O30: each command's effect by its own lemma. -/
theorem transportCommands : Obligations.TransportCommands := by
  intro s
  refine ⟨fun tid o d h hb ht hd hl ho => ⟨wbufWrite_next h hb ht hd hl ho, rbufRead_next h ht hd hl ho⟩, fun hc => ?_,
    fun bs v h hq hl => ⟨fun h2 => shortFrame_ignored h h2 v, fun h2 h10 h11 => shortFrame_refused h hq hl v h2 h10 h11⟩,
    fun x hl hb hw hr => complete_cp hl hb hw hr, fun x hl hb hw hr hn => complete_can hl hb hw hr hn⟩
  refine ⟨cpRespRead_resp hc, ?_, cpArg_write hc, fun j v hj => cpList_write hc v hj, fun o v hb h8 ho => cpWbuf_write hc v hb h8 ho⟩
  rintro _ v rfl h2 harg hval hlist hrbuf hwbuf hrest
  exact cpRespRead_word hc h2 fun h1 => windowRead_word s.fresh h1 h2 harg hval hlist hrbuf hwbuf hrest

end Sys2Proof.Machine

/-! SUPPORT. What the work of the units leaves: memories read and written, and work counted (R46, R277, R430, R437). -/

namespace Sys2Proof.Machine

open Sys2Proof

/-- A state without its entries, its memories, its meter and what it observes. -/
def State.beyondWork (s : State) : State :=
  { s with regs := [], obs := {}, stg := [], env := { s.env with mem := [] }, meter := {}, free := 0 }

/-- Work leaves every part but those. -/
def WorkFrame (s t : State) : Prop := t.beyondWork = s.beyondWork

/-- A command's effect while the engine works. -/
theorem next_of_act {s t : State} (f : State → State) (hl : s.live = true) (h : f s = t) :
    (.next (act f s) : Host.Outcome State Fault Refusal) = .next t := by rw [act_of_live f hl, h]

theorem next_of_actFresh {s t : State} (f : State → State) (hl : s.live = true) (h : f s.fresh = t) :
    (.next (actFresh f s) : Host.Outcome State Fault Refusal) = .next t := by rw [actFresh, if_pos hl, h]

theorem WorkFrame.eq {s t : State} (h : WorkFrame s t) :
    t = { s with regs := t.regs, obs := t.obs, stg := t.stg, env := { s.env with mem := t.env.mem }, meter := t.meter, free := t.free } :=
  calc t = { t.beyondWork with regs := t.regs, obs := t.obs, stg := t.stg, env := { t.beyondWork.env with mem := t.env.mem },
                               meter := t.meter, free := t.free } := rfl
    _ = { s.beyondWork with regs := t.regs, obs := t.obs, stg := t.stg, env := { s.beyondWork.env with mem := t.env.mem },
                            meter := t.meter, free := t.free } := by rw [h]
    _ = _ := rfl

namespace WorkFrame

theorem refl (s : State) : WorkFrame s s := rfl

theorem trans {s t z : State} (h : WorkFrame s t) (h' : WorkFrame t z) : WorkFrame s z := Eq.trans h' h

theorem ite {c : Prop} [Decidable c] {s a b : State} (ha : WorkFrame s a) (hb : WorkFrame s b) : WorkFrame s (if c then a else b) := by
  split
  · exact ha
  · exact hb

theorem foldl {α : Type} {f : State → α → State} (l : List α) (s : State) (hf : ∀ z a, WorkFrame z (f z a)) : WorkFrame s (l.foldl f s) :=
  List.foldlRecOn (motive := WorkFrame s) l f (refl s) (fun _ h a _ => h.trans (hf _ a))

theorem put (s : State) (k v : Nat) : WorkFrame s (s.put k v) := rfl

theorem count (s : State) (k n : Nat) : WorkFrame s (s.count k n) := rfl

theorem count64 (s : State) (k n : Nat) : WorkFrame s (s.count64 k n) := rfl

theorem fresh (s : State) : WorkFrame s s.fresh := rfl

theorem bankTouch (w c : Bool) (n l : Nat) (s : State) : WorkFrame s (bankTouch w c n l s) := by
  obtain ⟨r, o, e⟩ := bankTouch_moves w c n l s
  rw [e]
  rfl

theorem stgRead (s : State) (a n : Nat) (c : Bool) : WorkFrame s (s.stgRead a n c) := bankTouch ..

theorem stgWrite (s : State) (a : Nat) (bs : Bytes) (c : Bool) : WorkFrame s (s.stgWrite a bs c) :=
  (bankTouch ..).trans (show WorkFrame _ _ from rfl)

theorem hostRead (s : State) (p a n : Nat) : WorkFrame s (s.hostRead p a n) := rfl

theorem mem (s : State) (m : List (Nat × Byte)) : WorkFrame s { s with env := { s.env with mem := m } } := rfl

theorem hostWrite (s : State) (p a : Nat) (bs : Bytes) : WorkFrame s (s.hostWrite p a bs) := (count64 ..).trans (mem ..)

theorem tap (s : State) (f c n : Nat) : WorkFrame s (s.tap f c n) := rfl

theorem busy (s : State) (d : Nat) (c : Option Nat) : WorkFrame s (s.busy d c) := by
  unfold State.busy
  cases c with
  | none => exact (fresh s).trans (count64 ..)
  | some c => exact ite (((fresh s).trans (count64 ..)).trans (tap ..)) ((fresh s).trans (count64 ..))

theorem nonFinite (s : State) (d c l st : Nat) (n : Nf) : WorkFrame s (s.nonFinite d c l st n) := by
  unfold State.nonFinite
  exact ite (refl s) ((ite (put ..) (refl s)).trans (count ..))

/-! ### Tensors -/

theorem ldPut (s : State) (d a : Nat) (bs : Bytes) : WorkFrame s (s.ldPut d a bs) := by
  unfold State.ldPut
  exact ite rfl rfl

theorem ldTouch (s : State) (d : Nat) (w : Bool) (ls : List Nat) : WorkFrame s (s.ldTouch d w ls) := by
  unfold State.ldTouch
  exact ite (count64 ..) (foldl _ _ fun z a => bankTouch ..)

theorem ldReadAll (s : State) (d : Nat) (c : Bool) : WorkFrame s (s.ldReadAll d c) := by
  unfold State.ldReadAll
  exact ite (refl s) (ite (hostRead ..) (stgRead ..))

theorem ldWriteAll (s : State) (d : Nat) (c : Bool) : WorkFrame s (s.ldWriteAll d c) := by
  unfold State.ldWriteAll
  exact ite (refl s) (ite (count64 ..) (bankTouch ..))

theorem ldRowsTouch (s : State) (d n : Nat) (w : Bool) : WorkFrame s (s.ldRowsTouch d n w) := by
  unfold State.ldRowsTouch
  exact ite (ldTouch ..) (ite (ldWriteAll ..) (ldReadAll ..))

theorem rowPut (s : State) (d : Nat) (row : List Nat) (els scales : List Nat) : WorkFrame s (s.rowPut d row els scales) := by
  unfold State.rowPut
  dsimp only
  refine ite (ldPut ..) ?_
  have helems : ∀ z : State, ∀ c : Nat, WorkFrame z (if fmtBits (ldFmt d) = 4 then
      z.ldPut d (elemPlace d (c :: row)).1 (le 1 (if (elemPlace d (c :: row)).2.1 then
        unle (z.ldBytes d (elemPlace d (c :: row)).1 1) % 16 + 16 * nth els c 0
        else unle (z.ldBytes d (elemPlace d (c :: row)).1 1) / 16 * 16 + nth els c 0))
      else z.ldPut d (elemPlace d (c :: row)).1 (le (ldWidth d) (nth els c 0))) := fun z c => ite (ldPut ..) (ldPut ..)
  refine trans (foldl (List.range els.length) s helems) (trans (foldl (List.range scales.length) _ fun z j => ?_) (ite ((ldPut ..).trans (ldPut ..)) (refl _)))
  split
  · exact ldPut ..
  · exact refl z

theorem foldl_fst {α β : Type} {f : State × β → α → State × β} (l : List α) (x : State × β) (hf : ∀ z a, WorkFrame z.1 (f z a).1) :
    WorkFrame x.1 (l.foldl f x).1 :=
  List.foldlRecOn (motive := fun z => WorkFrame x.1 z.1) l f (refl x.1) (fun _ h a _ => h.trans (hf _ a))

theorem copyMove (s : State) (a b c : Nat) : WorkFrame s (s.copyMove a b c) := by
  unfold State.copyMove
  refine trans ?_ (nonFinite ..)
  exact ((ldReadAll ..).trans (ldWriteAll ..)).trans (foldl_fst (ldRows b) (_, ({} : Nf)) fun z row => rowPut ..)

theorem jobMove (s : State) (r : Run) (n : Nat) : WorkFrame s (s.jobMove r n).1 := by
  unfold State.jobMove
  dsimp only
  refine trans ?_ (nonFinite ..)
  refine trans (trans (ldRowsTouch s (unle r.src0) n false) ?_) (foldl_fst _ (_, ({} : Nf), false) fun z row => ?_)
  · exact (ite (ldRowsTouch ..) (refl _)).trans (ldRowsTouch ..)
  · exact (ite (count ..) (refl _)).trans (rowPut ..)

end WorkFrame

/-! ### Work begun -/

/-- Settles O33: each unit's start, once its work waits. -/
theorem unitWorkBegins : Obligations.UnitWorkBegins := by
  intro s hl
  refine ⟨fun m r hr hq => ?_, fun q r hr hq => ?_, fun d r hr hq => ?_⟩
  · have hrun : copyBeginOp s = { s with press := { queue := r, running := some {
        idx := m, desc := le 16 (s.copy m), src0 := le 64 (s.ld (cpSrc (s.copy m))), dst := le 64 (s.ld (cpDst (s.copy m))) } } } := by
      unfold copyBeginOp
      rw [hr, hq]
    exact ⟨_, _, next_of_act copyBeginOp hl hrun, rfl, rfl, rfl⟩
  · have hrun : jobBeginOp s = { s with sfu := { queue := r, running := some {
        idx := q, desc := le 16 (s.job q), src0 := le 64 (s.ld (jbSrc0 (s.job q))), src1 := le 64 (s.ld (jbSrc1 (s.job q))),
          dst := le 64 (s.ld (jbDst (s.job q))), prog := bankProg (s.sfuBank (s.get Key.SFU_PROG_ACTIVE)) (jbProg (s.job q)) } } } := by
      unfold jobBeginOp
      rw [hr, hq]
    exact ⟨_, _, next_of_act jobBeginOp hl hrun, rfl, rfl, rfl⟩
  · have hrun : scanBeginOp s = { s with cvu := { s.cvu with queue := r, running := some (d, false) } } := by
      unfold scanBeginOp
      rw [hr, hq]
    exact ⟨_, next_of_act scanBeginOp hl hrun, rfl, rfl⟩

/-! ### Copies and jobs completed -/

section Complete
variable {s : State} {r : Run}

/-- What a completed copy leaves where it posts no notice. -/
theorem copyComplete_eq (ha : r.aborted = false) (hr : s.press.running = some r) (hn : cpNotify (unle r.desc) = false) (z : State)
    (hz : z = { s with press := { s.press with running := none } }) : copyCompleteOp s =
      (if ldEmpty (unle r.dst) || cpNoop (unle r.src0) (unle r.dst) (unle r.desc) then z
       else (z.copyMove (unle r.src0) (unle r.dst) (unle r.desc)).count (Key.PRESS_COPY_LINES (cpOwner (unle r.desc)))
         (ldLines (unle r.src0) + ldLines (unle r.dst))).count (Key.PRESS_COPY_DONE (cpOwner (unle r.desc))) 1 := by
  subst hz
  have hquiet : ∀ v : State, v.copyNotice r.idx (unle r.desc) false = v := fun v => if_neg (by rw [hn]; decide)
  unfold copyCompleteOp
  rw [hr]
  simp only [ha, Bool.false_eq_true, if_false]
  exact hquiet _

/-- What a completed job leaves where it posts no notice. -/
theorem jobComplete_eq (ha : r.aborted = false) (hr : s.sfu.running = some r) (hn : jbNotify (unle r.desc) = false) (z : State)
    (hz : z = { s with sfu := { s.sfu with running := none } }) : jobCompleteOp s =
      (if ldEmpty (unle r.dst) then z else (z.jobMove r (ldRows (unle r.dst)).length).1).count
        (Key.SFU_JOB_DONE (jbOwner (unle r.desc))) 1 := by
  subst hz
  have hquiet : ∀ (v : State) (b : Bool), v.jobNotice r.idx (unle r.desc) false b = v := fun v b => if_neg (by rw [hn]; decide)
  unfold jobCompleteOp
  rw [hr]
  simp only [ha, Bool.false_eq_true, if_false]
  rw [hquiet]
  split
  · rfl
  · rfl

end Complete

/-- Settles O34: the unit's rows move in one fold, which leaves every part but the memories and the registers. -/
theorem copyAndJobComplete : Obligations.CopyAndJobComplete := by
  intro s r hl ha
  refine ⟨fun hr hn => ?_, fun hr hn => ?_⟩
  · have hrun := copyComplete_eq (s := s.fresh) ha hr hn _ rfl
    refine ⟨_, _, next_of_actFresh copyCompleteOp hl hrun, rfl, fun h => ?_, fun he hno => ?_, ?_⟩
    · rw [if_pos (by simpa using h)]
      rfl
    · rw [if_neg (by simp [he, hno])]
      rfl
    · generalize hz : ({ s.fresh with press := { s.fresh.press with running := none } } : State) = z at *
      have hw := (WorkFrame.ite (c := (ldEmpty (unle r.dst) || cpNoop (unle r.src0) (unle r.dst) (unle r.desc)) = true) (.refl z)
        ((WorkFrame.copyMove z (unle r.src0) (unle r.dst) (unle r.desc)).trans (.count _ (Key.PRESS_COPY_LINES (cpOwner (unle r.desc)))
          (ldLines (unle r.src0) + ldLines (unle r.dst))))).trans (.count _ (Key.PRESS_COPY_DONE (cpOwner (unle r.desc))) 1)
      refine ⟨(congrArg State.queues hw :).trans ?_, (congrArg State.ctxs hw :).trans ?_, (congrArg State.pools hw :).trans ?_,
        (congrArg State.dom hw :).trans ?_, (congrArg State.sfu hw :).trans ?_⟩
      all_goals rw [← hz]; rfl
  · have hrun := jobComplete_eq (s := s.fresh) ha hr hn _ rfl
    refine ⟨_, _, next_of_actFresh jobCompleteOp hl hrun, rfl, fun he => ?_, fun he => ?_, ?_⟩
    · rw [if_pos he]
      rfl
    · rw [if_neg (by simp [he])]
      rfl
    · generalize hz : ({ s.fresh with sfu := { s.fresh.sfu with running := none } } : State) = z at *
      have hw := (WorkFrame.ite (c := ldEmpty (unle r.dst) = true) (.refl z) (.jobMove z r (ldRows (unle r.dst)).length)).trans
        (.count _ (Key.SFU_JOB_DONE (jbOwner (unle r.desc))) 1)
      refine ⟨(congrArg State.queues hw :).trans ?_, (congrArg State.ctxs hw :).trans ?_, (congrArg State.pools hw :).trans ?_,
        (congrArg State.dom hw :).trans ?_, (congrArg State.press hw :).trans ?_⟩
      all_goals rw [← hz]; rfl

end Sys2Proof.Machine

/-! SUPPORT. Scans completed and gap markers committed (R256, R260, R362 to R364). -/

namespace Sys2Proof.Machine

open Sys2Proof

/-! ### Scans -/

theorem memRdBytes_mem {p : Nat} (h : p < 4) : Key.MEM_RD_BYTES p ∈ memKeys :=
  List.mem_flatMap.2 ⟨p, List.mem_range.2 h, List.mem_cons_self ..⟩

theorem memWrBytes_mem {p : Nat} (h : p < 4) : Key.MEM_WR_BYTES p ∈ memKeys :=
  List.mem_flatMap.2 ⟨p, List.mem_range.2 h, List.mem_cons_of_mem _ (List.mem_cons_self ..)⟩

theorem memKeys_range {k : Nat} (h : k ∈ memKeys) : 0x603601 ≤ k ∧ k < 0x603801 := by
  obtain ⟨p, hp, hk⟩ := List.mem_flatMap.1 h
  have hp := List.mem_range.1 hp
  have hk : k = 0x603601 + p ∨ k = 0x603701 + p := by simpa [Key.MEM_RD_BYTES, Key.MEM_WR_BYTES] using hk
  omega

theorem hostRead_keepsRegs (s : State) {p : Nat} (a n : Nat) (h : p < 4) : keepsRegs memKeys s (s.hostRead p a n) :=
  (keepsRegs_put s _ _).mono (List.cons_subset.2 ⟨memRdBytes_mem h, List.nil_subset _⟩)

theorem stgRead_keepsRegs (s : State) (a n : Nat) (c : Bool) : keepsRegs bankKeys s (s.stgRead a n c) := bankTouch_keepsRegs false c _ _ s

section Scan
variable (s : State) (d n : Nat)

/-- The reads of a scan count, and move nothing else. -/
theorem scanReads_moves : ∃ r o, s.scanReads d n = { s with regs := r, obs := o } := by
  unfold State.scanReads
  dsimp only
  split
  · exact ⟨_, _, rfl⟩
  · obtain ⟨r, o, e⟩ := bankTouch_moves false false (lineCount (scStart d) n) (scStart d / 128)
      (s.count (Key.CVU_SCAN_LINES (scCtx d)) (lineCount (scStart d) n))
    exact ⟨r, o, e⟩

theorem scanReads_keepsRegs (hp : scPort d < 4) :
    keepsRegs (Key.CVU_SCAN_LINES (scCtx d) :: memKeys ++ bankKeys) s (s.scanReads d n) := by
  unfold State.scanReads
  dsimp only
  have hlines := keepsRegs_put s (Key.CVU_SCAN_LINES (scCtx d)) (satAdd max32 (s.get (Key.CVU_SCAN_LINES (scCtx d))) (lineCount (scStart d) n))
  have hsub : [Key.CVU_SCAN_LINES (scCtx d)] ⊆ Key.CVU_SCAN_LINES (scCtx d) :: memKeys ++ bankKeys :=
    List.cons_subset.2 ⟨List.mem_cons_self, List.nil_subset _⟩
  split
  · exact hlines.trans (hostRead_keepsRegs _ _ _ hp) hsub (List.subset_append_of_subset_left _ (List.subset_cons_self ..))
  · exact hlines.trans (stgRead_keepsRegs _ _ _ _) hsub (List.subset_append_right ..)

/-- What a completed scan leaves where nothing disagrees and it posts no notice (R363, R364). -/
theorem scanComplete_eq {s : State} {bs : Bytes} (hr : s.cvu.running = some (bs, false)) (hn : scNotify (unle bs) = false)
    (hok : scCompare (unle bs) = false ∨ s.scanResult (unle bs) = scExpect (unle bs)) : scanCompleteOp s =
      ((({ s with cvu := { s.cvu with running := none } } : State).scanReads (unle bs) (scLen (unle bs))).domPut Dom.CVU_LAST_RESULT 0
        (le 8 (s.scanResult (unle bs)) ++ le 1 (scTag (unle bs)) ++ le 1 (scCtx (unle bs)) ++ zeros 6)).count
          (Key.CVU_SCAN_DONE (scCtx (unle bs))) 1 := by
  have hbad : (scCompare (unle bs) && s.scanResult (unle bs) != scExpect (unle bs)) = false := by
    rcases hok with h | h
    · simp [h]
    · simp [h]
  have hres : ({ s with cvu := { s.cvu with running := none } } : State).scanResult (unle bs) = s.scanResult (unle bs) := rfl
  unfold scanCompleteOp
  rw [hr]
  dsimp only
  rw [hres, hbad]
  simp only [State.scanNotice, hn, Bool.false_eq_true, if_false]

end Scan

/-- Settles O35: the scan's reads, then its result, then its count. -/
theorem scanCompletes : Obligations.ScanCompletes := by
  intro s bs hl hm hr hn hp hok
  have hrun := scanComplete_eq (s := s.fresh) hr hn hok
  generalize hz : ({ s.fresh with cvu := { s.fresh.cvu with running := none } } : State) = z at hrun
  have hzr : z.regs = s.regs := by rw [← hz]; rfl
  obtain ⟨r, o, e⟩ := scanReads_moves z (unle bs) (scLen (unle bs))
  have hkeep := scanReads_keepsRegs z (unle bs) (scLen (unle bs)) hp
  have hdone : (z.scanReads (unle bs) (scLen (unle bs))).get (Key.CVU_SCAN_DONE (scCtx (unle bs))) =
      s.get (Key.CVU_SCAN_DONE (scCtx (unle bs))) := by
    refine (hkeep _ ?_).trans (get_of_regs hzr _)
    have hc : scCtx (unle bs) < 8 := Nat.mod_lt _ (by decide)
    intro hmem
    rcases List.mem_append.1 hmem with hmem | hmem
    · rcases List.mem_cons.1 hmem with hmem | hmem
      · simp only [Key.CVU_SCAN_DONE, Key.CVU_SCAN_LINES] at hmem
        omega
      · have := memKeys_range hmem
        simp only [Key.CVU_SCAN_DONE] at this
        omega
    · have := bankKeys_range hmem
      simp only [Key.CVU_SCAN_DONE] at this
      omega
  have hdom : (z.scanReads (unle bs) (scLen (unle bs))).dom = s.dom := by
    rw [e, ← hz]
    rfl
  have hrest : (z.scanReads (unle bs) (scLen (unle bs))).cvu = { s.cvu with running := none } ∧
      (z.scanReads (unle bs) (scLen (unle bs))).stg = s.stg ∧ (z.scanReads (unle bs) (scLen (unle bs))).env = s.env ∧
      (z.scanReads (unle bs) (scLen (unle bs))).queues = s.queues ∧ (z.scanReads (unle bs) (scLen (unle bs))).ctxs = s.ctxs := by
    rw [e, ← hz]
    exact ⟨rfl, rfl, rfl, rfl, rfl⟩
  have hregs : keepsRegs (Key.CVU_SCAN_LINES (scCtx (unle bs)) :: memKeys ++ bankKeys) s (z.scanReads (unle bs) (scLen (unle bs))) :=
    fun k hk => (hkeep k hk).trans (get_of_regs hzr k)
  generalize z.scanReads (unle bs) (scLen (unle bs)) = y at *
  obtain ⟨hcvu, hstg, henv, hqueues, hctxs⟩ := hrest
  refine ⟨_, next_of_actFresh scanCompleteOp hl hrun, hcvu, ?_, ?_, ?_, hstg, henv, hqueues, hctxs⟩
  · have hput := domBytes_domPut_self (s := y) (by rw [hdom]; exact dom_canonical hm) Dom.CVU_LAST_RESULT 0
      (le 8 (s.fresh.scanResult (unle bs)) ++ le 1 (scTag (unle bs)) ++ le 1 (scCtx (unle bs)) ++ zeros 6)
    simp only [List.length_append, le_length] at hput
    exact hput
  · rw [get_count_self]
    exact congrArg (satAdd max32 · 1) hdone
  · exact hregs.trans (keepsRegs_put (y.domPut _ _ _) _ _) (List.subset_cons_self ..)
      (List.cons_subset.2 ⟨List.mem_cons_self, List.nil_subset _⟩)

/-! ### Gap markers -/

/-- A pointer past its range names the same word. -/
theorem pqWord_ptrAdd_zero (s : State) (q p : Nat) : s.pqWord q (ptrAdd p 0) = s.pqWord q p := by
  have hd : pqDepth (s.pqDesc q) ∣ 65536 := by
    have hk : bits (s.pqDesc q) 110 4 ≤ 16 := Nat.le_of_lt (Nat.mod_lt _ (by decide))
    exact Nat.pow_dvd_pow 2 hk
  unfold State.pqWord ptrAdd
  rw [Nat.add_zero, Nat.mod_mod_of_dvd _ hd]

/-- One word written. -/
theorem pqWrite_one (s : State) (q p : Nat) (w : Bytes) :
    s.pqWrite q p [w] = { s with qstore := Mem.write s.qstore (128 * s.pqWord q p) (sub w 0 128) } := by
  rw [← pqWord_ptrAdd_zero]
  rfl

/-- The tag of a queue's gap marker (R260). -/
def State.gapTag (s : State) (q : Nat) : Nat :=
  pqTag 0xFF 1 12 ((s.queueOwner q).getD 0) ((min 0xFFFFF (s.queue q).pend) <<< 20 ||| (s.queue q).pendWords)

/-- A queue once its marker is committed. -/
def Queue.gapped (x : Queue) : Queue := { x with write := ptrAdd x.write 1, commit := ptrAdd x.write 1, pend := 0, pendWords := 0 }

/-- Settles O11: the marker's word stands at the write pointer, and no offer waits that its commit could let in. -/
theorem queueGapMarker : Obligations.QueueGapMarker := by
  intro q s hl hpend hfree hopen hoff hrise
  have hdue : s.markerDue q = true := by simp [State.markerDue, hpend, hfree, hopen]
  generalize hz : ({ s with qstore := Mem.write s.qstore (128 * s.pqWord q (s.queue q).write) (sub (le 8 (s.gapTag q)) 0 128) } : State) = z
  have hrun : gapMarkerCommitOp q s = ((z.setQueue q (s.queue q).gapped).pqCompare q).pqSettle q := by
    unfold gapMarkerCommitOp
    dsimp only
    rw [if_pos hdue, pqWrite_one, ← hz]
    rfl
  obtain ⟨b, hself⟩ := pqCompare_queue_self (z.setQueue q (s.queue q).gapped) q
  rw [queue_setQueue_self] at hself
  rw [pqSettle_of_no_offers (by rw [hself]; exact hoff)] at hrun
  obtain ⟨qs, d, f, e⟩ := pqCompare_fields (z.setQueue q (s.queue q).gapped) q
  have hother : ∀ r, r ≠ q → ((z.setQueue q (s.queue q).gapped).pqCompare q).queue r = s.queue r := fun r hr => by
    rw [pqCompare_queue_ne _ hr.symm, queue_setQueue_ne _ _ hr.symm, ← hz]
    rfl
  have hrest : ((z.setQueue q (s.queue q).gapped).pqCompare q).regs = s.regs ∧ ((z.setQueue q (s.queue q).gapped).pqCompare q).stg = s.stg ∧
      ((z.setQueue q (s.queue q).gapped).pqCompare q).env = s.env ∧ ((z.setQueue q (s.queue q).gapped).pqCompare q).ctxs = s.ctxs ∧
      ((z.setQueue q (s.queue q).gapped).pqCompare q).qstore =
        Mem.write s.qstore (128 * s.pqWord q (s.queue q).write) (sub (le 8 (s.gapTag q)) 0 128) := by
    rw [e, ← hz]
    exact ⟨rfl, rfl, rfl, rfl, rfl⟩
  obtain ⟨hregs, hstg, henv, hctxs, hqs⟩ := hrest
  refine ⟨_, next_of_act (gapMarkerCommitOp q) hl hrun, ?_, ?_, ?_, ?_, hother, hregs, hstg, henv, hctxs, ?_⟩
  · rw [hself]; rfl
  · rw [hself]; rfl
  · rw [hself]; rfl
  · rw [hself]; rfl
  · rw [hqs]
    have hread := memRead_write_self (fun _ => 0) (128 * s.pqWord q (s.queue q).write) (sub (le 8 (s.gapTag q)) 0 128) hrise
    rw [sub_length] at hread
    exact hread

end Sys2Proof.Machine

/-! SUPPORT. Tile windows opened (R14, R57, R141, R148, R208, R458, R459). -/

namespace Sys2Proof.Machine

open Sys2Proof

/-! ### The announcement on a tile port -/

/-- A control flit of one entry on a tile port (R458, R459). -/
theorem emitControl_one (s : State) (p : Nat) (e : Bytes) :
    announced p e s (s.emitControl p [e]) ∧ keepsRegs [Key.TP_TX_BYTES p] s (s.emitControl p [e]) ∧
      ∃ o w x r, s.emitControl p [e] = { s with outbox := o, ctlWait := w, tileTx := x, regs := r } := by
  unfold State.emitControl announced
  cases hup : s.tileUp p with
  | false => exact ⟨⟨by simp, by simp⟩, .refl s, _, _, _, _, rfl⟩
  | true =>
    by_cases hf : (s.tileTxNow p).flits < 8
    · simp only [hf, Bool.not_true, List.isEmpty_cons, Bool.or_self, Bool.false_eq_true, if_false, if_true, and_self, not_true_eq_false, and_false]
      exact ⟨⟨rfl, (List.append_nil _).symm⟩, keepsRegs_put _ _ _, _, _, _, _, rfl⟩
    · simp only [hf, Bool.not_true, List.isEmpty_cons, Bool.or_self, Bool.false_eq_true, if_false, if_true, and_self, not_false_eq_true, and_false]
      exact ⟨⟨(List.append_nil _).symm, rfl⟩, .refl s, _, _, _, _, rfl⟩

/-! ### Bias and mask -/

/-- The port that serves a range is one of the four. -/
theorem portFor_lt (s : State) (c a n : Nat) : s.portFor c a n < 4 := by
  unfold State.portFor
  cases h : (List.range 4).find? (fun p => s.reaches c p a n) with
  | none => decide
  | some p => exact List.mem_range.1 (List.mem_of_find?_eq_some h)

/-- A read of host memory that may have nothing to read. -/
theorem hostReadSome_moves (s : State) (p a n : Nat) : ∃ r, (if n = 0 then s else s.hostRead p a n) = { s with regs := r } := by
  split
  · exact ⟨_, rfl⟩
  · exact ⟨_, rfl⟩

theorem hostReadSome_keepsRegs (s : State) {p : Nat} (a n : Nat) (h : p < 4) : keepsRegs memKeys s (if n = 0 then s else s.hostRead p a n) := by
  split
  · exact .refl s
  · exact hostRead_keepsRegs s a n h

theorem rplState_not_mem_memKeys : Key.RPL_STATE ∉ memKeys := fun h => absurd (memKeys_range h) (by decide)

/-- A layer's bias and mask read once for a step, the replay log not running (R57). -/
theorem readSelIn_quiet {s : State} (hq : quiet s = true) (c st layer : Nat) :
    (∃ x r, s.readSelIn c st layer = { s with selins := x, regs := r } ∧ (∃ y ∈ x, y.ctx = c ∧ y.step = st ∧ y.layer = layer) ∧
      ∀ y ∈ s.selins, y ∈ x) ∧ keepsRegs memKeys s (s.readSelIn c st layer) := by
  unfold State.readSelIn
  by_cases hany : s.selins.any (fun x => x.ctx == c && x.step == st && x.layer == layer) = true
  · rw [if_pos hany]
    obtain ⟨y, hy, hk⟩ := List.any_eq_true.1 hany
    simp only [Bool.and_eq_true, beq_iff_eq] at hk
    obtain ⟨⟨hc, hs⟩, hl⟩ := hk
    exact ⟨⟨_, _, rfl, ⟨y, hy, hc, hs, hl⟩, fun _ h => h⟩, .refl s⟩
  · rw [if_neg hany]
    dsimp only
    generalize hb : (if selBias (s.layer c layer) = 0 then 0 else 4 * selE (s.layer c layer)) = nb
    generalize hm : (if selMask (s.layer c layer) = 0 then 0 else ceilDiv (selE (s.layer c layer)) 8) = nm
    obtain ⟨r1, e1⟩ := hostReadSome_moves s (s.portFor c (selBias (s.layer c layer)) nb) (selBias (s.layer c layer)) nb
    have k1 := hostReadSome_keepsRegs s (selBias (s.layer c layer)) nb (portFor_lt s c (selBias (s.layer c layer)) nb)
    generalize (if nb = 0 then s else s.hostRead (s.portFor c (selBias (s.layer c layer)) nb) (selBias (s.layer c layer)) nb) = y at *
    obtain ⟨r2, e2⟩ := hostReadSome_moves y (y.portFor c (selMask (s.layer c layer)) nm) (selMask (s.layer c layer)) nm
    have k2 := hostReadSome_keepsRegs y (selMask (s.layer c layer)) nm (portFor_lt y c (selMask (s.layer c layer)) nm)
    generalize (if nm = 0 then y else y.hostRead (y.portFor c (selMask (s.layer c layer)) nm) (selMask (s.layer c layer)) nm) = z at *
    have hz : z = { s with regs := z.regs } := by rw [e2, e1]
    have hkeep : keepsRegs memKeys s z := k1.trans k2 (List.Subset.refl _) (List.Subset.refl _)
    have hquiet : ∀ x, quiet ({ z with selins := x } : State) = true := fun x =>
      quiet_congr hq (hkeep _ rplState_not_mem_memKeys) (by rw [hz])
    unfold State.inputFold
    rw [rpl_quiet (hquiet _)]
    refine ⟨⟨_, z.regs, by rw [hz], ⟨_, List.mem_append_right _ (List.mem_singleton_self _), rfl, rfl, rfl⟩, fun y hy => ?_⟩, hkeep⟩
    refine List.mem_append_left _ ?_
    rw [hz]
    exact hy

/-! ### The windows -/

section Open
variable {s : State} {c layer tile index port : Nat} (hq : quiet s = true)
include hq

theorem tileWindow_issue (work : Nat) (hm : s.mayIssue c 0x01 (windowFields work layer tile index port) = true) :
    ∃ m, tileWindowOp work c layer tile index port s =
      (let z : State := { s with issuedCmds := s.issuedCmds ++ [(c, m)], wins := s.wins ++ [opensWindow c layer tile index port work s] }
       let y := if work = 0 then z.readSelIn c (s.step c) layer else z
       if work ≤ 1 then y.emitControl port [ctlEntry 2 c work layer tile (s.step c)] else y) := by
  obtain ⟨m, e⟩ := issue_quiet hq none hm
  refine ⟨m, ?_⟩
  unfold tileWindowOp
  dsimp only
  have hm' : s.mayIssue c 0x01 (layer <<< 224 ||| tile <<< 208 ||| index <<< 192 ||| port <<< 188 ||| work <<< 184) = true := hm
  rw [if_pos hm']
  have e' : s.issue c 0x01 (layer <<< 224 ||| tile <<< 208 ||| index <<< 192 ||| port <<< 188 ||| work <<< 184) =
    { s with issuedCmds := s.issuedCmds ++ [(c, m)] } := e
  rw [e']
  rfl

end Open

/-- Settles O36: the command's mark, the window, the layer's bias and mask, and the announcement. -/
theorem tileWindowsOpen : Obligations.TileWindowsOpen := by
  intro c layer tile index port s hl hq
  refine ⟨fun hm => ?_, fun hm => ?_, fun hm => ?_⟩
  · obtain ⟨m, hrun⟩ := tileWindow_issue (s := s.fresh) hq 0 hm
    dsimp only at hrun
    rw [if_pos (show (0 : Nat) = 0 from rfl), if_pos (show (0 : Nat) ≤ 1 by decide)] at hrun
    generalize hz : ({ s.fresh with issuedCmds := s.fresh.issuedCmds ++ [(c, m)],
                                    wins := s.fresh.wins ++ [opensWindow c layer tile index port 0 s.fresh] } : State) = z at hrun
    have hqz : quiet z = true := quiet_congr hq (by rw [← hz]; rfl) (by rw [← hz]; rfl)
    obtain ⟨⟨si, r, e, hnew, hold⟩, hk⟩ := readSelIn_quiet hqz c (s.step c) layer
    obtain ⟨han, hk', o, w, x, r', e'⟩ := emitControl_one (z.readSelIn c (s.step c) layer) port (ctlEntry 2 c 0 layer tile (s.step c))
    refine ⟨_, next_of_actFresh (tileWindowForwardOp c layer tile index port) hl hrun, ?_, ⟨m, ?_⟩, ?_, ?_, ?_, ?_, ?_⟩
    · rw [show s.fresh.step c = s.step c from rfl, e', e, ← hz]
      rfl
    · rw [show s.fresh.step c = s.step c from rfl, e', e, ← hz]
      rfl
    · rw [show s.fresh.step c = s.step c from rfl, e', e]
      exact hnew
    · rw [show s.fresh.step c = s.step c from rfl, e', e]
      rw [← hz] at hold
      exact hold
    · have hsame : announced port (ctlEntry 2 c 0 layer tile (s.step c)) s = announced port (ctlEntry 2 c 0 layer tile (s.step c))
        (z.readSelIn c (s.step c) layer) := by
        rw [e, ← hz]
        rfl
      rw [hsame]
      exact han
    · have hzs : keepsRegs memKeys s z := by
        rw [← hz]
        exact keepsRegs_of_regs rfl
      exact (hzs.trans hk (List.Subset.refl _) (List.Subset.refl _)).trans hk' (List.subset_cons_self ..)
        (List.cons_subset.2 ⟨List.mem_cons_self, List.nil_subset _⟩)
    · rw [show s.fresh.step c = s.step c from rfl, e', e, ← hz]
      rfl
  · obtain ⟨m, hrun⟩ := tileWindow_issue hq 1 hm
    dsimp only at hrun
    rw [if_neg (show ¬(1 : Nat) = 0 by decide), if_pos (show (1 : Nat) ≤ 1 by decide)] at hrun
    generalize hz : ({ s with issuedCmds := s.issuedCmds ++ [(c, m)],
                              wins := s.wins ++ [opensWindow c layer tile index port 1 s] } : State) = z at hrun
    obtain ⟨han, hk, o, w, x, r, e⟩ := emitControl_one z port (ctlEntry 2 c 1 layer tile (s.step c))
    refine ⟨_, next_of_act (tileWindowReingestOp c layer tile index port) hl hrun, ?_, ⟨m, ?_⟩, ?_, ?_, ?_⟩
    · rw [e, ← hz]
    · rw [e, ← hz]
    · rw [← hz] at han ⊢
      exact han
    · rw [← hz] at hk ⊢
      exact hk
    · rw [e, ← hz]
  · obtain ⟨m, hrun⟩ := tileWindow_issue hq 2 hm
    dsimp only at hrun
    rw [if_neg (show ¬(2 : Nat) = 0 by decide), if_neg (show ¬(2 : Nat) ≤ 1 by decide)] at hrun
    exact ⟨_, next_of_act (tileWindowRefetchOp c layer tile index port) hl hrun, ⟨m, rfl⟩, rfl⟩

end Sys2Proof.Machine

/-! SUPPORT. The order in which a unit takes windows, and a window begun (R208). -/

namespace Sys2Proof.Machine

open Sys2Proof

/-! ### Sorted lists -/

section Sorting
variable {α : Type} {lt : α → α → Bool}

theorem mem_insertBy {x y : α} {l : List α} : y ∈ insertBy lt x l ↔ y = x ∨ y ∈ l := by
  induction l with
  | nil => simp [insertBy]
  | cons z r ih =>
    unfold insertBy
    split
    · simp
    · simp only [List.mem_cons, ih]
      tauto

theorem mem_foldl_insertBy {y : α} {l acc : List α} : y ∈ l.foldl (fun acc x => insertBy lt x acc) acc ↔ y ∈ l ∨ y ∈ acc := by
  induction l generalizing acc with
  | nil => simp
  | cons x l ih =>
    rw [List.foldl_cons, ih, mem_insertBy, List.mem_cons]
    tauto

theorem mem_sortBy {y : α} {l : List α} : y ∈ sortBy lt l ↔ y ∈ l := by
  unfold sortBy
  simp [mem_foldl_insertBy]

/-- An insertion keeps a list sorted. -/
theorem pairwise_insertBy (hasymm : ∀ a b, lt a b = true → lt b a = false) (htrans : ∀ a b c, lt a b = true → lt b c = true → lt a c = true)
    (x : α) {l : List α} (h : l.Pairwise (fun a b => lt b a = false)) : (insertBy lt x l).Pairwise (fun a b => lt b a = false) := by
  induction l with
  | nil => simp [insertBy]
  | cons y r ih =>
    obtain ⟨hy, hr⟩ := List.pairwise_cons.1 h
    unfold insertBy
    split
    next hlt =>
      refine List.pairwise_cons.2 ⟨fun z hz => ?_, h⟩
      rcases List.mem_cons.1 hz with rfl | hz
      · exact hasymm _ _ hlt
      · by_contra hzx
        have := htrans _ _ _ (by simpa using hzx) hlt
        rw [hy z hz] at this
        exact absurd this (by decide)
    next hlt =>
      refine List.pairwise_cons.2 ⟨fun z hz => ?_, ih hr⟩
      rcases mem_insertBy.1 hz with rfl | hz
      · simpa using hlt
      · exact hy z hz

/-- The first element of a sorted list comes after none. -/
theorem head_sortBy (hasymm : ∀ a b, lt a b = true → lt b a = false) (htrans : ∀ a b c, lt a b = true → lt b c = true → lt a c = true)
    {l : List α} {w : α} (h : (sortBy lt l).head? = some w) : w ∈ l ∧ ∀ x ∈ l, x = w ∨ lt x w = false := by
  have hsorted : (sortBy lt l).Pairwise (fun a b => lt b a = false) :=
    List.foldlRecOn (motive := List.Pairwise (fun a b => lt b a = false)) l _ List.Pairwise.nil
      (fun _ hacc x _ => pairwise_insertBy hasymm htrans x hacc)
  obtain ⟨r, hr⟩ := List.head?_eq_some_iff.1 h
  have hmem : ∀ {y}, y ∈ sortBy lt l ↔ y ∈ l := mem_sortBy
  rw [hr] at hsorted
  refine ⟨hmem.1 (by rw [hr]; exact List.mem_cons_self), fun x hx => ?_⟩
  have hx := hmem.2 hx
  rw [hr] at hx
  rcases List.mem_cons.1 hx with rfl | hx
  · exact .inl rfl
  · exact .inr ((List.pairwise_cons.1 hsorted).1 x hx)

end Sorting

theorem lexLt_irrefl (a : List Nat) : lexLt a a = false := by
  induction a with
  | nil => rfl
  | cons x r ih => simp [lexLt, ih]

theorem lexLt_asymm : ∀ a b : List Nat, lexLt a b = true → lexLt b a = false
  | [], [], h => by simp [lexLt] at h
  | [], _ :: _, _ => rfl
  | _ :: _, [], h => by simp [lexLt] at h
  | x :: a, y :: b, h => by
    unfold lexLt at h ⊢
    split at h
    next hxy => rw [if_neg (by omega), if_pos hxy]
    next hxy =>
      split at h
      next => exact absurd h (by decide)
      next hyx =>
        rw [if_neg hyx, if_neg hxy]
        exact lexLt_asymm a b h

theorem lexLt_trans : ∀ a b c : List Nat, lexLt a b = true → lexLt b c = true → lexLt a c = true
  | [], [], _, h, _ => by simp [lexLt] at h
  | [], _ :: _, [], _, h => by simp [lexLt] at h
  | [], _ :: _, _ :: _, _, _ => rfl
  | _ :: _, [], _, h, _ => by simp [lexLt] at h
  | _ :: _, _ :: _, [], _, h => by simp [lexLt] at h
  | x :: a, y :: b, z :: c, h, h' => by
    have ih := lexLt_trans a b c
    unfold lexLt at h h' ⊢
    grind

/-! ### The window a unit takes -/

/-- The window taken next stands among those open to the unit, and none of them comes before it. -/
theorem nextWin_spec {s : State} {unit : Nat} {w : Win} (h : s.nextWin unit = some w) :
    w ∈ s.wins ∧ w.openTo unit = true ∧ (unit = 13 → w.work = 0 → s.occupied 1 = false) ∧
      ∀ x, x ∈ s.wins → x.openTo unit = true → (unit = 13 → x.work = 0 → s.occupied 1 = false) →
        lexLt (s.winKey x) (s.winKey w) = false := by
  have hfilter : ∀ x : Win, (x.openTo unit && !(unit == 13 && x.work == 0 && s.occupied 1)) = true ↔
      x.openTo unit = true ∧ (unit = 13 → x.work = 0 → s.occupied 1 = false) := fun x => by
    simp only [Bool.and_eq_true, Bool.not_eq_true', Bool.and_eq_false_imp, beq_iff_eq]
    tauto
  obtain ⟨hmem, hmin⟩ := head_sortBy (lt := fun a b => lexLt (s.winKey a) (s.winKey b)) (fun a b => lexLt_asymm _ _)
    (fun a b c => lexLt_trans _ _ _) h
  obtain ⟨hw, hopen⟩ := List.mem_filter.1 hmem
  obtain ⟨ho, hf⟩ := (hfilter w).1 hopen
  refine ⟨hw, ho, hf, fun x hx hxo hxf => ?_⟩
  rcases hmin x (List.mem_filter.2 ⟨hx, (hfilter x).2 ⟨hxo, hxf⟩⟩) with rfl | hlt
  · exact lexLt_irrefl _
  · exact hlt

/-! ### A window replaced -/

/-- Identity of windows reads six fields. -/
theorem same_congr {a b : Win} (x : Win) (hc : a.ctx = b.ctx) (hs : a.step = b.step) (ha : a.attempt = b.attempt) (hl : a.layer = b.layer)
    (ht : a.tile = b.tile) (hw : a.work = b.work) : x.same a = x.same b := by
  unfold Win.same
  rw [hc, hs, ha, hl, ht, hw]

theorem same_self (a : Win) : a.same a = true := by simp [Win.same]

/-- A window replaced twice holds what came last. -/
theorem setWin_setWin (s : State) {a b : Win} (h : ∀ x : Win, x.same a = x.same b) : (s.setWin a).setWin b = s.setWin b := by
  have hab : a.same b = true := (h a).symm.trans (same_self a)
  unfold State.setWin
  dsimp only
  rw [List.map_map]
  congr 1
  refine List.map_congr_left fun x _ => ?_
  rw [Function.comp_apply, ← h x]
  by_cases hx : x.same a = true
  · rw [if_pos hx, if_pos hab, if_pos hx]
  · rw [if_neg hx, ← h x, if_neg hx]

theorem updAudit_moves (s : State) (c st : Nat) (f : Audit → Audit) : ∃ a, s.updAudit c st f = { s with audits := a } := by
  unfold State.updAudit
  split
  · exact ⟨_, rfl⟩
  · exact ⟨_, rfl⟩

/-- A window's input as it stands now (R208, R457): the window moves on where TIN has it whole. -/
theorem fillWin_quiet {s : State} (hq : quiet s = true) (b : Win) :
    ∃ a, s.fillWin b = { s.setWin { b with stage := if s.inputWhole b then (if b.work = 1 then 5 else 2) else b.stage } with audits := a } ∧
      (s.inputWhole b = false → a = s.audits) := by
  have hwhole : (s.setWin b).inputWhole b = s.inputWhole b := rfl
  unfold State.fillWin
  dsimp only
  rw [hwhole]
  cases h : s.inputWhole b with
  | false => exact ⟨s.audits, rfl, fun _ => rfl⟩
  | true =>
    rw [if_pos rfl, if_pos rfl]
    have hset := setWin_setWin s (a := b) (b := { b with stage := if b.work = 1 then 5 else 2 }) fun x => rfl
    unfold State.ingressDone State.inputFold
    dsimp only
    rw [hset]
    generalize hz : s.setWin { b with stage := if b.work = 1 then 5 else 2 } = z
    have hqz : quiet z = true := quiet_congr hq (by rw [← hz]; rfl) (by rw [← hz]; rfl)
    rw [rpl_quiet hqz]
    split
    · obtain ⟨a, e⟩ := updAudit_moves z b.ctx b.step _
      exact ⟨a, e, fun hf => absurd hf (by decide)⟩
    · exact ⟨z.audits, rfl, fun hf => absurd hf (by decide)⟩

/-! ### Counts of several contexts -/

theorem foldl_count_moves {α : Type} (l : List α) (k : α → Nat) (s : State) : ∃ r, l.foldl (fun s c => s.count (k c) 1) s = { s with regs := r } :=
  List.foldlRecOn (motive := fun z => ∃ r, z = { s with regs := r }) l _ ⟨_, rfl⟩ (by
    rintro _ ⟨r, rfl⟩ a -
    exact ⟨_, rfl⟩)

theorem foldl_count_keepsRegs {α : Type} (l : List α) (k : α → Nat) (s : State) : keepsRegs (l.map k) s (l.foldl (fun s c => s.count (k c) 1) s) :=
  List.foldlRecOn (motive := keepsRegs (l.map k) s) l _ (.refl s) (fun _ h a ha =>
    h.trans (keepsRegs_put _ (k a) _) (List.Subset.refl _) (List.cons_subset.2 ⟨List.mem_map_of_mem ha, List.nil_subset _⟩))

/-- Contexts that a window begun passes over (R208). -/
def State.passedOver (s : State) (unit : Nat) (w : Win) : List Nat :=
  ((s.wins.filter (fun (x : Win) =>
    !x.begun && firstUnit x.work == unit && x.ctx != w.ctx && decide (x.opened < w.opened))).map (·.ctx)).eraseDups

theorem passedOver_subset (s : State) (unit : Nat) (w : Win) :
    (s.passedOver unit w).map Key.ACC_PREEMPT_COUNT ⊆ s.wins.map (fun (x : Win) => Key.ACC_PREEMPT_COUNT x.ctx) := by
  intro k hk
  obtain ⟨c, hc, rfl⟩ := List.mem_map.1 hk
  obtain ⟨x, hx, rfl⟩ := List.mem_map.1 (List.mem_eraseDups.1 hc)
  exact List.mem_map_of_mem (List.mem_filter.1 hx).1

/-- The state in which a window has been begun, before what it passes over is counted. -/
def State.begunWin (s : State) (w b : Win) : State :=
  (s.fillWin b).put (Key.ACC_WAIT_TT w.ctx) (satAdd (2 ^ 64 - 1) ((s.fillWin b).get (Key.ACC_WAIT_TT w.ctx)) b.held)

/-- A state without its windows, its entries and its audits. -/
def State.beyondWindows (s : State) : State := { s with wins := [], regs := [], audits := [] }

theorem eq_of_beyondWindows {s t : State} (h : t.beyondWindows = s.beyondWindows) :
    t = { s with wins := t.wins, regs := t.regs, audits := t.audits } :=
  calc t = { t.beyondWindows with wins := t.wins, regs := t.regs, audits := t.audits } := rfl
    _ = { s.beyondWindows with wins := t.wins, regs := t.regs, audits := t.audits } := by rw [h]
    _ = _ := rfl

/-- Settles O37: the first window in order begins, and its wait is counted. -/
theorem windowBegins : Obligations.WindowBegins := by
  intro unit s w hl hq hctx hnext hocc hbegun hfirst
  obtain ⟨hw, hopen, hscorer, hmin⟩ := nextWin_spec hnext
  have hc : w.ctx < 8 := hctx w hw
  obtain ⟨b, hb⟩ : ∃ b, b = ({ w with begun := true, held := s.time.ticks - w.opened, input := w.input ++ w.early, early := [] } : Win) :=
    ⟨_, rfl⟩
  obtain ⟨a, efill, haud⟩ := fillWin_quiet hq b
  have hregs : (s.fillWin b).regs = s.regs := by rw [efill]; rfl
  have hput : keepsRegs [Key.ACC_WAIT_TT w.ctx] (s.fillWin b) (s.begunWin w b) := keepsRegs_put _ _ _
  have hfill : keepsRegs [Key.ACC_WAIT_TT w.ctx] s (s.begunWin w b) := fun k hk => (hput k hk).trans (get_of_regs hregs k)
  have hcount := foldl_count_keepsRegs (s.passedOver unit w) Key.ACC_PREEMPT_COUNT (s.begunWin w b)
  have hpre : ∀ k, k ∈ s.wins.map (fun (x : Win) => Key.ACC_PREEMPT_COUNT x.ctx) → 0x601601 ≤ k ∧ k < 0x601609 := by
    intro k hk
    obtain ⟨x, hx, rfl⟩ := List.mem_map.1 hk
    have := hctx x hx
    simp only [Key.ACC_PREEMPT_COUNT]
    omega
  have hpassed : ∀ k, (k < 0x601601 ∨ 0x601609 ≤ k) → k ∉ (s.passedOver unit w).map Key.ACC_PREEMPT_COUNT := fun k hk hmem => by
    have := hpre k (passedOver_subset s unit w hmem)
    omega
  obtain ⟨r, e⟩ := foldl_count_moves (s.passedOver unit w) Key.ACC_PREEMPT_COUNT (s.begunWin w b)
  have hkeep : keepsRegs (Key.ACC_WAIT_TT w.ctx :: s.wins.map (fun (x : Win) => Key.ACC_PREEMPT_COUNT x.ctx)) s
      ((s.passedOver unit w).foldl (fun s c => s.count (Key.ACC_PREEMPT_COUNT c) 1) (s.begunWin w b)) :=
    hfill.trans hcount (List.cons_subset.2 ⟨List.mem_cons_self, List.nil_subset _⟩)
      (List.subset_cons_of_subset _ (passedOver_subset s unit w))
  have hwait : ((s.passedOver unit w).foldl (fun s c => s.count (Key.ACC_PREEMPT_COUNT c) 1) (s.begunWin w b)).get
      (Key.ACC_WAIT_TT w.ctx) = satAdd (2 ^ 64 - 1) (s.get (Key.ACC_WAIT_TT w.ctx)) (s.time.ticks - w.opened) := by
    rw [hcount _ (hpassed _ (.inl (by simp only [Key.ACC_WAIT_TT]; omega))), State.begunWin, get_put_self, get_of_regs hregs, hb]
    exact Nat.mod_eq_of_lt (Nat.lt_of_le_of_lt (Nat.min_le_left _ _) (by decide))
  have hquiet : quiet ((s.passedOver unit w).foldl (fun s c => s.count (Key.ACC_PREEMPT_COUNT c) 1) (s.begunWin w b)) = true := by
    refine quiet_congr hq (hkeep _ ?_) (by rw [e, State.begunWin, efill]; rfl)
    intro hmem
    rcases List.mem_cons.1 hmem with hmem | hmem
    · simp only [Key.RPL_STATE, Key.ACC_WAIT_TT] at hmem
      omega
    · exact absurd (hpre _ hmem).2 (by decide)
  have hheld : b.held = s.time.ticks - w.opened := by rw [hb]
  have hrun : tileWindowBeginOp unit s =
      (s.passedOver unit w).foldl (fun s c => s.count (Key.ACC_PREEMPT_COUNT c) 1) (s.begunWin w b) := by
    unfold tileWindowBeginOp
    rw [hnext]
    dsimp only
    rw [hocc, hbegun, hfirst, if_neg (by simp), ← hb, ← hheld]
    exact trace_quiet hquiet ..
  have hfields : ((s.passedOver unit w).foldl (fun s c => s.count (Key.ACC_PREEMPT_COUNT c) 1) (s.begunWin w b)).wins =
      (s.setWin { b with stage := if s.inputWhole b then (if b.work = 1 then 5 else 2) else b.stage }).wins ∧
      ((s.passedOver unit w).foldl (fun s c => s.count (Key.ACC_PREEMPT_COUNT c) 1) (s.begunWin w b)).audits = a := by
    rw [e, State.begunWin, efill]
    exact ⟨rfl, rfl⟩
  have hall : ((s.passedOver unit w).foldl (fun s c => s.count (Key.ACC_PREEMPT_COUNT c) 1) (s.begunWin w b)).beyondWindows = s.beyondWindows := by
    rw [e, State.begunWin, efill]
    rfl
  obtain ⟨hwins, hauds⟩ := hfields
  refine ⟨_, next_of_act (tileWindowBeginOp unit) hl hrun, hw, hopen, hscorer, hmin, ?_, hwait, hkeep, eq_of_beyondWindows hall⟩
  rintro b' hb'
  obtain rfl : b' = b := hb'.trans hb.symm
  refine ⟨?_, fun hin => hauds.trans (haud hin)⟩
  rw [hwins, State.setWin]
  refine List.map_congr_left fun x _ => ?_
  rw [hb]
  rfl

end Sys2Proof.Machine

/-! SUPPORT. The field network's frames and errors (R389, R390), and latch edges (R431 to R434). -/

namespace Sys2Proof.Machine

open Sys2Proof

/-! ### Fields of a byte string -/

/-- The number that the middle one of three strings holds. -/
theorem u_at (a b c : Bytes) : u (a ++ (b ++ c)) a.length b.length = unle b := by
  simp [u]

theorem bit_setBit (v i j : Nat) : bit (setBit v i) j = (bit v j || decide (i = j)) := by
  simp only [bit_eq_testBit, setBit, Nat.testBit_or, Nat.one_shiftLeft, Nat.testBit_two_pow]

/-- Bits set for the elements of a list that satisfy a condition. -/
theorem bit_foldl_setBit (p : Nat → Prop) [DecidablePred p] (l : List Nat) (n j : Nat) :
    bit (l.foldl (fun n c => if p c then setBit n c else n) n) j = (bit n j || decide (j ∈ l ∧ p j)) := by
  induction l generalizing n with
  | nil => simp
  | cons c l ih =>
    rw [List.foldl_cons, ih]
    by_cases hc : p c
    · rw [if_pos hc, bit_setBit, Bool.or_assoc]
      congr 1
      by_cases hj : c = j
      · subst hj
        simp [hc]
      · simp [hj, Ne.symm hj]
    · rw [if_neg hc]
      congr 1
      by_cases hj : j = c
      · subst hj
        simp [hc]
      · simp [hj]

/-- A byte keeps the low eight bits. -/
theorem bit_mod_byte (v : Nat) {j : Nat} (h : j < 8) : bit (v % 256) j = bit v j := by
  rw [bit_eq_testBit, bit_eq_testBit, show 256 = 2 ^ 8 from rfl, Nat.testBit_mod_two_pow]
  simp [h]

/-! ### Frames of the field network -/

section Can
variable {s : State}

theorem canSent_keepsRegs (s : State) (id : Nat) (bs : Bytes) : keepsRegs [Key.COM_CAN_TEC, Key.COM_CAN_STATE] s (s.canSent id bs) :=
  (keepsRegs_put s Key.COM_CAN_TEC _).trans (keepsRegs_put (s.put Key.COM_CAN_TEC (s.get Key.COM_CAN_TEC - 1)) Key.COM_CAN_STATE _) (by decide) (by decide)

theorem get_canSent_tec (s : State) (id : Nat) (bs : Bytes) : (s.canSent id bs).get Key.COM_CAN_TEC = s.get Key.COM_CAN_TEC - 1 := by
  have hlt : s.get Key.COM_CAN_TEC < 2 ^ 64 := get_lt s _
  show State.get ((s.put Key.COM_CAN_TEC _).put Key.COM_CAN_STATE _) _ = _
  rw [get_put_ne _ _ (by decide), get_put_self]
  exact Nat.mod_eq_of_lt (by omega)

/-- The contexts that run, a bit each (R389). -/
def State.runningBits (s : State) : Nat := (List.range 8).foldl (fun n c => if s.tt c = 4 then setBit n c else n) 0

/-- The heartbeat frame's bytes. -/
def State.beatBytes (s : State) : Bytes :=
  le 1 (s.get Key.TB_STATE) ++ le 1 s.runningBits ++ le 1 s.intLevels ++ le 1 (s.get Key.COM_CAN_STATE) ++ le 4 s.frame

theorem beatBytes_fields (s : State) : s.beatBytes.length = 8 ∧ u s.beatBytes 0 1 = s.get Key.TB_STATE % 256 ∧
    u s.beatBytes 1 1 = s.runningBits % 256 ∧ u s.beatBytes 3 1 = s.get Key.COM_CAN_STATE % 256 ∧ u s.beatBytes 4 4 = s.frame % 2 ^ 32 := by
  have h0 := u_at [] (le 1 (s.get Key.TB_STATE)) (le 1 s.runningBits ++ le 1 s.intLevels ++ le 1 (s.get Key.COM_CAN_STATE) ++ le 4 s.frame)
  have h1 := u_at (le 1 (s.get Key.TB_STATE)) (le 1 s.runningBits) (le 1 s.intLevels ++ le 1 (s.get Key.COM_CAN_STATE) ++ le 4 s.frame)
  have h3 := u_at (le 1 (s.get Key.TB_STATE) ++ le 1 s.runningBits ++ le 1 s.intLevels) (le 1 (s.get Key.COM_CAN_STATE)) (le 4 s.frame)
  have h4 := u_at (le 1 (s.get Key.TB_STATE) ++ le 1 s.runningBits ++ le 1 s.intLevels ++ le 1 (s.get Key.COM_CAN_STATE)) (le 4 s.frame) []
  simp only [List.append_nil, List.nil_append, List.append_assoc, List.length_append, le_length, List.length_nil, unle_le] at h0 h1 h3 h4
  unfold State.beatBytes
  simp only [List.append_assoc]
  exact ⟨by simp, h0, h1, h3, h4⟩

theorem heartbeat_next (hl : s.live = true) (hb : s.get Key.COM_HEARTBEAT ≠ 0) (hs : s.canSends = true)
    (hdue : s.field.beat + s.get Key.COM_HEARTBEAT ≤ s.ms) :
    ∃ t bs, exec .heartbeat s = .next t ∧ t.outbox = s.outbox ++ [.canFrame (0xE * 128 + s.get Key.COM_CAN_NODE) bs] ∧ bs.length = 8 ∧
      u bs 0 1 = s.get Key.TB_STATE % 256 ∧ (∀ c, c < 8 → (bit (u bs 1 1) c = true ↔ s.tt c = 4)) ∧
      u bs 3 1 = s.get Key.COM_CAN_STATE % 256 ∧ u bs 4 4 = s.frame % 2 ^ 32 ∧ t.field.beat = s.ms ∧
      t.get Key.COM_CAN_TEC = s.get Key.COM_CAN_TEC - 1 ∧ keepsRegs [Key.COM_CAN_TEC, Key.COM_CAN_STATE] s t ∧
      t = { s with regs := t.regs, field := t.field, outbox := t.outbox } := by
  have hrun : heartbeatOp s = ({ s with field := { s.field with beat := s.ms } } : State).canSent (0xE * 128 + s.get Key.COM_CAN_NODE) s.beatBytes :=
    if_pos (by simp [hb, hs, hdue])
  obtain ⟨hlen, htb, hbits, hcan, hframe⟩ := beatBytes_fields s
  refine ⟨_, s.beatBytes, next_of_act heartbeatOp hl hrun, rfl, hlen, htb, fun c hc => ?_, hcan, hframe, rfl,
    get_canSent_tec { s with field := { s.field with beat := s.ms } } _ _,
    canSent_keepsRegs { s with field := { s.field with beat := s.ms } } _ _, rfl⟩
  rw [hbits, bit_mod_byte _ hc, State.runningBits, bit_foldl_setBit]
  simp [bit, hc]

theorem interruptEventFrame_next (hl : s.live = true) {l cause : Nat} {r : List (Nat × Nat)} (he : s.field.events = (l, cause) :: r)
    (hs : s.canSends = true) :
    ∃ t, exec .interruptEventFrame s = .next t ∧
      t.outbox = s.outbox ++ [.canFrame (0x1 * 128 + s.get Key.COM_CAN_NODE) (le 1 l ++ zeros 3 ++ le 4 cause)] ∧ t.field.events = r ∧
      keepsRegs [Key.COM_CAN_TEC, Key.COM_CAN_STATE] s t ∧ t = { s with regs := t.regs, field := t.field, outbox := t.outbox } := by
  have hrun : interruptEventFrameOp s = ({ s with field := { s.field with events := r } } : State).canSent
      (0x1 * 128 + s.get Key.COM_CAN_NODE) (le 1 l ++ zeros 3 ++ le 4 cause) := by
    unfold interruptEventFrameOp
    rw [he]
    exact if_pos hs
  exact ⟨_, next_of_act interruptEventFrameOp hl hrun, rfl, rfl, canSent_keepsRegs { s with field := { s.field with events := r } } _ _, rfl⟩

/-- A state in which no response waits (R388). -/
def State.quieted (s : State) : State := { s with field := { s.field with waiting := [] } }

/-- The error counters put. -/
def State.canCounts (s : State) (t r : Nat) : State := (s.put Key.COM_CAN_TEC (min 255 t)).put Key.COM_CAN_REC (min 255 r)

theorem get_canCounts (s : State) (t r : Nat) :
    (s.canCounts t r).get Key.COM_CAN_TEC = min 255 t ∧ (s.canCounts t r).get Key.COM_CAN_REC = min 255 r := by
  unfold State.canCounts
  rw [get_put_ne _ _ (by decide), get_put_self, get_put_self]
  exact ⟨Nat.mod_eq_of_lt (by omega), Nat.mod_eq_of_lt (by omega)⟩

theorem canCounts_keepsRegs (s : State) (t r : Nat) : keepsRegs [Key.COM_CAN_TEC, Key.COM_CAN_REC] s (s.canCounts t r) :=
  (keepsRegs_put s Key.COM_CAN_TEC _).trans (keepsRegs_put _ Key.COM_CAN_REC _) (by decide) (by decide)

/-- A receive count put as it was is kept. -/
theorem canCounts_keepsRec (s : State) (t : Nat) (h : s.get Key.COM_CAN_REC ≤ 255) :
    keepsRegs [Key.COM_CAN_TEC] s (s.canCounts t (s.get Key.COM_CAN_REC)) := fun k hk => by
  by_cases hr : k = Key.COM_CAN_REC
  · rw [hr, (get_canCounts s t _).2, Nat.min_eq_right h]
  · refine canCounts_keepsRegs s t _ k ?_
    simp only [List.mem_cons, List.not_mem_nil, or_false] at hk ⊢
    tauto

theorem canBusError_transmit (hl : s.live = true) (hs : s.canSends = true) (hr : s.get Key.COM_CAN_REC ≤ 255) {n : Nat}
    (hn : s.get Key.COM_CAN_TEC + n ≤ 255) :
    ∃ t, exec (.canBusError true n) s = .next t ∧ t.get Key.COM_CAN_TEC = s.get Key.COM_CAN_TEC + n ∧
      t.get Key.COM_CAN_STATE = (if 128 ≤ s.get Key.COM_CAN_TEC + n ∨ 128 ≤ s.get Key.COM_CAN_REC then 1 else 0) ∧
      keepsRegs [Key.COM_CAN_TEC, Key.COM_CAN_STATE] s t ∧ t = { s with regs := t.regs } := by
  have hrun : canBusErrorOp true n s = (s.canCounts (s.get Key.COM_CAN_TEC + n) (s.get Key.COM_CAN_REC)).put Key.COM_CAN_STATE
      (canActive (s.get Key.COM_CAN_TEC + n) (s.get Key.COM_CAN_REC)) :=
    (if_pos hs).trans (if_neg (show ¬s.get Key.COM_CAN_TEC + n > 255 by omega))
  refine ⟨_, next_of_act (canBusErrorOp true n) hl hrun, ?_, ?_, ?_, rfl⟩
  · rw [get_put_ne _ _ (by decide), (get_canCounts s _ _).1, Nat.min_eq_right hn]
  · rw [get_put_self, canActive]
    by_cases h : 128 ≤ s.get Key.COM_CAN_TEC + n ∨ 128 ≤ s.get Key.COM_CAN_REC
    · rw [if_pos h, if_pos (by simpa using h)]
      rfl
    · rw [if_neg h, if_neg (by simpa using h)]
      rfl
  · exact (canCounts_keepsRec s _ hr).trans (keepsRegs_put _ _ _) (by decide) (by decide)

theorem canBusError_off (hl : s.live = true) (hs : s.canSends = true) (hr : s.get Key.COM_CAN_REC ≤ 255) {n : Nat}
    (hn : 255 < s.get Key.COM_CAN_TEC + n) (hb : s.can.busy = none) :
    ∃ t, exec (.canBusError true n) s = .next t ∧ t.get Key.COM_CAN_STATE = 2 ∧
      t.canSends = false ∧ t.field.waiting = [] ∧ keepsRegs [Key.COM_CAN_TEC, Key.COM_CAN_STATE] s t := by
  have hoff : ∀ z : State, z.can.busy = none → (match z.can.busy with
      | some x => ({ z with can := { z.can with busy := none } } : State).afterTxn x
      | none => z) = z := fun z hz => by rw [hz]
  have hrun : canBusErrorOp true n s = ((s.canCounts (s.get Key.COM_CAN_TEC + n) (s.get Key.COM_CAN_REC)).put Key.COM_CAN_STATE 2).quieted :=
    (if_pos hs).trans ((if_pos (show s.get Key.COM_CAN_TEC + n > 255 from hn)).trans (hoff _ hb))
  have hkeep : keepsRegs [Key.COM_CAN_TEC, Key.COM_CAN_STATE] s
      ((s.canCounts (s.get Key.COM_CAN_TEC + n) (s.get Key.COM_CAN_REC)).put Key.COM_CAN_STATE 2) :=
    (canCounts_keepsRec s _ hr).trans (keepsRegs_put _ Key.COM_CAN_STATE 2) (by decide) (by decide)
  have hstate : ((s.canCounts (s.get Key.COM_CAN_TEC + n) (s.get Key.COM_CAN_REC)).put Key.COM_CAN_STATE 2).get Key.COM_CAN_STATE = 2 :=
    get_put_self _ _ _
  generalize (s.canCounts (s.get Key.COM_CAN_TEC + n) (s.get Key.COM_CAN_REC)).put Key.COM_CAN_STATE 2 = z at *
  refine ⟨_, next_of_act (canBusErrorOp true n) hl hrun, hstate, ?_, rfl, hkeep⟩
  show decide (z.get Key.COM_CAN_STATE < 2) = false
  rw [hstate]
  rfl

theorem canBusError_receive (hl : s.live = true) (hs : s.canSends = true) (ht : s.get Key.COM_CAN_TEC ≤ 255) (n : Nat) :
    ∃ t, exec (.canBusError false n) s = .next t ∧ t.get Key.COM_CAN_REC = min 255 (s.get Key.COM_CAN_REC + n) ∧
      t.get Key.COM_CAN_TEC = s.get Key.COM_CAN_TEC ∧ t = { s with regs := t.regs } := by
  have hrun : canBusErrorOp false n s = (s.canCounts (s.get Key.COM_CAN_TEC + 0) (s.get Key.COM_CAN_REC + n)).put Key.COM_CAN_STATE
      (canActive (s.get Key.COM_CAN_TEC + 0) (s.get Key.COM_CAN_REC + n)) :=
    (if_pos hs).trans (if_neg (show ¬s.get Key.COM_CAN_TEC + 0 > 255 by omega))
  refine ⟨_, next_of_act (canBusErrorOp false n) hl hrun, ?_, ?_, rfl⟩
  · rw [get_put_ne _ _ (by decide), (get_canCounts s _ _).2]
  · rw [get_put_ne _ _ (by decide), (get_canCounts s _ _).1]
    omega

theorem canBusOffRecovery_next (hl : s.live = true) (h : s.get Key.COM_CAN_STATE = 2) :
    ∃ t, exec .canBusOffRecovery s = .next t ∧ t.get Key.COM_CAN_TEC = 0 ∧ t.get Key.COM_CAN_REC = 0 ∧
      t.get Key.COM_CAN_STATE = 0 ∧ t.canSends = true ∧ keepsRegs [Key.COM_CAN_TEC, Key.COM_CAN_REC, Key.COM_CAN_STATE] s t ∧
      t = { s with regs := t.regs } := by
  have hstate : (((s.put Key.COM_CAN_TEC 0).put Key.COM_CAN_REC 0).put Key.COM_CAN_STATE 0).get Key.COM_CAN_STATE = 0 := get_put_self _ _ _
  refine ⟨_, next_of_act canBusOffRecoveryOp hl (if_pos h), ?_, ?_, hstate, ?_, ?_, rfl⟩
  · rw [get_put_ne _ _ (by decide), get_put_ne _ _ (by decide), get_put_self]
    rfl
  · rw [get_put_ne _ _ (by decide), get_put_self]
    rfl
  · unfold State.canSends
    rw [hstate]
    rfl
  · exact ((keepsRegs_put s Key.COM_CAN_TEC 0).trans (keepsRegs_put _ Key.COM_CAN_REC 0) (ls := [Key.COM_CAN_TEC, Key.COM_CAN_REC])
      (by decide) (by decide)).trans (keepsRegs_put _ Key.COM_CAN_STATE 0) (by decide) (by decide)

end Can

end Sys2Proof.Machine

/-! SUPPORT. Latch edges and snapshot images (R431 to R434, R437). -/

namespace Sys2Proof.Machine

open Sys2Proof

/-- The registers of the units' cycles. -/
def busyKeys : List Nat := (List.range 25).map Key.UNIT_BUSY

theorem busyKeys_range {k : Nat} (h : k ∈ busyKeys) : 0x603A01 ≤ k ∧ k < 0x603A1A := by
  obtain ⟨d, hd, rfl⟩ := List.mem_map.1 h
  have := List.mem_range.1 hd
  simp only [Key.UNIT_BUSY]
  omega

theorem busyAll_keepsRegs (s : State) : keepsRegs busyKeys s s.busyAll := by
  unfold State.busyAll
  refine List.foldlRecOn (motive := keepsRegs busyKeys s) _ _ (keepsRegs_of_regs rfl) (fun z h d hd => ?_)
  exact h.trans (keepsRegs_put z (Key.UNIT_BUSY d) _) (List.Subset.refl _)
    (List.cons_subset.2 ⟨List.mem_map_of_mem hd, List.nil_subset _⟩)

section Latch
variable {s : State}

/-- The latch that an accepted edge makes. -/
def State.newLatch (s : State) (origin : Nat) (cmd : Option (Nat × Nat)) : Latch :=
  { tick := s.tick, frame := s.frame, slips := s.busyAll.get Key.TB_SLIPS, id := (cmd.map (·.2)).getD 0xFFFF, origin := origin,
    mask := match cmd with | some (c, _) => 1 <<< c | none => 0, seq := (s.obs.accepted + 1) % 2 ^ 32,
    regs := s.busyAll.regs.filter (fun e => decide (0x600200 ≤ e.1 ∧ e.1 ≤ 0x603BFF) || e.1 / 256 == 0x4108) }

/-- The observation unit once it has accepted an edge. -/
def State.latchedObs (s : State) (l : Latch) : Obs :=
  { s.obs with latch := some l, lastTick := some s.time.ticks, accepted := (s.obs.accepted + 1) % 2 ^ 32, pending := true }

/-- A latch accepted while the trace neither runs nor is armed (R431, R434, R437). -/
theorem takeLatch_quiet (hq : quiet s = true) (ht : s.get Key.TRC_STATE % 2 = 0) (origin : Nat) (cmd : Option (Nat × Nat)) :
    ∃ r m, s.takeLatch origin cmd = { s with regs := r, free := s.free + 1, obs := s.latchedObs (s.newLatch origin cmd), meter := m,
                                             outbox := s.outbox ++ [.snap] } ∧
      keepsRegs busyKeys s { s with regs := r } := by
  obtain ⟨r, eb⟩ := busyAll_moves s
  have hk : keepsRegs busyKeys s ({ s with regs := r } : State) := by
    have := busyAll_keepsRegs s
    rw [eb] at this
    exact this
  have hnb : Key.TRC_STATE ∉ busyKeys ∧ Key.RPL_STATE ∉ busyKeys :=
    ⟨fun h => absurd (busyKeys_range h) (by decide), fun h => absurd (busyKeys_range h) (by decide)⟩
  have hlatch : s.newLatch origin cmd =
      { tick := s.tick, frame := s.frame, slips := State.get { s with regs := r, free := s.free + 1 } Key.TB_SLIPS,
        id := (cmd.map (·.2)).getD 0xFFFF, origin := origin,
        mask := match cmd with | some (c, _) => 1 <<< c | none => 0, seq := (s.obs.accepted + 1) % 2 ^ 32,
        regs := r.filter (fun e => decide (0x600200 ≤ e.1 ∧ e.1 ≤ 0x603BFF) || e.1 / 256 == 0x4108) } := by
    unfold State.newLatch
    rw [eb]
  rw [hlatch]
  unfold State.takeLatch
  rw [eb]
  extract_lets id mask s1 n l o z
  obtain ⟨m, em⟩ := flushTap_moves z z.edgesSoFar (latchWord id n)
  have hget : ∀ k, k ∉ busyKeys → z.get k = s.get k := fun k hn => hk k hn
  have hzr : z = { s with regs := r, free := s.free + 1, obs := s.latchedObs l } := rfl
  have htr : z.obs.tracing = s.obs.tracing := rfl
  clear_value z
  rw [em]
  have hquiet : quiet (({ z with meter := m } : State).emit .snap) = true := by
    unfold quiet at hq ⊢
    show (z.get Key.RPL_STATE != 1 && !z.obs.tracing) = true
    rw [hget _ hnb.2, htr]
    exact hq
  have htrace : (({ z with meter := m } : State).emit .snap).traceLatch id n origin = ({ z with meter := m } : State).emit .snap := by
    have hst : (({ z with meter := m } : State).emit .snap).get Key.TRC_STATE = s.get Key.TRC_STATE := hget _ hnb.1
    unfold State.traceLatch
    dsimp only
    rw [hst, if_neg (by omega), if_neg (by omega), if_neg (by omega)]
    exact trace_quiet hquiet ..
  refine ⟨r, m, ?_, hk⟩
  rw [htrace, hzr]
  rfl

end Latch

/-! ### The SNAPSHOT command -/

section Command
variable {s : State} (hl : s.live = true) (hq : quiet s = true)

/-- An edge on which nothing has latched yet is refused, or taken (R431, R433). -/
theorem latchEdge_of_new {origin : Nat} {cmd : Option (Nat × Nat)} (h : s.obs.lastTick ≠ some s.time.ticks) : s.latchEdge origin cmd =
    if s.obs.dropTick = some s.time.ticks then s
    else if (match s.obs.lastTick with | some t => decide (s.time.ticks < t + 1024) | none => false) ||
        s.get Key.SNAP_LOCK = s.snapTarget then
      ({ s with obs := { s.obs with dropTick := some s.time.ticks } }).count Key.SNAP_MISSED 1
    else s.takeLatch origin cmd := by
  have hne : (s.obs.lastTick == some s.time.ticks) = false := by simpa using h
  unfold State.latchEdge
  rw [hne]
  cases s.obs.latch with
  | none => rfl
  | some l => rfl

/-- An edge far enough from the last, whose image has a set to go to, is taken. -/
theorem latchEdge_taken {origin : Nat} {cmd : Option (Nat × Nat)} (hfar : ∀ x, s.obs.lastTick = some x → x + 1024 ≤ s.time.ticks)
    (hdrop : s.obs.dropTick ≠ some s.time.ticks) (hlock : s.get Key.SNAP_LOCK ≠ s.snapTarget) :
    s.latchEdge origin cmd = s.takeLatch origin cmd := by
  have hnew : s.obs.lastTick ≠ some s.time.ticks := fun h => by
    have := hfar _ h
    omega
  have hnear : (match s.obs.lastTick with | some t => decide (s.time.ticks < t + 1024) | none => false) = false := by
    cases h : s.obs.lastTick with
    | none => rfl
    | some x =>
      have := hfar x h
      simpa using this
  rw [latchEdge_of_new hnew, if_neg hdrop, if_neg]
  simp [hnear, hlock]

include hl hq

theorem snapshot_taken {c id : Nat} (hm : s.mayIssue c 0x09 (id <<< 216) = true) (hdrop : s.obs.dropTick ≠ some s.time.ticks)
    (hfar : ∀ x, s.obs.lastTick = some x → x + 1024 ≤ s.time.ticks) (hlock : s.get Key.SNAP_LOCK ≠ s.snapTarget)
    (ht : s.get Key.TRC_STATE % 2 = 0) :
    ∃ t l, exec (.snapshot c id) s = .next t ∧ marked c s t ∧ takenLatch s t l id 1 ∧ l.mask = 1 <<< c ∧ l.tick = s.tick ∧
      t.obs.lastTick = some s.time.ticks ∧ keepsRegs ((List.range 25).map Key.UNIT_BUSY) s t ∧
      t = { s with regs := t.regs, obs := t.obs, meter := t.meter, free := t.free, outbox := t.outbox, issuedCmds := t.issuedCmds } := by
  obtain ⟨m, e⟩ := issue_quiet hq none hm
  obtain ⟨z, hz⟩ : ∃ z, z = ({ s with issuedCmds := s.issuedCmds ++ [(c, m)] } : State) := ⟨_, rfl⟩
  have hfields : z.obs = s.obs ∧ z.regs = s.regs ∧ z.tick = s.tick ∧ z.time = s.time ∧ z.outbox = s.outbox := by
    rw [hz]
    exact ⟨rfl, rfl, rfl, rfl, rfl⟩
  obtain ⟨hobs, hregs, htick, htime, hout⟩ := hfields
  have hrun : snapshotOp c id s = z.takeLatch 1 (some (c, id)) := by
    unfold snapshotOp
    rw [if_pos hm, e, hz]
    exact latchEdge_taken hfar hdrop hlock
  obtain ⟨r, w, et, hk⟩ := takeLatch_quiet (s := z) (quiet_congr hq (get_of_regs hregs _) hobs) (by rw [get_of_regs hregs]; exact ht) 1
    (some (c, id))
  refine ⟨z.takeLatch 1 (some (c, id)), z.newLatch 1 (some (c, id)), next_of_act (snapshotOp c id) hl hrun, ⟨m, ?_⟩, ⟨?_, rfl, rfl, ?_, ?_, ?_⟩,
    rfl, htick, ?_, fun k hn => ?_, ?_⟩
  · rw [et, hz]
  · rw [et]
    rfl
  · rw [← hobs]
    rfl
  · rw [et]
    rfl
  · rw [et, ← hout]
  · rw [et, ← htime]
    rfl
  · rw [et, ← get_of_regs hregs k]
    exact hk k hn
  · rw [et, hz]

theorem snapshot_missed {c id : Nat} (hm : s.mayIssue c 0x09 (id <<< 216) = true) (hnew : s.obs.lastTick ≠ some s.time.ticks)
    (hdrop : s.obs.dropTick ≠ some s.time.ticks)
    (h : (∃ x, s.obs.lastTick = some x ∧ s.time.ticks < x + 1024) ∨ s.get Key.SNAP_LOCK = s.snapTarget) :
    ∃ t, exec (.snapshot c id) s = .next t ∧ marked c s t ∧
      t.get Key.SNAP_MISSED = satAdd max32 (s.get Key.SNAP_MISSED) 1 ∧ t.obs.latch = s.obs.latch ∧
      t.outbox = s.outbox ∧ keepsRegs [Key.SNAP_MISSED] s t := by
  obtain ⟨m, e⟩ := issue_quiet hq none hm
  obtain ⟨z, hz⟩ : ∃ z, z = ({ s with issuedCmds := s.issuedCmds ++ [(c, m)] } : State) := ⟨_, rfl⟩
  have hnear : ((match z.obs.lastTick with | some t => decide (z.time.ticks < t + 1024) | none => false) ||
      decide (z.get Key.SNAP_LOCK = z.snapTarget)) = true := by
    rw [hz]
    rcases h with ⟨x, hx, hlt⟩ | h
    · have : (match s.obs.lastTick with | some t => decide (s.time.ticks < t + 1024) | none => false) = true := by
        rw [hx]
        simpa using hlt
      exact Bool.or_eq_true_iff.2 (.inl this)
    · exact Bool.or_eq_true_iff.2 (.inr (decide_eq_true h))
  have hrun : snapshotOp c id s = ({ z with obs := { z.obs with dropTick := some z.time.ticks } } : State).count Key.SNAP_MISSED 1 := by
    unfold snapshotOp
    rw [if_pos hm, e, ← hz, latchEdge_of_new (by rw [hz]; exact hnew), if_neg (by rw [hz]; exact hdrop), if_pos hnear]
  refine ⟨_, next_of_act (snapshotOp c id) hl hrun, ⟨m, ?_⟩, ?_, ?_, ?_, ?_⟩
  · rw [hz]; rfl
  · rw [get_count_self, hz]
    rfl
  · rw [hz]; rfl
  · rw [hz]; rfl
  · rw [hz]
    exact keepsRegs_put s Key.SNAP_MISSED _

end Command

/-! ### Edges to come -/

theorem snapControl_next {s : State} {tr : Transport} (hq : s.get Key.RPL_STATE ≠ 1) (hh : hostReady tr s = true) :
    ∃ t, exec (.snapControl tr) s = .next t ∧ accepted tr t = true ∧
      t.obs.latchDue = s.obs.latchDue ++ [(4, 3)] ∧ t.obs.latch = s.obs.latch ∧ t.outbox = s.outbox ∧ t.dom = s.dom ∧ t.stg = s.stg ∧
      t.env = s.env := by
  have hw : (s.opened tr 1).writeScalar tr 0x6040 0x05 1 = ((s.opened tr 1).latchIn 4 3, none) := rfl
  obtain ⟨t, he, hacc, -, c, d, et⟩ := hostScalar_unit hh hq (by decide) (by decide) (by decide) (by decide) hw rfl
  obtain ⟨r, f, x, w, eo⟩ := opened_moves s tr 1
  refine ⟨t, he, hacc, ?_⟩
  rw [et, eo]
  exact ⟨rfl, rfl, rfl, rfl, rfl, rfl⟩

/-- A TIME edge for which no log entry and no throttle level waits is the latch edges of the time it makes. -/
theorem timeEdge_latches {s : State} (hl : s.live = true) (hr : s.dru.rplBuf = {}) (ht : s.obs.traceBuf = {})
    (hc : s.get Key.CLK_LEVEL_IN = s.time.throttle) : s.timeEdge = ({ s with time := s.edgeTime } : State).dueLatches := by
  rw [timeEdge_of_clocked (clocked_of_live hl), flushRpl_of_empty (s := { s with time := s.edgeTime }) hr,
    flushTrace_of_empty (s := { s with time := s.edgeTime }) ht, takeLevel_of_accepted (s := { s with time := s.edgeTime }) hc]

theorem step_of_idle {s : State} (hp : s.pending = []) : Machine.step s = .next s.timeEdge := by
  unfold Machine.step
  rw [hp]

/-- One edge to come, on a TIME edge. -/
theorem dueLatches_one {s : State} {o n : Nat} (h : s.obs.latchDue = [(o, n)]) : s.dueLatches =
    if n ≤ 1 ∧ (o = 2 → s.get Key.SNAP_TRIG_ENABLE = 1) then
      ({ s with obs := { s.obs with latchDue := [] } } : State).latchEdge o none
    else { s with obs := { s.obs with latchDue := if 1 < n then [(o, n - 1)] else [] } } := by
  have hdue : [(o, n)].filter (fun d : Nat × Nat => decide (d.2 ≤ 1) && (d.1 != 2 || s.get Key.SNAP_TRIG_ENABLE == 1)) =
      if n ≤ 1 ∧ (o = 2 → s.get Key.SNAP_TRIG_ENABLE = 1) then [(o, n)] else [] := by
    rw [List.filter_cons, List.filter_nil]
    refine if_congr ?_ rfl rfl
    simp only [Bool.and_eq_true, decide_eq_true_eq, Bool.or_eq_true, bne_iff_ne, beq_iff_eq]
    tauto
  have hlater : ([(o, n)].filter (fun d : Nat × Nat => decide (1 < d.2))).map (fun d => (d.1, d.2 - 1)) = if 1 < n then [(o, n - 1)] else [] := by
    rw [List.filter_cons, List.filter_nil]
    by_cases hn : 1 < n
    · simp [hn]
    · simp [hn]
  unfold State.dueLatches
  rw [h]
  dsimp only
  rw [hdue, hlater]
  by_cases hd : n ≤ 1 ∧ (o = 2 → s.get Key.SNAP_TRIG_ENABLE = 1)
  · rw [if_pos hd, if_pos hd, if_neg (show ¬1 < n by omega)]
    rfl
  · rw [if_neg hd, if_neg hd]
    rfl

/-- A latch edge that falls on a TIME edge and is taken (R431). -/
theorem step_latches {s : State} {o : Nat} (hl : s.live = true) (hq : quiet s = true) (hp : s.pending = []) (hdue : s.obs.latchDue = [(o, 1)])
    (hr : s.dru.rplBuf = {}) (ht : s.obs.traceBuf = {}) (hc : s.get Key.CLK_LEVEL_IN = s.time.throttle)
    (htrig : o = 2 → s.get Key.SNAP_TRIG_ENABLE = 1) (hfar : ∀ x, s.obs.lastTick = some x → x + 1024 ≤ s.time.ticks + 1)
    (hdrop : s.obs.dropTick ≠ some (s.time.ticks + 1)) (hlock : s.get Key.SNAP_LOCK ≠ s.snapTarget) (htrc : s.get Key.TRC_STATE % 2 = 0) :
    ∃ t l, Machine.step s = .next t ∧ t.obs.latchDue = [] ∧ takenLatch s t l 0xFFFF o ∧ l.mask = 0 ∧ l.tick = t.tick ∧
      t.obs.lastTick = some (s.time.ticks + 1) := by
  obtain ⟨z, hz⟩ : ∃ z, z = ({ s with time := s.edgeTime, obs := { s.obs with latchDue := [] } } : State) := ⟨_, rfl⟩
  have hstep : Machine.step s = .next (z.takeLatch o none) := by
    rw [step_of_idle hp, timeEdge_latches hl hr ht hc, dueLatches_one (s := { s with time := s.edgeTime }) hdue,
      if_pos ⟨Nat.le_refl _, htrig⟩, ← latchEdge_taken (s := z) (by rw [hz]; exact hfar) (by rw [hz]; exact hdrop) (by rw [hz]; exact hlock), hz]
  obtain ⟨r, w, et, -⟩ := takeLatch_quiet (s := z) (by rw [hz]; exact hq) (by rw [hz]; exact htrc) o none
  refine ⟨_, z.newLatch o none, hstep, ?_, ⟨?_, rfl, rfl, ?_, ?_, ?_⟩, rfl, ?_, ?_⟩
  · rw [et, hz]
    rfl
  · rw [et]
    rfl
  · rw [hz]
    rfl
  · rw [et]
    rfl
  · rw [et, hz]
  · rw [et]
    rfl
  · rw [et, hz]
    rfl

/-- An edge to come that does not act on this TIME edge comes nearer, or is gone. -/
theorem step_waits {s : State} {o n : Nat} (hl : s.live = true) (hp : s.pending = []) (hdue : s.obs.latchDue = [(o, n)])
    (hr : s.dru.rplBuf = {}) (ht : s.obs.traceBuf = {}) (hc : s.get Key.CLK_LEVEL_IN = s.time.throttle)
    (hno : ¬(n ≤ 1 ∧ (o = 2 → s.get Key.SNAP_TRIG_ENABLE = 1))) :
    ∃ t, Machine.step s = .next t ∧ t.obs.latchDue = (if 1 < n then [(o, n - 1)] else []) ∧ t.obs.latch = s.obs.latch ∧ t.outbox = s.outbox := by
  have hedge : s.timeEdge = { s with time := s.edgeTime, obs := { s.obs with latchDue := if 1 < n then [(o, n - 1)] else [] } } :=
    (timeEdge_latches hl hr ht hc).trans ((dueLatches_one (s := { s with time := s.edgeTime }) hdue).trans (if_neg hno))
  refine ⟨_, step_of_idle hp, ?_⟩
  rw [hedge]
  exact ⟨rfl, rfl, rfl⟩

/-! ### The image -/

theorem snapTarget_le (s : State) : s.snapTarget ≤ 1 := by
  unfold State.snapTarget
  split
  · decide
  · decide

theorem snapshotImageDone_next {s : State} {l : Latch} (hl : s.live = true) (hp : s.obs.pending = true) (h : s.obs.latch = some l)
    (hm : Memory.wf s = true) :
    ∃ t, exec .snapshotImageDone s = .next t ∧ t.get Key.SNAP_SEQ = l.seq % 2 ^ 64 ∧ t.get Key.SNAP_LATEST = s.snapTarget ∧ t.obs.pending = false ∧
      t.domBytes (if s.snapTarget = 0 then Dom.SNAP_SET0 else Dom.SNAP_SET1) 0 (snapImage l).length = snapImage l ∧
      keepsRegs [Key.SNAP_SEQ, Key.SNAP_LATEST] s t ∧ t = { s with regs := t.regs, dom := t.dom, obs := t.obs } := by
  obtain ⟨z, hz⟩ : ∃ z, z = s.domPut (if s.snapTarget = 0 then Dom.SNAP_SET0 else Dom.SNAP_SET1) 0 (snapImage l) := ⟨_, rfl⟩
  have hzs : keepsRegs [] s z := keepsRegs_of_regs (by rw [hz]; rfl)
  have hrun : snapshotImageDoneOp s =
      { (z.put Key.SNAP_SEQ l.seq).put Key.SNAP_LATEST s.snapTarget with obs := { s.obs with pending := false } } := by
    unfold snapshotImageDoneOp
    rw [hp, h, hz]
    rfl
  have hbytes := domBytes_domPut_self (dom_canonical hm) (if s.snapTarget = 0 then Dom.SNAP_SET0 else Dom.SNAP_SET1) 0 (snapImage l)
  rw [← hz] at hbytes
  refine ⟨_, next_of_act snapshotImageDoneOp hl hrun, ?_, ?_, rfl, hbytes, ?_, ?_⟩
  · show ((z.put Key.SNAP_SEQ l.seq).put Key.SNAP_LATEST s.snapTarget).get Key.SNAP_SEQ = _
    rw [get_put_ne _ _ (by decide), get_put_self]
  · have := snapTarget_le s
    show ((z.put Key.SNAP_SEQ l.seq).put Key.SNAP_LATEST s.snapTarget).get Key.SNAP_LATEST = _
    rw [get_put_self]
    exact Nat.mod_eq_of_lt (by omega)
  · have hk : keepsRegs [Key.SNAP_SEQ, Key.SNAP_LATEST] s ((z.put Key.SNAP_SEQ l.seq).put Key.SNAP_LATEST s.snapTarget) :=
      (hzs.trans (keepsRegs_put z Key.SNAP_SEQ l.seq) (List.nil_subset _) (List.Subset.refl _)).trans (keepsRegs_put _ _ _) (by decide) (by decide)
    exact hk
  · rw [hz]
    rfl

/-- Settles O59: each command's effect by its own lemma; on a TIME edge one edge to come acts or comes nearer. -/
theorem fieldAndSnapshots : Obligations.FieldAndSnapshots := by
  intro s hl hq
  refine ⟨fun hb hs hd => heartbeat_next hl hb hs hd, fun l cause r he hs => interruptEventFrame_next hl he hs,
    fun n hs ht hr => ⟨fun hn => canBusError_transmit hl hs hr hn, fun hn hb => canBusError_off hl hs hr hn hb, canBusError_receive hl hs ht n⟩,
    canBusOffRecovery_next hl, fun c id hm hnew hdrop => ⟨fun hfar hlock ht => snapshot_taken hl hq hm hdrop hfar hlock ht,
      fun h => snapshot_missed hl hq hm hnew hdrop h⟩,
    ⟨_, next_of_act snapInEdgeOp hl rfl, rfl, rfl⟩, fun tr hh => snapControl_next (rplState_ne_of_quiet hq) hh, ?_, ?_⟩
  · intro o n hp hdue hr ht hc
    refine ⟨fun hn => ?_, fun hn ho htrig => ?_, fun hn ho hfar hdrop hlock htrc => ?_⟩
    · have := step_waits hl hp hdue hr ht hc (by omega)
      rwa [if_pos hn] at this
    · have := step_waits hl hp hdue hr ht hc (fun h => htrig (h.2 ho))
      rwa [if_neg (by omega)] at this
    · subst hn
      exact step_latches hl hq hp hdue hr ht hc (by omega) hfar hdrop hlock htrc
  · exact fun l hpend hlatch hm => snapshotImageDone_next hl hpend hlatch hm

end Sys2Proof.Machine

/-! SUPPORT. The Sealed Metering Partition: its log, tap words, energy and records (R437, R440 to R445). -/

namespace Sys2Proof.Machine

open Sys2Proof

/-- A command of the timebase or the partition while the derived clocks run. -/
theorem next_of_actTime {s t : State} (f : State → State) (hl : s.live = true) (h : f s = t) :
    (.next (actTime f s) : Host.Outcome State Fault Refusal) = .next t := by rw [actTime, if_pos (clocked_of_live hl), h]

/-! ### The partition's log -/

/-- The registers that an entry of the partition's log can move. -/
def meterLogKeys : List Nat := Key.METER_LOG_HEAD :: causeKeys

/-- An entry of the partition's log (Table 18.9). -/
def State.meterEntry (s : State) (kind ctx a0 a1 : Nat) : Bytes :=
  le 4 (s.get Key.METER_LOG_HEAD) ++ le 1 kind ++ le 1 ctx ++ le 2 0 ++ le 8 s.meterMs ++ le 8 a0 ++ le 8 a1

theorem meterEntry_length (s : State) (kind ctx a0 a1 : Nat) : (s.meterEntry kind ctx a0 a1).length = 32 := by
  simp [State.meterEntry]

section Log
variable (s : State) (kind ctx a0 a1 : Nat)

/-- An entry put in the ring and its head moved on. -/
def State.meterPut : State :=
  (s.domPut Dom.METER_LOG (32 * (s.get Key.METER_LOG_HEAD % 1024)) (s.meterEntry kind ctx a0 a1)).put Key.METER_LOG_HEAD
    ((s.get Key.METER_LOG_HEAD + 1) % 2 ^ 32)

theorem meterPut_moves : ∃ r d, s.meterPut kind ctx a0 a1 = { s with regs := r, dom := d } := ⟨_, _, rfl⟩

theorem meterLog_eq : s.meterLog kind ctx a0 a1 =
    if meterSets kind then (s.meterPut kind ctx a0 a1).routeEvent 2 else s.meterPut kind ctx a0 a1 := rfl

theorem meterLog_moves : ∃ r d f, s.meterLog kind ctx a0 a1 = { s with regs := r, dom := d, field := f } := by
  rw [meterLog_eq]
  obtain ⟨r, d, e⟩ := meterPut_moves s kind ctx a0 a1
  split
  · obtain ⟨r', f, e'⟩ := routeEvent_moves (s.meterPut kind ctx a0 a1) 2
    rw [e', e]
    exact ⟨_, _, _, rfl⟩
  · rw [e]
    exact ⟨_, _, _, rfl⟩

theorem meterPut_keepsRegs : keepsRegs [Key.METER_LOG_HEAD] s (s.meterPut kind ctx a0 a1) := keepsRegs_put s _ _

theorem meterLog_keepsRegs : keepsRegs meterLogKeys s (s.meterLog kind ctx a0 a1) := by
  have hput := (meterPut_keepsRegs s kind ctx a0 a1).mono (ls := meterLogKeys) (List.cons_subset.2 ⟨List.mem_cons_self, List.nil_subset _⟩)
  rw [meterLog_eq]
  split
  · exact hput.trans (routeEvent_keepsRegs _ 2) (List.Subset.refl _) (List.subset_cons_self ..)
  · exact hput

theorem get_meterLog_head : (s.meterLog kind ctx a0 a1).get Key.METER_LOG_HEAD = (s.get Key.METER_LOG_HEAD + 1) % 2 ^ 32 := by
  have hput : (s.meterPut kind ctx a0 a1).get Key.METER_LOG_HEAD = (s.get Key.METER_LOG_HEAD + 1) % 2 ^ 32 := by
    unfold State.meterPut
    rw [get_put_self]
    exact Nat.mod_eq_of_lt (Nat.lt_trans (Nat.mod_lt _ (by decide)) (by decide))
  rw [meterLog_eq]
  split
  · rw [routeEvent_keepsRegs _ 2 _ (by decide), hput]
  · exact hput

theorem meterLog_dom : (s.meterLog kind ctx a0 a1).dom =
    (s.domPut Dom.METER_LOG (32 * (s.get Key.METER_LOG_HEAD % 1024)) (s.meterEntry kind ctx a0 a1)).dom := by
  rw [meterLog_eq]
  split
  · obtain ⟨r, f, e⟩ := routeEvent_moves (s.meterPut kind ctx a0 a1) 2
    rw [e]
    rfl
  · rfl

theorem meterLog_domFrame : DomFrame [Dom.METER_LOG] s (s.meterLog kind ctx a0 a1) := by
  have hspan : domSpan = 2 ^ 20 := rfl
  refine DomFrame.trans (DomFrame.domPut s (k := Dom.METER_LOG) (o := 32 * (s.get Key.METER_LOG_HEAD % 1024))
    (bs := s.meterEntry kind ctx a0 a1) List.mem_cons_self ?_) (.of_dom (meterLog_dom ..))
  rw [meterEntry_length]
  have := Nat.mod_lt (s.get Key.METER_LOG_HEAD) (show 0 < 1024 by decide)
  omega

/-- The fields of an entry. -/
theorem u_meterEntry : u (s.meterEntry kind ctx a0 a1) 4 1 = kind % 256 ∧ u (s.meterEntry kind ctx a0 a1) 16 8 = a0 % 2 ^ 64 ∧
    u (s.meterEntry kind ctx a0 a1) 24 8 = a1 % 2 ^ 64 := by
  have h4 := u_at (le 4 (s.get Key.METER_LOG_HEAD)) (le 1 kind) (le 1 ctx ++ le 2 0 ++ le 8 s.meterMs ++ le 8 a0 ++ le 8 a1)
  have h16 := u_at (le 4 (s.get Key.METER_LOG_HEAD) ++ le 1 kind ++ le 1 ctx ++ le 2 0 ++ le 8 s.meterMs) (le 8 a0) (le 8 a1)
  have h24 := u_at (le 4 (s.get Key.METER_LOG_HEAD) ++ le 1 kind ++ le 1 ctx ++ le 2 0 ++ le 8 s.meterMs ++ le 8 a0) (le 8 a1) []
  simp only [List.append_nil, List.append_assoc, List.length_append, le_length, unle_le] at h4 h16 h24
  unfold State.meterEntry
  simp only [List.append_assoc]
  exact ⟨h4, h16, h24⟩

end Log

/-! ### Restoring -/

section Restore
variable {s : State}

/-- A state that restores: the key's identity shown, the configuration record asked for. -/
def State.restoring (s : State) : State :=
  (s.put Key.METER_KEY_ID (u (sha256 s.meter.key) 0 4)).emit (.nvRead 0 256)

/-- A seal failure's log records (R442). -/
theorem sealFail_spec (hq : quiet s = true) (what count : Nat) : (s.sealFail what count).get Key.METER_STATE = 2 ∧
    (s.sealFail what count).get Key.FLT_LOG_HEAD = (s.get Key.FLT_LOG_HEAD + 1) % 2 ^ 32 ∧
    (s.sealFail what count).get Key.METER_LOG_HEAD = (s.get Key.METER_LOG_HEAD + 1) % 2 ^ 32 ∧
    (s.sealFail what count).outbox = s.outbox := by
  obtain ⟨r, d, f, el⟩ := log_moves hq { cls := Ec.seal, det := 0x02, dom := 24 }
  obtain ⟨r', d', f', em⟩ := meterLog_moves (s.sealEv 0x02) 0x03 0xFF what count
  unfold State.sealFail
  dsimp only
  refine ⟨get_put_self _ _ _, ?_, ?_, ?_⟩
  · rw [get_put_ne _ _ (by decide)]
    refine (meterLog_keepsRegs (s.sealEv 0x02) 0x03 0xFF what count _ (by decide)).trans ?_
    exact get_log_head hq _
  · rw [get_put_ne _ _ (by decide)]
    refine (get_meterLog_head (s.sealEv 0x02) 0x03 0xFF what count).trans ?_
    exact congrArg (fun n => (n + 1) % 2 ^ 32) (log_keepsRegs hq _ _ (by decide))
  · show ((s.sealEv 0x02).meterLog 0x03 0xFF what count).outbox = _
    rw [em]
    show (s.log _).outbox = _
    rw [el]

/-- The counters that a tap word can raise: those of the block but the energy, and the refused writes. -/
def tapCounts (k : Nat) : Prop := 0x701001 ≤ k ∧ k ≤ 0x701508 ∨ k = Key.METER_WRITE_REFUSED

theorem tapCounts_meterKey {q c : Nat} (hq : q < 6) (hc : c < 8) : tapCounts (meterKey q c) := by
  left
  simp only [meterKey, entryKey]
  omega

/-- What a tap word counts: its counters and the meter's own state. -/
def Counted (s t : State) : Prop := (∃ r m, t = { s with regs := r, meter := m }) ∧ ∀ k, ¬ tapCounts k → t.get k = s.get k

namespace Counted

theorem refl (s : State) : Counted s s := ⟨⟨_, _, rfl⟩, fun _ _ => rfl⟩

theorem trans {s t z : State} (h : Counted s t) (h' : Counted t z) : Counted s z := by
  obtain ⟨⟨r, m, e⟩, hk⟩ := h
  obtain ⟨⟨r', m', e'⟩, hk'⟩ := h'
  exact ⟨⟨r', m', by rw [e', e]⟩, fun k hn => (hk' k hn).trans (hk k hn)⟩

theorem put (s : State) {k : Nat} (v : Nat) (h : tapCounts k) : Counted s (s.put k v) :=
  ⟨⟨_, _, rfl⟩, fun _ hn => get_put_ne s v fun e => hn (e ▸ h)⟩

theorem meter (s : State) (m : Meter) : Counted s { s with meter := m } := ⟨⟨_, _, rfl⟩, fun _ _ => rfl⟩

theorem foldl {α : Type} {f : State → α → State} (l : List α) (s : State) (hf : ∀ z, ∀ a ∈ l, Counted z (f z a)) : Counted s (l.foldl f s) :=
  List.foldlRecOn (motive := Counted s) l f (refl s) (fun _ h a ha => h.trans (hf _ a ha))

end Counted

theorem bits_lt (w lo n : Nat) : bits w lo n < 2 ^ n := Nat.mod_lt _ (Nat.two_pow_pos n)

theorem meterCount_counted (s : State) (w : Nat) : Counted s (s.meterCount w) := by
  have hc : bits w 57 3 < 8 := bits_lt w 57 3
  unfold State.meterCount
  dsimp only
  split
  next h => exact .put s _ (tapCounts_meterKey (by omega) hc)
  split
  · exact .meter ..
  split
  · refine .foldl _ s fun z c hm => ?_
    split
    · exact .put z _ (tapCounts_meterKey (by decide) (List.mem_range.1 hm))
    · exact .refl z
  split
  · exact (Counted.put s _ (.inr rfl)).trans (.meter ..)
  split
  · exact .meter ..
  · exact .refl s

/-- The configuration record's PARAMS and seal count in force. -/
def State.adopting (s : State) (cfg : Bytes) : State :=
  (s.domPut Dom.METER_PARAMS 0 (sub cfg 8 64)).put Key.METER_SEAL_COUNT (u cfg 4 4)

/-- The end of a restore: RESTORED logged, metering on, the tap words held until then counted. -/
def State.metering (s : State) (count seq : Nat) : State :=
  (s.meterLog 0x01 0xFF count seq).meter.held.foldl (fun z w => z.meterCount w.toNat)
    (({ s.meterLog 0x01 0xFF count seq with meter := { (s.meterLog 0x01 0xFF count seq).meter with
          held := [], tickBase := (s.meterLog 0x01 0xFF count seq).time.ticks,
          mark := (s.meterLog 0x01 0xFF count seq).meter.msBase / 1000 * 1000,
          quiet := (s.meterLog 0x01 0xFF count seq).allStopped } }).put Key.METER_STATE 1)

/-- Before a restore without a state record: both failed slots logged (Table 17.7), the configuration in force. -/
def State.unrecorded (s : State) (cfg : Bytes) : State :=
  (((s.restoring.emit (.nvRead 4096 33376)).emit (.nvRead 40960 33376)).sealEv 0x03).adopting cfg

section Op
variable (hb : s.build.partition = true) (hp : s.phase = .running) (hm : s.get Key.METER_STATE = 0)
include hb hp hm

theorem meterRestore_open (hz : allZero s.meter.key = true) : meterRestoreOp s =
    ({ s with meter := { s.meter with held := [] } }).put Key.METER_STATE 3 := by
  unfold meterRestoreOp
  rw [if_pos (by rw [hb, hp, hm]; rfl), if_pos hz]

theorem meterRestore_sealed (hz : allZero s.meter.key = false) (hc : s.configOk (s.nvBytes 0 256) = false) :
    meterRestoreOp s = s.restoring.sealFail 0x01 (u (s.nvBytes 0 256) 4 4) := by
  unfold meterRestoreOp
  rw [if_pos (by rw [hb, hp, hm]; rfl), if_neg (by rw [hz]; exact Bool.false_ne_true)]
  exact if_pos (congrArg (!·) hc)

theorem meterRestore_unrecorded (hz : allZero s.meter.key = false) (hc : s.configOk (s.nvBytes 0 256) = true)
    (h0 : s.slotOk (s.nvBytes 4096 33376) = false) (h1 : s.slotOk (s.nvBytes 40960 33376) = false) : meterRestoreOp s =
    State.metering (if u (s.nvBytes 0 256) 4 4 = 1
      then (s.unrecorded (s.nvBytes 0 256)).meterLog 0x02 0xFF (u (s.nvBytes 0 256) 4 4) (crc32c (sub (s.nvBytes 0 256) 8 64))
      else (s.unrecorded (s.nvBytes 0 256)).meterLog 0x04 0xFF (2 ^ 64 - 1) 0) (u (s.nvBytes 0 256) 4 4) 0 := by
  have hgood : [s.nvBytes 4096 33376, s.nvBytes 40960 33376].filter s.slotOk = [] := by
    rw [List.filter_cons_of_neg (by rw [h0]; exact Bool.false_ne_true), List.filter_cons_of_neg (by rw [h1]; exact Bool.false_ne_true),
      List.filter_nil]
  unfold meterRestoreOp
  rw [if_pos (by rw [hb, hp, hm]; rfl), if_neg (by rw [hz]; exact Bool.false_ne_true)]
  refine (if_neg (show ¬ (!(s.configOk (s.nvBytes 0 256))) = true by rw [hc]; decide)).trans ?_
  extract_lets z slots good s2 best adopt change finish
  have hg : good = [] := hgood
  have hbest : best = none := by
    unfold best
    rw [hg, List.foldl_nil]
  have hs2 : s2 = z.sealEv 0x03 := if_pos (by rw [hg]; decide)
  clear_value best s2
  subst hbest hs2
  rfl

end Op
theorem metering_spec (s : State) (count seq : Nat) : (s.metering count seq).get Key.METER_STATE = 1 ∧
    (s.metering count seq).get Key.METER_SEAL_COUNT = s.get Key.METER_SEAL_COUNT ∧ (s.metering count seq).outbox = s.outbox ∧
    DomFrame [Dom.METER_LOG] s (s.metering count seq) := by
  obtain ⟨r, d, f, e⟩ := meterLog_moves s 0x01 0xFF count seq
  obtain ⟨z, hz⟩ : ∃ z, z = ({ s.meterLog 0x01 0xFF count seq with meter := { (s.meterLog 0x01 0xFF count seq).meter with
      held := [], tickBase := (s.meterLog 0x01 0xFF count seq).time.ticks,
      mark := (s.meterLog 0x01 0xFF count seq).meter.msBase / 1000 * 1000,
      quiet := (s.meterLog 0x01 0xFF count seq).allStopped } }).put Key.METER_STATE 1 := ⟨_, rfl⟩
  have hcount : Counted z (s.metering count seq) := by
    rw [hz]
    exact .foldl _ _ fun z w _ => meterCount_counted z w.toNat
  obtain ⟨⟨r', m', e'⟩, hget⟩ := hcount
  have hdom : z.dom = (s.meterLog 0x01 0xFF count seq).dom := by rw [hz]; rfl
  have hout : z.outbox = (s.meterLog 0x01 0xFF count seq).outbox := by rw [hz]; rfl
  refine ⟨?_, ?_, ?_, ?_⟩
  · rw [hget _ (by simp [tapCounts, Key.METER_STATE, Key.METER_WRITE_REFUSED]), hz]
    exact get_put_self _ _ _
  · rw [hget _ (by simp [tapCounts, Key.METER_SEAL_COUNT, Key.METER_WRITE_REFUSED]), hz, get_put_ne _ _ (by decide)]
    exact meterLog_keepsRegs s 0x01 0xFF count seq _ (by decide)
  · rw [e', show ({ z with regs := r', meter := m' } : State).outbox = z.outbox from rfl, hout, e]
  · refine (meterLog_domFrame s 0x01 0xFF count seq).trans (.of_dom ?_)
    rw [e', show ({ z with regs := r', meter := m' } : State).dom = z.dom from rfl, hdom]

/-- A log entry before the end of a restore. -/
theorem meterLog_spec (s : State) (kind ctx a0 a1 : Nat) :
    (s.meterLog kind ctx a0 a1).get Key.METER_SEAL_COUNT = s.get Key.METER_SEAL_COUNT ∧ (s.meterLog kind ctx a0 a1).outbox = s.outbox := by
  obtain ⟨r, d, f, e⟩ := meterLog_moves s kind ctx a0 a1
  exact ⟨meterLog_keepsRegs s kind ctx a0 a1 _ (by decide), by rw [e]⟩

theorem u_mod {bs : Bytes} {o n k : Nat} (h : 8 * n ≤ k) : u bs o n % 2 ^ k = u bs o n := by
  refine Nat.mod_eq_of_lt (Nat.lt_of_lt_of_le (unle_lt _) ?_)
  refine (Nat.pow_le_pow_right (by decide) (List.length_take_le _ _)).trans ?_
  rw [show (256 : Nat) = 2 ^ 8 from rfl, ← Nat.pow_mul]
  exact Nat.pow_le_pow_right (by decide) h

theorem unrecorded_spec (hq : quiet s = true) (hwf : Memory.wf s = true) (cfg : Bytes) :
    (s.unrecorded cfg).get Key.METER_SEAL_COUNT = u cfg 4 4 ∧
    (s.unrecorded cfg).outbox = s.outbox ++ [.nvRead 0 256, .nvRead 4096 33376, .nvRead 40960 33376] ∧
    (s.unrecorded cfg).domBytes Dom.METER_PARAMS 0 64 = sub cfg 8 64 ∧
    Sparse.canonical domDefault (s.unrecorded cfg).dom = true := by
  obtain ⟨z, hz⟩ : ∃ z, z = (s.restoring.emit (.nvRead 4096 33376)).emit (.nvRead 40960 33376) := ⟨_, rfl⟩
  have hqz : quiet z = true := by
    rw [hz]
    exact quiet_congr hq (get_put_ne s _ (by decide)) rfl
  have hout : z.outbox = s.outbox ++ [.nvRead 0 256, .nvRead 4096 33376, .nvRead 40960 33376] := by
    rw [hz]
    simp [State.restoring, State.emit, State.put]
  have hdom : z.dom = s.dom := by rw [hz]; rfl
  obtain ⟨r, d, f, e⟩ := log_moves hqz { cls := Ec.seal, det := 0x03, dom := 24 }
  have hcanon : Sparse.canonical domDefault (z.sealEv 0x03).dom = true :=
    (DomFrame.log (ks := noticeDoms) z (List.Subset.refl _) (by decide)).canon (hdom ▸ dom_canonical hwf)
  have hseal : (z.sealEv 0x03).outbox = z.outbox := by
    unfold State.sealEv
    rw [e]
  unfold State.unrecorded
  rw [← hz]
  obtain ⟨y, hy⟩ : ∃ y, y = z.sealEv 0x03 := ⟨_, rfl⟩
  rw [← hy] at hcanon hseal ⊢
  have hself := domBytes_domPut_self hcanon Dom.METER_PARAMS 0 (sub cfg 8 64)
  rw [sub_length] at hself
  refine ⟨(get_put_self _ _ _).trans (u_mod (by decide)), hseal.trans hout, hself, ?_⟩
  exact (DomFrame.domPut (ks := [Dom.METER_PARAMS]) y List.mem_cons_self (by rw [sub_length]; decide)).canon hcanon

/-- The end of a restore without a state record. -/
theorem meterRestore_unrecorded_spec (hq : quiet s = true) (hwf : Memory.wf s = true) (cfg : Bytes) (kind a0 a1 seq : Nat) {t : State}
    (ht : t = ((s.unrecorded cfg).meterLog kind 0xFF a0 a1).metering (u cfg 4 4) seq) :
    t.get Key.METER_STATE = 1 ∧ t.get Key.METER_SEAL_COUNT = u cfg 4 4 ∧ t.domBytes Dom.METER_PARAMS 0 64 = sub cfg 8 64 ∧
    t.outbox = s.outbox ++ [.nvRead 0 256, .nvRead 4096 33376, .nvRead 40960 33376] := by
  obtain ⟨hseal, hout, hbytes, hcanon⟩ := unrecorded_spec hq hwf cfg
  obtain ⟨hseal', hout'⟩ := meterLog_spec (s.unrecorded cfg) kind 0xFF a0 a1
  obtain ⟨hstate, hseal'', hout'', hframe⟩ := metering_spec ((s.unrecorded cfg).meterLog kind 0xFF a0 a1) (u cfg 4 4) seq
  subst ht
  refine ⟨hstate, by rw [hseal'', hseal', hseal], ?_, by rw [hout'', hout', hout]⟩
  rw [((meterLog_domFrame ..).trans hframe).domBytes hcanon (by decide) (by decide), hbytes]

end Restore
end Sys2Proof.Machine

/-! SUPPORT. What the Sealed Metering Partition does with each word it takes (R437, R440 to R445). -/

namespace Sys2Proof.Machine

open Sys2Proof

/-! ### Tap words -/

/-- The first bytes of a range. -/
theorem memRead_take (f : Nat → Byte) {m : List (Nat × Byte)} (a : Nat) {n k : Nat} (h : Sparse.rising m = true) (hn : n ≤ k) :
    Mem.read f m a n = (Mem.read f m a k).take n := by
  rw [read_eq f n a h, read_eq f k a h, ← List.map_take, List.take_range, Nat.min_eq_left hn]

/-- The first bytes of what was put in an entry. -/
theorem domBytes_domPut_take {s : State} (h : Sparse.canonical domDefault s.dom = true) (k o : Nat) {n : Nat} {bs : Bytes} (hn : n ≤ bs.length) :
    (s.domPut k o bs).domBytes k o n = bs.take n := by
  have hr : Sparse.rising (s.domPut k o bs).dom = true := (Bool.and_eq_true_iff.1 (writeDflt_canonical domDefault _ _ _ h)).1
  exact (memRead_take domDefault _ hr hn).trans (congrArg (List.take n) (domBytes_domPut_self h k o bs))

section Tap
variable {s : State} {w : U64} {r : List U64}

/-- A state whose oldest tap word has been taken. -/
def State.tapTaken (s : State) (r : List U64) : State := { s with meter := { s.meter with tap := r } }

theorem tapWordOp_cons (ht : s.meter.tap = w :: r) : tapWordOp s =
    (if bits w.toNat 60 4 = 8 then
      (if s.get Key.METER_STATE = 1 then (s.tapTaken r).meterCount w.toNat
        else if s.get Key.METER_STATE = 0 then
          { s.tapTaken r with meter := { (s.tapTaken r).meter with held := (s.tapTaken r).meter.held ++ [w] } }
        else s.tapTaken r).meterReport (bits w.toNat 32 16) (bits w.toNat 0 32)
    else if s.get Key.METER_STATE = 1 then (s.tapTaken r).meterCount w.toNat
    else if s.get Key.METER_STATE = 0 then
      { s.tapTaken r with meter := { (s.tapTaken r).meter with held := (s.tapTaken r).meter.held ++ [w] } }
    else s.tapTaken r) := by
  unfold tapWordOp
  rw [ht] <;> rfl

/-- A count of a context's block (Table 18.7). -/
theorem meterCount_block (s : State) {w : Nat} (h1 : 1 ≤ bits w 60 4) (h5 : bits w 60 4 ≤ 5) :
    s.meterCount w = s.count64 (meterKey (bits w 60 4 - 1) (bits w 57 3)) (bits w 0 57) := if_pos ⟨h1, h5⟩

/-- A refused write (Table 18.7). -/
theorem meterCount_refused (s : State) {w : Nat} (h : bits w 60 4 = 9) : s.meterCount w =
    (s.count Key.METER_WRITE_REFUSED 1).setRefused (s.meter.refCount + 1) (bits w 0 57) := by
  unfold State.meterCount
  simp only [h]
  rfl

/-- A LATCH word counts nothing. -/
theorem meterCount_latch (s : State) {w : Nat} (h : bits w 60 4 = 8) : s.meterCount w = s := by
  unfold State.meterCount
  simp only [h]
  rfl

/-- The state of a partition that reports in state 1. -/
def State.reporting (s : State) : State := { s with meter := { s.meter with reportSeq := s.meter.reportSeq + 1 } }

/-- What a report says in state 1, before its code (Table 18.10). -/
def State.reportBody (s : State) (id seq : Nat) : Bytes :=
  le 8 s.meter.reportSeq ++ le 4 seq ++ le 2 id ++ le 1 0 ++
    le 1 (match s.obs.latch with | some l => if l.seq = seq then l.mask else 0 | none => 0) ++
    le 8 s.build.serial.toNat ++ le 4 (s.get Key.METER_SEAL_COUNT) ++ le 4 (s.get Key.METER_KEY_ID) ++ sub s.build.fwHash 0 32 ++
    le 8 s.meterMs ++ le 8 (match s.obs.latch with | some l => l.frame | none => 0) ++ le 8 (s.get Key.METER_ENERGY_IDLE) ++
    sub s.meterParams 0 8 ++ (List.range 8).flatMap s.meterBlock

theorem meterReport_sealed {id seq : Nat} (hm : s.get Key.METER_STATE = 1) : s.meterReport id seq =
    s.reporting.domPut Dom.METER_REPORT 0 (s.reporting.reportBody id seq ++ hmac s.meter.key (s.reporting.reportBody id seq)) := by
  unfold State.meterReport
  simp only [hm, if_true]
  rfl

/-- A report's first words. -/
theorem reportBody_take (id seq : Nat) (mac : Bytes) :
    (s.reportBody id seq ++ mac).take 14 = le 8 s.meter.reportSeq ++ (le 4 seq ++ le 2 id) := by
  have hlen : (le 8 s.meter.reportSeq ++ (le 4 seq ++ le 2 id)).length = 14 := by simp
  unfold State.reportBody
  simp only [List.append_assoc]
  rw [← List.append_assoc (le 4 seq), ← List.append_assoc (le 8 s.meter.reportSeq)]
  exact List.take_left' hlen

theorem u_reportHead (n id seq : Nat) : u (le 8 n ++ (le 4 seq ++ le 2 id)) 0 8 = n % 2 ^ 64 ∧
    u (le 8 n ++ (le 4 seq ++ le 2 id)) 8 4 = seq % 2 ^ 32 ∧ u (le 8 n ++ (le 4 seq ++ le 2 id)) 12 2 = id % 2 ^ 16 := by
  have h0 := u_at [] (le 8 n) (le 4 seq ++ le 2 id)
  have h8 := u_at (le 8 n) (le 4 seq) (le 2 id)
  have h12 := u_at (le 8 n ++ le 4 seq) (le 2 id) []
  simp only [List.nil_append, List.append_nil, List.append_assoc, List.length_append, List.length_nil, le_length, unle_le] at h0 h8 h12
  exact ⟨h0, h8, h12⟩

/-- A LATCH word taken in state 1 (R445). -/
theorem tapWord_report (hl : s.live = true) (hwf : Memory.wf s = true) (ht : s.meter.tap = w :: r) (hm : s.get Key.METER_STATE = 1)
    (h8 : bits w.toNat 60 4 = 8) : ∃ t, exec .tapWord s = .next t ∧ t.meter.tap = r ∧
      t.meter.reportSeq = s.meter.reportSeq + 1 ∧ u (t.domBytes Dom.METER_REPORT 0 14) 0 8 = (s.meter.reportSeq + 1) % 2 ^ 64 ∧
      u (t.domBytes Dom.METER_REPORT 0 14) 8 4 = bits w.toNat 0 32 ∧ u (t.domBytes Dom.METER_REPORT 0 14) 12 2 = bits w.toNat 32 16 ∧
      t = { s with dom := t.dom, meter := t.meter } := by
  obtain ⟨z, hz⟩ : ∃ z, z = s.tapTaken r := ⟨_, rfl⟩
  have hzm : z.get Key.METER_STATE = 1 := by rw [hz]; exact hm
  have hrun : tapWordOp s = z.meterReport (bits w.toNat 32 16) (bits w.toNat 0 32) := by
    rw [tapWordOp_cons ht, if_pos h8, if_pos hm, meterCount_latch _ h8, hz]
  rw [meterReport_sealed hzm] at hrun
  obtain ⟨mac, hmac⟩ : ∃ mac, mac = hmac z.meter.key (z.reporting.reportBody (bits w.toNat 32 16) (bits w.toNat 0 32)) := ⟨_, rfl⟩
  rw [← hmac] at hrun
  have hlen : 14 ≤ (z.reporting.reportBody (bits w.toNat 32 16) (bits w.toNat 0 32) ++ mac).length := by
    simp only [State.reportBody, List.length_append, le_length]
    omega
  have hcanon : Sparse.canonical domDefault z.reporting.dom = true := by rw [hz]; exact dom_canonical hwf
  have hbytes := (domBytes_domPut_take hcanon Dom.METER_REPORT 0 hlen).trans (reportBody_take ..)
  obtain ⟨hseq, hlat, hid⟩ := u_reportHead z.reporting.meter.reportSeq (bits w.toNat 32 16) (bits w.toNat 0 32)
  have hsq : z.reporting.meter.reportSeq = s.meter.reportSeq + 1 := by rw [hz]; rfl
  refine ⟨_, next_of_actTime tapWordOp hl hrun, ?_, ?_, ?_, ?_, ?_, ?_⟩
  · rw [hz]; rfl
  · exact hsq
  · rw [hbytes, hseq, hsq]
  · rw [hbytes, hlat]
    exact Nat.mod_eq_of_lt (bits_lt ..)
  · rw [hbytes, hid]
    exact Nat.mod_eq_of_lt (bits_lt ..)
  · rw [hz]; rfl

/-- A count of a context's block taken in state 1 (Table 18.7). -/
theorem tapWord_block (hl : s.live = true) (ht : s.meter.tap = w :: r) (hm : s.get Key.METER_STATE = 1)
    (h1 : 1 ≤ bits w.toNat 60 4) (h5 : bits w.toNat 60 4 ≤ 5) : ∃ t, exec .tapWord s = .next t ∧ t.meter.tap = r ∧
      t.get (meterKey (bits w.toNat 60 4 - 1) (bits w.toNat 57 3)) =
        (s.get (meterKey (bits w.toNat 60 4 - 1) (bits w.toNat 57 3)) + bits w.toNat 0 57) % 2 ^ 64 ∧
      keepsRegs [meterKey (bits w.toNat 60 4 - 1) (bits w.toNat 57 3)] s t ∧ t = { s with regs := t.regs, meter := t.meter } := by
  have h8 : bits w.toNat 60 4 ≠ 8 := by omega
  have hrun := tapWordOp_cons ht
  rw [if_neg h8, if_pos hm, meterCount_block _ h1 h5] at hrun
  refine ⟨_, next_of_actTime tapWordOp hl hrun, rfl, get_put_self _ _ _, ?_, rfl⟩
  exact (keepsRegs_of_regs rfl).trans (keepsRegs_put (s.tapTaken r) _ _) (List.nil_subset _) (List.Subset.refl _)

/-- A refused write taken in state 1 (Table 18.7). -/
theorem tapWord_refused (hl : s.live = true) (ht : s.meter.tap = w :: r) (hm : s.get Key.METER_STATE = 1) (h9 : bits w.toNat 60 4 = 9) :
    ∃ t, exec .tapWord s = .next t ∧ t.meter.tap = r ∧ t.meter.refCount = s.meter.refCount + 1 ∧ t.meter.refLast = bits w.toNat 0 57 ∧
      t.get Key.METER_WRITE_REFUSED = satAdd max32 (s.get Key.METER_WRITE_REFUSED) 1 ∧ keepsRegs [Key.METER_WRITE_REFUSED] s t ∧
      t = { s with regs := t.regs, meter := t.meter } := by
  have hrun := tapWordOp_cons ht
  rw [if_neg (by rw [h9]; decide), if_pos hm, meterCount_refused _ h9] at hrun
  have hlt : satAdd max32 (s.get Key.METER_WRITE_REFUSED) 1 < 2 ^ 64 := Nat.lt_of_le_of_lt (Nat.min_le_left ..) (by decide)
  refine ⟨_, next_of_actTime tapWordOp hl hrun, rfl, rfl, rfl, (get_put_self _ _ _).trans (Nat.mod_eq_of_lt hlt), ?_, rfl⟩
  exact (keepsRegs_of_regs rfl).trans (keepsRegs_put (s.tapTaken r) _ _) (List.nil_subset _) (List.Subset.refl _)

/-- A word held while the partition restores (R442). -/
theorem tapWord_held (hl : s.live = true) (ht : s.meter.tap = w :: r) (hm : s.get Key.METER_STATE = 0) (h8 : bits w.toNat 60 4 ≠ 8) :
    ∃ t, exec .tapWord s = .next t ∧ t.meter.tap = r ∧ t.meter.held = s.meter.held ++ [w] ∧ t = { s with meter := t.meter } := by
  have hrun := tapWordOp_cons ht
  rw [if_neg h8, if_neg (by rw [hm]; decide), if_pos hm] at hrun
  exact ⟨_, next_of_actTime tapWordOp hl hrun, rfl, rfl, rfl⟩

/-- A word that a partition without its seal or its key drops. -/
theorem tapWord_dropped (hl : s.live = true) (ht : s.meter.tap = w :: r) (hm : 2 ≤ s.get Key.METER_STATE) (h8 : bits w.toNat 60 4 ≠ 8) :
    ∃ t, exec .tapWord s = .next t ∧ t = { s with meter := { s.meter with tap := r } } := by
  have hrun := tapWordOp_cons ht
  rw [if_neg h8, if_neg (by omega), if_neg (by omega)] at hrun
  exact ⟨_, next_of_actTime tapWordOp hl hrun, rfl⟩

end Tap

/-! ### Power words -/

section Power
variable {s : State}

/-- Counters of other keys stand. -/
theorem get_foldl_count64_other {α : Type} (l : List α) (k n : α → Nat) (s : State) {j : Nat} (h : ∀ a ∈ l, k a ≠ j) :
    (l.foldl (fun z a => z.count64 (k a) (n a)) s).get j = s.get j :=
  List.foldlRecOn (motive := fun (z : State) => z.get j = s.get j) l _ rfl (fun _ hz a ha => (get_put_ne _ _ (h a ha)).trans hz)

/-- Counters raised each once. -/
theorem get_foldl_count64 {α : Type} {l : List α} {k n : α → Nat} (s : State) (hk : l.Pairwise (fun a b => k a ≠ k b)) {c : α} (hc : c ∈ l) :
    (l.foldl (fun z a => z.count64 (k a) (n a)) s).get (k c) = (s.get (k c) + n c) % 2 ^ 64 := by
  induction l generalizing s with
  | nil => cases hc
  | cons a l ih =>
    obtain ⟨ha, hl⟩ := List.pairwise_cons.1 hk
    rw [List.foldl_cons]
    rcases List.mem_cons.1 hc with rfl | hc
    · rw [get_foldl_count64_other l k n _ (fun b hb => (ha b hb).symm)]
      exact get_put_self _ _ _
    · rw [ih _ hl hc]
      exact congrArg (fun x => (x + n c) % 2 ^ 64) (get_put_ne _ _ (ha c hc))

theorem foldl_count64_moves {α : Type} (l : List α) (k n : α → Nat) (s : State) :
    ∃ r, l.foldl (fun z a => z.count64 (k a) (n a)) s = { s with regs := r } :=
  List.foldlRecOn (motive := fun (z : State) => ∃ r, z = { s with regs := r }) l _ ⟨_, rfl⟩ (fun _ hz a _ => by
    obtain ⟨r, e⟩ := hz
    exact ⟨_, by rw [e]; rfl⟩)

/-- A context's share of the energy of an interval (R440). -/
def State.share (s : State) (dE c : Nat) : Nat :=
  if 13 * s.meter.powerEdges = 0 then 0 else dE * ((Sparse.get? s.meter.busy c).getD 0) / (13 * s.meter.powerEdges)

/-- The energy counted for the contexts. -/
def State.shared (s : State) (dE : Nat) : State := (List.range 8).foldl (fun z c => z.count64 (meterKey 6 c) (s.share dE c)) s

theorem shareEnergy_eq (s : State) (dE : Nat) : s.shareEnergy dE =
    (s.shared dE).count64 Key.METER_ENERGY_IDLE (dE - ((List.range 8).map (s.share dE)).foldl (· + ·) 0) := rfl

theorem meterKey_energy_ne {c : Nat} (h : c < 8) : meterKey 6 c ≠ Key.METER_ENERGY_IDLE := by
  simp only [meterKey, entryKey, Key.METER_ENERGY_IDLE]
  omega

theorem meterKeys_energy_apart : (List.range 8).Pairwise (fun a b => meterKey 6 a ≠ meterKey 6 b) :=
  List.Pairwise.imp (fun h => by simp only [meterKey, entryKey]; omega) List.pairwise_lt_range

theorem get_shareEnergy (s : State) (dE : Nat) {c : Nat} (h : c < 8) :
    (s.shareEnergy dE).get (meterKey 6 c) = (s.get (meterKey 6 c) + s.share dE c) % 2 ^ 64 :=
  (get_put_ne _ _ (meterKey_energy_ne h).symm).trans (get_foldl_count64 s meterKeys_energy_apart (List.mem_range.2 h))

theorem get_shareEnergy_idle (s : State) (dE : Nat) : (s.shareEnergy dE).get Key.METER_ENERGY_IDLE =
    (s.get Key.METER_ENERGY_IDLE + (dE - ((List.range 8).map (s.share dE)).foldl (· + ·) 0)) % 2 ^ 64 := by
  have hidle : (s.shared dE).get Key.METER_ENERGY_IDLE = s.get Key.METER_ENERGY_IDLE :=
    get_foldl_count64_other _ _ _ s fun c hc => meterKey_energy_ne (List.mem_range.1 hc)
  rw [shareEnergy_eq, ← hidle]
  exact get_put_self _ _ _

theorem shareEnergy_moves (s : State) (dE : Nat) : ∃ r, s.shareEnergy dE = { s with regs := r } := by
  obtain ⟨r, e⟩ := foldl_count64_moves (List.range 8) (meterKey 6) (s.share dE) s
  rw [shareEnergy_eq, State.shared, e]
  exact ⟨_, rfl⟩

theorem powerWordOp_first (hm : s.get Key.METER_STATE = 1) (hp : s.meter.power = none) (e : Nat) : powerWordOp e s = s.powerTaken e := by
  unfold powerWordOp
  rw [if_pos hm, hp]

theorem powerWordOp_next (hm : s.get Key.METER_STATE = 1) {p a : Nat} (hp : s.meter.power = some (p, a)) {e dE : Nat}
    (hd : dE = (e + 2 ^ 32 - p) % 2 ^ 32) : powerWordOp e s =
    if dE > u s.meterParams 8 4 * (s.meterMs - a) then (s.powerTaken e).meterLog 0x07 0xFF dE (s.meterMs - a)
    else (s.shareEnergy dE).powerTaken e := by
  unfold powerWordOp
  rw [if_pos hm, hp, hd]

/-- The energy of an interval within the limit (R440). -/
theorem powerWord_share (hl : s.live = true) (hm : s.get Key.METER_STATE = 1) {e : U32} {p a dE b : Nat} (hp : s.meter.power = some (p, a))
    (hd : dE = (e.toNat + 2 ^ 32 - p) % 2 ^ 32) (hb : b = 13 * s.meter.powerEdges)
    (hle : dE ≤ u s.meterParams 8 4 * (s.meterMs - a)) : ∃ t share, exec (.powerWord e) s = .next t ∧
      share = (fun (c : Nat) => if b = 0 then 0 else dE * ((Sparse.get? s.meter.busy c).getD 0) / b) ∧
      (∀ c, c < 8 → t.get (meterKey 6 c) = (s.get (meterKey 6 c) + share c) % 2 ^ 64) ∧
      t.get Key.METER_ENERGY_IDLE = (s.get Key.METER_ENERGY_IDLE + (dE - ((List.range 8).map share).foldl (· + ·) 0)) % 2 ^ 64 ∧
      t.meter.power = some (e.toNat, s.meterMs) ∧ t.meter.busy = [] ∧ t = { s with regs := t.regs, meter := t.meter } := by
  have hrun := powerWordOp_next hm hp hd
  rw [if_neg (by omega)] at hrun
  obtain ⟨z, hz⟩ : ∃ z, z = s.shareEnergy dE := ⟨_, rfl⟩
  have hshare : ∀ c, c < 8 → z.get (meterKey 6 c) = (s.get (meterKey 6 c) + s.share dE c) % 2 ^ 64 := fun c hc => by
    rw [hz]
    exact get_shareEnergy s dE hc
  have hidle := get_shareEnergy_idle s dE
  obtain ⟨r, hr⟩ := shareEnergy_moves s dE
  have hms : z.meterMs = s.meterMs := by
    have hstate : z.get Key.METER_STATE = s.get Key.METER_STATE := by
      rw [hz, shareEnergy_eq]
      refine (get_put_ne _ _ (by decide)).trans (get_foldl_count64_other _ _ _ s fun c hc => ?_)
      have := List.mem_range.1 hc
      simp only [meterKey, entryKey, Key.METER_STATE]
      omega
    unfold State.meterMs
    rw [hstate, hz, hr]
  rw [← hz] at hrun hidle hr
  refine ⟨_, s.share dE, next_of_actTime (powerWordOp e.toNat) hl hrun, by rw [hb]; rfl, hshare, hidle, ?_, rfl, ?_⟩
  · exact congrArg (fun m => some (e.toNat, m)) hms
  · rw [hr]; rfl

theorem meterLogKeys_below : ∀ k ∈ meterLogKeys, k < 0x701601 := by decide

/-- The energy of an interval over the limit (R440). -/
theorem powerWord_over (hl : s.live = true) (hm : s.get Key.METER_STATE = 1) {e : U32} {p a dE : Nat} (hp : s.meter.power = some (p, a))
    (hd : dE = (e.toNat + 2 ^ 32 - p) % 2 ^ 32) (hlt : u s.meterParams 8 4 * (s.meterMs - a) < dE) :
    ∃ t, exec (.powerWord e) s = .next t ∧ t.meter.power = some (e.toNat, s.meterMs) ∧
      (∀ c, c < 8 → t.get (meterKey 6 c) = s.get (meterKey 6 c)) ∧ t.get Key.METER_ENERGY_IDLE = s.get Key.METER_ENERGY_IDLE ∧
      t.get Key.METER_LOG_HEAD = (s.get Key.METER_LOG_HEAD + 1) % 2 ^ 32 := by
  have hrun := powerWordOp_next hm hp hd
  rw [if_pos hlt] at hrun
  obtain ⟨r, d, f, hmoves⟩ := meterLog_moves (s.powerTaken e.toNat) 0x07 0xFF dE (s.meterMs - a)
  have hkeeps := meterLog_keepsRegs (s.powerTaken e.toNat) 0x07 0xFF dE (s.meterMs - a)
  refine ⟨_, next_of_actTime (powerWordOp e.toNat) hl hrun, ?_, fun c hc => hkeeps _ ?_, hkeeps _ (by decide), ?_⟩
  · rw [hmoves]; rfl
  · have hlo : 0x701601 ≤ meterKey 6 c := by
      simp only [meterKey, entryKey]
      omega
    exact fun hmem => absurd hlo (Nat.not_le.2 (meterLogKeys_below _ hmem))
  · exact get_meterLog_head ..

end Power

/-! ### Records -/

section Records
variable {s : State}

/-- A power word that does not come is logged once (R440). -/
theorem powerTimeout_missing (hl : s.live = true) (hm : s.get Key.METER_STATE = 1) (hn : s.meter.missing = false) (hp : s.meter.power = none)
    (h : s.meter.msBase + u s.meterParams 12 2 ≤ s.meterMs) :
    ∃ t, exec .powerTimeout s = .next t ∧ t.meter.missing = true ∧ t.get Key.METER_LOG_HEAD = (s.get Key.METER_LOG_HEAD + 1) % 2 ^ 32 := by
  obtain ⟨z, hz⟩ : ∃ z, z = ({ s with meter := { s.meter with missing := true } } : State) := ⟨_, rfl⟩
  have hrun : powerTimeoutOp s = z.meterLog 0x06 0xFF s.meter.msBase 0 := by
    unfold powerTimeoutOp
    rw [hp, hn, hz]
    exact if_pos (by rw [hm]; simpa using h)
  obtain ⟨r, d, f, hmoves⟩ := meterLog_moves z 0x06 0xFF s.meter.msBase 0
  refine ⟨_, next_of_actTime powerTimeoutOp hl hrun, by rw [hmoves, hz], ?_⟩
  rw [get_meterLog_head, hz]
  rfl

/-- What a record put on the store interface moves. -/
theorem persist_spec (s : State) (m : Nat) : ∃ w, (s.persist m).meter.inFlight = some w ∧ w.seq = s.get Key.METER_PERSIST_SEQ + 1 ∧
    w.slot = (if w.seq % 2 = 0 then 4096 else 40960) ∧ (s.persist m).outbox = s.outbox ++ [.nvRecord w.slot w.bytes] ∧
    (s.persist m).meter.mark = s.meter.mark ∧ (s.persist m).meter.refCount = s.meter.refCount ∧
    s.persist m = { s with meter := (s.persist m).meter, outbox := (s.persist m).outbox } :=
  ⟨_, rfl, rfl, rfl, rfl, rfl, rfl, rfl⟩

/-- The refusals of the interval logged at its end (R444). -/
theorem logRefused_spec (hwf : Memory.wf s = true) (hr : s.meter.refCount ≠ 0) :
    s.logRefused.meter.refCount = 0 ∧ s.logRefused.get Key.METER_LOG_HEAD = (s.get Key.METER_LOG_HEAD + 1) % 2 ^ 32 ∧
    s.logRefused.domBytes Dom.METER_LOG (32 * (s.get Key.METER_LOG_HEAD % 1024)) 32 =
      s.meterEntry 0x05 0xFF s.meter.refCount s.meter.refLast := by
  have hdom := meterLog_dom s 0x05 0xFF s.meter.refCount s.meter.refLast
  have hbytes := domBytes_domPut_self (dom_canonical hwf) Dom.METER_LOG (32 * (s.get Key.METER_LOG_HEAD % 1024))
    (s.meterEntry 0x05 0xFF s.meter.refCount s.meter.refLast)
  rw [meterEntry_length] at hbytes
  unfold State.logRefused
  rw [if_neg hr]
  exact ⟨rfl, get_meterLog_head .., (congrArg (fun d => Mem.read domDefault d _ 32) hdom).trans hbytes⟩

/-- A state whose mark has moved to `m`. -/
def State.marked (s : State) (m : Nat) : State := { s with meter := { s.meter with mark := m } }

theorem meterPersistOp_due (hm : s.get Key.METER_STATE = 1) (hd : s.meter.mark < s.meterMs / 1000 * 1000) : meterPersistOp s =
    if (s.logRefused.marked (s.meterMs / 1000 * 1000)).meter.inFlight.isSome then
      { s.logRefused.marked (s.meterMs / 1000 * 1000) with meter :=
        { (s.logRefused.marked (s.meterMs / 1000 * 1000)).meter with owed := true } }
    else (s.logRefused.marked (s.meterMs / 1000 * 1000)).persist (s.meterMs / 1000 * 1000) := by
  unfold meterPersistOp
  exact if_pos (by rw [hm]; simpa using hd)

/-- A mark that comes with writes refused (R444). -/
theorem meterPersist_refused (hl : s.live = true) (hwf : Memory.wf s = true) (hm : s.get Key.METER_STATE = 1)
    (hd : s.meter.mark < s.meterMs / 1000 * 1000) (hr : s.meter.refCount ≠ 0) : ∃ t e, exec .meterPersist s = .next t ∧ t.meter.refCount = 0 ∧
      e = t.domBytes Dom.METER_LOG (32 * (s.get Key.METER_LOG_HEAD % 1024)) 32 ∧ u e 4 1 = 5 ∧ u e 16 8 = s.meter.refCount % 2 ^ 64 ∧
      u e 24 8 = s.meter.refLast % 2 ^ 64 ∧ t.get Key.METER_LOG_HEAD = (s.get Key.METER_LOG_HEAD + 1) % 2 ^ 32 := by
  obtain ⟨hcount, hhead, hbytes⟩ := logRefused_spec hwf hr
  obtain ⟨hkind, hn, hv⟩ := u_meterEntry s 0x05 0xFF s.meter.refCount s.meter.refLast
  obtain ⟨t, ht⟩ : ∃ t, t = meterPersistOp s := ⟨_, rfl⟩
  have hkept : t.meter.refCount = 0 ∧ t.get Key.METER_LOG_HEAD = s.logRefused.get Key.METER_LOG_HEAD ∧ t.dom = s.logRefused.dom := by
    rw [meterPersistOp_due hm hd] at ht
    generalize s.logRefused = z at ht hcount
    split at ht
    · rw [ht]
      exact ⟨hcount, rfl, rfl⟩
    · obtain ⟨w, -, -, -, -, -, hc, hp⟩ := persist_spec (z.marked (s.meterMs / 1000 * 1000)) (s.meterMs / 1000 * 1000)
      rw [← ht] at hc hp
      exact ⟨hc.trans hcount, by rw [hp]; rfl, by rw [hp]; rfl⟩
  obtain ⟨hc, hh, hdom⟩ := hkept
  have he : t.domBytes Dom.METER_LOG (32 * (s.get Key.METER_LOG_HEAD % 1024)) 32 =
      s.meterEntry 0x05 0xFF s.meter.refCount s.meter.refLast :=
    (congrArg (fun d => Mem.read domDefault d _ 32) hdom).trans hbytes
  exact ⟨t, _, next_of_actTime meterPersistOp hl ht.symm, hc, rfl, by rw [he, hkind], by rw [he, hn], by rw [he, hv], hh.trans hhead⟩

/-- A mark with the store interface idle (R443). -/
theorem meterPersist_goes (hl : s.live = true) (hm : s.get Key.METER_STATE = 1) (hd : s.meter.mark < s.meterMs / 1000 * 1000)
    (hr : s.meter.refCount = 0) (hf : s.meter.inFlight = none) : ∃ t w, exec .meterPersist s = .next t ∧ t.meter.inFlight = some w ∧
      w.seq = s.get Key.METER_PERSIST_SEQ + 1 ∧
      w.slot = (if w.seq % 2 = 0 then 4096 else 40960) ∧ t.outbox = s.outbox ++ [.nvRecord w.slot w.bytes] ∧
      t.meter.mark = s.meterMs / 1000 * 1000 ∧ t = { s with meter := t.meter, outbox := t.outbox } := by
  have hsame : s.logRefused = s := if_pos hr
  have hrun := meterPersistOp_due hm hd
  rw [hsame] at hrun
  replace hrun := hrun.trans (if_neg (show ¬ s.meter.inFlight.isSome = true by rw [hf]; decide))
  obtain ⟨w, hw, hseq, hslot, hout, hmark, -, hp⟩ := persist_spec (s.marked (s.meterMs / 1000 * 1000)) (s.meterMs / 1000 * 1000)
  exact ⟨_, w, next_of_actTime meterPersistOp hl hrun, hw, hseq, hslot, hout, hmark, hp⟩

/-- A mark while a record is in flight (R443). -/
theorem meterPersist_owed (hl : s.live = true) (hm : s.get Key.METER_STATE = 1) (hd : s.meter.mark < s.meterMs / 1000 * 1000)
    {w : NvWrite} (hr : s.meter.refCount = 0) (hf : s.meter.inFlight = some w) : ∃ t, exec .meterPersist s = .next t ∧ t.meter.owed = true ∧
      t.meter.inFlight = some w ∧ t = { s with meter := t.meter } := by
  have hsame : s.logRefused = s := if_pos hr
  have hrun := meterPersistOp_due hm hd
  rw [hsame] at hrun
  replace hrun := hrun.trans (if_pos (show s.meter.inFlight.isSome = true by rw [hf]; rfl))
  exact ⟨_, next_of_actTime meterPersistOp hl hrun, rfl, hf, rfl⟩

/-- A record that is durable with none owed (R443). -/
theorem nvDone_durable (hl : s.live = true) {w : NvWrite} (hf : s.meter.inFlight = some w) (ho : s.meter.owed = false) :
    ∃ t, exec .nvDone s = .next t ∧ t.meter.inFlight = none ∧ t.get Key.METER_PERSIST_SEQ = w.seq % 2 ^ 64 ∧
      t.get Key.METER_PERSIST_FLAGS = (if w.quiet then 1 else 0) ∧ t.env = { s.env with nv := Mem.write s.env.nv w.slot w.bytes } ∧
      keepsRegs [Key.METER_PERSIST_SEQ, Key.METER_PERSIST_FLAGS] s t ∧ t.dom = s.dom := by
  obtain ⟨z, hz⟩ : ∃ z, z = ({ s with
      env := { s.env with nv := Mem.write s.env.nv w.slot w.bytes }
      meter := { s.meter with inFlight := none } } : State) := ⟨_, rfl⟩
  have hrun : nvDoneOp s = (z.put Key.METER_PERSIST_SEQ w.seq).put Key.METER_PERSIST_FLAGS (if w.quiet then 1 else 0) := by
    unfold nvDoneOp
    rw [hf, hz]
    exact if_neg (show ¬ s.meter.owed = true by rw [ho]; decide)
  refine ⟨_, next_of_actTime nvDoneOp hl hrun, ?_, ?_, ?_, ?_, ?_, ?_⟩
  · rw [hz]; rfl
  · rw [get_put_ne _ _ (by decide), get_put_self]
  · rw [get_put_self]
    cases w.quiet <;> rfl
  · rw [hz]; rfl
  · refine (keepsRegs_of_regs (ks := []) (by rw [hz])).trans ((keepsRegs_put z _ _).trans (keepsRegs_put _ _ _)
      (List.cons_subset.2 ⟨List.mem_cons_self, List.nil_subset _⟩) (List.subset_cons_self ..)) (List.nil_subset _) (List.Subset.refl _)
  · rw [hz]; rfl

/-- A record that is late (R443). -/
theorem persistAckTimeout_late (hl : s.live = true) (hq : quiet s = true) {w : NvWrite} (hf : s.meter.inFlight = some w) (hn : w.late = false)
    (hd : w.mark + 1000 ≤ s.meterMs) : ∃ t, exec .persistAckTimeout s = .next t ∧
      t.meter.inFlight = some { w with late := true } ∧ t.get Key.FLT_LOG_HEAD = (s.get Key.FLT_LOG_HEAD + 1) % 2 ^ 32 ∧
      t.get Key.METER_LOG_HEAD = (s.get Key.METER_LOG_HEAD + 1) % 2 ^ 32 := by
  obtain ⟨z, hz⟩ : ∃ z, z = ({ s with meter := { s.meter with inFlight := some { w with late := true } } } : State) := ⟨_, rfl⟩
  have hqz : quiet z = true := quiet_congr hq (by rw [hz]; rfl) (by rw [hz])
  obtain ⟨y, hy⟩ : ∃ y, y = z.sealEv 0x04 := ⟨_, rfl⟩
  have hrun : persistAckTimeoutOp s = y.meterLog 0x04 0xFF w.mark (z.get Key.METER_PERSIST_SEQ) := by
    unfold persistAckTimeoutOp
    rw [hf, hy, hz]
    exact if_pos (by rw [hn]; simpa using hd)
  obtain ⟨r, d, f, hlog⟩ := log_moves hqz { cls := Ec.seal, det := 0x04, dom := 24 }
  have hyl : y = z.log { cls := Ec.seal, det := 0x04, dom := 24 } := hy
  obtain ⟨r', d', f', hmoves⟩ := meterLog_moves y 0x04 0xFF w.mark (z.get Key.METER_PERSIST_SEQ)
  refine ⟨_, next_of_actTime persistAckTimeoutOp hl hrun, ?_, ?_, ?_⟩
  · rw [hmoves, hyl, hlog, hz]
  · rw [meterLog_keepsRegs _ _ _ _ _ _ (by decide), hyl, get_log_head hqz, hz]
    rfl
  · rw [get_meterLog_head, hyl, log_keepsRegs hqz _ _ (by decide), hz]
    rfl

end Records

/-! ### The statement -/

theorem next_of_restore {s t : State} (hl : s.live = true) (h : meterRestoreOp s.fresh = t) : exec .meterRestore s = .next t :=
  (next_of_actTime (fun s => meterRestoreOp s.fresh) hl h :)

/-- The outcomes of a restore without a state record (R442). -/
theorem meterRestore_outcomes {s : State} (hl : s.live = true) (hq : quiet s = true) (hwf : Memory.wf s = true)
    (hb : s.build.partition = true) (hm : s.get Key.METER_STATE = 0) :
    (allZero s.meter.key = true → ∃ t, exec .meterRestore s = .next t ∧ t.get Key.METER_STATE = 3 ∧ t.meter.held = [] ∧
        keepsRegs [Key.METER_STATE] s t ∧ t = { s with regs := t.regs, meter := t.meter, free := t.free }) ∧
      (∀ cfg, allZero s.meter.key = false → cfg = s.fresh.nvBytes 0 256 →
        (s.configOk cfg = false → ∃ t, exec .meterRestore s = .next t ∧ t.get Key.METER_STATE = 2 ∧
          t.get Key.FLT_LOG_HEAD = (s.get Key.FLT_LOG_HEAD + 1) % 2 ^ 32 ∧
          t.get Key.METER_LOG_HEAD = (s.get Key.METER_LOG_HEAD + 1) % 2 ^ 32 ∧ t.outbox = s.outbox ++ [.nvRead 0 256]) ∧
        (s.configOk cfg = true → s.slotOk (s.fresh.nvBytes 4096 33376) = false → s.slotOk (s.fresh.nvBytes 40960 33376) = false →
          ∃ t, exec .meterRestore s = .next t ∧ t.get Key.METER_STATE = 1 ∧ t.get Key.METER_SEAL_COUNT = u cfg 4 4 ∧
            t.domBytes Dom.METER_PARAMS 0 64 = sub cfg 8 64 ∧
            t.outbox = s.outbox ++ [.nvRead 0 256, .nvRead 4096 33376, .nvRead 40960 33376])) := by
  have hp : s.fresh.phase = .running := (beq_iff_eq.1 (Bool.and_eq_true_iff.1 hl).1 :)
  have hqf : quiet s.fresh = true := hq
  have hwff : Memory.wf s.fresh = true := hwf
  refine ⟨fun hz => ?_, ?_⟩
  · refine ⟨_, next_of_restore hl (meterRestore_open (s := s.fresh) hb hp hm hz), get_put_self _ _ _, rfl, ?_, rfl⟩
    exact (keepsRegs_of_regs (ks := []) rfl).trans (keepsRegs_put _ _ _) (List.nil_subset _) (List.Subset.refl _)
  · rintro cfg hz rfl
    refine ⟨fun hc => ?_, fun hc h0 h1 => ?_⟩
    · obtain ⟨z, hz'⟩ : ∃ z, z = s.fresh.restoring := ⟨_, rfl⟩
      have hqz : quiet z = true := by
        rw [hz']
        exact quiet_congr hq (get_put_ne _ _ (by decide)) rfl
      have hrun := meterRestore_sealed (s := s.fresh) hb hp hm hz hc
      rw [← hz'] at hrun
      obtain ⟨hstate, hflt, hlog, hout⟩ := sealFail_spec hqz 0x01 (u (s.fresh.nvBytes 0 256) 4 4)
      refine ⟨_, next_of_restore hl hrun, hstate, ?_, ?_, ?_⟩
      · rw [hflt, hz']
        exact congrArg (fun n => (n + 1) % 2 ^ 32) (get_put_ne s.fresh _ (by decide))
      · rw [hlog, hz']
        exact congrArg (fun n => (n + 1) % 2 ^ 32) (get_put_ne s.fresh _ (by decide))
      · rw [hout, hz']
        rfl
    · have hrun := meterRestore_unrecorded (s := s.fresh) hb hp hm hz hc h0 h1
      obtain ⟨cfg, hcfg⟩ : ∃ cfg, cfg = s.fresh.nvBytes 0 256 := ⟨_, rfl⟩
      rw [← hcfg] at hrun ⊢
      split at hrun
      · exact ⟨_, next_of_restore hl hrun, meterRestore_unrecorded_spec hqf hwff cfg _ _ _ _ rfl⟩
      · exact ⟨_, next_of_restore hl hrun, meterRestore_unrecorded_spec hqf hwff cfg _ _ _ _ rfl⟩

/-- Settles O60: each clause is a case of the partition's operation, its log entries put by `meterLog`. -/
theorem meteringPartition : Obligations.MeteringPartition := by
  unfold Obligations.MeteringPartition
  intro s hl hq hwf
  refine ⟨meterRestore_outcomes hl hq hwf, fun w r ht => ⟨tapWord_block hl ht, tapWord_refused hl ht, tapWord_held hl ht,
    tapWord_report hl hwf ht, tapWord_dropped hl ht⟩, fun e hm => ⟨fun hp => ?_, fun p a dE b hp hd hb => ⟨powerWord_share hl hm hp hd hb,
    powerWord_over hl hm hp hd⟩⟩, powerTimeout_missing hl, fun hm hd => ⟨meterPersist_refused hl hwf hm hd, meterPersist_goes hl hm hd,
    fun w => meterPersist_owed hl hm hd⟩, fun w hf => ⟨nvDone_durable hl hf, persistAckTimeout_late hl hq hf⟩⟩
  exact ⟨_, next_of_actTime (powerWordOp e.toNat) hl (powerWordOp_first hm hp e.toNat), rfl, rfl, rfl, rfl⟩

end Sys2Proof.Machine

/-! SUPPORT. What work given up leaves while its context runs: buffers freed, refused frees replayed (R249, R418, R420). -/

namespace Sys2Proof.Machine

open Sys2Proof

/-- A state without the parts that a freed buffer or a notice raised touches. -/
def State.beyondGone (s : State) : State := { s.beyondFree with ctxs := [], targets := [], seen := [], noticeTx := [] }

/-- Registers that a freed buffer or a notice raised can move: the pools' holdings, counters, logs and interrupt causes. -/
def goneKey (k : Nat) : Prop := (0x500000 ≤ k ∧ k < 0x510000) ∨ 0x600000 ≤ k ∨ k ∈ causeKeys

theorem goneKey_of_noticeKeys : ∀ k ∈ noticeKeys, goneKey k := by
  unfold goneKey
  decide

/-- What the work of context `c` given up leaves: the parts beyond it, host memory, the other contexts, of its own all but the plan
frame of its last notice, and every register but those. -/
structure GoneFrame (c : Nat) (s t : State) : Prop where
  beyond : t.beyondGone = s.beyondGone
  env : t.env = s.env
  regs : ∀ k, ¬ goneKey k → t.get k = s.get k
  others : ∀ d, d ≠ c → t.ctx d = s.ctx d
  own : ∃ n, t.ctx c = { s.ctx c with noticed := n }
  count : t.ctxs.length = s.ctxs.length

namespace GoneFrame
variable {c : Nat}

theorem refl (s : State) : GoneFrame c s s := ⟨rfl, rfl, fun _ _ => rfl, fun _ _ => rfl, ⟨_, rfl⟩, rfl⟩

theorem trans {s t z : State} (h : GoneFrame c s t) (h' : GoneFrame c t z) : GoneFrame c s z := by
  refine ⟨h'.beyond.trans h.beyond, h'.env.trans h.env, fun k hk => (h'.regs k hk).trans (h.regs k hk),
    fun d hd => (h'.others d hd).trans (h.others d hd), ?_, h'.count.trans h.count⟩
  obtain ⟨n, e⟩ := h.own
  obtain ⟨m, e'⟩ := h'.own
  exact ⟨m, by rw [e', e]⟩

/-- A change that leaves the contexts. -/
theorem of_ctxs {s t : State} (hc : t.ctxs = s.ctxs) (hb : t.beyondGone = s.beyondGone) (he : t.env = s.env)
    (hr : ∀ k, ¬ goneKey k → t.get k = s.get k) : GoneFrame c s t := by
  have hctx : ∀ d, t.ctx d = s.ctx d := fun d => by rw [State.ctx, State.ctx, hc]
  exact ⟨hb, he, hr, fun d _ => hctx d, ⟨_, hctx c⟩, congrArg _ hc⟩

/-- What freeing a buffer leaves is left here too. -/
theorem of_drop {s t : State} (h : DropFrame s t) (hr : ∀ k, ¬ goneKey k → t.get k = s.get k) : GoneFrame c s t :=
  of_ctxs (congrArg State.ctxs h.beyond :)
    (congrArg (fun z : State => { z with ctxs := [], targets := [], seen := [], noticeTx := [] }) h.beyond :) h.env hr

theorem of_notice {s t : State} (h : NoticeFrame s t) (hs : t.still = s.still) : GoneFrame c s t :=
  of_drop (.of_notice h hs) fun k hk => h.regs k fun hm => hk (goneKey_of_noticeKeys k hm)

/-- A notice acted on (R198). -/
theorem actNotice (s : State) (n : Notice) (from_ at_ : Nat) : GoneFrame c s (s.actNotice n from_ at_) := by
  unfold State.actNotice
  split
  · exact refl s
  · extract_lets k y z
    have hy : GoneFrame c s y := of_notice (.rpl ..) (rpl_still ..)
    have hz : GoneFrame c y z := of_notice (.trace ..) (trace_still ..)
    clear_value z
    exact (hy.trans hz).trans (of_ctxs rfl rfl rfl fun _ _ => rfl)

/-- A notice raised (R197). -/
theorem raiseNotice (s : State) (n : Notice) : GoneFrame c s (s.raiseNotice n) := by
  unfold State.raiseNotice
  split
  · exact refl s
  · exact trans (t := s.spreadNotice n) (of_ctxs rfl rfl rfl fun _ _ => rfl) (actNotice ..)

/-- A step replayed (R418). -/
theorem replayStep {s : State} (hc : c < s.ctxs.length) : GoneFrame c s (s.replayStep c) := by
  unfold State.replayStep
  split
  · refine .trans ?_ (raiseNotice ..)
    exact ⟨rfl, rfl, fun _ _ => rfl, fun d hd => ctx_setCtx_ne s _ hd.symm, ⟨_, ctx_setCtx_self _ hc⟩, setAt_length ..⟩
  · exact refl s

/-- A buffer of a context freed (R249). -/
theorem freeBuffer {s : State} {o k i : Nat} (hk : k < 5) (ho8 : o < 8) (ho : s.owner k i = some o) : GoneFrame c s (s.freeBuffer k i) := by
  refine of_drop (.freeBuffer s k i) fun j hj => ?_
  obtain ⟨p, e, -⟩ := startSpill_replaces (s.poolReturned o k i) k
  rw [freeBuffer_of_owner ho, e, (EndFrame.bufferGone ..).notice.regs j fun hm => hj (goneKey_of_noticeKeys j hm), get_setPool]
  refine poolReturned_keepsRegs j fun hm => hj (.inl ?_)
  simp only [List.mem_cons, List.not_mem_nil, or_false, Key.POOL_HELD, Key.POOL_FREE] at hm
  omega

/-- A unit's free of its context's buffer (R247, R248). -/
theorem freeOp {s : State} (a : Nat) (hc : c < 8) (hl : s.ctxs.length = 8) : GoneFrame c s (freeOp false c a s) := by
  unfold Machine.freeOp
  split
  next k i h =>
    obtain ⟨hk, ho⟩ := freeCheck_ok h
    exact freeBuffer hk hc ho
  next k d _ =>
    have hlog : GoneFrame c s (s.log { cls := k, det := d, dom := 12, ctx := some c, arg := a % 2 ^ 32 }) := of_notice (.log ..) (log_still ..)
    have hcount : ∀ z : State, GoneFrame c z (z.count (Key.POOL_FREE_REFUSED c) 1) := fun z =>
      of_ctxs rfl rfl rfl fun k hk => get_put_ne z _ fun e => hk (.inr (.inl (by rw [← e]; unfold Key.POOL_FREE_REFUSED; omega)))
    have hz := hlog.trans (hcount _)
    dsimp only
    generalize State.count _ (Key.POOL_FREE_REFUSED c) 1 = z at hz ⊢
    exact hz.trans (replayStep (by rw [hz.count, hl]; exact hc))

theorem dropPiece {s : State} {k : PieceKey} (hk : k.ctx = c) (hc : c < 8) (hl : s.ctxs.length = 8) : GoneFrame c s (s.dropPiece k) := by
  have hfilter : ∀ l, GoneFrame c s { s with pieces := l } := fun l => of_ctxs rfl rfl rfl fun _ _ => rfl
  unfold State.dropPiece
  split
  · exact refl s
  · dsimp only
    split
    · rw [hk]
      exact (hfilter _).trans (freeOp _ hc hl)
    · exact of_ctxs rfl rfl rfl fun _ _ => rfl

theorem dropPieces {s : State} (l : List PieceKey) (hk : ∀ k ∈ l, k.ctx = c) (hc : c < 8) (hl : s.ctxs.length = 8) :
    GoneFrame c s (l.foldl State.dropPiece s) :=
  List.foldlRecOn (motive := GoneFrame c s) l _ (refl s) fun _ hu k hm => hu.trans (dropPiece (hk k hm) hc (hu.count.trans hl))

end GoneFrame

/-- What is left when the work of a context's steps that satisfy `p` is given up (R420). -/
structure StepsGone (c : Nat) (p : Nat → Bool) (s t : State) : Prop where
  env : t.env = s.env
  stg : t.stg = s.stg
  time : t.time = s.time
  issued : t.issuedCmds = s.issuedCmds
  regs : ∀ k, ¬ goneKey k → t.get k = s.get k
  others : ∀ d, d ≠ c → t.ctx d = s.ctx d
  own : ∃ n g, t.ctx c = { s.ctx c with noticed := n, gradsDue := g }
  count : t.ctxs.length = s.ctxs.length
  wins : t.wins = s.wins.filter (fun (w : Win) => !(w.ctx == c && p w.step))
  helds : t.helds = s.helds.filter (fun (h : Held) => !(h.ctx == c && p h.step))

theorem stepsGone_abandon {s : State} {c : Nat} (p : Nat → Bool) (hc : c < 8) (hl : s.ctxs.length = 8) :
    StepsGone c p s (s.abandon c p) := by
  unfold State.abandon
  dsimp only
  generalize hu : List.foldl State.dropPiece s _ = z
  have hf : GoneFrame c s z := by
    rw [← hu]
    refine .dropPieces _ (fun k hk => ?_) hc hl
    simp only [List.mem_map, List.mem_filter, Bool.and_eq_true, beq_iff_eq] at hk
    obtain ⟨q, ⟨-, hq, -⟩, rfl⟩ := hk
    exact hq
  have hwins : z.wins = s.wins := (congrArg State.wins hf.beyond :)
  have hhelds : z.helds = s.helds := (congrArg State.helds hf.beyond :)
  obtain ⟨n, hown⟩ := hf.own
  refine ⟨hf.env, (congrArg State.stg hf.beyond :), (congrArg State.time hf.beyond :), (congrArg State.issuedCmds hf.beyond :), hf.regs,
    fun d hd => ?_, ⟨n, (z.ctx c).gradsDue.filter (fun g => !(p g.1)), ?_⟩, ?_, ?_, ?_⟩
  · exact (ctx_setCtx_ne z _ (Ne.symm hd)).trans (hf.others d hd)
  · refine (ctx_setCtx_self (s := z) _ (by rw [hf.count, hl]; exact hc)).trans ?_
    rw [hown]
  · exact (setAt_length ..).trans hf.count
  · exact congrArg (List.filter _) hwins
  · exact congrArg (List.filter _) hhelds

end Sys2Proof.Machine

/-! SUPPORT. A plan switch while another context is armed (R206). -/

namespace Sys2Proof.Machine

open Sys2Proof

/-- An image with a degraded plan for FLID 9 that replaces no frame. -/
def degradable : Image :=
  { addr := 4096, hdr := zeros 256, links := [], part := [], layers := [], index := [], plans := [{ flid := 9, repl := [] }],
    latched := [], used := [] }

/-- An engine on which context 0 runs and context 1 is ARMED, both with that image, when a plan-switch notice for FLID 9 takes effect. -/
def armedBeside : State :=
  { (State.reset.put (Key.TT_STATE 0) 4).put (Key.TT_STATE 1) 3 with
    ctxs := { image := some degradable } :: { image := some degradable } :: List.replicate 6 {}
    targets := [(0, { kind := 2, target := 0, arg := 9 })] }

/-- The plan switch puts the plan of the ARMED context in force too. -/
theorem planSwitch_armed : ((planSwitchOp 9 armedBeside).ctx 1).plans = [9] := by decide +kernel

theorem armedBeside_live : armedBeside.live = true := by decide +kernel

/-- Refutes O50: the statement leaves every context that does not run as it was, and an ARMED one, which does not run, has its plan put
in force by PLAN_SWITCH as a running one has. -/
theorem not_swapsSlipsAndPlans : ¬ Obligations.SwapsSlipsAndPlans := by
  unfold Obligations.SwapsSlipsAndPlans
  intro h
  have hquiet : quiet armedBeside = true := by decide +kernel
  have hfound : armedBeside.targets.find? (fun t => t.2.kind == 2 && t.2.arg == 9 && decide (t.1 ≤ armedBeside.time.frame)) =
      some (0, { kind := 2, target := 0, arg := 9 }) := by decide +kernel
  have hruns : armedBeside.runs 0 = true := by decide +kernel
  have hplan : degradable.plan 9 = some { flid := 9, repl := [] } := by decide +kernel
  obtain ⟨-, -, -, -, hswitch⟩ := h 0 armedBeside armedBeside_live hquiet ⟨rfl, rfl, rfl⟩ (by decide)
  obtain ⟨t, ht, -, -, -, -, hothers, -⟩ := hswitch 9 _ degradable _ rfl rfl hfound hruns rfl hplan rfl
  have hrun : exec (.planSwitch 9) armedBeside = .next (planSwitchOp 9 armedBeside) := next_of_act (planSwitchOp 9) armedBeside_live rfl
  obtain rfl : planSwitchOp 9 armedBeside = t := by
    rw [hrun] at ht
    exact Host.Outcome.next.inj ht
  have hstands := hothers 1 (by decide +kernel)
  have hnone : (armedBeside.ctx 1).plans = [] := rfl
  rw [← hstands, planSwitch_armed] at hnone
  exact absurd hnone (by decide)

end Sys2Proof.Machine

/-! SUPPORT. Steps begun, ended, abandoned and replayed (R171, R190, R419 to R421, R425). -/

namespace Sys2Proof.Machine

open Sys2Proof

/-! ### A step begins -/

section Begin
variable (s : State) (c st : Nat)

theorem fetchPort_lt : s.fetchPort c < 4 := bits_lt _ 3 2

theorem hostWrite_moves (p a : Nat) (bs : Bytes) : ∃ r m, s.hostWrite p a bs = { s with regs := r, env := { s.env with mem := m } } := ⟨_, _, rfl⟩

theorem hostWrite_keepsRegs {p : Nat} (a : Nat) (bs : Bytes) (h : p < 4) : keepsRegs memKeys s (s.hostWrite p a bs) :=
  (keepsRegs_put s _ _).mono (List.cons_subset.2 ⟨memWrBytes_mem h, List.nil_subset _⟩)

theorem scanPut_moves (o : Nat) (bs : Bytes) : ∃ r m, s.scanPut c st o bs = { s with regs := r, env := { s.env with mem := m } } := by
  unfold State.scanPut
  split
  · exact ⟨_, _, rfl⟩
  · exact hostWrite_moves ..

theorem scanPut_keepsRegs (o : Nat) (bs : Bytes) : keepsRegs memKeys s (s.scanPut c st o bs) := by
  unfold State.scanPut
  split
  · exact .refl s
  · exact hostWrite_keepsRegs s _ _ (fetchPort_lt s c)

theorem openScan_moves : ∃ r m, s.openScan c st = { s with regs := r, env := { s.env with mem := m } } := by
  unfold State.openScan
  dsimp only
  obtain ⟨r, m, e⟩ := scanPut_moves s c st 0 (le 8 (2 ^ 64 - 1) ++ le 2 (s.layers c) ++ zeros 54)
  generalize s.scanPut c st 0 _ = z at e ⊢
  obtain ⟨r', m', e'⟩ := scanPut_moves z c st (8390720 + 2 * s.layers c) (zeros (2 * (256 - s.layers c)))
  generalize z.scanPut c st _ (zeros (2 * (256 - s.layers c))) = y at e' ⊢
  obtain ⟨r'', m'', e''⟩ := scanPut_moves y c st 8391232 (zeros 1472)
  exact ⟨r'', m'', by rw [e'', e', e]⟩

theorem openScan_keepsRegs : keepsRegs memKeys s (s.openScan c st) :=
  have hsub := List.Subset.refl memKeys
  ((scanPut_keepsRegs s c st _ _).trans (scanPut_keepsRegs _ c st _ _) hsub hsub).trans (scanPut_keepsRegs _ c st _ _) hsub hsub

/-- The attempt at which a step runs (R421). -/
def Ctx.attemptAt (x : Ctx) (st : Nat) : Nat := ((x.attempts.find? (fun (a : Nat × Nat) => a.1 == st)).map (·.2)).getD 0

/-- What the span of step `st` of context `c` is when it begins at plan frame `first` (R171). -/
def State.stepSpan (s : State) (c st first : Nat) : OpenStep :=
  { step := st, attempt := (s.ctx c).attemptAt st, first := first, last := first + s.stepFrames c - 1 }

/-- A context in which that step has begun. -/
def State.ctxBegun (s : State) (c st first : Nat) : Ctx :=
  { s.ctx c with first := first, attempt := (s.ctx c).attemptAt st, opens := (s.ctx c).opens ++ [s.stepSpan c st first] }

/-- What a step that begins changes and leaves (R171, R216, R217). -/
structure Begun (first : Nat) (t : State) : Prop where
  moves : ∃ r a m, t = { s with regs := r, ctxs := setAt s.ctxs c (s.ctxBegun c st first), audits := a, env := { s.env with mem := m } }
  step : t.step c = st % 2 ^ 64
  regs : keepsRegs (Key.TT_STEP c :: memKeys) s t

theorem ttStep_not_mem_memKeys (hc : c < 8) : Key.TT_STEP c ∉ memKeys := fun h => by
  have := memKeys_range h
  unfold Key.TT_STEP at this
  omega

theorem begun_beginStep (hc : c < 8) (first : Nat) : Begun s c st first (s.beginStep c st first) := by
  have hrun : ∃ a, s.beginStep c st first =
      (({ (s.setCtx c (s.ctxBegun c st first)).put (Key.TT_STEP c) st with audits := a } : State).openScan c st) := ⟨_, rfl⟩
  obtain ⟨a, hrun⟩ := hrun
  obtain ⟨z, hz⟩ : ∃ z, z = ({ (s.setCtx c (s.ctxBegun c st first)).put (Key.TT_STEP c) st with audits := a } : State) := ⟨_, rfl⟩
  rw [← hz] at hrun
  obtain ⟨r, m, e⟩ := openScan_moves z c st
  have hkeeps := openScan_keepsRegs z c st
  rw [hrun]
  refine ⟨⟨r, a, m, by rw [e, hz]; rfl⟩, ?_, ?_⟩
  · unfold State.step
    rw [hkeeps _ (ttStep_not_mem_memKeys c hc), hz]
    exact get_put_self _ _ _
  · have hput : keepsRegs [Key.TT_STEP c] s z := by
      rw [hz]
      exact keepsRegs_put _ _ _
    exact hput.trans hkeeps (List.cons_subset.2 ⟨List.mem_cons_self, List.nil_subset _⟩) (List.subset_cons_self ..)

theorem ttState_ne_ttStep {d : Nat} (hd : d < 8) : Key.TT_STATE d ∉ Key.TT_STEP c :: memKeys := fun h => by
  rcases List.mem_cons.1 h with h | h
  · unfold Key.TT_STATE Key.TT_STEP at h
    omega
  · have := memKeys_range h
    unfold Key.TT_STATE at this
    omega

section Facts
variable {s c st} {first : Nat} {t : State} (h : Begun s c st first t)
include h

theorem Begun.tt (hc : c < 8) : t.tt c = s.tt c := h.regs _ (ttState_ne_ttStep c hc)

theorem Begun.own (hc : c < s.ctxs.length) : t.ctx c = s.ctxBegun c st first := by
  obtain ⟨r, a, m, e⟩ := h.moves
  rw [e]
  exact ctx_setCtx_self (s.ctxBegun c st first) hc

theorem Begun.others {d : Nat} (hd : d ≠ c) : t.ctx d = s.ctx d := by
  obtain ⟨r, a, m, e⟩ := h.moves
  rw [e]
  exact ctx_setCtx_ne s (s.ctxBegun c st first) hd.symm

theorem Begun.rest : t.wins = s.wins ∧ t.stg = s.stg ∧ t.dom = s.dom := by
  obtain ⟨r, a, m, e⟩ := h.moves
  rw [e]
  exact ⟨rfl, rfl, rfl⟩

end Facts
end Begin

section Boundary
variable {s : State} {c : Nat}

/-- FIRST_STEP_BEGIN of an ARMED context (R171). -/
theorem firstStepBegin_begins (hl : s.live = true) (hs : shaped s) (hc : c < 8) (hn : s.time.slipping = false) (hd : s.time.slipDue = false)
    (h3 : s.tt c = 3) (hb : s.get (Key.TT_FRAME_BASE c) ≤ s.planFrame) :
    ∃ t o, exec (.firstStepBegin c) s = .next t ∧ t.tt c = 4 ∧ t.step c = s.get (Key.TT_FIRST_STEP c) ∧
        (t.ctx c).first = s.get (Key.TT_FRAME_BASE c) ∧ (t.ctx c).opens = (s.ctx c).opens ++ [o] ∧ o.step = t.step c ∧
        o.first = s.get (Key.TT_FRAME_BASE c) ∧ o.last = o.first + s.stepFrames c - 1 ∧ (∀ d, d ≠ c → t.ctx d = s.ctx d) ∧
        t.wins = s.wins ∧ t.stg = s.stg ∧ t.dom = s.dom := by
  obtain ⟨z, hz⟩ : ∃ z, z = (s.setTt c 4).setRate := ⟨_, rfl⟩
  obtain ⟨y, hy⟩ : ∃ y, y = z.beginStep c (s.get (Key.TT_FIRST_STEP c)) (s.get (Key.TT_FRAME_BASE c)) := ⟨_, rfl⟩
  have hrun : firstStepBeginOp c s = y.viewStep c := by
    unfold firstStepBeginOp
    rw [hy, hz]
    exact if_pos (by simp [h3, hb, hn, hd])
  obtain ⟨r, f, m, et⟩ := setTt_moves s c 4
  obtain ⟨a, ea⟩ := setRate_moves_rates (s.setTt c 4)
  have hctxs : z.ctxs = s.ctxs := by rw [hz, ea, et]
  have hctx : ∀ d, z.ctx d = s.ctx d := fun d => by rw [State.ctx, State.ctx, hctxs]
  have htt : z.tt c = 4 := by
    rw [hz, ea]
    exact tt_setTt s c (by decide)
  have hbegun := begun_beginStep z c (s.get (Key.TT_FIRST_STEP c)) hc (s.get (Key.TT_FRAME_BASE c))
  rw [← hy] at hbegun
  have hown := hbegun.own (by rw [hctxs, hs.1]; exact hc)
  obtain ⟨hwins, hstg, hdom⟩ := hbegun.rest
  have hstep : y.step c = s.get (Key.TT_FIRST_STEP c) := hbegun.step.trans (Nat.mod_eq_of_lt (get_lt ..))
  have hrest : z.wins = s.wins ∧ z.stg = s.stg ∧ z.dom = s.dom := by
    rw [hz, ea, et]
    exact ⟨rfl, rfl, rfl⟩
  obtain ⟨hwins', hstg', hdom'⟩ := hrest
  have hframes : z.stepFrames c = s.stepFrames c := by
    unfold State.stepFrames State.hdr
    rw [hctx]
  refine ⟨_, z.stepSpan c (s.get (Key.TT_FIRST_STEP c)) (s.get (Key.TT_FRAME_BASE c)), next_of_act (firstStepBeginOp c) hl hrun,
    (hbegun.tt hc).trans htt, hstep, congrArg Ctx.first hown, ?_, hstep.symm, rfl, ?_, fun d hd => (hbegun.others hd).trans (hctx d),
    hwins.trans hwins', hstg.trans hstg', hdom.trans hdom'⟩
  · refine (congrArg Ctx.opens hown).trans ?_
    show (z.ctx c).opens ++ _ = _
    rw [hctx]
  · rw [← hframes]
    rfl

/-- REPLAY_BEGIN at its plan frame (R421). -/
theorem replayBegin_begins (hl : s.live = true) (hs : shaped s) (hc : c < 8) (hn : s.time.slipping = false) (hd : s.time.slipDue = false)
    {st at_ f : Nat} (hr : (s.ctx c).replay = some (st, at_, f)) (h4 : s.runs c = true) (hf : f ≤ s.planFrame) :
    ∃ t, exec (.replayBegin c) s = .next t ∧ (t.ctx c).replay = none ∧ t.step c = st % 2 ^ 64 ∧ (t.ctx c).first = f ∧
        t.get (Key.FLT_REPLAY_COUNT c) = satAdd max32 (s.get (Key.FLT_REPLAY_COUNT c)) 1 ∧ t.tt c = s.tt c ∧
        (∀ d, d ≠ c → t.ctx d = s.ctx d) ∧ t.wins = s.wins ∧ t.stg = s.stg ∧ t.dom = s.dom := by
  obtain ⟨z, hz⟩ : ∃ z, z = (s.setCtx c { s.ctx c with replay := none }).count (Key.FLT_REPLAY_COUNT c) 1 := ⟨_, rfl⟩
  obtain ⟨y, hy⟩ : ∃ y, y = z.beginStep c st f := ⟨_, rfl⟩
  have hrun : replayBeginOp c s = y.viewStep c := by
    unfold replayBeginOp
    rw [hr, hy, hz]
    exact if_pos (by simp [h4, hf, hn, hd])
  have hlen : c < s.ctxs.length := by rw [hs.1]; exact hc
  have hself : z.ctx c = { s.ctx c with replay := none } := by
    rw [hz]
    exact ctx_setCtx_self _ hlen
  have hother : ∀ d, d ≠ c → z.ctx d = s.ctx d := fun d hd => by
    rw [hz]
    exact ctx_setCtx_ne s _ hd.symm
  have hbegun := begun_beginStep z c st hc f
  rw [← hy] at hbegun
  have hown := hbegun.own (by rw [hz]; exact (setAt_length ..).symm ▸ hlen)
  obtain ⟨hwins, hstg, hdom⟩ := hbegun.rest
  have hrest : z.wins = s.wins ∧ z.stg = s.stg ∧ z.dom = s.dom := by
    rw [hz]
    exact ⟨rfl, rfl, rfl⟩
  obtain ⟨hwins', hstg', hdom'⟩ := hrest
  have hcount : z.get (Key.FLT_REPLAY_COUNT c) = satAdd max32 (s.get (Key.FLT_REPLAY_COUNT c)) 1 := by
    rw [hz]
    exact (get_put_self _ _ _).trans (Nat.mod_eq_of_lt (Nat.lt_of_le_of_lt (Nat.min_le_left ..) (by decide)))
  have htt : z.tt c = s.tt c := by
    rw [hz]
    exact get_put_ne (s.setCtx c _) _ (by unfold Key.FLT_REPLAY_COUNT Key.TT_STATE; omega)
  refine ⟨_, next_of_act (replayBeginOp c) hl hrun, ?_, hbegun.step, congrArg Ctx.first hown, ?_, (hbegun.tt hc).trans htt,
    fun d hd => (hbegun.others hd).trans (hother d hd), hwins.trans hwins', hstg.trans hstg', hdom.trans hdom'⟩
  · refine (congrArg Ctx.replay hown).trans ?_
    show (z.ctx c).replay = none
    rw [hself]
  · refine (hbegun.regs _ fun hm => ?_).trans hcount
    rcases List.mem_cons.1 hm with hm | hm
    · unfold Key.FLT_REPLAY_COUNT Key.TT_STEP at hm
      omega
    · have := memKeys_range hm
      unfold Key.FLT_REPLAY_COUNT at this
      omega

end Boundary
end Sys2Proof.Machine

/-! SUPPORT. The end of a step and its abandonment (R190, R419 to R421, R425). -/

namespace Sys2Proof.Machine

open Sys2Proof

section End
variable {s : State} {c : Nat}

/-- A context that differs in its waiting GRADIENT commands alone. -/
structure GradsKept (c : Nat) (s t : State) : Prop where
  moves : ∃ i x, t = { s with issuedCmds := i, ctxs := x }
  others : ∀ d, d ≠ c → t.ctx d = s.ctx d
  own : ∃ g, t.ctx c = { s.ctx c with gradsDue := g }
  count : t.ctxs.length = s.ctxs.length

theorem foldl_issueAt_quiet (hq : quiet s = true) (l : List (Nat × Nat)) (c : Nat) :
    ∃ i, l.foldl (fun z x => z.issueAt c none (2 * x.2, x.1)) s = { s with issuedCmds := i } :=
  List.foldlRecOn (motive := fun (z : State) => ∃ i, z = { s with issuedCmds := i }) l _ ⟨_, rfl⟩ fun z hz x _ => by
    obtain ⟨i, e⟩ := hz
    rw [e, issueAt_quiet (by exact hq)]
    exact ⟨_, rfl⟩

theorem keepGrads_kept (hq : quiet s = true) (hc : c < s.ctxs.length) : GradsKept c s (s.keepGrads c) := by
  unfold State.keepGrads
  dsimp only
  split
  · obtain ⟨i, e⟩ := foldl_issueAt_quiet hq ((s.frameWords c).zipIdx.filter (fun x => wWaits x.1 && !(s.issuedCmds.contains (c, 2 * x.2)))) c
    rw [e]
    split
    · exact ⟨⟨_, _, rfl⟩, fun _ _ => rfl, ⟨_, rfl⟩, rfl⟩
    · exact ⟨⟨_, _, rfl⟩, fun d hd => ctx_setCtx_ne s _ hd.symm, ⟨_, ctx_setCtx_self (s := s) _ hc⟩, setAt_length ..⟩
  · exact ⟨⟨_, _, rfl⟩, fun _ _ => rfl, ⟨_, rfl⟩, rfl⟩

/-- The state at the end of a step that runs no replay: its GRADIENT commands kept, no replay noted. -/
def State.stepEnded (s : State) (c : Nat) : State :=
  (s.keepGrads c).setCtx c { (s.keepGrads c).ctx c with replayTo := none }

/-- What the end of a step leaves. -/
structure Ended (c : Nat) (s t : State) : Prop where
  moves : ∃ i x, t = { s with issuedCmds := i, ctxs := x }
  others : ∀ d, d ≠ c → t.ctx d = s.ctx d
  own : ∃ g, t.ctx c = { s.ctx c with gradsDue := g, replayTo := none }
  count : t.ctxs.length = s.ctxs.length

theorem ended_stepEnded (hq : quiet s = true) (hc : c < s.ctxs.length) : Ended c s (s.stepEnded c) := by
  obtain ⟨⟨i, x, e⟩, hothers, ⟨g, hown⟩, hcount⟩ := keepGrads_kept hq hc
  unfold State.stepEnded
  generalize s.keepGrads c = z at *
  refine ⟨⟨i, _, by rw [e]; rfl⟩, fun d hd => (ctx_setCtx_ne z _ hd.symm).trans (hothers d hd), ⟨g, ?_⟩, (setAt_length ..).trans hcount⟩
  rw [ctx_setCtx_self _ (hcount ▸ hc), hown]

theorem stepEnd_eq (hq : quiet s = true) (h4 : s.runs c = true) (hr : (s.ctx c).replay = none) (ht : (s.ctx c).replayTo = none)
    (hn : s.time.slipping = false) (hd : s.time.slipDue = false) (hp : ((s.ctx c).first + s.stepFrames c) * 2304 ≤ s.planTick + 1)
    (hc : c < s.ctxs.length) : stepEndOp c s =
      if s.tt c = 5 then
        (((((s.stepEnded c).keepLoads c).abandon c (fun y => y == stepNext (s.step c))).put (Key.TT_STEP c) (stepNext (s.step c))).toLoaded c
          (!(s.ctx c).faultStops.isEmpty))
      else (s.stepEnded c).beginStep c (stepNext (s.step c)) ((s.ctx c).first + s.stepFrames c) := by
  have hissued : (s.keepGrads c).issued 0x0D (some c) = s.keepGrads c := by
    obtain ⟨⟨i, x, e⟩, -, -, -⟩ := keepGrads_kept hq hc
    refine issued_quiet ?_ ..
    rw [e]
    exact hq
  have htt : (s.stepEnded c).tt c = s.tt c := by
    obtain ⟨⟨i, x, e⟩, -, -, -⟩ := ended_stepEnded hq hc
    rw [e]
    rfl
  unfold stepEndOp
  dsimp only
  rw [if_pos (by simp [h4, hr, hn, hd, hp]), ht, hissued]
  dsimp only
  rw [if_pos rfl]
  show (if ((s.stepEnded c).tt c == 5 && true) = true then _ else _) = _
  rw [htt]
  by_cases h5 : s.tt c = 5
  · rw [if_pos h5, if_pos (by rw [h5]; rfl)]
    rfl
  · rw [if_neg h5, if_neg (by simpa using h5)]
    rfl

/-- What a context in LOADED holds of its run: no program, replay, plan or fault (R190). -/
def Ctx.returned (x : Ctx) : Ctx := { x with faultStops := [], progs := [], replay := none, replayTo := none, plans := [] }

/-- A context returned to LOADED (R190, R425). -/
structure Returned (c : Nat) (s t : State) : Prop where
  moves : ∃ r f m x a, t = { s with regs := r, field := f, meter := m, ctxs := x, rates := a }
  tt : t.tt c = 2
  own : c < s.ctxs.length → t.ctx c = (s.ctx c).returned
  regs : keepsRegs (Key.TT_STATE c :: causeKeys) s t

theorem setTt_keepsRegs_causes (s : State) (c v : Nat) : keepsRegs (Key.TT_STATE c :: causeKeys) s (s.setTt c v) := fun k hk => by
  obtain ⟨h1, h2⟩ := not_or.1 fun h => hk (List.mem_cons.2 h)
  rw [get_setTt_route s c v k h2, get_put_ne _ _ (Ne.symm h1)]

theorem returned_toLoaded (s : State) (c : Nat) (fault : Bool) : Returned c s (s.toLoaded c fault) := by
  obtain ⟨r, f, m, et⟩ := setTt_moves s c 2
  have hset := setTt_keepsRegs_causes s c 2
  have htt := tt_setTt s c (v := 2) (by decide)
  unfold State.toLoaded
  dsimp only
  generalize s.setTt c 2 = z at *
  obtain ⟨y, hy⟩ : ∃ y, y = (if fault && !(s.tt c == 5) then z.routeEvent 1 else z) := ⟨_, rfl⟩
  have hyz : (∃ r f, y = { z with regs := r, field := f }) ∧ keepsRegs causeKeys z y := by
    rw [hy]
    split
    · exact ⟨routeEvent_moves z 1, routeEvent_keepsRegs z 1⟩
    · exact ⟨⟨_, _, rfl⟩, .refl z⟩
  obtain ⟨⟨r', f', ey⟩, hroute⟩ := hyz
  rw [← hy]
  have hlen : y.ctxs.length = s.ctxs.length := by rw [ey, et]
  obtain ⟨a, ea⟩ := setRate_moves_rates (y.setCtx c (y.ctx c).returned)
  have hctx : y.ctx c = s.ctx c := by
    rw [ey, et]
    rfl
  refine ea ▸ ⟨⟨r', f', m, setAt y.ctxs c (y.ctx c).returned, a, ?_⟩, ?_, ?_, ?_⟩
  · rw [ey, et]
    rfl
  · exact (hroute _ (ttState_not_mem_causeKeys c)).trans htt
  · intro hc
    rw [← hctx]
    exact ctx_setCtx_self (y.ctx c).returned (hlen ▸ hc)
  · exact (hset.trans hroute (List.Subset.refl _) (List.subset_cons_self ..)).trans (keepsRegs_of_regs (ks := []) rfl) (List.Subset.refl _)
      (List.nil_subset _)

theorem stepNext_mod (st : Nat) : stepNext st % 2 ^ 64 = stepNext st :=
  Nat.mod_eq_of_lt (Nat.lt_trans (Nat.mod_lt _ (by decide)) (by decide))

/-- The end of a step of a context that goes on (R171). -/
theorem stepEnd_goes (hq : quiet s = true) (hs : shaped s) (hc : c < 8) (h4 : s.tt c = 4) {t : State}
    (ht : t = (s.stepEnded c).beginStep c (stepNext (s.step c)) ((s.ctx c).first + s.stepFrames c)) :
    t.step c = stepNext (s.step c) ∧ t.tt c = 4 ∧ (t.ctx c).first = (s.ctx c).first + s.stepFrames c ∧ t.wins = s.wins ∧
      (∀ d, d ≠ c → t.ctx d = s.ctx d) := by
  have hlen : c < s.ctxs.length := by rw [hs.1]; exact hc
  obtain ⟨⟨i, x, e⟩, hothers, -, hcount⟩ := ended_stepEnded hq hlen
  have hbegun := begun_beginStep (s.stepEnded c) c (stepNext (s.step c)) hc ((s.ctx c).first + s.stepFrames c)
  rw [← ht] at hbegun
  have htt : (s.stepEnded c).tt c = s.tt c := by
    rw [e]
    rfl
  have hwins : (s.stepEnded c).wins = s.wins := by rw [e]
  obtain ⟨hw, -, -⟩ := hbegun.rest
  exact ⟨hbegun.step.trans (stepNext_mod _), ((hbegun.tt hc).trans htt).trans h4, congrArg Ctx.first (hbegun.own (hcount ▸ hlen)),
    hw.trans hwins, fun d hd => (hbegun.others hd).trans (hothers d hd)⟩

/-- The end of a step of a context that stops (R190, R425). -/
theorem stepEnd_stops (hq : quiet s = true) (hs : shaped s) (hc : c < 8) (p : Nat → Bool) (fault : Bool) {t : State}
    (ht : t = ((((s.stepEnded c).keepLoads c).abandon c p).put (Key.TT_STEP c) (stepNext (s.step c))).toLoaded c fault) :
    t.step c = stepNext (s.step c) ∧ t.tt c = 2 ∧ (t.ctx c).progs = [] ∧ (t.ctx c).faultStops = [] := by
  have hlen : c < s.ctxs.length := by rw [hs.1]; exact hc
  obtain ⟨-, -, -, hcount⟩ := ended_stepEnded hq hlen
  have hgone := stepsGone_abandon (s := (s.stepEnded c).keepLoads c) p hc (hcount.trans hs.1)
  obtain ⟨y, hy⟩ : ∃ y, y = (((s.stepEnded c).keepLoads c).abandon c p).put (Key.TT_STEP c) (stepNext (s.step c)) := ⟨_, rfl⟩
  have hylen : c < y.ctxs.length := by
    rw [hy]
    exact (hgone.count.trans hcount).symm ▸ hlen
  have hback := returned_toLoaded y c fault
  rw [hy] at hback hylen
  rw [← ht] at hback
  refine ⟨?_, hback.tt, congrArg Ctx.progs (hback.own hylen), congrArg Ctx.faultStops (hback.own hylen)⟩
  refine (hback.regs _ fun hm => ?_).trans ((get_put_self _ _ _).trans (stepNext_mod _))
  rcases List.mem_cons.1 hm with hm | hm
  · unfold Key.TT_STEP Key.TT_STATE at hm
    omega
  · have hlt : ∀ k ∈ causeKeys, k < 0x410001 := by decide
    have := hlt _ hm
    unfold Key.TT_STEP at this
    omega

/-- STEP_END at the last tick of a step (R171, R190, R425). -/
theorem stepEnd_ends (hl : s.live = true) (hq : quiet s = true) (hs : shaped s) (hc : c < 8) (hn : s.time.slipping = false)
    (hd : s.time.slipDue = false) (hruns : s.runs c = true) (hr : (s.ctx c).replay = none) (hto : (s.ctx c).replayTo = none)
    (hp : ((s.ctx c).first + s.stepFrames c) * 2304 ≤ s.planTick + 1) :
    ∃ t, exec (.stepEnd c) s = .next t ∧ t.step c = stepNext (s.step c) ∧
        (s.tt c = 4 → t.tt c = 4 ∧ (t.ctx c).first = (s.ctx c).first + s.stepFrames c ∧ t.wins = s.wins ∧
          (∀ d, d ≠ c → t.ctx d = s.ctx d)) ∧
        (s.tt c = 5 → t.tt c = 2 ∧ (t.ctx c).progs = [] ∧ (t.ctx c).faultStops = []) := by
  have hrun := stepEnd_eq hq hruns hr hto hn hd hp (by rw [hs.1]; exact hc)
  have htt : s.tt c = 4 ∨ s.tt c = 5 := by simpa [State.runs] using hruns
  rcases htt with h4 | h5
  · rw [if_neg (by omega)] at hrun
    obtain ⟨hstep, hgoes⟩ := stepEnd_goes hq hs hc h4 rfl
    exact ⟨_, next_of_act (stepEndOp c) hl hrun, hstep, fun _ => hgoes, fun h => absurd h (by omega)⟩
  · rw [if_pos h5] at hrun
    obtain ⟨hstep, hstops⟩ := stepEnd_stops hq hs hc (fun y => y == stepNext (s.step c)) (!(s.ctx c).faultStops.isEmpty) rfl
    exact ⟨_, next_of_act (stepEndOp c) hl hrun, hstep, fun h => absurd h (by omega), fun _ => hstops⟩

end End

/-! ### Abort boundaries -/

section Abort
variable {s : State} {c : Nat}

/-- Ledger entries written leave all but host memory and its counters (R423). -/
theorem closeLedger_moves (s : State) (c : Nat) (p : Nat → Bool) :
    (∃ r m, s.closeLedger c p = { s with regs := r, env := { s.env with mem := m } }) ∧ keepsRegs memKeys s (s.closeLedger c p) := by
  unfold State.closeLedger
  refine List.foldlRecOn (motive := fun (z : State) => (∃ r m, z = { s with regs := r, env := { s.env with mem := m } }) ∧ keepsRegs memKeys s z)
    _ _ ⟨⟨_, _, rfl⟩, .refl s⟩ fun z hz k _ => ?_
  obtain ⟨⟨r, m, e⟩, hk⟩ := hz
  refine ⟨⟨_, _, by rw [e]; rfl⟩, hk.trans (hostWrite_keepsRegs z _ _ (bits_lt ..)) (List.Subset.refl _) (List.Subset.refl _)⟩

/-- Control flits sent leave all but what is sent and waits, and their counters (R458). -/
theorem emitControls_moves (s : State) (f : Nat → Bytes) :
    (∃ r o w x, (List.range 16).foldl (fun z t => z.emitControl t [f t]) s = { s with regs := r, outbox := o, ctlWait := w, tileTx := x }) ∧
      ∀ k, k < 0x600000 → ((List.range 16).foldl (fun z t => z.emitControl t [f t]) s).get k = s.get k := by
  refine List.foldlRecOn (motive := fun (z : State) =>
    (∃ r o w x, z = { s with regs := r, outbox := o, ctlWait := w, tileTx := x }) ∧ ∀ k, k < 0x600000 → z.get k = s.get k)
    _ _ ⟨⟨_, _, _, _, rfl⟩, fun _ _ => rfl⟩ fun z hz t _ => ?_
  obtain ⟨⟨r, o, w, x, e⟩, hk⟩ := hz
  obtain ⟨-, hregs, o', w', x', r', e'⟩ := emitControl_one z t (f t)
  refine ⟨⟨r', o', w', x', by rw [e', e]⟩, fun k h => (hregs k fun hm => ?_).trans (hk k h)⟩
  rw [List.mem_singleton] at hm
  unfold Key.TP_TX_BYTES at hm
  omega

/-- What is left of a context when its open steps `os` are given up (R420). -/
def Ctx.without (x : Ctx) (os : List OpenStep) (noticed : Option Nat) (grads attempts : List (Nat × Nat)) : Ctx :=
  { x with
    noticed := noticed, gradsDue := grads, attempts := attempts, progs := []
    opens := x.opens.filter (fun (y : OpenStep) => !(os.any (fun (o : OpenStep) => o.step == y.step))) }

/-- The open steps of a context given up (R420). -/
structure OpensGone (c : Nat) (os : List OpenStep) (s t : State) : Prop where
  regs : ∀ k, ¬ goneKey k → t.get k = s.get k
  own : ∃ n g a, t.ctx c = (s.ctx c).without os n g a
  count : t.ctxs.length = s.ctxs.length
  issued : t.issuedCmds = s.issuedCmds.filter (fun (m : Nat × Nat) => m.1 != c)
  wins : t.wins = s.wins.filter (fun (w : Win) => !(w.ctx == c && os.any (fun (y : OpenStep) => y.step == w.step)))
  helds : t.helds = s.helds.filter (fun (h : Held) => !(h.ctx == c && os.any (fun (y : OpenStep) => y.step == h.step)))

theorem not_goneKey_lt {k : Nat} (h : ¬ goneKey k) : k < 0x600000 := Nat.not_le.1 fun hk => h (.inr (.inl hk))

/-- The open steps' work given up and the abort told on the tile ports (R420, R458). -/
def State.abortSent (s : State) (c : Nat) (o : OpenStep) (p : Nat → Bool) : State :=
  (List.range 16).foldl (fun z t => z.emitControl t [ctlEntry 3 c (min 255 (o.attempt + 1)) 0 0 o.step]) ((s.closeLedger c p).abandon c p)

/-- The attempts counted once more for the steps given up (R421). -/
def Ctx.recount (x : Ctx) (os : List OpenStep) : List (Nat × Nat) :=
  x.attempts.filter (fun (a : Nat × Nat) => !(os.any (fun (y : OpenStep) => y.step == a.1))) ++
    os.map (fun (y : OpenStep) => (y.step, y.attempt + 1))

/-- The context and its commands as they are left by the steps given up. -/
def State.opensDropped (s : State) (c : Nat) (os : List OpenStep) : State :=
  { s.setCtx c ((s.ctx c).without os (s.ctx c).noticed (s.ctx c).gradsDue ((s.ctx c).recount os)) with
    issuedCmds := s.issuedCmds.filter (fun (m : Nat × Nat) => m.1 != c) }

theorem abandonOpen_eq (s : State) (c : Nat) (o : OpenStep) (os : List OpenStep) :
    s.abandonOpen c o os = (s.abortSent c o (fun st => os.any (fun (y : OpenStep) => y.step == st))).opensDropped c os := by
  unfold State.abandonOpen
  extract_lets p z v
  have hv : v = s.abortSent c o p := rfl
  rw [← hv]
  clear_value v
  rfl

theorem opensGone_abandonOpen (hs : shaped s) (hc : c < 8) (o : OpenStep) (os : List OpenStep) : OpensGone c os s (s.abandonOpen c o os) := by
  obtain ⟨p, hp⟩ : ∃ p : Nat → Bool, p = fun st => os.any (fun (y : OpenStep) => y.step == st) := ⟨_, rfl⟩
  obtain ⟨⟨r, m, el⟩, hledger⟩ := closeLedger_moves s c p
  have hgone := stepsGone_abandon (s := s.closeLedger c p) p hc (by rw [el]; exact hs.1)
  obtain ⟨⟨r', o', w', x', ef⟩, hflits⟩ := emitControls_moves ((s.closeLedger c p).abandon c p)
    fun _ => ctlEntry 3 c (min 255 (o.attempt + 1)) 0 0 o.step
  have hv : s.abortSent c o p = (List.range 16).foldl (fun z t => z.emitControl t [ctlEntry 3 c (min 255 (o.attempt + 1)) 0 0 o.step])
    ((s.closeLedger c p).abandon c p) := rfl
  rw [abandonOpen_eq, ← hp]
  rw [← hv] at ef hflits
  generalize s.abortSent c o p = v at ef hflits ⊢
  generalize (s.closeLedger c p).abandon c p = y at *
  generalize s.closeLedger c p = z at *
  have hvctx : v.ctx c = y.ctx c := by rw [ef]; rfl
  have hzctx : z.ctx c = s.ctx c := by rw [el]; rfl
  have hvlen : v.ctxs.length = s.ctxs.length := by
    rw [ef]
    refine hgone.count.trans ?_
    rw [el]
  have hissued : v.issuedCmds = s.issuedCmds := by
    rw [ef]
    refine hgone.issued.trans ?_
    rw [el]
  have hwins : v.wins = s.wins.filter (fun (w : Win) => !(w.ctx == c && p w.step)) := by
    rw [ef]
    refine hgone.wins.trans ?_
    rw [el]
  have hhelds : v.helds = s.helds.filter (fun (h : Held) => !(h.ctx == c && p h.step)) := by
    rw [ef]
    refine hgone.helds.trans ?_
    rw [el]
  obtain ⟨n, g, hown⟩ := hgone.own
  subst hp
  refine ⟨fun k hk => ?_, ⟨n, g, (v.ctx c).recount os, ?_⟩, (setAt_length ..).trans hvlen, congrArg (List.filter _) hissued, hwins, hhelds⟩
  · exact ((hflits k (not_goneKey_lt hk)).trans (hgone.regs k hk)).trans
      (hledger k fun hm => by have := memKeys_range hm; have := not_goneKey_lt hk; omega)
  · refine (ctx_setCtx_self (s := v) _ (by rw [hvlen, hs.1]; exact hc)).trans ?_
    rw [hvctx, hown, hzctx]
    rfl

/-- A context that will replay from the step of `v`, as far as `last` and what it still owes (R421, R425). -/
def Ctx.replaying (x : Ctx) (v : Nat × Nat × Nat) (last : Nat) : Ctx := { x with replay := some v, replayTo := some (x.replayEnd v.1 last) }

theorem abortBoundary_eq {o : OpenStep} {r : List OpenStep} (hn : s.time.slipping = false) (hd : s.time.slipDue = false)
    (hruns : s.runs c = true) (hr : (s.ctx c).replay = none)
    (hdue : ∃ n, n ∈ s.targets ∧ n.2.kind = 3 ∧ n.2.arg = c ∧ n.1 ≤ s.time.frame) (ho : s.openNow c = o :: r)
    (hf : (s.ctx c).faultStops = []) (hm : o.attempt + 1 ≤ s.get (Key.FLT_REPLAY_MAX c)) :
    ∃ z y : State, z = { s with targets := z.targets } ∧ y = z.abandonOpen c o (o :: r) ∧ abortBoundaryOp c s =
      y.setCtx c ((y.ctx c).replaying (o.step, o.attempt + 1, y.replayFrame c) (((o :: r).getLast?.map OpenStep.step).getD o.step)) := by
  obtain ⟨n, hmem, hk, ha, hle⟩ := hdue
  have hany : s.targets.any (fun (t : Nat × Notice) => t.2.kind == 3 && t.2.arg == c && decide (t.1 ≤ s.time.frame)) = true :=
    List.any_eq_true.2 ⟨n, hmem, by simp [hk, ha, hle]⟩
  obtain ⟨z, hz⟩ : ∃ z, z = ({ s with targets := s.targets.filter (fun (t : Nat × Notice) =>
    !(t.2.kind == 3 && t.2.arg == c && decide (t.1 ≤ s.time.frame))) } : State) := ⟨_, rfl⟩
  have hzruns : (!(z.runs c) || (z.ctx c).replay.isSome) = false := by
    rw [hz]
    show (!(s.runs c) || (s.ctx c).replay.isSome) = false
    rw [hruns, hr]
    rfl
  have hzo : z.openNow c = o :: r := by rw [hz]; exact ho
  have hzf : (z.ctx c).faultStops = [] := by rw [hz]; exact hf
  have hzm : ¬ z.get (Key.FLT_REPLAY_MAX c) < o.attempt + 1 := by rw [hz]; exact Nat.not_lt.2 hm
  refine ⟨z, _, by rw [hz], rfl, ?_⟩
  unfold abortBoundaryOp
  dsimp only
  rw [if_neg (by rw [hn, hd, hany]; exact Bool.false_ne_true), ← hz, if_neg (by rw [hzruns]; decide), hzo]
  dsimp only
  rw [hzf, List.any_nil, if_neg Bool.false_ne_true, if_neg hzm]
  rfl

theorem mem_filter_not_both {α : Type} (f : α → Nat) (b : α → Bool) (c : Nat) (l : List α) (x : α) :
    x ∈ l.filter (fun y => !(f y == c && b y)) ↔ x ∈ l ∧ ¬ (f x = c ∧ b x = true) := by
  rw [List.mem_filter]
  refine and_congr_right fun _ => ?_
  rw [Bool.not_eq_true', ← Bool.not_eq_true, Bool.and_eq_true, beq_iff_eq]

/-- ABORT_BOUNDARY that replays the oldest open step (R419 to R421, R425). -/
theorem abortBoundary_replays (hl : s.live = true) (hs : shaped s) (hc : c < 8) {o : OpenStep} {r : List OpenStep}
    (hn : s.time.slipping = false) (hd : s.time.slipDue = false) (hruns : s.runs c = true) (hr : (s.ctx c).replay = none)
    (hdue : ∃ n, n ∈ s.targets ∧ n.2.kind = 3 ∧ n.2.arg = c ∧ n.1 ≤ s.time.frame) (ho : s.openNow c = o :: r)
    (hf : (s.ctx c).faultStops = []) (hm : o.attempt + 1 ≤ s.get (Key.FLT_REPLAY_MAX c)) :
    ∃ t, exec (.abortBoundary c) s = .next t ∧ (t.ctx c).replay = some (o.step, o.attempt + 1, s.replayFrame c) ∧
        (t.ctx c).replayTo = some ((s.ctx c).replayEnd o.step (((o :: r).getLast?.map OpenStep.step).getD o.step)) ∧
        (∀ m, m ∈ t.issuedCmds ↔ m ∈ s.issuedCmds ∧ m.1 ≠ c) ∧
        t.wins = s.wins.filter (fun (w : Win) => !(w.ctx == c && (o :: r).any (fun (y : OpenStep) => y.step == w.step))) ∧
        (∀ h, h ∈ t.helds ↔ h ∈ s.helds ∧ ¬ (h.ctx = c ∧ (o :: r).any (fun (y : OpenStep) => y.step == h.step) = true)) ∧
        (t.ctx c).opens = (s.ctx c).opens.filter (fun (x : OpenStep) => !((o :: r).any (fun (y : OpenStep) => y.step == x.step))) := by
  obtain ⟨z, y, ez, hy, hrun⟩ := abortBoundary_eq (s := s.fresh) hn hd hruns hr hdue ho hf hm
  have hgone := opensGone_abandonOpen (s := z) (by rw [ez]; exact hs) hc o (o :: r)
  rw [← hy] at hgone
  obtain ⟨n, g, a, hown⟩ := hgone.own
  have hzctx : z.ctx c = s.ctx c := by rw [ez]; rfl
  have hzlen : z.ctxs.length = 8 := by rw [ez]; exact hs.1
  have hzissued : z.issuedCmds = s.issuedCmds := by rw [ez]; rfl
  have hzwins : z.wins = s.wins := by rw [ez]; rfl
  have hzhelds : z.helds = s.helds := by rw [ez]; rfl
  have hctx : y.ctx c = (s.ctx c).without (o :: r) n g a := by rw [hown, hzctx]
  have hkey : ∀ k, k < 0x500000 → k ∉ causeKeys → ¬ goneKey k := fun k hk hn => by
    unfold goneKey
    rintro (⟨h, -⟩ | h | h)
    · omega
    · omega
    · exact hn h
  have hbase : y.get (Key.TT_FRAME_BASE c) = s.get (Key.TT_FRAME_BASE c) := by
    refine (hgone.regs _ (hkey _ ?_ ?_)).trans (by rw [ez]; rfl)
    · unfold Key.TT_FRAME_BASE
      omega
    · have hlt : ∀ k ∈ causeKeys, k < 0x410001 := by decide
      intro hm
      have := hlt _ hm
      unfold Key.TT_FRAME_BASE at this
      omega
  have hplan : y.planFrame = s.planFrame := (hgone.regs _ (hkey _ (by decide) (by decide))).trans (by rw [ez]; rfl)
  have hframes : y.stepFrames c = s.stepFrames c := by
    unfold State.stepFrames State.hdr
    rw [hctx]
    rfl
  have hreplay : y.replayFrame c = s.replayFrame c := by
    unfold State.replayFrame
    rw [hbase, hplan, hframes]
  have hself := ctx_setCtx_self (s := y) (c := c)
    ((y.ctx c).replaying (o.step, o.attempt + 1, y.replayFrame c) (((o :: r).getLast?.map OpenStep.step).getD o.step)) (by rw [hgone.count, hzlen]; exact hc)
  refine ⟨_, next_of_actFresh (abortBoundaryOp c) hl hrun, ?_, ?_, fun m => ?_, ?_, fun h => ?_, ?_⟩
  · rw [hself, hreplay]
    rfl
  · rw [hself, hctx]
    rfl
  · show m ∈ y.issuedCmds ↔ _
    rw [hgone.issued, hzissued]
    simp
  · show y.wins = _
    rw [hgone.wins, hzwins]
  · show h ∈ y.helds ↔ _
    rw [hgone.helds, hzhelds]
    exact mem_filter_not_both Held.ctx (fun h => (o :: r).any (fun (y : OpenStep) => y.step == h.step)) c s.helds h
  · rw [hself, hctx]
    rfl

end Abort

/-- Settles O51: each boundary is its operation on the states that the lemmas about `beginStep`, `toLoaded` and `abandonOpen` describe. -/
theorem stepBoundaries : Obligations.StepBoundaries := by
  unfold Obligations.StepBoundaries
  intro c s hl hq hs hc hn hd
  exact ⟨firstStepBegin_begins hl hs hc hn hd, stepEnd_ends hl hq hs hc hn hd,
    fun o r hruns hr hdue ho hf hm => abortBoundary_replays hl hs hc hn hd hruns hr hdue ho hf hm,
    fun st at_ f hr hruns hf => replayBegin_begins hl hs hc hn hd hr hruns hf⟩

end Sys2Proof.Machine

/-! SUPPORT. Loads that end, and the end of the unload path (R190, R250). -/

namespace Sys2Proof.Machine

open Sys2Proof

section Load
variable {s : State} {c : Nat}

/-- The reads of a load count, and move nothing else. -/
theorem loadReads_moves (s : State) (c : Nat) (v : Except (Nat × Nat) Image) :
    (∃ r, s.loadReads c v = { s with regs := r }) ∧ keepsRegs memKeys s (s.loadReads c v) := by
  have hread : ∀ (z : State) (p a n : Nat), p < 4 → (∃ r, z.hostRead p a n = { z with regs := r }) ∧ keepsRegs memKeys z (z.hostRead p a n) :=
    fun z p a n hp => ⟨⟨_, rfl⟩, hostRead_keepsRegs z a n hp⟩
  have hfetch : hdFetch (s.hostBytes (s.get (Key.TT_IMAGE_ADDR c)) 256) < 4 := bits_lt _ 3 2
  unfold State.loadReads
  extract_lets a h code z
  have hz : (∃ r, z = { s with regs := r }) ∧ keepsRegs memKeys s z := by
    unfold z
    split
    next p hp => exact hread s p a 256 (List.mem_range.1 (List.mem_of_find?_eq_some hp))
    · exact ⟨⟨_, rfl⟩, .refl s⟩
  clear_value z
  obtain ⟨⟨r, e⟩, hk⟩ := hz
  split
  · obtain ⟨⟨r', e'⟩, hk'⟩ := hread z (hdFetch h) (a + 256) (hdLen h - 256) hfetch
    exact ⟨⟨r', by rw [e', e]⟩, hk.trans hk' (List.Subset.refl _) (List.Subset.refl _)⟩
  · exact ⟨⟨r, e⟩, hk⟩

/-- A state whose load has ended: its entry gone, its reads counted. -/
def State.loadEnded (s : State) (c : Nat) (v : Except (Nat × Nat) Image) : State :=
  { s with loads := s.loads.filter (fun (x : Load) => x.ctx != c) }.loadReads c v

theorem loadEnded_moves (s : State) (c : Nat) (v : Except (Nat × Nat) Image) :
    (∃ r, s.loadEnded c v = { s with regs := r, loads := s.loads.filter (fun (x : Load) => x.ctx != c) }) ∧
      keepsRegs memKeys s (s.loadEnded c v) := by
  obtain ⟨⟨r, e⟩, hk⟩ := loadReads_moves { s with loads := s.loads.filter (fun (x : Load) => x.ctx != c) } c v
  exact ⟨⟨r, e⟩, (keepsRegs_of_regs (ks := []) rfl).trans hk (List.nil_subset _) (List.Subset.refl _)⟩

theorem ttLoadDone_direct {l : Load} (hf : s.loads.find? (fun (l : Load) => l.ctx == c) = some l) (hh : l.held = false) :
    ttLoadDoneOp c s = match s.loadVerdict c with
      | .ok i => (s.loadEnded c (s.loadVerdict c)).enterLoaded c i
      | .error e => (s.loadEnded c (s.loadVerdict c)).loadFailed c e.1 e.2 := by
  unfold ttLoadDoneOp
  rw [hf]
  simp only [hh, Bool.false_eq_true, if_false]
  rfl

theorem ttLoadDone_held {l : Load} (hf : s.loads.find? (fun (l : Load) => l.ctx == c) = some l) (hh : l.held = true) :
    ∃ v u, ttLoadDoneOp c s = (s.loadEnded c v).startUnload c u := by
  unfold ttLoadDoneOp
  rw [hf]
  simp only [hh, if_true]
  exact ⟨_, _, rfl⟩

theorem stopPtCheck_spec (s : State) : (∃ r, s.stopPtCheck = { s with regs := r, ptCheck := false }) ∧
    keepsRegs [Key.PT_CHECK_RESULT] s s.stopPtCheck := by
  unfold State.stopPtCheck
  split
  · exact ⟨⟨_, rfl⟩, keepsRegs_put _ _ _⟩
  next h => exact ⟨⟨s.regs, by rw [← Bool.eq_false_iff.2 h]⟩, .refl s⟩

/-- A load that passed (R95, R190, R275). -/
theorem enterLoaded_spec (s : State) (hc : c < 8) (hl : s.ctxs.length = 8) (i : Image) {t : State} (ht : t = s.enterLoaded c i) :
    t.tt c = 2 ∧ t.get (Key.TT_LOAD_RESULT c) = 0 ∧ t.get (Key.TT_PLAN_HASH c) = u i.hdr 128 8 % 2 ^ 64 ∧ t.get Key.PT_SHADOW_READY = 0 ∧
      t.ptCheck = false ∧ (t.ctx c).image.map Image.hdr = some i.hdr ∧ (∀ d, d ≠ c → t.ctx d = s.ctx d) ∧ t.loads = s.loads ∧
      t.dom = s.dom ∧ t.stg = s.stg ∧ t.env = s.env := by
  obtain ⟨y, hy⟩ : ∃ y, y = ((s.setCtx c { image := some (s.kept i) }).put (Key.TT_LOAD_RESULT c) 0).put (Key.TT_PLAN_HASH c) (u i.hdr 128 8) :=
    ⟨_, rfl⟩
  obtain ⟨r, f, m, et⟩ := setTt_moves y c 2
  have htt := tt_setTt y c (v := 2) (by decide)
  have hset := setTt_keepsRegs_causes y c 2
  obtain ⟨z, hz⟩ : ∃ z, z = (y.setTt c 2).put Key.PT_SHADOW_READY 0 := ⟨_, rfl⟩
  obtain ⟨⟨r', es⟩, hstop⟩ := stopPtCheck_spec z
  have hrun : t = z.stopPtCheck := by
    rw [ht, hz, hy]
    rfl
  have hcause : ∀ k ∈ causeKeys, k < 0x410001 := by decide
  have hkeep : ∀ k, 0x410001 ≤ k → k ≠ Key.TT_STATE c → k ≠ Key.PT_SHADOW_READY → k ≠ Key.PT_CHECK_RESULT → t.get k = y.get k := by
    intro k hk h1 h2 h3
    rw [hrun, hstop k (by simpa using h3), hz, get_put_ne _ _ (Ne.symm h2)]
    refine hset k fun hm => ?_
    rcases List.mem_cons.1 hm with hm | hm
    · exact h1 hm
    · have := hcause k hm
      omega
  have hres : y.get (Key.TT_LOAD_RESULT c) = 0 := by
    rw [hy, get_put_ne _ _ (by unfold Key.TT_PLAN_HASH Key.TT_LOAD_RESULT; omega)]
    exact get_put_self _ _ _
  have hhash : y.get (Key.TT_PLAN_HASH c) = u i.hdr 128 8 % 2 ^ 64 := by
    rw [hy, get_put_self]
  have hptc : Key.PT_CHECK_RESULT < 0x410001 ∧ Key.PT_SHADOW_READY < 0x410001 := by decide
  have hzy : z.loads = s.loads ∧ z.dom = s.dom ∧ z.stg = s.stg ∧ z.env = s.env ∧ z.ctxs = setAt s.ctxs c { image := some (s.kept i) } := by
    rw [hz, et, hy]
    exact ⟨rfl, rfl, rfl, rfl, rfl⟩
  obtain ⟨hloads, hdom, hstg, henv, hctxs⟩ := hzy
  have htc : t.ctxs = setAt s.ctxs c { image := some (s.kept i) } := by rw [hrun, es, ← hctxs]
  refine ⟨?_, ?_, ?_, ?_, ?_, ?_, fun d hd => ?_, ?_, ?_, ?_, ?_⟩
  · have hptt : Key.PT_SHADOW_READY ≠ Key.TT_STATE c := by
      unfold Key.PT_SHADOW_READY Key.TT_STATE
      omega
    rw [hrun, State.tt, hstop _ (by simp only [List.mem_singleton, Key.PT_CHECK_RESULT, Key.TT_STATE]; omega), hz, get_put_ne _ _ hptt]
    exact htt
  · rw [hkeep _ (by unfold Key.TT_LOAD_RESULT; omega) (by unfold Key.TT_LOAD_RESULT Key.TT_STATE; omega)
      (by unfold Key.TT_LOAD_RESULT; omega) (by unfold Key.TT_LOAD_RESULT; omega), hres]
  · rw [hkeep _ (by unfold Key.TT_PLAN_HASH; omega) (by unfold Key.TT_PLAN_HASH Key.TT_STATE; omega)
      (by unfold Key.TT_PLAN_HASH; omega) (by unfold Key.TT_PLAN_HASH; omega), hhash]
  · rw [hrun, hstop _ (by decide), hz]
    exact get_put_self _ _ _
  · rw [hrun, es]
  · have hself : t.ctx c = { image := some (s.kept i) } := by
      rw [State.ctx, htc]
      exact ctx_setCtx_self (s := s) _ (by rw [hl]; exact hc)
    rw [hself]
    rfl
  · rw [State.ctx, htc]
    exact ctx_setCtx_ne s _ hd.symm
  · rw [hrun, es, ← hloads]
  · rw [hrun, es, ← hdom]
  · rw [hrun, es, ← hstg]
  · rw [hrun, es, ← henv]

/-- A load that failed (R190). -/
theorem loadFailed_spec (hq : quiet s = true) (hc : c < 8) (code off : Nat) {t : State} (ht : t = s.loadFailed c code off) :
    t.tt c = 0 ∧ t.get (Key.TT_LOAD_RESULT c) = (off <<< 24 ||| code) % 2 ^ 64 ∧
      t.get Key.FLT_LOG_HEAD = (s.get Key.FLT_LOG_HEAD + 1) % 2 ^ 32 ∧ t.ctxs = s.ctxs ∧ t.stg = s.stg ∧ t.env = s.env := by
  obtain ⟨y, hy⟩ : ∃ y, y = s.put (Key.TT_LOAD_RESULT c) (off <<< 24 ||| code) := ⟨_, rfl⟩
  obtain ⟨r, f, m, et⟩ := setTt_moves y c 0
  have htt := tt_setTt y c (v := 0) (by decide)
  have hset := setTt_keepsRegs_causes y c 0
  obtain ⟨z, hz⟩ : ∃ z, z = y.setTt c 0 := ⟨_, rfl⟩
  have hrun : t = z.log (refusedEv c) := by rw [ht, hz, hy]; rfl
  rw [← hz] at et htt hset
  have hkeep : ∀ k, k ∉ causeKeys → k ≠ Key.TT_STATE c → k ≠ Key.TT_LOAD_RESULT c → z.get k = s.get k := by
    intro k h1 h2 h3
    rw [hset k fun hm => (List.mem_cons.1 hm).elim h2 h1, hy, get_put_ne _ _ (Ne.symm h3)]
  have hqz : quiet z = true := quiet_congr hq
    (hkeep _ (by decide) (by unfold Key.RPL_STATE Key.TT_STATE; omega) (by unfold Key.RPL_STATE Key.TT_LOAD_RESULT; omega))
    (by rw [et, hy]; rfl)
  have hlogKeys : ∀ k ∈ logKeys, k < 0x410001 ∨ 0x600000 ≤ k := by decide
  obtain ⟨r', d', f', el⟩ := log_moves hqz (refusedEv c)
  refine ⟨?_, ?_, ?_, ?_, ?_, ?_⟩
  · refine (congrArg (State.tt · c) hrun).trans ((log_keepsRegs hqz _ _ fun hm => ?_).trans htt)
    have := hlogKeys _ hm
    unfold Key.TT_STATE at this
    omega
  · have hlog : Key.TT_LOAD_RESULT c ∉ logKeys := fun hm => by
      have := hlogKeys _ hm
      unfold Key.TT_LOAD_RESULT at this
      omega
    have hcause : Key.TT_LOAD_RESULT c ∉ Key.TT_STATE c :: causeKeys := fun hm => by
      have hlt : ∀ k ∈ causeKeys, k < 0x410001 := by decide
      rcases List.mem_cons.1 hm with hm | hm
      · unfold Key.TT_LOAD_RESULT Key.TT_STATE at hm
        omega
      · have := hlt _ hm
        unfold Key.TT_LOAD_RESULT at this
        omega
    rw [hrun, log_keepsRegs hqz _ _ hlog, hset _ hcause, hy, get_put_self]
  · rw [hrun, get_log_head hqz, hkeep Key.FLT_LOG_HEAD (by decide) (by unfold Key.FLT_LOG_HEAD Key.TT_STATE; omega)
      (by unfold Key.FLT_LOG_HEAD Key.TT_LOAD_RESULT; omega)]
  · rw [hrun, el, et, hy]; rfl
  · rw [hrun, el, et, hy]; rfl
  · rw [hrun, el, et, hy]; rfl

/-- The unload path begun by a load of a context that held an image (R190). -/
theorem startUnload_spec (hc : c < 8) (hl : s.ctxs.length = 8) (n : Unload) :
    ((s.startUnload c n).ctx c).unload = some n ∧ (s.startUnload c n).tt c = s.tt c ∧
      (∀ w, w ∈ (s.startUnload c n).wins ↔ w ∈ s.wins ∧ w.ctx ≠ c) := by
  have hgone := stepsGone_abandon (s := s) (c := c) (fun _ => true) hc hl
  obtain ⟨z, hz⟩ : ∃ z, z = s.abandon c (fun _ => true) := ⟨_, rfl⟩
  rw [← hz] at hgone
  obtain ⟨hleft, hkeep⟩ := unitsLeft_leaves z c
  rw [startUnload_eq, ← hz]
  generalize z.unitsLeft c = y at *
  have hctxs : y.ctxs = z.ctxs := (congrArg State.ctxs hleft :)
  have hwins : y.wins = z.wins := (congrArg State.wins hleft :)
  have hlow : Key.TT_STATE c < 0x500000 := by
    unfold Key.TT_STATE
    omega
  refine ⟨?_, ?_, fun w => ?_⟩
  · rw [ctx_setCtx_self _ (by rw [hctxs, hgone.count, hl]; exact hc)]
  · refine (hkeep _ hlow (ttState_not_mem_causeKeys c)).trans (hgone.regs _ ?_)
    rintro (⟨h, -⟩ | h | h)
    · omega
    · omega
    · exact ttState_not_mem_causeKeys c h
  · show w ∈ y.wins ↔ _
    rw [hwins, hgone.wins]
    exact mem_filter_others Win.ctx c s.wins w

end Load

/-! ### The unload path's end -/

section Unload
variable {s : State} {c : Nat}

theorem mem_del {α : Type} (m : List (Nat × α)) (i : Nat) (e : Nat × α) : e ∈ Sparse.del m i ↔ e ∈ m ∧ e.1 ≠ i := by
  induction m with
  | nil => simp [Sparse.del]
  | cons a r ih =>
    obtain ⟨k, w⟩ := a
    unfold Sparse.del
    split
    next h =>
      rw [ih, List.mem_cons]
      exact ⟨fun ⟨hm, hn⟩ => ⟨.inr hm, hn⟩, fun ⟨hm, hn⟩ => ⟨hm.resolve_left fun he => hn (by rw [he]; exact h), hn⟩⟩
    next h =>
      rw [List.mem_cons, List.mem_cons, ih]
      constructor
      · rintro (rfl | ⟨hm, hn⟩)
        · exact ⟨.inl rfl, h⟩
        · exact ⟨.inr hm, hn⟩
      · rintro ⟨rfl | hm, hn⟩
        · exact .inl rfl
        · exact .inr ⟨hm, hn⟩

theorem ne_of_get?_none {α : Type} {m : List (Nat × α)} {k : Nat} (h : Sparse.get? m k = none) : ∀ e ∈ m, e.1 ≠ k := by
  induction m with
  | nil => exact fun _ he => absurd he List.not_mem_nil
  | cons a r ih =>
    obtain ⟨j, w⟩ := a
    unfold Sparse.get? at h
    split at h
    · cases h
    next hne =>
      intro e he
      rcases List.mem_cons.1 he with rfl | he
      · exact hne
      · exact ih h e he

/-- Buffers `l` of class `k` freed: no entry of its owner map names them, and no class has an entry that is new. -/
structure OwnersFreed (k : Nat) (l : List Nat) (s t : State) : Prop where
  drop : DropFrame s t
  pools : t.pools.length = s.pools.length
  owners : ∀ d e, e ∈ (t.pool d).owner → e ∈ (s.pool d).owner ∧ (d = k → e.1 ∉ l)

theorem freeBuffer_owners (s : State) {k : Nat} (i : Nat) (hk : k < s.pools.length) : OwnersFreed k [i] s (s.freeBuffer k i) := by
  cases ho : s.owner k i with
  | none =>
    have hsame : s.freeBuffer k i = s := by
      unfold State.freeBuffer
      rw [ho]
    rw [hsame]
    refine ⟨.refl s, rfl, fun d e he => ⟨he, ?_⟩⟩
    rintro rfl
    simpa using ne_of_get?_none ho e he
  | some o =>
    obtain ⟨p, hp, -, ⟨⟨pools, -, -, -, -⟩, -⟩⟩ := freeBuffer_frame hk ho
    have hlen : (s.poolReturned o k i).pools.length = s.pools.length := setAt_length ..
    have hpool : ∀ d, (s.freeBuffer k i).pool d = ((s.poolReturned o k i).setPool k p).pool d :=
      fun d => congrArg (fun l => nth l d ({} : PoolClass)) pools
    refine ⟨.freeBuffer s k i, ?_, fun d e he => ?_⟩
    · rw [pools]
      exact (setAt_length ..).trans hlen
    · rw [hpool] at he
      by_cases hd : d = k
      · subst hd
        rw [pool_setPool_self p (hlen ▸ hk), hp] at he
        obtain ⟨hm, hn⟩ := (mem_del ..).1 he
        exact ⟨hm, fun _ => by simpa using hn⟩
      · rw [pool_setPool_ne _ _ (Ne.symm hd), poolReturned_pool_ne (Ne.symm hd)] at he
        exact ⟨he, fun h => absurd h hd⟩

theorem freeBuffers_owners (l : List Nat) (s : State) {k : Nat} (hk : k < s.pools.length) :
    OwnersFreed k l s (l.foldl (fun z i => z.freeBuffer k i) s) := by
  induction l generalizing s with
  | nil => exact ⟨.refl s, rfl, fun _ _ he => ⟨he, fun _ => List.not_mem_nil⟩⟩
  | cons i l ih =>
    obtain ⟨hdrop, hpools, howners⟩ := freeBuffer_owners s i hk
    obtain ⟨hdrop', hpools', howners'⟩ := ih (s.freeBuffer k i) (hpools ▸ hk)
    refine ⟨hdrop.trans hdrop', hpools'.trans hpools, fun d e he => ?_⟩
    obtain ⟨hm, hn⟩ := howners' d e he
    obtain ⟨hm', hn'⟩ := howners d e hm
    exact ⟨hm', fun hd hmem => (List.mem_cons.1 hmem).elim (fun h => hn' hd (by simp [h])) (hn hd)⟩

/-- The scan of R250 over the classes `ks`: no buffer of them is the context's. -/
structure ClassesFreed (ks : List Nat) (c : Nat) (s t : State) : Prop where
  drop : DropFrame s t
  pools : t.pools.length = s.pools.length
  owners : ∀ d e, e ∈ (t.pool d).owner → e ∈ (s.pool d).owner ∧ (d ∈ ks → e.2 ≠ c)

theorem classesFreed_foldl (ks : List Nat) (c : Nat) (s : State) (hk : ∀ k ∈ ks, k < s.pools.length) :
    ClassesFreed ks c s (ks.foldl (fun z k =>
      (((z.pool k).owner.filter (fun e => e.2 == c)).map (·.1)).foldl (fun z i => z.freeBuffer k i) z) s) := by
  induction ks generalizing s with
  | nil => exact ⟨.refl s, rfl, fun _ _ he => ⟨he, fun h => absurd h List.not_mem_nil⟩⟩
  | cons k ks ih =>
    obtain ⟨hdrop, hpools, howners⟩ :=
      freeBuffers_owners (((s.pool k).owner.filter (fun e => e.2 == c)).map (·.1)) s (hk k List.mem_cons_self)
    obtain ⟨hdrop', hpools', howners'⟩ := ih _ fun d hd => hpools ▸ hk d (List.mem_cons_of_mem k hd)
    refine ⟨hdrop.trans hdrop', hpools'.trans hpools, fun d e he => ?_⟩
    obtain ⟨hm, hn⟩ := howners' d e he
    obtain ⟨hm', hn'⟩ := howners d e hm
    refine ⟨hm', fun hmem => (List.mem_cons.1 hmem).elim (fun hd hc => hn' hd ?_) hn⟩
    subst hd
    exact List.mem_map.2 ⟨e, List.mem_filter.2 ⟨hm', beq_iff_eq.2 hc⟩, rfl⟩

/-- UNLOAD_PATH_DONE with nothing to load and no code (R190, R250). -/
theorem unloadPathDone_frees (hl : s.live = true) (hs : shaped s) (hc : c < 8) {x : Unload} (hx : (s.ctx c).unload = some x)
    (hw : s.worksFor c = false) (hn : x.next = none) (h0 : x.code = 0) :
    ∃ t, exec (.unloadPathDone c) s = .next t ∧ t.tt c = 0 ∧ t.ctx c = {} ∧
      (∀ k, k < 3 → ∀ e, e ∈ (t.pool k).owner → e.2 ≠ c) ∧ (∀ d, d ≠ c → t.ctx d = s.ctx d) ∧ t.stg = s.stg ∧ t.wins = s.wins := by
  obtain ⟨hshape, hpools, -⟩ := hs
  have hfreed := classesFreed_foldl [0, 1, 2] c s.fresh fun k hk => by
    show k < s.pools.length
    simp only [List.mem_cons, List.not_mem_nil, or_false] at hk
    omega
  obtain ⟨z, hz⟩ : ∃ z, z = s.fresh.freeAll c := ⟨_, rfl⟩
  have hdef : ClassesFreed [0, 1, 2] c s.fresh z := by
    rw [hz]
    exact hfreed
  have hrun : unloadPathDoneOp c s.fresh = (z.setCtx c {}).setTt c 0 := by
    unfold unloadPathDoneOp
    rw [show (s.fresh.ctx c).unload = some x from hx]
    dsimp only
    rw [if_neg (show ¬ s.fresh.worksFor c = true from Bool.eq_false_iff.1 hw), hn]
    dsimp only
    rw [if_pos h0, hz]
  obtain ⟨r, f, m, e⟩ := setTt_moves (z.setCtx c {}) c 0
  have hctxs : z.ctxs = s.ctxs := (congrArg State.ctxs hdef.drop.beyond :)
  have hstg : z.stg = s.stg := (congrArg State.stg hdef.drop.beyond :)
  have hwins : z.wins = s.wins := (congrArg State.wins hdef.drop.beyond :)
  refine ⟨_, next_of_actFresh (unloadPathDoneOp c) hl hrun, tt_setTt _ c (by decide), ?_, fun k hk x hx => ?_, fun d hd => ?_, ?_, ?_⟩
  · rw [e]
    exact ctx_setCtx_self (s := z) {} (by rw [hctxs, hshape]; exact hc)
  · rw [e] at hx
    exact (hdef.owners k x hx).2 (by simp; omega)
  · rw [e]
    refine (ctx_setCtx_ne z {} hd.symm).trans ?_
    rw [State.ctx, State.ctx, hctxs]
  · rw [e, ← hstg]
    rfl
  · rw [e, ← hwins]
    rfl

end Unload

/-- Settles O52: a load ends in `enterLoaded`, `loadFailed` or the unload path, and the path's scan empties the owner maps. -/
theorem loadsAndUnloads : Obligations.LoadsAndUnloads := by
  unfold Obligations.LoadsAndUnloads
  intro c s hl hq hs hc
  refine ⟨fun l hf => ⟨fun i hh hv => ?_, fun e hh hv => ?_, fun hh => ?_⟩, fun x hx hw hn h0 => unloadPathDone_frees hl hs hc hx hw hn h0⟩
  · have hrun := ttLoadDone_direct (s := s.fresh) hf hh
    rw [hv] at hrun
    obtain ⟨⟨r, e⟩, -⟩ := loadEnded_moves s.fresh c (.ok i)
    obtain ⟨htt, hres, hhash, hready, hcheck, himage, hothers, hloads, hdom, hstg, henv⟩ :=
      enterLoaded_spec (s.fresh.loadEnded c (.ok i)) hc (by rw [e]; exact hs.1) i rfl
    refine ⟨_, next_of_actFresh (ttLoadDoneOp c) hl hrun, htt, hres, hhash, hready, hcheck, himage, fun x => ?_, fun d hd => ?_, ?_, ?_, ?_⟩
    · rw [hloads, e]
      simp [State.fresh]
    · rw [hothers d hd, e]
      rfl
    · rw [hdom, e]
      rfl
    · rw [hstg, e]
      rfl
    · rw [henv, e]
      rfl
  · have hrun := ttLoadDone_direct (s := s.fresh) hf hh
    rw [hv] at hrun
    obtain ⟨⟨r, e'⟩, hk⟩ := loadEnded_moves s.fresh c (.error e)
    have hqz : quiet (s.fresh.loadEnded c (.error e)) = true := quiet_congr hq (hk _ (by decide)) (by rw [e']; rfl)
    obtain ⟨htt, hres, hhead, hctxs, hstg, henv⟩ := loadFailed_spec hqz hc e.1 e.2 rfl
    refine ⟨_, next_of_actFresh (ttLoadDoneOp c) hl hrun, htt, hres, ?_, ?_, ?_, ?_⟩
    · rw [hhead, hk _ (by decide)]
      rfl
    · rw [hctxs, e']
      rfl
    · rw [hstg, e']
      rfl
    · rw [henv, e']
      rfl
  · obtain ⟨v, n, hrun⟩ := ttLoadDone_held (s := s.fresh) hf hh
    obtain ⟨⟨r, e⟩, hk⟩ := loadEnded_moves s.fresh c v
    obtain ⟨hunload, htt, hwins⟩ := startUnload_spec (s := s.fresh.loadEnded c v) hc (by rw [e]; exact hs.1) n
    refine ⟨_, next_of_actFresh (ttLoadDoneOp c) hl hrun, by rw [hunload]; rfl, ?_, fun w => ?_⟩
    · refine htt.trans (hk _ fun hm => ?_)
      have := memKeys_range hm
      unfold Key.TT_STATE at this
      omega
    · rw [hwins, e]
      rfl

end Sys2Proof.Machine

/-! SUPPORT. Tensors read and written by the units, and the operations of the Collective Engine (R310 to R329). -/

namespace Sys2Proof.Machine

open Sys2Proof

/-! ### The registers that work counts in -/

/-- Registers that accesses of memories, non-finite results and units' cycles count in (R46, R277, R430). -/
def workKeys : List Nat := [Key.NUM_NONFINITE_FIRST, Key.NUM_NONFINITE_COUNT] ++ memKeys ++ bankKeys ++ busyKeys

theorem memKeys_sub_workKeys : memKeys ⊆ workKeys :=
  List.subset_append_of_subset_left _ (List.subset_append_of_subset_left _ (List.subset_append_right ..))

theorem bankKeys_sub_workKeys : bankKeys ⊆ workKeys := List.subset_append_of_subset_left _ (List.subset_append_right ..)

theorem busyKeys_sub_workKeys : busyKeys ⊆ workKeys := List.subset_append_right ..

/-- The registers of work lie apart from the counters of the units' commands, and from the tables. -/
theorem workKeys_range {k : Nat} (h : k ∈ workKeys) : k ∈ [Key.NUM_NONFINITE_FIRST, Key.NUM_NONFINITE_COUNT] ∨ 0x603601 ≤ k ∧ k < 0x603A1A := by
  unfold workKeys at h
  rcases List.mem_append.1 h with h | h
  · rcases List.mem_append.1 h with h | h
    · rcases List.mem_append.1 h with h | h
      · exact .inl h
      · have := memKeys_range h
        exact .inr (by omega)
    · have := bankKeys_range h
      exact .inr (by omega)
  · have := busyKeys_range h
    exact .inr (by omega)

/-- Accesses counted: nothing but their counters and what the snapshots hold of them has moved. -/
structure Counts (s t : State) : Prop where
  moves : ∃ r o, t = { s with regs := r, obs := o }
  regs : keepsRegs workKeys s t

namespace Counts

theorem refl (s : State) : Counts s s := ⟨⟨_, _, rfl⟩, .refl s⟩

theorem trans {s t z : State} (h : Counts s t) (h' : Counts t z) : Counts s z := by
  obtain ⟨⟨r, o, e⟩, hk⟩ := h
  obtain ⟨⟨r', o', e'⟩, hk'⟩ := h'
  exact ⟨⟨r', o', by rw [e', e]⟩, hk.trans hk' (List.Subset.refl _) (List.Subset.refl _)⟩

theorem foldl {α : Type} {f : State → α → State} (l : List α) (s : State) (hf : ∀ z a, Counts z (f z a)) : Counts s (l.foldl f s) :=
  List.foldlRecOn (motive := Counts s) l f (refl s) (fun _ h a _ => h.trans (hf _ a))

theorem ite {c : Prop} [Decidable c] {s a b : State} (ha : Counts s a) (hb : Counts s b) : Counts s (if c then a else b) := by
  split
  · exact ha
  · exact hb

theorem count64 (s : State) {k : Nat} (n : Nat) (h : k ∈ workKeys) : Counts s (s.count64 k n) :=
  ⟨⟨_, _, rfl⟩, (keepsRegs_put s _ _).mono (List.cons_subset.2 ⟨h, List.nil_subset _⟩)⟩

theorem bankTouch (w c : Bool) (n l : Nat) (s : State) : Counts s (bankTouch w c n l s) :=
  ⟨bankTouch_moves w c n l s, (bankTouch_keepsRegs w c n l s).mono bankKeys_sub_workKeys⟩

theorem stgRead (s : State) (a n : Nat) (c : Bool) : Counts s (s.stgRead a n c) := bankTouch ..

theorem hostRead (s : State) {p : Nat} (a n : Nat) (h : p < 4) : Counts s (s.hostRead p a n) :=
  count64 s _ (memKeys_sub_workKeys (memRdBytes_mem h))

theorem ldPort_lt (d : Nat) : ldPort d < 4 := bits_lt ..

theorem touch (s : State) (d : Nat) (w : Bool) (as : List (Nat × Nat)) : Counts s (s.touch d w as) := by
  unfold State.touch
  refine ite ?_ (foldl _ s fun z n => bankTouch ..)
  cases w
  · exact count64 s _ (memKeys_sub_workKeys (memRdBytes_mem (ldPort_lt d)))
  · exact count64 s _ (memKeys_sub_workKeys (memWrBytes_mem (ldPort_lt d)))

theorem accRead (s : State) (c : Nat) (l : Bytes) (a b : Nat) : Counts s (s.accRead c l a b) := by
  unfold State.accRead
  exact ite (hostRead _ _ _ (portFor_lt ..)) (stgRead ..)

theorem nonFinite (s : State) (d c l st : Nat) (n : Nf) : Counts s (s.nonFinite d c l st n) := by
  have hput : ∀ (z : State) (k v : Nat), k ∈ [Key.NUM_NONFINITE_FIRST, Key.NUM_NONFINITE_COUNT] → Counts z (z.put k v) := fun z k v h =>
    ⟨⟨_, _, rfl⟩, (keepsRegs_put z _ _).mono (List.cons_subset.2 ⟨List.mem_append_left _ (List.mem_append_left _ (List.mem_append_left _ h)),
      List.nil_subset _⟩)⟩
  unfold State.nonFinite
  exact ite (refl s) (trans (ite (hput _ _ _ List.mem_cons_self) (refl s)) (hput _ _ _ (List.mem_cons_of_mem _ List.mem_cons_self)))

end Counts

/-- The cycles of a unit counted. -/
theorem busy_moves (s : State) (d : Nat) (c : Option Nat) : ∃ r m, s.busy d c = { s with regs := r, meter := m, free := s.free + 1 } := by
  unfold State.busy
  cases c with
  | none => exact ⟨_, _, rfl⟩
  | some c =>
    dsimp only
    split
    · exact ⟨_, _, rfl⟩
    · exact ⟨_, _, rfl⟩

theorem busy_keepsRegs (s : State) {d : Nat} (c : Option Nat) (hd : d - 1 < 25) : keepsRegs busyKeys s (s.busy d c) := by
  have hput : keepsRegs busyKeys s (s.fresh.count64 (Key.UNIT_BUSY (d - 1)) (Config.busyCycles s.fresh.free d)) :=
    (keepsRegs_of_regs (ks := []) rfl).trans (keepsRegs_put s.fresh _ _) (List.nil_subset _)
      (List.cons_subset.2 ⟨List.mem_map_of_mem (List.mem_range.2 hd), List.nil_subset _⟩)
  unfold State.busy
  cases c with
  | none => exact hput
  | some c =>
    dsimp only
    split
    · exact hput
    · exact hput

/-! ### Operations -/

section Coll
variable {s : State} {c group seq : Nat} {o : Coll}

/-- The key of an operation. -/
def Coll.isAt (c st group seq : Nat) (o : Coll) : Bool := o.ctx == c && o.step == st && o.group == group && o.seq == seq

theorem coll_def (s : State) (c st group seq : Nat) : s.coll c st group seq = s.cle.ops.find? (Coll.isAt c st group seq) := rfl

theorem isAt_self (o : Coll) : Coll.isAt o.ctx o.step o.group o.seq o = true := by simp [Coll.isAt]

/-- An operation put is the one found at its key. -/
theorem coll_setColl_self (s : State) (o : Coll) : (s.setColl o).coll o.ctx o.step o.group o.seq = some o := by
  rw [coll_def]
  show (s.cle.ops.filter (fun x => !(Coll.isAt o.ctx o.step o.group o.seq x)) ++ [o]).find? _ = _
  rw [List.find?_append, List.find?_eq_none.2, Option.none_or, List.find?_cons_of_pos (isAt_self o)]
  intro x hx
  simpa using (List.mem_filter.1 hx).2

/-- The operations of other keys stand. -/
theorem mem_setColl_of_none (h : s.coll o.ctx o.step o.group o.seq = none) {x : Coll} (hx : x ∈ s.cle.ops) : x ∈ (s.setColl o).cle.ops := by
  have hn := List.find?_eq_none.1 ((coll_def ..).symm.trans h) x hx
  exact List.mem_append_left _ (List.mem_filter.2 ⟨hx, by rw [Bool.not_eq_true']; exact Bool.eq_false_iff.2 hn⟩)

/-- What an operation looked for is. -/
theorem collFor_spec {p : Coll → Bool} (h : s.collFor c group seq p = some o) :
    o.ctx = c ∧ o.group = group ∧ o.seq = seq ∧ o.issued = true ∧ o.aborted = 0 ∧ p o = true := by
  have := List.find?_some h
  simp only [Bool.and_eq_true, beq_iff_eq] at this
  obtain ⟨⟨⟨⟨⟨h1, h2⟩, h3⟩, h4⟩, h5⟩, h6⟩ := this
  exact ⟨h1, h2, h3, h4, h5, h6⟩

theorem coll_of_setColl {o o' : Coll} (hc : o'.ctx = c) (hg : o'.group = group) (hs : o'.seq = seq) (hst : o'.step = o.step) :
    (s.setColl o').coll c o.step group seq = some o' := by
  subst hc hg hs
  rw [← hst]
  exact coll_setColl_self s o'

/-- COLLECTIVE of an operation not known (R310). -/
theorem collective_opens (hl : s.live = true) (hq : quiet s = true) (src dst fmt cap queue : Nat) (signal : Bool) (kind layer : Nat)
    (hm : s.mayIssue c 0x07 (collFields group seq src dst fmt cap queue signal kind layer) = true) (hn : s.coll c (s.step c) group seq = none) :
    ∃ t, exec (.collective c group seq src dst fmt cap queue signal kind layer) s = .next t ∧ marked c s t ∧
        t.coll c (s.step c) group seq = some (opensColl c group seq src dst fmt cap queue signal kind layer s) ∧
        (∀ o, o ∈ s.cle.ops → o ∈ t.cle.ops) ∧ t = { s with cle := t.cle, issuedCmds := t.issuedCmds } := by
  obtain ⟨m, e⟩ := issue_quiet hq none hm
  have hold : (s.collNamed c (s.step c) group seq layer).issued = false ∧ (s.collNamed c (s.step c) group seq layer).aborted = 0 := by
    unfold State.collNamed
    rw [hn]
    exact ⟨rfl, rfl⟩
  obtain ⟨hissued, haborted⟩ := hold
  obtain ⟨z, hz⟩ : ∃ z, z = ({ s with issuedCmds := s.issuedCmds ++ [(c, m)] } : State) := ⟨_, rfl⟩
  have hrun : collectiveOp c group seq src dst fmt cap queue signal kind layer s =
      z.setColl (opensColl c group seq src dst fmt cap queue signal kind layer s) := by
    unfold collectiveOp
    dsimp only
    rw [if_pos hm, hissued, haborted, e, ← hz, Bool.false_and, if_neg Bool.false_ne_true, if_pos rfl, hz]
    rfl
  refine ⟨_, next_of_act (collectiveOp c group seq src dst fmt cap queue signal kind layer) hl hrun, ⟨m, by rw [hz]; rfl⟩,
    coll_setColl_self z (opensColl c group seq src dst fmt cap queue signal kind layer s), fun o ho => ?_, by rw [hz]; rfl⟩
  refine mem_setColl_of_none (s := z) ?_ (by rw [hz]; exact ho)
  rw [hz]
  exact hn

/-- COLLECTIVE_BEGIN in the operation's turn (R312, R321). -/
theorem collectiveBegin_begins (hl : s.live = true) (hf : s.collFor c group seq (fun o => !o.begun) = some o) (ht : s.collTurn o = true) :
    ∃ t, exec (.collectiveBegin c group seq) s = .next t ∧
        t.coll c o.step group seq = some { o with begun := true, padded := o.cap - s.collLen o, dropped := s.collLen o - o.cap } ∧
        t.get (Key.CLE_OVERFLOW c) = satAdd max32 (s.get (Key.CLE_OVERFLOW c)) (s.collLen o - o.cap) ∧
        keepsRegs [Key.CLE_OVERFLOW c] s t ∧ t = { s with cle := t.cle, regs := t.regs } := by
  obtain ⟨hc, hg, hs, -, -, -⟩ := collFor_spec hf
  obtain ⟨z, hz⟩ : ∃ z, z = s.setColl { o with begun := true, padded := o.cap - s.collLen o, dropped := s.collLen o - o.cap } := ⟨_, rfl⟩
  have hrun : collectiveBeginOp c group seq s = z.count (Key.CLE_OVERFLOW c) (s.collLen o - o.cap) := by
    unfold collectiveBeginOp
    rw [hf, hz]
    exact if_pos ht
  have hget : z.get (Key.CLE_OVERFLOW c) = s.get (Key.CLE_OVERFLOW c) := by rw [hz]; rfl
  refine ⟨_, next_of_act (collectiveBeginOp c group seq) hl hrun, ?_, ?_, ?_, ?_⟩
  · rw [hz]
    exact coll_of_setColl (o := o) (o' := { o with begun := true, padded := o.cap - s.collLen o, dropped := s.collLen o - o.cap }) hc hg hs rfl
  · rw [← hget]
    exact (get_put_self _ _ _).trans (Nat.mod_eq_of_lt (Nat.lt_of_le_of_lt (Nat.min_le_left ..) (by decide)))
  · exact (keepsRegs_of_regs (ks := []) (by rw [hz]; rfl)).trans (keepsRegs_put z _ _) (List.nil_subset _) (List.Subset.refl _)
  · rw [hz]
    rfl

/-! ### Timeouts -/

/-- A notice raised while neither log nor trace runs moves the notices alone (R197, R198). -/
theorem raiseNotice_quiet (hq : quiet s = true) (n : Notice) :
    ∃ a b d, s.raiseNotice n = { s with seen := a, noticeTx := b, targets := d } := by
  unfold State.raiseNotice
  split
  · exact ⟨_, _, _, rfl⟩
  · obtain ⟨z, hz⟩ : ∃ z, z = s.spreadNotice n := ⟨_, rfl⟩
    have hqz : quiet z = true := by
      rw [hz]
      exact hq
    rw [← hz]
    unfold State.actNotice
    split
    · rw [hz]
      exact ⟨_, _, _, rfl⟩
    · rw [rpl_quiet hqz]
      dsimp only
      rw [trace_quiet hqz, hz]
      exact ⟨_, _, _, rfl⟩

theorem replayStep_quiet (hq : quiet s = true) (c : Nat) :
    ∃ a b d x, s.replayStep c = { s with seen := a, noticeTx := b, targets := d, ctxs := x } := by
  unfold State.replayStep
  split
  · obtain ⟨a, b, d, e⟩ := raiseNotice_quiet (s := s.setCtx c { s.ctx c with noticed := some s.planFrame }) hq
      { kind := 3, target := (s.setCtx c { s.ctx c with noticed := some s.planFrame }).noticeTarget, arg := c }
    rw [e]
    exact ⟨_, _, _, _, rfl⟩
  · exact ⟨_, _, _, _, rfl⟩

/-- A context stopped for a fault: what it moves (R190). -/
theorem imposeStop_moves (s : State) (c : Nat) :
    (∃ r f m x a, s.imposeStop c = { s with regs := r, field := f, meter := m, ctxs := x, rates := a }) ∧
      keepsRegs (Key.TT_STATE c :: causeKeys) s (s.imposeStop c) := by
  unfold State.imposeStop
  split
  · obtain ⟨r, f, m, e⟩ := setTt_moves s c 5
    exact ⟨⟨r, f, m, _, _, e⟩, setTt_keepsRegs_causes s c 5⟩
  split
  · have h := returned_toLoaded s c true
    exact ⟨h.moves, h.regs⟩
  · exact ⟨⟨_, _, _, _, _, rfl⟩, .refl s⟩

/-- What may follow the event of an abort: a step replayed, or its context stopped. -/
structure AbortEnds (c : Nat) (s t : State) : Prop where
  moves : ∃ r f m x a b d e, t = { s with regs := r, field := f, meter := m, ctxs := x, rates := a, seen := b, noticeTx := d, targets := e }
  regs : keepsRegs (Key.TT_STATE c :: causeKeys) s t

theorem abortEnds_timeout (hq : quiet s = true) (c : Nat) (again : Bool) (x : Ctx) :
    AbortEnds c s (if again then s.imposeStop c else (s.setCtx c x).replayStep c) := by
  cases again with
  | true =>
    obtain ⟨⟨r, f, m, y, a, e⟩, hk⟩ := imposeStop_moves s c
    exact ⟨⟨r, f, m, y, a, _, _, _, e⟩, hk⟩
  | false =>
    obtain ⟨a, b, d, y, e⟩ := replayStep_quiet (s := s.setCtx c x) hq c
    refine ⟨⟨s.regs, s.field, s.meter, y, s.rates, a, b, d, e⟩, keepsRegs_of_regs ?_⟩
    rw [if_neg Bool.false_ne_true, e]
    rfl

/-- An operation's slots given up and its abort counted (R325). -/
def State.collCut (s : State) (o : Coll) (cls : Nat) : State :=
  { s.setColl { o with aborted := cls } with cle := { (s.setColl { o with aborted := cls }).cle with
      slots := s.cle.slots.filter (fun (p : PieceSlot) =>
        !(p.ctx == o.ctx && p.step == o.step && p.group == o.group && p.seq == o.seq && !p.deliv)) } }.count (Key.CLE_ABORTS o.ctx) 1

/-- An abort by the timeout of an operation that posts no signals (R326). -/
theorem collAbort_timeout (s : State) (hd : o.done = false) (ha : o.aborted = 0) (hsig : o.signal = false) :
    ∃ (ev : Ev) (x : Ctx) (again : Bool), s.collAbort o 0x32 1 none =
      (if again then ((s.collCut o 0x32).log ev).imposeStop o.ctx else (((s.collCut o 0x32).log ev).setCtx o.ctx x).replayStep o.ctx) := by
  have hend : ∀ z : State, (if o.issued then z.collEnd { o with aborted := 0x32 } 0x32 else z) = z := fun z => by
    unfold State.collEnd State.collSignal
    rw [show ({ o with aborted := 0x32 } : Coll).signal = o.signal from rfl, hsig]
    simp
  unfold State.collAbort
  rw [if_neg (by rw [hd, ha]; decide)]
  dsimp only
  rw [hend, if_neg (by decide)]
  exact ⟨_, _, _, rfl⟩

/-- COLLECTIVE_TIMEOUT of an operation past its timeout (R326). -/
theorem collectiveTimeout_aborts (hl : s.live = true) (hq : quiet s = true) (hc8 : c < 8)
    (hf : s.collFor c group seq (fun o => !o.done && s.expired o.stamp (s.collTimeout c)) = some o) (hsig : o.signal = false) :
    ∃ t, exec (.collectiveTimeout c group seq) s = .next t ∧
        (∃ o', t.coll c o.step group seq = some o' ∧ o' = { o with aborted := 0x32 }) ∧
        (∀ p, p ∈ t.cle.slots → ¬ (p.ctx = c ∧ p.step = o.step ∧ p.group = group ∧ p.seq = seq ∧ p.deliv = false)) ∧
        t.get (Key.CLE_ABORTS c) = satAdd max32 (s.get (Key.CLE_ABORTS c)) 1 ∧
        t.get Key.FLT_LOG_HEAD = (s.get Key.FLT_LOG_HEAD + 1) % 2 ^ 32 ∧ t.wins = s.wins ∧ t.env = s.env := by
  obtain ⟨hc, hg, hs, hissued, haborted, hp⟩ := collFor_spec hf
  have hdone : o.done = false := by
    simp only [Bool.and_eq_true, Bool.not_eq_true'] at hp
    exact hp.1
  subst hc hg hs
  obtain ⟨ev, x, again, habort⟩ := collAbort_timeout s hdone haborted hsig
  obtain ⟨z, hz⟩ : ∃ z, z = s.collCut o 0x32 := ⟨_, rfl⟩
  rw [← hz] at habort
  have hzcle : z.cle = { ops := (s.setColl { o with aborted := 0x32 }).cle.ops, slots := s.cle.slots.filter (fun (p : PieceSlot) =>
      !(p.ctx == o.ctx && p.step == o.step && p.group == o.group && p.seq == o.seq && !p.deliv)) } := by rw [hz]; rfl
  have hqz : quiet z = true := quiet_congr hq
    (by rw [hz]; exact get_put_ne _ _ (by unfold Key.CLE_ABORTS Key.RPL_STATE; omega)) (by rw [hz]; rfl)
  obtain ⟨r, d, f, el⟩ := log_moves hqz ev
  have hlog := log_keepsRegs hqz ev
  have hhead := get_log_head hqz ev
  generalize hy : z.log ev = y at *
  have hqy : quiet y = true := quiet_congr hqz (hlog _ (by decide)) (by rw [el])
  have hends := abortEnds_timeout hqy o.ctx again x
  have hrun : collectiveTimeoutOp o.ctx o.group o.seq s = (if again then y.imposeStop o.ctx else (y.setCtx o.ctx x).replayStep o.ctx) := by
    unfold collectiveTimeoutOp
    rw [hf]
    exact habort
  generalize (if again then y.imposeStop o.ctx else (y.setCtx o.ctx x).replayStep o.ctx) = t at *
  obtain ⟨r', f', m', x', a', b', d', e', et⟩ := hends.moves
  have hcle : t.cle = z.cle := by rw [et, el]
  have hkeep : ∀ k, 0x600000 ≤ k → t.get k = y.get k := fun k hk => hends.regs k fun hm => by
    have hlt : ∀ k ∈ causeKeys, k < 0x410001 := by decide
    rcases List.mem_cons.1 hm with hm | hm
    · unfold Key.TT_STATE at hm
      omega
    · have := hlt _ hm
      omega
  refine ⟨t, next_of_act (collectiveTimeoutOp o.ctx o.group o.seq) hl hrun, ⟨_, ?_, rfl⟩, fun p hm => ?_, ?_, ?_, ?_, ?_⟩
  · rw [coll_def, hcle, hzcle]
    exact coll_setColl_self s { o with aborted := 0x32 }
  · rw [hcle, hzcle] at hm
    rintro ⟨h1, h2, h3, h4, h5⟩
    have := (List.mem_filter.1 hm).2
    simp [h1, h2, h3, h4, h5] at this
  · have hkey : Key.CLE_ABORTS o.ctx ∉ logKeys := fun hm => by
      have hall : ∀ k ∈ logKeys, k < 0x602201 ∨ 0x602209 ≤ k := by decide
      have := hall _ hm
      unfold Key.CLE_ABORTS at this
      omega
    rw [hkeep _ (by unfold Key.CLE_ABORTS; omega), hlog _ hkey, hz]
    exact (get_put_self _ _ _).trans (Nat.mod_eq_of_lt (Nat.lt_of_le_of_lt (Nat.min_le_left ..) (by decide)))
  · rw [hkeep _ (by decide), hhead, hz]
    exact congrArg (fun n => (n + 1) % 2 ^ 32) (get_put_ne _ _ (by unfold Key.CLE_ABORTS Key.FLT_LOG_HEAD; omega))
  · rw [et, el, hz]
    rfl
  · rw [et, el, hz]
    rfl

end Coll
end Sys2Proof.Machine

/-! SUPPORT. Up values and results of a collective (R315, R316, R319, R324). -/

namespace Sys2Proof.Machine

open Sys2Proof

section Slots
variable {s : State}

/-- A full channel takes 256 slots. -/
theorem freeSlot_isSome (h : s.cle.slots.length < 256) (chan : Nat) : ∃ i, s.freeSlot chan = some i := by
  refine Option.isSome_iff_exists.1 (Option.isSome_iff_ne_none.2 fun hn => ?_)
  have hused : ∀ i < 256, ∃ x ∈ s.cle.slots, x.chan = chan ∧ x.slot = i := fun i hi => by
    have := List.find?_eq_none.1 hn i (List.mem_range.2 hi)
    simpa using this
  have hsub : List.range 256 ⊆ s.cle.slots.map PieceSlot.slot := fun i hi => by
    obtain ⟨x, hx, -, e⟩ := hused i (List.mem_range.1 hi)
    exact List.mem_map.2 ⟨x, hx, e⟩
  have := (List.nodup_range.subperm hsub).length_le
  simp only [List.length_range, List.length_map] at this
  omega

/-- The key of a piece slot. -/
def PieceSlot.isAt (c st group seq piece : Nat) (deliv : Bool) (x : PieceSlot) : Bool :=
  x.ctx == c && x.step == st && x.group == group && x.seq == seq && x.piece == piece && x.deliv == deliv

theorem pieceSlot_def (s : State) (c st group seq piece : Nat) (deliv : Bool) :
    s.pieceSlot c st group seq piece deliv = s.cle.slots.find? (PieceSlot.isAt c st group seq piece deliv) := rfl

/-- A slot taken for a piece: found at its key, the slots alone changed. -/
theorem takeSlot_spec (h : s.cle.slots.length < 256) (c st group seq piece : Nat) (deliv : Bool) :
    ∃ y p, s.takeSlot c st group seq piece deliv = some (y, p) ∧ (∃ l, y = { s with cle := { s.cle with slots := l } }) ∧
      y.pieceSlot c st group seq piece deliv = some p := by
  unfold State.takeSlot
  cases hp : s.pieceSlot c st group seq piece deliv with
  | some p => exact ⟨s, p, rfl, ⟨_, rfl⟩, hp⟩
  | none =>
    obtain ⟨i, hi⟩ := freeSlot_isSome h (gpChannel (s.group group))
    dsimp only
    rw [hi]
    refine ⟨_, _, rfl, ⟨_, rfl⟩, ?_⟩
    rw [pieceSlot_def] at hp ⊢
    show (s.cle.slots ++ [_]).find? _ = _
    rw [List.find?_append, hp, Option.none_or]
    exact List.find?_cons_of_pos (by simp [PieceSlot.isAt])

/-- The first element that satisfies `q`, where the ones that satisfy `r` have been replaced. -/
theorem find?_map_replace {α : Type} {q r : α → Bool} {l : List α} {p p' : α} (hf : l.find? q = some p) (hr : r p = true) (hq : q p' = true) :
    (l.map (fun x => if r x then p' else x)).find? q = some p' := by
  induction l with
  | nil => cases hf
  | cons x l ih =>
    rw [List.map_cons]
    cases hrx : r x with
    | true => exact List.find?_cons_of_pos hq
    | false =>
      rw [if_neg Bool.false_ne_true]
      cases hqx : q x with
      | true =>
        rw [List.find?_cons_of_pos hqx] at hf
        obtain rfl : x = p := Option.some.inj hf
        rw [hrx] at hr
        cases hr
      | false =>
        rw [List.find?_cons_of_neg (by rw [hqx]; exact Bool.false_ne_true)] at hf ⊢
        exact ih hf

theorem pieceSlot_setSlot {c st group seq piece : Nat} {deliv : Bool} {p : PieceSlot} (h : s.pieceSlot c st group seq piece deliv = some p)
    (parts : List Part) : (s.setSlot { p with parts := parts }).pieceSlot c st group seq piece deliv = some { p with parts := parts } :=
  find?_map_replace (r := fun (x : PieceSlot) => x.chan == p.chan && x.slot == p.slot) h (by simp) (List.find?_some ((pieceSlot_def ..).symm.trans h) :)

/-- A part other than a child's up value put into a slot: its parts, and its bytes in the channel (R9, R319). -/
def PieceSlot.withPart (p : PieceSlot) (kind node len : Nat) : PieceSlot :=
  { p with parts := p.parts.filter (fun (y : Part) => !(y.kind == kind && y.node == node)) ++ [{ kind := kind, node := node, len := len, data := [] }] }

theorem putPart_eq (s : State) (p : PieceSlot) {kind : Nat} (hk : kind ≠ 0) (node : Nat) (bs : Bytes) :
    s.putPart p kind node bs = (s.setSlot (p.withPart kind node bs.length)).stgWrite (s.slotAddr p) bs := by
  unfold State.putPart PieceSlot.withPart
  simp only [hk, if_false]

/-- What a part reads as, from the bytes of its slot. -/
theorem slotPart_withPart (s : State) (p : PieceSlot) {kind : Nat} (hk : kind ≠ 0) (node len : Nat) :
    s.slotPart (p.withPart kind node len) kind node = some (s.stgBytes (s.slotAddr p) len) := by
  have hfind : (p.withPart kind node len).parts.find? (fun (x : Part) => x.kind == kind && x.node == node) =
      some { kind := kind, node := node, len := len, data := [] } := by
    unfold PieceSlot.withPart
    rw [List.find?_append, List.find?_eq_none.2 fun x hx => ?_, Option.none_or]
    · exact List.find?_cons_of_pos (by simp)
    · have h := (List.mem_filter.1 hx).2
      rw [Bool.not_eq_true'] at h
      exact Bool.eq_false_iff.1 h
  unfold State.slotPart
  rw [hfind]
  show some (if kind = 0 then _ else _) = _
  rw [if_neg hk]
  rfl

/-- A write of the Staging Store. -/
theorem stgWrite_spec (s : State) (a : Nat) (bs : Bytes) :
    (∃ r o, s.stgWrite a bs = { s with regs := r, obs := o, stg := Mem.write s.stg a bs }) ∧ keepsRegs workKeys s (s.stgWrite a bs) := by
  have hdef : s.stgWrite a bs = { bankTouch true true (lineCount a bs.length) (a / 128) s with
      stg := Mem.write (bankTouch true true (lineCount a bs.length) (a / 128) s).stg a bs } := rfl
  obtain ⟨⟨r, o, e⟩, hk⟩ := Counts.bankTouch true true (lineCount a bs.length) (a / 128) s
  rw [hdef]
  refine ⟨⟨r, o, by rw [e]⟩, hk.trans (keepsRegs_of_regs (ks := []) rfl) (List.Subset.refl _) (List.nil_subset _)⟩

/-- The Staging Store's cells rise where the stores are canonical. -/
theorem stg_rising (h : Memory.wf s = true) : Sparse.rising s.stg = true := by
  simp only [Memory.wf, Bool.and_eq_true] at h
  exact h.1.1.2

end Slots

section Up
variable {s : State} {c group seq j : Nat} {o : Coll}

/-- What the own contribution of a member depends on. -/
theorem collOwn_congr (s : State) (l : List PieceSlot) (o : Coll) (j : Nat) :
    State.collOwn { s with cle := { s.cle with slots := l } } o j = s.collOwn o j := rfl

theorem collOwnRead_counts (s : State) (o : Coll) (j : Nat) : Counts s (s.collOwnRead o j) := by
  unfold State.collOwnRead
  dsimp only
  exact .ite (.touch ..) (.ite (.accRead ..) (.refl s))

/-- An up value of a piece without children (R315). -/
theorem upValue_leaf (f : Nat) (x : Arith (List Nat)) : runNf (x.bind (fun y => upValue f y none none)) = runNf x := rfl

theorem collectiveUpValue_eq (hf : s.collFor c group seq (fun o => o.begun && !(o.upped.contains j)) = some o) (hj : j < o.pieces)
    (hsrc : s.collSource o = true) (hleft : s.collLeft o j = none) (hright : s.collRight o j = none) {y : State} {p : PieceSlot}
    (ht : s.takeSlot c o.step group seq j false = some (y, p)) : collectiveUpValueOp c group seq j s =
      ((((y.collOwnRead o j).putPart p 1 (y.collOwnRead o j).node (elemBytes o.fmt (runNf (y.collOwn o j)).1)).setColl
        { o with upped := o.upped ++ [j] }).nonFinite 17 c o.layer o.step (runNf (y.collOwn o j)).2).busy 17 none := by
  unfold collectiveUpValueOp
  rw [hf]
  dsimp only
  rw [if_pos (by rw [hsrc]; simpa using hj), hleft, hright]
  dsimp only [Option.map_none]
  rw [if_neg (by decide), ht]
  rfl

/-- Registers below the counters do not count work. -/
theorem not_mem_workKeys {k : Nat} (h : k < 0x600000 ∨ 0x604000 ≤ k) : k ∉ workKeys := fun hm => by
  rcases workKeys_range hm with hk | hk
  · have hall : ∀ k ∈ [Key.NUM_NONFINITE_FIRST, Key.NUM_NONFINITE_COUNT], 0x600000 ≤ k ∧ k < 0x604000 := by decide
    have := hall k hk
    omega
  · omega

/-- COLLECTIVE_UP_VALUE of a piece without children (R315). -/
theorem collectiveUpValue_leaf (hl : s.live = true) (hwf : Memory.wf s = true)
    (hf : s.collFor c group seq (fun o => o.begun && !(o.upped.contains j)) = some o) (hj : j < o.pieces)
    (hsrc : s.collSource o = true) (hleft : s.collLeft o j = none) (hright : s.collRight o j = none) (hslots : s.cle.slots.length < 256) :
    ∃ t p, exec (.collectiveUpValue c group seq j) s = .next t ∧
        t.coll c o.step group seq = some { o with upped := o.upped ++ [j] } ∧ t.pieceSlot c o.step group seq j false = some p ∧
        t.slotPart p 1 s.node = some (elemBytes o.fmt (runNf (s.fresh.collOwn o j)).1) ∧ t.wins = s.wins ∧ t.ctxs = s.ctxs ∧ t.env = s.env ∧
        t.queues = s.queues := by
  obtain ⟨hc, hg, hs, -, -, -⟩ := collFor_spec hf
  obtain ⟨y, p, htake, ⟨l, ey⟩, hpiece⟩ := takeSlot_spec (s := s.fresh) hslots c o.step group seq j false
  have hrun := collectiveUpValue_eq (s := s.fresh) hf hj hsrc hleft hright htake
  have hown : y.collOwn o j = s.fresh.collOwn o j := by
    rw [ey]
    exact collOwn_congr ..
  rw [hown] at hrun
  obtain ⟨bs, hbs⟩ : ∃ bs, bs = elemBytes o.fmt (runNf (s.fresh.collOwn o j)).1 := ⟨_, rfl⟩
  obtain ⟨v, hv⟩ : ∃ v, v = y.collOwnRead o j := ⟨_, rfl⟩
  have hcounts := collOwnRead_counts y o j
  rw [← hv] at hcounts
  rw [← hbs, ← hv, putPart_eq v p (by decide) v.node bs] at hrun
  obtain ⟨⟨rv, ov, ev⟩, hkv⟩ := hcounts
  obtain ⟨w, hw⟩ : ∃ w, w = (v.setSlot (p.withPart 1 v.node bs.length)).stgWrite (v.slotAddr p) bs := ⟨_, rfl⟩
  obtain ⟨⟨rw', ow, ew⟩, hkw⟩ := stgWrite_spec (v.setSlot (p.withPart 1 v.node bs.length)) (v.slotAddr p) bs
  rw [← hw] at ew hkw hrun
  obtain ⟨x, hx⟩ : ∃ x, x = w.setColl { o with upped := o.upped ++ [j] } := ⟨_, rfl⟩
  rw [← hx] at hrun
  have hnf := Counts.nonFinite x 17 c o.layer o.step (runNf (s.fresh.collOwn o j)).2
  generalize x.nonFinite 17 c o.layer o.step (runNf (s.fresh.collOwn o j)).2 = n at hrun hnf
  obtain ⟨⟨rn, on, en⟩, hkn⟩ := hnf
  obtain ⟨rt, mt, et⟩ := busy_moves n 17 none
  have hkt := (busy_keepsRegs n (d := 17) none (by decide)).mono busyKeys_sub_workKeys
  generalize n.busy 17 none = t at hrun et hkt
  have hregs : ∀ k, k ∉ workKeys → t.get k = s.get k := fun k hk => by
    rw [hkt k hk, hkn k hk, hx]
    refine (hkw k hk).trans ((hkv k hk).trans ?_)
    rw [ey]
    rfl
  have hvregs : ∀ k, k ∉ workKeys → v.get k = s.get k := fun k hk => (hkv k hk).trans (by rw [ey]; rfl)
  have hcle : t.cle = (w.setColl { o with upped := o.upped ++ [j] }).cle := by rw [et, en, hx]
  have hslot : t.pieceSlot c o.step group seq j false = some (p.withPart 1 v.node bs.length) := by
    rw [pieceSlot_def, hcle]
    show w.cle.slots.find? _ = _
    rw [ew]
    refine pieceSlot_setSlot (s := v) ?_ _
    rw [ev]
    exact hpiece
  have hstg : t.stg = Mem.write s.stg (v.slotAddr p) bs := by
    rw [et, en, hx]
    show w.stg = _
    rw [ew]
    show Mem.write v.stg _ _ = _
    rw [ev, ey]
    rfl
  have hnode : v.node = s.node := hvregs _ (not_mem_workKeys (by decide))
  have hbase : t.get Key.CLE_REDUCE_BASE = v.get Key.CLE_REDUCE_BASE := by
    rw [hregs _ (not_mem_workKeys (by decide)), hvregs _ (not_mem_workKeys (by decide))]
  have haddr : t.slotAddr p = v.slotAddr p := by
    unfold State.slotAddr
    rw [hbase]
  have hrest : t.wins = s.wins ∧ t.ctxs = s.ctxs ∧ t.env = s.env ∧ t.queues = s.queues := by
    rw [et, en, hx, ew, ev, ey]
    exact ⟨rfl, rfl, rfl, rfl⟩
  refine ⟨t, _, next_of_actFresh (collectiveUpValueOp c group seq j) hl hrun, ?_, hslot, ?_, hrest⟩
  · rw [coll_def, hcle]
    exact coll_of_setColl (o := o) (o' := { o with upped := o.upped ++ [j] }) hc hg hs rfl
  · rw [← hnode, slotPart_withPart t p (by decide), ← hbs, haddr]
    unfold State.stgBytes
    rw [hstg]
    exact congrArg some (memRead_write_self _ _ bs (stg_rising hwf))

/-! ### Results -/

theorem Counts.workFrame {s t : State} (h : Counts s t) : WorkFrame s t := by
  obtain ⟨r, o, e⟩ := h.moves
  rw [e]
  rfl

/-- Elements of a tensor written: what stands beside the memories, and every register but those of work. -/
theorem elemsPut_frame (s : State) (d a : Nat) (xs : List Nat) : WorkFrame s (s.elemsPut d a xs) ∧ keepsRegs workKeys s (s.elemsPut d a xs) := by
  have hput : ∀ (z : State) (a : Nat) (bs : Bytes), (z.ldPut d a bs).regs = z.regs := fun z a bs => by
    unfold State.ldPut
    split
    · rfl
    · rfl
  have hfold : WorkFrame s ((xs.zipIdx).foldl (fun z (x : Nat × Nat) => z.ldPut d (elemPlace d (elemIndex d (a + x.2))).1 (le (ldWidth d) x.1)) s) ∧
      ((xs.zipIdx).foldl (fun z (x : Nat × Nat) => z.ldPut d (elemPlace d (elemIndex d (a + x.2))).1 (le (ldWidth d) x.1)) s).regs = s.regs :=
    ⟨.foldl _ s fun z x => .ldPut .., List.foldlRecOn (motive := fun (z : State) => z.regs = s.regs) _ _ rfl
      fun z hz x _ => (hput z _ _).trans hz⟩
  obtain ⟨hframe, hregs⟩ := hfold
  have hcount := Counts.touch ((xs.zipIdx).foldl (fun z (x : Nat × Nat) => z.ldPut d (elemPlace d (elemIndex d (a + x.2))).1 (le (ldWidth d) x.1)) s)
    d true (elemSpans d a (a + xs.length))
  exact ⟨hframe.trans hcount.workFrame, (keepsRegs_of_regs (ks := []) hregs).trans hcount.regs (List.nil_subset _) (List.Subset.refl _)⟩

theorem collRead_counts (s : State) (o : Coll) (j : Nat) : Counts s (s.collRead o j) := .foldl _ s fun _ _ => .stgRead ..

theorem settleSlot_moves (s : State) (c st group seq piece : Nat) :
    ∃ l, s.settleSlot c st group seq piece = { s with cle := { s.cle with slots := l } } := by
  unfold State.settleSlot
  split
  · split
    · exact ⟨_, rfl⟩
    · exact ⟨_, rfl⟩
  · exact ⟨_, rfl⟩

theorem collectiveResultWrite_eq {p : PieceSlot} {bs : Bytes}
    (hf : s.collFor c group seq (fun o => o.begun && !o.done && !(o.written.contains j)) = some o) (hsig : o.signal = false)
    (hk : o.kind = 0) (hslot : s.pieceSlot c o.step group seq j false = some p) (hpar : s.collParent o j = none)
    (hpart : s.slotPart p 1 s.node = some bs) (hlast : o.written.length + 1 = o.pieces) : collectiveResultWriteOp c group seq j s =
      (((((s.collRead o j).elemsPut ((s.collRead o j).latched o.ctx o.dstDesc) (o.first j) (pieceElems o.fmt bs)).setColl
        { o with written := o.written ++ [j], done := true }).count (Key.CLE_OPS_DONE c) 1).settleSlot c o.step group seq j).busy 17 none := by
  obtain ⟨hc, hg, hs, -, -, -⟩ := collFor_spec hf
  have hres : s.collResult o j = some bs := by
    unfold State.collResult
    rw [hc, hg, hs, hslot]
    dsimp only
    rw [hpar]
    exact hpart
  have hdone : decide ((o.written ++ [j]).length = ({ o with written := o.written ++ [j] } : Coll).pieces) = true :=
    decide_eq_true ((List.length_append ..).trans hlast)
  obtain ⟨o', ho'⟩ : ∃ o', o' = { o with written := o.written ++ [j], done := true } := ⟨_, rfl⟩
  have hsig' : o'.signal = false := by rw [ho']; exact hsig
  have hput : ∀ z : State, z.collPut o j bs = z.elemsPut (z.latched o.ctx o.dstDesc) (o.first j) (pieceElems o.fmt bs) := fun z => if_pos hk
  have hsignal : ∀ (z : State) (a b d e f : Nat), z.collSignal o' a b d e f = z := fun z a b d e f => if_neg (by rw [hsig']; exact Bool.false_ne_true)
  unfold collectiveResultWriteOp
  rw [hf]
  dsimp only
  rw [if_neg (by rw [hsig]; simp), hres]
  dsimp only
  rw [hdone, if_pos rfl, ← ho', hsignal, hput]
  unfold State.collEnd
  rw [hsignal]

/-- COLLECTIVE_RESULT_WRITE of the last piece at the root (R315, R316, R324). -/
theorem collectiveResultWrite_ends (hl : s.live = true) (hc8 : c < 8) {p : PieceSlot} {bs : Bytes}
    (hf : s.collFor c group seq (fun o => o.begun && !o.done && !(o.written.contains j)) = some o) (hsig : o.signal = false)
    (hk : o.kind = 0) (hslot : s.pieceSlot c o.step group seq j false = some p) (hpar : s.collParent o j = none)
    (hpart : s.slotPart p 1 s.node = some bs) (hlast : o.written.length + 1 = o.pieces) :
    ∃ t, exec (.collectiveResultWrite c group seq j) s = .next t ∧
        t.coll c o.step group seq = some { o with written := o.written ++ [j], done := true } ∧
        t.get (Key.CLE_OPS_DONE c) = satAdd max32 (s.get (Key.CLE_OPS_DONE c)) 1 ∧ t.wins = s.wins ∧ t.ctxs = s.ctxs ∧
        t.queues = s.queues ∧ t.dom = s.dom := by
  obtain ⟨hc, hg, hs, -, -, -⟩ := collFor_spec hf
  have hrun := collectiveResultWrite_eq hf hsig hk hslot hpar hpart hlast
  have hcounts := collRead_counts s o j
  generalize s.collRead o j = z at hrun hcounts
  obtain ⟨hframe, hregs⟩ := elemsPut_frame z (z.latched o.ctx o.dstDesc) (o.first j) (pieceElems o.fmt bs)
  generalize z.elemsPut (z.latched o.ctx o.dstDesc) (o.first j) (pieceElems o.fmt bs) = y at hrun hframe hregs
  have hey := (hcounts.workFrame.trans hframe).eq
  obtain ⟨x, hx⟩ : ∃ x, x = (y.setColl { o with written := o.written ++ [j], done := true }).count (Key.CLE_OPS_DONE c) 1 := ⟨_, rfl⟩
  rw [← hx] at hrun
  obtain ⟨l, el⟩ := settleSlot_moves x c o.step group seq j
  generalize x.settleSlot c o.step group seq j = w at hrun el
  obtain ⟨rt, mt, et⟩ := busy_moves w 17 none
  have hkt := busy_keepsRegs w (d := 17) none (by decide)
  generalize w.busy 17 none = t at hrun et hkt
  have hops : t.cle.ops = (y.setColl { o with written := o.written ++ [j], done := true }).cle.ops := by rw [et, el, hx]; rfl
  have hkey : Key.CLE_OPS_DONE c ∉ workKeys := fun hm => by
    rcases workKeys_range hm with h | h
    · have hall : ∀ k ∈ [Key.NUM_NONFINITE_FIRST, Key.NUM_NONFINITE_COUNT], k < 0x602101 ∨ 0x602109 ≤ k := by decide
      have := hall _ h
      unfold Key.CLE_OPS_DONE at this
      omega
    · unfold Key.CLE_OPS_DONE at h
      omega
  have hget : y.get (Key.CLE_OPS_DONE c) = s.get (Key.CLE_OPS_DONE c) := (hregs _ hkey).trans (hcounts.regs _ hkey)
  have hrest : t.wins = s.wins ∧ t.ctxs = s.ctxs ∧ t.queues = s.queues ∧ t.dom = s.dom := by
    rw [et, el, hx, hey]
    exact ⟨rfl, rfl, rfl, rfl⟩
  refine ⟨t, next_of_act (collectiveResultWriteOp c group seq j) hl hrun, ?_, ?_, hrest⟩
  · rw [coll_def, hops]
    exact coll_of_setColl (o := o) (o' := { o with written := o.written ++ [j], done := true }) hc hg hs rfl
  · rw [hkt _ fun hm => hkey (busyKeys_sub_workKeys hm), el]
    show x.get _ = _
    rw [hx, ← hget]
    exact (get_put_self _ _ _).trans (Nat.mod_eq_of_lt (Nat.lt_of_le_of_lt (Nat.min_le_left ..) (by decide)))

end Up

/-- Settles O47: each phase is its operation's equation, with the operation put found at its key. -/
theorem collectivePhases : Obligations.CollectivePhases := by
  unfold Obligations.CollectivePhases
  intro c group seq s hl hq hc
  exact ⟨fun src dst fmt cap queue signal kind layer hm hn => collective_opens hl hq src dst fmt cap queue signal kind layer hm hn,
    fun o hf ht => collectiveBegin_begins hl hf ht,
    fun o j hf hj hsrc hleft hright hslots hwf => collectiveUpValue_leaf hl hwf hf hj hsrc hleft hright hslots,
    fun o j p bs hf hsig hk hslot hpar hpart hlast => collectiveResultWrite_ends hl hc hf hsig hk hslot hpar hpart hlast,
    fun o hf hsig => collectiveTimeout_aborts hl hq hc hf hsig⟩

end Sys2Proof.Machine

/-! SUPPORT. The closing of digests: the notes of a step, the digest ring, posts that waited (R217 to R224). -/

namespace Sys2Proof.Machine

open Sys2Proof

/-! ### The notes of a step -/

/-- The last of a filtered list, replaced by what a second filter keeps too, is the last of what it keeps of the new list. -/
theorem getLast?_filter_replace {α : Type} [BEq α] [LawfulBEq α] {l : List α} {p q : α → Bool} {a b : α} (h : (l.filter p).getLast? = some a)
    (hq : q b = true) (hp : ∀ x, q x = true → p x = true) :
    ((l.map fun x => if x == a then b else x).filter q).getLast? = some b := by
  have hpa : p a = true := (List.mem_filter.1 (List.mem_of_getLast? h)).2
  have hsub : l.filter (q ∘ fun x => if x == a then b else x) = (l.filter p).filter (q ∘ fun x => if x == a then b else x) := by
    rw [List.filter_filter]
    refine List.filter_congr fun x _ => ?_
    by_cases hx : x = a
    · simp [hx, hpa]
    · by_cases hqx : q x = true
      · simp [hx, hqx, hp x hqx]
      · simp [hx, hqx]
  obtain ⟨i, hi⟩ := List.getLast?_eq_some_iff.1 h
  rw [List.filter_map, hsub, hi, List.filter_append, List.map_append]
  simp [hq]

/-- The notes of a step changed by a function that keeps their step. -/
theorem notes_updAudit {s : State} {c st : Nat} {a : Audit} (f : Audit → Audit) (h : s.notes c st = some a) :
    s.updAudit c st f = { s with audits := s.audits.map fun x => if x == a then f x else x } := by
  unfold State.updAudit
  rw [h]

theorem map_beq_replace {α : Type} [BEq α] [LawfulBEq α] (l : List α) (a : α) (f : α → α) :
    (l.map fun x => if x == a then f x else x) = l.map fun x => if x == a then f a else x :=
  List.map_congr_left fun x _ => by
    by_cases hx : x = a
    · rw [hx]
    · simp [hx]

/-- The notes after a change of them. -/
theorem notes_of_updAudit {s : State} {c st : Nat} {a : Audit} (f : Audit → Audit) (h : s.notes c st = some a)
    (hc : (f a).ctx = c) (hs : (f a).step = st) : (s.updAudit c st f).notes c st = some (f a) := by
  rw [notes_updAudit f h, map_beq_replace]
  exact getLast?_filter_replace h (by simp [hc, hs]) fun _ hx => hx

/-- Notes whose digest a change closes. -/
theorem closedNotes_of_updAudit {s : State} {c st : Nat} {a : Audit} (f : Audit → Audit) (h : s.notes c st = some a)
    (hc : (f a).ctx = c) (hs : (f a).step = st) (hd : (f a).closed = true) : (s.updAudit c st f).closedNotes c st = some (f a) := by
  rw [notes_updAudit f h, map_beq_replace]
  refine getLast?_filter_replace h (by simp [hc, hs, hd]) fun x hx => ?_
  exact (Bool.and_eq_true_iff.1 hx).1

/-! ### Digests -/

/-- A SHA-256 digest takes 32 bytes. -/
theorem sha256_length (bs : Bytes) : (sha256 bs).length = 32 := by
  have hlen : ∀ n hs m, hs.length = 8 → (shaBlocks n hs m).length = 8 := by
    intro n
    induction n with
    | zero => exact fun _ _ h => h
    | succ n ih => exact fun _ _ _ => ih _ _ rfl
  unfold sha256
  rw [List.length_flatMap, show (fun w : Nat => (be32 w).length) = fun _ => 4 from funext fun w => (List.length_reverse ..).trans (le_length ..)]
  rw [List.map_const', List.sum_replicate, hlen _ _ _ rfl, smul_eq_mul]

/-- An entry of the digest ring takes 64 bytes (Table 8.4). -/
theorem ringEntry_length (s : State) (a : Audit) (l t k : Nat) {d : Bytes} (h : d.length = 32) : (s.ringEntry a l t k d).length = 64 := by
  simp [State.ringEntry, le_length, zeros, h]

/-! ### The digest ring -/

/-- The keys of the digest ring of a context, and of the memory ports. -/
def ringKeys (c : Nat) : List Nat := [Key.DRU_RING_HEAD c, Key.DRU_RING_LOST c] ++ memKeys

theorem hostWrite_mem (s : State) (p a : Nat) (bs : Bytes) : (s.hostWrite p a bs).env.mem = Mem.write s.env.mem a bs := rfl

/-- An entry moves registers and host memory (R222). -/
theorem ringWrite_moves (s : State) (c : Nat) (bs : Bytes) : ∃ r v, s.ringWrite c bs = { s with regs := r, env := v } := by
  unfold State.ringWrite
  dsimp only
  split
  · exact ⟨_, _, rfl⟩
  split
  next h => exact ringPut_moves h
  next => exact ⟨_, _, rfl⟩

/-- An entry that fits stands at the ring's head, which moves past it (R222). -/
theorem ringWrite_fits {s : State} {c : Nat} {bs : Bytes} (hn : s.get (Key.DRU_RING_LEN c) ≠ 0)
    (hf : (s.get (Key.DRU_RING_HEAD c) + bs.length) % s.get (Key.DRU_RING_LEN c) ≠ s.get (Key.DRU_RING_TAIL c)) :
    s.ringWrite c bs = (s.hostWrite (s.fetchPort c) (s.get (Key.DRU_RING_BASE c) + s.get (Key.DRU_RING_HEAD c)) bs).put (Key.DRU_RING_HEAD c)
      ((s.get (Key.DRU_RING_HEAD c) + bs.length) % s.get (Key.DRU_RING_LEN c)) := by
  have hp : ringPut s (s.fetchPort c) (s.get (Key.DRU_RING_BASE c)) (s.get (Key.DRU_RING_LEN c)) (Key.DRU_RING_HEAD c) (Key.DRU_RING_TAIL c) bs =
      some ((s.hostWrite (s.fetchPort c) (s.get (Key.DRU_RING_BASE c) + s.get (Key.DRU_RING_HEAD c)) bs).put (Key.DRU_RING_HEAD c)
        ((s.get (Key.DRU_RING_HEAD c) + bs.length) % s.get (Key.DRU_RING_LEN c))) := by
    unfold ringPut
    simp [hn, hf]
  unfold State.ringWrite
  dsimp only
  rw [if_neg hn, hp]

/-- The cycles of one unit counted, with no register else. -/
theorem busy_keepsRegs_own (s : State) (d : Nat) (c : Option Nat) : keepsRegs [Key.UNIT_BUSY (d - 1)] s (s.busy d c) := by
  have hput : keepsRegs [Key.UNIT_BUSY (d - 1)] s (s.fresh.count64 (Key.UNIT_BUSY (d - 1)) (Config.busyCycles s.fresh.free d)) :=
    (keepsRegs_of_regs (ks := []) rfl).trans (keepsRegs_put s.fresh _ _) (List.nil_subset _) (List.Subset.refl _)
  unfold State.busy
  cases c with
  | none => exact hput
  | some c =>
    dsimp only
    split
    · exact hput
    · exact hput

/-! ### Tile digests -/

/-- A tile digest set among the notes of its step. -/
def Audit.withTile (a : Audit) (layer kind tile : Nat) (d : Bytes) : Audit := { a with tiles := a.tiles ++ [(layer, kind, tile, d)] }

/-- What AUDIT asks for a closed tile digest in the ring (R221). -/
def State.tileEntered (s : State) (c layer kind tile : Nat) (a : Audit) (d : Bytes) : State :=
  match s.audit c with
  | 1 => s.ringWrite c (s.ringEntry a layer tile kind d)
  | 2 => s.ringWrite c (s.ringEntry a layer tile (3 + kind) (zeros 32))
  | _ => s

theorem tileEntered_moves (s : State) (c layer kind tile : Nat) (a : Audit) (d : Bytes) :
    ∃ r v, s.tileEntered c layer kind tile a d = { s with regs := r, env := v } := by
  unfold State.tileEntered
  split
  · exact ringWrite_moves ..
  · exact ringWrite_moves ..
  · exact ⟨_, _, rfl⟩

theorem tileDigestCloseOp_eq {c layer kind tile : Nat} {s : State} {a : Audit} {crcs : List Nat}
    (ha : s.audits.find? (fun (x : Audit) => x.ctx == c && x.closable.contains (layer, kind, tile) &&
        !(x.tiles.any (fun (y : Nat × Nat × Nat × Bytes) => y.1 == layer && y.2.1 == kind && y.2.2.1 == tile)) &&
        x.folds.any (fun (f : Nat × Nat) => f.1 == layer)) = some a)
    (hk : (s.combOf c a.step layer tile kind).bind s.combCrcs = some crcs) :
    tileDigestCloseOp c layer kind tile s =
      ((s.updAudit c a.step fun x => x.withTile layer kind tile (sha256 (s.tileMessage a layer kind tile (crc64 (crcs.flatMap (le 4)))))).tileEntered
        c layer kind tile a (sha256 (s.tileMessage a layer kind tile (crc64 (crcs.flatMap (le 4)))))).busy 21 (some c) := by
  unfold tileDigestCloseOp
  dsimp only
  rw [ha]
  dsimp only
  rw [hk]
  rfl

theorem ringLen_lt (s : State) (c n : Nat) (h : s.get (Key.DRU_RING_LEN c) ≠ 0) : n % s.get (Key.DRU_RING_LEN c) < 2 ^ 64 :=
  (Nat.mod_lt _ (Nat.pos_of_ne_zero h)).trans (get_lt ..)

/-- A tile digest that is entered stands in the ring before its new head. -/
theorem tileEntered_ring {s : State} {c layer kind tile : Nat} {a : Audit} {d : Bytes} (hd : d.length = 32) (hu : s.audit c = 1)
    (hn : s.get (Key.DRU_RING_LEN c) ≠ 0)
    (hf : (s.get (Key.DRU_RING_HEAD c) + 64) % s.get (Key.DRU_RING_LEN c) ≠ s.get (Key.DRU_RING_TAIL c)) :
    (s.tileEntered c layer kind tile a d).get (Key.DRU_RING_HEAD c) = (s.get (Key.DRU_RING_HEAD c) + 64) % s.get (Key.DRU_RING_LEN c) ∧
      keepsBytes (s.get (Key.DRU_RING_BASE c) + s.get (Key.DRU_RING_HEAD c)) 64 s.env.mem (s.tileEntered c layer kind tile a d).env.mem := by
  have hlen : (s.ringEntry a layer tile kind d).length = 64 := ringEntry_length s a layer tile kind hd
  have hb := keepsBytes_write s.env.mem (s.get (Key.DRU_RING_BASE c) + s.get (Key.DRU_RING_HEAD c)) (s.ringEntry a layer tile kind d)
  have he : s.tileEntered c layer kind tile a d = s.ringWrite c (s.ringEntry a layer tile kind d) := by
    simp only [State.tileEntered, hu]
  rw [hlen] at hb
  rw [he, ringWrite_fits hn (by rw [hlen]; exact hf), get_put_self, hlen, Nat.mod_eq_of_lt (ringLen_lt s c _ hn)]
  exact ⟨rfl, hb⟩

/-- TILE_DIGEST_CLOSE (R218, R219, R221). -/
theorem tileDigestClose_next {c layer kind tile : Nat} {s : State} {a : Audit} {crcs : List Nat} (hl : s.live = true) (hc : c < 8)
    (hn : s.notes c a.step = some a) (hac : a.ctx = c)
    (ha : s.audits.find? (fun (x : Audit) => x.ctx == c && x.closable.contains (layer, kind, tile) &&
        !(x.tiles.any (fun (y : Nat × Nat × Nat × Bytes) => y.1 == layer && y.2.1 == kind && y.2.2.1 == tile)) &&
        x.folds.any (fun (f : Nat × Nat) => f.1 == layer)) = some a)
    (hk : (s.combOf c a.step layer tile kind).bind s.combCrcs = some crcs) :
    ∃ t d, exec (.tileDigestClose c layer kind tile) s = .next t ∧
      d = sha256 (s.tileMessage a layer kind tile (crc64 (crcs.flatMap (le 4)))) ∧
      t.notes c a.step = some { a with tiles := a.tiles ++ [(layer, kind, tile, d)] } ∧
      (s.audit c = 0 → t.env = s.env ∧ keepsRegs [Key.UNIT_BUSY 20] s t) ∧
      (s.audit c = 1 → s.get (Key.DRU_RING_LEN c) ≠ 0 →
        (s.get (Key.DRU_RING_HEAD c) + 64) % s.get (Key.DRU_RING_LEN c) ≠ s.get (Key.DRU_RING_TAIL c) →
        t.get (Key.DRU_RING_HEAD c) = (s.get (Key.DRU_RING_HEAD c) + 64) % s.get (Key.DRU_RING_LEN c) ∧
        keepsBytes (s.get (Key.DRU_RING_BASE c) + s.get (Key.DRU_RING_HEAD c)) 64 s.env.mem t.env.mem) ∧
      t = { s with audits := t.audits, env := t.env, regs := t.regs, meter := t.meter, free := t.free } := by
  obtain ⟨d, hd⟩ : ∃ d, d = sha256 (s.tileMessage a layer kind tile (crc64 (crcs.flatMap (le 4)))) := ⟨_, rfl⟩
  have hd32 : d.length = 32 := hd ▸ sha256_length _
  have hrun := tileDigestCloseOp_eq (s := s.fresh) ha hk
  rw [show s.fresh.tileMessage a layer kind tile (crc64 (crcs.flatMap (le 4))) = s.tileMessage a layer kind tile (crc64 (crcs.flatMap (le 4)))
    from rfl, ← hd] at hrun
  have hnotes := notes_of_updAudit (s := s.fresh) (fun x => x.withTile layer kind tile d) hn hac rfl
  have hupd := notes_updAudit (s := s.fresh) (fun x => x.withTile layer kind tile d) hn
  generalize s.fresh.updAudit c a.step _ = u at hrun hnotes hupd
  obtain ⟨v, hv⟩ : ∃ v, v = u.tileEntered c layer kind tile a d := ⟨_, rfl⟩
  obtain ⟨r, e, hmv⟩ := tileEntered_moves u c layer kind tile a d
  obtain ⟨r', m, hb⟩ := busy_moves v 21 (some c)
  have hown := busy_keepsRegs_own v 21 (some c)
  rw [← hv] at hrun hmv
  have hregs : u.regs = s.regs := by rw [hupd]; rfl
  have henv : u.env = s.env := by rw [hupd]; rfl
  refine ⟨_, d, next_of_actFresh (tileDigestCloseOp c layer kind tile) hl hrun, hd, ?_, fun h0 => ?_, fun h1 hlen hfit => ?_, ?_⟩
  · rw [hb, hmv]
    exact hnotes
  · have hvu : v = u := by
      simp only [hv, State.tileEntered, show u.audit c = 0 by rw [hupd]; exact h0]
    refine ⟨by rw [hb, hvu]; exact henv, ?_⟩
    exact (keepsRegs_of_regs (ks := []) (by rw [hvu, hregs])).trans hown (List.nil_subset _) (List.Subset.refl _)
  · have hget : ∀ k, u.get k = s.get k := fun k => by rw [hupd]; rfl
    have hring := tileEntered_ring (s := u) (layer := layer) (kind := kind) (tile := tile) (a := a) hd32
      (show u.audit c = 1 by rw [hupd]; exact h1) (by rw [hget]; exact hlen) (by rw [hget, hget, hget]; exact hfit)
    rw [hget, hget, hget, henv, ← hv] at hring
    refine ⟨(hown _ ?_).trans hring.1, by rw [hb]; exact hring.2⟩
    simp only [List.mem_singleton, Key.DRU_RING_HEAD, Key.UNIT_BUSY]
    omega
  · rw [hb, hmv, hupd]
    rfl

end Sys2Proof.Machine

/-! SUPPORT. The closing of a step's digest, and what the requests of the Fabric Endpoint leave of the dictionary's bytes (R220 to R224,
R342 to R354). -/

namespace Sys2Proof.Machine

open Sys2Proof

/-! ### The dictionary's bytes under the endpoint's requests -/

namespace DomFrame
variable {ks : List Nat}

theorem of_counts {s t : State} (h : Counts s t) : DomFrame ks s t := by
  obtain ⟨⟨r, o, e⟩, _⟩ := h
  exact of_dom (by rw [e])

/-- Past a change of the endpoint's own part. -/
theorem of_fep {s t : State} {f : Fep} (h : DomFrame ks { s with fep := f } t) : DomFrame ks s t := ⟨h.canon, h.bytes⟩

theorem fepRead (s : State) (h : Bool) (p a n : Nat) : DomFrame ks s (s.fepRead h p a n) := by
  cases h
  · exact of_counts (.stgRead ..)
  · exact of_dom rfl

theorem fepWrite (s : State) (h : Bool) (p a : Nat) (bs : Bytes) : DomFrame ks s (s.fepWrite h p a bs) := by
  cases h
  · exact (of_counts (.bankTouch ..)).trans (of_dom rfl)
  · exact of_dom rfl

theorem fepOwe (s : State) (f : Option Nat) (r : Bool) (n : Nat) : DomFrame ks s (s.fepOwe f r n) := by
  cases f <;> exact of_dom rfl

theorem fepPut (s : State) (m : Msg) : DomFrame ks s (s.fepPut m) := by
  unfold State.fepPut
  split
  · exact of_dom rfl
  · exact ite (of_dom rfl) (of_dom rfl)

theorem fepReply (s : State) (r : Msg) : DomFrame ks s (s.fepReply r) := ite (of_dom rfl) (fepPut ..)

theorem fepRepeat (s : State) (m : Msg) : DomFrame ks s (s.fepRepeat m) := by
  unfold State.fepRepeat
  split
  · split
    · exact fepReply ..
    · exact refl s
  · exact fepReply ..

theorem setFepNext (s : State) (a n : Nat) : DomFrame ks s (s.setFepNext a n) :=
  of_fep (foldl _ _ fun _ _ _ => fepRepeat ..)

theorem fepEnter (s : State) (m : Msg) (hk : noticeDoms ⊆ ks) : DomFrame ks s (s.fepEnter m) := by
  unfold State.fepEnter
  dsimp only
  refine ite (of_dom rfl) ?_
  generalize hu : (if m.sync then _ else _ : State) = u
  have hu : DomFrame ks s u := hu ▸ ite (of_fep (setFepNext ..)) (of_dom rfl)
  refine hu.trans (ite (log u hk (show Ec.seq < 256 by decide)) (ite (fepRepeat ..) (trans (ite (setFepNext ..) (refl u)) (of_fep (refl _)))))

theorem fepTake (s : State) (f : Option Nat) (m : Msg) (hk : noticeDoms ⊆ ks) : DomFrame ks s (s.fepTake f m) :=
  ite (of_dom rfl) ((fepOwe ..).trans (fepEnter _ m hk))

theorem fepOut (s : State) (m : Msg) (hk : noticeDoms ⊆ ks) : DomFrame ks s (s.fepOut m) :=
  ite ((fepTake s none m hk).trans (of_dom rfl)) (fepPut ..)

theorem fepSend (s : State) (r : Req) (hk : noticeDoms ⊆ ks) : DomFrame ks s (s.fepSend r) := of_fep (fepOut _ _ hk)

theorem fepNotice (s : State) (x : Started) (hk : noticeDoms ⊆ ks) : DomFrame ks s (s.fepNotice x) :=
  ite (of_fep (post _ _ _ _ hk ((Nat.mod_lt _ (by decide)).trans (show 2 ^ 9 < 4096 by decide)))) (of_dom rfl)

theorem setStarted (s : State) (x : Started) (hk : noticeDoms ⊆ ks) : DomFrame ks s (s.setStarted x) := ite (fepNotice s x hk) (of_dom rfl)

theorem fepBegin (s : State) (q : Nat) (r : List Nat) (hk : noticeDoms ⊆ ks) : DomFrame ks s (s.fepBegin q r) :=
  ite (of_dom rfl) (of_fep (of_fep (setStarted _ _ hk)))

theorem fepStep {s t : State} (h : s.fepStep = some t) (hk : noticeDoms ⊆ ks) : DomFrame ks s t := by
  unfold State.fepStep at h
  split at h
  · cases h
    exact of_fep (fepSend _ _ hk)
  · split at h
    · split at h
      · cases h
      · dsimp only at h
        split at h
        · cases h
          exact (fepWrite ..).trans (setStarted _ _ hk)
        · split at h
          · cases h
            refine trans ?_ ((setStarted _ _ hk).trans (fepSend _ _ hk))
            exact ite (trans (t := s.fresh) (of_dom rfl) (fepRead ..)) (of_dom rfl)
          · cases h
    · cases h
      exact fepBegin _ _ _ hk
    · cases h

theorem fepIssue (n : Nat) (s : State) (hk : noticeDoms ⊆ ks) : DomFrame ks s (State.fepIssue n s) := by
  induction n generalizing s with
  | zero => exact refl s
  | succ n ih =>
    unfold State.fepIssue
    split
    next t h => exact (fepStep h hk).trans (ih t)
    next => exact refl s

theorem fepAsk (s : State) (r : Req) (hk : noticeDoms ⊆ ks) : DomFrame ks s (s.fepAsk r) := of_fep (fepIssue _ _ hk)

theorem ringWrite (s : State) (c : Nat) (bs : Bytes) : DomFrame ks s (s.ringWrite c bs) := by
  obtain ⟨r, v, e⟩ := ringWrite_moves s c bs
  rw [e]
  exact of_dom rfl

end DomFrame

theorem fepAsk_beyondFep (s : State) (r : Req) : (s.fepAsk r).beyondFep = s.beyondFep := (fepIssue_beyondFep ..).trans (fep_beyondFep ..)

/-! ### The step digest -/

/-- A digest closed among the notes of its step. -/
def Audit.withDigest (a : Audit) (d : Bytes) : Audit := { a with digest := d, closed := true }

/-- What follows a closed step digest but for the posts that waited: the logs, the ring, the comparison (R221, R223). -/
def State.digestEntered (s : State) (c st : Nat) (a : Audit) (d : Bytes) : State :=
  let s := s.rpl 0x0A (some c) a.attempt true st (unle (d.take 8))
  let s := if s.audit c = 0 then s else s.ringWrite c (s.ringEntry a 0 0 2 d)
  let e := s.domBytes (Dom.DRU_EXPECT c) 0 40
  if u e 0 8 = st && e.drop 8 != d then s.log { cls := Ec.divergence, det := 0x10, dom := 21, ctx := some c, step := some st } else s

theorem digestEntered_still (s : State) (c st : Nat) (a : Audit) (d : Bytes) : (s.digestEntered c st a d).still = s.still := by
  unfold State.digestEntered
  dsimp only
  have hr := rpl_still s 0x0A (some c) a.attempt true st (unle (d.take 8))
  generalize s.rpl 0x0A (some c) a.attempt true st (unle (d.take 8)) = u at hr
  have hw : (if u.audit c = 0 then u else u.ringWrite c (u.ringEntry a 0 0 2 d)).still = s.still := by
    refine ite_still hr ?_
    obtain ⟨r, v, e⟩ := ringWrite_moves u c (u.ringEntry a 0 0 2 d)
    rw [e]
    exact hr
  exact ite_still ((log_still ..).trans hw) hw

/-! Posts that wait stay waiting while events are logged. -/

theorem ite_waiting {c : Prop} [Decidable c] {a b : State} {l : List LatePost} (ha : a.dru.waiting = l) (hb : b.dru.waiting = l) :
    (if c then a else b).dru.waiting = l := by
  split
  · exact ha
  · exact hb

theorem rpl_waiting (s : State) (k : Nat) (c : Option Nat) (a : Nat) (b : Bool) (x y : Nat) :
    (s.rpl k c a b x y).dru.waiting = s.dru.waiting := by
  unfold State.rpl
  exact ite_waiting (ite_waiting (a := s) (b := s.count Key.RPL_LOST 1) rfl rfl) rfl

theorem trace_waiting (s : State) (k : Nat) (c : Option Nat) (a : Nat) (p : Option Nat) (x y : Nat) :
    (s.trace k c a p x y).dru.waiting = s.dru.waiting := by
  unfold State.trace
  exact ite_waiting (ite_waiting (a := s) (b := s.count Key.TRC_LOST 1) rfl rfl) rfl

theorem evCount_waiting (s : State) (e : Ev) : (s.evCount e).dru.waiting = s.dru.waiting := by
  obtain ⟨r, d, f, h⟩ := evCount_moves s e
  rw [h]

theorem log_waiting (s : State) (e : Ev) : (s.log e).dru.waiting = s.dru.waiting := by
  show (s.logOne e).dru.waiting = s.dru.waiting
  unfold State.logOne
  dsimp only
  rw [trace_waiting, rpl_waiting, evCount_waiting]
  exact ite_waiting (a := s.domPut Dom.FLT_FIRST 0 (s.faultRecord e)) (b := s) rfl rfl

theorem ringWrite_waiting (s : State) (c : Nat) (bs : Bytes) : (s.ringWrite c bs).dru.waiting = s.dru.waiting := by
  obtain ⟨r, v, e⟩ := ringWrite_moves s c bs
  rw [e]

theorem digestEntered_waiting (s : State) (c st : Nat) (a : Audit) (d : Bytes) : (s.digestEntered c st a d).dru.waiting = s.dru.waiting := by
  unfold State.digestEntered
  dsimp only
  have hr := rpl_waiting s 0x0A (some c) a.attempt true st (unle (d.take 8))
  generalize s.rpl 0x0A (some c) a.attempt true st (unle (d.take 8)) = u at hr
  have hw : (if u.audit c = 0 then u else u.ringWrite c (u.ringEntry a 0 0 2 d)).dru.waiting = s.dru.waiting := by
    split
    · exact hr
    · exact (ringWrite_waiting ..).trans hr
  generalize (if u.audit c = 0 then u else u.ringWrite c (u.ringEntry a 0 0 2 d)) = v at hw
  split
  · exact (log_waiting ..).trans hw
  · exact hw

theorem digestEntered_domFrame (s : State) (c st : Nat) (a : Audit) (d : Bytes) : DomFrame noticeDoms s (s.digestEntered c st a d) := by
  unfold State.digestEntered
  dsimp only
  refine (DomFrame.rpl s 0x0A (some c) a.attempt true st (unle (d.take 8))).trans ?_
  generalize s.rpl 0x0A (some c) a.attempt true st (unle (d.take 8)) = u
  have hw : DomFrame noticeDoms u (if u.audit c = 0 then u else u.ringWrite c (u.ringEntry a 0 0 2 d)) := .ite (.refl u) (.ringWrite ..)
  exact hw.trans (.ite (.log _ (List.Subset.refl _) (show Ec.divergence < 256 by decide)) (.refl _))

/-- Posts of a step that waited for its digest go out (R224). -/
def State.postsOut (s : State) (c st : Nat) (b : Audit) : State :=
  let mine (p : LatePost) : Bool := p.ctx == c && p.step == st
  (s.dru.waiting.filter mine).foldl (fun s (p : LatePost) => s.sendPost b p.checker p.check p.replica p.last)
    { s with dru := { s.dru with waiting := s.dru.waiting.filter (fun (p : LatePost) => !(mine p)) } }

theorem postsOut_beyondFep (s : State) (c st : Nat) (b : Audit) : (s.postsOut c st b).beyondFep = s.beyondFep :=
  (foldl_beyondFep _ _ fun _ _ => fepAsk_beyondFep ..).trans rfl

theorem postsOut_domFrame (s : State) (c st : Nat) (b : Audit) : DomFrame noticeDoms s (s.postsOut c st b) :=
  (DomFrame.dru ..).trans (.foldl _ _ fun _ _ _ => .fepAsk _ _ (List.Subset.refl _))

theorem postsOut_stg {s : State} {c st : Nat} {b : Audit} (h : s.dru.waiting = []) : (s.postsOut c st b).stg = s.stg := by
  unfold State.postsOut
  simp only [h]
  rfl

theorem stepDigestCloseOp_eq {c st : Nat} {s : State} {a : Audit} {folds : List (Nat × Nat)} (hn : s.notes c st = some a) (hac : a.ctx = c)
    (hst : a.step = st) (hf : s.delivFolds a (s.planNow c) = some folds) (hd : a.closed = false)
    (ht : ∀ x, x ∈ digestTiles (s.planNow c) → ∃ y, y ∈ a.tiles ∧ y.1 = x.1 ∧ y.2.1 = x.2.1 ∧ y.2.2.1 = x.2.2)
    (hl : s.layers c ≤ a.folds.length) (hp : s.holdsPart c = true) :
    stepDigestCloseOp c st s =
      ((((s.updAudit c st fun x => x.withDigest (sha256 (s.stepMessage a folds))).domPut (Dom.DRU_STEP_DIGEST c) 0
        (le 8 st ++ sha256 (s.stepMessage a folds))).digestEntered c st a (sha256 (s.stepMessage a folds))).postsOut c st
          (a.withDigest (sha256 (s.stepMessage a folds)))).busy 21 (some c) := by
  have htiles : ((digestTiles (s.planNow c)).all fun t => a.tiles.any fun x => x.1 == t.1 && x.2.1 == t.2.1 && x.2.2.1 == t.2.2) = true := by
    refine List.all_eq_true.2 fun x hx => ?_
    obtain ⟨y, hy, h1, h2, h3⟩ := ht x hx
    exact List.any_eq_true.2 ⟨y, hy, by simp [h1, h2, h3]⟩
  have hguard : (a.closed || !((digestTiles (s.planNow c)).all fun t => a.tiles.any fun x => x.1 == t.1 && x.2.1 == t.2.1 && x.2.2.1 == t.2.2) ||
      !(decide (s.layers c ≤ a.folds.length)) || !(s.holdsPart c)) = false := by
    rw [hd, htiles, hp, decide_eq_true hl]
    rfl
  obtain ⟨d, hdd⟩ : ∃ d, d = sha256 (s.stepMessage a folds) := ⟨_, rfl⟩
  unfold stepDigestCloseOp
  rw [hn]
  dsimp only
  rw [hf]
  dsimp only
  rw [if_neg (by rw [hguard]; exact Bool.false_ne_true), ← hdd]
  have hnotes := closedNotes_of_updAudit (s := s) (fun x => x.withDigest d) hn hac hst rfl
  have hstill := digestEntered_still ((s.updAudit c st fun x => x.withDigest d).domPut (Dom.DRU_STEP_DIGEST c) 0 (le 8 st ++ d)) c st a d
  obtain ⟨v, hv⟩ : ∃ v, v = ((s.updAudit c st fun x => x.withDigest d).domPut (Dom.DRU_STEP_DIGEST c) 0 (le 8 st ++ d)).digestEntered c st a d :=
    ⟨_, rfl⟩
  rw [← hv] at hstill
  have hau : v.audits = (s.updAudit c st fun x => x.withDigest d).audits := (congrArg State.audits hstill :)
  have hcl : ({ v with dru := { v.dru with waiting := v.dru.waiting.filter fun p => !(p.ctx == c && p.step == st) } } : State).closedNotes c st =
      some (a.withDigest d) := by
    rw [← hnotes]
    unfold State.closedNotes
    rw [show ({ v with dru := { v.dru with waiting := v.dru.waiting.filter fun p => !(p.ctx == c && p.step == st) } } : State).audits =
      (s.updAudit c st fun x => x.withDigest d).audits from hau]
  rw [← hv]
  unfold State.digestEntered at hv
  dsimp only at hv
  unfold Audit.withDigest at hv hcl
  rw [← hv]
  rw [hcl]
  rfl

/-- STEP_DIGEST_CLOSE (R220 to R224). -/
theorem stepDigestClose_next {c : Nat} {s : State} {a : Audit} {folds : List (Nat × Nat)} (hl : s.live = true) (hc : c < 8)
    (hn : s.notes c a.step = some a) (hac : a.ctx = c) (hm : Memory.wf s = true)
    (hf : s.fresh.delivFolds a (s.fresh.planNow c) = some folds) (hd : a.closed = false)
    (ht : ∀ x, x ∈ digestTiles (s.fresh.planNow c) → ∃ y, y ∈ a.tiles ∧ y.1 = x.1 ∧ y.2.1 = x.2.1 ∧ y.2.2.1 = x.2.2)
    (hly : s.layers c ≤ a.folds.length) (hp : s.holdsPart c = true) :
    ∃ t d, exec (.stepDigestClose c a.step) s = .next t ∧ d = sha256 (s.stepMessage a folds) ∧
      t.closedNotes c a.step = some { a with digest := d, closed := true } ∧
      t.domBytes (Dom.DRU_STEP_DIGEST c) 0 40 = le 8 a.step ++ d ∧ t.wins = s.wins ∧ t.ctxs = s.ctxs ∧
      (s.dru.waiting = [] → t.stg = s.stg) := by
  obtain ⟨d, hdd⟩ : ∃ d, d = sha256 (s.stepMessage a folds) := ⟨_, rfl⟩
  have hlen : (le 8 a.step ++ d).length = 40 := by rw [List.length_append, le_length, hdd, sha256_length]
  have hrun := stepDigestCloseOp_eq (s := s.fresh) hn hac rfl hf hd ht hly hp
  rw [show s.fresh.stepMessage a folds = s.stepMessage a folds from rfl, ← hdd] at hrun
  have hcl := closedNotes_of_updAudit (s := s.fresh) (fun x => x.withDigest d) hn hac rfl rfl
  have hupd := notes_updAudit (s := s.fresh) (fun x => x.withDigest d) hn
  generalize s.fresh.updAudit c a.step _ = u at hrun hcl hupd
  have hcanon : Sparse.canonical domDefault u.dom = true := by
    rw [hupd]
    exact dom_canonical hm
  have hself := domBytes_domPut_self hcanon (Dom.DRU_STEP_DIGEST c) 0 (le 8 a.step ++ d)
  obtain ⟨v, hv⟩ : ∃ v, v = u.domPut (Dom.DRU_STEP_DIGEST c) 0 (le 8 a.step ++ d) := ⟨_, rfl⟩
  have hvc : Sparse.canonical domDefault v.dom = true := hv ▸ writeDflt_canonical _ _ _ _ hcanon
  rw [hlen, ← hv] at hself
  rw [← hv] at hrun
  obtain ⟨w, hw⟩ : ∃ w, w = v.digestEntered c a.step a d := ⟨_, rfl⟩
  have hwv : w.still = v.still := hw ▸ digestEntered_still ..
  have hwd : DomFrame noticeDoms v w := hw ▸ digestEntered_domFrame ..
  rw [← hw] at hrun
  have hxf := postsOut_beyondFep w c a.step (a.withDigest d)
  have hxd := postsOut_domFrame w c a.step (a.withDigest d)
  have hxs : w.dru.waiting = [] → (w.postsOut c a.step (a.withDigest d)).stg = w.stg := postsOut_stg
  generalize w.postsOut c a.step (a.withDigest d) = x at hrun hxf hxd hxs
  obtain ⟨r, m, hb⟩ := busy_moves x 21 (some c)
  rw [hb] at hrun
  have hxu : x.beyondFep = u.beyondFep := hxf.trans ((beyondFep_of_still hwv).trans (by rw [hv]; rfl))
  have hau : x.audits = u.audits := (congrArg State.audits hxu :)
  have hwin : x.wins = u.wins := (congrArg State.wins hxu :)
  have hctx : x.ctxs = u.ctxs := (congrArg State.ctxs hxu :)
  have hstg : w.stg = v.stg := (congrArg State.stg hwv :)
  have hwait : w.dru.waiting = v.dru.waiting := hw ▸ digestEntered_waiting ..
  refine ⟨_, d, next_of_actFresh (stepDigestCloseOp c a.step) hl hrun, hdd, ?_, ?_, ?_, ?_, fun h0 => ?_⟩
  · refine Eq.trans ?_ hcl
    exact congrArg (fun l : List Audit => (l.filter fun y => y.ctx == c && y.step == a.step && y.closed).getLast?) hau
  · rw [← hself]
    refine (hwd.trans hxd).domBytes hvc (fun h => ?_) (by decide)
    have hlt : ∀ k ∈ noticeDoms, k < 0x780601 ∨ 0x780700 < k := by decide
    have := hlt _ h
    unfold Dom.DRU_STEP_DIGEST at this
    omega
  · exact hwin.trans (by rw [hupd]; rfl)
  · exact hctx.trans (by rw [hupd]; rfl)
  · have hw0 : w.dru.waiting = [] := by rw [hwait, hv, hupd]; exact h0
    exact (hxs hw0).trans (hstg.trans (by rw [hv, hupd]; rfl))

/-- Settles O48: tile and step digests close. -/
theorem digestsClose : Obligations.DigestsClose := by
  intro c s a hl _ hc hn hac
  exact ⟨fun _ _ _ _ ha hk => tileDigestClose_next hl hc hn hac ha hk,
    fun _ hm hf hd ht hly hp => stepDigestClose_next hl hc hn hac hm hf hd ht hly hp⟩

end Sys2Proof.Machine

/-! SUPPORT. A digest post beside waiting requests, one of them of no context (R224, R338, R351). -/

namespace Sys2Proof.Machine

open Sys2Proof

/-- The program of a frame with one DIGEST_POST at tick 0. -/
def postProgram : Prog :=
  { frame := 0, k := 0, src := { frame := 0, len := 352, off := 0, crc := 0 },
    bytes := some (zeros 320 ++ le 32 (0x08 <<< 248 ||| postFields 6 3 15 1)), dropped := false }

/-- A request that waits: to node 5, which no route reaches, with a context number whose FEP_UNROUTED has the place of RPL_STATE. -/
def strayReq : Req := { msg := { kind := 1, dst := 5, ctx := 0x17E806 }, asker := .post, credit := none }

/-- A store to the own node that waits behind it. -/
def ownStore : Req := { msg := { kind := 2, dst := 0 }, asker := .post, credit := none }

/-- A store to the own node that is outstanding since the stream's first number. -/
def oldStore : Req := { msg := { kind := 2, dst := 0, tag := 1023 }, asker := .post, credit := none }

/-- An engine at a DIGEST_POST of context 0, with the digest of the step before closed, beside those requests. -/
def besideStray : State :=
  { ((State.reset.put (Key.TT_STATE 0) 4).put (Key.TT_STEP 0) 7).put (Key.TT_FIRST_STEP 0) 6 with
    ctxs := { image := some degradable, progs := [postProgram] } :: List.replicate 7 {}
    audits := [{ ctx := 0, step := 6, attempt := 0, closed := true }]
    fep := { wait := [strayReq, ownStore], reqs := [oldStore], streams := [(0, 100)] } }

/-- The post sends the stray first, whose count starts the replay log; the store's window error is then recorded. -/
theorem digestPost_besideStray : (digestPostOp 0 6 3 15 1 besideStray).dru.rplBuf.ents.length = 1 := by decide +kernel

theorem besideStray_live : besideStray.live = true := by decide +kernel

/-- Refutes O49: a DIGEST_POST lets every waiting request go, and one that names no context and finds no route counts FEP_UNROUTED in the
place of RPL_STATE; the replay log then runs, and the window error of a store to the own node is recorded in it, so the Determinism and
Replay Unit does not stand. -/
theorem not_postsChecked : ¬ Obligations.PostsChecked := by
  unfold Obligations.PostsChecked
  intro h
  have hquiet : quiet besideStray = true := by decide +kernel
  have hmay : besideStray.mayIssue 0 0x08 (postFields 6 3 15 1) = true := by decide +kernel
  have hstep : besideStray.step 0 ≠ besideStray.get (Key.TT_FIRST_STEP 0) := by decide +kernel
  have hnotes : besideStray.closedNotes 0 ((besideStray.step 0 + 2 ^ 48 - 1) % 2 ^ 48) =
      some { ctx := 0, step := 6, attempt := 0, closed := true } := by decide +kernel
  obtain ⟨-, hpost⟩ := (h 0 besideStray besideStray_live hquiet).1 6 3 15 1 hmay rfl rfl
  obtain ⟨t, r, ht, -, -, -, -, -, -, -, -, -, -, hdru, -⟩ := hpost _ hstep hnotes
  have hrun : exec (.digestPost 0 6 3 15 1) besideStray = .next (digestPostOp 0 6 3 15 1 besideStray) :=
    next_of_act (digestPostOp 0 6 3 15 1) besideStray_live rfl
  obtain rfl : digestPostOp 0 6 3 15 1 besideStray = t := by
    rw [hrun] at ht
    exact Host.Outcome.next.inj ht
  have hempty : besideStray.dru.rplBuf.ents.length = 0 := rfl
  rw [← hdru, digestPost_besideStray] at hempty
  exact absurd hempty (by decide)

end Sys2Proof.Machine

/-! SUPPORT. Requests of the Fabric Endpoint that end: replies, retries, timeouts and the replay table (R345, R346, R352). -/

namespace Sys2Proof.Machine

open Sys2Proof

/-- Nothing waits for the endpoint, and it works on no entry. -/
def Fep.idle (f : Fep) : Prop := f.wait = [] ∧ f.run = [] ∧ f.starts = []

/-- An idle endpoint issues nothing (R351). -/
theorem fepIssue_idle (n : Nat) {s : State} (h : s.fep.idle) : State.fepIssue n s = s := by
  obtain ⟨hw, hr, hs⟩ := h
  have hstep : s.fepStep = none := by
    unfold State.fepStep
    simp only [hw, hr, hs, List.find?_nil]
  cases n with
  | zero => rfl
  | succ n =>
    unfold State.fepIssue
    simp only [hstep]

/-- The outstanding table without the requests of a TAG. -/
def Fep.without (f : Fep) (tag : Nat) : Fep := { f with reqs := f.reqs.filter (fun (x : Req) => x.msg.tag != tag) }

/-- A residency read's answer is noted with its layer, or counted (R162). -/
theorem residencyAnswer_moves (s : State) (c st layer : Nat) (w : Option Nat) :
    (∃ r l, s.residencyAnswer c st layer w = { s with regs := r, layerGrads := l }) ∧
      keepsRegs [Key.BWD_STATE_WAIT c] s (s.residencyAnswer c st layer w) := by
  have hcount : (∃ r l, s.count (Key.BWD_STATE_WAIT c) 1 = { s with regs := r, layerGrads := l }) ∧
      keepsRegs [Key.BWD_STATE_WAIT c] s (s.count (Key.BWD_STATE_WAIT c) 1) := ⟨⟨_, _, rfl⟩, keepsRegs_put s _ _⟩
  have hsame : (∃ r l, s = { s with regs := r, layerGrads := l }) ∧ keepsRegs [Key.BWD_STATE_WAIT c] s s := ⟨⟨_, _, rfl⟩, .refl s⟩
  unfold State.residencyAnswer
  extract_lets yes
  by_cases hy : (!yes) = true
  · rw [if_pos hy]
    exact hcount
  · rw [if_neg hy]
    split
    · split
      · exact hsame
      · exact ⟨⟨_, _, rfl⟩, keepsRegs_of_regs rfl⟩
    · exact hsame

/-- What asked for a request learns that it has ended (R352). -/
def State.fepTold (s : State) (r : Req) (status old : Nat) (data : Bytes) : State :=
  match r.asker with
  | .entry n => match s.fep.run.find? (fun (x : Started) => x.run == n) with
    | some x => s.fepEntryEnd x r.msg status old data
    | none => s
  | .post => s
  | .checker c k st i p =>
    let l : CheckLoad := { ctx := c, check := k, step := st, replica := i, part := p, data := if status = 0 then data else [] }
    { s with dru := { s.dru with loads := s.dru.loads ++ [l] } }
  | .residency st layer => s.residencyAnswer r.msg.ctx st layer (if status = 0 then some (unle (sub data 0 8)) else none)

theorem fepEnd_eq (s : State) (r : Req) (status old : Nat) (data : Bytes) :
    s.fepEnd r status old data = State.fepIssue fepFuel (({ s with fep := s.fep.without r.msg.tag } : State).fepTold r status old data) := rfl

/-- What asked learns of the end of its request; of an entry that has gone, nothing. -/
theorem fepTold_moves {s : State} (h : s.fep.run = []) (r : Req) (status old : Nat) (data : Bytes) :
    (∃ g d l, s.fepTold r status old data = { s with regs := g, dru := d, layerGrads := l }) ∧
      keepsRegs [Key.BWD_STATE_WAIT r.msg.ctx] s (s.fepTold r status old data) := by
  have hsame : (∃ g d l, s = { s with regs := g, dru := d, layerGrads := l }) ∧ keepsRegs [Key.BWD_STATE_WAIT r.msg.ctx] s s :=
    ⟨⟨_, _, _, rfl⟩, .refl s⟩
  unfold State.fepTold
  split
  · simp only [h, List.find?_nil]
    exact hsame
  · exact hsame
  · exact ⟨⟨_, _, _, rfl⟩, keepsRegs_of_regs rfl⟩
  · obtain ⟨⟨g, l, e⟩, hk⟩ := residencyAnswer_moves s r.msg.ctx _ _ (if status = 0 then some (unle (sub data 0 8)) else none)
    exact ⟨⟨_, _, _, e⟩, hk⟩

/-- A request that ends while no entry runs and nothing waits (R346, R352): it leaves the outstanding table, and what asked for it
learns of it. -/
theorem fepEnd_moves {s : State} (h : s.fep.idle) (r : Req) (status old : Nat) (data : Bytes) :
    (∃ g d l, s.fepEnd r status old data = { s with fep := s.fep.without r.msg.tag, regs := g, dru := d, layerGrads := l }) ∧
      keepsRegs [Key.BWD_STATE_WAIT r.msg.ctx] s (s.fepEnd r status old data) := by
  obtain ⟨hw, hr, hs⟩ := h
  obtain ⟨⟨g, d, l, e⟩, hk⟩ := fepTold_moves (s := { s with fep := s.fep.without r.msg.tag }) hr r status old data
  have hi := fepIssue_idle fepFuel (s := ({ s with fep := s.fep.without r.msg.tag } : State).fepTold r status old data)
    (by rw [e]; exact ⟨hw, hr, hs⟩)
  rw [fepEnd_eq, hi]
  exact ⟨⟨_, _, _, e⟩, (keepsRegs_of_regs (ks := []) rfl).trans hk (List.nil_subset _) (List.Subset.refl _)⟩

/-! ### Replies -/

/-- The state past the taking of a reply. -/
def State.replyTaken (s : State) (m : Msg) : State := { s with fep := { s.fep with replies := s.fep.replies.erase m } }

section Reply
variable {s : State} {tag : Nat} {m : Msg} (hm : s.fep.replies.find? (fun (m : Msg) => m.tag == tag) = some m)
include hm

/-- A reply without a request is dropped (R346). -/
theorem reply_unasked (hr : s.fep.reqs.find? (fun (r : Req) => r.msg.tag == tag && r.msg.dst == m.src && r.msg.seq == m.seq) = none) :
    fepReplyReceivedOp tag s = s.replyTaken m := by
  unfold fepReplyReceivedOp
  simp only [hm, hr]
  rfl

theorem reply_asked {r : Req}
    (hr : s.fep.reqs.find? (fun (r : Req) => r.msg.tag == tag && r.msg.dst == m.src && r.msg.seq == m.seq) = some r) :
    fepReplyReceivedOp tag s = (s.replyTaken m).fepEnd r (min 2 m.status) m.op0 m.data := by
  unfold fepReplyReceivedOp
  simp only [hm, hr]
  rfl

end Reply

/-- An entry that had one message outstanding and none to come, with what it has counted. -/
def Started.ended (x : Started) (status : Nat) : Started :=
  { x with out := x.out - 1, worst := max x.worst status, bad := x.bad + (if status = 0 then 0 else 1) }

/-- What the notice of an ended entry leaves: the memories, and of the endpoint all but the entry (R353). -/
theorem fepNotice_spec (s : State) (x : Started) : (s.fepNotice x).stg = s.stg ∧ (s.fepNotice x).env = s.env ∧
    (s.fepNotice x).fep = { s.fep with run := s.fep.run.filter (fun (y : Started) => y.run != x.run) } := by
  unfold State.fepNotice
  dsimp only
  split
  · have hn : NoticeFrame _ _ := NoticeFrame.post
      { s with fep := { s.fep with run := s.fep.run.filter (fun (y : Started) => y.run != x.run) } } (rqQueue (unle x.desc)) (64 * 18 + 0)
      (ctx := rqCtx (unle x.desc)) [le 8 (pqTag 0x14 1 18 (rqCtx (unle x.desc)) (x.worst <<< 36 ||| x.bad <<< 8 ||| x.q)) ++
        (if rqOp (unle x.desc) = 3 then le 8 x.old else [])] (Nat.mod_lt _ (by decide))
    have hf := postWord_still { s with fep := { s.fep with run := s.fep.run.filter (fun (y : Started) => y.run != x.run) } }
      (rqQueue (unle x.desc)) 0x14 18 (rqCtx (unle x.desc)) (x.worst <<< 36 ||| x.bad <<< 8 ||| x.q)
      (if rqOp (unle x.desc) = 3 then le 8 x.old else []) 0
    exact ⟨hn.stg, hn.env, (congrArg State.fep hf :)⟩
  · exact ⟨rfl, rfl, rfl⟩

/-- Host memory's cells rise where the stores are canonical. -/
theorem hostMem_rising {s : State} (h : Memory.wf s = true) : Sparse.rising s.env.mem = true := by
  simp only [Memory.wf, Bool.and_eq_true] at h
  exact h.2

/-- Bytes written at a local place stand there, and leave the endpoint and every other byte (R348). -/
theorem fepWrite_spec {s : State} (hw : Memory.wf s = true) (host : Bool) (port a : Nat) (bs : Bytes) :
    Mem.read (fun _ => 0) (fepPlace host (s.fepWrite host port a bs)) a bs.length = bs ∧
      keepsBytes a bs.length (fepPlace host s) (fepPlace host (s.fepWrite host port a bs)) ∧ (s.fepWrite host port a bs).fep = s.fep := by
  cases host with
  | false =>
    obtain ⟨r, o, e⟩ := bankTouch_moves true false (lineCount a bs.length) (a / 128) s
    have hdef : s.fepWrite false port a bs = { s with regs := r, obs := o, stg := Mem.write s.stg a bs } :=
      (congrArg (fun z : State => { z with stg := Mem.write z.stg a bs }) e).trans rfl
    rw [hdef]
    exact ⟨memRead_write_self _ a bs (stg_rising hw), keepsBytes_write s.stg a bs, rfl⟩
  | true => exact ⟨memRead_write_self (m := s.env.mem) _ a bs (hostMem_rising hw), keepsBytes_write s.env.mem a bs, rfl⟩

theorem fepPlace_congr {s t : State} (host : Bool) (hs : t.stg = s.stg) (he : t.env = s.env) : fepPlace host t = fepPlace host s := by
  unfold fepPlace
  rw [hs, he]

/-- The last message of a GET that is not cached ends with its data: they stand at its local place, and the entry is over (R352, R353). -/
theorem fepEntryEnd_get {s : State} {x : Started} {m : Msg} {old : Nat} {data : Bytes} (hw : Memory.wf s = true)
    (ht : x.todo = []) (ho : x.out = 1) (hop : rqOp (unle x.desc) = 1) (hca : rqCache (unle x.desc) = false) (hrun : s.fep.run = [x]) :
    let t := s.fepEntryEnd x m 0 old data
    let a := rqLocal (unle x.desc) + (m.offset - rqRemote (unle x.desc))
    Mem.read (fun _ => 0) (fepPlace (rqHost (unle x.desc)) t) a data.length = data ∧
      keepsBytes a data.length (fepPlace (rqHost (unle x.desc)) s) (fepPlace (rqHost (unle x.desc)) t) ∧
      t.fep = { s.fep with run := [] } := by
  intro t a
  obtain ⟨hread, hkeep, hfep⟩ := fepWrite_spec hw (rqHost (unle x.desc)) (rqPort (unle x.desc)) a data
  obtain ⟨v, hv⟩ : ∃ v, v = s.fepWrite (rqHost (unle x.desc)) (rqPort (unle x.desc)) a data := ⟨_, rfl⟩
  have hend : t = (v.fepCounter (rqCtx (unle x.desc)) (rqLcounter (unle x.desc))).fepNotice (x.ended 0) := by
    show s.fepEntryEnd x m 0 old data = _
    unfold State.fepEntryEnd
    dsimp only
    rw [if_neg (by decide), if_pos hop, hca, hv]
    unfold State.setStarted
    rw [if_pos (by simp [ht, ho])]
    rfl
  obtain ⟨hs, he, hf⟩ := fepNotice_spec (v.fepCounter (rqCtx (unle x.desc)) (rqLcounter (unle x.desc))) (x.ended 0)
  rw [← hend] at hs he hf
  rw [← hv] at hread hkeep hfep
  have hplace : fepPlace (rqHost (unle x.desc)) t = fepPlace (rqHost (unle x.desc)) v := fepPlace_congr _ (hs.trans rfl) (he.trans rfl)
  rw [hplace]
  refine ⟨hread, hkeep, hf.trans ?_⟩
  rw [show (v.fepCounter (rqCtx (unle x.desc)) (rqLcounter (unle x.desc))).fep = s.fep from hfep, hrun]
  simp [Started.ended]

/-- FEP_REPLY_RECEIVED (R346, R352). -/
theorem fepReplyReceived_next {s : State} {tag : Nat} {m : Msg} (hl : s.live = true) (hwf : Memory.wf s = true)
    (hm : s.fep.replies.find? (fun (m : Msg) => m.tag == tag) = some m) (hw : s.fep.wait = []) (hst : s.fep.starts = []) :
    (s.fep.reqs.find? (fun (r : Req) => r.msg.tag == tag && r.msg.dst == m.src && r.msg.seq == m.seq) = none →
      ∃ t, exec (.fepReplyReceived tag) s = .next t ∧ t.fep.replies = s.fep.replies.erase m ∧ t.fep.reqs = s.fep.reqs ∧
        t = { s with fep := t.fep }) ∧
    (∀ r, s.fep.reqs.find? (fun (r : Req) => r.msg.tag == tag && r.msg.dst == m.src && r.msg.seq == m.seq) = some r →
      (s.fep.run = [] → ∃ t, exec (.fepReplyReceived tag) s = .next t ∧
        t.fep = { s.fep with replies := s.fep.replies.erase m, reqs := s.fep.reqs.filter (fun (x : Req) => x.msg.tag != r.msg.tag) } ∧
        t.stg = s.stg ∧ t.env = s.env) ∧
      (∀ x n d o, r.asker = .entry n → s.fep.run = [x] → x.run = n → x.todo = [] → x.out = 1 → d = unle x.desc → rqOp d = 1 →
        rqCache d = false → m.status = 0 → o = rqLocal d + (r.msg.offset - rqRemote d) →
        ∃ t, exec (.fepReplyReceived tag) s = .next t ∧ t.fep.run = [] ∧
          Mem.read (fun _ => 0) (fepPlace (rqHost d) t) o m.data.length = m.data ∧
          keepsBytes o m.data.length (fepPlace (rqHost d) s) (fepPlace (rqHost d) t) ∧
          t.fep.reqs = s.fep.reqs.filter (fun (x : Req) => x.msg.tag != r.msg.tag))) := by
  refine ⟨fun hr => ⟨_, next_of_act (fepReplyReceivedOp tag) hl (reply_unasked hm hr), rfl, rfl, rfl⟩, fun r hr => ⟨fun hrun => ?_, ?_⟩⟩
  · obtain ⟨⟨g, d, l, e⟩, -⟩ := fepEnd_moves (s := s.replyTaken m) ⟨hw, hrun, hst⟩ r (min 2 m.status) m.op0 m.data
    exact ⟨_, next_of_act (fepReplyReceivedOp tag) hl ((reply_asked hm hr).trans e), rfl, rfl, rfl⟩
  · intro x n d o hask hrun hxn htodo hout hd hop hca hstat ho
    subst hd ho
    have hrun' : ({ s.replyTaken m with fep := (s.replyTaken m).fep.without r.msg.tag } : State).fep.run = [x] := hrun
    obtain ⟨v, hv⟩ : ∃ v, v = ({ s.replyTaken m with fep := (s.replyTaken m).fep.without r.msg.tag } : State) := ⟨_, rfl⟩
    obtain ⟨hread, hkeep, hfep⟩ := fepEntryEnd_get (s := v) (m := r.msg) (old := m.op0) (data := m.data) (by rw [hv]; exact hwf) htodo hout hop hca
      (hv ▸ hrun')
    have htold : v.fepTold r (min 2 m.status) m.op0 m.data = v.fepEntryEnd x r.msg 0 m.op0 m.data := by
      unfold State.fepTold
      simp only [hask, show v.fep.run = [x] from hv ▸ hrun', List.find?_cons, hxn, BEq.rfl, hstat, Nat.min_zero]
    have hidle := fepIssue_idle fepFuel (s := v.fepEntryEnd x r.msg 0 m.op0 m.data) (by rw [hfep, hv]; exact ⟨hw, rfl, hst⟩)
    have hend : (s.replyTaken m).fepEnd r (min 2 m.status) m.op0 m.data = v.fepEntryEnd x r.msg 0 m.op0 m.data := by
      rw [fepEnd_eq, ← hv, htold, hidle]
    refine ⟨_, next_of_act (fepReplyReceivedOp tag) hl ((reply_asked hm hr).trans hend), by rw [hfep], hread, ?_, by rw [hfep, hv]; rfl⟩
    have hsame : fepPlace (rqHost (unle x.desc)) v = fepPlace (rqHost (unle x.desc)) s := by rw [hv]; rfl
    rw [← hsame]
    exact hkeep

/-! ### Retries and timeouts -/

/-- The port of a route is one of the 48. -/
theorem fepRoute_lt {s : State} {d q : Nat} (h : s.fepRoute d = some q) : q < 48 := by
  unfold State.fepRoute at h
  extract_lets e dead p at h
  obtain ⟨hc, hpq⟩ := Option.ite_none_right_eq_some.1 h
  simp only [Bool.and_eq_true, decide_eq_true_eq] at hc
  exact Option.some.inj hpq ▸ hc.1.1

/-- The log's registers lie apart from the endpoint's counters. -/
theorem logKeys_apart_fep {k : Nat} (h : k ∈ logKeys) : k < 0x602000 ∨ 0x603000 ≤ k := by
  have hall : ∀ k ∈ logKeys, k < 0x602000 ∨ 0x603000 ≤ k := by decide
  exact hall k h

/-- FEP_RETRY (R346): the request is sent again on the port of its route. -/
theorem fepRetry_next {s : State} {tag t0 q : Nat} {r : Req} {m : Msg} (hl : s.live = true) (hp : s.fep.ports.length = 48)
    (hr : s.fep.reqs.find? (fun (r : Req) => r.msg.tag == tag) = some r) (hf : r.first = some t0) (hs : r.sends = 1 ∨ r.sends = 2)
    (h16 : s.usPassed t0 (16 * r.sends) = true) (h50 : s.usPassed t0 50 = false) (hd : r.msg.dst ≠ s.node) (hrep : r.msg.isReply = false)
    (hq : s.fepRoute r.msg.dst = some q) (hc : r.msg.ctx < 8)
    (hm : m = { r.msg with base := s.fepBase r.msg.dst ((Sparse.get? s.fep.streams r.msg.dst).getD 0) }) :
    ∃ t, exec (.fepRetry tag) s = .next t ∧ t.get (Key.FEP_RETRY_COUNT r.msg.ctx) = satAdd max32 (s.get (Key.FEP_RETRY_COUNT r.msg.ctx)) 1 ∧
      (t.fep.port q).reqOwn = (s.fep.port q).reqOwn ++ [m] ∧
      t.fep.reqs = s.fep.reqs.map (fun (x : Req) => if x.msg.tag == tag then { x with msg := m, sends := x.sends + 1 } else x) ∧
      t.stg = s.stg ∧ t.env = s.env ∧ t.dom = s.dom := by
  have hguard : ((r.sends == 1 || r.sends == 2) && s.usPassed t0 (16 * r.sends) && !(s.usPassed t0 50)) = true := by
    rcases hs with h | h
    · rw [h16, h50, h]
      rfl
    · rw [h16, h50, h]
      rfl
  have hmd : m.dst = r.msg.dst ∧ m.ctx = r.msg.ctx ∧ m.isReply = false := by
    subst hm
    exact ⟨rfl, rfl, hrep⟩
  obtain ⟨hdst, hctx, hreply⟩ := hmd
  obtain ⟨v, hv⟩ : ∃ v, v = ({ s with fep := { s.fep with reqs := s.fep.reqs.map (fun (x : Req) =>
      if x.msg.tag == tag then { x with msg := m, sends := x.sends + 1 } else x) } } : State) := ⟨_, rfl⟩
  obtain ⟨w, hw⟩ : ∃ w, w = v.count (Key.FEP_RETRY_COUNT m.ctx) 1 := ⟨_, rfl⟩
  have hlost : w.get Key.LINK_LOST = s.get Key.LINK_LOST := by
    rw [hw, hctx]
    refine (get_put_ne v _ ?_).trans (by rw [hv]; rfl)
    unfold Key.FEP_RETRY_COUNT Key.LINK_LOST
    omega
  have hroute : w.fepRoute m.dst = some q := by
    rw [← hq, hdst]
    unfold State.fepRoute State.lost
    rw [hlost, hw, hv]
    rfl
  have hput : w.fepOut m = w.setFepPort q { w.fep.port q with reqOwn := (w.fep.port q).reqOwn ++ [m] } := by
    have hnode : ¬ m.dst = w.node := by
      rw [hdst]
      refine fun h => hd (h.trans ?_)
      rw [hw, hctx]
      refine (get_put_ne v _ ?_).trans (by rw [hv]; rfl)
      unfold Key.FEP_RETRY_COUNT Key.ENG_NODE
      omega
    unfold State.fepOut
    rw [if_neg hnode]
    unfold State.fepPut
    simp only [hroute, hreply, Bool.false_eq_true, if_false]
  have hlt : q < w.fep.ports.length := by
    have := fepRoute_lt hq
    rw [hw, hv]
    show q < s.fep.ports.length
    omega
  have hrun : fepRetryOp tag s = w.setFepPort q { w.fep.port q with reqOwn := (w.fep.port q).reqOwn ++ [m] } := by
    rw [← hput, hw, hv, hm]
    unfold fepRetryOp
    simp only [hr, hf, hguard, if_true]
  refine ⟨_, next_of_act (fepRetryOp tag) hl hrun, ?_, ?_, by rw [hw, hv]; rfl, by rw [hw, hv]; rfl, by rw [hw, hv]; rfl, by rw [hw, hv]; rfl⟩
  · rw [hw, hctx]
    refine (get_count_self v _ 1).trans ?_
    rw [hv]
    rfl
  · have hport : (w.setFepPort q { w.fep.port q with reqOwn := (w.fep.port q).reqOwn ++ [m] }).fep.port q =
        { w.fep.port q with reqOwn := (w.fep.port q).reqOwn ++ [m] } := nth_setAt_self _ _ hlt
    rw [hport, hw, hv]
    rfl

/-- FEP_TIMEOUT (R346): the request is given up, and the timeout counted and logged. -/
theorem fepTimeout_next {s : State} {tag t0 : Nat} {r : Req} (hl : s.live = true) (hq : quiet s = true)
    (hr : s.fep.reqs.find? (fun (r : Req) => r.msg.tag == tag) = some r) (hf : r.first = some t0) (hc : r.msg.ctx < 8)
    (h50 : s.usPassed t0 50 = true) (hidle : s.fep.idle) :
    ∃ t, exec (.fepTimeout tag) s = .next t ∧
      t.get (Key.FEP_TIMEOUT_COUNT r.msg.ctx) = satAdd max32 (s.get (Key.FEP_TIMEOUT_COUNT r.msg.ctx)) 1 ∧
      t.get Key.FLT_LOG_HEAD = (s.get Key.FLT_LOG_HEAD + 1) % 2 ^ 32 ∧
      t.fep = { s.fep with reqs := s.fep.reqs.filter (fun (x : Req) => x.msg.tag != tag) } ∧ t.stg = s.stg ∧ t.env = s.env := by
  have htag : r.msg.tag = tag := by simpa using List.find?_some hr
  obtain ⟨e, he⟩ : ∃ e : Ev, e =
      { cls := Ec.seq, det := 0x30, dom := 18, ctx := some r.msg.ctx, node := some r.msg.dst, arg := r.msg.seq <<< 16 ||| 0xFFFF } := ⟨_, rfl⟩
  obtain ⟨v, hv⟩ : ∃ v, v = s.count (Key.FEP_TIMEOUT_COUNT r.msg.ctx) 1 := ⟨_, rfl⟩
  have hkeep : keepsRegs [Key.FEP_TIMEOUT_COUNT r.msg.ctx] s v := hv ▸ keepsRegs_put s _ _
  have hvq : quiet v = true := by
    refine quiet_congr hq (hkeep _ ?_) (by rw [hv]; rfl)
    simp only [List.mem_singleton, Key.FEP_TIMEOUT_COUNT, Key.RPL_STATE]
    omega
  obtain ⟨g, d, f, hlog⟩ := log_moves hvq e
  have hlk := log_keepsRegs hvq e
  have hhead := get_log_head hvq e
  obtain ⟨w, hw⟩ : ∃ w, w = v.log e := ⟨_, rfl⟩
  rw [← hw] at hlog hlk hhead
  obtain ⟨⟨g', d', l, hend⟩, hek⟩ := fepEnd_moves (s := w) (by rw [hlog, hv]; exact hidle) r 2 0 []
  have hrun : fepTimeoutOp tag s = w.fepEnd r 2 0 [] := by
    unfold fepTimeoutOp
    simp only [hr, hf, h50, if_true]
    rw [hw, he, hv]
  have hcount : v.get (Key.FEP_TIMEOUT_COUNT r.msg.ctx) = satAdd max32 (s.get (Key.FEP_TIMEOUT_COUNT r.msg.ctx)) 1 := by
    rw [hv]
    exact get_count_self ..
  refine ⟨_, next_of_act (fepTimeoutOp tag) hl hrun, ?_, ?_, ?_, ?_, ?_⟩
  · rw [hek _ (by simp only [List.mem_singleton, Key.FEP_TIMEOUT_COUNT, Key.BWD_STATE_WAIT]; omega),
      hlk _ (fun h => by have := logKeys_apart_fep h; unfold Key.FEP_TIMEOUT_COUNT at this; omega), hcount]
  · rw [hek _ (by simp only [List.mem_singleton, Key.FLT_LOG_HEAD, Key.BWD_STATE_WAIT]; omega), hhead,
      hkeep _ (by simp only [List.mem_singleton, Key.FLT_LOG_HEAD, Key.FEP_TIMEOUT_COUNT]; omega)]
  · rw [hend, hlog, hv, htag]
    rfl
  · rw [hend, hlog, hv]
    rfl
  · rw [hend, hlog, hv]
    rfl

/-- REPLAY_TABLE_EXPIRY (R345). -/
theorem replayTableExpiry_next {s : State} (hl : s.live = true) (src seq : Nat) :
    ∃ t, exec (.replayTableExpiry src seq) s = .next t ∧
      (∀ e, e ∈ t.fep.table ↔ e ∈ s.fep.table ∧ ¬ (e.src = src ∧ e.seq = seq ∧ s.usPassed e.at_ 64 = true)) ∧
      t = { s with fep := { s.fep with table := t.fep.table } } := by
  refine ⟨_, next_of_act (replayTableExpiryOp src seq) hl rfl, fun e => ?_, rfl⟩
  refine List.mem_filter.trans (and_congr_right fun _ => ?_)
  rw [Bool.not_eq_true', ← Bool.not_eq_true, Bool.and_eq_true, Bool.and_eq_true, beq_iff_eq, beq_iff_eq, and_assoc]

/-- Settles O57: fabric requests end, are retried and time out. -/
theorem fabricRequests : Obligations.FabricRequests := by
  intro tag s hl hq hsh hwf
  obtain ⟨-, -, hports⟩ := hsh
  refine ⟨fun m hm hw hst => fepReplyReceived_next hl hwf hm hw hst, fun r t0 hr hf hc => ⟨?_, ?_⟩, replayTableExpiry_next hl⟩
  · intro q m hs h16 h50 hd hrep hroute hm
    exact fepRetry_next hl hports hr hf hs h16 h50 hd hrep hroute hc hm
  · intro h50 hw hrun hst
    exact fepTimeout_next hl hq hr hf hc h50 ⟨hw, hrun, hst⟩

end Sys2Proof.Machine

/-! SUPPORT. A link port lost while a request that names no context waits on it (R204, R340). -/

namespace Sys2Proof.Machine

open Sys2Proof

/-- A request whose context number gives its FEP_UNROUTED the place of FLT_LOG_HEAD. -/
def strayMsg : Msg := { kind := 1, dst := 5, ctx := 0x1FD800 }

/-- Link port 0 has been silent for 16 slots, and that request waits on it. -/
def silentBesideStray : State :=
  { State.reset with
    ports := { silent := 16 } :: List.replicate 47 {}
    fep := { ports := { reqOwn := [strayMsg] } :: List.replicate 47 {} } }

theorem silentBesideStray_live : silentBesideStray.live = true := by decide +kernel

/-- The request finds no other route, and its count moves the fault log's head besides the event of the lost link. -/
theorem timingWordSilence_besideStray : (timingWordSilenceOp 0 silentBesideStray).get Key.FLT_LOG_HEAD = 2 := by decide +kernel

/-- Refutes O54: a port that sixteen silent slots lose sends its requests by the other route, and one that names no context and finds no
route counts FEP_UNROUTED in the place of FLT_LOG_HEAD, which then moves by two although only the lost link is logged. -/
theorem not_timingLinks : ¬ Obligations.TimingLinks := by
  unfold Obligations.TimingLinks
  intro h
  have hphase : silentBesideStray.phase ≠ .initialising := by decide +kernel
  have hquiet : quiet silentBesideStray = true := by decide +kernel
  have hpinned : pinned silentBesideStray := ⟨rfl, rfl⟩
  have hshaped : shaped silentBesideStray := ⟨rfl, rfl, rfl⟩
  have hwf : Memory.wf silentBesideStray = true := by decide +kernel
  have hsilent : 16 ≤ (silentBesideStray.port 0).silent := by decide +kernel
  have hlost : silentBesideStray.lost 0 = false := by decide +kernel
  have hflid : silentBesideStray.flid 0 = none := by decide +kernel
  obtain ⟨t, ht, -, -, -, -, -, -, -, hhead, -⟩ :=
    h.2.1 0 silentBesideStray (clocked_of_live silentBesideStray_live) hphase hquiet hpinned hshaped hwf (by decide) hsilent hlost
  have hrun : exec (.timingWordSilence 0) silentBesideStray = .next (timingWordSilenceOp 0 silentBesideStray) :=
    next_of_actTime (timingWordSilenceOp 0) silentBesideStray_live rfl
  obtain rfl : timingWordSilenceOp 0 silentBesideStray = t := by
    rw [hrun] at ht
    exact Host.Outcome.next.inj ht
  have hone := hhead hflid
  rw [timingWordSilence_besideStray] at hone
  exact absurd hone (by decide +kernel)

end Sys2Proof.Machine

/-! SUPPORT. A frame program that comes back damaged a second time while its context is armed (R185, R190). -/

namespace Sys2Proof.Machine

open Sys2Proof

/-- The program that is being fetched. -/
def damagedProgram : Prog := { frame := 0, k := 0, src := { frame := 0, len := 0, off := 0, crc := 0 }, bytes := none, dropped := false }

/-- Context 0 is ARMED and fetches the program of a frame whose last attempt was dropped. -/
def armedRefetch : State :=
  { State.reset.put (Key.TT_STATE 0) 3 with
    ctxs := { image := some degradable, progs := [damagedProgram], badFrames := [(0, 0)] } :: List.replicate 7 {} }

theorem armedRefetch_live : armedRefetch.live = true := by decide +kernel

/-- The stop that the second failure imposes takes the ARMED context to LOADED at once, which forgets its programs. -/
theorem frameProgramFetched_armed : ((frameProgramFetchedOp 0 2 armedRefetch.fresh).ctx 0).progs = [] := by decide +kernel

/-- Refutes O53: a frame program that fails again stops its context, and an ARMED context, which goes to LOADED at once, keeps no program
marked as dropped. -/
theorem not_framesAndSlots : ¬ Obligations.FramesAndSlots := by
  unfold Obligations.FramesAndSlots
  intro h
  have hquiet : quiet armedRefetch = true := by decide +kernel
  obtain ⟨-, -, -, hfetched, -⟩ := h
  obtain ⟨-, hbad⟩ := hfetched 0 2 armedRefetch degradable damagedProgram _ armedRefetch_live hquiet ⟨rfl, rfl, rfl⟩ (by decide) rfl rfl rfl
  obtain ⟨t, ht, hprogs, -⟩ := hbad (.inr (le_refl 2))
  have hrun : exec (.frameProgramFetched 0 2) armedRefetch = .next (frameProgramFetchedOp 0 2 armedRefetch.fresh) :=
    next_of_actFresh (frameProgramFetchedOp 0 2) armedRefetch_live rfl
  obtain rfl : frameProgramFetchedOp 0 2 armedRefetch.fresh = t := by
    rw [hrun] at ht
    exact Host.Outcome.next.inj ht
  rw [frameProgramFetched_armed] at hprogs
  exact absurd (congrArg List.length hprogs) (by decide)

end Sys2Proof.Machine

/-! SUPPORT. A segment on a tile port beyond the sixteenth (R230, R430, R457). -/

namespace Sys2Proof.Machine

open Sys2Proof

/-- A segment that its series expects, whose CRC is right and that continues an open window, is taken into it (R455, R457). -/
theorem ingressSegment_taken {p : Nat} {h : BitVec 512} {bs : Bytes} {s : State} {w : Win} (hup : s.tileUp p = true)
    (hlen : bs.length = chLen h.toNat) (hseq : chSeq h.toNat = s.nextSeq (chCtx h.toNat) (chStep h.toNat) p false)
    (hnode : (s.count64 (Key.TP_RX_BYTES p) (64 + chLen h.toNat)).node = s.node)
    (hcrc : chCrc h.toNat = chunkCrc (chSeq h.toNat) s.node 0 h.toNat bs) (hw : s.wins.find? (s.segmentFits p h.toNat) = some w) :
    ingressSegmentOp p h bs s =
      (((((s.count64 (Key.TP_RX_BYTES p) (64 + chLen h.toNat)).setSeq (chCtx h.toNat) (chStep h.toNat) p false (chSeq h.toNat + 1)).takeSegment w
        h.toNat bs).queueRel (48 + p) 0 s.fslot (chCtx h.toNat) (chSeq h.toNat) (chStep h.toNat) p).busy 13 (some (chCtx h.toNat))) := by
  have hsub : sub bs 0 (chLen h.toNat) = bs := by
    rw [← hlen]
    exact sub_self bs
  obtain ⟨v, hv⟩ : ∃ v, v = s.count64 (Key.TP_RX_BYTES p) (64 + chLen h.toNat) := ⟨_, rfl⟩
  have hnext : v.nextSeq (chCtx h.toNat) (chStep h.toNat) p false = chSeq h.toNat := by rw [hseq, hv]; rfl
  have hfind : (v.setSeq (chCtx h.toNat) (chStep h.toNat) p false (chSeq h.toNat + 1)).wins.find?
      ((v.setSeq (chCtx h.toNat) (chStep h.toNat) p false (chSeq h.toNat + 1)).segmentFits p h.toNat) = some w := by
    rw [← hw, hv]
    rfl
  rw [← hv] at hnode ⊢
  unfold ingressSegmentOp
  rw [if_pos hup]
  simp only [hsub]
  simp only [← hv, hnext, lt_irrefl, if_false, hnode]
  rw [if_neg (not_not.2 hcrc)]
  simp only [hfind]
  rw [hv]
  rfl

/-- A row of tile ports so long that TP_RX_BYTES of the last has the place of RPL_STATE. -/
def longRow : List Bool := List.replicate 1563399 true

/-- The window of tile 0, begun, with no position present and its ID segment there. -/
def emptyWindow : Win :=
  { ctx := 0, step := 0, attempt := 0, layer := 0, tile := 0, index := 0, port := 1563398, work := 0, stamp := 0, opened := 0, begun := true,
    stage := 1 }

/-- The header of an empty payload segment of that window. -/
def emptySegment : BitVec 512 := BitVec.ofNat 512 (2 <<< 440 ||| 4067657130 <<< 448)

/-- That engine, with the register of that place 63 short of its end. -/
def manyPorts : State :=
  { State.reset.put Key.RPL_STATE (2 ^ 64 - 63) with tpUp := longRow, wins := [emptyWindow] }

/-- What the segment leaves of it. -/
def segmentTaken : State :=
  (((((manyPorts.fresh.count64 (Key.TP_RX_BYTES 1563398) (64 + chLen emptySegment.toNat)).setSeq (chCtx emptySegment.toNat)
    (chStep emptySegment.toNat) 1563398 false (chSeq emptySegment.toNat + 1)).takeSegment emptyWindow emptySegment.toNat []).queueRel
      (48 + 1563398) 0 manyPorts.fresh.fslot (chCtx emptySegment.toNat) (chSeq emptySegment.toNat) (chStep emptySegment.toNat) 1563398).busy 13
        (some (chCtx emptySegment.toNat)))

/-- The count of its bytes starts the replay log, in which the CRC of the tile's input is then recorded. -/
theorem segmentTaken_recorded : segmentTaken.dru.rplBuf.ents.length = 1 := by decide +kernel

theorem longRow_last : nth longRow 1563398 false = true := by
  unfold nth longRow
  rw [List.getElem?_replicate]
  rfl

theorem manyPorts_live : manyPorts.live = true := by decide +kernel

/-- Refutes O38: it does not say that there are sixteen tile ports. Where TP_RX_BYTES of a port far beyond them has the place of RPL_STATE,
the bytes of a segment start the replay log, and the input CRC of the tile that the segment completes is recorded in it, so that the
Determinism and Replay Unit does not stand. -/
theorem not_tilePortEvents : ¬ Obligations.TilePortEvents := by
  unfold Obligations.TilePortEvents
  intro h
  have hup : manyPorts.tileUp 1563398 = true := longRow_last
  have hquiet : quiet manyPorts = true := by decide +kernel
  have hlen : ([] : Bytes).length = chLen emptySegment.toNat := by decide +kernel
  have hseq : chSeq emptySegment.toNat = manyPorts.nextSeq (chCtx emptySegment.toNat) (chStep emptySegment.toNat) 1563398 false := by
    decide +kernel
  have hcrc : chCrc emptySegment.toNat = chunkCrc (chSeq emptySegment.toNat) manyPorts.node 0 emptySegment.toNat [] := by decide +kernel
  have hnode : (manyPorts.fresh.count64 (Key.TP_RX_BYTES 1563398) (64 + chLen emptySegment.toNat)).node = manyPorts.node := by decide +kernel
  have hfind : manyPorts.wins.find? (manyPorts.segmentFits 1563398 emptySegment.toNat) = some emptyWindow := by decide +kernel
  obtain ⟨t, ht, -, -, -, -, -, hall⟩ := ((h 1563398 manyPorts).2 manyPorts_live hup).2.1 hquiet emptySegment [] emptyWindow hlen hseq hcrc hfind
  have hrun : exec (.ingressSegment 1563398 emptySegment []) manyPorts = .next segmentTaken :=
    next_of_actFresh (ingressSegmentOp 1563398 emptySegment []) manyPorts_live
      (ingressSegment_taken (s := manyPorts.fresh) hup hlen hseq hnode hcrc hfind)
  obtain rfl : segmentTaken = t := by
    rw [hrun] at ht
    exact Host.Outcome.next.inj ht
  have hdru : segmentTaken.dru = manyPorts.dru := by rw [hall]
  have hone := segmentTaken_recorded
  rw [hdru] at hone
  exact absurd hone (by decide +kernel)

end Sys2Proof.Machine

/-! SUPPORT. A residency deadline of a context number whose TT_STATE has the place of FLT_LOG_HEAD (R163, R418, R426). -/

namespace Sys2Proof.Machine

open Sys2Proof

/-- The context number whose TT_STATE is FLT_LOG_HEAD. -/
def logHeadCtx : Nat := 0x3F0000

/-- A residency check of that context's layer 0, opened at plan tick 0 with no frame to wait. -/
def overdueCheck : LayerGrad := { ctx := logHeadCtx, step := 0, layer := 0, check := some (0, 0) }

/-- Plan frame 1, with five events logged, which reads as the context in STOPPING. -/
def fiveLogged : State := { (State.reset.put Key.FLT_LOG_HEAD 5).put Key.TB_PLAN_FRAME 1 with layerGrads := [overdueCheck] }

theorem fiveLogged_live : fiveLogged.live = true := by decide +kernel

/-- With the sixth event logged the context reads as STOPPED, and its step is not replayed. -/
theorem residencyDeadline_fiveLogged : (residencyDeadlineOp logHeadCtx 0 fiveLogged).seen = [] := by decide +kernel

/-- Refutes O46: no bound holds the context number, so the deadline's own log record can move what is read as the context's state, and the
replay of its step is not noticed. -/
theorem not_deliveryPhases : ¬ Obligations.DeliveryPhases := by
  unfold Obligations.DeliveryPhases
  intro h
  have hquiet : quiet fiveLogged = true := by decide +kernel
  have honly : ∀ x, x ∈ fiveLogged.layerGrads → x.ctx = logHeadCtx → x.layer = 0 → x = overdueCheck :=
    fun x hx _ _ => List.mem_singleton.1 hx
  obtain ⟨-, hcheck, -⟩ := h logHeadCtx 0 fiveLogged fiveLogged_live hquiet rfl rfl
  obtain ⟨-, hover⟩ := hcheck overdueCheck (0, 0) (List.mem_singleton.2 rfl) honly rfl rfl rfl rfl
  obtain ⟨t, ht, -, -, hseen, -⟩ := hover (by decide +kernel)
  have hruns : fiveLogged.runs logHeadCtx = true := by decide +kernel
  have hfirst : (fiveLogged.ctx logHeadCtx).noticed ≠ some fiveLogged.planFrame := by decide +kernel
  have hrun : exec (.residencyDeadline logHeadCtx 0) fiveLogged = .next (residencyDeadlineOp logHeadCtx 0 fiveLogged) :=
    next_of_act (residencyDeadlineOp logHeadCtx 0) fiveLogged_live rfl
  obtain rfl : residencyDeadlineOp logHeadCtx 0 fiveLogged = t := by
    rw [hrun] at ht
    exact Host.Outcome.next.inj ht
  have hmem := hseen _ hruns hfirst rfl
  rw [residencyDeadline_fiveLogged] at hmem
  exact List.not_mem_nil hmem

end Sys2Proof.Machine

/-! SUPPORT. A grant to a chunk in hand whose expectation stands twice (R115, R243). -/

namespace Sys2Proof.Machine

open Sys2Proof

/-- A RECEIVE of 128 bytes on port 0, of the own node's tile record source. -/
def planned128 : Xfer :=
  { port := 0, source := 0, layer := 0, tile := 0, piece := 0, dst := 0, seq := 0, queue := 0, len := 128, src := 0, sig := 0 }

/-- The chunk that waits in hand for its buffer. -/
def waitingChunk : InHand := { port := 0, slot := 0, hdr := 0, bytes := zeros 128 }

/-- Its expectation. -/
def handExpect : Expect := { ctx := 0, step := 0, x := planned128, relay := false, stamp := 0, inHand := some waitingChunk }

/-- An engine whose list of expectations holds that one twice, with a buffer of class 0 free and asked for. -/
def expectsTwice : State :=
  { State.reset.put Key.POOL_STATE 2 with
    ctxs := { image := some { degradable with part := zeros 4112 ++ [255, 255, 255, 255] } } :: List.replicate 7 {}
    pools := { cache := [0], wait := [{ ctx := 0, key := handExpect.key }] } :: List.replicate 4 {}
    pieces := [{ key := handExpect.key, len := 128 }]
    expects := [handExpect, handExpect] }

theorem expectsTwice_live : expectsTwice.live = true := by decide +kernel

/-- The chunk is committed and released once for each. -/
theorem poolAllocGrant_expectsTwice :
    (arriving (fun s => (poolAllocGrantOp 0 s).commitInHand) expectsTwice).rels.length = 2 := by decide +kernel

/-- Refutes O43: an expectation that stands twice has its chunk in hand committed twice, and two releases are queued for it. -/
theorem not_chunkReceived : ¬ Obligations.ChunkReceived := by
  unfold Obligations.ChunkReceived
  intro h
  have hquiet : quiet expectsTwice = true := by decide +kernel
  have hnext : expectsTwice.nextGrant 0 = some { ctx := 0, key := handExpect.key } := by decide +kernel
  have honly : ∀ x, x ∈ expectsTwice.expects → x ≠ handExpect → x.inHand = none := by
    intro x hx hne
    have : x = handExpect := by simpa [expectsTwice] using hx
    exact absurd this hne
  obtain ⟨-, -, hgrant, -⟩ := h expectsTwice expectsTwice_live hquiet
  obtain ⟨t, q', ht, -, hrels, -⟩ := hgrant 0 0 [] _ handExpect waitingChunk
    { key := handExpect.key, len := 128 } ⟨rfl, rfl, rfl⟩ (by decide) (by decide) rfl
    (by decide +kernel) hnext rfl nofun (List.mem_cons_self ..) honly rfl rfl (by decide +kernel) rfl (by decide) (by decide +kernel) (by decide)
  have hrun : exec (.poolAllocGrant 0) expectsTwice =
      .next (arriving (fun s => (poolAllocGrantOp 0 s).commitInHand) expectsTwice) :=
    next_of_act (arriving (fun s => (poolAllocGrantOp 0 s).commitInHand)) expectsTwice_live rfl
  obtain rfl : arriving (fun s => (poolAllocGrantOp 0 s).commitInHand) expectsTwice = t := by
    rw [hrun] at ht
    exact Host.Outcome.next.inj ht
  have htwo := poolAllocGrant_expectsTwice
  rw [hrels] at htwo
  exact absurd htwo (by decide)

end Sys2Proof.Machine

/-! SUPPORT. The close point of a combine of a context number whose TT_FRAME_BASE has the place of FLT_LOG_HEAD (R131, R249, R423). -/

namespace Sys2Proof.Machine

open Sys2Proof

/-- The context number whose TT_FRAME_BASE is FLT_LOG_HEAD. -/
def logBaseCtx : Nat := 0x3EFE00

/-- A complete forward combine of that context. -/
def closingComb : Comb :=
  { ctx := logBaseCtx, step := 0, attempt := 0, layer := 0, tile := 0, index := 0, work := 0, closeAt := 0, log := some [] }

/-- A piece of its gap stream, in a buffer that no pool holds. -/
def strayGapPiece : Piece :=
  { key := { ctx := logBaseCtx, step := 0, layer := 0, tile := 0, kind := 8, src := 0, dst := 0, idx := 0 }, len := 128, buf := some 0 }

/-- An engine at that combine's close point. -/
def closingStray : State := { State.reset with combs := [closingComb], pieces := [strayGapPiece] }

theorem closingStray_live : closingStray.live = true := by decide +kernel

/-- The free of the gap piece is refused and logged, and the ledger entry then holds the log's head as its frame base. -/
theorem combineClosePoint_closingStray :
    ((Mem.read (fun _ => 0) (combineClosePointOp logBaseCtx 0 0 0 closingStray.fresh).env.mem 0 64).drop 8).take 1 = [1] := by
  decide +kernel

/-- Refutes O44: no bound holds the context number, so a refused free at the close point, whose log record moves what is read as the
context's frame base, changes the ledger entry that is written behind it. -/
theorem not_combinePhases : ¬ Obligations.CombinePhases := by
  unfold Obligations.CombinePhases
  intro h
  have hquiet : quiet closingStray = true := by decide +kernel
  obtain ⟨-, hphase⟩ := h logBaseCtx 0 0 0 0 closingStray closingStray_live hquiet
  obtain ⟨-, -, hclose⟩ := hphase closingComb rfl (by decide +kernel)
  obtain ⟨hwhole, -⟩ := hclose (by decide +kernel) (by decide +kernel) (by decide +kernel)
  obtain ⟨t, k', ht, -, -, hledger, -⟩ := hwhole (by decide +kernel)
  obtain ⟨hread, -⟩ := hledger (by decide) (fun _ => by decide +kernel)
  have hrun : exec (.combineClosePoint logBaseCtx 0 0 0) closingStray = .next (combineClosePointOp logBaseCtx 0 0 0 closingStray.fresh) :=
    next_of_actFresh (combineClosePointOp logBaseCtx 0 0 0) closingStray_live rfl
  obtain rfl : combineClosePointOp logBaseCtx 0 0 0 closingStray.fresh = t := by
    rw [hrun] at ht
    exact Host.Outcome.next.inj ht
  have haddr : closingStray.ledgerAddr logBaseCtx 0 closingComb.index 0 = 0 := by decide +kernel
  rw [haddr] at hread
  have hbyte := congrArg (fun bs : Bytes => (bs.drop 8).take 1) hread
  rw [combineClosePoint_closingStray] at hbyte
  exact absurd hbyte (by decide +kernel)

end Sys2Proof.Machine

/-! SUPPORT. What a released copy leaves, and the trailer that brings its release (R111, R116, R130). -/

namespace Sys2Proof.Machine

open Sys2Proof

/-- What giving back the buffers of pieces leaves: the parts beyond them and host memory. -/
structure FreedFrame (s t : State) : Prop where
  beyond : t.beyondGone = s.beyondGone
  env : t.env = s.env

namespace FreedFrame

theorem refl (s : State) : FreedFrame s s := ⟨rfl, rfl⟩

theorem trans {s t z : State} (h : FreedFrame s t) (h' : FreedFrame t z) : FreedFrame s z :=
  ⟨h'.beyond.trans h.beyond, h'.env.trans h.env⟩

theorem foldl {α : Type} {f : State → α → State} (l : List α) (s : State) (hf : ∀ s a, FreedFrame s (f s a)) :
    FreedFrame s (l.foldl f s) :=
  List.foldlRecOn (motive := FreedFrame s) l f (refl s) fun _ h a _ => h.trans (hf _ a)

theorem of_drop {s t : State} (h : DropFrame s t) : FreedFrame s t := by
  refine ⟨?_, h.env⟩
  unfold State.beyondGone
  rw [h.beyond]

theorem of_notice {s t : State} (h : NoticeFrame s t) (hs : t.still = s.still) : FreedFrame s t := of_drop (.of_notice h hs)

theorem actNotice (s : State) (n : Notice) (from_ at_ : Nat) : FreedFrame s (s.actNotice n from_ at_) := by
  unfold State.actNotice
  split
  · exact refl s
  · extract_lets k y z
    have hy : FreedFrame s y := of_notice (.rpl ..) (rpl_still ..)
    have hz : FreedFrame y z := of_notice (.trace ..) (trace_still ..)
    clear_value z
    exact (hy.trans hz).trans ⟨rfl, rfl⟩

theorem raiseNotice (s : State) (n : Notice) : FreedFrame s (s.raiseNotice n) := by
  unfold State.raiseNotice
  split
  · exact refl s
  · exact trans (t := s.spreadNotice n) ⟨rfl, rfl⟩ (actNotice ..)

theorem replayStep (s : State) (c : Nat) : FreedFrame s (s.replayStep c) := by
  unfold State.replayStep
  split
  · exact trans (t := s.setCtx c { s.ctx c with noticed := some s.planFrame }) ⟨rfl, rfl⟩ (raiseNotice ..)
  · exact refl s

/-- A unit's free, refused or not (R247, R248). -/
theorem freeOp (s : State) (c a : Nat) : FreedFrame s (freeOp false c a s) := by
  unfold Machine.freeOp
  split
  · exact of_drop (.freeBuffer ..)
  next k d _ =>
    have hlog : FreedFrame s (s.log { cls := k, det := d, dom := 12, ctx := some c, arg := a % 2 ^ 32 }) := of_drop (.log ..)
    dsimp only
    generalize s.log _ = z at hlog ⊢
    exact (hlog.trans (t := z) (z := z.count (Key.POOL_FREE_REFUSED c) 1) ⟨rfl, rfl⟩).trans (replayStep ..)

theorem dropPiece (s : State) (k : PieceKey) : FreedFrame s (s.dropPiece k) := by
  unfold State.dropPiece
  split
  · exact refl s
  · dsimp only
    split
    · exact trans (t := { s with pieces := s.pieces.filter (fun q => q.key != k) }) ⟨rfl, rfl⟩ (freeOp ..)
    · exact ⟨rfl, rfl⟩

/-- A tile-port chunk released (R82, R122). -/
theorem tileReleased (s : State) (h : Held) : FreedFrame s (s.tileReleased h) := by
  unfold State.tileReleased
  extract_lets k busy past
  split
  · exact foldl _ s fun t p => dropPiece t p.key
  · exact refl s

end FreedFrame

/-- A state without the parts that giving back a copy's buffers touches. -/
def State.beyondRelease (s : State) : State := { s.beyondGone with cle := {}, combs := [] }

/-- What giving back a copy's buffers leaves: the parts beyond it and host memory. -/
structure ReleaseFrame (s t : State) : Prop where
  beyond : t.beyondRelease = s.beyondRelease
  env : t.env = s.env

namespace ReleaseFrame

theorem refl (s : State) : ReleaseFrame s s := ⟨rfl, rfl⟩

theorem trans {s t z : State} (h : ReleaseFrame s t) (h' : ReleaseFrame t z) : ReleaseFrame s z :=
  ⟨h'.beyond.trans h.beyond, h'.env.trans h.env⟩

theorem of_freed {s t : State} (h : FreedFrame s t) : ReleaseFrame s t := by
  refine ⟨?_, h.env⟩
  unfold State.beyondRelease
  rw [h.beyond]

theorem helds {s t : State} (h : ReleaseFrame s t) : t.helds = s.helds := (congrArg State.helds h.beyond :)
theorem wins {s t : State} (h : ReleaseFrame s t) : t.wins = s.wins := (congrArg State.wins h.beyond :)
theorem losts {s t : State} (h : ReleaseFrame s t) : t.losts = s.losts := (congrArg State.losts h.beyond :)

theorem foldl {α : Type} {f : State → α → State} (l : List α) (s : State) (hf : ∀ s a, ReleaseFrame s (f s a)) :
    ReleaseFrame s (l.foldl f s) :=
  List.foldlRecOn (motive := ReleaseFrame s) l f (refl s) fun _ h a _ => h.trans (hf _ a)

theorem dropPiece (s : State) (k : PieceKey) : ReleaseFrame s (s.dropPiece k) := of_freed (.dropPiece ..)

theorem cle (s : State) (c : Cle) : ReleaseFrame s { s with cle := c } := ⟨rfl, rfl⟩

theorem collReleased (s : State) (c st group seq j dst : Nat) : ReleaseFrame s (s.collReleased c st group seq j dst) := by
  unfold State.collReleased
  split
  · exact refl s
  next o _ =>
    obtain ⟨l, e⟩ := settleSlot_moves (s.setColl { o with released := o.released ++ [(j, dst)] }) c st group seq j
    rw [e]
    exact trans (t := s.setColl { o with released := o.released ++ [(j, dst)] }) (cle ..) (cle ..)

/-- What a released copy gives back, by its source (R116). -/
theorem releasedChunk (s : State) (h : Held) : ReleaseFrame s (s.releasedChunk h) := by
  unfold State.releasedChunk
  extract_lets x y k gone
  split
  · exact collReleased ..
  · split
    · exact ⟨rfl, rfl⟩
    · exact ⟨rfl, rfl⟩
  · exact of_freed (.tileReleased ..)
  · exact dropPiece ..
  · split
    · split <;> exact dropPiece ..
    · exact dropPiece ..

theorem freeReturns (s : State) (k : Comb) (all : Bool) : ReleaseFrame s (s.freeReturns k all) := by
  unfold State.freeReturns
  extract_lets n
  split
  · exact refl s
  · refine foldl _ s fun t y => ?_
    extract_lets key
    split
    next p k _ _ =>
      extract_lets open_
      split
      · exact trans (t := t.setComb { k with
          crcs := k.crcs.filter (fun (z : Nat × Nat × Nat) => !(z.1 == y.1 && z.2.1 == y.2)) ++ [(y.1, y.2, p.crc)] }) ⟨rfl, rfl⟩ (dropPiece ..)
      · exact refl t
    · exact refl t

/-- An arrival that loses no record gives back at most return buffers (R130). -/
theorem afterArrival {old s : State} (h : s.losts = old.losts) : ReleaseFrame s (State.afterArrival old s) := by
  unfold State.afterArrival
  rw [if_pos h]
  dsimp only
  split
  · exact refl s
  · refine foldl _ s fun t k => ?_
    split
    · exact freeReturns ..
    · exact refl t

end ReleaseFrame

/-- An arrival that changes neither the records lost nor the pieces does nothing beyond its port. -/
theorem afterArrival_of_same {old s : State} (hl : s.losts = old.losts) (hp : s.pieces = old.pieces) : State.afterArrival old s = s := by
  unfold State.afterArrival
  rw [if_pos hl]
  exact if_pos hp

/-! ### Trailers -/

theorem le_drop (a b v : Nat) : (le (a + b) v).drop a = le b (v / 256 ^ a) := by
  induction a generalizing v with
  | zero => simp
  | succ a ih => rw [Nat.succ_add, le, List.drop_succ_cons, ih, Nat.div_div_eq_div_mul, pow_succ']

theorem le_take (a b v : Nat) : (le (a + b) v).take a = le a v := by
  induction a generalizing v with
  | zero => rfl
  | succ a ih => rw [Nat.succ_add, le, List.take_succ_cons, ih, le]

/-- A field of a number's bytes is a field of the number. -/
theorem u_le {o n m v : Nat} (h : o + n ≤ m) : u (le m v) o n = v / 256 ^ o % 256 ^ n := by
  obtain ⟨r, rfl⟩ := Nat.exists_eq_add_of_le h
  rw [u, Nat.add_assoc, le_drop, le_take, unle_le]

/-- A bit of a trailer's word is a bit of the trailer. -/
theorem bit_trailerWord {i j : Nat} (v : Nat) (hi : i < 7) (hj : j < 64) : bit (u (le 64 v) (8 * i) 8) j = bit v (64 * i + j) := by
  rw [u_le (by omega), bit_eq_testBit, bit_eq_testBit, show 256 ^ (8 * i) = 2 ^ (64 * i) by rw [show 256 = 2 ^ 8 from rfl, ← pow_mul]; ring_nf,
    show 256 ^ 8 = 2 ^ 64 from rfl, Nat.testBit_mod_two_pow, Nat.testBit_div_two_pow]
  simp [hj, Nat.add_comm]

/-- A release word of a trailer acted on (R111). -/
def State.trailerWord (p : Nat) (bs : Bytes) (s : State) (i : Nat) : State :=
  let w := u bs (8 * i) 8
  if bit w 18 then (match s.heldFor p w with | some h => s.takeRelease h (bits w 16 2) | none => s) else s

theorem takeRelease_again (s : State) (h : Held) :
    s.takeRelease h 1 = { s with helds := s.helds.map (fun (x : Held) => if x = h then { x with again := true } else x) } := by
  unfold State.takeRelease
  rw [if_neg (by decide), if_pos rfl]

theorem takeRelease_released (s : State) (h : Held) : s.takeRelease h 0 = (s.dropHeld h).releasedChunk h := by
  unfold State.takeRelease
  rw [if_pos rfl]

section Trailer
variable {s : State} {p : Nat} {tr : BitVec 512} (hp : p < 48) (hup : (s.port p).up = true) (hh : (s.port p).heard = some s.fslot)
include hp hup hh

theorem trailer_damaged (hc : u (le 64 tr.toNat) 56 8 ≠ crc32c ((le 64 tr.toNat).take 56)) :
    trailerArrivalOp p tr s = s.count64 (Key.LNK_CHECK_FAIL p) 1 := by
  unfold trailerArrivalOp
  simp only [hp, hup, hh, decide_true, Bool.and_true, if_true, hc, ne_eq, not_false_eq_true]

theorem trailer_words (hc : u (le 64 tr.toNat) 56 8 = crc32c ((le 64 tr.toNat).take 56)) :
    trailerArrivalOp p tr s = (List.range 7).foldl (State.trailerWord p (le 64 tr.toNat)) s := by
  unfold trailerArrivalOp
  simp only [hp, hup, hh, decide_true, Bool.and_true, if_true, hc, ne_eq, not_true_eq_false, if_false]
  rfl

/-- A trailer whose first word alone is valid acts on the copy that the word names. -/
theorem trailer_first {h : Held} (hc : u (le 64 tr.toNat) 56 8 = crc32c ((le 64 tr.toNat).take 56)) (h0 : bit tr.toNat 18 = true)
    (hi : ∀ i, 0 < i → i < 7 → bit tr.toNat (64 * i + 18) = false) (hf : s.heldFor p (u (le 64 tr.toNat) 0 8) = some h) :
    trailerArrivalOp p tr s = s.takeRelease h (bits tr.toNat 16 2) := by
  have hrest : ∀ i z, 0 < i → i < 7 → State.trailerWord p (le 64 tr.toNat) z i = z := fun i z h0 h7 => by
    unfold State.trailerWord
    dsimp only
    rw [if_neg]
    rw [bit_trailerWord _ h7 (by decide), hi i h0 h7]
    decide
  have hstatus : bits (u (le 64 tr.toNat) 0 8) 16 2 = bits tr.toNat 16 2 := by
    rw [u_le (by decide)]
    simp only [bits, Nat.shiftRight_eq_div_pow]
    omega
  have hfirst : State.trailerWord p (le 64 tr.toNat) s 0 = s.takeRelease h (bits tr.toNat 16 2) := by
    unfold State.trailerWord
    dsimp only
    rw [if_pos (by rw [bit_trailerWord _ (by decide) (by decide)]; exact h0)]
    simp only [Nat.mul_zero, hf, hstatus]
  rw [trailer_words hp hup hh hc, show List.range 7 = [0, 1, 2, 3, 4, 5, 6] from rfl]
  simp only [List.foldl_cons, List.foldl_nil, hfirst, hrest 1 _ (by decide) (by decide), hrest 2 _ (by decide) (by decide),
    hrest 3 _ (by decide) (by decide), hrest 4 _ (by decide) (by decide), hrest 5 _ (by decide) (by decide), hrest 6 _ (by decide) (by decide)]

end Trailer

/-- TRAILER_ARRIVAL (R111, R116). -/
theorem trailerArrival_next {s : State} {p : Nat} (hl : s.live = true) (tr : BitVec 512) (hp : p < 48) (hup : (s.port p).up = true)
    (hh : (s.port p).heard = some s.fslot) :
    (u (le 64 tr.toNat) 56 8 ≠ crc32c ((le 64 tr.toNat).take 56) →
      ∃ t, exec (.trailerArrival p tr) s = .next t ∧ t.get (Key.LNK_CHECK_FAIL p) = (s.get (Key.LNK_CHECK_FAIL p) + 1) % 2 ^ 64 ∧
        keepsRegs [Key.LNK_CHECK_FAIL p] s t ∧ t = { s with regs := t.regs }) ∧
    (∀ h : Held, u (le 64 tr.toNat) 56 8 = crc32c ((le 64 tr.toNat).take 56) → bit tr.toNat 18 = true →
      (∀ i, 0 < i → i < 7 → bit tr.toNat (64 * i + 18) = false) → s.heldFor p (u (le 64 tr.toNat) 0 8) = some h →
      ∃ t, exec (.trailerArrival p tr) s = .next t ∧
        (bits tr.toNat 16 2 = 1 →
          t = { s with helds := s.helds.map (fun (x : Held) => if x = h then { x with again := true } else x) }) ∧
        (bits tr.toNat 16 2 = 0 → t.helds = s.helds.erase h ∧ t.wins = s.wins ∧ t.env = s.env)) := by
  refine ⟨fun hc => ?_, fun h hc h0 hi hf => ?_⟩
  · have hrun : arriving (trailerArrivalOp p tr) s = s.count64 (Key.LNK_CHECK_FAIL p) 1 := by
      unfold arriving
      rw [trailer_damaged hp hup hh hc]
      exact afterArrival_of_same rfl rfl
    exact ⟨_, next_of_act (arriving (trailerArrivalOp p tr)) hl hrun, get_put_self .., keepsRegs_put s _ _, rfl⟩
  · have hrun : arriving (trailerArrivalOp p tr) s = State.afterArrival s (s.takeRelease h (bits tr.toNat 16 2)) :=
      congrArg (State.afterArrival s) (trailer_first hp hup hh hc h0 hi hf)
    refine ⟨_, next_of_act (arriving (trailerArrivalOp p tr)) hl hrun, fun h1 => ?_, fun h0 => ?_⟩
    · rw [h1, takeRelease_again]
      exact afterArrival_of_same rfl rfl
    · have hrel : ReleaseFrame (s.dropHeld h) (s.takeRelease h (bits tr.toNat 16 2)) := by
        rw [h0, takeRelease_released]
        exact .releasedChunk ..
      generalize s.takeRelease h (bits tr.toNat 16 2) = z at hrel ⊢
      have hall : ReleaseFrame (s.dropHeld h) (State.afterArrival s z) := hrel.trans (.afterArrival hrel.losts)
      exact ⟨hall.helds, hall.wins, hall.env⟩

end Sys2Proof.Machine

/-! SUPPORT. A copy put on its port, and the copies that wait to leave again (R110, R116). -/

namespace Sys2Proof.Machine

open Sys2Proof

/-! ### Reads of the Staging Store that a sending takes -/

theorem bankTouch_tracing (w c : Bool) (n : Nat) : ∀ (l : Nat) (s : State), (bankTouch w c n l s).obs.tracing = s.obs.tracing := by
  induction n with
  | zero => exact fun _ _ => rfl
  | succ n ih =>
    intro l s
    unfold bankTouch
    cases c
    · exact ih _ _
    · exact ih _ _

/-- The reads count at the banks alone (R9, R430). -/
theorem readRuns_spec (s : State) (rs : List (Nat × Nat)) :
    (∃ r o, s.readRuns rs = { s with regs := r, obs := o } ∧ o.tracing = s.obs.tracing) ∧ keepsRegs bankKeys s (s.readRuns rs) := by
  unfold State.readRuns
  refine List.foldlRecOn (motive := fun t => (∃ r o, t = ({ s with regs := r, obs := o } : State) ∧ o.tracing = s.obs.tracing) ∧
    keepsRegs bankKeys s t) rs _ ⟨⟨_, _, rfl, rfl⟩, .refl s⟩ fun t ht x _ => ?_
  obtain ⟨⟨r, o, e, htr⟩, hk⟩ := ht
  obtain ⟨r', o', e'⟩ := bankTouch_moves false true (lineCount x.1 x.2) (x.1 / 128) t
  have htr' := bankTouch_tracing false true (lineCount x.1 x.2) (x.1 / 128) t
  refine ⟨⟨r', o', ?_, ?_⟩, hk.trans (stgRead_keepsRegs t x.1 x.2 true) (List.Subset.refl _) (List.Subset.refl _)⟩
  · exact e'.trans (by rw [e])
  · rw [← htr, ← show t.obs.tracing = o.tracing by rw [e], ← htr']
    exact (congrArg (fun z : State => z.obs.tracing) e').symm

/-! ### A copy on its port -/

/-- What leaves of a copy on a port: a link image with the copy at its head, or a tile chunk (R110, R455). -/
def portOut (p : Nat) (bs tail : Bytes) : Out :=
  if p < 48 then .image p (if bs = [] then 2 else 1) (bs ++ tail) else .tileChunk (p - 48) bs

theorem trailer_spec (s : State) (p : Nat) : (∃ l, (s.trailer p).1 = { s with rels := l }) ∧ (s.trailer p).2.length = 64 := by
  refine ⟨⟨_, rfl⟩, ?_⟩
  unfold State.trailer
  dsimp only
  rw [List.length_append, sub_length, le_length]

/-- A wire image holds the chunk, and a trailer of 64 bytes behind it (R110). -/
theorem sendImage_spec {s : State} {p : Nat} (hup : (s.port p).up = true) (bs : Bytes) :
    ∃ l ps r tail, s.sendImage p bs =
        { s with rels := l, ports := ps, regs := r, outbox := s.outbox ++ [.image p (if bs = [] then 2 else 1) (bs ++ tail)] } ∧
      64 ≤ tail.length ∧ keepsRegs [Key.LNK_TX_FLITS p] s (s.sendImage p bs) := by
  obtain ⟨⟨l, hl⟩, hlen⟩ := trailer_spec s p
  unfold State.sendImage
  rw [if_pos hup]
  dsimp only
  rw [hl]
  generalize (s.trailer p).2 = tr at hlen
  generalize hn : State.count64 _ _ _ = z
  refine ⟨l, z.ports, z.regs, zeros (alignUp bs.length 64 - bs.length) ++ tr ++
      zeros (alignUp (bs ++ zeros (alignUp bs.length 64 - bs.length) ++ tr).length 128 -
        (bs ++ zeros (alignUp bs.length 64 - bs.length) ++ tr).length), ?_, ?_, ?_⟩
  · rw [← hn]
    simp only [← List.append_assoc, List.isEmpty_iff]
    rfl
  · simp only [List.length_append]
    omega
  · rw [← hn]
    exact keepsRegs_put (s := State.emit _ _) _ _

/-- A copy leaves unchanged on a port that is up and waits for no inversion (R110, R366). -/
theorem sendCopy_spec {s : State} {p : Nat} (h : sendsClean p s) (bs : Bytes) :
    ∃ l ps x r tail, s.sendCopy p bs = { s with rels := l, ports := ps, tileTx := x, regs := r, outbox := s.outbox ++ [portOut p bs tail] } ∧
      (p < 48 → 64 ≤ tail.length) ∧ keepsRegs [Key.LNK_TX_FLITS p, Key.TP_TX_BYTES (p - 48)] s (s.sendCopy p bs) := by
  obtain ⟨hclean, hup⟩ := h
  have hhit : s.cvu.inject.contains p = false := by simpa using hclean
  unfold State.sendCopy portOut
  simp only [hhit, Bool.false_and, Bool.false_eq_true, if_false]
  by_cases hp : p < 48
  · simp only [if_pos hp] at hup ⊢
    obtain ⟨l, ps, r, tail, e, ht, hk⟩ := sendImage_spec hup bs
    exact ⟨l, ps, s.tileTx, r, tail, e, fun _ => ht, hk.mono (by simp)⟩
  · simp only [if_neg hp] at hup ⊢
    rw [if_pos hup]
    exact ⟨_, _, _, _, [], rfl, fun h => absurd h hp, (keepsRegs_put (s := State.emit _ _) _ _).mono (by simp)⟩

theorem trace_off {s : State} (h : s.obs.tracing = false) (k : Nat) (c : Option Nat) (a : Nat) (p : Option Nat) (x y : Nat) :
    s.trace k c a p x y = s := by
  unfold State.trace
  simp [h]

theorem tracing_of_quiet {s : State} (h : quiet s = true) : s.obs.tracing = false := by
  simp only [quiet, Bool.and_eq_true, Bool.not_eq_true'] at h
  exact h.2

/-! ### Copies sent again -/

/-- A held copy sent again in the slot in force on a port. -/
def State.sentAgain (s : State) (p : Nat) (h : Held) : List Held :=
  s.helds.map (fun (x : Held) => if x = h then { x with again := false, slot := s.fslot, x := { x.x with port := p } } else x)

/-- The first waiting copy leaves again, with its bytes unchanged and its sending counted (R116). -/
theorem sendWaiting_again {s : State} {p : Nat} (hq : s.obs.tracing = false) (hclean : sendsClean p s) {h : Held} (hc : h.ctx < 8) :
    ∃ l ps x r o tail, s.sendWaiting p (.again h) =
        { s with helds := s.sentAgain p h, rels := l, ports := ps, tileTx := x, regs := r, obs := o, outbox := s.outbox ++ [portOut p h.bytes tail] } ∧
      (s.sendWaiting p (.again h)).get (Key.EXC_RESEND_COUNT h.ctx) = satAdd max32 (s.get (Key.EXC_RESEND_COUNT h.ctx)) 1 ∧
      keepsRegs (Key.EXC_RESEND_COUNT h.ctx :: Key.LNK_TX_FLITS p :: Key.TP_TX_BYTES (p - 48) :: bankKeys) s (s.sendWaiting p (.again h)) := by
  obtain ⟨v, hv⟩ : ∃ v, v = ({ s with helds := s.sentAgain p h } : State) := ⟨_, rfl⟩
  obtain ⟨⟨r, o, e, htr⟩, hk⟩ := readRuns_spec v h.reads
  obtain ⟨w, hw⟩ : ∃ w, w = v.readRuns h.reads := ⟨_, rfl⟩
  rw [← hw] at e hk
  have hcleanw : sendsClean p w := by
    rw [e, hv]
    exact hclean
  obtain ⟨l, ps, x, r', tail, e', -, hk'⟩ := sendCopy_spec hcleanw h.bytes
  obtain ⟨z, hz⟩ : ∃ z, z = w.sendCopy p h.bytes := ⟨_, rfl⟩
  rw [← hz] at e' hk'
  have hrun : s.sendWaiting p (.again h) = z.count (Key.EXC_RESEND_COUNT h.ctx) 1 := by
    have hoff : (z.count (Key.EXC_RESEND_COUNT h.ctx) 1).obs.tracing = false := by
      show z.obs.tracing = false
      rw [e', e]
      refine htr.trans ?_
      rw [hv]
      exact hq
    refine Eq.trans ?_ (trace_off hoff 0x03 (some h.ctx) ((z.count (Key.EXC_RESEND_COUNT h.ctx) 1).attemptOf h.ctx h.step) (some p)
      (p <<< 48 ||| h.x.src <<< 32 ||| h.x.seq) (h.x.piece <<< 48 ||| h.x.tile <<< 32 ||| chCrc (u h.bytes 0 64)))
    rw [hz, hw, hv]
    rfl
  have hkeep : keepsRegs (Key.LNK_TX_FLITS p :: Key.TP_TX_BYTES (p - 48) :: bankKeys) s z := by
    have hsv : keepsRegs [] s v := keepsRegs_of_regs (by rw [hv])
    exact (hsv.trans hk (List.nil_subset _) (List.Subset.refl _)).trans hk'
      (List.subset_cons_of_subset _ (List.subset_cons_self ..)) (by simp)
  have hsame : z.get (Key.EXC_RESEND_COUNT h.ctx) = s.get (Key.EXC_RESEND_COUNT h.ctx) := by
    refine hkeep _ fun hm => ?_
    rcases List.mem_cons.1 hm with hm | hm
    · simp only [Key.EXC_RESEND_COUNT, Key.LNK_TX_FLITS] at hm
      omega
    · rcases List.mem_cons.1 hm with hm | hm
      · simp only [Key.EXC_RESEND_COUNT, Key.TP_TX_BYTES] at hm
        omega
      · have := bankKeys_range hm
        simp only [Key.EXC_RESEND_COUNT] at this
        omega
  rw [hrun]
  refine ⟨l, ps, x, (z.count (Key.EXC_RESEND_COUNT h.ctx) 1).regs, o, tail, ?_, ?_, hkeep.trans (keepsRegs_put z _ _) (List.subset_cons_self ..) (by simp)⟩
  · refine Eq.trans (b := ({ z with regs := (z.count (Key.EXC_RESEND_COUNT h.ctx) 1).regs } : State)) rfl ?_
    generalize (z.count (Key.EXC_RESEND_COUNT h.ctx) 1).regs = g
    rw [e', e, hv]
  · rw [get_count_self, hsame]

/-- RESEND_QUEUE_SEND takes the first waiting copy where no tile's chunks stand before it (R116). -/
theorem resendQueueSend_again {s : State} {p : Nat} {h : Held} (hclean : sendsClean p s) (hn : s.nextAgain p = some (.again h))
    (hl : ∀ w, s.nextLateTile p = some w → lexLt w.1 [h.step, h.x.seq, h.x.dst] = false) :
    resendQueueSendOp p s = s.sendWaiting p (.again h) := by
  have hup : (if p < 48 then (s.port p).up else s.tileUp (p - 48)) = true := by
    obtain ⟨-, hup⟩ := hclean
    split
    next hp => exact (if_pos hp).mp hup
    next hp => exact (if_neg hp).mp hup
  unfold resendQueueSendOp
  rw [hup]
  simp only [hn, Bool.not_true, Bool.false_eq_true, if_false]
  split
  next w t hw ht =>
    obtain rfl : Waiting.again h = w := Option.some.inj hw
    have hlt : lexLt t.1 (Waiting.again h).key = false := hl t ht
    rw [hlt]
    rfl
  next w hw _ =>
    obtain rfl : Waiting.again h = w := Option.some.inj hw
    rfl
  all_goals contradiction

/-- Settles O42. The sending of a waiting copy moves its port, the bank counters and its own count; a deadline marks the first copy that it
finds; the one valid word of a trailer names its copy, whose buffers alone it gives back. -/
theorem copiesReleased : Obligations.CopiesReleased := by
  unfold Obligations.CopiesReleased
  intro p s hl hq
  refine ⟨fun h hclean hc hn hlate => ?_, fun seq src dst hex => ?_, fun tr hp hup hh => trailerArrival_next hl tr hp hup hh⟩
  · obtain ⟨l, ps, x, r, o, tail, e, hcount, hk⟩ := sendWaiting_again (s := s.fresh) (tracing_of_quiet hq) hclean hc
    have hrun : resendQueueSendOp p s.fresh = s.fresh.sendWaiting p (.again h) := resendQueueSend_again hclean hn hlate
    refine ⟨_, tail, next_of_actFresh (resendQueueSendOp p) hl hrun, ?_, ?_, hcount, hk, ?_⟩
    · rw [e]
      rfl
    · rw [e]
      rfl
    · rw [e]
      rfl
  · obtain ⟨h, hm, hport, hseq, hsrc, hdst, hagain, hpast⟩ := hex
    obtain ⟨g, hg⟩ := Option.isSome_iff_exists.1 (List.find?_isSome (p := fun (h : Held) => h.x.port == p && h.x.seq == seq && h.x.src == src &&
      h.x.dst == dst && !h.again && decide (h.slot + 2 * s.flight h.ctx p + 3 < s.fslot)).2 ⟨h, hm, by simp [hport, hseq, hsrc, hdst, hagain, hpast]⟩)
    have hspec := List.find?_some hg
    simp only [Bool.and_eq_true, beq_iff_eq, Bool.not_eq_true', decide_eq_true_eq] at hspec
    obtain ⟨⟨⟨⟨⟨hp', hseq'⟩, -⟩, -⟩, ha'⟩, hpast'⟩ := hspec
    have hrun : releaseDeadlineOp p seq src dst s =
        { s with helds := s.helds.map (fun (x : Held) => if x = g then { x with again := true } else x) } := by
      unfold releaseDeadlineOp
      simp only [hg]
    exact ⟨_, g, next_of_act (releaseDeadlineOp p seq src dst) hl hrun, List.mem_of_find?_eq_some hg, hp', hseq', ha', hpast', rfl⟩

end Sys2Proof.Machine

/-! SUPPORT. What pieces that are written, formed and asked buffers for leave (R9, R88, R117, R122, R241). -/

namespace Sys2Proof.Machine

open Sys2Proof

/-- Registers that a context's request for a buffer can move, beside the bank counters and those of a notice (R241 to R244). -/
def askKey (c k : Nat) : Prop :=
  k ∈ noticeKeys ∨ k ∈ bankKeys ∨ k = Key.POOL_WAIT_COUNT c ∨
    ∃ q, q < 3 ∧ (k = Key.POOL_HELD q c ∨ k = Key.POOL_FREE q ∨ k = Key.POOL_LOW q)

/-- Below the pools' registers only the interrupt causes move. -/
theorem askKey_below {c k : Nat} (hk : k < 0x500000) (hc : k ∉ causeKeys) : ¬ askKey c k := by
  rintro (h | h | h | ⟨q, -, h | h | h⟩)
  · exact hc (mem_causeKeys_of_noticeKeys h hk)
  · have := bankKeys_range h
    omega
  all_goals
    simp only [Key.POOL_WAIT_COUNT, Key.POOL_HELD, Key.POOL_FREE, Key.POOL_LOW] at h
    omega

theorem planFrame_not_askKey (c : Nat) : ¬ askKey c Key.TB_PLAN_FRAME := askKey_below (by decide) (by decide)

/-- The count of overruns of a context is none of them. -/
theorem overrun_not_askKey {c : Nat} (hc : c < 8) : ¬ askKey c (Key.TT_OVERRUN_COUNT c) := by
  have hn : ∀ k ∈ noticeKeys, k < 0x601401 ∨ 0x601409 ≤ k := by decide
  rintro (h | h | h | ⟨q, hq, h | h | h⟩)
  · have := hn _ h
    unfold Key.TT_OVERRUN_COUNT at this
    omega
  · have := bankKeys_range h
    unfold Key.TT_OVERRUN_COUNT at this
    omega
  all_goals
    simp only [Key.TT_OVERRUN_COUNT, Key.POOL_WAIT_COUNT, Key.POOL_HELD, Key.POOL_FREE, Key.POOL_LOW] at h
    omega

/-- A state without the parts that a request for a piece's buffer touches. -/
def State.beyondAsk (s : State) : State := { s.beyondStore with pools := [] }

theorem beyondAsk_of_store {s t : State} (h : t.beyondStore = s.beyondStore) : t.beyondAsk = s.beyondAsk := by
  unfold State.beyondAsk
  rw [h]

/-- What pieces of context `c` that are written and asked buffers for leave. -/
structure AskFrame (c : Nat) (s t : State) : Prop where
  beyond : t.beyondAsk = s.beyondAsk
  regs : ∀ k, ¬ askKey c k → t.get k = s.get k

namespace AskFrame
variable {c : Nat}

theorem refl (s : State) : AskFrame c s s := ⟨rfl, fun _ _ => rfl⟩

theorem trans {s t z : State} (h : AskFrame c s t) (h' : AskFrame c t z) : AskFrame c s z :=
  ⟨h'.beyond.trans h.beyond, fun k hk => (h'.regs k hk).trans (h.regs k hk)⟩

theorem foldl {α : Type} {f : State → α → State} (l : List α) (s : State) (hf : ∀ s a, AskFrame c s (f s a)) :
    AskFrame c s (l.foldl f s) :=
  List.foldlRecOn (motive := AskFrame c s) l f (refl s) fun _ h a _ => h.trans (hf _ a)

theorem of_store {s t : State} (h : StoreFrame s t) : AskFrame c s t :=
  ⟨beyondAsk_of_store h.beyond, fun k hk => h.regs k fun hm => hk (.inr (.inl hm))⟩

theorem setPool (s : State) (k : Nat) (p : PoolClass) : AskFrame c s (s.setPool k p) := ⟨rfl, fun _ _ => rfl⟩

theorem pieces (s : State) (l : List Piece) : AskFrame c s { s with pieces := l } := ⟨rfl, fun _ _ => rfl⟩

/-- A grant takes the buffer on top of the cache (R242). -/
theorem grant {s t : State} {k a : Nat} (hk : k < 3) (h : s.grant k c = some (t, a)) : AskFrame c s t := by
  cases hc : (s.pool k).cache with
  | nil =>
    unfold State.grant at h
    simp only [hc, reduceCtorEq] at h
  | cons b rest =>
    rw [grant_cons c hc] at h
    obtain ⟨rfl, -⟩ := Prod.mk.inj (Option.some.inj h)
    generalize (b - s.get (Key.POOL_BASE k)) / poolSize k = i
    obtain ⟨n, e⟩ := startRefill_replaces (s.poolTaken k c i rest) k
    rw [e]
    refine trans ⟨?_, fun j hj => poolTaken_keepsRegs i j fun hm => hj (.inr (.inr (.inr ⟨k, hk, ?_⟩)))⟩ (setPool ..)
    · obtain ⟨r, p, e'⟩ := poolTaken_moves s k c i rest
      rw [e']
      rfl
    · simpa using hm

/-- The buffer of a piece asked for (R241, R243). -/
theorem askBuffer {s : State} {p : Piece} (hc : p.key.ctx = c) : AskFrame c s (s.askBuffer p) := by
  unfold State.askBuffer
  split
  · exact refl s
  split
  · exact refl s
  next k hk =>
    have hlt : k < 3 := by
      have hm := List.mem_of_find?_eq_some hk
      simp only [List.mem_cons, List.not_mem_nil, or_false] at hm
      omega
    extract_lets z free z'
    have hz : AskFrame c s z := of_store (.setPiece ..)
    refine hz.trans ?_
    clear_value z
    rw [hc]
    split
    next t a hg =>
      have hgrant : z.grant k c = some (t, a) := by
        obtain ⟨-, h⟩ := Option.ite_none_right_eq_some.1 hg
        exact h
      exact (grant hlt hgrant).trans (of_store (.givePiece ..))
    · have hwait : AskFrame c z z' := by
        refine ⟨rfl, fun j hj => get_put_ne z _ fun e => hj (.inr (.inr (.inl ?_)))⟩
        rw [← e, hc]
      exact hwait.trans (setPool ..)

theorem addPiece {s : State} {p : Piece} (hc : p.key.ctx = c) : AskFrame c s (s.addPiece p) := by
  unfold State.addPiece
  split
  · exact refl s
  · exact (pieces ..).trans (askBuffer hc)

/-- Bytes written into a piece (R9, R88). -/
theorem pieceWrite (s : State) {k : PieceKey} (hc : k.ctx = c) (len o : Nat) (bs : Bytes) : AskFrame c s (s.pieceWrite k len o bs) := by
  unfold State.pieceWrite
  extract_lets z
  have hz : AskFrame c s z := addPiece hc
  refine hz.trans ?_
  clear_value z
  split
  · exact refl z
  · dsimp only
    split
    · exact of_store ((StoreFrame.stgWrite ..).trans (.setPiece ..))
    · exact of_store (.setPiece ..)

theorem retPut (s : State) {r : Ret} (hc : r.ctx = c) (f : RetRec) (bs : Bytes) : AskFrame c s (s.retPut r f bs).1 :=
  foldl _ s fun t _ => pieceWrite t (k := t.retKey r _) hc ..

/-- Void returns at the empty places among some of a stream (R117). -/
theorem voidAt {x : State × Ret} (hc : x.2.ctx = c) (i : Nat) : AskFrame c x.1 (State.voidAt x i).1 ∧ (State.voidAt x i).2.ctx = c := by
  unfold State.voidAt
  split
  · exact ⟨refl x.1, hc⟩
  · exact ⟨retPut _ hc .., hc⟩

theorem voidAts {x : State × Ret} (hc : x.2.ctx = c) (l : List Nat) :
    AskFrame c x.1 (l.foldl State.voidAt x).1 ∧ (l.foldl State.voidAt x).2.ctx = c :=
  List.foldlRecOn (motive := fun y : State × Ret => AskFrame c x.1 y.1 ∧ y.2.ctx = c) l _ ⟨refl x.1, hc⟩ fun _ ⟨hf, hy⟩ i _ =>
    ⟨hf.trans (voidAt hy i).1, (voidAt hy i).2⟩

end AskFrame

/-! ### Pieces formed -/

/-- A state without the parts that the forming of a return piece touches. -/
def State.beyondForm (s : State) : State := { s.beyondAsk with rets := [], audits := [], dru := {} }

/-- What return pieces of context `c` that are filled and formed leave. -/
structure FormFrame (c : Nat) (s t : State) : Prop where
  beyond : t.beyondForm = s.beyondForm
  regs : ∀ k, ¬ askKey c k → t.get k = s.get k

namespace FormFrame
variable {c : Nat}

theorem refl (s : State) : FormFrame c s s := ⟨rfl, fun _ _ => rfl⟩

theorem trans {s t z : State} (h : FormFrame c s t) (h' : FormFrame c t z) : FormFrame c s z :=
  ⟨h'.beyond.trans h.beyond, fun k hk => (h'.regs k hk).trans (h.regs k hk)⟩

theorem foldl {α : Type} {f : State → α → State} (l : List α) (s : State) (hf : ∀ s a, FormFrame c s (f s a)) :
    FormFrame c s (l.foldl f s) :=
  List.foldlRecOn (motive := FormFrame c s) l f (refl s) fun _ h a _ => h.trans (hf _ a)

theorem of_ask {s t : State} (h : AskFrame c s t) : FormFrame c s t := by
  refine ⟨?_, h.regs⟩
  unfold State.beyondForm
  rw [h.beyond]

theorem setPiece (s : State) (p : Piece) : FormFrame c s (s.setPiece p) := of_ask (.of_store (.setPiece ..))

theorem setRet (s : State) (r : Ret) : FormFrame c s (s.setRet r) := ⟨rfl, fun _ _ => rfl⟩

theorem updAudit (s : State) (d st : Nat) (f : Audit → Audit) : FormFrame c s (s.updAudit d st f) := by
  unfold State.updAudit
  split
  · exact refl s
  · exact ⟨rfl, fun _ _ => rfl⟩

theorem notePhase (s : State) (d st seq : Nat) (key : List Nat) (crc : Nat) : FormFrame c s (s.notePhase d st seq key crc) := updAudit ..

theorem rpl (s : State) (k : Nat) (d : Option Nat) (a : Nat) (b : Bool) (x y : Nat) : FormFrame c s (s.rpl k d a b x y) := by
  refine ⟨?_, fun j hj => (NoticeFrame.rpl s k d a b x y).regs j fun hm => hj (.inl hm)⟩
  obtain ⟨r, g, e⟩ := rpl_moves s k d a b x y
  rw [e]
  rfl

theorem phaseFold (s : State) (d st seq : Nat) : FormFrame c s (s.phaseFold d st seq) := by
  unfold State.phaseFold
  split
  · exact refl s
  · extract_lets got named want has own fold z
    split
    · exact refl s
    · exact (updAudit s d st _).trans (rpl ..)

theorem formReturn (s : State) {r : Ret} (hc : r.ctx = c) (j : Nat) : FormFrame c s (s.formReturn r j) := by
  unfold State.formReturn
  extract_lets k n own z
  have hz : FormFrame c s z := by
    show FormFrame c s (match s.piece k with | some p => _ | none => _)
    split
    · exact setPiece ..
    · exact of_ask (.addPiece hc)
  refine hz.trans ?_
  clear_value z
  split
  · exact (notePhase ..).trans (phaseFold ..)
  · exact refl z

theorem formReturns (s : State) {r : Ret} (hc : r.ctx = c) : FormFrame c s (s.formReturns r) := by
  unfold State.formReturns
  exact (setRet ..).trans (foldl _ _ fun t j => formReturn t hc j)

/-- The places of a refused answer filled with void returns (R117). -/
theorem fillVoids (s : State) {r : Ret} (hc : r.ctx = c) (j : Nat) : FormFrame c s (s.fillVoids r j) := by
  unfold State.fillVoids
  split
  · obtain ⟨hf, hr⟩ := AskFrame.voidAts (x := (s, r)) hc (s.retPlaces r j)
    exact ((of_ask hf).trans (setRet ..)).trans (formReturns _ hr)
  · exact refl s

theorem voidFill (s : State) (st : Nat) (x : Xfer) : FormFrame c s (s.voidFill c st x) := by
  unfold State.voidFill
  split
  · refine List.foldlRecOn (motive := FormFrame c s) _ _ (refl s) fun t ht r hr => ht.trans (fillVoids t ?_ x.piece)
    have hm := List.of_mem_filter hr
    simp only [Bool.and_eq_true, beq_iff_eq] at hm
    exact hm.1.1.1.1.1
  · exact refl s

end FormFrame

end Sys2Proof.Machine

/-! SUPPORT. Overruns, and a chunk sent for the first time (R108, R110, R188). -/

namespace Sys2Proof.Machine

open Sys2Proof

/-! ### Events and notices, also where the replay log or the trace runs -/

theorem log_moves_any (s : State) (e : Ev) :
    ∃ r d f g o, s.log e = { s with regs := r, dom := d, field := f, dru := g, obs := o } := by
  obtain ⟨a, ha⟩ : ∃ a, a = ((s.logRecord e).evStep e).2 := ⟨_, rfl⟩
  have hlog : s.log e = (((s.logRecord e).evCount e).rpl 0x04 e.ctx a false (e.cls <<< 56 ||| e.det <<< 48 ||| (e.layer.getD 0) <<< 40)
      e.word).trace 0x06 e.ctx a none e.word e.arg := by
    rw [ha]
    rfl
  obtain ⟨r, d, h⟩ := logRecord_moves s e
  obtain ⟨r', d', f, h'⟩ := evCount_moves (s.logRecord e) e
  obtain ⟨r'', g, h''⟩ := rpl_moves ((s.logRecord e).evCount e) 0x04 e.ctx a false (e.cls <<< 56 ||| e.det <<< 48 ||| (e.layer.getD 0) <<< 40) e.word
  rw [hlog, h'', h', h]
  obtain ⟨r₃, o, h₃⟩ := trace_moves { s with regs := r'', dom := d', field := f, dru := g } 0x06 e.ctx a none e.word e.arg
  exact ⟨r₃, d', f, g, o, h₃⟩

theorem actNotice_moves (s : State) (n : Notice) (from_ at_ : Nat) :
    (∃ r g o l, s.actNotice n from_ at_ = { s with regs := r, dru := g, obs := o, targets := l }) ∧
      keepsRegs noticeKeys s (s.actNotice n from_ at_) := by
  unfold State.actNotice
  split
  · exact ⟨⟨_, _, _, _, rfl⟩, .refl s⟩
  · obtain ⟨r, g, e⟩ := rpl_moves s 0x02 none 0 false n.word from_
    have hk := (NoticeFrame.rpl s 0x02 none 0 false n.word from_).regs
    generalize s.rpl 0x02 none 0 false n.word from_ = z at e hk
    dsimp only
    generalize (if n.kind = 3 then some n.arg else none) = c
    generalize (if n.kind = 3 then (z.ctx n.arg).attempt else 0) = a
    generalize (if from_ < 64 then some from_ else none) = p
    obtain ⟨r', o, e'⟩ := trace_moves z 0x05 c a p n.word from_
    have hk' := (NoticeFrame.trace z 0x05 c a p n.word from_).regs
    generalize z.trace 0x05 c a p n.word from_ = w at e' hk'
    refine ⟨⟨r', g, o, w.targets ++ [(at_, n)], ?_⟩, hk.trans hk' (List.Subset.refl _) (List.Subset.refl _)⟩
    rw [e', e]

theorem raiseNotice_moves (s : State) (n : Notice) :
    (∃ r g o l a b, s.raiseNotice n = { s with regs := r, dru := g, obs := o, targets := l, seen := a, noticeTx := b }) ∧
      keepsRegs noticeKeys s (s.raiseNotice n) := by
  unfold State.raiseNotice
  split
  · exact ⟨⟨_, _, _, _, _, _, rfl⟩, .refl s⟩
  · obtain ⟨⟨r, g, o, l, e⟩, hk⟩ := actNotice_moves (s.spreadNotice n) n 0xFF n.target
    exact ⟨⟨r, g, o, l, _, _, e⟩, hk⟩

/-- The count of a context's overruns lies apart from a notice's registers. -/
theorem overrun_not_noticeKey {c : Nat} (hc : c < 8) : Key.TT_OVERRUN_COUNT c ∉ noticeKeys := fun h => overrun_not_askKey hc (.inl h)

/-- An overrun is counted, logged and asks for a slip (R188). -/
theorem overrun_spec (s : State) {c : Nat} (hc : c < 8) (st ready : Nat) (layer : Option Nat) :
    (∃ r d f g o l a b, s.overrun c st ready layer =
      { s with regs := r, dom := d, field := f, dru := g, obs := o, targets := l, seen := a, noticeTx := b }) ∧
    (s.overrun c st ready layer).get (Key.TT_OVERRUN_COUNT c) = satAdd max32 (s.get (Key.TT_OVERRUN_COUNT c)) 1 := by
  unfold State.overrun
  obtain ⟨v, hv⟩ : ∃ v, v = s.count (Key.TT_OVERRUN_COUNT c) 1 := ⟨_, rfl⟩
  have hcount : v.get (Key.TT_OVERRUN_COUNT c) = satAdd max32 (s.get (Key.TT_OVERRUN_COUNT c)) 1 := by
    rw [hv]
    exact get_count_self ..
  have hvs : v = { s with regs := v.regs } := by
    rw [hv]
    rfl
  rw [← hv]
  dsimp only
  obtain ⟨r, d, f, g, o, e⟩ := log_moves_any v { cls := Ec.overrun, det := 0x01, dom := 23, ctx := some c, step := some st, layer := layer,
                                                 arg := v.frameInStep c <<< 16 }
  have hk := (NoticeFrame.log v { cls := Ec.overrun, det := 0x01, dom := 23, ctx := some c, step := some st, layer := layer,
                                  arg := v.frameInStep c <<< 16 }).regs
  generalize v.log _ = w at e hk
  unfold State.requestSlip
  obtain ⟨u, hu⟩ : ∃ u, u = w.count Key.SLIP_REQ_COUNT 1 := ⟨_, rfl⟩
  have hus : u = { w with regs := u.regs } := by
    rw [hu]
    rfl
  have hslip : u.get (Key.TT_OVERRUN_COUNT c) = w.get (Key.TT_OVERRUN_COUNT c) := by
    rw [hu]
    refine get_put_ne w _ ?_
    unfold Key.SLIP_REQ_COUNT Key.TT_OVERRUN_COUNT
    omega
  rw [← hu]
  obtain ⟨⟨r', g', o', l, a, b, e'⟩, hk'⟩ := raiseNotice_moves u { kind := 1, target := ceilDiv (ready + w.noticeSpan c) 2304, arg := 0 }
  refine ⟨⟨r', d, f, g', o', l, a, b, ?_⟩, ?_⟩
  · rw [e', hus, e, hvs]
  · rw [hk' _ (overrun_not_noticeKey hc), hslip, hk _ (overrun_not_noticeKey hc), hcount]

/-! ### The first sending of a chunk -/

/-- The bytes of a chunk on its port: a pad-only one has no payload (R110). -/
def chunkBytes (hdr : Nat) (payload : Bytes) : Bytes := le 64 hdr ++ (if chPad hdr then [] else payload)

/-- The copy that is held of a chunk sent now (R116). -/
def State.newHeld (s : State) (c st : Nat) (x : Xfer) (hdr : Nat) (payload : Bytes) (reads : List (Nat × Nat)) : Held :=
  { ctx := c, step := st, x := x, bytes := chunkBytes hdr payload, slot := s.fslot, stamp := s.stamp, reads := reads }

/-- The series of tile-port chunks past the first sending of a chunk (R108, R455). -/
def State.seriesPast (s : State) (c st : Nat) (x : Xfer) : List Series :=
  if x.port < 48 then s.series else (s.setSeq c st (x.port - 48) true (x.seq + 1)).series

/-- The first sending of a chunk puts its bytes on the port and holds the copy (R108, R110, R116). -/
theorem sendFirst_spec {s : State} (c st : Nat) {x : Xfer} (hclean : sendsClean x.port s) (hdr : Nat) (payload : Bytes) (reads : List (Nat × Nat)) :
    ∃ l ps tx r o m tail, s.sendFirst c st x hdr payload reads =
        { s with rels := l, ports := ps, tileTx := tx, regs := r, obs := o, meter := m, series := s.seriesPast c st x,
                 outbox := s.outbox ++ [portOut x.port (chunkBytes hdr payload) tail],
                 helds := s.helds ++ [s.newHeld c st x hdr payload reads] } ∧
      (x.port < 48 → 64 ≤ tail.length) ∧
      keepsRegs (Key.LNK_TX_FLITS x.port :: Key.TP_TX_BYTES (x.port - 48) :: bankKeys) s (s.sendFirst c st x hdr payload reads) := by
  obtain ⟨⟨r, o, e, -⟩, hk⟩ := readRuns_spec s reads
  obtain ⟨w, hw⟩ : ∃ w, w = s.readRuns reads := ⟨_, rfl⟩
  rw [← hw] at e hk
  have hcleanw : sendsClean x.port w := by
    rw [e]
    exact hclean
  obtain ⟨l, ps, tx, r', tail, e', ht, hk'⟩ := sendCopy_spec hcleanw (chunkBytes hdr payload)
  obtain ⟨z, hz⟩ : ∃ z, z = w.sendCopy x.port (chunkBytes hdr payload) := ⟨_, rfl⟩
  rw [← hz] at e' hk'
  have hkeep : keepsRegs (Key.LNK_TX_FLITS x.port :: Key.TP_TX_BYTES (x.port - 48) :: bankKeys) s z :=
    hk.trans hk' (List.subset_cons_of_subset _ (List.subset_cons_self ..)) (by simp)
  have hplan : z.planFrame = s.planFrame := by
    refine hkeep _ fun hm => ?_
    rcases List.mem_cons.1 hm with hm | hm
    · simp only [Key.TB_PLAN_FRAME, Key.LNK_TX_FLITS] at hm
      omega
    · rcases List.mem_cons.1 hm with hm | hm
      · simp only [Key.TB_PLAN_FRAME, Key.TP_TX_BYTES] at hm
        omega
      · have := bankKeys_range hm
        simp only [Key.TB_PLAN_FRAME] at this
        omega
  obtain ⟨v, hv⟩ : ∃ v, v = z.tap 4 c (64 + (if chPad hdr then 0 else chLen hdr)) := ⟨_, rfl⟩
  obtain ⟨u, hu⟩ : ∃ u, u = (if x.port < 48 then v else v.setSeq c st (x.port - 48) true (x.seq + 1)) := ⟨_, rfl⟩
  have hrun : s.sendFirst c st x hdr payload reads = { u with helds := u.helds ++ [u.newHeld c st x hdr payload reads] } := by
    rw [hu, hv, hz, hw]
    rfl
  have huz : u = { z with meter := v.meter, series := z.seriesPast c st x } := by
    rw [hu, hv]
    unfold State.seriesPast
    split <;> rfl
  have hheld : u.newHeld c st x hdr payload reads = s.newHeld c st x hdr payload reads := by
    unfold State.newHeld State.stamp
    rw [show u.planFrame = s.planFrame from (by rw [huz]; exact hplan)]
    rw [huz, e', e]
    rfl
  rw [hrun, hheld]
  refine ⟨l, ps, tx, r', o, v.meter, tail, ?_, ht, fun k hn => ?_⟩
  · rw [huz, e', e]
    rfl
  · refine Eq.trans ?_ (hkeep k hn)
    rw [huz]
    rfl

end Sys2Proof.Machine

/-! SUPPORT. SEND of a chunk that is complete, and of one that is late (R110, R188). -/

namespace Sys2Proof.Machine

open Sys2Proof

theorem sendsClean_of_form {s t : State} (h : t.beyondForm = s.beyondForm) {p : Nat} (hs : sendsClean p s) : sendsClean p t := by
  have hcvu : t.cvu = s.cvu := (congrArg State.cvu h :)
  have hports : t.ports = s.ports := (congrArg State.ports h :)
  have htp : t.tpUp = s.tpUp := (congrArg State.tpUp h :)
  unfold sendsClean State.port State.tileUp at *
  rw [hcvu, hports, htp]
  exact hs

/-- A SEND carries its chunk on its own port. -/
theorem sendReady_port {s : State} {c st : Nat} {x : Xfer} {r : Ready} (h : s.sendReady c st x = some r) : r.x.port = x.port := by
  unfold State.sendReady at h
  split at h
  · split at h
    · obtain ⟨-, h⟩ := Option.ite_none_right_eq_some.1 h
      rw [← Option.some.inj h]
    · contradiction
  · unfold State.collChunk at h
    split at h
    · contradiction
    · extract_lets y k a b at h
      have hy : y.port = x.port := by
        show (if _ then _ else _ : Xfer).port = x.port
        split <;> rfl
      split at h
      · rw [← Option.some.inj h]
        exact hy
      · obtain ⟨bs, -, h⟩ := Option.map_eq_some_iff.1 h
        rw [← h]
        exact hy
  · split at h
    · obtain ⟨-, h⟩ := Option.ite_none_right_eq_some.1 h
      rw [← Option.some.inj h]
    · contradiction
  · split at h
    · obtain ⟨-, h⟩ := Option.ite_none_right_eq_some.1 h
      rw [← Option.some.inj h]
      rfl
    · obtain ⟨-, h⟩ := Option.ite_none_right_eq_some.1 h
      rw [← Option.some.inj h]
      rfl

/-- Before it leaves, a complete chunk of its planned length is noted; nothing of the exchange moves (R218, R229). -/
theorem sendChunk_spec (s : State) (c st : Nat) (x : Xfer) {r : Ready} (hr : r.short = false) :
    ∃ w : State, s.sendChunk c st x r = w.sendFirst c st r.x r.hdr r.bytes r.reads ∧ w.beyondForm = s.beyondForm ∧ w.planFrame = s.planFrame := by
  have hplan : ∀ {u v : State}, FormFrame c u v → v.planFrame = u.planFrame := fun h => h.regs _ (planFrame_not_askKey c)
  obtain ⟨v, hv⟩ : ∃ v, v = (match r.key with
    | some k => (match s.piece k with | some p => s.setPiece { p with sent := true } | none => s)
    | none => s) := ⟨_, rfl⟩
  have hfv : FormFrame c s v := by
    rw [hv]
    split
    · split
      · exact .setPiece ..
      · exact .refl s
    · exact .refl s
  obtain ⟨w, hw⟩ : ∃ w, w = (if x.source = 1 || x.source = 6 then
      (v.notePhase c st (sigSeq x.sig) [x.layer, x.tile, x.src, x.dst, x.piece] (chCrc r.hdr)).phaseFold c st (sigSeq x.sig)
    else if x.source = 4 then
      (v.updAudit c st (fun a => { a with deliv := a.deliv ++ [(x.layer, x.seq, chCrc r.hdr)] })).count (Key.BWD_ZERO_VISIT c)
        (v.zeroVisits c st x)
    else v) := ⟨_, rfl⟩
  have hrun : s.sendChunk c st x r = w.sendFirst c st r.x r.hdr r.bytes r.reads := by
    rw [hw, hv]
    unfold State.sendChunk
    simp only [hr, Bool.false_and, Bool.false_eq_true, if_false] <;> rfl
  have hfw : w.beyondForm = v.beyondForm ∧ w.planFrame = v.planFrame := by
    rw [hw]
    split
    · have h : FormFrame c v _ := (FormFrame.notePhase v c st (sigSeq x.sig) [x.layer, x.tile, x.src, x.dst, x.piece] (chCrc r.hdr)).trans
        (.phaseFold _ c st (sigSeq x.sig))
      exact ⟨h.beyond, hplan h⟩
    split
    · have h : FormFrame c v _ := .updAudit v c st (fun a => { a with deliv := a.deliv ++ [(x.layer, x.seq, chCrc r.hdr)] })
      refine ⟨h.beyond, (get_put_ne _ _ ?_).trans (hplan h)⟩
      unfold Key.BWD_ZERO_VISIT Key.TB_PLAN_FRAME
      omega
    · exact ⟨rfl, rfl⟩
  exact ⟨w, hrun, hfw.1.trans hfv.beyond, hfw.2.trans (hplan hfv)⟩

/-- A trailer alone on the port of a SEND whose chunk does not leave. -/
theorem sendEmpty_moves (s : State) (p : Nat) :
    (∃ l ps r o, (if p < 48 then s.sendImage p [] else s) = { s with rels := l, ports := ps, regs := r, outbox := o }) ∧
      keepsRegs [Key.LNK_TX_FLITS p] s (if p < 48 then s.sendImage p [] else s) := by
  split
  · by_cases hup : (s.port p).up = true
    · obtain ⟨l, ps, r, tail, e, -, hk⟩ := sendImage_spec hup []
      exact ⟨⟨l, ps, r, _, e⟩, hk⟩
    · unfold State.sendImage
      rw [if_neg hup]
      exact ⟨⟨_, _, _, _, rfl⟩, .refl s⟩
  · exact ⟨⟨_, _, _, _, rfl⟩, .refl s⟩

section Send
variable {c : Nat} {x : Xfer} {s : State} (hq : quiet s = true) (hm : s.mayIssue c 0x02 (xferFields x) = true)
include hq hm

/-- A SEND issued, with the void returns in the places of a refused answer. -/
theorem atSend_spec : ∃ m, (atSend c x s).beyondForm = ({ s.fresh with issuedCmds := s.issuedCmds ++ [(c, m)] } : State).beyondForm ∧
    ∀ k, ¬ askKey c k → (atSend c x s).get k = s.get k := by
  obtain ⟨m, hi⟩ := issue_quiet (s := s.fresh) hq (some x.port) hm
  have hf : FormFrame c (s.fresh.issue c 0x02 (xferFields x) (some x.port)) (atSend c x s) := .voidFill _ (s.step c) x
  rw [hi] at hf
  exact ⟨m, hf.beyond, hf.regs⟩

theorem sendOp_split (hlates : ∀ l, l ∈ s.lates → ¬ (l.ctx = c ∧ l.step = s.step c ∧ l.x = x))
    (hsome : (atSend c x s).sendNothing c (s.step c) x = false) :
    sendOp c x s.fresh = match (atSend c x s).sendReady c (s.step c) x with
      | some r => (atSend c x s).sendChunk c (s.step c) x r
      | none =>
        let t := (atSend c x s).lateSend { ctx := c, step := s.step c, x := x } (((atSend c x s).fslot - 1) * 9)
        if x.port < 48 then t.sendImage x.port [] else t := by
  obtain ⟨m, hb, -⟩ := atSend_spec hq hm
  have hsame : (atSend c x s).lates = s.lates := (congrArg State.lates hb :)
  have hnone : (atSend c x s).lates.any (fun (l : Late) => l.ctx == c && l.step == s.step c && l.x == x) = false := by
    rw [hsame, List.any_eq_false]
    intro l hl h
    simp only [Bool.and_eq_true, beq_iff_eq] at h
    exact hlates l hl ⟨h.1.1, h.1.2, h.2⟩
  unfold sendOp
  rw [if_pos (show s.fresh.mayIssue c 0x02 (xferFields x) = true from hm)]
  show (if (atSend c x s).lates.any (fun (l : Late) => l.ctx == c && l.step == s.step c && l.x == x) then _
    else if (atSend c x s).sendNothing c (s.step c) x then _ else _) = _
  rw [hnone, hsome]
  rfl

end Send

/-- What stands from the issue of a SEND up to the sending itself. -/
structure SendStands (c m : Nat) (s t : State) : Prop where
  issued : t.issuedCmds = s.issuedCmds ++ [(c, m)]
  outbox : t.outbox = s.outbox
  helds : t.helds = s.helds
  lates : t.lates = s.lates
  time : t.time = s.time
  ctxs : t.ctxs = s.ctxs
  dom : t.dom = s.dom
  env : t.env = s.env
  queues : t.queues = s.queues
  wins : t.wins = s.wins
  expects : t.expects = s.expects

theorem sendStands_of_form {c m : Nat} {s t : State}
    (h : t.beyondForm = ({ s.fresh with issuedCmds := s.issuedCmds ++ [(c, m)] } : State).beyondForm) : SendStands c m s t where
  issued := (congrArg State.issuedCmds h :)
  outbox := (congrArg State.outbox h :)
  helds := (congrArg State.helds h :)
  lates := (congrArg State.lates h :)
  time := (congrArg State.time h :)
  ctxs := (congrArg State.ctxs h :)
  dom := (congrArg State.dom h :)
  env := (congrArg State.env h :)
  queues := (congrArg State.queues h :)
  wins := (congrArg State.wins h :)
  expects := (congrArg State.expects h :)

section Next
variable {c : Nat} {x : Xfer} {s : State} (hl : s.live = true) (hq : quiet s = true) (hm : s.mayIssue c 0x02 (xferFields x) = true)
  (hlates : ∀ l, l ∈ s.lates → ¬ (l.ctx = c ∧ l.step = s.step c ∧ l.x = x)) (hsome : (atSend c x s).sendNothing c (s.step c) x = false)
include hl hq hm hlates hsome

/-- SEND of a complete chunk (R110, R116). -/
theorem send_complete {r : Ready} (hclean : sendsClean x.port s) (hshort : r.short = false)
    (hready : (atSend c x s).sendReady c (s.step c) x = some r) :
    ∃ t tail h, exec (.send c x) s = .next t ∧
      t.outbox = s.outbox ++ [if x.port < 48 then .image x.port 1 (chunkBytes r.hdr r.bytes ++ tail)
        else .tileChunk (x.port - 48) (chunkBytes r.hdr r.bytes)] ∧
      (x.port < 48 → 64 ≤ tail.length) ∧ marked c s t ∧
      t.helds = s.helds ++ [h] ∧ h.ctx = c ∧ h.step = s.step c ∧ h.x = r.x ∧ h.x.port = x.port ∧ h.slot = s.fslot ∧
      h.stamp = s.stamp ∧ h.again = false ∧ h.bytes = chunkBytes r.hdr r.bytes ∧
      t.ctxs = s.ctxs ∧ t.dom = s.dom ∧ t.env = s.env ∧ t.queues = s.queues ∧ t.wins = s.wins ∧ t.expects = s.expects := by
  obtain ⟨m, hb, hregs⟩ := atSend_spec hq hm
  have hsplit := sendOp_split hq hm hlates hsome
  rw [hready] at hsplit
  have hport := sendReady_port hready
  obtain ⟨w, hrun, hw, hplan⟩ := sendChunk_spec (atSend c x s) c (s.step c) x hshort
  have hcleanw : sendsClean r.x.port w := hport ▸ sendsClean_of_form (hw.trans hb) hclean
  have hpf : w.planFrame = s.planFrame := hplan.trans (hregs _ (planFrame_not_askKey c))
  have hstands : SendStands c m s w := sendStands_of_form (hw.trans hb)
  obtain ⟨l, ps, tx, g, o, mt, tail, e, ht, -⟩ := sendFirst_spec c (s.step c) hcleanw r.hdr r.bytes r.reads
  refine ⟨_, tail, w.newHeld c (s.step c) r.x r.hdr r.bytes r.reads, next_of_actFresh (sendOp c x) hl (hsplit.trans (hrun.trans e)), ?_, hport ▸ ht,
    ⟨m, hstands.issued⟩, congrArg (· ++ _) hstands.helds, rfl, rfl, rfl, hport, ?_, ?_, rfl, rfl, hstands.ctxs, hstands.dom, hstands.env,
    hstands.queues, hstands.wins, hstands.expects⟩
  · have hne : chunkBytes r.hdr r.bytes ≠ [] := fun h => by simpa [chunkBytes] using congrArg List.length h
    show w.outbox ++ [portOut r.x.port _ _] = _
    rw [hstands.outbox, portOut, hport, if_neg hne]
  · show w.fslot = s.fslot
    unfold State.fslot State.frame State.slot State.off State.tick
    rw [hstands.time]
  · show w.stamp = s.stamp
    unfold State.stamp State.off State.tick
    rw [hstands.time, hpf]

/-- SEND of a chunk that is late (R188). -/
theorem send_late (hc : c < 8) (hready : (atSend c x s).sendReady c (s.step c) x = none) :
    ∃ t, exec (.send c x) s = .next t ∧ marked c s t ∧ t.helds = s.helds ∧
      t.lates = s.lates ++ [{ ctx := c, step := s.step c, x := x }] ∧
      t.get (Key.TT_OVERRUN_COUNT c) = satAdd max32 (s.get (Key.TT_OVERRUN_COUNT c)) 1 ∧
      t.ctxs = s.ctxs ∧ t.env = s.env ∧ t.queues = s.queues ∧ t.wins = s.wins ∧ t.expects = s.expects := by
  obtain ⟨m, hb, hregs⟩ := atSend_spec hq hm
  have hsplit := sendOp_split hq hm hlates hsome
  rw [hready] at hsplit
  have hstands : SendStands c m s (atSend c x s) := sendStands_of_form hb
  have hzero := hregs _ (overrun_not_askKey hc)
  generalize atSend c x s = v at hsplit hstands hzero
  obtain ⟨⟨r, d, f, g, o, tg, a, b, e⟩, hcount⟩ := overrun_spec v hc (s.step c) ((v.fslot - 1) * 9) (some x.layer)
  obtain ⟨u, hu⟩ : ∃ u, u = v.overrun c (s.step c) ((v.fslot - 1) * 9) (some x.layer) := ⟨_, rfl⟩
  rw [← hu] at e hcount
  obtain ⟨z, hz⟩ : ∃ z, z = ({ u with lates := u.lates ++ [{ ctx := c, step := s.step c, x := x }] } : State) := ⟨_, rfl⟩
  have hop : sendOp c x s.fresh = if x.port < 48 then z.sendImage x.port [] else z := by
    rw [hsplit, hz, hu]
    rfl
  have hget : z.get (Key.TT_OVERRUN_COUNT c) = satAdd max32 (s.get (Key.TT_OVERRUN_COUNT c)) 1 := by
    rw [hz, ← hzero]
    exact hcount
  rw [e] at hz
  obtain ⟨⟨l', ps', r', o', e'⟩, hk'⟩ := sendEmpty_moves z x.port
  rw [← hop] at e' hk'
  have hget' : (sendOp c x s.fresh).get (Key.TT_OVERRUN_COUNT c) = satAdd max32 (s.get (Key.TT_OVERRUN_COUNT c)) 1 := by
    refine (hk' _ ?_).trans hget
    simp only [List.mem_singleton, Key.TT_OVERRUN_COUNT, Key.LNK_TX_FLITS]
    omega
  rw [e', hz] at hget'
  rw [hz] at e'
  exact ⟨_, next_of_actFresh (sendOp c x) hl e', ⟨m, hstands.issued⟩, hstands.helds, congrArg (· ++ _) hstands.lates, hget', hstands.ctxs,
    hstands.env, hstands.queues, hstands.wins, hstands.expects⟩

end Next

/-- Settles O40. What comes before the chunk's own sending (its marks, notes and void returns) moves nothing of the exchange, so a complete
chunk leaves as it stands; of a late one the overrun is counted. -/
theorem chunkSent : Obligations.ChunkSent := by
  unfold Obligations.ChunkSent
  exact fun c x s hl hq hm hlates hsome =>
    ⟨fun r hclean hshort hready => send_complete hl hq hm hlates hsome hclean hshort hready,
     fun hc hready => send_late hl hq hm hlates hsome hc hready⟩

end Sys2Proof.Machine

/-! SUPPORT. The places that a TILE_SEND reads, and the headers of its chunks (R117, R119). -/

namespace Sys2Proof.Machine

open Sys2Proof

/-! ### Places -/

/-- A place whose record is lost, or not committed (R117, R119). -/
def State.placeVoid (s : State) (k : PieceKey) (reclen i : Nat) : Bool :=
  match s.spanPieces k (i * reclen) reclen with | some ps => ps.any Piece.void | none => true

/-- What a place sends: its record, unless it is lost or a pad (R119). -/
def State.placeSent (s : State) (k : PieceKey) (reclen i : Nat) : List (Nat × Bytes) :=
  if s.placeVoid k reclen i || (hdrOf (s.spanBytes k (i * reclen) reclen)).pad then [] else [(i, s.spanBytes k (i * reclen) reclen)]

/-- A place read is a void return, a pad answered at once, or its record sent; the bytes are those of the state before. -/
theorem readPlace_spec (o : State) (k : PieceKey) (reclen port : Nat) {c : Nat} {acc : State × Ret × List (Nat × Bytes)} (hc : acc.2.1.ctx = c)
    (i : Nat) : AskFrame c acc.1 (readPlace o k reclen port acc i).1 ∧ (readPlace o k reclen port acc i).2.1.ctx = c ∧
      (readPlace o k reclen port acc i).2.2 = acc.2.2 ++ o.placeSent k reclen i := by
  obtain ⟨v, hv⟩ : ∃ v, v = o.placeVoid k reclen i := ⟨_, rfl⟩
  have hsent : o.placeSent k reclen i = if v || (hdrOf (o.spanBytes k (i * reclen) reclen)).pad then [] else
      [(i, o.spanBytes k (i * reclen) reclen)] := by rw [hv]; rfl
  have hread : readPlace o k reclen port acc i =
      if v then ((State.voidAt (acc.1, acc.2.1) i).1, (State.voidAt (acc.1, acc.2.1) i).2, acc.2.2)
      else if (hdrOf (o.spanBytes k (i * reclen) reclen)).pad then
        if (acc.2.1.at_ i).isSome then acc
        else
          let x := acc.1.retPut acc.2.1 { place := i, pad := true, at_ := acc.1.time.ticks }
            (hdrBytes { hdrOf (o.spanBytes k (i * reclen) reclen) with kind := acc.2.1.kind, fmt := acc.1.retFmt acc.2.1 })
          (x.1, x.2, acc.2.2)
      else (acc.1, { acc.2.1 with sent := acc.2.1.sent ++ [(i, port, hdrOf (o.spanBytes k (i * reclen) reclen))] },
        acc.2.2 ++ [(i, o.spanBytes k (i * reclen) reclen)]) := by
    rw [hv]
    rfl
  rw [hread, hsent]
  generalize o.spanBytes k (i * reclen) reclen = bs
  cases v with
  | true =>
    obtain ⟨hf, hr⟩ := AskFrame.voidAt (x := (acc.1, acc.2.1)) hc i
    exact ⟨hf, hr, (List.append_nil _).symm⟩
  | false =>
    cases hp : (hdrOf bs).pad with
    | true =>
      by_cases hat : (acc.2.1.at_ i).isSome = true
      · simp only [hat, if_true, Bool.false_or, Bool.false_eq_true, if_false]
        exact ⟨.refl _, hc, (List.append_nil _).symm⟩
      · simp only [hat, Bool.false_or, Bool.false_eq_true, if_false, if_true]
        exact ⟨.retPut _ hc .., hc, (List.append_nil _).symm⟩
    | false => exact ⟨.refl _, hc, rfl⟩

/-- The places of a TILE_SEND read in order (R119). -/
theorem readPlaces_spec (o : State) (k : PieceKey) (reclen port first : Nat) {c : Nat} (l : List Nat) {acc : State × Ret × List (Nat × Bytes)}
    (hc : acc.2.1.ctx = c) :
    AskFrame c acc.1 (l.foldl (fun a i => readPlace o k reclen port a (first + i)) acc).1 ∧
      (l.foldl (fun a i => readPlace o k reclen port a (first + i)) acc).2.1.ctx = c ∧
      (l.foldl (fun a i => readPlace o k reclen port a (first + i)) acc).2.2 = acc.2.2 ++ l.flatMap (fun i => o.placeSent k reclen (first + i)) := by
  induction l generalizing acc with
  | nil => exact ⟨.refl _, hc, (List.append_nil _).symm⟩
  | cons i l ih =>
    obtain ⟨hf, hr, hs⟩ := readPlace_spec o k reclen port hc (first + i)
    obtain ⟨hf', hr', hs'⟩ := ih hr
    exact ⟨hf.trans hf', hr', by rw [List.foldl_cons, hs', hs, List.flatMap_cons, List.append_assoc]⟩

/-- The records sent, one behind the other, are the egress records. -/
theorem egressRecords_eq (k : PieceKey) (reclen first count : Nat) (s : State) :
    (((List.range count).flatMap (fun i => s.placeSent k reclen (first + i))).map (·.2)).flatten = egressRecords k reclen first count s := by
  unfold egressRecords
  generalize List.range count = l
  induction l with
  | nil => rfl
  | cons i l ih =>
    rw [List.flatMap_cons, List.map_append, List.flatten_append, ih, List.flatMap_cons]
    congr 1
    show ((s.placeSent k reclen (first + i)).map (·.2)).flatten = if s.placeVoid k reclen (first + i) || _ then [] else _
    unfold State.placeSent
    split <;> simp

theorem placeSent_length (s : State) (k : PieceKey) (reclen i : Nat) : (((s.placeSent k reclen i).map (·.2)).flatten).length ≤ reclen := by
  have hlen : (s.spanBytes k (i * reclen) reclen).length ≤ reclen := by
    unfold State.spanBytes
    split
    · rw [sub_length]
    · exact Nat.zero_le _
  unfold State.placeSent
  split
  · exact Nat.zero_le _
  · simpa using hlen

theorem egressRecords_length (k : PieceKey) (reclen first count : Nat) (s : State) :
    (egressRecords k reclen first count s).length ≤ count * reclen := by
  rw [← egressRecords_eq]
  induction count with
  | zero => simp
  | succ n ih =>
    have hlast := placeSent_length s k reclen (first + n)
    rw [List.range_succ, List.flatMap_append, List.map_append, List.flatten_append, List.length_append, List.flatMap_singleton, Nat.succ_mul]
    omega

/-- A record is shorter than 2^20 bytes (Table 2.3). -/
theorem tileLen_lt (s : State) (c layer dir : Nat) : s.tileLen c layer dir < 2 ^ 20 := by
  have hd : ∀ l : Bytes, lyD l < 2 ^ 16 := fun l => by
    refine Nat.lt_of_lt_of_le (unle_lt _) ?_
    exact Nat.pow_le_pow_right (by decide) (List.length_take_le _ _)
  have hbits : ∀ f, fmtBits f ≤ 32 := fun f => by
    unfold fmtBits
    split <;> decide
  unfold State.tileLen
  dsimp only
  generalize (if dir = 1 then lyBwd (s.layer c layer) else lyDisp (s.layer c layer)) = f
  have hlt := hd (s.layer c layer)
  generalize lyD (s.layer c layer) = d at hlt
  have hpack : packLen f d ≤ d * 4 := by
    unfold packLen
    have := Nat.mul_le_mul_left d (hbits f)
    omega
  have hscale : (if fmtScaled f then d / 32 else 0) ≤ d := by
    split <;> omega
  unfold recordLen payloadLen alignUp ceilDiv
  omega

/-! ### Headers -/

theorem testBit_shiftLeft_below {v n m i : Nat} (hv : v < 2 ^ m) (h : n + m ≤ i) : (v <<< n).testBit i = false := by
  rw [Nat.testBit_shiftLeft, Nat.testBit_lt_two_pow (Nat.lt_of_lt_of_le hv (Nat.pow_le_pow_right (by decide) (by omega))), Bool.and_false]

theorem testBit_shiftLeft_above {v n i : Nat} (h : i < n) : (v <<< n).testBit i = false := by
  rw [Nat.testBit_shiftLeft, decide_eq_false (by omega), Bool.false_and]

/-- A chunk that is not pad-only has the pad bit clear in its header, its other fields keeping to their width (Table 5.2). -/
theorem chPad_header {k : Chunk} (hpad : k.pad = false) (hfirst : k.first < 2 ^ 12) (hcount : k.count < 2 ^ 20) (hlen : k.x.len < 2 ^ 36)
    (hqueue : k.x.queue < 2 ^ 52) (hsrc : k.x.src < 2 ^ 68) (hdst : k.x.dst < 2 ^ 84) (hseq : k.x.seq < 2 ^ 116) (hctx : k.ctx < 2 ^ 124)
    (hlayer : k.x.layer < 2 ^ 132) (payload : Bytes) : chPad (k.header payload) = false := by
  have hstep : k.step % 2 ^ 48 < 2 ^ 48 := Nat.mod_lt _ (by decide)
  unfold chPad Chunk.header Chunk.bits0
  dsimp only
  rw [bit_eq_testBit]
  simp only [Nat.testBit_or, testBit_shiftLeft_above (show 180 < 448 by decide), testBit_shiftLeft_above (show 180 < 384 by decide),
    testBit_shiftLeft_above (show 180 < 224 by decide), testBit_shiftLeft_above (show 180 < 208 by decide),
    testBit_shiftLeft_above (show 180 < 192 by decide), testBit_shiftLeft_below hfirst (show 168 + 12 ≤ 180 by decide),
    testBit_shiftLeft_below hcount (show 160 + 20 ≤ 180 by decide), testBit_shiftLeft_below hlen (show 144 + 36 ≤ 180 by decide),
    testBit_shiftLeft_below hqueue (show 128 + 52 ≤ 180 by decide), testBit_shiftLeft_below hsrc (show 112 + 68 ≤ 180 by decide),
    testBit_shiftLeft_below hdst (show 96 + 84 ≤ 180 by decide), testBit_shiftLeft_below hseq (show 64 + 116 ≤ 180 by decide),
    testBit_shiftLeft_below hctx (show 56 + 124 ≤ 180 by decide), testBit_shiftLeft_below hlayer (show 48 + 132 ≤ 180 by decide),
    hpad, b2n, Nat.testBit_lt_two_pow (Nat.lt_trans hstep (show 2 ^ 48 < 2 ^ 180 by decide))]
  decide

/-- The first record header in a piece lies in its first bytes, and a piece of `n` bytes has at most `n` (R105). -/
theorem headsIn_bounds {reclen a n : Nat} (hn : n ≤ 4096) : (headsIn reclen a n).1 < 2 ^ 12 ∧ (headsIn reclen a n).2 ≤ 4096 := by
  unfold headsIn
  dsimp only
  split
  next h =>
    have hle : a ≤ alignUp a reclen ∨ reclen = 0 := by
      rcases Nat.eq_zero_or_pos reclen with h0 | hpos
      · exact .inr h0
      · refine .inl ?_
        unfold alignUp ceilDiv
        have := Nat.div_add_mod (a + reclen - 1) reclen
        have hm := Nat.mod_lt (a + reclen - 1) hpos
        rw [Nat.mul_comm] at this
        omega
    rcases hle with hle | h0
    · refine ⟨by simp only; omega, ?_⟩
      simp only
      generalize hx : a + n - alignUp a reclen = x
      have hpos : 1 ≤ x := by omega
      have hxn : x ≤ 4096 := by omega
      refine le_trans ?_ hxn
      unfold ceilDiv
      rcases Nat.eq_zero_or_pos reclen with hr | hr
      · simp [hr]
      · refine (Nat.div_le_iff_le_mul_add_pred hr).2 ?_
        have := Nat.mul_le_mul_right x hr
        have h2 : reclen ≤ reclen * x := Nat.le_mul_of_pos_right _ hpos
        rw [Nat.one_mul] at this
        omega
    · subst h0
      simp [alignUp, ceilDiv]
  · exact ⟨by decide, by decide⟩

end Sys2Proof.Machine

/-! SUPPORT. TILE_SEND of places that have committed (R119, R120, R455). -/

namespace Sys2Proof.Machine

open Sys2Proof

/-! ### The series of a tile port -/

theorem nextSeq_of_series {s t : State} (h : t.series = s.series) (c st port : Nat) (b : Bool) : t.nextSeq c st port b = s.nextSeq c st port b := by
  unfold State.nextSeq
  rw [h]

theorem nextSeq_setSeq (s : State) (c st port : Nat) (b : Bool) (n : Nat) : (s.setSeq c st port b n).nextSeq c st port b = n := by
  unfold State.nextSeq State.setSeq
  have hnone : (s.series.filter (fun (x : Series) => !(x.ctx == c && x.step == st && x.port == port && x.toTile == b))).find?
      (fun (x : Series) => x.ctx == c && x.step == st && x.port == port && x.toTile == b) = none := by
    rw [List.find?_eq_none]
    intro x hx hp
    have := (List.mem_filter.1 hx).2
    rw [hp] at this
    exact absurd this (by decide)
  simp only [List.find?_append, hnone, Option.none_or, List.find?_cons, BEq.rfl, Bool.and_self]

theorem nextSeq_lt {s : State} {n : Nat} (hn : 0 < n) (h : ∀ x, x ∈ s.series → x.next < n) (c st port : Nat) (b : Bool) : s.nextSeq c st port b < n := by
  unfold State.nextSeq
  split
  next x hx => exact h x (List.mem_of_find?_eq_some hx)
  · exact hn

/-! ### The parts of a TILE_SEND -/

/-- The stream that it reads. -/
def State.tileKey (s : State) (t : LateTile) : PieceKey :=
  { ctx := t.ctx, step := t.step, layer := t.layer, tile := t.tile, kind := s.tileKind t.ctx t.step t.layer t.tile t.src t.dir, src := t.src,
    dst := s.node, idx := 0 }

/-- Its places read, with the answers of those that are not sent. -/
def State.tileGot (s : State) (t : LateTile) : State × Ret × List (Nat × Bytes) :=
  let l := s.tileLen t.ctx t.layer t.dir
  let o := s.openRet t.ctx t.step t.layer t.tile t.src (s.tileKey t).kind t.seq l
  (List.range t.count).foldl (fun a i => readPlace o.1 (s.tileKey t) l t.port a (t.first + i)) (o.1, o.2, [])

/-- Their bytes. -/
def State.tileBytes (s : State) (t : LateTile) : Bytes := ((s.tileGot t).2.2.map (·.2)).flatten

/-- The state in which its chunks leave. -/
def State.tileFormed (s : State) (t : LateTile) : State :=
  (((s.tileGot t).2.2.foldl (fun z (x : Nat × Bytes) => z.readRuns (z.placeRuns (s.tileKey t) (s.tileLen t.ctx t.layer t.dir) x.1))
    (s.tileGot t).1).setRet (s.tileGot t).2.1).formReturns (s.tileGot t).2.1

/-- Piece `j` of its bytes, with its header: `l` is the record length, `sig` the signature (R120). -/
def State.tileChunk (s : State) (t : LateTile) (l sig : Nat) (all : Bytes) (j : Nat) : Chunk :=
  { x := { port := 48 + t.port, source := 8, layer := t.layer, tile := t.tile, piece := j, dst := s.node, seq := s.nextSeq t.ctx t.step t.port true,
           queue := 0, len := min 4096 (all.length - 4096 * j), src := s.node, sig := sig }
    plan := s.planId t.ctx, pad := false, first := (headsIn l (4096 * j) (min 4096 (all.length - 4096 * j))).1
    count := (headsIn l (4096 * j) (min 4096 (all.length - 4096 * j))).2, ctx := t.ctx, step := t.step }

/-- That piece sent. -/
def State.tileSent (s : State) (t : LateTile) (l sig : Nat) (all : Bytes) (j : Nat) : State :=
  s.sendFirst t.ctx t.step (s.tileChunk t l sig all j).x
    ((s.tileChunk t l sig all j).header (sub all (4096 * j) (min 4096 (all.length - 4096 * j)))) (sub all (4096 * j) (min 4096 (all.length - 4096 * j)))

/-- The signature of its chunks (R120). -/
def State.tileSig (s : State) (t : LateTile) : Nat :=
  let ly := (s.tileFormed t).layer t.ctx t.layer
  sigWord (if t.dir = 1 then 3 else 1) (if t.dir = 1 then lyBwd ly else lyDisp ly) 0 t.seq (s.tileLen t.ctx t.layer t.dir)

/-- The places whose records have bytes in piece `j`. -/
def State.tilePlaces (s : State) (t : LateTile) (j : Nat) : List Nat :=
  let l := s.tileLen t.ctx t.layer t.dir
  let a := 4096 * j
  let n := min 4096 ((s.tileBytes t).length - a)
  (((s.tileGot t).2.2.zipIdx).filter (fun (y : (Nat × Bytes) × Nat) => decide (y.2 * l < a + n ∧ a < (y.2 + 1) * l))).map (·.1.1)

/-- A held copy of chunk `x` with the places that its bytes answer, and what a sending of it reads. -/
def heldPlaces (t : LateTile) (kind : Nat) (x : Xfer) (ps : List Nat) (reads : List (Nat × Nat)) (y : Held) : Held :=
  if y.x == x && y.ctx == t.ctx && y.step == t.step then { y with from_ := t.src, kind := kind, places := ps, reads := reads } else y

/-- Piece `j` sent from state `z`, and its copy held with its places; `s` is the state before the TILE_SEND. -/
def State.tileStep (s : State) (t : LateTile) (z : State) (j : Nat) : State :=
  let l := s.tileLen t.ctx t.layer t.dir
  let w := z.tileSent t l (s.tileSig t) (s.tileBytes t) j
  { w with helds := w.helds.map (heldPlaces t (s.tileKey t).kind (z.tileChunk t l (s.tileSig t) (s.tileBytes t) j).x (s.tilePlaces t j)
      ((s.tilePlaces t j).flatMap (w.placeRuns (s.tileKey t) l))) }

/-- The copy in whose name a stream without a record left to send is given back. -/
def State.tileDone (s : State) (t : LateTile) : Held :=
  { ctx := t.ctx, step := t.step, x := { (default : Xfer) with layer := t.layer, tile := t.tile, source := 8 }, bytes := [], slot := 0, stamp := 0,
    from_ := t.src, kind := (s.tileKey t).kind }

/-- A TILE_SEND: its places read, its chunks sent one behind the other, and where none is left its stream given back. -/
theorem tileSendNow_eq (s : State) (t : LateTile) : s.tileSendNow t =
    let z := (List.range (ceilDiv (s.tileBytes t).length 4096)).foldl (s.tileStep t) (s.tileFormed t)
    (if (s.tileBytes t).isEmpty then z.tileReleased (s.tileDone t) else z).busy 13 (some t.ctx) := rfl

theorem openRet_spec (s : State) (c st layer tile src kind seq reclen : Nat) :
    (∃ l, (s.openRet c st layer tile src kind seq reclen).1 = { s with rets := l }) ∧ (s.openRet c st layer tile src kind seq reclen).2.ctx = c := by
  unfold State.openRet
  extract_lets r
  split
  next x hx =>
    have hsame : x.same r = true := List.find?_some (p := fun y : Ret => y.same r) hx
    unfold Ret.same at hsame
    simp only [Bool.and_eq_true, beq_iff_eq] at hsame
    exact ⟨⟨_, rfl⟩, hsame.1.1.1.1.1.1⟩
  · exact ⟨⟨_, rfl⟩, rfl⟩

/-- Before the chunks leave, the places are read: nothing of the exchange moves, and the bytes are the stream's egress records. -/
theorem tileFormed_spec (s : State) (t : LateTile) : FormFrame t.ctx s (s.tileFormed t) ∧
    s.tileBytes t = egressRecords (s.tileKey t) (s.tileLen t.ctx t.layer t.dir) t.first t.count s := by
  obtain ⟨⟨l, e⟩, hc⟩ := openRet_spec s t.ctx t.step t.layer t.tile t.src (s.tileKey t).kind t.seq (s.tileLen t.ctx t.layer t.dir)
  obtain ⟨o, ho⟩ : ∃ o, o = s.openRet t.ctx t.step t.layer t.tile t.src (s.tileKey t).kind t.seq (s.tileLen t.ctx t.layer t.dir) := ⟨_, rfl⟩
  rw [← ho] at e hc
  obtain ⟨hf, hr, hs⟩ := readPlaces_spec o.1 (s.tileKey t) (s.tileLen t.ctx t.layer t.dir) t.port t.first (List.range t.count)
    (acc := (o.1, o.2, [])) hc
  have hgot : (List.range t.count).foldl (fun a i => readPlace o.1 (s.tileKey t) (s.tileLen t.ctx t.layer t.dir) t.port a (t.first + i))
      (o.1, o.2, []) = s.tileGot t := by
    rw [ho]
    rfl
  rw [hgot] at hf hr hs
  have hopen : FormFrame t.ctx s o.1 := by
    rw [e]
    exact ⟨rfl, fun _ _ => rfl⟩
  refine ⟨?_, ?_⟩
  · unfold State.tileFormed
    refine ((hopen.trans (.of_ask hf)).trans (.of_ask (.foldl _ _ fun z x => .of_store ⟨?_, (readRuns_spec ..).2⟩))).trans
      ((FormFrame.setRet ..).trans (.formReturns _ hr))
    obtain ⟨⟨r, o', e', -⟩, -⟩ := readRuns_spec z (z.placeRuns (s.tileKey t) (s.tileLen t.ctx t.layer t.dir) x.1)
    rw [e']
    rfl
  · unfold State.tileBytes
    rw [hs, List.nil_append, egressRecords_eq, e]
    rfl

/-! ### The chunks -/

/-- What the first `j` chunks of a TILE_SEND's bytes make of the state `v` before them (R119, R120). -/
structure TileOut (v : State) (t : LateTile) (all : Bytes) (j : Nat) (z : State) : Prop where
  chunks : ∃ chunks : List Bytes, chunks.length = j ∧ z.outbox = v.outbox ++ chunks.map (fun b => .tileChunk t.port b) ∧
    (∀ b, b ∈ chunks → 64 < b.length ∧ b.length ≤ 64 + 4096) ∧ (chunks.map (fun b => b.drop 64)).flatten = all.take (4096 * j)
  next : z.nextSeq t.ctx t.step t.port true = v.nextSeq t.ctx t.step t.port true + j
  env : z.env = v.env
  wins : z.wins = v.wins
  combs : z.combs = v.combs
  lateTiles : z.lateTiles = v.lateTiles
  issued : z.issuedCmds = v.issuedCmds

/-- The same while the chunks still leave: the port stands too. -/
structure TileSending (v : State) (t : LateTile) (all : Bytes) (j : Nat) (z : State) : Prop extends TileOut v t all j z where
  cvu : z.cvu = v.cvu
  tpUp : z.tpUp = v.tpUp

theorem sendsClean_tile {s t : State} {p : Nat} (hc : t.cvu = s.cvu) (hu : t.tpUp = s.tpUp) (h : sendsClean (48 + p) s) : sendsClean (48 + p) t := by
  unfold sendsClean State.tileUp at *
  rw [if_neg (by omega)] at *
  rw [hc, hu]
  exact h

/-- Bytes up to the end of a piece are those up to its start and its own. -/
theorem take_piece (all : Bytes) {j : Nat} (h : 4096 * j < all.length) :
    all.take (4096 * j) ++ sub all (4096 * j) (min 4096 (all.length - 4096 * j)) = all.take (4096 * (j + 1)) := by
  have hsub : sub all (4096 * j) (min 4096 (all.length - 4096 * j)) = (all.drop (4096 * j)).take 4096 := by
    unfold sub zeros
    have hlen : ((all.drop (4096 * j)).take (min 4096 (all.length - 4096 * j))).length = min 4096 (all.length - 4096 * j) := by
      simp
    dsimp only
    rw [hlen, Nat.sub_self, List.replicate_zero, List.append_nil, List.take_eq_take_iff, List.length_drop]
    omega
  rw [hsub, Nat.mul_succ, List.take_add]

/-- One more chunk (R120). -/
theorem tileStep_sending {s v z : State} {t : LateTile} {j : Nat} (h : TileSending v t (s.tileBytes t) j z) (hclean : sendsClean (48 + t.port) v)
    (hj : 4096 * j < (s.tileBytes t).length) (hctx : t.ctx < 8) (hlayer : t.layer < 256)
    (hseq : v.nextSeq t.ctx t.step t.port true + j < 2 ^ 116) : TileSending v t (s.tileBytes t) (j + 1) (s.tileStep t z j) := by
  obtain ⟨chunks, hcount, hout, hlen, hflat⟩ := h.chunks
  obtain ⟨k, hk⟩ : ∃ k, k = z.tileChunk t (s.tileLen t.ctx t.layer t.dir) (s.tileSig t) (s.tileBytes t) j := ⟨_, rfl⟩
  obtain ⟨bs, hbs⟩ : ∃ bs, bs = sub (s.tileBytes t) (4096 * j) (min 4096 ((s.tileBytes t).length - 4096 * j)) := ⟨_, rfl⟩
  have hport : k.x.port = 48 + t.port := by rw [hk]; rfl
  have hpad : chPad (k.header bs) = false := by
    obtain ⟨hfirst, hheads⟩ := headsIn_bounds (reclen := s.tileLen t.ctx t.layer t.dir) (a := 4096 * j) (n := min 4096 ((s.tileBytes t).length - 4096 * j))
      (Nat.min_le_left _ _)
    have hnode : z.node < 2 ^ 64 := get_lt z _
    have hnext : k.x.seq = v.nextSeq t.ctx t.step t.port true + j := by
      rw [hk, ← h.next]
      rfl
    refine chPad_header (by rw [hk]; rfl) ?_ ?_ ?_ ?_ ?_ ?_ (by rw [hnext]; exact hseq) ?_ ?_ bs
    all_goals rw [hk]
    all_goals unfold State.tileChunk
    all_goals dsimp only
    all_goals omega
  have hcleanz : sendsClean k.x.port z := by
    rw [hport]
    exact sendsClean_tile h.cvu h.tpUp hclean
  obtain ⟨l, ps, tx, r, o, m, tail, e, -, -⟩ := sendFirst_spec t.ctx t.step hcleanz (k.header bs) bs []
  obtain ⟨w, hw⟩ : ∃ w, w = z.sendFirst t.ctx t.step k.x (k.header bs) bs := ⟨_, rfl⟩
  rw [← hw] at e
  have hstep : s.tileStep t z j = { w with helds := (s.tileStep t z j).helds } := by
    rw [hw, hk, hbs]
    rfl
  have hbytes : chunkBytes (k.header bs) bs = le 64 (k.header bs) ++ bs := by
    unfold chunkBytes
    rw [hpad]
    rfl
  generalize (s.tileStep t z j).helds = g at hstep
  rw [hstep, e]
  refine ⟨⟨⟨chunks ++ [le 64 (k.header bs) ++ bs], by rw [List.length_append, hcount]; rfl, ?_, ?_, ?_⟩, ?_, h.env, h.wins, h.combs,
    h.lateTiles, h.issued⟩, h.cvu, h.tpUp⟩
  · show z.outbox ++ [portOut k.x.port _ _] = _
    rw [hout, hport, hbytes, portOut, if_neg (by omega), Nat.add_sub_cancel_left]
    simp
  · intro b hb
    rcases List.mem_append.1 hb with hb | hb
    · exact hlen b hb
    · rw [List.mem_singleton.1 hb, List.length_append, le_length, hbs, sub_length]
      omega
  · have hdrop : (le 64 (k.header bs) ++ bs).drop 64 = bs := List.drop_left' (le_length ..)
    rw [List.map_append, List.flatten_append, hflat, List.map_singleton, hdrop, List.flatten_singleton, hbs, take_piece _ hj]
  · have hx : k.x.port - 48 = t.port := by omega
    have hq : k.x.seq = z.nextSeq t.ctx t.step t.port true := by rw [hk]; rfl
    refine (nextSeq_of_series (s := z.setSeq t.ctx t.step t.port true (k.x.seq + 1)) ?_ ..).trans ?_
    · show z.seriesPast t.ctx t.step k.x = _
      unfold State.seriesPast
      rw [if_neg (by omega), hx]
    · rw [nextSeq_setSeq, hq, h.next]
      omega

/-- All of them. -/
theorem tileSteps_sending {s v : State} {t : LateTile} (hclean : sendsClean (48 + t.port) v) (hctx : t.ctx < 8) (hlayer : t.layer < 256)
    (hseq : v.nextSeq t.ctx t.step t.port true + (s.tileBytes t).length < 2 ^ 116) {n : Nat} (hn : n ≤ ceilDiv (s.tileBytes t).length 4096) :
    TileSending v t (s.tileBytes t) n ((List.range n).foldl (s.tileStep t) v) := by
  induction n with
  | zero => exact ⟨⟨⟨[], rfl, by simp, nofun, rfl⟩, rfl, rfl, rfl, rfl, rfl, rfl⟩, rfl, rfl⟩
  | succ n ih =>
    rw [List.range_succ, List.foldl_append]
    have hlt : 4096 * n < (s.tileBytes t).length := by
      unfold ceilDiv at hn
      omega
    exact tileStep_sending (ih (by omega)) hclean hlt hctx hlayer (by omega)

/-- A TILE_SEND's chunks (R119, R120): what they leave of the state. -/
theorem tileSendNow_spec {s : State} {t : LateTile} (hclean : sendsClean (48 + t.port) s) (hctx : t.ctx < 8) (hlayer : t.layer < 256)
    (hcount : t.count < 2 ^ 16) (hseries : ∀ x, x ∈ s.series → x.next < 2 ^ 31) :
    ∃ n, 4096 * n ≥ (s.tileBytes t).length ∧ TileOut s t (s.tileBytes t) n (s.tileSendNow t) := by
  obtain ⟨hf, hbytes⟩ := tileFormed_spec s t
  have hlong : (s.tileBytes t).length ≤ 2 ^ 16 * 2 ^ 20 := by
    rw [hbytes]
    exact (egressRecords_length ..).trans (Nat.mul_le_mul hcount.le (tileLen_lt ..).le)
  obtain ⟨v, hv⟩ : ∃ v, v = s.tileFormed t := ⟨_, rfl⟩
  rw [← hv] at hf
  have hseriesv : v.series = s.series := (congrArg State.series hf.beyond :)
  have hnext : v.nextSeq t.ctx t.step t.port true < 2 ^ 31 := by
    rw [nextSeq_of_series hseriesv]
    exact nextSeq_lt (by decide) hseries ..
  have hsend := tileSteps_sending (s := s) (v := v) (n := ceilDiv (s.tileBytes t).length 4096) (sendsClean_of_form hf.beyond hclean) hctx hlayer
    (by omega) (le_refl _)
  have hrun := tileSendNow_eq s t
  rw [← hv] at hrun
  generalize (List.range (ceilDiv (s.tileBytes t).length 4096)).foldl (s.tileStep t) v = z at hsend hrun
  obtain ⟨w, hw⟩ : ∃ w, w = if (s.tileBytes t).isEmpty then z.tileReleased (s.tileDone t) else z := ⟨_, rfl⟩
  have hfree : FreedFrame z w := by
    rw [hw]
    split
    · exact .tileReleased ..
    · exact .refl z
  obtain ⟨r, m, e⟩ := busy_moves w 13 (some t.ctx)
  obtain ⟨chunks, hlen, hout, hbounds, hflat⟩ := hsend.chunks
  refine ⟨ceilDiv (s.tileBytes t).length 4096, by unfold ceilDiv; omega, ?_⟩
  rw [hrun]
  dsimp only
  rw [← hw, e]
  exact {
    chunks := ⟨chunks, hlen, ((congrArg State.outbox hfree.beyond :).trans hout).trans (congrArg (· ++ _) (congrArg State.outbox hf.beyond :)), hbounds,
      hflat⟩
    next := ((nextSeq_of_series (congrArg State.series hfree.beyond :) ..).trans hsend.next).trans (congrArg (· + _) (nextSeq_of_series hseriesv ..))
    env := (hfree.env.trans hsend.env).trans (congrArg State.env hf.beyond :)
    wins := ((congrArg State.wins hfree.beyond :).trans hsend.wins).trans (congrArg State.wins hf.beyond :)
    combs := ((congrArg State.combs hfree.beyond :).trans hsend.combs).trans (congrArg State.combs hf.beyond :)
    lateTiles := ((congrArg State.lateTiles hfree.beyond :).trans hsend.lateTiles).trans (congrArg State.lateTiles hf.beyond :)
    issued := ((congrArg State.issuedCmds hfree.beyond :).trans hsend.issued).trans (congrArg State.issuedCmds hf.beyond :) }

/-- Settles O41. Reading the places moves nothing of the exchange, and each chunk takes the next 4,096 bytes of the records read, under the next
number of the port's series. -/
theorem placesSent : Obligations.PlacesSent := by
  unfold Obligations.PlacesSent
  intro c port layer tile src first count dir seq s hl hq hm hclean hc hlayer _ _ hcount hseries hready
  obtain ⟨t, ht⟩ : ∃ t : LateTile, t = { ctx := c, step := s.step c, port := port, layer := layer, tile := tile, src := src, first := first,
                                         count := count, dir := dir, seq := seq } := ⟨_, rfl⟩
  obtain ⟨m, hi⟩ := issue_quiet (s := s.fresh) hq (some (48 + port)) hm
  obtain ⟨v, hv⟩ : ∃ v, v = s.fresh.issue c 0x03 (tileFields port layer tile src first count dir seq) (some (48 + port)) := ⟨_, rfl⟩
  rw [← hv] at hi
  have hreadyv : v.tileSendReady t = true := by
    rw [hi, ht]
    exact hready
  have hop : tileSendOp c port layer tile src first count dir seq s.fresh = v.tileSendNow t := by
    have hstep : v.step c = s.step c := by
      rw [hi]
      rfl
    unfold tileSendOp
    rw [if_pos (show s.fresh.mayIssue c 0x03 (tileFields port layer tile src first count dir seq) = true from hm), ← hv]
    dsimp only
    rw [hstep, ← ht]
    exact if_pos hreadyv
  obtain ⟨n, hn, hout⟩ := tileSendNow_spec (s := v) (t := t) (by rw [hi, ht]; exact hclean) (by rw [ht]; exact hc) (by rw [ht]; exact hlayer)
    (by rw [ht]; exact hcount) (by rw [hi]; exact hseries)
  obtain ⟨chunks, hlen, hbox, hbounds, hflat⟩ := hout.chunks
  have hbytes : v.tileBytes t = egressRecords (egressKey c layer tile src dir s) (s.tileLen c layer dir) first count s.fresh := by
    rw [(tileFormed_spec v t).2, hi, ht]
    rfl
  have hport : t.port = port ∧ t.ctx = c ∧ t.step = s.step c := by
    rw [ht]
    exact ⟨rfl, rfl, rfl⟩
  obtain ⟨hp, hctx, hstep⟩ := hport
  have hnext := hout.next
  rw [hp, hctx, hstep] at hnext
  rw [hp] at hbox
  refine ⟨_, chunks, next_of_actFresh (tileSendOp c port layer tile src first count dir seq) hl hop, ?_, hbounds, ?_, ?_, ?_, ⟨m, ?_⟩, ?_, ?_, ?_⟩
  · rw [hbox, hi]
    rfl
  · rw [hflat, List.take_of_length_le hn, hbytes]
  · rw [hnext, hlen, hi]
    rfl
  · rw [hout.lateTiles, hi]
    rfl
  · rw [hout.issued, hi]
    rfl
  · rw [hout.env, hi]
    rfl
  · rw [hout.wins, hi]
    rfl
  · rw [hout.combs, hi]
    rfl

end Sys2Proof.Machine

/-! SUPPORT. Arithmetic whose results do not depend on the events counted before it (R46). -/

namespace Sys2Proof.Machine

open Sys2Proof

/-- The result of some arithmetic is the same whatever has been counted before. -/
structure Steady {α : Type} (x : Arith α) : Prop where
  value : ∀ n, (x n).1 = (runNf x).1

namespace Steady
variable {α β : Type}

theorem pure (a : α) : Steady (Pure.pure a : Arith α) := ⟨fun _ => rfl⟩

theorem bind {x : Arith α} {f : α → Arith β} (hx : Steady x) (hf : ∀ a, Steady (f a)) : Steady (x >>= f) := by
  refine ⟨fun n => ?_⟩
  show (f (x n).1 (x n).2).1 = (f (runNf x).1 (runNf x).2).1
  rw [hx.value n, (hf _).value, (hf _).value]

theorem map {x : Arith α} (f : α → β) (hx : Steady x) : Steady (f <$> x) := ⟨fun n => congrArg f (hx.value n)⟩

theorem ite {c : Prop} [Decidable c] {x y : Arith α} (hx : Steady x) (hy : Steady y) : Steady (if c then x else y) := by
  split
  · exact hx
  · exact hy

theorem mapM {f : α → Arith β} (hf : ∀ a, Steady (f a)) (l : List α) : Steady (l.mapM f) := by
  induction l with
  | nil =>
    rw [List.mapM_nil]
    exact pure []
  | cons a l ih =>
    rw [List.mapM_cons]
    exact bind (hf a) fun b => bind ih fun bs => pure (b :: bs)

theorem foldlM {f : β → α → Arith β} (hf : ∀ b a, Steady (f b a)) (l : List α) (b : β) : Steady (l.foldlM f b) := by
  induction l generalizing b with
  | nil => exact pure b
  | cons a l ih =>
    rw [List.foldlM_cons]
    exact bind (hf b a) ih

/-- The result of arithmetic that follows other arithmetic. -/
theorem runNf_bind {x : Arith α} {f : α → Arith β} (hf : ∀ a, Steady (f a)) : (runNf (x >>= f)).1 = (runNf (f (runNf x).1)).1 :=
  (hf (runNf x).1).value (runNf x).2

/-- The results of a list, each as if it stood alone. -/
theorem runNf_mapM {f : α → Arith β} (hf : ∀ a, Steady (f a)) (l : List α) : (runNf (l.mapM f)).1 = l.map (fun a => (runNf (f a)).1) := by
  induction l with
  | nil =>
    rw [List.mapM_nil]
    rfl
  | cons a l ih =>
    have hrest : ∀ b, Steady (l.mapM f >>= fun bs => (Pure.pure (b :: bs) : Arith (List β))) := fun b => bind (mapM hf l) fun bs => pure (b :: bs)
    rw [List.mapM_cons, runNf_bind hrest, runNf_bind fun bs => pure _, ih]
    rfl

/-! ### The operations of the model -/

theorem opF32 (ops : List F32) (v : Val) : Steady (opF32 ops v) := by
  refine ⟨fun n => ?_⟩
  show (Machine.opF32 ops v n).1 = (Machine.opF32 ops v {}).1
  unfold Machine.opF32
  dsimp only
  split <;> rfl

theorem fadd (a b : F32) : Steady (fadd a b) := opF32 ..
theorem fmul (a b : F32) : Steady (fmul a b) := opF32 ..

theorem decodeScaled (s : Nat) (v : Val) : Steady (decodeScaled s v) := by
  refine ⟨fun n => ?_⟩
  show (Machine.decodeScaled s v n).1 = (Machine.decodeScaled s v {}).1
  unfold Machine.decodeScaled
  dsimp only
  split <;> rfl

theorem blockSum (a b : List Val) (sa sb : Nat) : Steady (blockSum a b sa sb) := by
  refine ⟨fun n => ?_⟩
  show (Machine.blockSum a b sa sb n).1 = (Machine.blockSum a b sa sb {}).1
  unfold Machine.blockSum
  dsimp only
  split <;> split <;> rfl

theorem sfuArith (f : F32 → SfuOut) (x : F32) : Steady (sfuArith f x) := ⟨fun _ => rfl⟩

theorem softmaxArith (row : List (F32 × Bool)) : Steady (softmaxArith row) := ⟨fun _ => rfl⟩

theorem decodePayload (f d : Nat) (bs : Bytes) : Steady (decodePayload f d bs) := by
  unfold Machine.decodePayload
  exact ite (mapM (fun x : Val × Nat => decodeScaled x.2 x.1) _) (pure _)

theorem pairSums (l : List F32) : Steady (pairSums l) := by
  induction l using Machine.pairSums.induct with
  | case1 a b r ih =>
    unfold Machine.pairSums
    exact bind (fadd a b) fun x => bind ih fun t => pure (x :: t)
  | case2 l h =>
    unfold Machine.pairSums
    split
    next a b r => exact absurd rfl (h a b r)
    · exact pure _

theorem treeSum (n : Nat) (l : List F32) : Steady (treeSum n l) := by
  induction n generalizing l with
  | zero => exact pure _
  | succ n ih => exact bind (pairSums l) ih

theorem opndOf (f g d : Nat) (bs : Bytes) : Steady (opndOf f g d bs) := by
  unfold Machine.opndOf
  exact ite (pure _) (bind (decodePayload f d bs) fun vs => pure _)

theorem products (a b : List F32) : Steady (products a b) := by
  induction a, b using Machine.products.induct with
  | case1 a r b t ih =>
    unfold Machine.products
    exact bind (fmul a b) fun p => bind ih fun q => pure (p :: q)
  | case2 a b h =>
    unfold Machine.products
    split
    next x r y t => exact absurd rfl (h x r y t rfl)
    · exact pure _

theorem sliceSum (a b : Opnd) (s : Nat) : Steady (sliceSum a b s) := by
  unfold Machine.sliceSum
  exact ite (bind (mapM (fun j => blockSum ..) _) fun ps => treeSum 2 ps) (bind (products ..) fun ps => treeSum 7 ps)

theorem dot (a b : Opnd) (n : Nat) : Steady (dot a b n) := by
  unfold Machine.dot
  exact bind (sliceSum a b 0) fun z => foldlM (fun acc s => bind (sliceSum a b (s + 1)) fun t => fadd acc t) _ z

theorem sumLeft (l : List F32) : Steady (sumLeft l) := by
  cases l with
  | nil => exact pure 0
  | cons a r => exact foldlM fadd r a

/-! ### Logits and selections -/

theorem weightOpnds (l : Bytes) (rows : List Bytes) : Steady (weightOpnds l rows) := mapM (fun bs => opndOf _ _ _ bs) rows

theorem logitsOf (l : Bytes) (ws : List Opnd) (h : Bytes) : Steady (logitsOf l ws h) := by
  unfold Machine.logitsOf
  exact bind (opndOf ..) fun x => mapM (fun w => dot x w _) ws

theorem noised (r : Router) (id e : Nat) (x : F32) : Steady (r.noised id e x) := by
  unfold Router.noised
  exact ite (pure x) (fadd ..)

theorem enter (r : Router) (id : Nat) (logits : List F32) (e : Nat) : Steady (r.enter id logits e) := by
  unfold Router.enter
  exact ite (pure _) (bind (noised ..) fun y => pure _)

theorem applyRule (r : Router) (cs : List Cand) : Steady (r.applyRule cs) := by
  unfold Router.applyRule
  split
  · exact bind (softmaxArith _) fun ys => pure _
  · exact pure _
  · exact pure _

theorem keyed (r : Router) (c : Cand) : Steady (r.keyed c) := by
  unfold Router.keyed
  exact ite (pure c) (bind (fadd ..) fun k => pure _)

theorem nodeLimit (r : Router) (cs : List Cand) : Steady (r.nodeLimit cs) := by
  unfold Router.nodeLimit
  exact ite (pure cs) (bind (mapM (fun v => bind (sumLeft _) fun x => pure (v, x)) _) fun ns => pure _)

theorem divOrZero (a sum : F32) : Steady (divOrZero a sum) := by
  unfold Machine.divOrZero
  exact ite (pure 0) (bind (sfuArith ..) fun q => fmul a q)

theorem gates (r : Router) (chosen : List Cand) : Steady (r.gates chosen) := by
  unfold Router.gates
  dsimp only
  split
  · exact bind (softmaxArith _) fun g => pure _
  · exact ite (pure _) (bind (sumLeft _) fun sum => bind (mapM (fun v => divOrZero v sum) _) fun g => pure _)

theorem terms (r : Router) (cs : List Cand) : Steady (r.terms cs) := by
  unfold Router.terms
  split
  · exact pure _
  · exact softmaxArith _
  · exact bind (sumLeft _) fun sum => bind (sfuArith ..) fun q => mapM (fun c => ite (fmul ..) (pure 0)) cs

/-- A position's selection does not depend on what other positions count (R61). -/
theorem pick (r : Router) (id : Nat) (logits : List F32) : Steady (r.pick id logits) := by
  unfold Router.pick
  refine bind (mapM (fun e => enter r id logits e) _) fun c0 => bind (applyRule r c0) fun c1 => bind (mapM (fun c => keyed r c) c1) fun cs =>
    bind (nodeLimit ..) fun lim => ite (pure _) (bind (gates ..) fun g => bind (mapM (fun x => fmul x _) _) fun scaled =>
      ite (bind (terms ..) fun ts => pure _) (pure _))

end Steady

/-- The result of one position among those of a tile. -/
theorem nth_map_range {α : Type} (f : Nat → α) {n p : Nat} (d : α) (hp : p < n) : nth ((List.range n).map f) p d = f p := by
  simp [nth, hp]

/-- A tile's logits, position by position (R49, R53). -/
theorem nth_tileLogits (l : Bytes) (w : Win) (rows : List Bytes) {p : Nat} (hp : p < 256) :
    nth (runNf (tileLogits l w rows)).1 p [] = if bit w.present p then
      (runNf (do
        let ws ← weightOpnds l rows
        padLogits <$> logitsOf l ws (w.payload l p))).1 else [] := by
  have hpos : ∀ ws t, Steady (if bit w.present t then padLogits <$> logitsOf l ws (w.payload l t) else (pure [] : Arith (List F32))) :=
    fun ws t => .ite (.map _ (.logitsOf ..)) (.pure [])
  have htile : ∀ ws, Steady ((List.range 256).mapM (fun t => if bit w.present t then padLogits <$> logitsOf l ws (w.payload l t)
      else (pure [] : Arith (List F32)))) := fun ws => .mapM (hpos ws) _
  unfold tileLogits
  rw [Steady.runNf_bind htile, Steady.runNf_mapM (hpos _), nth_map_range _ _ hp, Steady.runNf_bind fun ws => .map _ (.logitsOf ..)]
  split <;> rfl

/-- A tile's selections, position by position (R61). -/
theorem nth_tileSels (r : Router) (w : Win) {p : Nat} (hp : p < 256) :
    nth ((runNf (r.tile w)).1.map (·.sel)) p {} = if bit w.present p then (runNf (r.pick (nth w.ids p 0) (nth w.logits p []))).1.sel
      else { status := 512, entries := choiceEntries (selK r.l) [] } := by
  have hpos : ∀ t, Steady (if bit w.present t then r.pick (nth w.ids t 0) (nth w.logits t [])
      else (pure { sel := { status := 512, entries := choiceEntries (selK r.l) [] } } : Arith Picked)) := fun t => .ite (.pick ..) (.pure _)
  unfold Router.tile
  rw [Steady.runNf_mapM hpos, List.map_map, nth_map_range _ _ hp, Function.comp]
  split <;> rfl

end Sys2Proof.Machine

/-! SUPPORT. A tile scored and selected (R49, R53, R61, R67, R139, R216). -/

namespace Sys2Proof.Machine

open Sys2Proof

theorem rplState_not_workKey : Key.RPL_STATE ∉ workKeys := fun h => by
  rcases workKeys_range h with h | h
  · exact absurd h (by decide)
  · exact absurd h (by decide)

/-- The registers of work are those that the statements name. -/
theorem workKeys_sub : workKeys ⊆
    (Key.NUM_NONFINITE_COUNT :: Key.NUM_NONFINITE_FIRST :: (List.range 25).map Key.UNIT_BUSY) ++ memKeys ++ bankKeys := by
  intro k hk
  unfold workKeys at hk
  simp only [List.mem_append, List.mem_cons, List.not_mem_nil, or_false] at hk ⊢
  unfold busyKeys at hk
  tauto

/-! ### Windows -/

theorem win?_spec {s : State} {c layer tile work : Nat} {w : Win} (h : s.win? c layer tile work = some w) :
    w ∈ s.wins ∧ w.ctx = c ∧ w.layer = layer ∧ w.work = work ∧ w.stage < 5 := by
  have hs := List.find?_some h
  simp only [Bool.and_eq_true, beq_iff_eq, decide_eq_true_eq] at hs
  exact ⟨List.mem_of_find?_eq_some h, hs.1.1.1.1, hs.1.1.1.2, hs.1.2, hs.2⟩

/-- A window replaced stands where it stood. -/
theorem mem_setWin {s : State} {w w' : Win} (h : w ∈ s.wins) (hs : w.same w' = true) : w' ∈ (s.setWin w').wins :=
  List.mem_map.2 ⟨w, h, if_pos hs⟩

/-! ### What the units' work on a tile leaves -/

/-- The work of a unit on a tile: its counters, the notes of the step, host memory and the free values it draws. -/
structure TileFrame (s t : State) : Prop where
  moves : ∃ r a e o m f, t = { s with regs := r, audits := a, env := e, obs := o, meter := m, free := f }
  regs : keepsRegs workKeys s t

namespace TileFrame

theorem refl (s : State) : TileFrame s s := ⟨⟨_, _, _, _, _, _, rfl⟩, .refl s⟩

theorem trans {s t z : State} (h : TileFrame s t) (h' : TileFrame t z) : TileFrame s z := by
  obtain ⟨⟨r, a, e, o, m, f, hs⟩, hk⟩ := h
  obtain ⟨⟨r', a', e', o', m', f', ht⟩, hk'⟩ := h'
  exact ⟨⟨r', a', e', o', m', f', by rw [ht, hs]⟩, hk.trans hk' (List.Subset.refl _) (List.Subset.refl _)⟩

theorem foldl {α : Type} {f : State → α → State} (l : List α) (s : State) (hf : ∀ s a, TileFrame s (f s a)) : TileFrame s (l.foldl f s) :=
  List.foldlRecOn (motive := TileFrame s) l f (refl s) fun _ h a _ => h.trans (hf _ a)

theorem of_counts {s t : State} (h : Counts s t) : TileFrame s t := by
  obtain ⟨r, o, e⟩ := h.moves
  exact ⟨⟨r, s.audits, s.env, o, s.meter, s.free, e⟩, h.regs⟩

theorem updAudit (s : State) (c st : Nat) (f : Audit → Audit) : TileFrame s (s.updAudit c st f) := by
  obtain ⟨a, e⟩ := updAudit_moves s c st f
  rw [e]
  exact ⟨⟨_, _, _, _, _, _, rfl⟩, keepsRegs_of_regs rfl⟩

theorem hostWrite (s : State) {p : Nat} (a : Nat) (bs : Bytes) (h : p < 4) : TileFrame s (s.hostWrite p a bs) :=
  ⟨⟨_, _, _, _, _, _, rfl⟩, (hostWrite_keepsRegs s a bs h).mono memKeys_sub_workKeys⟩

theorem scanPut (s : State) (c st o : Nat) (bs : Bytes) : TileFrame s (s.scanPut c st o bs) := by
  refine ⟨?_, (scanPut_keepsRegs s c st o bs).mono memKeys_sub_workKeys⟩
  obtain ⟨r, m, e⟩ := scanPut_moves s c st o bs
  exact ⟨r, s.audits, _, s.obs, s.meter, s.free, e⟩

theorem busy (s : State) {d : Nat} (c : Option Nat) (hd : d - 1 < 25) : TileFrame s (s.busy d c) := by
  obtain ⟨r, m, e⟩ := busy_moves s d c
  exact ⟨⟨r, s.audits, s.env, s.obs, m, s.free + 1, e⟩, (busy_keepsRegs s c hd).mono busyKeys_sub_workKeys⟩

theorem scorerBusy (s : State) (c : Nat) : TileFrame s (s.scorerBusy c) :=
  (((busy s (some c) (by decide : 1 - 1 < 25)).trans (busy _ (some c) (by decide : 2 - 1 < 25))).trans
    (busy _ (some c) (by decide : 3 - 1 < 25))).trans (busy _ (some c) (by decide : 4 - 1 < 25))

end TileFrame

theorem busy_env (s : State) (d : Nat) (c : Option Nat) : (s.busy d c).env = s.env := by
  obtain ⟨r, m, e⟩ := busy_moves s d c
  rw [e]

theorem scorerBusy_env (s : State) (c : Nat) : (s.scorerBusy c).env = s.env := by
  show ((((s.busy 1 (some c)).busy 2 (some c)).busy 3 (some c)).busy 4 (some c)).env = s.env
  rw [busy_env, busy_env, busy_env, busy_env]

/-! ### The Scorer -/

theorem weightRead_counts (s : State) (l : Bytes) : Counts s (s.weightRead l) := by
  unfold State.weightRead
  exact .ite (.hostRead s _ _ (bits_lt _ 2 2)) (.stgRead ..)

theorem scanPut_none {s : State} {c : Nat} (h : s.get (Key.DRU_SCAN_BASE c) = 0) (st o : Nat) (bs : Bytes) : s.scanPut c st o bs = s := by
  unfold State.scanPut
  rw [if_pos h]

/-- The scan of a layer's weights while the replay log stands (R216). -/
theorem weightScan_frame {s : State} (hq : s.get Key.RPL_STATE ≠ 1) (c st layer : Nat) (l : Bytes) (rows : List Bytes) :
    TileFrame s (s.weightScan c st layer l rows) := by
  unfold State.weightScan
  split
  · exact .refl s
  split
  · exact .refl s
  · extract_lets vals fold folds y1 y2 y3 whole scan y4
    have h1 : TileFrame s y1 := (TileFrame.scanPut ..).trans (.scanPut ..)
    have h2 : TileFrame y1 y2 := .scanPut ..
    have h3 : y3 = y2 := rpl_off (by rw [h2.regs _ rplState_not_workKey, h1.regs _ rplState_not_workKey]; exact hq) ..
    have h4 : TileFrame y3 y4 := .updAudit ..
    have h5 : TileFrame y4 (if whole then y4.scanPut c st 0 (le 8 st) else y4) := by
      split
      · exact .scanPut ..
      · exact .refl y4
    clear_value y4
    exact (h1.trans h2).trans ((h3 ▸ h4 : TileFrame y2 y4).trans h5)

/-- Without a scan table the scan's values are noted alone (R216, R217). -/
theorem weightScan_unlisted {s : State} (hq : s.get Key.RPL_STATE ≠ 1) {c : Nat} (h0 : s.get (Key.DRU_SCAN_BASE c) = 0) (st layer : Nat) (l : Bytes)
    (rows : List Bytes) : ∃ a, s.weightScan c st layer l rows = { s with audits := a } := by
  unfold State.weightScan
  split
  · exact ⟨_, rfl⟩
  split
  · exact ⟨_, rfl⟩
  · simp only [scanPut_none h0, rpl_off hq]
    generalize (fun x : Audit => _) = f
    obtain ⟨a, e⟩ := updAudit_moves s c st f
    refine ⟨a, ?_⟩
    rw [e]
    split
    · exact scanPut_none (s := { s with audits := a }) h0 ..
    · rfl

/-- What SCORE_TILE_DONE does to the window that is the Scorer's next. -/
theorem scoreTileDoneOp_eq {u z : State} {c layer tile : Nat} {w w' : Win} {l : Bytes} {rows : List Bytes}
    (hw : u.win? c layer tile 0 = some w) (hn : u.nextWin 1 = some w) (hl : l = u.layer c layer) (hr : rows = weightRows l (u.weightRegion l))
    (hw' : w' = { w with stage := 3, logits := (runNf (tileLogits l w rows)).1 })
    (hz : z = (u.weightRead l).weightScan c w.step layer l rows) :
    scoreTileDoneOp c layer tile u =
      ((z.setWin w').nonFinite (z.setWin w').scorerDomain c layer w.step (runNf (tileLogits l w rows)).2).scorerBusy c := by
  unfold scoreTileDoneOp
  rw [hw]
  dsimp only
  rw [hn, if_neg (by simp), hz, hw', hr, hl]

section Tile
variable {s : State} {c layer tile : Nat} {w : Win} (hl : s.live = true)
include hl

/-- SCORE_TILE_DONE (R49, R53): each present position gets its logits. -/
theorem scoreTileDone_next (hq : quiet s = true) (hw : s.win? c layer tile 0 = some w) (hn : s.nextWin 1 = some w) :
    ∃ t w', exec (.scoreTileDone c layer tile) s = .next t ∧ w' ∈ t.wins ∧ w' = { w with stage := 3, logits := w'.logits } ∧
      (∀ p, p < 256 → nth w'.logits p [] = if bit w.present p then
        (runNf (do
          let ws ← weightOpnds (s.layer c layer) (weightRows (s.layer c layer) (s.fresh.weightRegion (s.layer c layer)))
          padLogits <$> logitsOf (s.layer c layer) ws (w.payload (s.layer c layer) p))).1 else []) ∧
      (s.get (Key.DRU_SCAN_BASE c) = 0 → c < 8 → t.env = s.env) ∧ keepsRegs workKeys s t ∧
      t = { s with wins := t.wins, regs := t.regs, audits := t.audits, env := t.env, obs := t.obs, meter := t.meter, free := t.free } := by
  obtain ⟨hmem, -⟩ := win?_spec hw
  obtain ⟨l, hlay⟩ : ∃ l, l = s.fresh.layer c layer := ⟨_, rfl⟩
  obtain ⟨rows, hrows⟩ : ∃ rows, rows = weightRows l (s.fresh.weightRegion l) := ⟨_, rfl⟩
  obtain ⟨w', hw'⟩ : ∃ w' : Win, w' = { w with stage := 3, logits := (runNf (tileLogits l w rows)).1 } := ⟨_, rfl⟩
  obtain ⟨y, hy⟩ : ∃ y, y = s.fresh.weightRead l := ⟨_, rfl⟩
  obtain ⟨z, hz⟩ : ∃ z, z = y.weightScan c w.step layer l rows := ⟨_, rfl⟩
  obtain ⟨t, ht⟩ : ∃ t, t = ((z.setWin w').nonFinite (z.setWin w').scorerDomain c layer w.step (runNf (tileLogits l w rows)).2).scorerBusy c :=
    ⟨_, rfl⟩
  have hrun : scoreTileDoneOp c layer tile s.fresh = t := by
    have hnext : s.fresh.nextWin 1 = some w := hn
    have hwin : s.fresh.win? c layer tile 0 = some w := hw
    rw [ht]
    exact scoreTileDoneOp_eq hwin hnext hlay hrows hw' (hy ▸ hz)
  have hcounts : Counts s.fresh y := hy ▸ weightRead_counts s.fresh l
  have hquiet : y.get Key.RPL_STATE ≠ 1 := by
    rw [hcounts.regs _ rplState_not_workKey]
    exact rplState_ne_of_quiet hq
  have hscan : TileFrame y z := hz ▸ weightScan_frame hquiet c w.step layer l rows
  have hend : TileFrame (z.setWin w') t := by
    rw [ht]
    exact (TileFrame.of_counts (.nonFinite ..)).trans (.scorerBusy ..)
  have hpast : (t.env = z.env) := by
    obtain ⟨r, o, e⟩ := (Counts.nonFinite (z.setWin w') (z.setWin w').scorerDomain c layer w.step (runNf (tileLogits l w rows)).2).moves
    rw [ht, scorerBusy_env, e]
    rfl
  have hsz : TileFrame s.fresh z := (TileFrame.of_counts hcounts).trans hscan
  obtain ⟨⟨r, a, e, o, m, f, hsm⟩, hkz⟩ := hsz
  obtain ⟨⟨r', a', e', o', m', f', htm⟩, hkt⟩ := hend
  have hwins : t.wins = (z.setWin w').wins := by rw [htm]
  refine ⟨t, w', next_of_actFresh (scoreTileDoneOp c layer tile) hl hrun, ?_, by rw [hw'], fun p hp => ?_, fun h0 hc => ?_, ?_, ?_⟩
  · rw [hwins]
    refine mem_setWin (w := w) ?_ ?_
    · rw [hsm]
      exact hmem
    · rw [hw']
      exact same_self w
  · have hlay' : s.layer c layer = l := hlay.symm
    rw [hw', hlay', ← hrows]
    dsimp only
    exact nth_tileLogits l w rows hp
  · obtain ⟨r, o, ey⟩ := hcounts.moves
    have hy0 : y.get (Key.DRU_SCAN_BASE c) = 0 := by
      refine (hcounts.regs _ fun hm => ?_).trans h0
      rcases workKeys_range hm with hm | hm
      · simp only [List.mem_cons, List.not_mem_nil, or_false, Key.NUM_NONFINITE_FIRST, Key.NUM_NONFINITE_COUNT, Key.DRU_SCAN_BASE] at hm
        omega
      · unfold Key.DRU_SCAN_BASE at hm
        omega
    obtain ⟨a, ez⟩ := weightScan_unlisted hquiet hy0 w.step layer l rows
    rw [hpast, hz, ez, ey]
    rfl
  · exact ((keepsRegs_of_regs (ks := []) rfl).trans hkz (List.nil_subset _) (List.Subset.refl _)).trans
      ((keepsRegs_of_regs (ks := []) rfl).trans hkt (List.nil_subset _) (List.Subset.refl _)) (List.Subset.refl _) (List.Subset.refl _)
  · rw [htm, hsm]
    rfl

end Tile

end Sys2Proof.Machine

/-! SUPPORT. A tile selected (R61 to R69, R139). -/

namespace Sys2Proof.Machine

open Sys2Proof

/-- The registers that the Selector's work moves. -/
def selKeys (c : Nat) : List Nat :=
  Key.SEL_NAN_COUNT c :: Key.SEL_ROWMASK_COUNT c :: Key.SEL_SHORT_COUNT c :: Key.SEL_ZERODEN_COUNT c :: workKeys

theorem workKeys_sub_selKeys (c : Nat) : workKeys ⊆ selKeys c := fun _ h =>
  List.mem_cons_of_mem _ (List.mem_cons_of_mem _ (List.mem_cons_of_mem _ (List.mem_cons_of_mem _ h)))

/-- The Selector's work on a tile; the Staging Store stands where `g` is false and host memory where `h` is. -/
structure SelFrame (c : Nat) (g h : Bool) (s t : State) : Prop where
  moves : ∃ r ss sg a e o m f, t = { s with regs := r, stats := ss, stg := sg, audits := a, env := e, obs := o, meter := m, free := f }
  regs : keepsRegs (selKeys c) s t
  stg : g = false → t.stg = s.stg
  env : h = false → t.env = s.env

namespace SelFrame
variable {c : Nat} {g h : Bool} {s t z : State}

theorem refl (s : State) : SelFrame c g h s s := ⟨⟨_, _, _, _, _, _, _, _, rfl⟩, .refl s, fun _ => rfl, fun _ => rfl⟩

theorem trans (h1 : SelFrame c g h s t) (h2 : SelFrame c g h t z) : SelFrame c g h s z := by
  obtain ⟨⟨r, ss, sg, a, e, o, m, f, hs⟩, hk, hg, he⟩ := h1
  obtain ⟨⟨r', ss', sg', a', e', o', m', f', ht⟩, hk', hg', he'⟩ := h2
  exact ⟨⟨r', ss', sg', a', e', o', m', f', by rw [ht, hs]⟩, hk.trans hk' (List.Subset.refl _) (List.Subset.refl _),
    fun x => (hg' x).trans (hg x), fun x => (he' x).trans (he x)⟩

theorem of_counts (hc : Counts s t) : SelFrame c g h s t := by
  obtain ⟨⟨r, o, e⟩, hk⟩ := hc
  exact ⟨⟨r, s.stats, s.stg, s.audits, s.env, o, s.meter, s.free, e⟩, hk.mono (workKeys_sub_selKeys c), fun _ => by rw [e], fun _ => by rw [e]⟩

theorem busy (s : State) {d : Nat} (u : Option Nat) (hd : d - 1 < 25) : SelFrame c g h s (s.busy d u) := by
  obtain ⟨r, m, e⟩ := busy_moves s d u
  exact ⟨⟨r, s.stats, s.stg, s.audits, s.env, s.obs, m, s.free + 1, e⟩,
    ((busy_keepsRegs s u hd).mono busyKeys_sub_workKeys).mono (workKeys_sub_selKeys c), fun _ => by rw [e], fun _ => busy_env s d u⟩

theorem count (s : State) {k : Nat} (n : Nat) (hk : k ∈ selKeys c) : SelFrame c g h s (s.count k n) :=
  ⟨⟨_, _, _, _, _, _, _, _, rfl⟩, (keepsRegs_put s _ _).mono (List.cons_subset.2 ⟨hk, List.nil_subset _⟩), fun _ => rfl, fun _ => rfl⟩

/-- The Selector's counters (R69). -/
theorem selCounts (s : State) (ps : List Picked) : SelFrame c g h s (s.selCounts c ps) :=
  (((count s _ List.mem_cons_self).trans (count _ _ (List.mem_cons_of_mem _ List.mem_cons_self))).trans
    (count _ _ (List.mem_cons_of_mem _ (List.mem_cons_of_mem _ List.mem_cons_self)))).trans
    (count _ _ (List.mem_cons_of_mem _ (List.mem_cons_of_mem _ (List.mem_cons_of_mem _ List.mem_cons_self))))

theorem stgWrite (s : State) (a : Nat) (bs : Bytes) : SelFrame c true h s (s.stgWrite a bs) := by
  have hb : SelFrame c true h s (bankTouch true true (lineCount a bs.length) (a / 128) s) := of_counts (.bankTouch ..)
  exact hb.trans ⟨⟨_, _, _, _, _, _, _, _, rfl⟩, keepsRegs_of_regs rfl, fun x => Bool.noConfusion x, fun _ => rfl⟩

theorem newStat (s : State) (x : List StatPart) : SelFrame c g h s { s with stats := x } :=
  ⟨⟨_, _, _, _, _, _, _, _, rfl⟩, keepsRegs_of_regs rfl, fun _ => rfl, fun _ => rfl⟩

/-- The statistics block is written only where the layer keeps statistics (R67). -/
theorem addStats (s : State) (w : Win) (ps : List Picked) (hg : selStats (s.layer w.ctx w.layer) = g) :
    SelFrame c g h s (s.addStats w ps) := by
  unfold State.addStats
  dsimp only
  rw [hg]
  cases g with
  | false => exact refl s
  | true => exact ((newStat s _).trans (of_counts (.nonFinite ..))).trans (stgWrite ..)

/-- The logits are saved only where the layer has a backward pass (R139). -/
theorem saveLogits (s : State) (w : Win) (ps : List Picked) (hh : lyBackward (s.layer w.ctx w.layer) = h) :
    SelFrame c g h s (s.saveLogits w ps) := by
  unfold State.saveLogits
  dsimp only
  rw [hh]
  cases h with
  | false => exact refl s
  | true =>
    have hw : ∀ (a : Nat) (bs : Bytes), SelFrame c g true s (s.hostWrite (s.portFor w.ctx a bs.length) a bs) := fun a bs =>
      ⟨⟨_, _, _, _, _, _, _, _, rfl⟩, ((hostWrite_keepsRegs s a bs (portFor_lt ..)).mono memKeys_sub_workKeys).mono (workKeys_sub_selKeys c),
        fun _ => rfl, fun x => Bool.noConfusion x⟩
    have hn : ∀ (z : State) (k st : Nat) (f : Audit → Audit), SelFrame c g true z (z.updAudit k st f) := fun z k st f => by
      obtain ⟨a, e⟩ := updAudit_moves z k st f
      rw [e]
      exact ⟨⟨_, _, _, _, _, _, _, _, rfl⟩, keepsRegs_of_regs rfl, fun _ => rfl, fun _ => rfl⟩
    exact (hw ..).trans (hn ..)

end SelFrame

/-- What SELECT_TILE does to the window that is the Selector's next. -/
theorem selectTileOp_eq {u z v y : State} {c layer tile : Nat} {w w' : Win} {r : List Picked × Nf} (hw : u.win? c layer tile 0 = some w)
    (hn : u.nextWin 5 = some w) (hr : r = runNf ((u.router c w.step layer w.bank).tile w))
    (hw' : w' = { w with stage := 4, sels := r.1.map (·.sel) }) (hz : z = u.setWin w')
    (hv : v = (z.nonFinite 5 c layer w.step r.2).selCounts c r.1) (hy : y = (v.addStats w r.1).saveLogits w r.1) :
    selectTileOp c layer tile u = (y.busy 5 (some c)).busy 6 (some c) := by
  unfold selectTileOp
  rw [hw]
  dsimp only
  rw [hn, if_neg (by simp), hy, hv, hz, hw', hr]

/-- SELECT_TILE (R61, R67, R69, R139): each present position gets its selection. -/
theorem selectTile_next {s : State} {c layer tile : Nat} {w : Win} (hl : s.live = true) (hw : s.win? c layer tile 0 = some w)
    (hn : s.nextWin 5 = some w) :
    ∃ t w', exec (.selectTile c layer tile) s = .next t ∧ w' ∈ t.wins ∧ w' = { w with stage := 4, sels := w'.sels } ∧
      (∀ p, p < 256 → nth w'.sels p {} = if bit w.present p then
        (runNf ((s.router c w.step layer w.bank).pick (nth w.ids p 0) (nth w.logits p []))).1.sel
        else { status := 512, entries := choiceEntries (selK (s.layer c layer)) [] }) ∧
      (selStats (s.layer c layer) = false → t.stg = s.stg) ∧ (lyBackward (s.layer c layer) = false → t.env = s.env) ∧
      keepsRegs (selKeys c) s t ∧
      t = { s with wins := t.wins, regs := t.regs, stats := t.stats, stg := t.stg, audits := t.audits, env := t.env, obs := t.obs,
                   meter := t.meter, free := t.free } := by
  obtain ⟨hmem, hctx, hlayer, -, -⟩ := win?_spec hw
  obtain ⟨r, hr⟩ : ∃ r, r = runNf ((s.router c w.step layer w.bank).tile w) := ⟨_, rfl⟩
  obtain ⟨w', hw'⟩ : ∃ w' : Win, w' = { w with stage := 4, sels := r.1.map (·.sel) } := ⟨_, rfl⟩
  obtain ⟨z, hz⟩ : ∃ z, z = s.setWin w' := ⟨_, rfl⟩
  obtain ⟨v, hv⟩ : ∃ v, v = (z.nonFinite 5 c layer w.step r.2).selCounts c r.1 := ⟨_, rfl⟩
  obtain ⟨x, hx⟩ : ∃ x, x = v.addStats w r.1 := ⟨_, rfl⟩
  obtain ⟨y, hy⟩ : ∃ y, y = x.saveLogits w r.1 := ⟨_, rfl⟩
  obtain ⟨t, ht⟩ : ∃ t, t = (y.busy 5 (some c)).busy 6 (some c) := ⟨_, rfl⟩
  have hrun : selectTileOp c layer tile s = t := by
    rw [ht]
    exact selectTileOp_eq hw hn hr hw' hz hv (hx ▸ hy)
  obtain ⟨g, hg⟩ : ∃ g, selStats (s.layer c layer) = g := ⟨_, rfl⟩
  obtain ⟨h, hh⟩ : ∃ h, lyBackward (s.layer c layer) = h := ⟨_, rfl⟩
  have hlz : z.layer w.ctx w.layer = s.layer c layer := by rw [hz, hctx, hlayer]; rfl
  have h1 : SelFrame c g h z v := hv ▸ (SelFrame.of_counts (.nonFinite ..)).trans (.selCounts ..)
  have hlv : v.layer w.ctx w.layer = s.layer c layer := by
    obtain ⟨⟨_, _, _, _, _, _, _, _, e⟩, -⟩ := h1
    rw [← hlz, e]
    rfl
  have h2 : SelFrame c g h v x := hx ▸ .addStats v w r.1 (by rw [hlv]; exact hg)
  have hlx : x.layer w.ctx w.layer = s.layer c layer := by
    obtain ⟨⟨_, _, _, _, _, _, _, _, e⟩, -⟩ := h2
    rw [← hlv, e]
    rfl
  have h3 : SelFrame c g h x y := hy ▸ .saveLogits x w r.1 (by rw [hlx]; exact hh)
  have h4 : SelFrame c g h y t := ht ▸ (SelFrame.busy y (some c) (by decide)).trans (.busy _ (some c) (by decide))
  obtain ⟨⟨rr, ss, sg, a, e, o, m, f, htm⟩, hkt, hstg, henv⟩ := ((h1.trans h2).trans h3).trans h4
  have hmoves : t = { s with wins := z.wins, regs := rr, stats := ss, stg := sg, audits := a, env := e, obs := o, meter := m, free := f } := by
    rw [htm, hz]
    rfl
  refine ⟨t, w', next_of_act (selectTileOp c layer tile) hl hrun, ?_, by rw [hw'], fun p hp => ?_, fun h0 => ?_, fun h0 => ?_, ?_, ?_⟩
  · rw [hmoves, hz]
    exact mem_setWin hmem (hw' ▸ same_self w)
  · rw [hw', hr]
    dsimp only
    exact nth_tileSels (s.router c w.step layer w.bank) w hp
  · rw [hstg (hg ▸ h0), hz]
    rfl
  · rw [henv (hh ▸ h0), hz]
    rfl
  · exact (keepsRegs_of_regs (ks := []) (by rw [hz]; rfl)).trans hkt (List.nil_subset _) (List.Subset.refl _)
  · rw [hmoves]

end Sys2Proof.Machine

/-! SUPPORT. A tile carded (R77 to R90, R148). -/

namespace Sys2Proof.Machine

open Sys2Proof

/-! ### What the Carder's work leaves, beside its log, its drops and its window -/

/-- Parts of the state that the Carder's dispatch leaves, with the count of a context's drops. -/
structure Dispatched (c : Nat) (s t : State) : Prop where
  env : t.env = s.env
  dom : t.dom = s.dom
  ctxs : t.ctxs = s.ctxs
  queues : t.queues = s.queues
  rets : t.rets = s.rets
  combs : t.combs = s.combs
  wins : t.wins = s.wins
  drops : t.get (Key.CRD_DROP_COUNT c) = s.get (Key.CRD_DROP_COUNT c)

/-- The count of drops is no register of work. -/
theorem drops_not_workKey {c : Nat} (hc : c < 8) : Key.CRD_DROP_COUNT c ∉ workKeys := fun h => by
  rcases workKeys_range h with h | h
  · simp only [List.mem_cons, List.not_mem_nil, or_false, Key.NUM_NONFINITE_FIRST, Key.NUM_NONFINITE_COUNT, Key.CRD_DROP_COUNT] at h
    omega
  · unfold Key.CRD_DROP_COUNT at h
    omega

/-- No request for a buffer moves it. -/
theorem drops_not_askKey {c : Nat} (hc : c < 8) : ¬ askKey c (Key.CRD_DROP_COUNT c) := by
  have hn : ∀ k ∈ noticeKeys, k < 0x600901 ∨ 0x600909 ≤ k := by decide
  rintro (h | h | h | ⟨q, hq, h | h | h⟩)
  · have := hn _ h
    unfold Key.CRD_DROP_COUNT at this
    omega
  · have := bankKeys_range h
    unfold Key.CRD_DROP_COUNT at this
    omega
  all_goals
    simp only [Key.CRD_DROP_COUNT, Key.POOL_WAIT_COUNT, Key.POOL_HELD, Key.POOL_FREE, Key.POOL_LOW] at h
    omega

namespace Dispatched
variable {c : Nat} {s t z : State}

theorem refl (s : State) : Dispatched c s s := ⟨rfl, rfl, rfl, rfl, rfl, rfl, rfl, rfl⟩

theorem trans (h : Dispatched c s t) (h' : Dispatched c t z) : Dispatched c s z :=
  ⟨h'.env.trans h.env, h'.dom.trans h.dom, h'.ctxs.trans h.ctxs, h'.queues.trans h.queues, h'.rets.trans h.rets, h'.combs.trans h.combs,
    h'.wins.trans h.wins, h'.drops.trans h.drops⟩

theorem of_ask (hc : c < 8) (h : AskFrame c s t) : Dispatched c s t :=
  have e := h.beyond
  ⟨(congrArg State.env e :), (congrArg State.dom e :), (congrArg State.ctxs e :), (congrArg State.queues e :), (congrArg State.rets e :),
    (congrArg State.combs e :), (congrArg State.wins e :), h.regs _ (drops_not_askKey hc)⟩

theorem of_counts (hc : c < 8) (h : Counts s t) : Dispatched c s t := by
  obtain ⟨⟨r, o, e⟩, hk⟩ := h
  have hd := hk _ (drops_not_workKey hc)
  subst e
  exact ⟨rfl, rfl, rfl, rfl, rfl, rfl, rfl, hd⟩

theorem count (s : State) {k : Nat} (n : Nat) (hk : k ≠ Key.CRD_DROP_COUNT c) : Dispatched c s (s.count k n) :=
  ⟨rfl, rfl, rfl, rfl, rfl, rfl, rfl, get_put_ne s _ hk⟩

theorem updAudit (s : State) (k st : Nat) (f : Audit → Audit) : Dispatched c s (s.updAudit k st f) := by
  obtain ⟨a, e⟩ := updAudit_moves s k st f
  rw [e]
  exact ⟨rfl, rfl, rfl, rfl, rfl, rfl, rfl, rfl⟩

theorem busy (hc : c < 8) (s : State) {d : Nat} (u : Option Nat) (hd : d - 1 < 25) : Dispatched c s (s.busy d u) := by
  obtain ⟨r, m, e⟩ := busy_moves s d u
  have hk := ((busy_keepsRegs s u hd).mono busyKeys_sub_workKeys) _ (drops_not_workKey hc)
  rw [e] at hk ⊢
  exact ⟨rfl, rfl, rfl, rfl, rfl, rfl, rfl, hk⟩

theorem tap (s : State) (f k n : Nat) : Dispatched c s (s.tap f k n) := ⟨rfl, rfl, rfl, rfl, rfl, rfl, rfl, rfl⟩

theorem meterTile (s : State) (w : Win) (ds : List Dec) : Dispatched c s (s.meterTile w ds) := by
  unfold State.meterTile
  dsimp only
  split
  · exact (tap ..).trans (tap ..)
  · exact tap ..

theorem noteTile (s : State) (w : Win) (crc : Nat) : Dispatched c s (s.noteTile w crc) :=
  ((updAudit ..).trans (updAudit ..)).trans (updAudit ..)

/-- The pieces of a stream, each with its buffer asked for (R84, R88). -/
theorem addStream (hc : c < 8) (s : State) {k : PieceKey} (hk : k.ctx = c) (n : Nat) (pad : Nat → Bool) (bs : Bytes) :
    Dispatched c s (s.addStream k n pad bs) := by
  refine of_ask hc ?_
  unfold State.addStream
  exact AskFrame.foldl _ s fun z x => AskFrame.addPiece hk

/-- The dispatch of a tile (R81 to R86). -/
theorem writeDispatch (hc : c < 8) (s : State) (h : TileHead) (kind : Nat) (streams : List (Nat × List Place)) (ds : List Dec) (ids : List Nat)
    (payload : Nat → Bytes) (gaps : Bytes) : Dispatched c s (s.writeDispatch h c kind streams ds ids payload gaps) := by
  unfold State.writeDispatch
  extract_lets reclen key xs z words k9 map y x
  have h1 : Dispatched c s z := ⟨rfl, rfl, rfl, rfl, rfl, rfl, rfl, rfl⟩
  have h2 : Dispatched c z y := of_ask hc (.addPiece rfl)
  have h3 : Dispatched c y x :=
    List.foldlRecOn (motive := Dispatched c y) streams _ (refl y) fun _ hy a _ => hy.trans (addStream hc _ (k := key kind a.1) rfl ..)
  exact ((h1.trans h2).trans h3).trans (addStream hc _ (k := key 8 0) rfl ..)

end Dispatched

/-! ### A forward tile -/

/-- The Carder's work on a forward tile in its parts: the dispatch, the log, the drops, the other counts and the window (R77 to R90). -/
theorem cardForward_eq {s z x v y : State} {w : Win} {l log : Bytes} {k : Carding} {ds : List Dec} {pay : List (Nat × Bytes) × Nf}
    {streams : List (Nat × List Place)} {pads a : Nat}
    (hl : l = s.layer w.ctx w.layer) (hk : k = cardTile l (s.chains w.bank l) w.sels) (hds : ds = (runNf (gatedDecs l k)).1)
    (hpay : pay = runNf (convertAll l (lyDisp l) w ds)) (hst : streams = s.streamsOf w.bank l)
    (hpads : pads = ((streams.map (fun (x : Nat × List Place) => x.2.length)).foldl (· + ·) 0) -
      (ds.filter (fun (d : Dec) => d.outcome != 2)).length)
    (hlog : log = (routeLog l w ds pads).1) (ha : a = lyLog l + w.index * logStride l)
    (hz : z = s.writeDispatch (s.tileHead w w.port (lyDisp l) 0) w.ctx 0 streams ds w.ids (payloadAt pay.1)
      ((k.decs.filter (fun (d : Dec) => d.outcome == 2)).map
        (fun (d : Dec) => hdrBytes ((s.tileHead w w.port (lyDisp l) 0).gap d (nth w.ids d.pos 0)))).flatten)
    (hx : x = (z.hostWrite (z.portFor w.ctx a log.length) a log).count
      (Key.CRD_REROUTE_COUNT w.ctx) (ds.filter (fun (d : Dec) => d.outcome == 1)).length)
    (hv : v = x.count (Key.CRD_DROP_COUNT w.ctx) (ds.filter (fun (d : Dec) => d.outcome == 2)).length)
    (hy : y = (((((v.count (Key.CRD_PAD_COUNT w.ctx) pads).count
        (Key.CRD_RENORM_COUNT w.ctx) (((ds.filter (fun (d : Dec) => d.renormed)).map (·.pos)).eraseDups).length).nonFinite 7 w.ctx
        w.layer w.step (runNf (gatedDecs l k)).2).nonFinite 11 w.ctx w.layer w.step pay.2).noteTile w (routeLog l w ds pads).2).meterTile w ds) :
    s.cardForward w = ((y.setWin { w with stage := 5 }).busy 7 (some w.ctx)).busy 11 (some w.ctx) := by
  rw [hy, hv, hx, hz, ha, hlog, hpads, hst, hpay, hds, hk, hl]
  rfl

/-- The counts of a tile's records, beside its drops. -/
theorem Dispatched.count_apart {c k : Nat} (s : State) (n : Nat) (hc : c < 8) (hk : k < 0x600901 ∨ 0x600909 ≤ k) : Dispatched c s (s.count k n) :=
  .count s n fun e => by
    unfold Key.CRD_DROP_COUNT at e
    omega

/-- CARD_TILE of a forward tile (R77 to R90): the route log stands in host memory, the drops are counted, the window is done. -/
theorem cardForward_spec {s : State} {w : Win} {l : Bytes} {ds : List Dec} (hc : w.ctx < 8) (hmem : w ∈ s.wins)
    (hrise : Sparse.rising s.env.mem = true) (hl : l = s.layer w.ctx w.layer)
    (hds : ds = (runNf (gatedDecs l (cardTile l (s.chains w.bank l) w.sels))).1) :
    ∃ pads log, log = (routeLog l w ds pads).1 ∧ { w with stage := 5 } ∈ (s.cardForward w).wins ∧
      Mem.read (fun _ => 0) (s.cardForward w).env.mem (lyLog l + w.index * logStride l) log.length = log ∧
      keepsBytes (lyLog l + w.index * logStride l) log.length s.env.mem (s.cardForward w).env.mem ∧
      (s.cardForward w).get (Key.CRD_DROP_COUNT w.ctx) =
        satAdd max32 (s.get (Key.CRD_DROP_COUNT w.ctx)) (ds.filter (fun (d : Dec) => d.outcome == 2)).length ∧
      (s.cardForward w).dom = s.dom ∧ (s.cardForward w).ctxs = s.ctxs ∧ (s.cardForward w).queues = s.queues ∧
      (s.cardForward w).rets = s.rets ∧ (s.cardForward w).combs = s.combs := by
  obtain ⟨k, hk⟩ : ∃ k, k = cardTile l (s.chains w.bank l) w.sels := ⟨_, rfl⟩
  rw [← hk] at hds
  obtain ⟨pay, hpay⟩ : ∃ pay, pay = runNf (convertAll l (lyDisp l) w ds) := ⟨_, rfl⟩
  obtain ⟨streams, hst⟩ : ∃ streams, streams = s.streamsOf w.bank l := ⟨_, rfl⟩
  obtain ⟨pads, hpads⟩ : ∃ pads, pads = ((streams.map (fun (x : Nat × List Place) => x.2.length)).foldl (· + ·) 0) -
    (ds.filter (fun (d : Dec) => d.outcome != 2)).length := ⟨_, rfl⟩
  obtain ⟨log, hlog⟩ : ∃ log, log = (routeLog l w ds pads).1 := ⟨_, rfl⟩
  obtain ⟨a, ha⟩ : ∃ a, a = lyLog l + w.index * logStride l := ⟨_, rfl⟩
  obtain ⟨z, hz⟩ : ∃ z, z = s.writeDispatch (s.tileHead w w.port (lyDisp l) 0) w.ctx 0 streams ds w.ids (payloadAt pay.1)
    ((k.decs.filter (fun (d : Dec) => d.outcome == 2)).map
      (fun (d : Dec) => hdrBytes ((s.tileHead w w.port (lyDisp l) 0).gap d (nth w.ids d.pos 0)))).flatten := ⟨_, rfl⟩
  obtain ⟨x, hx⟩ : ∃ x, x = (z.hostWrite (z.portFor w.ctx a log.length) a log).count
    (Key.CRD_REROUTE_COUNT w.ctx) (ds.filter (fun (d : Dec) => d.outcome == 1)).length := ⟨_, rfl⟩
  obtain ⟨v, hv⟩ : ∃ v, v = x.count (Key.CRD_DROP_COUNT w.ctx) (ds.filter (fun (d : Dec) => d.outcome == 2)).length := ⟨_, rfl⟩
  obtain ⟨y, hy⟩ : ∃ y, y = (((((v.count (Key.CRD_PAD_COUNT w.ctx) pads).count
      (Key.CRD_RENORM_COUNT w.ctx) (((ds.filter (fun (d : Dec) => d.renormed)).map (·.pos)).eraseDups).length).nonFinite 7 w.ctx
      w.layer w.step (runNf (gatedDecs l k)).2).nonFinite 11 w.ctx w.layer w.step pay.2).noteTile w (routeLog l w ds pads).2).meterTile w ds :=
    ⟨_, rfl⟩
  have hrun := cardForward_eq hl hk hds hpay hst hpads hlog ha hz hx hv hy
  obtain ⟨t, ht⟩ : ∃ t, t = s.cardForward w := ⟨_, rfl⟩
  have hsz : Dispatched w.ctx s z := hz ▸ .writeDispatch hc ..
  have hzx : Dispatched w.ctx (z.hostWrite (z.portFor w.ctx a log.length) a log) x :=
    hx ▸ .count_apart _ _ hc (by unfold Key.CRD_REROUTE_COUNT; omega)
  have hvy : Dispatched w.ctx v y := hy ▸ (((((Dispatched.count_apart _ _ hc (by unfold Key.CRD_PAD_COUNT; omega)).trans
    (.count_apart _ _ hc (by unfold Key.CRD_RENORM_COUNT; omega))).trans (.of_counts hc (.nonFinite ..))).trans
    (.of_counts hc (.nonFinite ..))).trans (.noteTile ..)).trans (.meterTile ..)
  have hyt : Dispatched w.ctx (y.setWin { w with stage := 5 }) t := by
    rw [ht, hrun]
    exact (Dispatched.busy hc _ _ (by decide)).trans (.busy hc _ _ (by decide))
  have hwrite : ∀ p, p < 4 → (z.hostWrite p a log).get (Key.CRD_DROP_COUNT w.ctx) = z.get (Key.CRD_DROP_COUNT w.ctx) := fun p hp =>
    (hostWrite_keepsRegs z a log hp) _ fun hm => drops_not_workKey hc (memKeys_sub_workKeys hm)
  have hdrops : x.get (Key.CRD_DROP_COUNT w.ctx) = s.get (Key.CRD_DROP_COUNT w.ctx) :=
    hzx.drops.trans ((hwrite _ (portFor_lt ..)).trans hsz.drops)
  have hmemv : t.env.mem = Mem.write s.env.mem a log := by
    rw [hyt.env, ← hsz.env]
    exact (congrArg Env.mem (hvy.env.trans ((congrArg State.env hv).trans hzx.env)))
  have hwins : y.wins = s.wins := hvy.wins.trans ((congrArg State.wins hv).trans (hzx.wins.trans hsz.wins))
  refine ⟨pads, log, hlog, ?_⟩
  rw [← ht, ← ha, hmemv]
  refine ⟨?_, memRead_write_self _ _ _ hrise, keepsBytes_write s.env.mem a log, ?_, ?_, ?_, ?_, ?_, ?_⟩
  · rw [hyt.wins]
    exact mem_setWin (hwins ▸ hmem) (same_self w)
  · rw [hyt.drops, ← hdrops]
    refine hvy.drops.trans ?_
    rw [hv]
    exact get_count_self ..
  · exact hyt.dom.trans (hvy.dom.trans ((congrArg State.dom hv).trans (hzx.dom.trans hsz.dom)))
  · exact hyt.ctxs.trans (hvy.ctxs.trans ((congrArg State.ctxs hv).trans (hzx.ctxs.trans hsz.ctxs)))
  · exact hyt.queues.trans (hvy.queues.trans ((congrArg State.queues hv).trans (hzx.queues.trans hsz.queues)))
  · exact hyt.rets.trans (hvy.rets.trans ((congrArg State.rets hv).trans (hzx.rets.trans hsz.rets)))
  · exact hyt.combs.trans (hvy.combs.trans ((congrArg State.combs hv).trans (hzx.combs.trans hsz.combs)))

/-! ### A refetch tile -/

/-- The Carder's work on a refetch tile writes no log (R148). -/
theorem cardRefetch_spec {s : State} {w src : Win} (hc : w.ctx < 8) (hmem : w ∈ s.wins) :
    { w with stage := 5 } ∈ (s.cardRefetch w src).wins ∧ (s.cardRefetch w src).env = s.env ∧ (s.cardRefetch w src).dom = s.dom ∧
      (s.cardRefetch w src).ctxs = s.ctxs ∧ (s.cardRefetch w src).queues = s.queues ∧ (s.cardRefetch w src).rets = s.rets ∧
      (s.cardRefetch w src).combs = s.combs := by
  have hparts : ∃ y, Dispatched w.ctx s y ∧ s.cardRefetch w src = ((y.setWin { w with stage := 5 }).busy 7 (some w.ctx)).busy 11 (some w.ctx) :=
    ⟨_, ((((Dispatched.of_counts hc (.hostRead s _ _ (portFor_lt ..))).trans (.writeDispatch hc ..)).trans
      (.count_apart _ _ hc (by unfold Key.CRD_PAD_COUNT; omega))).trans (.of_counts hc (.nonFinite ..))), rfl⟩
  obtain ⟨y, hy, hrun⟩ := hparts
  obtain ⟨t, ht⟩ : ∃ t, t = s.cardRefetch w src := ⟨_, rfl⟩
  have hyt : Dispatched w.ctx (y.setWin { w with stage := 5 }) t := by
    rw [ht, hrun]
    exact (Dispatched.busy hc _ _ (by decide)).trans (.busy hc _ _ (by decide))
  rw [← ht]
  refine ⟨?_, hyt.env.trans hy.env, hyt.dom.trans hy.dom, hyt.ctxs.trans hy.ctxs, hyt.queues.trans hy.queues, hyt.rets.trans hy.rets,
    hyt.combs.trans hy.combs⟩
  rw [hyt.wins]
  exact mem_setWin (hy.wins ▸ hmem) (same_self w)

end Sys2Proof.Machine

/-! PROOF of O39: a tile is scored, selected and carded. -/

namespace Sys2Proof.Machine

open Sys2Proof

theorem cardTileOp_forward {u : State} {c layer tile : Nat} {w : Win} (hw : u.win? c layer tile 0 = some w) (hn : u.nextWin 7 = some w)
    (ho : u.occupied 7 = false) : cardTileOp c layer tile 0 u = u.cardForward w := by
  unfold cardTileOp
  simp [hw, hn, ho]

theorem cardTileOp_refetch {u : State} {c layer tile : Nat} {w x : Win} (hw : u.win? c layer tile 2 = some w) (hb : w.begun = true)
    (hx : u.reingested c w.step layer tile = some x) : cardTileOp c layer tile 2 u = u.cardRefetch w x := by
  obtain ⟨-, -, -, -, hstage⟩ := win?_spec hw
  unfold cardTileOp
  simp [hw, hx, hb, hstage]

/-- Settles O39, a clause for each of the Scorer, the Selector and the Carder's two tiles. -/
theorem tileWorked : Obligations.TileWorked := by
  unfold Obligations.TileWorked
  intro c layer tile s w hl hq hc
  refine ⟨fun hw hn => ?_, fun hw hn => ?_, fun hw hn ho hrise => ?_, fun x hw hb hx => ?_⟩
  · obtain ⟨t, w', hexec, hmem, hw', hlogits, henv, hregs, hrest⟩ := scoreTileDone_next hl hq hw hn
    exact ⟨t, w', hexec, hmem, hw', hlogits, fun h0 => henv h0 hc, hregs.mono workKeys_sub, hrest⟩
  · obtain ⟨t, w', hexec, hmem, hw', hsels, hstg, henv, hregs, hrest⟩ := selectTile_next hl hw hn
    exact ⟨t, w', hexec, hmem, hw', hsels, hstg, henv,
      hregs.mono (List.cons_subset_cons _ (List.cons_subset_cons _ (List.cons_subset_cons _ (List.cons_subset_cons _ workKeys_sub)))), hrest⟩
  · obtain ⟨hmem, hctx, hlayer, -, -⟩ := win?_spec hw
    have hcw : w.ctx < 8 := hctx ▸ hc
    have hlay : s.layer c layer = s.fresh.layer w.ctx w.layer := by rw [hctx, hlayer]; rfl
    have hchains : s.chains w.bank (s.layer c layer) = s.fresh.chains w.bank (s.layer c layer) := rfl
    obtain ⟨pads, log, hlog, hwin, hread, hkeep, hdrops, hdom, hctxs, hqueues, hrets, hcombs⟩ :=
      cardForward_spec (s := s.fresh) hcw hmem hrise hlay rfl
    rw [hctx] at hdrops
    exact ⟨s.fresh.cardForward w, pads, _, log, next_of_actFresh _ hl (cardTileOp_forward (u := s.fresh) hw hn ho), hwin, by rw [hchains], hlog,
      hread, hkeep, hdrops, hdom, hctxs, hqueues, hrets, hcombs⟩
  · obtain ⟨hmem, hctx, -, -, -⟩ := win?_spec hw
    obtain ⟨hwin, hrest⟩ := cardRefetch_spec (s := s.fresh) (w := w) (src := x) (hctx ▸ hc) hmem
    exact ⟨s.fresh.cardRefetch w x, next_of_actFresh _ hl (cardTileOp_refetch (u := s.fresh) hw hb hx), hwin, hrest⟩

end Sys2Proof.Machine
